-- ==== Sys2Proof/Word.lean ====
section
/-! DEFINITION. Words and tables: the fixed-width words of the module's counters and registers, the sparse
table type, and time stamps as plain data (R8 to R12). -/

namespace Sys2Proof

/-- A byte. -/
abbrev U8 := BitVec 8

/-- A counter or register of 32 bits, counting modulo 2^32. -/
abbrev U32 := BitVec 32

/-- A register of 64 bits. -/
abbrev U64 := BitVec 64

/-- A sparse table: entries by number, numbers strictly rising, none equal to what an unlisted number reads as. -/
abbrev Tab (α : Type) := List (Nat × α)

/-- A byte string, each element a byte as a number below 256. -/
abbrev Bytes := List Nat

/-- A full stamp (R12): epoch, seconds and nanoseconds of plant time. -/
structure Stamp where
  epoch : Nat := 0
  sec : Nat := 0
  ns : Nat := 0
  deriving DecidableEq, Repr

end Sys2Proof
end

