-- ==== Sys2Proof/Syntax.lean ====
section
/-! DEFINITION. Syntax: what reaches the module from outside. The records that commands carry, and Instr, the
270 commands of the operation table. The table gives its rows no bits; each command's operands are what its rule
needs from outside the module. -/

namespace Sys2Proof

/-- Where a Syben request comes from (R460, R482): the host SPI port, a client address and port, a CAN controller with
its channel, or, for a request that reaches this unit through Twin Yarn (R487), the twin's host SPI port. -/
inductive Source where
  | spi
  | twinSpi
  | udp (address port : Nat)
  | can (controller channel : Nat)
  deriving DecidableEq, Repr

/-- The framing of a Syben request (R467, R468): its source and header fields, its MAC, the value its reserved
payload bytes carry, the number of payload bytes that arrived when the payload was cut short, whether the twin has
all segments of it when it travels as a long command (R380), and over CAN its priority and format (R453), over UDP the SFP port. -/
structure Req where
  source : Source := .spi
  version : Nat := 0x10
  session : Nat := 1
  seq : Nat := 1
  shortMac : Bool := false
  mac : Bytes := []
  length : Option Nat := none
  reserved : Nat := 0
  cut : Option Nat := none
  longOk : Bool := true
  prio : Nat := 2
  xl : Bool := false
  sfp : Nat := 1
  deriving DecidableEq, Repr

/-- What a row latches from outside besides stored results (R32): the supply, the hold-up store, the string side
mean codes of the fast pairs over the row just ended with the samples their event rings record of it (R149), and the pins of
the output stages. -/
structure RowLatch where
  auxMv : Nat := 24000
  auxMa : Nat := 0
  vholdMv : Nat := 45000
  faMean : Int := 0
  fbMean : Int := 0
  faCode : Int := 0
  fbCode : Int := 0
  faCmp : Nat := 0
  fbCmp : Nat := 0
  coilMa : List Nat := []
  hsRead : Nat := 0
  lsRead : Nat := 0
  tripCont : Bool := true
  xtripRead : Bool := false
  faSamples : List Int := []
  fbSamples : List Int := []
  deriving DecidableEq, Repr

/-- What a pair's matching of a rotation cycle measures (R146): the offset (0.01 LSB) and the gain error (ppm) of the even
and of the odd SAR against the pair's precision duty, the skew (0.1 ps), and the rms of the first differences (LSB). -/
structure Matching where
  offA : Int := 0
  offB : Int := 0
  gainA : Int := 0
  gainB : Int := 0
  skew : Int := 0
  rms : Nat := 0
  deriving DecidableEq, Repr

/-- The matching of the two pairs FA and FB (R146). -/
structure PairMatching where
  fa : Matching := {}
  fb : Matching := {}
  deriving DecidableEq, Repr

/-- A host's read of a result slot (R143): the slot, and the newest corrected sample of a fast pair at that instant. -/
structure SlotRead where
  slot : Nat := 0
  code : Int := 0
  stamp : Nat := 0
  deriving DecidableEq, Repr

/-- A LOAD_STATUS (R212): its status, the count of missing blocks and their bitmap. -/
structure LoadReport where
  status : Nat := 0
  count : Nat := 0
  bitmap : Bytes := []
  deriving DecidableEq, Repr

/-- What the hardware shows at an output commit: row logic late (R26), the cores' command words differing
(R332), the own claim frame's readback good (R389), the twin's pins still driving a shared coil (R396). -/
structure CommitInp where
  late : Bool := false
  mismatch : Bool := false
  readbackOk : Bool := true
  twinDriving : Bool := false
  deriving DecidableEq, Repr

/-- What a cast-on step finds (R52, R89, R92, R100, R359, R533): milliseconds since T0, the store's capacitance and voltage,
the RCVY_N strap, the resident loader's check, the number of the first failed check of the skein (0 none), the section types
that loaded, the safety set's check, TWIN_SIDE joined to SIDE_RET, and the fault of the step's own subsystem where it fails
(0 none). -/
structure CastOnInp where
  ms : Nat := 0
  capUf : Nat := 1000
  vholdMv : Nat := 45000
  rcvyLow : Bool := false
  loaderOk : Bool := true
  skeinReason : Nat := 0
  sections : Nat := 63
  setOk : Bool := true
  sideB : Bool := false
  fault : Nat := 0
  deriving DecidableEq, Repr

/-- What a unit tells its twin of itself (R369). -/
structure Hello where
  device : Nat := 0x8100
  variant : Nat := 15
  side : Nat := 0
  serial : Nat := 0
  node : Nat := 0
  tyLow : Nat := 1
  tyHigh : Nat := 2
  stepNo : Nat := 0
  learnedFormat : Nat := 1
  setCheck : Nat := 0
  flags : Nat := 0
  pairNode : Nat := 0
  pairSeq : Nat := 0
  restRef : Stamp := {}
  digest : Bytes := []
  roundTrip : Nat := 0
  deriving DecidableEq, Repr

/-- A command record of a ROW_INPUT (R377): a write at its offset, or, with index 0, another request in a session, whose
opcode stands in place of the subindex; for an OPEN or PROOF that a non-holder passes on also its framing (R487). -/
structure CmdRecord where
  node : Nat := 0
  seq : Nat := 0
  index : Nat := 0
  sub : Nat := 0
  offset : Nat := 0
  value : Bytes := []
  via : Option Req := none
  deriving DecidableEq, Repr

/-- The words 0 and 1 of a duty's newest result, as a ROW_INPUT carries them (R141, R377). -/
structure DutyWords where
  word0 : Nat := 0
  word1 : Nat := 0
  deriving DecidableEq, Repr

/-- The insulation results that a pair's claim holder shares (R172): the resistances, the earth capacitance, the end of the
cycle, the node that measured, and the flags. -/
structure IsoShare where
  riso : Option Nat := none
  rp : Option Nat := none
  rn : Option Nat := none
  ce : Option Nat := none
  stamp : Stamp := {}
  source : Nat := 0
  flags : Nat := 0
  deriving DecidableEq, Repr

/-- What a ring driver knows of a CMU and its twin cannot measure (R196, R237). -/
structure CmuShare where
  state : Nat := 0
  lowVer : Nat := 0
  highVer : Nat := 0
  rounds : Nat := 0
  serial : Nat := 0
  turnNs : Nat := 0
  deriving DecidableEq, Repr

/-- The ring as its driver has it, for the unit that repeats (R196, R225, R237): the state's code, the count, the ends of
a break, the version of the last load, the renewals, the mode, whether the twin's measuring slot runs, and the CMUs. -/
structure RingShare where
  ring : Nat := 0
  found : Nat := 0
  breakAfter : Nat := 0xFF
  breakBefore : Nat := 0xFF
  version : Nat := 0
  renewals : Nat := 0
  chain : Bool := true
  slot : Bool := false
  cmus : List (Nat × CmuShare) := []
  deriving DecidableEq, Repr

/-- The fields of a ROW_INPUT (R377); with them the arrival of its SOF against this unit's row start, less the Twin Yarn
delay, and whether the twin is LOCKED, which R430 uses and no field of the payload names. -/
structure RowInput where
  row : Nat := 0
  claim : Nat := 0
  unitFlags : Nat := 0
  coils : Nat := 0
  trip : Bool := false
  uvr : Bool := false
  seq : Nat := 0
  pullIn : Nat := 0
  pullInStart : Nat := 0
  demand : Nat := 0
  sin : Nat := 0
  fast : Nat := 0
  reaction : Nat := 0
  urgent : List (Nat × Nat) := []
  duties : List DutyWords := []
  faMean : Int := 0
  fbMean : Int := 0
  pins : Nat := 0
  chargeIn : Int := 0
  chargeOut : Int := 0
  currentAt : Option Int := none
  cmds : List CmdRecord := []
  arrivalNs : Int := 0
  locked : Bool := false
  iso : Option IsoShare := none
  ring : Option RingShare := none
  deriving DecidableEq, Repr

/-- The fields of a DIGEST (R368, R383). -/
structure DigestMsg where
  row : Nat := 0
  input : Nat := 0
  output : Nat := 0
  state : Nat := 0
  pairSeq : Nat := 0
  deriving DecidableEq, Repr

/-- The fields of an insulation token message (R174). -/
structure TokenMsg where
  bus : Nat := 0
  sender : Nat := 0
  target : Nat := 0xFFFF
  seq : Nat := 0
  riso : Nat := 0xFFFFFFFF
  rp : Nat := 0xFFFFFFFF
  rn : Nat := 0xFFFFFFFF
  ce : Nat := 0xFFFFFFFF
  stamp : Stamp := {}
  deriving DecidableEq, Repr

/-- A CAN frame as a buffer holds it (R443): format, flags, identifier and data. -/
structure CanFrame where
  fmt : Nat := 0
  ide : Bool := false
  rtr : Bool := false
  brs : Bool := false
  esi : Bool := false
  id : Nat := 0
  sdt : Nat := 0
  sec : Bool := false
  vcid : Nat := 0
  af : Nat := 0
  data : Bytes := []
  deriving DecidableEq, Repr

/-- The fields of an event log record (R521) but for its check. -/
structure LogRec where
  number : Nat := 0
  stamp : Stamp := {}
  code : Nat := 0
  kind : Nat := 0
  severity : Nat := 0
  reaction : Nat := 0
  flags : Nat := 0
  count : Nat := 0
  row : Nat := 0
  detail : Nat := 0
  deriving DecidableEq, Repr

/-- The fields of an IDENT frame (R200), and whether it arrived at port B. -/
structure IdentMsg where
  source : Nat := 0xFE
  portB : Bool := false
  deviceType : Nat := 0x1624
  image : Bool := false
  serial : Nat := 0
  lowVer : Nat := 1
  highVer : Nat := 2
  turnNs : Nat := 0
  digest : Bytes := []
  deriving DecidableEq, Repr

/-- The fields of a DATA frame (R200, R201), with the type its header names, and whether the frame arrived intact (R227). -/
structure CellData where
  kind : Nat := 0x0A
  cmu : Nat := 1
  pattern : Nat := 0
  intact : Bool := true
  status : Nat := 0
  populated : Nat := 24
  stamp : Nat := 0
  voltages : List Nat := []
  temps : List (Option Int) := []
  die : Option Int := some 2500
  bleed : Nat := 0
  link : Nat := 3
  ov : Nat := 0
  uv : Nat := 0
  crc : Nat := 0
  deriving DecidableEq, Repr

/-- What a unit that repeats copies and forwards (R196, R202): the frames of the CMUs and the urgent triples. -/
inductive RingRx where
  | data (m : CellData)
  | ident (m : IdentMsg)
  | echo (cmu : Nat)
  | ack (cmu status : Nat)
  | loadStatus (cmu status count : Nat) (bitmap : Bytes)
  | hold (cmu : Nat)
  | stepData (cmu ident group first : Nat) (samples : List Nat)
  | urgent (addr reason : Nat)
  | broken (addr : Nat)
  deriving DecidableEq, Repr

/-- A PTP message (R417): its kind (0 Sync, 1 Delay_Req, 2 Pdelay_Req, 3 Pdelay_Resp, 8 Follow_Up, 9 Delay_Resp,
10 Pdelay_Resp_Follow_Up, 11 Announce), header fields, correction in 2^-16 ns, the timestamp of its body in ns, for a
peer delay response the second timestamp of its follow-up, the requesting port identity, and an Announce's fields;
`raw` is the Ethernet frame that carries it, `vlan` its IEEE 802.1Q tag. -/
structure PtpMsg where
  kind : Nat := 0
  port : Nat := 1
  version : Nat := 2
  minor : Nat := 1
  udp : Bool := false
  domain : Nat := 0
  source : Nat := 1
  sourcePort : Nat := 1
  seq : Nat := 0
  twoStep : Bool := true
  correction : Int := 0
  time : Int := 0
  time2 : Int := 0
  target : Nat := 0
  targetPort : Nat := 0
  priority1 : Nat := 128
  clockClass : Nat := 248
  accuracy : Nat := 254
  variance : Nat := 65535
  priority2 : Nat := 128
  gm : Nat := 0
  steps : Nat := 0
  raw : Bytes := []
  vlan : Nat := 0
  deriving DecidableEq, Repr

/-- A command that travels between the units in full (R380, R478, R487): a write too long for the command area, the
holder's challenge to an OPEN and its acceptance of a PROOF, or its refusal of one (`own` where the request came in at the
receiving unit), a KEY_SET, a whole key store. -/
inductive LongCommand where
  | write (c : CmdRecord)
  | challenge (own : Bool) (r : Req) (role options client version : Nat) (nc nm : Bytes)
  | acceptance (own : Bool) (r : Req) (nc : Bytes) (num : Nat)
  | declined (own : Bool) (r : Req) (opcode status : Nat)
  | keySet (client seq slot : Nat) (salt key : Bytes)
  | keyStore (slots : List (Bytes × Bytes))
  deriving DecidableEq, Repr

/-- A session as a snapshot carries it (R401, R487). -/
structure SessionItem where
  num : Nat := 0
  role : Nat := 0
  source : Source := .spi
  client : Nat := 0
  events : Bool := false
  version : Nat := 0x10
  high : Nat := 0
  c2m : Bytes := []
  m2c : Bytes := []
  prk : Bytes := []
  deriving DecidableEq, Repr

/-- A join snapshot (R401): its pattern, the pair sequence with its origin, SequenceState, ConnectState, PairReaction, the
lease entries and the sessions, and the contexts as learned-state records. -/
structure Snapshot where
  ps : Nat := 0
  pairSeq : Nat := 0
  seq : Nat := 0
  connect : Nat := 0
  reaction : Nat := 0
  leases : List Bytes := []
  sessions : List SessionItem := []
  records : List (Nat × List Int) := []
  deriving DecidableEq, Repr

/-- What a PATTERN_DATA item carries once it is assembled (R368, R379, R380, R273, R401), by kind: 1 a DATA frame, 2 a
STEP_DATA frame, 3 a long command, 4 learned-state records with their content as numbers, 5 a snapshot. -/
inductive PatternItem where
  | dataFrame (m : CellData)
  | stepData (cmu ident group first : Nat) (samples : List Nat)
  | command (c : LongCommand)
  | records (rs : List (Nat × List Int))
  | snapshot (m : Snapshot)
  deriving DecidableEq, Repr

/-- A Twin Yarn frame or claim frame that this unit sends (R368, R389). -/
inductive TwinFrame where
  | hello (h : Hello)
  | lock (pl source seq : Nat)
  | rowInput (m : RowInput)
  | cellIndex (crcs : List Nat)
  | digest (m : DigestMsg)
  | patternData (item : PatternItem) (index total : Nat) (data : Bytes)
  | bye (reason : Nat)
  | join (code ps : Nat)
  | claim (word row : Nat)
  deriving DecidableEq, Repr

/-- A received telemetry message (R460, R493): the port, the multicast group, the Flags and PairSequence of its header,
payload and MAC. -/
structure TelemetryMsg where
  port : Nat := 1
  group : Nat := 0
  flags : Nat := 0x10
  pairSeq : Nat := 0
  payload : Bytes := []
  mac : Bytes := []
  deriving DecidableEq, Repr

/-- The commands: one constructor for each row of spec/opcode_table.json: the writes that wait for their row
(R508) first, each part in the table's order. -/
inductive Instr where
  /-- R44. A write to 0x1A01 equal to the reaction state lowers the state to the most severe active fault. -/
  | faultAcknowledge (r : Req) (value : Nat)
  /-- R111. A write of 0xA5 to SoftwareReset resets the module, after a hand-over if it holds the claim. -/
  | softwareReset (r : Req) (value : Nat)
  /-- R112. A write of 1 to BindOff is checked against the bind-off conditions and starts the bind-off sequence. -/
  | bindOff (r : Req) (value : Nat) (wakeLow twinAccepts : Bool)
  /-- R149. A write of 1 to RingArm re-arms the event ring. -/
  | ringArm (r : Req) (pair : Nat)
  /-- R149. A write of 2 to RingArm triggers the event ring. -/
  | ringSoftwareTrigger (r : Req) (pair : Nat) (ring : List Int)
  /-- R136. A write to 0x2387 fires the chosen trigger lines at the next row start. -/
  | softwareTrigger (r : Req) (lines : Nat)
  /-- R180. A write to AuxCoilCommand energises or drops AUX_COIL. -/
  | auxCoilCommand (r : Req) (value : Nat)
  /-- R231. A write to StepRequest requests a step capture at T_s, subject to the refusal rules. -/
  | stepRequest (r : Req) (ts : Stamp)
  /-- R254. A write to FabricStop stops or starts the fabric, and the model is checked when it starts. -/
  | fabricStop (r : Req) (value : Nat)
  /-- R272. A write of 0x5C gives every group the R250 start and rewrites the learned-state records. -/
  | learnedStateReset (r : Req)
  /-- R279. A write to BalanceEnable enables balancing, or commands every group to 0. -/
  | balanceEnable (r : Req) (value : Nat)
  /-- R316. A LeaseWrite record grants, renews or ends a lease after the role, sequence and range checks. -/
  | leaseWrite (r : Req) (value : Bytes)
  /-- R347. A write to SafetyInputReset clears the discrepancy or restart block when its conditions are met. -/
  | safetyInputReset (r : Req) (bits : Nat)
  /-- R358. A SafetySetConfirm equal to the computed check makes the shadow the active set. -/
  | safetySetConfirm (r : Req) (value : Nat) (twinAgrees : Bool)
  /-- R356. SafetySetRevert discards the shadow. -/
  | safetySetRevert (r : Req)
  /-- R360. ProofTest = 1 runs the automated proof test steps. -/
  | proofTestAutomated (r : Req) (failed : Option Nat)
  /-- R361. ProofTest = 2 records the manual part after the automated part has passed. -/
  | proofTestRecord (r : Req)
  /-- R361. ProofTest = 3 commands a test TRIP reaction. -/
  | proofTestTrip (r : Req)
  /-- R361. ProofTest = 4 drops UVR_HOLD for test. -/
  | proofTestUvrDrop (r : Req)
  /-- R402. A write of 1 to RejoinRequest clears JoinFailures and starts a join. -/
  | rejoinRequest (r : Req) (value : Nat)
  /-- R394. A write of 1 to HandOverRequest yields the claim to a healthy twin. -/
  | handOverRequest (r : Req) (value : Nat)
  /-- R425. A write of 1 to StepAccept applies the pending step. -/
  | stepAccept (r : Req) (value : Nat)
  /-- R421. A write to 0x3087 requests a time step through the jump guard. -/
  | timeStepRequest (r : Req) (offset : Int)
  /-- R409. A write to the Increment object sets the increment under a host servo. -/
  | incrementWrite (r : Req) (value : Nat)
  /-- R450. A write of 1 to RecoverRequest starts bus-off recovery. -/
  | recoverRequest (r : Req) (ctl value : Nat)
  /-- R436. A write to ControllerMode sets the controller's mode. -/
  | controllerMode (r : Req) (ctl value : Nat)
  /-- R506. A Syben READ returns an object's bytes from one row latch. -/
  | read (r : Req) (index sub offset length : Nat)
  /-- R506. A Syben READ_LIST returns up to 64 objects from one latch. -/
  | readList (r : Req) (count : Nat) (items : List (Nat × Nat))
  /-- R507. A Syben WRITE to an object without its own row is checked by access class and staged, applied or refused. -/
  | write (r : Req) (index sub offset : Nat) (value : Bytes)
  /-- R499. A write of 1 to HostEngineClaim claims CE6 or CE7 for the host. -/
  | hostEngineClaim (r : Req) (engine : Nat)
  /-- R499. A write of 0 to HostEngineClaim releases and clears the engine. -/
  | hostEngineRelease (r : Req) (engine : Nat)
  /-- R549. A write of 0x5A to RecoveryRequest resets the module into ROM recovery. -/
  | recoveryRequest (r : Req) (value : Nat)
  /-- R32. At each 100 µs row start the module latches its inputs: converter results, filtered safety inputs, comparator states, urgent symbols and the twin's claim word. -/
  | rowStart (l : RowLatch)
  /-- R21. The 10 µs replica-chain window of a row ends, and the speed index is computed and reported. -/
  | speedIndexWindowEnd (completions reference : Nat)
  /-- R377. At 25 µs the agreed input set is formed from both ROW_INPUTs, or from this unit's own inputs if the twin's is absent. -/
  | inputSetFixed
  /-- R32. At 55 µs the output stages take the new commands and the claim word is driven. -/
  | outputCommit (c : CommitInp)
  /-- R384. At 70 µs the twin's DIGEST must be complete; a missing or differing digest counts a dropped stitch. -/
  | digestDeadline
  /-- R34. At each 10 ms pattern start, CMU and converter samples are taken and the pattern-level values are refreshed. -/
  | patternStart
  /-- R218. At 1.0 ms into the pattern, the DATA frames that have arrived are accepted and group and sensor ages are updated. -/
  | cellLinkCutoff
  /-- R245. A lane completes a group context update, the results are committed and the next context is taken. -/
  | groupUpdateComplete (group : Nat)
  /-- R253. At 6.8 ms, groups that have not started are skipped and 0x0901 is raised. -/
  | fabricSkipDeadline (nothing : Unit)
  /-- R253. At 6.9 ms, groups still running are abandoned and the string tail starts. -/
  | fabricAbandonDeadline
  /-- R307. From 7.0 ms the engine computes the group and string limits and applies the caps, factors and zero rules. -/
  | envelopeCompute
  /-- R312. At 8.5 ms the envelope is published and sent on its CAN and Ethernet paths. -/
  | envelopePublish
  /-- R42. The most severe pending fault's handler starts, preempting a less severe handler. -/
  | faultHandlerStart
  /-- R43. A handler completes its reaction and logging, the entry leaves the queue and a kind 2 record is written. -/
  | faultHandlerComplete
  /-- R27. The control processor cores disagree, 0x0101 is raised and the control processor restarts. -/
  | cpCoreMismatch
  /-- R30. The reference outside 150 to 250 MHz for 2 µs stops the rows. -/
  | referenceOutOfLimits (khz : Nat)
  /-- R30. With no commit for 250 µs, the hardware watchdog de-energises every coil and drops the claim. -/
  | rowWatchdogExpiry
  /-- R30. After the reference has been within limits for 10 ms, rows restart with reset kind 0x07. -/
  | referenceRecovery
  /-- R87. AUX_24V rising above 17.5 V starts a power-on cast-on. -/
  | auxPowerRise (offLong : Bool)
  /-- R88. The start slot wait of slot × 20 ms ends and cast-on step 1 begins. -/
  | startSlotExpiry
  /-- R89. A cast-on step ends and the next step begins. -/
  | castOnStepEnd (step : Nat) (c : CastOnInp)
  /-- R92. If the store is not at 44.0 V after 150 ms, 0x0202 is raised and cast-on continues. -/
  | holdupChargeTimeout (capUf : Nat)
  /-- R98. 10 min after READY the start ends, and later pauses no longer count toward the ten. -/
  | startPeriodEnd
  /-- R96. AUX_24V below 19.0 V begins a sag pause and raises 0x0204. -/
  | sagPauseBegin
  /-- R97. AUX_24V rising above 20.5 V starts the 50 ms resume timer. -/
  | auxAboveResumeThreshold
  /-- R97. The resume timer completes and the sag pause ends. -/
  | sagPauseEnd
  /-- R93. The next queued pull-in starts once the spacing has passed and no sag pause holds it. -/
  | pullInStart
  /-- R65. The 100 ms pull-in phase ends and the coil goes to economised hold. -/
  | pullInEnd
  /-- R102. AUX_24V below 16.0 V hands over to the store, and the safety island commits safe commands. -/
  | powerFailEntry
  /-- R102. The store at 22.0 V drives claim health 0 and asserts reset. -/
  | storeLow
  /-- R103. AUX_24V recovering before store-low leaves POWER_FAIL without a reset and raises 0x0206. -/
  | powerFailRideThrough
  /-- R62. The input protection disconnects the module above its threshold. -/
  | overvoltageDisconnect
  /-- R62. The input falling below 35.0 V restarts the module by cast-on with kind 0x02. -/
  | overvoltageRestart (offLong : Bool)
  /-- R105. A level change on RESET_N starts or restarts its 10 ms recognition time. -/
  | resetNChange (low : Bool)
  /-- R105. RESET_N low for 10 ms is recognised as an assertion, and a hand-over starts if this unit holds the claim. -/
  | resetNAssertRecognised
  /-- R106. The module enters RESET, no later than 3 rows after recognition. -/
  | resetEntry
  /-- R107. RESET_N high for 10 ms starts a cast-on with kind 0x03 and no slot wait. -/
  | resetNReleaseRecognised
  /-- R108. RESET_N still low 2 s after recognition leaves RESET, raises 0x0211 and casts on. -/
  | stuckReset
  /-- R108. RESET_N high for 100 ms after a stuck reset re-arms the input. -/
  | resetNRearm
  /-- R114. A CMU without a HOLD acknowledgement within 100 ms aborts the bind-off with reason 7. -/
  | cmuHoldTimeout
  /-- R113. The hold relay is released and the unit enters transport hold. -/
  | holdRelayRelease
  /-- R117. HV_BUS ≥ 100 V for 50 ms in transport hold sets the hold relay. -/
  | busWake (aux offLong : Bool)
  /-- R117. WAKE_N asserted for 50 ms with AUX_24V present wakes the module from transport hold. -/
  | wakeNWake (offLong : Bool)
  /-- R117. AUX_24V applied after a bus wake starts a cast-on with kind 0x06. -/
  | auxAppliedAfterWake (offLong : Bool)
  /-- R125. A stamped main-stream converter result enters the result store. -/
  | resultDelivered (duty : Nat) (levels : List (Nat × Int)) (stamp input : Nat)
  /-- R141. A duty at overrange without a break for more than 10 ms raises 0x0306. -/
  | dutyOverrangeTimeout (duty : Nat)
  /-- R158. D1 without a valid result for 1 ms makes the Hall channel invalid and raises 0x0504. -/
  | hallNoResultTimeout
  /-- R165. A blind gap lasting 100 ms raises 0x0506. -/
  | blindGapTimeout
  /-- R136. A capture decimator's trigger places a window centre at the trigger instant plus the delay. -/
  | captureTrigger (duty : Nat)
  /-- R140. A capture result goes to its capture bank slot with its flags. -/
  | captureResult (duty : Nat) (levels : List (Nat × Int)) (stamp : Nat)
  /-- R127. A spare needle rotation step begins and the new spare needle starts its calibration passes. -/
  | rotationStepBoundary (pairs : PairMatching)
  /-- R129. A 10 ms calibration measurement completes, and each completed pass is checked against the limits. -/
  | calibrationMeasurementDone (value : Int)
  /-- R131. The spare needle is connected to the target duty's input before Tsw. -/
  | handOverPhaseBegin
  /-- R131. At Tsw the mean difference is checked and the duty switches to the incoming slice, or is kept. -/
  | handOverSwitch (incoming : List (Nat × Int))
  /-- R147. 16 consecutive fast samples outside the window signal an event straight to the safety island. -/
  | fastPairEvent (pair : Nat) (samples ring : List Int)
  /-- R150. A SAR that repeats one code for 4,096 samples raises 0x0405. -/
  | sarStuckDetect (pair : Nat) (stuck : Bool)
  /-- R166. Every 1 s the charge totals and ChargeStamp are written to the journal. -/
  | chargeJournalWrite
  /-- R168. An insulation state settles, and at the end of a cycle Rp, Rn and Riso are solved and checked. -/
  | isoStateEnd (vP vN : Int) (ce : Nat) (pe : Int)
  /-- R168. A state that reaches StateMax without settling voids the cycle. -/
  | isoStateTimeout
  /-- R175. NEED or HOLD is sent every 1 s. -/
  | tokenPeriodicSend
  /-- R175. A NEED message from another member is received. -/
  | tokenNeed (m : TokenMsg)
  /-- R175. A HOLD message is received, and the higher node ID disconnects if two hold the token. -/
  | tokenHold (m : TokenMsg)
  /-- R175. A PASS is received, and the receiver answers ACCEPT and starts the foreign-injection check. -/
  | tokenPass (m : TokenMsg)
  /-- R175. An ACCEPT is received, and the passer disconnects its network. -/
  | tokenAccept (m : TokenMsg)
  /-- R177. A RESULT from the holder is taken as this member's insulation result. -/
  | tokenResult (m : TokenMsg)
  /-- R175. A CLAIM message is received. -/
  | tokenClaim (m : TokenMsg)
  /-- R175. A RELEASE message is received. -/
  | tokenRelease (m : TokenMsg)
  /-- R175. After TokenRotate, the holder passes the token to the next member that needs it. -/
  | tokenRotateExpiry
  /-- R175. With no ACCEPT within 1 s, the passer keeps the token. -/
  | tokenAcceptTimeout
  /-- R175. With no HOLD for 3 s plus the node delay, the member sends CLAIM. -/
  | tokenHoldSilence
  /-- R175. With no lower claim within 200 ms, the token is taken and 0x0607 is raised. -/
  | tokenClaimWindowEnd
  /-- R176. After 2 s of watching V_P, the member injects or raises 0x0605. -/
  | foreignInjectionCheckEnd (vpMove vstrMove : Nat)
  /-- R176. The foreign-injection check repeats after 60 s. -/
  | foreignInjectionRetry
  /-- R177. No bus result for TokenStarveTime raises 0x0604. -/
  | tokenStarveTimeout
  /-- R190. 150 ms after the PRECHG pull-in start, the MAIN_NEG connect weld test is judged. -/
  | weldTestWindowEnd
  /-- R179. |BUS_N| not within ContactVoltageLimit 150 ms after the MAIN_NEG pull-in raises 0x070A. -/
  | mainNegClosureTimeout
  /-- R184. A precharge not done within its time limit raises 0x0702. -/
  | prechargeTimeLimit
  /-- R190. At ContactOpenTime + 5 ms after the opening, the current is tested for welded contacts. -/
  | openingWeldTest
  /-- R181. At OpenStagger, MAIN_POS is commanded off. -/
  | mainPosOpenStagger
  /-- R205. The wake tone returns on the other port, or 85 ms pass, and RESET follows. -/
  | wakeToneEnd
  /-- R206. An IDENT frame from a CMU is received during enumeration or after START. -/
  | identFrame (m : IdentMsg)
  /-- R205. No IDENT within 200 µs ends enumeration from that port. -/
  | enumTimeout (returned : Bool)
  /-- R209. An ECHO response gives a round trip for the delay measurement. -/
  | echo (cmu : Nat) (portB : Bool) (rtt : Nat)
  /-- R205. A CMU's ACK to CONFIG is received. -/
  | ack (cmu status : Nat)
  /-- R218. A CMU's DATA frame is received, then stored, used or discarded by its arrival time and stamp. -/
  | dataFrame (m : CellData)
  /-- R213. A CMU's LOAD_STATUS leads to a resend round, START or a load failure. -/
  | cmuLoadStatus (cmu : Nat) (m : LoadReport)
  /-- R235. A CMU's response to HOLD is received during bind-off. -/
  | holdResponse (cmu : Nat)
  /-- R233. A CMU's STEP_DATA frame for one group is received. -/
  | stepData (cmu ident group first : Nat) (samples : List Nat)
  /-- R221. An URGENT triple is received and latched for the safety island at the next row start. -/
  | urgent (addr reason : Nat)
  /-- R223. A BREAK triple reports a break, and MODE chain follows at the next row start. -/
  | breakTriple (addr lastA firstB : Nat)
  /-- R223. The module's port B losing lock in closed mode is detected as a ring break. -/
  | portLockLoss (lastA firstB : Nat)
  /-- R227. More than 2,000 ns between frame symbols discards the frame whole. -/
  | symbolGapTimeout
  /-- R205. The cast-on ring procedure not complete within 500 ms raises 0x080F. -/
  | ringStartTimeout
  /-- R229. A renewal not complete within 400 ms raises 0x080F. -/
  | renewalTimeout
  /-- R229. The renewal is started again 1 s after a timeout. -/
  | renewalRetry
  /-- R228. A group at age 14 or more for CellDataLostOpenDelay raises 0x0807. -/
  | cellDataLostOpen
  /-- R236. A write of 1 to RenewRing starts a renewal at the next pattern start. -/
  | renewRing (r : Req)
  /-- R231. At each 1 ms grid instant the local detector compares the D0 means and may request a capture. -/
  | stepLocalDetect
  /-- R256. At rest times 0.25 D, 0.625 D and D, the mean voltages V1, V2 and V3 are taken. -/
  | restSampleTime (group : Nat)
  /-- R261. Background learning completes and updates Cg and σC, or rejects the event. -/
  | capacityLearningEvent (group : Nat)
  /-- R270. Every 60 s the SOC and STR records are written. -/
  | learnedStateWrite
  /-- R270. Every 10 min the IMP records are written if any value changed. -/
  | impRecordWrite
  /-- R295. The failed sensor valid for RecoverTime ends the throttle freeze. -/
  | throttleRecoverExpiry
  /-- R287. The domain S converter samples TS1 to TS8 and the board sensor every millisecond. -/
  | localSensorSample (ohms : List Nat) (board : Option Int)
  /-- R288. The safety island comparator samples the junction temperature every 1 ms. -/
  | junctionSample (temp : Int)
  /-- R297. A PWM output turns itself off in overcurrent and raises 0x0B09. -/
  | pwmOvercurrentOff (output : Nat)
  /-- R297. 10 s after an overcurrent turn-off the output is enabled again, unless it was the third. -/
  | pwmRestart (output : Nat)
  /-- R316. A lease whose Ttl counted down in rows runs out lapses. -/
  | leaseExpiry
  /-- R324. The ramp-down wait ends at the third low-current row or at 2 s, and the opening or a breaker trip follows. -/
  | rampDownWaitEnd
  /-- R314. A Syben acknowledge from EnvelopeEthTarget marks the envelope delivered on Ethernet. -/
  | envelopeAck (node afterMs : Nat)
  /-- R326. A granted rest window starts at RestStart. -/
  | restWindowStart
  /-- R328. RestWindowLength passes and the rest window ends. -/
  | restWindowEnd
  /-- R326. After RestRetryInterval a refused rest request returns to requested. -/
  | restRetryExpiry
  /-- R343. Every 0.1 ms each safety input channel is sampled and filtered. -/
  | safetyInputSample (levels : Nat)
  /-- R73. A test-pulse source goes low for 200 µs at its offset in the 100 ms cycle. -/
  | testPulseStart
  /-- R346. At each 1 ms grid instant the channel disagreement is counted and latched after T instants. -/
  | discrepancyGridTick
  /-- R340. Charging above ChargeBlockCurrent for ChargeBlockTime with the window closed makes SF7 demand OPEN. -/
  | chargeBlockTimeout
  /-- R352. An assertion of XTRIP_IN holds every coil switch of the receiving unit off. -/
  | xtripInAssert
  /-- R352. The release of XTRIP_IN ends the COILS hold. -/
  | xtripInRelease
  /-- R352. With no matching sender event 3 rows after XTRIP_IN, the receiver takes OPEN. -/
  | xtripConfirmTimeout
  /-- R351. XTRIP_OUT is released 20 ms after the last fast event. -/
  | xtripOutHoldEnd
  /-- R349. An energised switch is turned off for 200 µs in its slot of the plant second. -/
  | offPulseTest
  /-- R349. At the end of the off-pulse the switch node readback is judged. -/
  | offPulseEnd (changed : Bool)
  /-- R349. Every 10 s each TRIP_OUT switch is closed alone for 100 µs and proven. -/
  | tripSwitchTest (switch : Nat) (good : Bool)
  /-- R349. The trip test current absent for 1 s raises 0x0E06. -/
  | tripContinuityTimeout
  /-- R67. A TRIP_OUT pulse ends after 50 ms. -/
  | tripPulseEnd
  /-- R353. 1 s after a pulse, another starts if current still flowed 200 ms after it, up to three per demand. -/
  | tripPulseRepeat (faMa : Int)
  /-- R65. A coil switch above 4.5 A turns off within 10 µs and raises 0x0E04. -/
  | coilShortCircuit (coil : Nat)
  /-- R356. A SAFE object write goes to the shadow set, clears SetConfirmed and locks the coils off. -/
  | safeObjectWrite (r : Req) (index sub : Nat) (value : Bytes) (gateOk : Bool)
  /-- R360. ProofTestDue reaching 0 raises 0x0D0E. -/
  | proofTestDueExpiry
  /-- R370. An unpaired unit sends a Twin Yarn HELLO every 1 ms. -/
  | helloSend
  /-- R370. A Twin Yarn HELLO from the twin is received, and pairing completes or is refused. -/
  | twinHello (h : Hello)
  /-- R366. With no HELLO by PairWait, the unit becomes SOLO or ALONE. -/
  | pairWaitExpiry
  /-- R373. A LOCK frame fixes P_L and the learned-state source, and lockstep starts. -/
  | lockFrame (pl source seq : Nat)
  /-- R377. The twin's ROW_INPUT frame is received. -/
  | rowInput (m : RowInput)
  /-- R379. The twin's CELL_INDEX is received and each CMU's cell data is agreed. -/
  | cellIndex (crcs : List Nat)
  /-- R383. The twin's DIGEST frame is received and compared. -/
  | digest (m : DigestMsg)
  /-- R379. A PATTERN_DATA segment is received and assembled. -/
  | patternData (kind index total bytes : Nat) (item : PatternItem)
  /-- R368. A BYE frame announces that the twin leaves. -/
  | bye (reason : Nat)
  /-- R401. JOIN code 1 requests a join, and the holder answers with P_s. -/
  | joinRequest
  /-- R401. JOIN code 2 announces the snapshot from P_s. -/
  | joinSnapshotBegins (ps : Nat)
  /-- R401. JOIN code 3 makes the joining unit a MEMBER from the next pattern. -/
  | joinJoined
  /-- R402. A join not caught up within 64 patterns fails. -/
  | joinCatchUpTimeout
  /-- R402. A failed join starts again 1 s later. -/
  | joinRetry
  /-- R389. A claim frame is received on the claim pair and checked. -/
  | claimFrame (word row : Nat) (crcOk : Bool)
  /-- R394. If the twin has not taken the claim 3 rows after the yield, the unit drives class 3 again. -/
  | yieldTimeout
  /-- R422. A PTP Sync is received and the servo and jump guard act on the offset. -/
  | syncFrame (m : PtpMsg) (bin : Nat)
  /-- R422. A PTP Follow_Up completes a two-step Sync measurement. -/
  | followUp (m : PtpMsg)
  /-- R418. A PTP Announce is received for the best master clock algorithm. -/
  | announce (m : PtpMsg)
  /-- R417. A PTP Delay_Req is received by a master. -/
  | delayReq (m : PtpMsg) (bin : Nat)
  /-- R417. A PTP Delay_Resp gives the path delay. -/
  | delayResp (m : PtpMsg)
  /-- R417. A PTP Pdelay_Req is received on an SFP port. -/
  | pdelayReq (m : PtpMsg) (bin after : Nat)
  /-- R417. A PTP Pdelay_Resp gives the peer delay. -/
  | pdelayResp (m : PtpMsg) (bin : Nat)
  /-- R419. A PTP event message is forwarded between the SFP ports with its residence time added. -/
  | transparentClockForward (m : PtpMsg) (residence : Nat)
  /-- R418. No Announce for AnnounceReceiptTimeout intervals declares the grandmaster lost. -/
  | announceReceiptTimeout
  /-- R418. Three sync intervals without a Sync declare the grandmaster lost. -/
  | syncReceiptTimeout
  /-- R418. A master sends Sync and Follow_Up every sync interval. -/
  | syncIntervalSend (bin1 bin2 : Nat)
  /-- R418. A master sends Announce every announce interval. -/
  | announceIntervalSend
  /-- R414. A host write of INCREMENT_HI commits both increment words, or is refused. -/
  | incrementHi (word : Nat)
  /-- R414. A read of TIME_SHORT takes a consistent snapshot of plant time into the shadows. -/
  | timeShort
  /-- R429. A read of QENTRY pops the oldest stamp queue entry and copies its stamp to QSTAMP. -/
  | qentry (port : Nat)
  /-- R429. A write of 1 to QSTATUS bit 8 clears the overflow flag. -/
  | qstatus (port word : Nat)
  /-- R443. A valid CAN frame is filtered and stored in the ring or in a dedicated buffer. -/
  | canFrameReceive (ctl : Nat) (frame : CanFrame) (sof : Nat)
  /-- R472. More than 50 ms between segments discards the reassembly. -/
  | canReassemblyTimeout (ctl channel node : Nat)
  /-- R456. No valid fire frame for FireTimeout raises 0x1206. -/
  | fireTimeout
  /-- R456. An alarm lease is renewed by the module at 600 s. -/
  | fireLeaseRenew
  /-- R447. When the bus becomes idle, the pending buffer that would win arbitration is selected. -/
  | canTxSelect (ctl : Nat)
  /-- R448. A transmitted frame completes and its buffer finishes as DONE. -/
  | canTxComplete (ctl : Nat)
  /-- R447. A frame that loses arbitration returns to PENDING, or finishes CANCELLED if a cancel is pending. -/
  | canArbitrationLost (ctl : Nat)
  /-- R449. A bus error updates the error counters and error state. -/
  | canBusError (ctl code add : Nat) (transmitting : Bool)
  /-- R450. After 128 occurrences of 11 recessive bits, the controller leaves bus-off. -/
  | busOffRecoveryComplete (ctl : Nat)
  /-- R451. A TXD dominant timeout or a transceiver supply failure raises 0x1205. -/
  | canTransceiverFault (ctl : Nat)
  /-- R444. A host acknowledge clears ND of a receive buffer if its UPD is unchanged. -/
  | can2Rxack (buffer upd : Nat)
  /-- R446. A TXCMD request makes a transmit buffer PENDING. -/
  | canTxRequest (buffer : Nat)
  /-- R448. A TXCMD cancel removes a frame before its SOF, or marks a late cancel. -/
  | canTxCancel (buffer : Nat)
  /-- R446. A TXCMD replace copies the staging slot into the buffer and makes it PENDING. -/
  | canTxReplace (buffer : Nat)
  /-- R452. A write of 1 returns a finished transmit buffer to FREE. -/
  | can2Txfin (buffers : Nat)
  /-- R452. A write of 1 clears CAN2 alert bits. -/
  | can2Alert (bits : Nat)
  /-- R461. The module answers ARP for its address and detects address conflicts. -/
  | arpRequest (port mac sender target : Nat)
  /-- R461. The module answers an ICMP echo request. -/
  | icmpEcho (port sender target ident seq : Nat) (data : Bytes)
  /-- R461. An IPv4 reassembly not complete within 500 ms is discarded. -/
  | ipReassemblyTimeout (source ident : Nat)
  /-- R488. A Syben HELLO returns the device identity. -/
  | hello (r : Req)
  /-- R479. A Syben OPEN starts a session and returns the salt and the module nonce. -/
  | openRequest (r : Req) (role options client version : Nat) (nc : Bytes)
  /-- R480. A Syben PROOF is checked, and the session is allocated and its keys derived. -/
  | proof (r : Req) (nc proof : Bytes)
  /-- R484. A Syben CLOSE closes the session. -/
  | closeRequest (r : Req)
  /-- R488. A Syben KEEPALIVE restarts the session's idle timer. -/
  | keepalive (r : Req)
  /-- R511. A Syben COMMIT schedules the session's staged writes for the next pattern boundary. -/
  | commit (r : Req)
  /-- R511. At the pattern boundary a commit is checked for cross-field rules and pool room, then applied or refused. -/
  | commitApply
  /-- R510. A Syben DISCARD empties the session's shadow. -/
  | discard (r : Req)
  /-- R523. A Syben LOG_READ returns event log records. -/
  | logRead (r : Req) (first count : Nat)
  /-- R494. A received telemetry message is checked and used as a token message or a step announcement. -/
  | telemetry (m : TelemetryMsg)
  /-- R231. A Syben STEP_ANNOUNCE requests a step capture at T_s. -/
  | stepAnnounce (r : Req) (ts : Stamp)
  /-- R490. A RAW_SEND sends a host PTP frame on a port and queues its transmit stamp. -/
  | rawSend (r : Req) (port : Nat) (frame : Bytes) (bin : Nat)
  /-- R477. A KEY_SET unwraps and stores a new key for a slot. -/
  | keySet (r : Req) (slot : Nat) (salt wrapped : Bytes)
  /-- R536. A Syben LOAD_BEGIN checks the header and start conditions and hands over to the loader. -/
  | loadBegin (r : Req) (total : Nat) (header : Bytes)
  /-- R538. A Syben LOAD_DATA supplies the next chunk of the skein. -/
  | loadData (r : Req) (offset : Nat) (chunk : Bytes)
  /-- R538. A chunk is programmed and read back, and its response leaves. -/
  | loadDataProgrammed (good : Bool)
  /-- R539. A Syben LOAD_END verifies the sections, writes the header and resets. -/
  | loadEnd (r : Req)
  /-- R540. LoadIdleTimeout without valid data aborts the load. -/
  | loadIdleTimeout
  /-- R484. A session idle for SessionIdleTimeout closes. -/
  | sessionIdleTimeout (session : Nat)
  /-- R481. A pending open expires after 2 s. -/
  | pendingOpenExpiry
  /-- R486. A blocked source is released after 60 s. -/
  | lockoutExpiry (source : Option Source)
  /-- R465. A write to MB_POST hands mailbox slots to the module. -/
  | mbPost (bits : Nat)
  /-- R464. A write of 1 to MB_DONE clears done bits. -/
  | mbDone (bits : Nat)
  /-- R465. A write of 0x0000_A55A to MB_RESET returns every slot to the host. -/
  | mbReset (value : Nat)
  /-- R464. A write of 1 to MB_ALERT bit 2 clears the raw frame drop flag. -/
  | mbAlert (bits : Nat)
  /-- R463. A host write to a window register without its own row takes effect when HSPI_CS_N rises. -/
  | hostWindowWrite (offset word : Nat)
  /-- R144. A read of a result slot's word 0 copies word 1 into its shadow. -/
  | converterWord0Read (r : SlotRead)
  /-- R496. A write of 1 to CE_CTRL bit 31 loads RUNNING with INIT. -/
  | ceCtrlLoadInit (engine word : Nat)
  /-- R496. A write of the high word of POLY, INIT, XOROUT or RUNNING commits both words. -/
  | ceHighWordCommit (engine offset word : Nat)
  /-- R496. A read of the low word of RUNNING or RESULT copies the high word into a shadow. -/
  | ceLowWordRead (engine offset : Nat)
  /-- R496. A write to DATA8 feeds one byte into the check engine. -/
  | data8 (engine byte : Nat)
  /-- R496. A write to DATA32 feeds four bytes into the check engine. -/
  | data32 (engine word : Nat)
  /-- R498. A write to ALIVE checks the counter and gives OK, repeated, skipped or out of sequence. -/
  | alive (engine word : Nat)
  /-- R496. A write of 1 to ALIVE_CFG bit 31 makes the checker forget its last counter. -/
  | aliveCfgForget (engine word : Nat)
  /-- R81. An inserted SFP is identified and enabled, or held with TX_DISABLE. -/
  | sfpInsertion (port byte6 byte3 : Nat)
  /-- R518. Removal of an SFP takes its port down. -/
  | sfpRemoval (port : Nat)
  /-- R81. A cage drawing more than 600 mA has its supply switched off. -/
  | sfpOvercurrent (port : Nat)
  /-- R519. A port that has been up for 1 s going down raises 0x1103. -/
  | linkDown (port : Nat)
  /-- R545. A journal copy write completes and is read back, and is written once more on a mismatch. -/
  | journalWriteComplete (good : Bool)
  /-- R542. In recovery an unsolicited IDENT is sent every 1 s until the first PROBE. -/
  | recoveryIdentSend
  /-- R542. A recovery PROBE returns IDENT. -/
  | probe (seq : Nat)
  /-- R542. A recovery BEGIN checks a skein header and starts a transfer. -/
  | recoveryBegin (seq : Nat) (payload : Bytes)
  /-- R542. A recovery DATA frame writes a chunk of the skein. -/
  | recoveryData (seq : Nat) (payload : Bytes) (good : Bool)
  /-- R542. A recovery END verifies the sections and writes the header. -/
  | recoveryEnd (seq : Nat)
  /-- R542. A recovery BOOT resets into a valid skein. -/
  | boot (seq : Nat) (rcvyLow : Bool)
  /-- R542. A recovery LOG returns event log records. -/
  | recoveryLog (seq : Nat) (payload : Bytes)
  /-- R518. An SFP port's link comes up at 100 or 1,000 Mbit/s and LinkState moves to 4 or 5. -/
  | sfpLinkUp (port : Nat)
  /-- R524. AUX_24V below 18.0 V for 100 ms raises 0x0201. -/
  | auxUndervoltageTimeout
  /-- R546. At most every 10 s while any lifetime counter has changed, record 0x0004 is written to the journal. -/
  | lifetimeCounterWrite
  /-- R546. Every 10 min the servo frequency yf is written into record 0x0005. -/
  | frequencyRecordWrite
  /-- R360. Each operating hour in READY, OperatingHours rises, ProofTestDue counts down and record 0x0009 is written. -/
  | operatingHourTick
  /-- R144. A read of a result slot's word 1 returns and consumes the shadow if one is waiting, or returns the live word otherwise. -/
  | converterWord1Read (r : SlotRead)
  /-- R414. The first reads of TIME_NS, TIME_SECLO and TIME_SECHI after a TIME_SHORT read return and consume the shadows. -/
  | timeShadowRead (field : Nat)
  /-- R496. A read of the high word of RUNNING or RESULT returns and consumes the shadow that the low-word read filled. -/
  | ceHighWordRead (engine offset : Nat)
  /-- R461. A fragment of an IPv4 datagram is received and added to a reassembly, which starts or completes it. -/
  | ipv4Fragment (port source ident offset : Nat) (more : Bool) (data : Bytes)
  /-- R520. A flash program of an event log record completes, freeing its held-write entry, or fails and raises 0x1405. -/
  | eventLogWriteComplete (good : Bool)
  /-- R428. The ordinary clock sends a Delay_Req or Pdelay_Req on a port, and its egress stamp enters the transmit stamp queue. -/
  | delayReqSend (port bin : Nat)
  deriving DecidableEq, Repr

end Sys2Proof
end

