-- ==== Sys2Proof/Config.lean ====
section
/-! DEFINITION. Config: what the spec leaves open. Each constant is opaque: nothing can evaluate it, so a claim
holds for every value of it. -/

namespace Sys2Proof

/-- The free values, in the order in which they are taken (assumption 4). -/
opaque Config.free : Nat → Nat

/-- Which of the two binary32 numbers around an exponential of the fabric it gives, both being exact to 1 unit in the
last place (R239, assumption 6). -/
opaque Config.expUp : Rat → Bool

/-- The payload bytes of a journal record by its ID and content; the spec names the content, not its layout (R270,
R546). -/
opaque Config.recordBytes : Nat → List Int → Bytes

/-- The key that production derives from the password on a unit's label, by unit serial (R475). -/
opaque Config.labelKey : Nat → Bytes

/-- The key unique to a unit, 16 bytes, under which it stores its key slots, by unit serial (R475). -/
opaque Config.unitKey : Nat → Bytes

/-- The key, 16 bytes, under which two units exchange their key stores: the crypto engines derive it from the family digest
key and the two unit serials, side A's first (R478). -/
opaque Config.transferKey : Nat → Nat → Bytes

/-- The salt stored with the label key, by unit serial (R475). -/
opaque Config.labelSalt : Nat → Bytes

/-- The digest key common to every unit of the family (R478). -/
opaque Config.familyKey : Bytes

/-- The digest of the public key in a ROM key slot (R530). -/
opaque Config.romKeyDigest : Nat → Bytes

/-- MaxSkip of the alive checker on the fire panel's counter, which the spec does not state (R456, R498). -/
opaque Config.fireMaxSkip : Nat

/-- The bytes over which an OutputDigest is formed, from the row's commands, the next pair sequence and the checks of the
row's pair messages; the spec names their order, not their widths (R383). -/
opaque Config.commandBytes : List Nat → Bytes

/-- The data that PATTERN_DATA carries of an item: the frame as received (kinds 1 and 2), or content whose layout the spec
does not give (kinds 3 to 5) (R368, assumption 154). -/
opaque Config.itemBytes : PatternItem → Bytes

/-- Whether a signature over a digest holds under a public key (R530): the standard's verification. -/
opaque Config.signatureHolds : Bytes → Bytes → Bytes → Bool

/-- The ratio of a main channel to its divider check tap, stored in production, by unit serial and tap (R162). -/
opaque Config.dividerRatio : Nat → Nat → Rat

/-- The CMU image of the skein with which a unit is delivered (R211, assumption 150). -/
opaque Config.deliveredImage : Bytes

end Sys2Proof
end

