-- ==== Sys2Proof/Machine/Numeric.lean ====
section
/-! DEFINITION. Numeric: exact arithmetic on fractions and its narrowing. Truncation to whole numbers, the
exponential as a fixed-point number, logarithms, and the IEEE 754 roundings of R239. -/

namespace Sys2Proof.Machine

/-- A fraction without its sign. -/
def ratAbs (x : Rat) : Rat := if x < 0 then -x else x

/-- A fraction cut to a whole number, toward zero (assumption 13). -/
def ratTrunc (x : Rat) : Int := if x < 0 then -((-x).floor) else x.floor

/-- The smaller of two fractions. -/
def ratMin (x y : Rat) : Rat := if y < x then y else x

/-- The greater of two fractions. -/
def ratMax (x y : Rat) : Rat := if x < y then y else x

/-- Sum of a list of fractions. -/
def ratSum (l : List Rat) : Rat := l.foldl (· + ·) 0

/-- Mean of a list of fractions; none of an empty list. -/
def ratMean (l : List Rat) : Option Rat := if l.isEmpty then none else some (ratSum l / (l.length : Rat))

/-- The scale of the fixed-point exponential: 320 fraction bits. -/
def expScale : Nat := 2 ^ 320

/-- Alternating Taylor sum of e^-y, from term n on. -/
def expSeries (y : Nat) : Nat → Nat → Nat → Nat → Int → Int
  | 0, _, _, _, acc => acc
  | k + 1, n, term, sign, acc =>
    let next := term * y / (expScale * (n + 1))
    expSeries y k (n + 1) next (1 - sign) (if sign == 0 then acc + term else acc - term)

/-- Square a fixed-point number a number of times. -/
def expSquare : Nat → Nat → Nat
  | 0, v => v
  | k + 1, v => expSquare k (v * v / expScale)

/-- e^-x for x of at least 0, as a fixed-point number; 0 beyond x = 256. -/
def expNegFix (x : Rat) : Nat :=
  if 256 ≤ x then 0
  else
    let y := (x.num.toNat * expScale / x.den) / 256
    expSquare 8 (expSeries y 48 0 expScale 0 0).toNat

/-- e^-x for x of at least 0. -/
def expNeg (x : Rat) : Rat := (expNegFix x : Rat) / (expScale : Rat)

/-! ### Roundings (R239) -/

/-- A power of two with a signed exponent. -/
def pow2 (e : Int) : Rat := if 0 ≤ e then ((2 ^ e.toNat : Nat) : Rat) else 1 / ((2 ^ (-e).toNat : Nat) : Rat)

/-- The exponent of the leading bit of a positive fraction. -/
def ratLog (x : Rat) : Int :=
  let e : Int := (Nat.log2 x.num.natAbs : Int) - (Nat.log2 x.den : Int)
  if ratAbs x < pow2 e then e - 1 else e

/-- To the nearest whole number, ties to even. -/
def roundEven (x : Rat) : Int :=
  let f := x.floor
  let d := x - (f : Rat)
  if d < 1 / 2 then f else if 1 / 2 < d then f + 1 else if f % 2 == 0 then f else f + 1

/-- The spacing of binary floating numbers of a precision around a fraction, with a least exponent. -/
def spacing (bits : Nat) (low : Int) (x : Rat) : Rat :=
  let e := ratLog x - (bits - 1 : Nat)
  pow2 (if e < low then low else e)

/-- Rounding to a binary floating number of a precision, ties to even. -/
def rndTo (bits : Nat) (low : Int) (x : Rat) : Rat :=
  if x = 0 then 0
  else
    let u := spacing bits low x
    (roundEven (x / u) : Rat) * u

/-- Rounding to binary64. -/
def rnd64 (x : Rat) : Rat := rndTo 53 (-1074) x

/-- Rounding to binary32. -/
def rnd32 (x : Rat) : Rat := rndTo 24 (-149) x

/-- Sum in binary64. -/
def add64 (x y : Rat) : Rat := rnd64 (x + y)

/-- Difference in binary64. -/
def sub64 (x y : Rat) : Rat := rnd64 (x - y)

/-- Product in binary64. -/
def mul64 (x y : Rat) : Rat := rnd64 (x * y)

/-- Quotient in binary64; 0 by a divisor of 0. -/
def div64 (x y : Rat) : Rat := if y = 0 then 0 else rnd64 (x / y)

/-- Sum in binary32. -/
def add32 (x y : Rat) : Rat := rnd32 (x + y)

/-- Difference in binary32. -/
def sub32 (x y : Rat) : Rat := rnd32 (x - y)

/-- Product in binary32. -/
def mul32 (x y : Rat) : Rat := rnd32 (x * y)

/-- Sum in binary64, left to right. -/
def sum64 (l : List Rat) : Rat := l.foldl add64 0

/-- The exponential e^-x of the fabric: one of the two binary32 numbers around it (R239). -/
def expF (x : Rat) : Rat :=
  let v := expNeg x
  if v = 0 then 0
  else
    let u := spacing 24 (-149) v
    ((v / u).floor : Rat) * u + (if Config.expUp x then u else 0)

/-- Whole square root by bits, most significant first. -/
def isqrtGo (n : Nat) : Nat → Nat → Nat
  | 0, r => r
  | k + 1, r => if (r + 2 ^ k) * (r + 2 ^ k) ≤ n then isqrtGo n k (r + 2 ^ k) else isqrtGo n k r

/-- Square root in binary64 of a fraction of at least 0. -/
def sqrt64 (x : Rat) : Rat :=
  if x ≤ 0 then 0 else rnd64 ((isqrtGo ((x * pow2 256).floor.toNat) 192 0 : Rat) / pow2 128)

/-- Nearest whole number of a published value, ties to even (R239). -/
def pub (x : Rat) : Int := roundEven x

end Sys2Proof.Machine
end

