-- ==== Sys2Proof/Machine/Filter.lean ====
section
/-! DEFINITION. Filter: the impulse responses of the decimators (R124, R554), and the result that a filter gives of an
input that changes in its window. -/

namespace Sys2Proof.Machine

/-- Modulator periods of a filter's window (R124). -/
def windowLen (mode d : Nat) : Nat :=
  match mode with
  | 0 => 3 * d | 1 => 4 * d | _ => 2 * d

/-- The scale of the fixed-point cosine: 128 fraction bits (assumption 141). -/
def cosScale : Nat := 2 ^ 128

/-- pi at the scale of the cosine. -/
def piFix : Nat := 1069028584064966747859680373161870783300

/-- Taylor sum of the cosine of `y`, from term j on. -/
def cosSeries (y : Nat) : Nat → Nat → Nat → Int → Int
  | 0, _, _, acc => acc
  | k + 1, j, term, acc =>
    cosSeries y k (j + 1) (term * y / cosScale * y / cosScale / ((2 * j + 1) * (2 * j + 2)))
      (if j % 2 == 0 then acc + term else acc - term)

/-- cos(pi a / b) for a below 2b. -/
def cosPi (a b : Nat) : Rat := (cosSeries (piFix * a / b) 48 0 cosScale 0 : Rat) / (cosScale : Rat)

/-- The weight of period k in FIR mode: a Hann window over 2D periods at unit DC gain (R554). -/
def hannWeight (d k : Nat) : Rat := (1 - cosPi (2 * k + 1) (2 * d)) / (2 * d : Nat)

/-- The running sum of a list. -/
def runningSum (acc : Rat) : List Rat → List Rat
  | [] => []
  | x :: t => (acc + x) :: runningSum (acc + x) t

/-- A boxcar filter of length D over a signal that was 0 before it: each output is the mean of the last D inputs
(R554). -/
def boxcar (d : Nat) (l : List Rat) : List Rat :=
  (runningSum 0 (List.zipWith (· - ·) l (List.replicate d 0 ++ l))).map (· / (d : Rat))

/-- A cascade of boxcar filters (R554). -/
def cascade (d : Nat) : Nat → List Rat → List Rat
  | 0, l => l
  | n + 1, l => cascade d n (boxcar d l)

/-- The response of a filter to a unit step, period by period over its window (R554): sinc3 and sinc4 are cascades of three
and four boxcars, FIR the running sum of its Hann window. -/
def stepResponse (mode d : Nat) : List Rat :=
  match mode with
  | 0 => cascade d 3 (List.replicate (3 * d) 1)
  | 1 => cascade d 4 (List.replicate (4 * d) 1)
  | _ => runningSum 0 ((List.range (2 * d)).map (hannWeight d))

/-- The share of a step that a filter shows m periods of its window after the step; the whole of it from the end of the
window on, at the exact unit DC gain of every mode (R124, R554). -/
def stepShare (mode d m : Nat) : Rat :=
  if m == 0 then 0
  else if windowLen mode d ≤ m then 1
  else (stepResponse mode d).getD (m - 1) 1

/-- The sum of a filter over an input given as levels, each for a number of modulator periods, from period p of the window
on; the last level lasts to the end of the window. -/
def filterSum (mode d : Nat) : Nat → List (Nat × Int) → Rat
  | _, [] => 0
  | p, [(_, v)] => (v : Rat) * (1 - stepShare mode d p)
  | p, (n, v) :: t => (v : Rat) * (stepShare mode d (p + n) - stepShare mode d p) + filterSum mode d (p + n) t

/-- A result's VALUE (R124, R141, R554): the filtered input to the nearest code, at overrange from the ends of the field
on. -/
def filterValue (mode d : Nat) (levels : List (Nat × Int)) : Int :=
  let v := roundEven (filterSum mode d 0 levels)
  if v < -8388608 then -8388608 else if 8388607 < v then 8388607 else v

/-- An input that keeps one level through the window gives that level in every mode and at every decimation (R124). -/
theorem filterValue_steady (mode d n : Nat) (v : Int) (h1 : -8388608 ≤ v) (h2 : v ≤ 8388607) :
    filterValue mode d [(n, v)] = v := by
  have h : filterSum mode d 0 [(n, v)] = (v : Rat) := by simp [filterSum, stepShare]
  have hr : roundEven (v : Rat) = v := by simp [roundEven, Rat.floor_intCast]
  simp only [filterValue, h, hr]
  rw [if_neg (by omega), if_neg (by omega)]

end Sys2Proof.Machine
end

