-- ==== Sys2Proof/Machine/Crypto.lean ====
section
/-! DEFINITION. Crypto: byte orders, the cyclic checks of R200, R389 and R496, and the keyed digests of R468 and
R480. SHA-256, HMAC and HKDF are named by the spec and not defined in it; they follow the published standards
(PRESUMED, assumption 5). -/

namespace Sys2Proof.Machine

/-- The `n` low bytes of a number, least significant first (R9). -/
def leBytes : Nat → Nat → Bytes
  | 0, _ => []
  | n + 1, v => (v % 256) :: leBytes n (v / 256)

/-- The number that little-endian bytes stand for (R9). -/
def leNat : Bytes → Nat
  | [] => 0
  | b :: t => b % 256 + 256 * leNat t

/-- The `n` low bytes of a signed number in two's complement, least significant first (R9). -/
def leInt (n : Nat) (v : Int) : Bytes := leBytes n (v % ((256 : Int) ^ n)).toNat

/-- A full stamp as its 12 bytes (R12). -/
def stampBytes (t : Stamp) : Bytes := leBytes 4 t.ns ++ leBytes 6 t.sec ++ leBytes 2 t.epoch

/-- A full stamp from its 12 bytes (R12). -/
def stampOf (b : Bytes) : Stamp :=
  { ns := leNat (b.take 4), sec := leNat ((b.drop 4).take 6), epoch := leNat ((b.drop 10).take 2) }

/-- A number with its low `n` bits in reverse order. -/
def reflect : Nat → Nat → Nat
  | 0, _ => 0
  | n + 1, v => (v % 2) * 2 ^ n + reflect n (v / 2)

/-- One bit of a cyclic check of width `w`: shift left, and fold the polynomial in when the bit that leaves is 1. -/
def crcBit (w poly reg : Nat) : Nat :=
  let sh := reg * 2 % 2 ^ w
  if reg / 2 ^ (w - 1) % 2 == 1 then sh ^^^ poly else sh

/-- `k` bits of a cyclic check fed most significant first, for any width from 3 up. -/
def crcFeed (w poly : Nat) : Nat → Nat → Nat → Nat
  | 0, _, reg => reg
  | k + 1, v, reg =>
    let bit := v / 2 ^ k % 2
    crcFeed w poly k v (crcBit w poly (reg ^^^ (bit * 2 ^ (w - 1))))

/-- One byte of a cyclic check (R496): least significant bit first when `refin`. -/
def crcByte (w poly : Nat) (refin : Bool) (reg b : Nat) : Nat :=
  crcFeed w poly 8 (if refin then reflect 8 (b % 256) else b % 256) reg

/-- The shift register after a byte string. -/
def crcRun (w poly : Nat) (refin : Bool) (init : Nat) (bs : Bytes) : Nat :=
  bs.foldl (crcByte w poly refin) init

/-- CRC-32C (R200): polynomial 0x1EDC6F41, reflected, initial and final XOR all ones. -/
def crc32c (bs : Bytes) : Nat :=
  reflect 32 (crcRun 32 0x1EDC6F41 true 0xFFFFFFFF bs) ^^^ 0xFFFFFFFF

/-- CRC-8 of the claim frame (R389): polynomial 0x07, initial value 0, no reflection, no final XOR. -/
def crc8 (bs : Bytes) : Nat := crcRun 8 0x07 false 0 bs

/-- The largest root found bit by bit from the top: `r` grows by `2 ^ k` while its `d`-th power stays within `v`. -/
def rootFrom (d v : Nat) : Nat → Nat → Nat
  | 0, r => r
  | k + 1, r => rootFrom d v k (if (r + 2 ^ k) ^ d ≤ v then r + 2 ^ k else r)

/-- The first 32 bits behind the point of the `d`-th root of `p`: the standard's constants are such roots of primes. -/
def rootFraction (d p : Nat) : Nat := rootFrom d (p * 2 ^ (32 * d)) 35 0 % 2 ^ 32

/-- The primes below 312, of which there are 64. -/
def firstPrimes : Bytes := (List.range 312).filter fun n => 2 ≤ n && (List.range 18).all fun d => d < 2 || n ≤ d || n % d != 0

/-- A word of 32 bits turned right by `k` places. -/
def turn (k x : Nat) : Nat := x / 2 ^ k + x % 2 ^ k * 2 ^ (32 - k)

/-- Three turned copies of a word, added without carry. -/
def threeTurns (i j k x : Nat) : Nat := turn i x ^^^ turn j x ^^^ turn k x

/-- Two turned copies and one shifted copy of a word, added without carry. -/
def twoTurns (i j k x : Nat) : Nat := turn i x ^^^ turn j x ^^^ (x / 2 ^ k)

/-- The message words that follow the sixteen of a window, each formed from the window it leaves. -/
def shaExtend : Nat → Bytes → Bytes
  | 0, _ => []
  | n + 1, win =>
    let next := (win.getD 0 0 + twoTurns 7 18 3 (win.getD 1 0) + win.getD 9 0 + twoTurns 17 19 10 (win.getD 14 0)) % 2 ^ 32
    next :: shaExtend n (win.drop 1 ++ [next])

/-- The bits of `y` where `x` has ones, and of `z` where it has zeros. -/
def pick (x y z : Nat) : Nat := z ^^^ (x &&& (y ^^^ z))

/-- The bits that at least two of three words have. -/
def most (x y z : Nat) : Nat := (x &&& (y ||| z)) ||| (y &&& z)

/-- One round on the eight working words, with the sum of the round's constant and its message word. -/
def shaStir (w : Bytes) (feed : Nat) : Bytes :=
  let x (k : Nat) := w.getD k 0
  let low := x 7 + threeTurns 6 11 25 (x 4) + pick (x 4) (x 5) (x 6) + feed
  let high := threeTurns 2 13 22 (x 0) + most (x 0) (x 1) (x 2)
  [(low + high) % 2 ^ 32, x 0, x 1, x 2, (x 3 + low) % 2 ^ 32, x 4, x 5, x 6]

/-- A byte string as numbers of four bytes each, the most significant byte first. -/
def quads : Nat → Bytes → Bytes
  | 0, _ => []
  | n + 1, b => leNat (b.take 4).reverse :: quads n (b.drop 4)

/-- `n` blocks of 64 bytes folded into the eight words in turn; `ks` are the round constants. -/
def shaFold (ks : Bytes) : Nat → Bytes → Bytes → Bytes
  | 0, acc, _ => acc
  | n + 1, acc, b =>
    let first := quads 16 (b.take 64)
    let mixed := (List.zipWith (· + ·) ks (first ++ shaExtend 48 first)).foldl shaStir acc
    shaFold ks n (List.zipWith (fun x y => (x + y) % 2 ^ 32) acc mixed) (b.drop 64)

/-- The end of a message of `n` bytes: a one bit, zeros up to eight bytes short of a block, and its length in bits. -/
def shaEnd (n : Nat) : Bytes := 128 :: List.replicate ((119 - n % 64) % 64) 0 ++ (leBytes 8 (n * 8)).reverse

/-- SHA-256 of a byte string, as 32 bytes. -/
def sha256 (m : Bytes) : Bytes :=
  let p := m ++ shaEnd m.length
  let start := (firstPrimes.take 8).map (rootFraction 2)
  (shaFold (firstPrimes.map (rootFraction 3)) (p.length / 64) start p).flatMap fun w => (leBytes 4 w).reverse

/-- HMAC-SHA-256 (R468). -/
def hmac (key m : Bytes) : Bytes :=
  let k0 := if key.length > 64 then sha256 key else key
  let k := k0 ++ List.replicate (64 - k0.length) 0
  sha256 (k.map (· ^^^ 0x5C) ++ sha256 (k.map (· ^^^ 0x36) ++ m))

/-- HKDF-Extract (R480). -/
def hkdfExtract (salt ikm : Bytes) : Bytes := hmac salt ikm

/-- The blocks of HKDF-Expand from the one before. -/
def hkdfBlocks (prk info : Bytes) : Nat → Nat → Bytes → Bytes
  | 0, _, _ => []
  | n + 1, i, prev =>
    let t := hmac prk (prev ++ info ++ [i])
    t ++ hkdfBlocks prk info n (i + 1) t

/-- HKDF-Expand to `len` bytes (R477, R480). -/
def hkdfExpand (prk info : Bytes) (len : Nat) : Bytes :=
  (hkdfBlocks prk info ((len + 31) / 32) 1 []).take len

/-! ### AES-128 (R475, R478), after the published standard -/

/-- A byte times 2 in the field of the cipher. -/
def gfTwice (x : Nat) : Nat := if x < 128 then 2 * x else (2 * x) ^^^ 283

/-- The product of two bytes in the field, by the bits of the second. -/
def gfTimes : Nat → Nat → Nat → Nat
  | 0, _, _ => 0
  | n + 1, x, y => (if y % 2 == 1 then x else 0) ^^^ gfTimes n (gfTwice x) (y / 2)

/-- The inverse of a byte in the field, as its 254th power: 7 squarings, each but the first folded in. -/
def gfInverse (x : Nat) : Nat :=
  ((List.range 6).foldl (fun (p : Nat × Nat) _ =>
    let sq := gfTimes 8 p.1 p.1
    (sq, gfTimes 8 p.2 sq)) (gfTimes 8 x x, gfTimes 8 x x)).2

/-- A byte turned left by `k` places. -/
def turnByte (k x : Nat) : Nat := x * 2 ^ k % 256 + x / 2 ^ (8 - k)

/-- The byte that stands for another: its inverse, added to four turned copies of itself and 0x63. -/
def substitute (x : Nat) : Nat :=
  let y := gfInverse x
  [1, 2, 3, 4].foldl (fun t k => t ^^^ turnByte k y) (y ^^^ 99)

/-- Two byte strings added without carry, place by place. -/
def addBytes (a b : Bytes) : Bytes := List.zipWith (· ^^^ ·) a b

/-- The next round key after one, with the constant of its round. -/
def nextKey (c : Nat) (k : Bytes) : Bytes :=
  let last := (k.drop 12).map substitute
  let w0 := addBytes (k.take 4) (addBytes (last.drop 1 ++ last.take 1) [c, 0, 0, 0])
  let w1 := addBytes ((k.drop 4).take 4) w0
  let w2 := addBytes ((k.drop 8).take 4) w1
  w0 ++ w1 ++ w2 ++ addBytes (k.drop 12) w2

/-- The bytes of a block substituted and each of its four rows turned by its number. -/
def substituteRows (b : Bytes) : Bytes := (List.range 16).map fun i => substitute (b.getD (5 * i % 16) 0)

/-- The four columns of a block mixed. -/
def mixColumns (b : Bytes) : Bytes :=
  (List.range 16).map fun i =>
    let x (k : Nat) : Nat := b.getD (i / 4 * 4 + (i + k) % 4) 0
    gfTwice (x 0) ^^^ gfTwice (x 1) ^^^ x 1 ^^^ x 2 ^^^ x 3

/-- The rounds that are left, with the key of the one before and the constant of this one. -/
def aesRounds : Nat → Nat → Bytes → Bytes → Bytes
  | 0, c, k, b => addBytes (substituteRows b) (nextKey c k)
  | n + 1, c, k, b => aesRounds n (gfTwice c) (nextKey c k) (addBytes (mixColumns (substituteRows b)) (nextKey c k))

/-- AES-128 of one block of 16 bytes. -/
def aes128 (key b : Bytes) : Bytes := aesRounds 9 1 key (addBytes b key)

/-- Bytes under AES-128 in counter mode from 0 (assumption 155): sealing twice gives the bytes back. -/
def sealBytes (key b : Bytes) : Bytes :=
  addBytes b ((List.range ((b.length + 15) / 16)).flatMap fun n => aes128 key (leBytes 16 n))

/-- The bytes of an ASCII text. -/
def ascii (t : String) : Bytes := t.toList.map Char.toNat

end Sys2Proof.Machine
end

