-- ==== Sys2Proof/Machine/State.lean ====
section
/-! DEFINITION. State: every piece of state the spec gives the module, as plain data. One structure per
subsystem of R14; each field's docstring names the rule that gives it. Field defaults are the values right after
reset: the spec's reset value where it gives one, else the value assumption 1 names. -/

namespace Sys2Proof.Machine

/-- Faults that stop the model. No command of this module stops it: every rule gives an effect, so the type is
empty (safe: nothing is cut short). -/
inductive Fault where
  deriving DecidableEq, Repr

/-- Refusals of the model. -/
inductive Refusal where
  /-- Raised only by the dispatcher, for a command that has no meaning yet, named by its mnemonic. Safe: nothing
  is claimed of that command. -/
  | notModelled (mnemonic : String)
  deriving DecidableEq, Repr

/-- Reaction states (R38). -/
inductive Reaction where
  | normal | warn | derate | open | latch
  deriving DecidableEq, Repr

/-- Power states (R86). -/
inductive PowerState where
  | off | hold | slot | castOn | ready | reset | powerFail | bindOff
  deriving DecidableEq, Repr

/-- Ring states (R204). -/
inductive RingState where
  | off | waking | enumerating | loading | configuring | closed | chain | singleA | singleB | renewing | lost | hold
  deriving DecidableEq, Repr

/-- Twin states (R365). -/
inductive TwinState where
  | alone | pairing | member | joining | observer | solo | refused
  deriving DecidableEq, Repr

/-- Time states (R431). -/
inductive TimeState where
  | free | acquiring | locked | holdover | stepPending | twin
  deriving DecidableEq, Repr

/-- A message of the Syben protocol that left the module (R467): its header fields, payload and MAC; no MAC
where no session key exists to form it. -/
structure Msg where
  opcode : Nat := 0
  flags : Nat := 1
  status : Nat := 0
  session : Nat := 0
  seq : Nat := 0
  pairSeq : Nat := 0
  payload : Bytes := []
  mac : Option Bytes := none
  deriving DecidableEq, Repr

/-- What a receiver of pair messages keeps for a sender (R406). -/
structure Receiver where
  node : Nat := 0
  origin : Nat := 0
  high : Nat := 0
  seen : Nat := 1
  deriving DecidableEq, Repr

/-- A ring frame that waits for a row start (R203): port, type, destination, payload. -/
structure RingTx where
  port : Nat := 1
  kind : Nat := 0
  dest : Nat := 0
  payload : Bytes := []
  deriving DecidableEq, Repr

/-- What leaves the module's ports. -/
inductive Out where
  /-- A Syben response to the source of the request. -/
  | response (peer : Source) (m : Msg)
  /-- A message that the module originates in a session (R488), or a telemetry message (R493), to its receiver. -/
  | message (peer : Source) (m : Msg)
  /-- The wake tone on both ring ports (R205). -/
  | wakeTone
  /-- The header, payload and CRC of a ring frame (R200), on port 1 A or 2 B. -/
  | ring (port : Nat) (frame : Bytes)
  /-- What a unit that repeats sends on from the other ring port (R196, R202). -/
  | repeated (f : RingRx)
  /-- The envelope record by Syben to the node of EnvelopeEthTarget (R312). -/
  | envelopeEth (target : Nat) (record : Bytes)
  /-- A PTP message on an SFP port (R417). -/
  | ptp (port : Nat) (m : PtpMsg)
  /-- A frame to the twin, with its bytes: header, payload and CRC on Twin Yarn (R368), or the frame of the claim pair
  (R389). -/
  | twin (f : TwinFrame) (bytes : Bytes)
  /-- Syben in a datagram (R460, R461, R500): the SFP port, the 802.1Q tag of SybenVlan (0 untagged), the receiver's address
  and port, and the parts of the message that its IPv4 fragments of at most 1,500 bytes carry. It leaves from port 48620. -/
  | datagram (port vlan target targetPort : Nat) (parts : List Bytes)
  /-- An OPEN or PROOF that a non-holder passes on to the claim holder (R487): its opcode and payload. -/
  | passedOn (r : Req) (opcode : Nat) (payload : Bytes)
  /-- A raw Ethernet frame of RAW_SEND on an SFP port (R490). -/
  | rawFrame (port : Nat) (frame : Bytes)
  /-- The answer to an ARP request for this module's address (R461). -/
  | arpReply (port target : Nat)
  /-- The answer to an ICMP echo request (R461): target, identifier, sequence, data. -/
  | echoReply (port target ident seq : Nat) (data : Bytes)
  /-- A frame of ROM recovery (R542): its type, its payload, and its bytes with flags, CRC and stuffing. -/
  | recovery (kind : Nat) (payload bytes : Bytes)
  deriving DecidableEq, Repr
/-- One latched urgent entry (R221, R378). -/
structure Urgent where
  /-- CMU address, 0 while the CMU has none (R221). -/
  addr : Nat := 0
  /-- reason bits: 0 OV, 1 UV, 2 internal fault, 3 comparator self-test failed (R221). -/
  reason : Nat := 0
  deriving DecidableEq, Repr

/-- One entry of the pending fault queue (R40). -/
structure Pending where
  /-- fault code (R40). -/
  code : Nat := 0
  /-- 0 info .. 4 latch (R40). -/
  severity : Nat := 0
  /-- occurrences, saturating at 255 when published (R40 R46). -/
  count : Nat := 1
  /-- first stamp (R40). -/
  stamp : Stamp := {}
  /-- plant row in which it was raised (epoch first), orders equal severities (R40). -/
  row : Nat := 0
  /-- item concerned, 0xFFFF none (R522). -/
  item : Nat := 0xFFFF
  /-- its handler has started (R42). -/
  started : Bool := false
  /-- raised as an event fault (R551). -/
  event : Bool := false
  deriving DecidableEq, Repr

/-- Fault manager (R38 to R46, R551). -/
structure FaultMgr where
  /-- ReactionState 0x1A00.01 (R46). -/
  reaction : Reaction := .normal
  /-- OverflowCount 0x1A00.03 (R46). -/
  overflowCount : U32 := 0
  /-- pending queue, most severe first; PendingEntry 0x1A10, HeadFault, PendingCount (R40 R46). -/
  pending : List Pending := []
  /-- HandlingFault 0x1A00.05 (R42 R46). -/
  handling : Option Nat := none
  /-- codes of suspended handlers, latest first (R42). -/
  suspended : List Nat := []
  /-- LastAcknowledge 0x1A00.06 (R46). -/
  lastAck : Stamp := {}
  /-- codes whose condition holds; ActiveCount 0x1A00.07 (R43 R551). -/
  active : List Nat := []
  /-- codes whose condition has held without a break since an entry of it completed (absorption) (R43). -/
  handled : List Nat := []
  /-- FaultsSinceReset 0x1100.03 (R517). -/
  raised : U32 := 0
  /-- reaction state given by the faults that enter the pair reaction (R381). -/
  pairOwn : Reaction := .normal
  /-- LATCH reaction state held in FRAM record 0x0006 (R110). -/
  latchKept : Bool := false
  deriving DecidableEq, Repr

/-- Rows, patterns, reference and core supply (R21 to R36). -/
structure Rows where
  /-- PatternNumber 0x1B00.01 (R31 R46). -/
  patternNo : U32 := 0
  /-- RowInPattern 0x1B00.02 (R31 R46). -/
  rowNo : Nat := 0
  /-- SeamCount 0x1B00.03 (R36 R46). -/
  seamCount : U32 := 0
  /-- RowOverrunCount 0x1B00.04 (R26 R46). -/
  overrunCount : U32 := 0
  /-- the present pattern contains a seam row (R36). -/
  seamPattern : Bool := false
  /-- SpeedIndexRow 0x2110.01 (R21 R46). -/
  siRow : Nat := 0
  /-- SpeedIndexPatternMin 0x2110.02 (R21 R46). -/
  siPatMin : Nat := 0
  /-- minimum so far in the present pattern (R21). -/
  siRunMin : Nat := 0xFFFF
  /-- SpeedIndexMinSinceReset 0x2110.03 (R21 R46). -/
  siMin : Nat := 0xFFFF
  /-- CoreSupply 0x2110.04, mV (R23 R46). -/
  vcore : Nat := 800
  /-- consecutive patterns with the minimum below 700 at 0.900 V (R25). -/
  lowPatterns : Nat := 0
  /-- MarginFabric 0x2110.05, 0.1 % (R22 R46). -/
  marginFabric : Nat := 0
  /-- MarginRow 0x2110.06, 0.1 % (R22 R46). -/
  marginRow : Nat := 0
  /-- rows run (R30). -/
  running : Bool := true
  /-- reference out of limits (R30). -/
  refBad : Bool := false
  /-- the present row has had its output commit (R30). -/
  committed : Bool := false
  /-- the agreed input set of the present row is fixed (R32). -/
  fixed : Bool := false
  /-- the twin's digest of the present row has been judged (R32). -/
  judged : Bool := false
  /-- control processor restarting (R27). -/
  cpRestarting : Bool := false
  /-- string current latched at the row start, mA (R32 R323). -/
  latched : Option Rat := none
  /-- FA mean code over the row just ended (R336). -/
  faMean : Int := 0
  /-- FB mean code over the row just ended (R377). -/
  fbMean : Int := 0
  /-- plant row last started (R31). -/
  lastRow : Option Nat := none
  /-- plant pattern last started (R31). -/
  lastPat : Option Nat := none
  /-- plant ns before which the next row does not start, after a time step (R36). -/
  seamAt : Option Nat := none
  deriving DecidableEq, Repr

/-- Power manager (R86 to R119). -/
structure Power where
  /-- PowerState 0x2200.01 (R86 R119). -/
  state : PowerState := .castOn
  /-- CastOnStep 0x2200.02 (R89 R119). -/
  step : Nat := 1
  /-- step 6 has ended (6 and 7 run together) (R89). -/
  step6Done : Bool := false
  /-- step 7 has ended (R89). -/
  step7Done : Bool := false
  /-- AuxVoltage 0x2200.03 (R119). -/
  auxMv : Nat := 0
  /-- AuxCurrent 0x2200.04 (R119). -/
  auxMa : Nat := 0
  /-- HoldUpVoltage 0x2200.05 (R119). -/
  vholdMv : Nat := 0
  /-- HoldUpCapacitance 0x2200.06 (R100 R119). -/
  capUf : Nat := 0
  /-- Flags bit 1 (R96 R119). -/
  sagPaused : Bool := false
  /-- Flags bit 2, RESET_N recognised low (R105 R119). -/
  resetLow : Bool := false
  /-- Flags bit 3 (R108 R119). -/
  resetIgnored : Bool := false
  /-- RESET_N pin low now (R105). -/
  resetPin : Bool := false
  /-- the 10 ms recognition time runs (R105). -/
  resetTimer : Bool := false
  /-- RESET to be entered (RESET_N) (R106). -/
  resetEntryDue : Bool := false
  /-- reset awaited after a hand-over: 0 none, 1 software, 2 recovery request, 3 loader start (R111). -/
  softDue : Nat := 0
  /-- the 50 ms resume timer runs (R97). -/
  resumeTimer : Bool := false
  /-- instant the resume timer started, where plant time counted (R97). -/
  resumeFrom : Option Stamp := none
  /-- StartSlot 0x2200.08 (R88 R119). -/
  startSlot : Nat := 0
  /-- SagPausesThisStart 0x2200.09 (R98 R119). -/
  sagThisStart : Nat := 0
  /-- SagPausesTotal 0x2200.0A (FRAM, delivered 0) (R98 R119 R558). -/
  sagTotal : U32 := 0
  /-- the start runs (step 1 until 10 min after READY) (R98). -/
  startOpen : Bool := true
  /-- closing refused after the tenth pause until a reset (R98). -/
  closingRefused : Bool := false
  /-- LastResetKind 0x2200.0B (R109 R119). -/
  resetKind : Nat := 1
  /-- OffTimeClass 0x2200.0C, true long (R104 R119). -/
  offLong : Bool := false
  /-- WakeSource 0x2200.0D (R117 R119). -/
  wakeSource : Nat := 0
  /-- BindOffReason 0x2200.0E (R112 R119). -/
  bindReason : Nat := 0
  /-- CastOnDuration 0x2200.0F (R119). -/
  castOnMs : Nat := 0
  /-- instant of plant time from which the last cast-on is timed (R119 R517). -/
  castOnStart : Stamp := {}
  /-- ms from T0 of the last cast-on to that instant (R119 R517). -/
  castOnLead : Nat := 0
  /-- ReadyStamp 0x2200.10 (R119). -/
  readyStamp : Stamp := {}
  /-- queued pull-in requests in order, each a coil (1 to 4) and the row of its request; PullInQueue 0x2200.11 is its length (R93 R119). -/
  queue : List (Nat × Nat) := []
  /-- coil in pull-in, 0 none (Flags bit 4) (R93 R119). -/
  pullIn : Nat := 0
  /-- start of the last pull-in (spacing, R95) (R93). -/
  lastPullIn : Option Stamp := none
  /-- outputs stay safe until a new connect command (R103). -/
  safeUntilConnect : Bool := false
  /-- hold relay set (supply connected) (R117). -/
  holdRelay : Bool := true
  /-- transport-hold flag of record 0x0006 (FRAM) (R113 R558). -/
  holdFlag : Bool := false
  /-- bind-off sequence step, 0 none (R113). -/
  bindStep : Nat := 0
  /-- previous run ended by power fail (0x0205 at the next start) (R102). -/
  prevPowerFail : Bool := false
  /-- over-voltage disconnection occurred (0x0207 at the next start) (R62). -/
  prevOverVolt : Bool := false
  /-- reference lost (0x1001 at the next start) (R30). -/
  prevRefLost : Bool := false
  /-- a bind-off was interrupted (0x0209 at the next start) (R115). -/
  prevBindOff : Bool := false
  /-- input protection has disconnected the module (R62). -/
  disconnected : Bool := false
  /-- HV_STR relays closed (cast-on step 3) (R76 R89). -/
  hvRelays : Bool := false
  /-- cast-on step that begins when the sag pause ends, 0 none (R96). -/
  stepWait : Nat := 0
  /-- state that POWER_FAIL was entered from (R103). -/
  failFrom : PowerState := .ready
  /-- the hold-up store feeds the module (R102). -/
  onStore : Bool := false
  /-- the run before ended by power fail (R272). -/
  afterFail : Bool := false
  /-- woken by the bus, and AUX_24V is not applied yet (R117). -/
  wakeWait : Bool := false
  /-- the next start enters ROM recovery with reason 4 (R549). -/
  recoveryWanted : Bool := false
  deriving DecidableEq, Repr

/-- One precision slice (R129, R154). -/
structure Slice where
  /-- end of the last complete pass; none: CalAge 0x2302 reads 0xFFFF_FFFF (R154). -/
  calAt : Option Stamp := none
  /-- gain error in ppm by gain code; that of x1 is SliceGainError 0x2303 (R129 R154). -/
  gains : Tab Int := []
  /-- offset in nV by gain code; that of x1 is SliceOffset 0x2304 (R129 R154). -/
  offsets : Tab Int := []
  /-- second-order linearity term at half scale, ppm (R129). -/
  linear : Int := 0
  /-- gain error of the last pass by gain code, ppm (R129). -/
  lastGains : Tab (Option Int) := []
  /-- the pass under way has failed a limit (R129). -/
  passBad : Bool := false
  /-- consecutive failed passes (R129). -/
  passFails : Nat := 0
  /-- consecutive passes with REF_B beyond 100 ppm (R130). -/
  refFails : Nat := 0
  /-- consecutive passes with REF_B within 100 ppm (R130). -/
  refGood : Nat := 0
  /-- bit of SlicesRetired 0x2300.03 (R135 R154). -/
  retired : Bool := false
  /-- has completed a pass since cast-on (R553). -/
  calibrated : Bool := false
  deriving DecidableEq, Repr

/-- One duty (R122, R124, R142). -/
structure Duty where
  /-- DutySlice 0x2301; 0xFF not served (R122 R154). -/
  slice : Nat := 0xFF
  /-- invalid results still to deliver (R142). -/
  settle : Nat := 0
  /-- a change has set the settling count since the last result (R142). -/
  fresh : Bool := false
  /-- place in the D6 or D7 sequence (R153). -/
  seqIdx : Nat := 0
  /-- results delivered at this sequence entry (R153). -/
  dwell : Nat := 0
  /-- every result since overSince was at overrange (R141). -/
  isOver : Bool := false
  /-- 0x0306 condition holds (R141). -/
  overMs : Bool := false
  /-- a capture window is open (R139). -/
  captureOpen : Bool := false
  /-- scheduled centre of the open window, ns of plant time (R136 R137). -/
  capAt : Nat := 0
  /-- last trigger instant taken (R136). -/
  capTook : Option Stamp := none
  deriving DecidableEq, Repr

/-- The duties at reset: slice n serves duty Dn (R128). -/
def duties0 : Tab Duty :=
  [0, 1, 2, 3, 4, 5, 6, 7].map fun n => (n, { slice := n })

/-- A result record (R141): word 0, word 1, word 2. -/
structure Result where
  /-- STAMP (R141). -/
  stamp : U32 := 0
  /-- VALUE, signed 24 bit (R141). -/
  value : Int := 0
  /-- UPD (R141). -/
  upd : Nat := 0
  /-- SETTLE (R141). -/
  settle : Bool := false
  /-- REMAIN (R141). -/
  remain : Nat := 0
  /-- slice (R141). -/
  slice : Nat := 0
  /-- input (R141). -/
  input : Nat := 0
  /-- PrecisionHeld at the result (R141). -/
  held : Bool := false
  /-- capture marker (R141). -/
  capture : Bool := false
  deriving DecidableEq, Repr

/-- One fast pair FA or FB (R145 to R150). -/
structure Pair where
  /-- PairCode 0x2400 (R154). -/
  code : Int := 0
  /-- ComparatorState 0x2401 (R154). -/
  cmp : Nat := 0
  /-- InterleaveResidual offset, 0.01 LSB (R154). -/
  residOffset : Int := 0
  /-- InterleaveResidual gain, ppm (R154). -/
  residGain : Int := 0
  /-- InterleaveResidual skew, 0.1 ps (R154). -/
  residSkew : Int := 0
  /-- offset correction of the even SAR, 0.01 LSB (R146). -/
  offA : Int := 0
  /-- offset correction of the odd SAR, 0.01 LSB (R146). -/
  offB : Int := 0
  /-- gain correction of the even SAR, ppm (R146). -/
  gainA : Int := 0
  /-- gain correction of the odd SAR, ppm (R146). -/
  gainB : Int := 0
  /-- delay line of the odd SAR's clock, steps of 0.5 ps, -400 to 400 (R146). -/
  skew : Int := 0
  /-- consecutive cycles with residuals above twice the limits (0x0401). -/
  residBad : Nat := 0
  /-- short stamp of the newest corrected sample (R143). -/
  stamp : Nat := 0
  /-- UPD of the pair's slot in the host window (R143). -/
  upd : Nat := 0
  /-- RingState 0x2403 (R149 R154). -/
  frozen : Bool := false
  /-- RingTriggersLost 0x2403.03/.04 (R149 R154). -/
  lost : U32 := 0
  /-- RingTriggerStamp 0x2404 (R154). -/
  trigStamp : Stamp := {}
  /-- RingTriggerIndex 0x2405 (R154). -/
  trigIdx : Nat := 0
  /-- recorded or frozen ring data 0x2410/0x2411, oldest first; missing entries read 0 (R149 R154). -/
  ring : List Int := []
  /-- consecutive patterns beyond 0.5 % of its duty (R150). -/
  disagree : Nat := 0
  /-- sum of row means in the present pattern (R150). -/
  sumCode : Int := 0
  /-- rows summed (R150). -/
  rows : Nat := 0
  /-- a SAR of the pair repeats one code (R150). -/
  stuck : Bool := false
  /-- instant of the pair's last event (R136 R147). -/
  evAt : Option Stamp := none
  /-- rows for which the pair has been inside its window (R354). -/
  insideRows : Nat := 0
  deriving DecidableEq, Repr

/-- Converter array and fast pairs (R120 to R154, R553, R554). -/
structure Converter where
  /-- SpareSlice 0x2300.01 (R154). -/
  spare : Nat := 8
  /-- RotationStep 0x2300.02 (R154). -/
  rotStep : Nat := 0
  /-- RotationMode 0x2300.04 (R135 R154). -/
  rotMode : Nat := 0
  /-- HandOvers 0x2300.05 (R154). -/
  handOvers : U32 := 0
  /-- HandOverMismatches 0x2300.06 (R133 R154). -/
  mismatches : U32 := 0
  /-- RefCheck 0x2300.07 (R130 R154). -/
  refCheck : Int := 0
  /-- PrecisionHeld 0x2300.08 (R553 R154). -/
  precisionHeld : Bool := false
  /-- HandOverDeferrals 0x2300.09 (R134 R154). -/
  deferrals : U32 := 0
  /-- CapturesDropped 0x2300.0A (R139 R154). -/
  capDropped : U32 := 0
  /-- measurements of the pass under way: offsets in nV, gain errors, linearity and REF_B in ppm (R129). -/
  calVals : Tab Int := []
  /-- duty of the last switch (R131). -/
  swDuty : Nat := 0
  /-- outgoing slice of the last switch (R131). -/
  swFrom : Nat := 0
  /-- Tsw of the last switch, ns of plant time (R131 R132). -/
  swAt : Option Nat := none
  /-- measurements of the pass done, 0 to 10 (R129). -/
  calIdx : Nat := 0
  /-- a hand-over phase runs (R131). -/
  hoActive : Bool := false
  /-- its target duty (R131). -/
  hoDuty : Nat := 0
  /-- its Tsw: the step's end boundary, ns of plant time (R131). -/
  hoTsw : Nat := 0
  /-- the outgoing slice's last results of the phase that are not settling, stamp and value, newest first (R131). -/
  hoOut : List (Nat × Int) := []
  /-- the last hand-over mismatched; this is the retry (R133). -/
  hoRetry : Bool := false
  /-- the hand-over is deferred by one step (R134). -/
  hoDeferred : Bool := false
  /-- modulators run (cast-on step 3) (R123). -/
  started : Bool := false
  /-- S0 to S8; unlisted is the reset slice (R129 R154). -/
  slices : Tab Slice := []
  /-- D0 to D7, slices 0 to 7 at reset (R128) (R122 R154). -/
  duties : Tab Duty := duties0
  /-- InputResult 0x2310 (R141 R154). -/
  results : Tab Result := []
  /-- CaptureResult 0x2320 (R140 R154). -/
  captures : Tab Result := []
  /-- host shadow of word 1 per slot (offset / 8); none is consumed (R144). -/
  shadows : Tab (Option Nat) := []
  /-- row start at which each line last fired by software (R136). -/
  softAt : Tab (Option Stamp) := []
  /-- per line, the scheduled and the actual centre of its newest capture, ns of plant time (R137). -/
  lineCap : Tab (Nat × Nat) := []
  /-- fast pair FA (R145). -/
  fa : Pair := {}
  /-- fast pair FB (R145). -/
  fb : Pair := {}
  deriving DecidableEq, Repr

/-- The results centred in one pattern (R157, R159, R161). -/
structure PatResults where
  /-- D0 contributions, mA (R157). -/
  ip : List Rat := []
  /-- valid I_H, mA (R159). -/
  ih : List Rat := []
  /-- a gap result (R157). -/
  gap : Bool := false
  /-- a blind result (R157). -/
  blind : Bool := false
  /-- the Hall channel was invalid in the pattern (R159). -/
  hallBad : Bool := false
  /-- valid D0 codes (R150). -/
  d0 : List Int := []
  /-- valid D2 codes (R161). -/
  v : List Int := []
  /-- valid D3 codes (R161). -/
  p : List Int := []
  /-- valid D4 codes (R161). -/
  n : List Int := []
  /-- a D2 result at overrange (R161). -/
  vOver : Bool := false
  /-- a D3 result at overrange (R161). -/
  pOver : Bool := false
  /-- a D4 result at overrange (R161). -/
  nOver : Bool := false
  deriving DecidableEq, Repr

/-- String sensing (R155 to R166). -/
structure Sensing where
  /-- Current 0x2500.01, mA; none is no value (R157 R193). -/
  current : Option Int := none
  /-- CurrentHall 0x2500.02 (R193). -/
  hall : Option Int := none
  /-- CurrentSource 0x2500.03 (R157 R193). -/
  source : Nat := 3
  /-- V_str 0x2500.04, mV (R161 R193). -/
  vStr : Option Int := none
  /-- BUS_P 0x2500.06 (R161 R193). -/
  busP : Option Int := none
  /-- BUS_N 0x2500.07 (R161 R193). -/
  busN : Option Int := none
  /-- ShuntTemp 0x2500.08, 0.01 degC, model T (R156 R193). -/
  shuntT : Option Int := none
  /-- newest valid SH_TEMP, 0.01 degC (R156). -/
  shTempLast : Option Int := none
  /-- SH_TEMP reads no value (Flags bit 0) (R156). -/
  shTempBad : Bool := false
  /-- ShuntResistance 0x2500.09, nOhm (R156 R193). -/
  rSh : Option Nat := none
  /-- Flags bit 1 (invalid from cast-on until D1's first valid result); the object reads 0 at reset by R193, bit 1 by R158 (R158). -/
  hallInvalid : Bool := true
  /-- D1 has given a valid result since cast-on (R158). -/
  hallSeen : Bool := false
  /-- HALL_REF outside its range (R158). -/
  hallRefBad : Bool := false
  /-- HALL_SUP outside its range (R158). -/
  hallSupBad : Bool := false
  /-- newest D1 result at overrange (R158). -/
  hallOver : Bool := false
  /-- no valid D1 result for 1 ms (R158). -/
  hallLate : Bool := false
  /-- Flags bit 2 (R159). -/
  crossFail : Bool := false
  /-- consecutive failing patterns (R159). -/
  hallFailRun : Nat := 0
  /-- Flags bit 3 (R160). -/
  d0Over : Bool := false
  /-- Flags bit 4 (R165). -/
  blind : Bool := false
  /-- CurrentAtPattern 0x2500.0C (R157 R193). -/
  currentAt : Option Int := none
  /-- Charge 0x2501.01, uC (journal, delivered 0) (R163 R193 R558). -/
  charge : Int := 0
  /-- ChargeIn 0x2501.02 (R163). -/
  chargeIn : Int := 0
  /-- ChargeOut 0x2501.03 (R163). -/
  chargeOut : Int := 0
  /-- sub-microcoulomb remainder of ChargeIn (R163). -/
  remIn : Rat := 0
  /-- sub-microcoulomb remainder of ChargeOut (R163). -/
  remOut : Rat := 0
  /-- sub-microcoulomb remainder of Charge (R163). -/
  remNet : Rat := 0
  /-- ChargeStamp 0x2501.04 (journal) (R166 R193). -/
  chargeStamp : Stamp := {}
  /-- short stamp of the previous D0 result (R163). -/
  lastD0 : Option Nat := none
  /-- the first valid D0 result has come (R163). -/
  integrating : Bool := false
  /-- last valid I_P, mA (R165). -/
  lastValidIP : Rat := 0
  /-- short stamp and value (mA) of the valid I_H of the last 20 ms and of the one before, newest first (R164). -/
  ihHist : List (Nat × Rat) := []
  /-- I_P - I_H of the last 16 valid D0 results, newest first (R164). -/
  biasHist : List Rat := []
  /-- a gap runs (R164). -/
  inGap : Bool := false
  /-- b of the running gap (R164). -/
  gapBias : Rat := 0
  /-- length of the running gap, ns (R164). -/
  gapNs : Nat := 0
  /-- GapCount 0x2502.01 (R193). -/
  gapCount : U32 := 0
  /-- GapResults 0x2502.02 (R193). -/
  gapResults : U32 := 0
  /-- LongestGap 0x2502.03, ns (R193). -/
  longestGap : Nat := 0
  /-- BlindGapResults 0x2502.04 (R193). -/
  blindResults : U32 := 0
  /-- GapCharge 0x2502.05 before truncation, uC (R193). -/
  gapCharge : Rat := 0
  /-- results centred in the present pattern (R157 R161). -/
  pat : PatResults := {}
  /-- results centred in the previous pattern, of which the module publishes (R157 R161). -/
  prev : PatResults := {}
  /-- previous pattern's mean current, mA (self heat) (R156). -/
  prevMean : Rat := 0
  /-- bit per tap (STR, BUS_P, BUS_N) whose 0x0507 condition holds (R162). -/
  divBad : Nat := 0
  /-- consecutive deviating passes per tap (R162). -/
  divRuns : Tab Nat := []
  /-- consecutive passes within 0.1 % per tap (R162). -/
  divGood : Tab Nat := []
  /-- the next BUS_CAL pass checks D4 (R162). -/
  divBusN : Bool := false
  deriving DecidableEq, Repr

/-- A NEED heard from another member (R175). -/
structure TokenNeed where
  /-- node ID (R174). -/
  node : Nat := 0
  /-- seconds for which the NEED still counts (3 when heard) (R175). -/
  fresh : Nat := 0
  deriving DecidableEq, Repr

/-- Insulation monitor and token (R167 to R177). -/
structure Insulation where
  /-- state B of the cycle runs (R167). -/
  inB : Bool := false
  /-- a = V_P / V_N of state A (R167). -/
  ratioA : Rat := 0
  /-- Riso 0x2600.01, ohm (R169 R193). -/
  riso : Option Nat := none
  /-- Rp 0x2600.02 (R193). -/
  rp : Option Nat := none
  /-- Rn 0x2600.03 (R193). -/
  rn : Option Nat := none
  /-- Ce 0x2600.04, nF (R168 R193). -/
  ce : Option Nat := none
  /-- ResultStamp 0x2600.05 (R193). -/
  stamp : Stamp := {}
  /-- ResultSource 0x2600.06 (R193). -/
  source : Nat := 0
  /-- TokenState 0x2600.07 (R193). -/
  tokenState : Nat := 0
  /-- Flags bit 0 (R169). -/
  belowRange : Bool := false
  /-- Flags bit 1 (R169). -/
  aboveRange : Bool := false
  /-- Flags bit 2 (R171). -/
  earthBad : Bool := false
  /-- Flags bit 3 (R168). -/
  cycleVoid : Bool := false
  /-- Flags bit 4 (R172). -/
  busResult : Bool := false
  /-- TokenHolder 0x2600.09 (R193). -/
  holder : Nat := 0
  /-- TokenSequence 0x2600.0A (R193). -/
  sequence : U32 := 0
  /-- cycles in a row above 1.25 x PrewarnLimit (R170). -/
  prewarnClear : Nat := 0
  /-- cycles in a row above 1.25 x AlarmLimit (R170). -/
  alarmClear : Nat := 0
  /-- own injection network connected (R172 R176). -/
  connected : Bool := false
  /-- NEED messages heard within 3 s (R175). -/
  needs : List TokenNeed := []
  /-- node a PASS was sent to (R175). -/
  passTo : Nat := 0
  /-- the foreign-injection check watches V_P (R176). -/
  checking : Bool := false
  /-- a lower CLAIM or a HOLD was heard in the claim window (R175). -/
  claimLost : Bool := false
  /-- V_str of the previous pattern (2 % step) (R168). -/
  lastVstr : Option Int := none
  /-- contactor commands of the previous pattern, bit n - 1 for coil n (R168). -/
  lastContacts : Nat := 0
  /-- IsoBusId of the previous pattern (R173). -/
  lastBus : Nat := 0
  deriving DecidableEq, Repr

/-- Precharge and contactor supervisor (R178 to R191). -/
structure Contactor where
  /-- SequenceState 0x2700.01 (R179 R193). -/
  seq : Nat := 0
  /-- V_bus0, mV (R179). -/
  vBus0 : Int := 0
  /-- DV0, mV (R179). -/
  dv0 : Int := 0
  /-- largest |V_bus - V_bus0| in the weld window, mV (R190). -/
  maxDvBus : Int := 0
  /-- largest |I| in the weld window, mA (R190). -/
  maxWeldI : Int := 0
  /-- V_bus of the first pattern of the weld window, mV (R190). -/
  weldBase : Option Int := none
  /-- the pattern running 150 ms after the MAIN_NEG pull-in is the last that may begin the precharge time (R183). -/
  curDue : Bool := false
  /-- precharge time runs (R183). -/
  timing : Bool := false
  /-- PrechargeTime 0x2700.02 (R183 R193). -/
  preMs : Nat := 0
  /-- consecutive patterns above the upper bound (R183). -/
  slowRun : Nat := 0
  /-- consecutive patterns below the lower bound (R183). -/
  fastRun : Nat := 0
  /-- consecutive resistance estimates off by more than 20 % (R185). -/
  resRun : Nat := 0
  /-- |BUS_N| within ContactVoltageLimit since the MAIN_NEG pull-in (R179). -/
  closed3 : Bool := false
  /-- precharge done (R184). -/
  preDone : Bool := false
  /-- patterns passed in step 5; 4 once a check has failed (R179). -/
  step5 : Nat := 0
  /-- consecutive patterns above ContactVoltageLimit (R182). -/
  contactRun : Nat := 0
  /-- ResistorEnergy 0x2700.03, J (journal, delivered 0) (R187 R193 R558). -/
  energy : Rat := 0
  /-- PrechargeREstimate 0x2700.04, mOhm (R185 R193). -/
  estimate : Option Nat := none
  /-- EnergyWait 0x2700.05, ms (R188 R193). -/
  wait : Nat := 0
  /-- WeldTestSkipped 0x2700.06 (R190 R193). -/
  skipped : Nat := 0
  /-- weld found: bit 0 MAIN_NEG, bit 1 positive path; refuses closing until the latch is released (R191). -/
  weld : Nat := 0
  /-- |I| >= WeldCurrent at T0 of the opening (R190). -/
  openI : Bool := false
  /-- |I| >= WeldCurrent when both main contactors were commanded off (R190). -/
  openBothI : Bool := false
  /-- the opening that runs is sequenced by the supervisor (R181). -/
  sequenced : Bool := false
  /-- MAIN_POS has been commanded off too: the both-welded test is next (R190). -/
  opening2 : Bool := false
  deriving DecidableEq, Repr

/-- One CMU (R204 to R213, R237). -/
structure Cmu where
  /-- state: 0 absent, 1 ROM, 2 loading, 3 running, 4 unreachable, 5 foreign (R237). -/
  state : Nat := 0
  /-- lowest loader version (R237). -/
  lowVer : Nat := 0
  /-- highest loader version (R237). -/
  highVer : Nat := 0
  /-- DATA status (R201 R237). -/
  status : Nat := 0
  /-- link bits (R201 R237). -/
  link : Nat := 0
  /-- load rounds (R213 R237). -/
  rounds : Nat := 0
  /-- CmuSerial 0x2804 (R237). -/
  serial : Nat := 0
  /-- CmuDieTemp 0x2805 (R237). -/
  dieTemp : Option Int := none
  /-- DelayFromA 0x2802, 0.1 ns (R209 R237). -/
  delayA : Option Nat := none
  /-- DelayFromB 0x2803 (R209 R237). -/
  delayB : Option Nat := none
  /-- digest of the running image (R200). -/
  digest : List Nat := []
  /-- turnaround time (R200). -/
  turnNs : Nat := 0
  /-- round trips measured from port A, 0.1 ns (R209). -/
  echoA : List Nat := []
  /-- round trips measured from port B (R209). -/
  echoB : List Nat := []
  /-- spreads in a row at port A (R209). -/
  spreadA : Nat := 0
  /-- spreads in a row at port B (R209). -/
  spreadB : Nat := 0
  /-- CONFIG acknowledged (R205). -/
  configured : Bool := false
  /-- pattern of its last accepted DATA (R205). -/
  delivered : Option Nat := none
  /-- its last DATA came after the cut-off and waits for the next one (R218). -/
  lateFrame : Bool := false
  /-- HOLD acknowledged (R235). -/
  held : Bool := false
  /-- to be loaded (R211). -/
  needsLoad : Bool := false
  /-- its LOAD_STATUS of the round is awaited (R213). -/
  awaits : Bool := false
  /-- its last LOAD_STATUS reported missing blocks (R213). -/
  missing : Bool := false
  /-- bitmap of its missing blocks in its last LOAD_STATUS (R200 R212). -/
  missBits : List Nat := []
  /-- its load has failed since the last enumeration (R212 R213). -/
  loadBad : Bool := false
  /-- pattern starts, ns, whose DATA showed holdover in the last second (R216 R233). -/
  holdHist : List Nat := []
  /-- a group of it has reached age 4 since its last valid DATA (R229). -/
  lost : Bool := false
  /-- the DATA frame accepted last, which may have to go to the twin (R379). -/
  frame : Option CellData := none
  /-- CRC of the DATA frame accepted for the pattern (R368). -/
  dataCrc : Nat := 0
  /-- bleeding mask of the last DATA (R201). -/
  bleedMask : Nat := 0
  /-- bleeding masks of the DATA accepted since the last schedule, newest first (R284 R285). -/
  masks : List Nat := []
  /-- budget 0 until DATA status bit 1 clears (R284). -/
  dieStop : Bool := false
  /-- sequence byte of its BALANCE frames (R283). -/
  seqNo : Nat := 0
  /-- its bleeding changed: BALANCE at the next pattern (R283). -/
  sendNow : Bool := false
  /-- CmuBleedPower 0x2A20, mW (R281 R304). -/
  power : Nat := 0
  /-- CmuBudget 0x2A21, mW (R282 R304). -/
  budget : Nat := 0
  deriving DecidableEq, Repr

/-- One cell group at the cell link and the balancer (R219, R237, R304). -/
structure Group where
  /-- voltage, 100 uV; none reads 0xFFFF (R237). -/
  voltage : Option Nat := none
  /-- voltage before the frame of this pattern, where that is not agreed (R379). -/
  heldV : Option Nat := none
  /-- age (R219 R237). -/
  age : Nat := 255
  /-- age before the cut-off (R379). -/
  heldAge : Nat := 255
  /-- GroupRecord flags (bit 0 stale .. 5 late) (R237). -/
  flags : Nat := 0
  /-- sample short stamp (R237). -/
  stamp : U32 := 0
  /-- its stamp (R379). -/
  heldStamp : U32 := 0
  /-- data accepted: 0 none, 1 fresh in this pattern, 2 late (used next pattern at age 1) (R218 R219). -/
  fresh : Nat := 0
  /-- consecutive fresh samples beyond a CMU threshold (R337). -/
  sf4 : Nat := 0
  /-- fresh patterns above the hard cell limit (R323). -/
  hiRun : Nat := 0
  /-- fresh patterns below the hard cell limit (R323). -/
  loRun : Nat := 0
  /-- need, uC (R277 R304). -/
  need : Nat := 0
  /-- bled charge since reset, uC (R285 R304). -/
  bled : Rat := 0
  /-- bleed charge not yet taken by the group's update, uC (R243 R285). -/
  bleedNow : Rat := 0
  /-- commanded bleed time, 100 ms (R283 R304). -/
  cmdTime : Nat := 0
  /-- GroupBalance flags (R304). -/
  bflags : Nat := 0
  /-- bleeds by the bands (R278). -/
  bleeding : Bool := false
  /-- patterns since the frame with the present command was sent (R284). -/
  cmdPatterns : Nat := 0
  /-- consecutive patterns of disagreement with the DATA mask (R284). -/
  confRun : Nat := 0
  /-- stuck bleed switch: excluded as reference until reset (R284). -/
  stuck : Bool := false
  deriving DecidableEq, Repr

/-- One cell sensor (R219, R289 to R295). -/
structure Sensor where
  /-- temperature, 0.01 degC (R237). -/
  temp : Option Int := none
  /-- temperature before the frame of this pattern, where that is not agreed (R379). -/
  heldT : Option Int := none
  /-- age (R219 R237). -/
  age : Nat := 255
  /-- age before the cut-off (R379). -/
  heldAge : Nat := 255
  /-- fresh data accepted in this pattern (R219). -/
  fresh : Bool := false
  /-- last received as no value (R289). -/
  noVal : Bool := false
  /-- a reading has come since the cast-on (R289). -/
  read : Bool := false
  /-- used value (R290 R304). -/
  used : Option Int := none
  /-- rate: 0 1 s, 1 100 ms, 2 10 ms (R293 R304). -/
  rate : Nat := 0
  /-- a first distance has set the rate (R293). -/
  known : Bool := false
  /-- state bits (0 invalid .. 4 absent) (R304). -/
  state : Nat := 0
  /-- patterns valid without a break (R295 R304). -/
  validPat : Nat := 0
  /-- thresholds active (0-3 throttle, 4 high, 5 low) (R292 R304). -/
  act : Nat := 0
  /-- run counter per threshold (R292). -/
  runs : Tab Nat := []
  /-- consecutive patterns at or above CellCriticalTemp (R301). -/
  critRun : Nat := 0
  /-- SF7's own window edges active (bit 0 high, bit 1 low) (R340). -/
  siAct : Nat := 0
  /-- SF7's run counters (R340). -/
  siRuns : Tab Nat := []
  /-- freeze source (R295). -/
  freeze : Bool := false
  deriving DecidableEq, Repr

/-- Cell link engine (R194 to R237, R555). -/
structure CellLink where
  /-- RingState 0x2800.01 (R204 R237). -/
  ring : RingState := .off
  /-- CmuCountFound 0x2800.02 (R237). -/
  found : Nat := 0
  /-- BreakAfter 0x2800.03 (R237). -/
  breakAfter : Nat := 0xFF
  /-- BreakBefore 0x2800.04 (R237). -/
  breakBefore : Nat := 0xFF
  /-- RingDriver 0x2800.05, true this unit (R196 R237). -/
  driver : Bool := false
  /-- DiscardedFrames 0x2800.06 (R227 R237). -/
  discarded : U32 := 0
  /-- LateFrames 0x2800.07 (R218 R237). -/
  late : U32 := 0
  /-- StampMismatches 0x2800.08 (R218 R237). -/
  mismatches : U32 := 0
  /-- RingRenewals 0x2800.09 (R229 R237). -/
  renewals : U32 := 0
  /-- StaleGroups 0x2800.0A (R219 R237). -/
  stale : Nat := 0
  /-- CellDataLost 0x2800.0B (R228 R237). -/
  dataLost : Bool := false
  /-- LoaderVersion 0x2800.0C (R212 R237). -/
  loaderVersion : Nat := 0
  /-- UrgentReceived 0x2800.0D (R237). -/
  urgentReceived : U32 := 0
  /-- UrgentIgnored 0x2800.0E (R221 R237). -/
  urgentIgnored : U32 := 0
  /-- CmuImageDigest 0x2806; missing bytes read 0 (R237). -/
  imageDigest : List Nat := []
  /-- CMU 1 to 32 (R237). -/
  cmus : Tab Cmu := []
  /-- cell groups 0 to 511 (R237). -/
  groups : Tab Group := []
  /-- sensors 0 to 255 (R237). -/
  sensors : Tab Sensor := []
  /-- step of the ring procedure that runs, 0 none (R205). -/
  proc : Nat := 0
  /-- the procedure is a renewal (R229). -/
  renewing : Bool := false
  /-- a renewal starts at the next pattern start (R229 R236). -/
  renewDue : Bool := false
  /-- a timed-out renewal waits its 1 s (R229). -/
  retryDue : Bool := false
  /-- enumeration from port B (step 4) (R205). -/
  fromB : Bool := false
  /-- next address to assign (R205). -/
  nextAddr : Nat := 1
  /-- last address assigned from port A (R205). -/
  lastA : Nat := 0
  /-- the probe ENUM after address 32 is out (R206). -/
  probe : Bool := false
  /-- an IDENT answered the probe: more than 32 units are on the ring (R206 R208). -/
  tooMany : Bool := false
  /-- number of the foreign unit that ended the enumeration from port A, 0 none (R207). -/
  foreignAt : Nat := 0
  /-- the enumeration found the ring closed (R205). -/
  foundClosed : Bool := false
  /-- resend rounds used in the present load (R213). -/
  resends : Nat := 0
  /-- the ring runs in chain mode (R203). -/
  chainMode : Bool := true
  /-- frames that wait for a row start in chain mode (R203). -/
  txWait : List RingTx := []
  /-- a frame has left in this row (R203). -/
  txRow : Bool := false
  /-- frame counter of the module (R200). -/
  ringSeq : Nat := 0
  /-- plant time, ns, until which only IDLE leaves (R205). -/
  quietUntil : Nat := 0
  /-- MODE closed ends step 5 at the next row start (R205). -/
  modeDue : Bool := false
  /-- end of the twin's measuring slot, ns (R205). -/
  slotEnd : Option Nat := none
  /-- this unit, which repeats, measures in its slot (R205). -/
  echoSlot : Bool := false
  /-- TIME of the pattern has not left yet (R215). -/
  timeDue : Bool := false
  /-- CMU image copied to RAM at step 2 (R211 R528). -/
  image : List Nat := []
  /-- block size of the present load (R212). -/
  loadSize : Nat := 0
  /-- triples received since the last row start (R222). -/
  urgentNow : List Urgent := []
  /-- triples latched at the row start (R222). -/
  urgentRow : List Urgent := []
  /-- a break was detected; MODE chain at the next row start (R224). -/
  breakDue : Bool := false
  /-- last CMU that port A reaches after the break, 0 none (R224). -/
  breakLastA : Nat := 0
  /-- first CMU that port B reaches after the break, 0 none (R224). -/
  breakFirstB : Nat := 0
  /-- consecutive patterns with every break locked (R226). -/
  closeDwell : Nat := 0
  /-- an age has reached 4 during the break (R226). -/
  breakAged : Bool := false
  /-- patterns of the discards of the last 1,000 patterns (R227). -/
  discardHist : List U32 := []
  /-- the next TIME carries the step flag (R217). -/
  stepFlag : Bool := false
  /-- StepState 0x2820.01 (R237). -/
  stepState : Nat := 0
  /-- StepId 0x2820.02 (R237). -/
  stepId : Nat := 0
  /-- StepInstant 0x2820.03 (R237). -/
  stepTs : Stamp := {}
  /-- STEP leaves at the next row start (R231). -/
  stepSend : Bool := false
  /-- StepGroupsComplete 0x2820.04 (R237). -/
  stepGroups : Nat := 0
  /-- StepRefused 0x2820.05 (R232 R237). -/
  stepRefused : U32 := 0
  /-- capture marked incomplete (holdover sample) (R233). -/
  stepMarked : Bool := false
  /-- StepData 0x2822, per group (R233 R237). -/
  stepData : Tab (List Nat) := []
  /-- D0 mean of the interval before, mA (R231). -/
  localPrev : Option Rat := none
  /-- D0 results of the 1 ms interval that runs (R231). -/
  localNow : List Rat := []
  deriving DecidableEq, Repr

/-- One group context of the fabric (R238). -/
structure Ctx where
  /-- the context has started (R250) or was restored (R556) (R250). -/
  born : Bool := false
  /-- state of charge, binary64 (R238). -/
  z : Rat := 0
  /-- first polarisation voltage, V (R238). -/
  va : Rat := 0
  /-- second polarisation voltage, V (R238). -/
  vb : Rat := 0
  /-- hysteresis voltage, V (R238). -/
  h : Rat := 0
  /-- covariance of (z, va, vb, h), row major (R238). -/
  p : List Rat := []
  /-- learned capacity Cg, uC (R238). -/
  cap : Rat := 0
  /-- relative variance of Cg (R238). -/
  sig2 : Rat := 0
  /-- resistance ratio (R238). -/
  kr : Rat := 1
  /-- 100 ms impedance, uOhm (R238). -/
  z100 : Option Rat := none
  /-- counted group charge, uC, binary64 (R238 R244). -/
  qg : Rat := 0
  /-- last valid temperature of the group, 0.01 degC (R243). -/
  tg : Int := 2500
  /-- GroupState flags (R275). -/
  flags : Nat := 1
  /-- published 2 sigma (R248 R275). -/
  sigma2 : Nat := 0xFFFF
  /-- published Confidence, 0.1 % (R248 R275). -/
  conf : Nat := 0
  /-- published Rs, uOhm (R265 R275). -/
  rs : Nat := 0
  /-- rejections in a row (R247). -/
  rejectRun : Nat := 0
  /-- ChargeIn not yet taken, uC (R244). -/
  accIn : Int := 0
  /-- ChargeOut not yet taken, uC (R244). -/
  accOut : Int := 0
  /-- time since the last update, ns (R244). -/
  accNs : Nat := 0
  /-- Charge of the SOC record, until the first update after a restore, uC (R272). -/
  catchNet : Option Int := none
  /-- full stamp of that SOC record (R272). -/
  catchAt : Stamp := {}
  /-- flagged for the next pattern at the end of its update (R252). -/
  flagged : Bool := false
  /-- updated in the present pattern (R251). -/
  done : Bool := false
  /-- consecutive patterns without an update (R253). -/
  noUpd : Nat := 0
  /-- updated since FabricState last became 2 (R557). -/
  everDone : Bool := false
  /-- Q_dn of its last update, uC (R268). -/
  qdn : Rat := 0
  /-- Q_up of its last update, uC (R268). -/
  qup : Rat := 0
  /-- patterns of rest counted (R255). -/
  restPat : Nat := 0
  /-- Tg at the start of the rest (R257). -/
  restTg : Int := 0
  /-- Tg moved by more than 2 degC, or a stale voltage was used (R257). -/
  restBad : Bool := false
  /-- voltages of the last 100 patterns, newest first (R256). -/
  restV : List Nat := []
  /-- V1, V (R256). -/
  v1 : Option Rat := none
  /-- V2, V (R256). -/
  v2 : Option Rat := none
  /-- this rest has come to its duration (R257). -/
  restTaken : Bool := false
  /-- z_ref, sigma_ref, q_ref (R260). -/
  ref : Option (Rat × Rat × Rat) := none
  /-- reference stamp (R260). -/
  refStamp : Stamp := {}
  /-- rest point waiting for its learning event: z_rest, sigma_rest, qg (R260). -/
  learn : Option (Rat × Rat × Rat) := none
  /-- instant of that rest point (R260). -/
  learnStamp : Stamp := {}
  /-- capacity and relative variance of an accepted event, which enter at the next pattern start (R260 R261). -/
  learned : Option (Rat × Rat) := none
  /-- no fresh voltage has come since the restore: the off time may count as a rest (R259). -/
  offTry : Bool := false
  /-- pattern start in ns, z and Tg of the last updates, newest first (R265). -/
  hist : List (Nat × Rat × Int) := []
  deriving DecidableEq, Repr

/-- Estimation fabric string context (R238 to R275, R556, R557). -/
structure Fabric where
  /-- FabricState 0x2900.01 (R275). -/
  state : Nat := 0
  /-- ContextsSkipped 0x2900.02 (R253 R275). -/
  skipped : U32 := 0
  /-- PatternDuration 0x2900.03 (R275). -/
  durationNs : Nat := 0
  /-- PatternDurationMax 0x2900.04 (R275). -/
  durationMax : Nat := 0
  /-- RoundRobinStart 0x2900.05 (R251 R275). -/
  rrStart : Nat := 0
  /-- groups of the pattern that no lane has taken yet, in start order (R251). -/
  order : List Nat := []
  /-- groups that the lanes work on (R251). -/
  running : List Nat := []
  /-- FlaggedCount 0x2900.06 (R252 R275). -/
  flagged : Nat := 0
  /-- RestAge 0x2900.07 in patterns (journal) (R266 R275). -/
  restAgePat : Nat := 0
  /-- LastRestStamp 0x2900.08 (journal) (R258 R275). -/
  lastRest : Stamp := {}
  /-- SteepLowEnd 0x2900.09 (R266 R275). -/
  steepLow : Nat := 0
  /-- SteepHighStart 0x2900.0A (R266 R275). -/
  steepHigh : Nat := 0xFFFF
  /-- LearnedStateSource 0x2900.0B (R275). -/
  learnedSource : Nat := 0
  /-- ModelCheckComputed 0x2900.0C (R241 R275). -/
  modelCheck : Nat := 0
  /-- the records have been restored: LearnedStateDigest is formed (R273 R275). -/
  digestOn : Bool := false
  /-- the records' format differs and no transfer has come yet (R272). -/
  formatBad : Bool := false
  /-- stamp of the newest SOC record, until a main contactor closes (R259). -/
  offFrom : Option Stamp := none
  /-- LearnedStateReset acts at the next pattern start (R274). -/
  resetDue : Bool := false
  /-- DispatchableSoc output, binary64 fraction (R269 R275). -/
  dispSoc : Rat := 0
  /-- raw value (R269 R275). -/
  dispRaw : Rat := 0
  /-- ChargeToEmpty 0x2901.03 (R269 R275). -/
  qdn : Option Rat := none
  /-- ChargeToFull 0x2901.04 (R269 R275). -/
  qup : Option Rat := none
  /-- WeakestGroup 0x2901.05 (R269 R275). -/
  weakest : Nat := 0xFFFF
  /-- StrongestGroup 0x2901.06 (R269 R275). -/
  strongest : Nat := 0xFFFF
  /-- SmoothedCurrent, mA (R268 R275). -/
  iBar : Option Rat := none
  /-- MinGroupSoc 0x2901.08 (R275). -/
  minSoc : Nat := 0
  /-- MaxGroupSoc 0x2901.09 (R275). -/
  maxSoc : Nat := 0
  /-- MinConfidence 0x2901.0A (R275). -/
  minConf : Nat := 0
  /-- MinCapacity 0x2901.0B (R275). -/
  minCap : Option Nat := none
  /-- MaxGroupRs 0x2901.0C (R275). -/
  maxRs : Option Nat := none
  /-- OcvSum 0x2901.0D (R275). -/
  ocvSum : Option Int := none
  /-- RsSum 0x2901.0E (R275). -/
  rsSum : Option Nat := none
  /-- MeanSoc 0x2901.0F (R275). -/
  meanSoc : Nat := 0
  /-- StringFlags 0x2901.10 (R275). -/
  flags : Nat := 0
  /-- the output takes raw at once in the first valid pattern (R269). -/
  outputFree : Bool := true
  /-- the smoothed current takes the first pattern mean (R268). -/
  smoothFree : Bool := true
  /-- the string head of this pattern has run (R243). -/
  headRun : Bool := false
  /-- the cut-off has come; its work follows the agreement of the cell data (R379 R251). -/
  headDue : Bool := false
  /-- the string tail of this pattern has run (R251). -/
  tailRun : Bool := false
  /-- Dt of the head, ns (R243). -/
  headDt : Nat := 0
  /-- i0, mA (R243). -/
  headI0 : Option Int := none
  /-- ChargeIn at the last head, uC (R243). -/
  headIn : Int := 0
  /-- ChargeOut at the last head, uC (R243). -/
  headOut : Int := 0
  /-- the twin's ChargeIn and ChargeOut at the last head, uC (R243 R377). -/
  twinTotals : Option (Int × Int) := none
  /-- previous pattern-start instant, plant ns (R243). -/
  patStamp : Option Nat := none
  /-- the group contexts (R238). -/
  ctx : Tab Ctx := []
  /-- FabricStop value to act at the next pattern start (R254). -/
  stopDue : Option Bool := none
  /-- LastLearnGroup 0x2920.01 (R275). -/
  lastGroup : Nat := 0xFFFF
  /-- LastLearnStamp 0x2920.02 (R275). -/
  lastLearn : Stamp := {}
  /-- LastLearnMeasured 0x2920.03 (R275). -/
  lastMeasured : Option Rat := none
  /-- LastLearnResult 0x2920.04 (R275). -/
  lastResult : Option Rat := none
  /-- CapacityEvents 0x2920.05 (R275). -/
  capEvents : U32 := 0
  /-- CapacityRejected 0x2920.06 (R262 R275). -/
  capRejected : U32 := 0
  /-- StepsUsed 0x2921.01 (R264 R275). -/
  stepsUsed : U32 := 0
  /-- StepsRejected 0x2921.02 (R264 R275). -/
  stepsRejected : U32 := 0
  /-- LastStepInstant 0x2921.03 (R275). -/
  lastStep : Stamp := {}
  /-- LastStepDeltaI 0x2921.04 (R275). -/
  lastDelta : Option Int := none
  /-- ChargeIn at the pattern start, uC (R243). -/
  snapIn : Int := 0
  /-- ChargeOut at the pattern start, uC (R243). -/
  snapOut : Int := 0
  /-- Charge at the pattern start, uC (R272). -/
  snapNet : Int := 0
  /-- sum and count of the D0 results around each millisecond, newest first (R263). -/
  msHist : List (Nat × Rat × Nat) := []
  /-- groups whose present rest gave a valid point (R258). -/
  restQualified : List Nat := []
  /-- an IMP value changed since the last IMP write (R270). -/
  impChanged : Bool := false
  deriving DecidableEq, Repr

/-- Balancing scheduler (R276 to R285, R304). -/
structure Balancer where
  /-- BalanceState 0x2A00.01 (R304). -/
  state : Nat := 0
  /-- ReferenceGroup 0x2A00.02 (R304). -/
  refGroup : Nat := 0xFFFF
  /-- GroupsBleeding 0x2A00.03 (R304). -/
  bleedingCount : Nat := 0
  /-- TotalNeed 0x2A00.04, uC (R304). -/
  totalNeed : Nat := 0
  /-- BledCharge 0x2A00.05, uC (R285 R304). -/
  bledCharge : Rat := 0
  /-- BleedMismatches 0x2A00.06 (R284 R304). -/
  mismatches : U32 := 0
  /-- rest patterns in a row of the string (R280). -/
  restPat : Nat := 0
  deriving DecidableEq, Repr

/-- One cooling output (R69, R296, R297). -/
structure Pwm where
  /-- PwmDuty 0x2B21, % (R69 R304). -/
  duty : Nat := 0
  /-- PwmOffCount 0x2B22 (R297 R304). -/
  offCount : Nat := 0
  /-- turned off in overcurrent (R297). -/
  off : Bool := false
  deriving DecidableEq, Repr

/-- One local sensor TS1 to TS8, or the board sensor (R287). -/
structure LocalT where
  /-- sum of this pattern's samples (R287). -/
  sum : Int := 0
  /-- samples taken in this pattern (R287). -/
  n : Nat := 0
  /-- a sample of this pattern was open or short (R75). -/
  bad : Bool := false
  /-- LocalTemp 0x2B20 or BoardTemp 0x2B00.09 (R287 R304). -/
  value : Option Int := none
  /-- LocalLimit threshold active (R292). -/
  act : Bool := false
  /-- its run counter (R292). -/
  run : Nat := 0
  /-- its rate: 0 1 s, 1 100 ms, 2 10 ms (R293). -/
  rate : Nat := 0
  /-- a first distance has set its rate (R293). -/
  known : Bool := false
  deriving DecidableEq, Repr

/-- Thermal manager (R286 to R302, R304). -/
structure Thermal where
  /-- ThrottleLevel 0x2B00.01 (R294 R304). -/
  level : Nat := 0
  /-- ThrottleFactorNow 0x2B00.02 (R294 R304). -/
  factor : Nat := 100
  /-- HottestSensor 0x2B00.03 (R304). -/
  hotSensor : Nat := 0xFFFF
  /-- HottestTemp 0x2B00.04 (R304). -/
  hotTemp : Option Int := none
  /-- ColdestSensor 0x2B00.05 (R304). -/
  coldSensor : Nat := 0xFFFF
  /-- ColdestTemp 0x2B00.06 (R304). -/
  coldTemp : Option Int := none
  /-- frozen level (Flags bit 0) (R295). -/
  frozen : Option Nat := none
  /-- the freeze source is valid again, RecoverTime runs (R295). -/
  recovering : Bool := false
  /-- Flags bit 1 (R298 R304). -/
  windowClosed : Bool := false
  /-- Flags bit 2; the window is closed from reset (R299) where R304 gives Flags 0 (R299 R304). -/
  nvClosed : Bool := true
  /-- Flags bit 3 (R291 R304). -/
  zeroEnvelope : Bool := false
  /-- Flags bit 4 (record 0x0006) (R302 R304 R558). -/
  cellLatch : Bool := false
  /-- Flags bit 5 (record 0x0006) (R302 R304 R558). -/
  junctionLatch : Bool := false
  /-- SubstitutedCount 0x2B00.08 (Flags bit 6) (R304). -/
  substituted : Nat := 0
  /-- JunctionTemp 0x2B00.0A (R304). -/
  junction : Option Int := none
  /-- JunctionMax 0x2B00.0B (R304). -/
  junctionMax : Option Int := none
  /-- consecutive samples above 125.00 degC (R301). -/
  junctionRun : Nat := 0
  /-- consecutive patterns inside the reopening band (R299). -/
  nvRun : Nat := 0
  /-- board sensor (R288). -/
  board : LocalT := {}
  /-- TS1 to TS8 (R287). -/
  locals : Tab LocalT := []
  /-- PWM1 to PWM4 (R296). -/
  pwm : Tab Pwm := []
  /-- CoolingDemand 0x2B00.0F (R297 R304). -/
  cooling : Nat := 0
  /-- HeatingDemand 0x2B00.10 (R297 R304). -/
  heating : Nat := 0
  /-- ShutdownStamp 0x2B00.11 (FRAM) (R302 R304). -/
  shutStamp : Stamp := {}
  /-- ShutdownSensor 0x2B00.12 (FRAM); 0xFFFF none (R302 R304). -/
  shutSensor : Nat := 0xFFFF
  /-- GroupTemp 0x2B18 (R286 R304). -/
  groupT : Tab (Option Int) := []
  deriving DecidableEq, Repr

/-- One setpoint lease (R316). -/
structure Lease where
  /-- class (R316). -/
  cls : Nat := 0
  /-- node ID of the session that wrote it (R316). -/
  node : Nat := 0
  /-- ConnectIntent (R316). -/
  intent : Nat := 0
  /-- Ttl as written, s (R316). -/
  ttl : Nat := 0
  /-- remaining Ttl in rows (R316 R330). -/
  rows : Nat := 0
  /-- Sequence (R316). -/
  seq : U32 := 0
  /-- ChargeCap (R316). -/
  chargeCap : Nat := 0xFFFFFFFF
  /-- DischargeCap (R316). -/
  dischargeCap : Nat := 0xFFFFFFFF
  /-- SocMin (R316). -/
  socMin : Nat := 0
  /-- SocMax (R316). -/
  socMax : Nat := 0xFFFF
  /-- RestAnswer (R316). -/
  restAnswer : Nat := 0
  /-- RestStart (R316). -/
  restStart : Stamp := {}
  /-- stamp of the last write (R330). -/
  written : Stamp := {}
  deriving DecidableEq, Repr

/-- An envelope record (R306). -/
structure Envelope where
  /-- Flags (R306). -/
  flags : Nat := 0
  /-- Version; 0 before the first publication (all 0 at reset) (R306 R330). -/
  version : Nat := 0
  /-- NodeId (R306). -/
  node : Nat := 0
  /-- Pattern (R306). -/
  pattern : U32 := 0
  /-- ChargeLimit 2 s (R306). -/
  charge2 : Nat := 0
  /-- ChargeLimit 10 s (R306). -/
  charge10 : Nat := 0
  /-- ChargeLimit 60 s (R306). -/
  charge60 : Nat := 0
  /-- DischargeLimit 2 s (R306). -/
  dis2 : Nat := 0
  /-- DischargeLimit 10 s (R306). -/
  dis10 : Nat := 0
  /-- DischargeLimit 60 s (R306). -/
  dis60 : Nat := 0
  /-- UpperVoltage (R306 R309). -/
  upper : Nat := 0
  /-- LowerVoltage (R306 R309). -/
  lower : Nat := 0
  /-- Current (R306). -/
  current : Option Int := some 0
  /-- DispatchableSoc (R306). -/
  soc : Nat := 0
  /-- LimitCause (R306 R310). -/
  cause : Nat := 0
  /-- ReactionState (R306). -/
  reaction : Nat := 0
  /-- ThrottleLevel (R306). -/
  throttle : Nat := 0
  /-- RestState (R306). -/
  rest : Nat := 0
  /-- ApplyStamp (R306). -/
  apply : U32 := 0
  /-- PairSequence (R306). -/
  pairSeq : U32 := 0
  deriving DecidableEq, Repr

/-- Limits and current of one past pattern (R322). -/
structure Past where
  /-- charge limit 2 s used (R322). -/
  c2 : Nat := 0
  /-- charge limit 10 s used (R322). -/
  c10 : Nat := 0
  /-- charge limit 60 s used (R322). -/
  c60 : Nat := 0
  /-- discharge limit 2 s used (R322). -/
  d2 : Nat := 0
  /-- discharge limit 10 s used (R322). -/
  d10 : Nat := 0
  /-- discharge limit 60 s used (R322). -/
  d60 : Nat := 0
  /-- charge side current, mA (R322). -/
  ic : Int := 0
  /-- discharge side current, mA (R322). -/
  id : Int := 0
  deriving DecidableEq, Repr

/-- Dispatch envelope engine (R305 to R330). -/
structure Dispatch where
  /-- ConnectState 0x2C00.01 (R330). -/
  connect : Nat := 0
  /-- EffectiveIntent 0x2C00.02 (R330). -/
  intent : Nat := 0
  /-- ConnectArmed 0x2C00.03 (R321 R330). -/
  armed : Bool := false
  /-- ConnectRefusal 0x2C00.04 (R330). -/
  refusal : Nat := 0
  /-- rows of the present ramp-down wait (WaitElapsed 0x2C00.05) (R330). -/
  waitRows : Nat := 0
  /-- OpeningsUnderLoad 0x2C00.06 (FRAM, delivered 0) (R324 R330 R558). -/
  underLoad : U32 := 0
  /-- BreakerTrips 0x2C00.07 (FRAM, delivered 0) (R324 R330 R558). -/
  breakerTrips : U32 := 0
  /-- ExcessMax 0x2C00.08, 0.1 % (R330). -/
  excess : Int := 0
  /-- RestState 0x2C00.09 (R327 R330). -/
  restState : Nat := 0
  /-- RestWindowLength 0x2C00.0A, s (R330). -/
  restLength : Nat := 0
  /-- RestWindowEnd 0x2C00.0B (R330). -/
  restEnd : Stamp := {}
  /-- LastCanDelivery 0x2C00.0C (R330). -/
  lastCan : Stamp := {}
  /-- LastEthDelivery 0x2C00.0D (R330). -/
  lastEth : Stamp := {}
  /-- DeliveryGaps 0x2C00.0E (R315 R330). -/
  gaps : U32 := 0
  /-- LeasesRefused 0x2C00.10 (R319 R330). -/
  leasesRefused : U32 := 0
  /-- lease table 0x2C10 (R319). -/
  leases : List Lease := []
  /-- Envelope in force 0x2C01 (R306 R330). -/
  envelope : Envelope := {}
  /-- envelope computed and not yet published (R307). -/
  computed : Envelope := {}
  /-- envelope published, applies from the next pattern start (R305). -/
  next : Envelope := {}
  /-- ComputedLimit 0x2C02; missing entries read 0 (R330). -/
  lim : List Nat := []
  /-- LimitingGroup charge 0x2C03.01 (R308 R330). -/
  limGroupC : Nat := 0xFFFF
  /-- LimitingGroup discharge 0x2C03.02 (R308 R330). -/
  limGroupD : Nat := 0xFFFF
  /-- published limits and currents of past patterns, newest first (R322). -/
  history : List Past := []
  /-- envelopes in force in the patterns of ResponseTime, newest first (R322). -/
  published : List Envelope := []
  /-- patterns in a row with a check beyond 1.03 (R322). -/
  warnRun : Nat := 0
  /-- patterns in a row with a check beyond 1.10 (R322). -/
  openRun : Nat := 0
  /-- patterns in a row with |Current| above HardCurrentLimit (R323). -/
  hardRun : Nat := 0
  /-- rows in a row at or below OpenCurrentLimit (R323). -/
  lowRows : Nat := 0
  /-- Ethernet fallback active (R314). -/
  fallback : Bool := false
  /-- patterns in a row without CAN delivery (R314). -/
  noCan : Nat := 0
  /-- patterns in a row with CAN delivery (R314). -/
  canRun : Nat := 0
  /-- patterns in a row without any delivery (R315). -/
  noneRun : Nat := 0
  /-- delivered on CAN in the present pattern (this unit) (R314). -/
  canNow : Bool := false
  /-- acknowledged on Ethernet in the present pattern (this unit) (R314). -/
  ethNow : Bool := false
  /-- delivered on CAN by the twin (R314). -/
  twinCan : Bool := false
  /-- delivered on Ethernet by the twin (R314). -/
  twinEth : Bool := false
  /-- NoLeaseAction 1 zeroes both sides (R321). -/
  noLease : Bool := false
  /-- class and node of the lease that decided the rest answer (R326). -/
  restGrantor : Option (Nat × Nat) := none
  deriving DecidableEq, Repr

/-- One safety input channel (R343 to R345). -/
structure Chan where
  /-- raw level (on) (R364). -/
  raw : Bool := false
  /-- filtered state (on) (R343). -/
  filt : Bool := false
  /-- consecutive samples at the new level (R343). -/
  count : Nat := 0
  /-- consecutive own pulses without an off sample (R345). -/
  missed : Nat := 0
  /-- consecutive own pulses seen while faulted (R345). -/
  seen : Nat := 0
  /-- test-pulse fault (treated as demanding) (R345). -/
  fault : Bool := false
  /-- an off sample was seen in the window of the running pulse (R345). -/
  offSeen : Bool := false
  /-- other sources (bit x - 1) during whose last pulse the channel read off (R345). -/
  foreign : Nat := 0
  /-- read on during its own source's pulse (R345). -/
  ownOn : Bool := false
  deriving DecidableEq, Repr

/-- One safety input (R342 to R347). -/
structure Sin where
  /-- channel A (R342). -/
  a : Chan := {}
  /-- channel B (R342). -/
  b : Chan := {}
  /-- grid instants in the running disagreement (R346). -/
  discCount : Nat := 0
  /-- DiscrepancyMax 0x2D11, ms (R346 R364). -/
  discMax : Nat := 0
  /-- discrepancy block (R346). -/
  discBlock : Bool := false
  /-- both channels have demanded together since the block (R347). -/
  bothDemanded : Bool := false
  /-- both ended their demand together after that (R347). -/
  bothEnded : Bool := false
  /-- restart block (R347). -/
  restartBlock : Bool := false
  /-- cross-short (R345). -/
  crossShort : Bool := false
  /-- consecutive pulses of each source without the condition (R345). -/
  crossAbsent : Tab Nat := []
  /-- the input demands (R342). -/
  demand : Bool := false
  deriving DecidableEq, Repr

/-- Safety island (R331 to R364). -/
structure Safety where
  /-- SetConfirmed 0x2D00.03 (FRAM, delivered unconfirmed) (R364 R558). -/
  setConfirmed : Bool := false
  /-- a confirmed set exists (FRAM) (R356). -/
  everConfirmed : Bool := false
  /-- SetCheckComputed 0x2D00.04 (R357 R364). -/
  checkComputed : Nat := 0
  /-- SetCheckConfirmed 0x2D00.05 (FRAM) (R364). -/
  checkConfirmed : Nat := 0
  /-- ConfirmStamp 0x2D00.06 (FRAM) (R364). -/
  confirmStamp : Stamp := {}
  /-- step 8 done (SafetyState leaves 0) (R89). -/
  selfTested : Bool := false
  /-- ActiveFunctions 0x2D00.02 (R364). -/
  functions : Nat := 0
  /-- demands of this unit, bit n for SFn (R336). -/
  siDemand : Nat := 0
  /-- agreed demands of the pair (R336 R377). -/
  pairDemand : Nat := 0
  /-- LastReaction 0x2D00.07 (R364). -/
  lastReaction : Nat := 0
  /-- LastReactionStamp 0x2D00.08 (R364). -/
  lastReactionStamp : Stamp := {}
  /-- CoreMismatches 0x2D00.09 (R332 R364). -/
  mismatches : U32 := 0
  /-- the cores differ in this row (R332). -/
  mismatchNow : Bool := false
  /-- XtripState bit 0 (R352 R364). -/
  xtripIn : Bool := false
  /-- XtripState bit 1 (R351 R364). -/
  xtripOut : Bool := false
  /-- no matching event came within 3 rows of XTRIP_IN: own demand of OPEN (R352). -/
  xtripOpen : Bool := false
  /-- the row watchdog has expired (SF10) (R335). -/
  rowLoss : Bool := false
  /-- the cell case of R301 has latched and its action is due (R301). -/
  sf5Due : Bool := false
  /-- the junction case of R301 has latched and its action is due (R301). -/
  sf6Due : Bool := false
  /-- 0x0708 has been found and its action is due (R335). -/
  sf11 : Bool := false
  /-- demands of this unit as latched at the row start, bit n for SFn (R32 R336). -/
  rowOwn : Nat := 0
  /-- safety inputs that demand as latched at the row start, bit n - 1 for input n (R32 R342). -/
  rowInputs : Nat := 0
  /-- the cell case of R301 as latched at the row start: its action is due (R32 R301). -/
  rowSf5 : Bool := false
  /-- the cell case's reaction has come in this row: the claim is dropped (R301). -/
  dropClaim : Bool := false
  /-- the junction case of R301 as latched at the row start: its action is due (R32 R301). -/
  rowSf6 : Bool := false
  /-- the OPEN of R352 is due (R352). -/
  xtripDue : Bool := false
  /-- that OPEN as latched at the row start (R32 R352). -/
  rowXtrip : Bool := false
  /-- the test TRIP of the proof test is due at the next output commit (R361). -/
  tripTest : Bool := false
  /-- the sender's event has arrived (R352). -/
  xtripMatched : Bool := false
  /-- ProofTestState 0x2D00.0B (FRAM, delivered 0) (R364 R558). -/
  proofState : Nat := 0
  /-- ProofTestStamp 0x2D00.0C (FRAM) (R364). -/
  proofStamp : Stamp := {}
  /-- ProofTestDue 0x2D00.0D, h (FRAM, delivered ProofTestInterval) (R360 R364 R558). -/
  proofDue : Nat := 8760
  /-- TripPulses 0x2D00.0E (FRAM, delivered 0) (R364 R558). -/
  tripPulses : U32 := 0
  /-- CloseRefusal 0x2D00.0F (R334 R364). -/
  closeRefusal : Nat := 0
  /-- safety inputs 1 to 8 (R342). -/
  sins : Tab Sin := []
  /-- shadow safety set (values differing from the defaults) (R356). -/
  shadow : Tab Nat := []
  /-- active safety set (last confirmed, or defaults) (R358). -/
  active : Tab Nat := []
  /-- SF7's own charge window closed (R340). -/
  windowClosed : Bool := false
  /-- FA current above ChargeBlockCurrent in every row since the timer began (R340). -/
  blockTimer : Bool := false
  /-- rows in a row with the FA current above ChargeBlockCurrent (R340). -/
  blockRows : Nat := 0
  /-- SF7 demands (R340). -/
  sf7 : Bool := false
  /-- SF1 event in the present row (R336). -/
  sf1 : Bool := false
  /-- SF2 event in the present row (R336). -/
  sf2 : Bool := false
  /-- blocking conditions by safety function, bit n for SFn (R354). -/
  blocked : Nat := 0
  /-- core mismatch block until acknowledged after a reset (R354). -/
  coreBlock : Bool := false
  /-- a pulse is asked for in this row (R353). -/
  tripDemand : Bool := false
  /-- pulses started for the present demand (R353). -/
  demandPulses : Nat := 0
  /-- test-pulse source whose window runs, 1 to 4, 0 none (R73). -/
  sourceX : Nat := 0
  /-- a settings record was in another format: the set counts as unconfirmed until confirmed again (R548). -/
  formatLost : Bool := false
  /-- samples left in that window (R344). -/
  windowLeft : Nat := 0
  deriving DecidableEq, Repr

/-- One coil output (R65, R349, R364). -/
structure Coil where
  /-- command (R364). -/
  cmd : Bool := false
  /-- the command that the output stage has taken at an output commit (R32 R333). -/
  drive : Bool := false
  /-- 0 off, 1 pull-in, 2 hold (R364). -/
  phase : Nat := 0
  /-- high-side readback (R364). -/
  hsRead : Bool := false
  /-- low-side readback (R364). -/
  lsRead : Bool := false
  /-- fault bits 15:8 of CoilState (R364). -/
  faults : Nat := 0
  /-- current, mA (R364). -/
  ma : Nat := 0
  /-- 50 mA reached in the present energisation (R65 R349). -/
  reached : Bool := false
  /-- rows in a row below 50 mA while on (R349). -/
  lowRows : Nat := 0
  /-- rows in a row conducting while commanded off (R349). -/
  condRows : Nat := 0
  /-- rows in a row disagreeing with the holder's command (R350). -/
  wireRows : Nat := 0
  /-- consecutive off-pulses of the high side without a change (R349). -/
  noChangeHs : Nat := 0
  /-- consecutive off-pulses of the low side without a change (R349). -/
  noChangeLs : Nat := 0
  /-- off until reset (0x0E04) (R349). -/
  shorted : Bool := false
  /-- commanded off for a lost current (0x0E02) (R349). -/
  lost : Bool := false
  deriving DecidableEq, Repr

/-- Output stages (R65 to R69, R348 to R350, R364). -/
structure Outputs where
  /-- MAIN_POS 1, MAIN_NEG 2, PRECHG 3, AUX_COIL 4 (R364). -/
  coils : Tab Coil := []
  /-- claim gate open (R333 R391). -/
  gate : Bool := false
  /-- TripState bit 0 (R67 R364). -/
  tripActive : Bool := false
  /-- TripState bit 1, continuity good (R364). -/
  tripCont : Bool := false
  /-- TripState bit 2 (R364). -/
  trip1 : Bool := false
  /-- TripState bit 3 (R364). -/
  trip2 : Bool := false
  /-- first switch stuck: trip by the other only (R349). -/
  trip1Stuck : Bool := false
  /-- second switch stuck (R349). -/
  trip2Stuck : Bool := false
  /-- start of the last pulse (R67 R353). -/
  lastTrip : Option Stamp := none
  /-- a trip pulse starts at the next output commit (R33 R353). -/
  tripDue : Bool := false
  /-- UVR_HOLD commanded on (R68 R336 R552). -/
  uvr : Bool := false
  /-- UvrState bit 0, the command that the stage of UVR_HOLD has taken (R32 R68 R364). -/
  uvrOn : Bool := false
  /-- a safety action has dropped UVR_HOLD (R336). -/
  uvrDrop : Bool := false
  /-- step 8 left UVR_HOLD off for a demand: off until the next cast-on (R91). -/
  uvrStays : Bool := false
  /-- UVR_HOLD dropped by the proof test (R361). -/
  uvrTest : Bool := false
  /-- UvrState bit 1 (R364). -/
  uvr1 : Bool := false
  /-- UvrState bit 2 (R364). -/
  uvr2 : Bool := false
  /-- OffPulses 0x2E00.07 (R364). -/
  offPulses : U32 := 0
  /-- LastOutputFault 0x2E00.08 (R364). -/
  lastFault : Stamp := {}
  /-- switch (0 to 9) in its off-pulse (R349). -/
  pulseSwitch : Option Nat := none
  /-- rows in a row with a wrong XTRIP_OUT readback (R349). -/
  xtripRows : Nat := 0
  /-- 0x0E01 applies (health 0) (R388). -/
  stuckAny : Bool := false
  /-- off-pulses of UVR switch 1 without a change (R349). -/
  uvrNoChange1 : Nat := 0
  /-- off-pulses of UVR switch 2 without a change (R349). -/
  uvrNoChange2 : Nat := 0
  deriving DecidableEq, Repr

/-- Twin Yarn and lockstep (R365 to R408). -/
structure Twin where
  /-- TwinState 0x2F00.01 (R365 R408). -/
  state : TwinState := .pairing
  /-- Side 0x2F00.02 (R52 R408). -/
  sideB : Bool := false
  /-- TyVersion 0x2F00.03 (R371 R408). -/
  version : Nat := 0
  /-- twin's last HELLO (StepNumberTwin, TwinNodeId, TwinSerial) (R369). -/
  hello : Option Hello := none
  /-- Twin Yarn delay, by the HELLO round trip at pairing (R430). -/
  delay : Nat := 0
  /-- both units hold a HELLO with bit 0 set (R370). -/
  paired : Bool := false
  /-- ClaimWordOwn O(r) (R391 R408). -/
  wordOwn : Nat := 0
  /-- O(r - 1) (R391). -/
  wordPrev : Nat := 0
  /-- ClaimWordTwin T(r) (R390 R408). -/
  wordTwin : Nat := 0
  /-- a word of the twin has come for the present row (R390). -/
  wordSeen : Bool := false
  /-- word of a valid claim frame received in the running row (R390). -/
  claimRx : Option Nat := none
  /-- ConsecutiveMissing (R390 R408). -/
  missing : Nat := 0
  /-- rows in a row in which a word arrived (R393). -/
  wordRows : Nat := 0
  /-- DroppedStitches (R384 R408). -/
  stitches : U32 := 0
  /-- rows of the stitches of the last 1,000 rows (StitchWindow) (R385 R408). -/
  window : List Nat := []
  /-- rows in a row with a differing digest (R385). -/
  diffRun : Nat := 0
  /-- rows in a row without ROW_INPUT (R385). -/
  absentRun : Nat := 0
  /-- twin's ROW_INPUT of this row (R377). -/
  rowIn : Option RowInput := none
  /-- own ROW_INPUT of this row (R377). -/
  ownIn : RowInput := {}
  /-- twin's CELL_INDEX of this pattern (R379). -/
  cellIdx : Option (List Nat) := none
  /-- twin's DIGEST of this row (R383). -/
  digestRx : Option DigestMsg := none
  /-- own DIGEST of this row (R383). -/
  digestOwn : DigestMsg := {}
  /-- this row is a dropped stitch already (R384). -/
  stitched : Bool := false
  /-- leave lockstep at the next pattern start (R385). -/
  rejoinDue : Bool := false
  /-- Switchovers (R408). -/
  switchovers : U32 := 0
  /-- LastSwitchover (R408). -/
  lastSwitch : Stamp := {}
  /-- LastSwitchoverKind (R408). -/
  lastKind : Nat := 0
  /-- PairNodeId (FRAM; 0 reads the own node ID: never paired) (R374 R408). -/
  pairNode : Nat := 0
  /-- origin of the pair sequence (R404 R405). -/
  origin : Nat := 0
  /-- counter of the pair sequence (PairSequence, FRAM) (R404 R408). -/
  counter : Nat := 0
  /-- counter of the pair sequence as the journal held it at this cast-on (R369 R405). -/
  journaled : Nat := 0
  /-- JoinState (R408). -/
  joinState : Nat := 0
  /-- JoinFailures (R402 R408). -/
  joinFails : Nat := 0
  /-- P_s (R401). -/
  joinPs : U32 := 0
  /-- a failed join waits its 1 s (R402). -/
  joinRetry : Bool := false
  /-- instants of the failures (10 min) (R402). -/
  joinStamps : List Stamp := []
  /-- P_L (R373). -/
  lockPl : Option U32 := none
  /-- starting pair sequence of the LOCK (R373 R405). -/
  lockSeq : Nat := 0
  /-- a snapshot leaves from the start of P_s (R401). -/
  snapDue : Bool := false
  /-- joined: MEMBER from the next pattern start (R401). -/
  memberDue : Bool := false
  /-- number of messages that had left before the present row's release (R383). -/
  outMark : Nat := 0
  /-- learned-state source (R373). -/
  lockSource : Nat := 0
  /-- learned-state records are still to be adopted (R273). -/
  transferDue : Bool := false
  /-- CurrentDifference (R382 R408). -/
  iDiff : Option Int := none
  /-- VoltageDifference (R382 R408). -/
  vDiff : Option Int := none
  /-- per-row current differences of the pattern (R382). -/
  diffI : List Rat := []
  /-- per-row voltage differences of the pattern (R382). -/
  diffV : List Rat := []
  /-- patterns in a row beyond the current check (R382). -/
  iBad : Nat := 0
  /-- patterns in a row beyond the voltage check (R382). -/
  vBad : Nat := 0
  /-- RefusalReason (R408). -/
  refusal : Nat := 0
  /-- LockstepStamp (R408). -/
  lockstepStamp : Stamp := {}
  /-- urgent entries carried forward (R378). -/
  carried : List Urgent := []
  /-- urgent entries listed in this row (R378). -/
  listed : List Urgent := []
  /-- UrgentDeferred (R378 R408). -/
  deferred : U32 := 0
  /-- rows since the yield began plus 1, 0 not yielding (R394). -/
  yielding : Nat := 0
  /-- rows with health below the twin's by HealthMargin (R394). -/
  healthBelow : Nat := 0
  /-- rows in a row with a wrong own claim readback (R389). -/
  readBad : Nat := 0
  /-- rows in a row with ROW_INPUT but no claim frame (R389). -/
  noFrame : Nat := 0
  /-- the twin's words have shown it as the holder, and this unit has not taken the claim since (R395 R396). -/
  twinHeld : Bool := false
  /-- silent twin still drives a shared coil: stay a non-holder until a word arrives (R396). -/
  drivingNoClaim : Bool := false
  /-- split pair (R399). -/
  split : Bool := false
  /-- the agreed input set of this row includes the twin's (R377). -/
  agreedTwin : Bool := false
  /-- PairReaction agreed (R381). -/
  pairReaction : Nat := 0
  /-- coils the twin last reported as driven (R397). -/
  twinCoils : Nat := 0
  /-- agreed D0 currents of the pattern's rows, mA (R178 R377). -/
  agI : List Rat := []
  /-- agreed D2 codes of the pattern's rows (R178 R377). -/
  agV : List Int := []
  /-- agreed D3 codes (R178 R377). -/
  agP : List Int := []
  /-- agreed D4 codes (R178 R377). -/
  agN : List Int := []
  /-- means of the previous pattern's agreed rows: current in mA, V_str, BUS_P and BUS_N in mV (R178 R377). -/
  agMeans : Option (Option Int × Option Int × Option Int × Option Int) := none
  /-- SequenceState the twin last reported (R397). -/
  twinSeq : Nat := 0
  /-- short stamp at which that pull-in began (R95). -/
  twinPullStart : Nat := 0
  /-- twin's coil in pull-in (R95). -/
  twinPull : Nat := 0
  /-- PATTERN_DATA under assembly: kind, next segment index, bytes received (R368). -/
  segments : List (Nat × Nat × Nat) := []
  /-- command records accepted and not yet sent in a ROW_INPUT (R377). -/
  cmdsDue : List CmdRecord := []
  /-- items waiting to leave as PATTERN_DATA (R380). -/
  longDue : List PatternItem := []
  /-- segments of the first item that have left (R375). -/
  longSent : Nat := 0
  /-- requests passed on to the claim holder whose response has not left, with the mailbox slot each came in (R487). -/
  passed : List (Req × Option Nat) := []
  /-- pair message records per PairNodeId and origin (R406). -/
  receivers : List Receiver := []
  deriving DecidableEq, Repr

/-- One transmit stamp queue entry (R428). -/
structure TxStamp where
  /-- messageType and sequenceId (R428). -/
  ident : Nat := 0
  /-- port (R428). -/
  port : Nat := 0
  /-- egress short stamp (R428). -/
  stamp : U32 := 0
  deriving DecidableEq, Repr

/-- A foreign master (R417). -/
structure Master where
  /-- priority1 (R417). -/
  priority1 : Nat := 128
  /-- clockClass (R417). -/
  clockClass : Nat := 248
  /-- clockAccuracy (R417). -/
  accuracy : Nat := 254
  /-- offsetScaledLogVariance (R417). -/
  variance : Nat := 65535
  /-- priority2 (R417). -/
  priority2 : Nat := 128
  /-- grandmasterIdentity (R433). -/
  gm : Nat := 0
  /-- stepsRemoved (R417). -/
  steps : Nat := 0
  /-- sourcePortIdentity clockIdentity (R433). -/
  source : Nat := 0
  /-- sourcePortIdentity portNumber (R433). -/
  sourcePort : Nat := 0
  /-- SFP port on which it is received (R420). -/
  port : Nat := 1
  deriving DecidableEq, Repr

/-- A foreign master record of the best master clock algorithm (R417). -/
structure Foreign where
  /-- its last Announce (R417). -/
  m : Master := {}
  /-- instant of its last Announce (R417). -/
  last : Stamp := {}
  /-- instant of the Announce before it (R417). -/
  prev : Option Stamp := none
  deriving DecidableEq, Repr

/-- A residence time the transparent clock holds for the message that follows (R419). -/
structure TcHeld where
  /-- messageType of the message that will carry it (R419). -/
  kind : Nat := 0
  /-- clockIdentity that message is matched by (R419). -/
  clock : Nat := 0
  /-- portNumber that message is matched by (R419). -/
  port : Nat := 0
  /-- its sequenceId (R419). -/
  seq : Nat := 0
  /-- time to add, 2^-16 ns (R419). -/
  held : Int := 0
  deriving DecidableEq, Repr

/-- Timebase and network time (R409 to R433). -/
structure Timebase where
  /-- plant time counts (from cast-on step 2) (R413). -/
  running : Bool := false
  /-- plant time: epoch, seconds, nanoseconds (R409 R413). -/
  now : Stamp := {}
  /-- fraction of a nanosecond, 2^-32 ns (R409). -/
  frac : Nat := 0
  /-- increment register, IncrementNow 0x3000.0A (R409 R433). -/
  incr : U64 := 0x0000000500000000
  /-- TimeState 0x3000.01 (R431 R433). -/
  state : TimeState := .free
  /-- StepCount 0x3000.03 (FRAM, delivered 0) (R433 R558). -/
  stepCount : U32 := 0
  /-- LastStepStamp 0x3000.04 (FRAM) (R433). -/
  lastStep : Stamp := {}
  /-- LastStepSize 0x3000.05 (FRAM) (R433). -/
  lastSize : Int := 0
  /-- PendingOffset 0x3000.06 (R433). -/
  pendingOff : Int := 0
  /-- PendingCount 0x3000.07 (R424 R433). -/
  pendingCount : Nat := 0
  /-- first refused offset of the count (R424). -/
  firstRefused : Int := 0
  /-- OffsetFromMaster 0x3000.08 (R433). -/
  offset : Option Int := none
  /-- MeanPathDelay 0x3000.09 (R433). -/
  pathDelay : Option Nat := none
  /-- servo frequency yf, ppb; FrequencyPpb 0x3000.0B (FRAM) (R422 R433). -/
  yf : Rat := 0
  /-- GrandmasterIdentity 0x3000.0C (R433). -/
  gm : Nat := 0
  /-- ParentPortIdentity clockIdentity 0x3000.0D (R433). -/
  parent : Nat := 0
  /-- ParentPortIdentity portNumber (R433). -/
  parentPort : Nat := 0
  /-- PtpPortState 0x3000.0E (R433). -/
  portState : Nat := 1
  /-- ActivePort 0x3000.0F (R420 R433). -/
  activePort : Nat := 0
  /-- TwinTimeOffset 0x3000.10 (R430 R433). -/
  twinOffset : Option Int := none
  /-- rows in a row beyond TwinTimeLimit (R430). -/
  twinBad : Nat := 0
  /-- StepsRefused 0x3000.11 (R433). -/
  stepsRefused : U32 := 0
  /-- transmit stamp queue of SFP1 (TxQueueFill) (R428 R433). -/
  tx1 : List TxStamp := []
  /-- transmit stamp queue of SFP2 (R428 R433). -/
  tx2 : List TxStamp := []
  /-- TxQueueOverflows SFP1 (R433). -/
  txOver1 : U32 := 0
  /-- TxQueueOverflows SFP2 (R433). -/
  txOver2 : U32 := 0
  /-- QSTATUS bit 8 port 1 (R429). -/
  txFlag1 : Bool := false
  /-- QSTATUS bit 8 port 2 (R429). -/
  txFlag2 : Bool := false
  /-- QSTAMP port 1 (R429). -/
  qstamp1 : U32 := 0
  /-- QSTAMP port 2 (R429). -/
  qstamp2 : U32 := 0
  /-- TcResidenceMax toward SFP1 (R433). -/
  tcMax1 : Nat := 0
  /-- TcResidenceMax toward SFP2 (R433). -/
  tcMax2 : Nat := 0
  /-- shadow of TIME_NS (R414). -/
  shNs : Option Nat := none
  /-- shadow of TIME_SECLO (R414). -/
  shLo : Option Nat := none
  /-- shadow of TIME_SECHI (R414). -/
  shHi : Option Nat := none
  /-- INCREMENT_LO shadow (R414). -/
  incLo : Nat := 0
  /-- TIME_STATUS bit 5 (R414). -/
  incRefused : Bool := false
  /-- consecutive Syncs below LockThreshold (R422). -/
  lockRun : Nat := 0
  /-- the first offset since cast-on has been applied (R426). -/
  firstDone : Bool := false
  /-- accepted step of the holder whose command record is not agreed yet (R36 R430). -/
  stepDue : Option Int := none
  /-- step agreed in the present row, applied by both units in it (R36 R430). -/
  stepAgreed : Option Int := none
  /-- LOCKED since cast-on: a parent lost leaves HOLDOVER, not FREE (R431). -/
  wasLocked : Bool := false
  /-- best foreign master (R418). -/
  master : Option Master := none
  /-- two-step Sync waiting for Follow_Up: sequenceId, ingress ns, correction in 2^-16 ns (R417). -/
  syncRx : Option (Nat × Int × Int) := none
  /-- foreign master records (R417). -/
  foreign : List Foreign := []
  /-- sequenceId of the last Sync measured (a missing Sync) (R424). -/
  lastSeq : Option Nat := none
  /-- Delay_Req sent: sequenceId, egress ns (R417). -/
  dreqTx : Option (Nat × Int) := none
  /-- Pdelay_Req sent on SFP1: sequenceId, egress ns (R417). -/
  preq1 : Option (Nat × Int) := none
  /-- Pdelay_Req sent on SFP2: sequenceId, egress ns (R417). -/
  preq2 : Option (Nat × Int) := none
  /-- residence times held by the transparent clock (R419). -/
  tcHeld : List TcHeld := []
  /-- t1 (corrected), t2 of the last Sync (R422). -/
  syncT : Option (Int × Int) := none
  /-- peer delay of SFP1, ns (R417). -/
  peer1 : Option Nat := none
  /-- peer delay of SFP2, ns (R417). -/
  peer2 : Option Nat := none
  /-- sequenceId of the next Sync (R418). -/
  syncSeq : Nat := 0
  /-- sequenceId of the next Announce (R418). -/
  annSeq : Nat := 0
  /-- sequenceId of the next Delay_Req or Pdelay_Req (R428). -/
  dreqSeq : Nat := 0
  deriving DecidableEq, Repr

/-- One SFP port (R81, R518). -/
structure Sfp where
  /-- LinkState 0x3100 (R518). -/
  link : Nat := 0
  /-- SfpCompliance 0x3101 (R518). -/
  compliance : Nat := 0
  /-- compliance bytes of the SFP in the cage, read at insertion and at every cast-on (R81). -/
  fitted : Nat := 0
  /-- RxFrames 0x3102 (R518). -/
  rx : U32 := 0
  /-- TxFrames 0x3103 (R518). -/
  tx : U32 := 0
  /-- RxDiscarded 0x3104 (R518). -/
  discarded : U32 := 0
  /-- an SFP is in the cage (R81 R518). -/
  inserted : Bool := false
  /-- instant the link came up (R519). -/
  upSince : Option Stamp := none
  /-- cage supply on (R81 R89). -/
  cageOn : Bool := false
  /-- the cage lost its supply with AUX_24V and takes it again when the sag pause ends (R64 R96). -/
  cageBack : Bool := false
  /-- TX_DISABLE asserted (R81). -/
  txDisable : Bool := false
  deriving DecidableEq, Repr

/-- One IPv4 reassembly (R461). -/
structure IpReasm where
  /-- port of its first fragment (R461). -/
  port : Nat := 1
  /-- source address (R461). -/
  src : Nat := 0
  /-- identification (R461). -/
  ident : Nat := 0
  /-- offset and bytes (R461). -/
  parts : List (Nat × List Nat) := []
  /-- length once the last fragment has come (R461). -/
  total : Option Nat := none
  deriving DecidableEq, Repr

/-- Ethernet ports (R461, R518, R519). -/
structure Ethernet where
  /-- SFP1 (R518). -/
  p1 : Sfp := {}
  /-- SFP2 (R518). -/
  p2 : Sfp := {}
  /-- AddressConflicts 0x3105 (R519). -/
  conflicts : U32 := 0
  /-- IPv4 reassemblies (R461). -/
  reasm : List IpReasm := []
  deriving DecidableEq, Repr

/-- A receive buffer (R443). -/
structure CanRx where
  /-- ND (R443). -/
  nd : Bool := false
  /-- UPD (R443). -/
  upd : Nat := 0
  /-- LOST (R443). -/
  lost : Bool := false
  /-- FILTER (R443). -/
  filter : Nat := 0
  /-- FMT, IDE, RTR, BRS, ESI, ID, LENGTH, SDT, SEC, VCID, AF, DATA (R443). -/
  frame : CanFrame := {}
  /-- SOF_STAMP (R443). -/
  sof : U32 := 0
  /-- END_STAMP (R443). -/
  eof : U32 := 0
  deriving DecidableEq, Repr

/-- A transmit buffer (R445). -/
structure CanTx where
  /-- STATE 0 FREE .. 5 PURGED (R445). -/
  state : Nat := 0
  /-- LATE (R445). -/
  late : Bool := false
  /-- ONESHOT (R445). -/
  oneshot : Bool := false
  /-- ALERT (R445). -/
  alert : Bool := false
  /-- ATTEMPTS (R445). -/
  attempts : Nat := 0
  /-- the frame (R445). -/
  frame : CanFrame := {}
  /-- cancel pending (R446). -/
  cancel : Bool := false
  /-- the buffer as the host wrote it, by word; decoded at its request (R445 R452). -/
  words : Tab Nat := []
  /-- content to copy once the frame in flight finishes (R446). -/
  replace : Option CanFrame := none
  /-- SOF_STAMP (R443). -/
  sof : U32 := 0
  /-- END_STAMP (R443). -/
  eof : U32 := 0
  deriving DecidableEq, Repr

/-- One CAN controller (R434 to R459). -/
structure CanCtl where
  /-- mode in force: 0 stopped from reset (ErrorState 3, R459) until cast-on step 4 powers the transceivers (R89 R436 R458). -/
  mode : Nat := 0
  /-- ErrorState 0x3200 (R459). -/
  errState : Nat := 3
  /-- Tec 0x3201 (R459). -/
  tec : Nat := 0
  /-- Rec 0x3202 (R459). -/
  recv : Nat := 0
  /-- BusOffCount 0x3203 (R459). -/
  busOffs : U32 := 0
  /-- LastErrorCode 0x3204 (R459). -/
  lastErr : Nat := 0
  /-- RxFrames 0x3205 (R459). -/
  rxFrames : U32 := 0
  /-- RxNotAccepted 0x3206 (R459). -/
  notAccepted : U32 := 0
  /-- RxOverwritten 0x3207 (R459). -/
  overwritten : U32 := 0
  /-- TxFrames 0x3208 (R459). -/
  txFrames : U32 := 0
  /-- TxRefused 0x3209 (R459). -/
  txRefused : U32 := 0
  /-- LateCancels 0x320A (R459). -/
  lateCancels : U32 := 0
  /-- Purged 0x320B (R459). -/
  purged : U32 := 0
  /-- filter words, entry k words 3k to 3k+2 (R439 R459). -/
  filters : Tab Nat := []
  /-- receive buffers (R443). -/
  rx : Tab CanRx := []
  /-- transmit buffers (R445). -/
  tx : Tab CanTx := []
  /-- ring write index (R442). -/
  wr : Nat := 0
  /-- CAN2_ALERT (R452). -/
  alert : Nat := 0
  /-- CAN2_ALERTEN (R452). -/
  alertEn : Nat := 0
  /-- staging slot, by word (R452). -/
  stageWords : Tab Nat := []
  /-- staging slot awaits its copy (R452). -/
  stageBusy : Bool := false
  /-- mode 0 at the end of the frame in progress (R436). -/
  stopDue : Bool := false
  /-- bus-off recovery runs (R450). -/
  recovering : Bool := false
  /-- frames of Syben messages waiting for the chain buffer, in order (R471). -/
  chain : List CanFrame := []
  deriving DecidableEq, Repr

/-- One Syben reassembly over CAN FD (R472). -/
structure CanReasm where
  /-- controller (R472). -/
  ctrl : Nat := 1
  /-- channel (R472). -/
  channel : Nat := 0
  /-- node (R472). -/
  node : Nat := 0
  /-- next index expected (R472). -/
  next : Nat := 1
  /-- bytes received (R472). -/
  bytes : List Nat := []
  deriving DecidableEq, Repr

/-- CAN subsystem (R434 to R459). -/
structure Can where
  /-- CAN1 (R434). -/
  c1 : CanCtl := {}
  /-- CAN2 (R434). -/
  c2 : CanCtl := {}
  /-- FireState 0x320D.01 (R459). -/
  fireState : Nat := 0
  /-- FireCounter 0x320D.02 (R459). -/
  fireCounter : U32 := 0
  /-- FireSkipped 0x320D.03 (R459). -/
  fireSkipped : U32 := 0
  /-- last counter of the fire alive checker (R456). -/
  fireLast : Option Nat := none
  /-- Syben reassemblies (R472). -/
  reasm : List CanReasm := []
  deriving DecidableEq, Repr

/-- One session context (R479 to R484, R501). -/
structure Session where
  /-- session number 1 to 256 (R480). -/
  num : Nat := 0
  /-- role (R474). -/
  role : Nat := 0
  /-- bound source (R482). -/
  source : Source := .spi
  /-- ClientNode (R479). -/
  client : Nat := 0
  /-- events option (R479). -/
  events : Bool := false
  /-- negotiated version (R473). -/
  version : Nat := 0x10
  /-- H, highest accepted sequence (R483). -/
  high : Nat := 0
  /-- client-to-module key (R480). -/
  c2m : List Nat := []
  /-- module-to-client key (R480). -/
  m2c : List Nat := []
  /-- PRK (R480). -/
  prk : List Nat := []
  /-- cached response message (R483). -/
  cached : Option Msg := none
  /-- priority of the last request over CAN (R453). -/
  prio : Nat := 2
  /-- the last request over CAN came in CAN XL (R453). -/
  xl : Bool := false
  /-- SFP port by which the last request over UDP came (R460). -/
  sfp : Nat := 1
  /-- instant of the last valid request (idle s) (R484 R501). -/
  idleFrom : Stamp := {}
  /-- staged writes: key, offset, bytes, one per object (R510). -/
  shadow : List (Nat × Nat × List Nat) := []
  deriving DecidableEq, Repr

/-- One LIVE write that has been accepted and waits for its row (R507, R508). -/
structure Live where
  /-- the command that wrote it (R507). -/
  cmd : Instr := .patternStart
  /-- its request, whose response leaves after the row in which it takes effect (R489). -/
  req : Req := {}
  /-- its session as it stood when the write was accepted (R507). -/
  sess : Session := {}
  /-- mailbox slot its response returns in (R465). -/
  slot : Option Nat := none
  /-- it acts on this unit only and does not travel (R377). -/
  unit : Bool := false
  /-- it came in a command record of the twin (R377). -/
  theirs : Bool := false
  /-- it has been agreed (R377 R508). -/
  agreed : Bool := false
  /-- status and payload of its response once it has taken effect (R489). -/
  answer : Option (Nat × List Nat) := none
  deriving DecidableEq, Repr

/-- One pending open (R481). -/
structure PendingOpen where
  /-- client nonce (R479). -/
  nc : List Nat := []
  /-- source (R481). -/
  source : Source := .spi
  /-- role (R479). -/
  role : Nat := 0
  /-- ClientNode (R479). -/
  client : Nat := 0
  /-- events option (R479). -/
  events : Bool := false
  /-- negotiated version (R479). -/
  version : Nat := 0x10
  /-- module nonce (R479). -/
  nm : List Nat := []
  deriving DecidableEq, Repr

/-- One lockout entry (R486). -/
structure Lockout where
  /-- source; none the shared entry (R486). -/
  source : Option Source := none
  /-- last failures, newest first (R486). -/
  fails : List Stamp := []
  /-- blocked (R486). -/
  blocked : Bool := false
  deriving DecidableEq, Repr

/-- One mailbox slot (R465). -/
structure Slot where
  /-- owned by the module (R464). -/
  module : Bool := false
  /-- content; missing bytes read 0 (R465). -/
  bytes : List Nat := []
  /-- posted as a receive slot (R465). -/
  receive : Bool := false
  deriving DecidableEq, Repr

/-- One agreed commit waiting for its boundary (R511, R512). -/
structure Commit where
  /-- mailbox slot its response returns in (R465). -/
  slot : Option Nat := none
  /-- plant pattern in which it was agreed (R511). -/
  pattern : Nat := 0
  /-- the request, whose response leaves after the boundary (R489). -/
  req : Req := {}
  /-- session (R511). -/
  session : Nat := 0
  /-- request sequence (R511). -/
  seq : Nat := 0
  /-- the session has closed since; its shadow stands in `writes` (R512). -/
  closed : Bool := false
  /-- the shadow as it stood when the session closed (R512). -/
  writes : List (Nat × Nat × List Nat) := []
  deriving DecidableEq, Repr

/-- One key slot (R475). -/
structure KeySlot where
  /-- salt (R475). -/
  salt : List Nat := []
  /-- key; [] empty (R475). -/
  key : List Nat := []
  deriving DecidableEq, Repr

/-- Mailboxes, sessions and host window (R460 to R501). -/
structure Syben where
  /-- open sessions (SessionsOpen, SessionsByRole, SessionEntry) (R501). -/
  sessions : List Session := []
  /-- pending opens, oldest first (R481). -/
  opens : List PendingOpen := []
  /-- lockout entries (R486). -/
  lockouts : List Lockout := []
  /-- AuthFailures 0x2100.02 (R501). -/
  authFailures : U32 := 0
  /-- LockoutsImposed 0x2100.03 (R501). -/
  lockoutsImposed : U32 := 0
  /-- MB_ERRORS, MailboxErrors 0x2100.07 (R464 R501). -/
  mailboxErrors : U32 := 0
  /-- RawFramesDropped 0x2100.08 (R501). -/
  rawDropped : U32 := 0
  /-- key store (FRAM); slot 6 delivered with the label key (R475 R501). -/
  keys : Tab KeySlot := []
  /-- commits agreed for the next boundary (R511). -/
  commits : List Commit := []
  /-- LIVE writes that have been accepted and have not been answered, in their order (R507 R508). -/
  live : List Live := []
  /-- mailbox slots (R464 R465). -/
  slots : Tab Slot := []
  /-- posted request slots in order (R465). -/
  queue : List Nat := []
  /-- posted receive slots in order (R465). -/
  receive : List Nat := []
  /-- MB_STATUS bit 16 (R464). -/
  ready : Bool := true
  /-- MB_DONE (R464). -/
  done : Nat := 0
  /-- MB_DONEEN (R464). -/
  doneEn : Nat := 0
  /-- MB_ALERT bit 2 (R464). -/
  rawAlert : Bool := false
  /-- the unit's own message counter (R467). -/
  unitCounter : Nat := 0
  /-- session that sent the first RAW_SEND since ServoOwner became 2 (R490). -/
  rawSession : Nat := 0
  /-- EVENT messages waiting for a receive slot (R465). -/
  heldEvents : List (List Nat) := []
  /-- last word returned on MISO (R463). -/
  miso : U32 := 0
  deriving DecidableEq, Repr

/-- One check engine (R496). -/
structure Engine where
  /-- EngineOwner 0x3300 (R495 R501). -/
  owner : Nat := 0
  /-- claiming session (R499). -/
  claimant : Nat := 0
  /-- CE_CTRL (R496). -/
  ctrl : Nat := 0
  /-- POLY (R496). -/
  poly : Nat := 0
  /-- INIT (R496). -/
  init : Nat := 0
  /-- XOROUT (R496). -/
  xorout : Nat := 0
  /-- RUNNING (R496). -/
  running : Nat := 0
  /-- low word of POLY held (R496). -/
  lowPoly : Nat := 0
  /-- low word of INIT held (R496). -/
  lowInit : Nat := 0
  /-- low word of XOROUT held (R496). -/
  lowXor : Nat := 0
  /-- low word of RUNNING held (R496). -/
  lowRun : Nat := 0
  /-- shadow of RUNNING's high word (R496). -/
  shRun : Option Nat := none
  /-- shadow of RESULT's high word (R496). -/
  shRes : Option Nat := none
  /-- ALIVE_CFG (R496). -/
  aliveCfg : Nat := 0
  /-- last counter (R498). -/
  last : Option Nat := none
  /-- result of the last ALIVE write (R498). -/
  result : Nat := 0
  /-- n (R498). -/
  skipped : Nat := 0
  /-- self-test passed (used) (R524). -/
  good : Bool := true
  deriving DecidableEq, Repr

/-- One journal copy (R543). -/
structure Copy where
  /-- copy is valid (every record is delivered valid) (R544 R558). -/
  valid : Bool := true
  /-- Sequence (R543). -/
  seq : U32 := 0
  /-- FormatVersion (R543). -/
  format : Nat := 1
  /-- content, as a list of numbers; empty stands for the delivered content (R543 R546 R558). -/
  payload : List Int := []
  deriving DecidableEq, Repr

/-- One journal record (R543). -/
structure Record where
  /-- copy slot A (R543). -/
  a : Copy := {}
  /-- copy slot B (R543). -/
  b : Copy := {}
  deriving DecidableEq, Repr

/-- One held write (R300). -/
structure Held where
  /-- an event log record (R300). -/
  isLog : Bool := false
  /-- record ID of a journal record (R300). -/
  id : Nat := 0
  /-- the log record (R521). -/
  log : LogRec := {}
  /-- content of the journal record, as a list of numbers (R546). -/
  payload : List Int := []
  /-- the write has begun (R545). -/
  begun : Bool := false
  deriving DecidableEq, Repr

/-- One skein section (R528). -/
structure Section where
  /-- type (R528). -/
  kind : Nat := 0
  /-- offset (R528). -/
  offset : Nat := 0
  /-- length (R528). -/
  length : Nat := 0
  /-- section version (R528). -/
  version : Nat := 0
  /-- SHA-256 (R528). -/
  digest : List Nat := []
  deriving DecidableEq, Repr

/-- Loader, recovery and skein store (R526 to R542). -/
structure Loader where
  /-- LoaderState 0x3400.01 (R550). -/
  state : Nat := 0
  /-- LoadReceived 0x3400.02 (R550). -/
  next : Nat := 0
  /-- LoadTotal 0x3400.03 (R550). -/
  total : Nat := 0
  /-- LoadRefusal 0x3400.04 (R550). -/
  refusal : Nat := 0
  /-- LastInstallStamp 0x3400.05 (FRAM) (R550). -/
  installStamp : Stamp := {}
  /-- InstallCount 0x3400.06 (FRAM) (R550). -/
  installs : U32 := 0
  /-- RecoveryReason 0x3400.07 (FRAM) (R550). -/
  recoveryReason : Nat := 0
  /-- SectionsLoaded 0x3400.08 (R550). -/
  sections : Nat := 0
  /-- JournalOneCopy 0x3400.09 (R550). -/
  oneCopy : U32 := 0
  /-- JournalVerifyFailures 0x3400.0A (R550). -/
  verifyFails : U32 := 0
  /-- FlashFailures 0x3400.0B (R550). -/
  flashFails : U32 := 0
  /-- JournalWrites 0x3400.0C (R550). -/
  writes : U32 := 0
  /-- FuseState 0x3400.0D (FRAM, delivered 0) (R532 R550 R558). -/
  fuses : Nat := 0
  /-- a safety island program failed its check: no output is energised (R534). -/
  islandStopped : Bool := false
  /-- AntiRollback 0x1009.0C (FRAM, delivered 0) (R531 R558). -/
  antiRollback : Nat := 0
  /-- session that loads (R537). -/
  loadSession : Nat := 0
  /-- header received for the present load (R527). -/
  header : List Nat := []
  /-- skein bytes programmed from offset 4,096 (R538). -/
  bytes : List Nat := []
  /-- chunk accepted and not yet programmed (R538). -/
  chunk : List Nat := []
  /-- the programming of that chunk has begun (R101 R538). -/
  begun : Bool := false
  /-- request whose response waits for the hand-over or for the flash (R537 R538). -/
  req : Option Req := none
  /-- mailbox slot that response returns in (R465). -/
  slot : Option Nat := none
  /-- the skein region holds a valid skein (R529). -/
  skeinValid : Bool := true
  /-- a newly installed skein has not cast on yet (R535). -/
  newSkein : Bool := false
  /-- the running skein has not yet reached READY (R531). -/
  firstReady : Bool := false
  /-- RevokeMask of the running skein (R532). -/
  skeinRevoke : Nat := 0
  /-- SecurityVersion of the running skein (R531). -/
  skeinSecurity : Nat := 0
  /-- running image was invalid: 0x1409 at the next start (R540). -/
  imageInvalid : Bool := false
  /-- the ROM is in recovery (R541). -/
  recovery : Bool := false
  /-- a PROBE has arrived (R542). -/
  probed : Bool := false
  /-- Seq of the previous recovery request (R542). -/
  recSeq : Option Nat := none
  /-- cached recovery response (R542). -/
  recCached : List Nat := []
  /-- a recovery transfer has begun (R542). -/
  recBegun : Bool := false
  /-- RCVY_N low (R541). -/
  rcvyLow : Bool := false
  /-- the resident loader failed its check (R541). -/
  loaderDamaged : Bool := false
  deriving DecidableEq, Repr

/-- Nonvolatile store (R299, R300, R543 to R548). -/
structure Nv where
  /-- journal records by ID; unlisted is the delivered content (R558) (R543 R546). -/
  records : Tab Record := []
  /-- held writes in arrival order (HeldWrites 0x2B00.0C) (R300). -/
  held : List Held := []
  /-- HeldLogDropped 0x2B00.0D (R300 R304). -/
  logDropped : U32 := 0
  /-- SettingsRefused 0x2B00.0E (R300 R304). -/
  settingsRefused : U32 := 0
  /-- the write under way is the second attempt (R545). -/
  retrying : Bool := false
  deriving DecidableEq, Repr

/-- Event log (R520 to R523). -/
structure EventLog where
  /-- records kept, newest first (R520). -/
  records : List LogRec := []
  /-- NewestEntry 0x1C00.01 (flash) (R523). -/
  newest : U32 := 0
  /-- RecordsLost 0x1C00.03 (R523). -/
  lost : U32 := 0
  /-- records lost since the last kind 9 record (R520). -/
  lostSince : Nat := 0
  /-- a kind 9 record precedes the next record (R520). -/
  lostDue : Bool := false
  deriving DecidableEq, Repr

/-- Identity (R514). -/
structure Ident where
  /-- Variant 0x1008.02 (production) (R514). -/
  variant : Nat := 15
  /-- HardwareRevision 0x1008.03 (production) (R514). -/
  hwRev : Nat := 1
  /-- UnitSerial 0x1008.04 (production) (R514). -/
  serial : Nat := 0
  /-- ManufactureStamp 0x1008.05 (production) (R514). -/
  made : Stamp := {}
  /-- MacAddress 0x1008.07 (production) (R514). -/
  mac : Nat := 0
  /-- LoaderVersion 0x1009.0A (production) (R514). -/
  loaderVer : Nat := 0
  /-- RomVersion 0x1009.0B (production) (R514). -/
  romVer : Nat := 0
  /-- FirmwareVersion 0x1009.01 (skein) (R514). -/
  firmware : Nat := 0
  /-- StepCompatibility 0x1009.02 (skein) (R514). -/
  stepNo : Nat := 0
  /-- SettingsFormatVersion 0x1009.03 (skein) (R514). -/
  settingsFormat : Nat := 1
  /-- LearnedStateFormatVersion 0x1009.04 (skein) (R514). -/
  learnedFormat : Nat := 1
  /-- LearnedStateConvertibleFrom (skein) (R527). -/
  convertFrom : Nat := 1
  /-- SafetySetFormatVersion 0x1009.05 (skein) (R514). -/
  safetyFormat : Nat := 1
  /-- CmuImageVersion 0x1009.09 (skein) (R514). -/
  cmuImage : Nat := 0
  /-- digest of section 6 of the skein; CmuImageDigest from cast-on step 2 (R533). -/
  cmuDigest : List Nat := []
  /-- SkeinDigest 0x1009.0D (skein); missing bytes read 0 (R514). -/
  skeinDigest : List Nat := []
  /-- OperatingHours 0x100A.01 (FRAM, delivered 0) (R514 R558). -/
  hours : U32 := 0
  /-- CastOnCount 0x100A.02 (FRAM, delivered 0) (R514 R558). -/
  castOns : U32 := 0
  /-- node ID in force (0x1010 of the own side at the last cast-on) (R515 R558). -/
  nodeId : Nat := 0
  deriving DecidableEq, Repr

/-- The whole module. -/
structure State where
  /-- fault manager (R38-R46). -/
  fm : FaultMgr := {}
  /-- rows, patterns, core supply (R21-R36). -/
  rows : Rows := {}
  /-- power manager (R86-R119). -/
  pm : Power := {}
  /-- converter array and fast pairs (R120-R154). -/
  ca : Converter := {}
  /-- string sensing (R155-R166). -/
  ss : Sensing := {}
  /-- insulation monitor (R167-R177). -/
  im : Insulation := {}
  /-- contactor supervisor (R178-R191). -/
  pc : Contactor := {}
  /-- cell link engine (R194-R237). -/
  cl : CellLink := {}
  /-- estimation fabric (R238-R275). -/
  ef : Fabric := {}
  /-- balancing scheduler (R276-R285). -/
  bs : Balancer := {}
  /-- thermal manager (R286-R302). -/
  tm : Thermal := {}
  /-- dispatch envelope engine (R305-R330). -/
  de : Dispatch := {}
  /-- safety island (R331-R364). -/
  si : Safety := {}
  /-- output stages (R348-R350). -/
  os : Outputs := {}
  /-- Twin Yarn and lockstep (R365-R408). -/
  ty : Twin := {}
  /-- timebase and network time (R409-R433). -/
  tb : Timebase := {}
  /-- Ethernet (R460-R461 R518). -/
  en : Ethernet := {}
  /-- CAN controllers (R434-R459). -/
  cn : Can := {}
  /-- Syben protocol, mailboxes (R460-R494). -/
  sy : Syben := {}
  /-- check engines CE0 to CE7 (R495-R499). -/
  ck : Tab Engine := []
  /-- nonvolatile store (R543-R548). -/
  nv : Nv := {}
  /-- loader and ROM recovery (R526-R542). -/
  ld : Loader := {}
  /-- event log (R520-R523). -/
  lg : EventLog := {}
  /-- identity (R514). -/
  id : Ident := {}
  /-- configuration objects in force, key index x 256 + subindex; unlisted is the Reset value (R507-R509). -/
  cfg : Tab Nat := []
  /-- STOP values accepted whose Takes effect entry has not come (R508). -/
  stopWait : Tab Nat := []
  /-- bytes of the cell model tables accepted and not yet in force, each plus 1, by index x 65536 + offset (R508). -/
  bytesWait : Tab Nat := []
  /-- byte-array objects (cell model tables), key index x 65536 + offset; unlisted reads 0 (R240). -/
  bytes : List Host.Cell := []
  /-- counter that numbers the free values taken; the model's field, not the spec's (DESIGN CHOICE). -/
  freeCount : Nat := 0
  /-- what has left the module's ports, oldest first; the model's field (DESIGN CHOICE). -/
  out : List Out := []
  /-- commands waiting, first in first out; the model's field. -/
  pending : List Instr := []
  deriving DecidableEq, Repr

/-- The module right after reset: every field at the value the spec states for reset, or at the value the
assumption log names. -/
def State.reset : State := {}

end Sys2Proof.Machine
end

