-- ==== Sys2Proof/Machine/Objects.lean ====
section
/-! DEFINITION. Objects: the configuration object table (R502 to R509) from the chapters' tables, and the values in
force. -/

namespace Sys2Proof.Machine

/-- Access classes of the configuration objects (R507). -/
inductive Access where
  | live | staged | stop | safe
  deriving DecidableEq, Repr

/-- When an accepted value acts (R508). -/
inductive Effect where
  | row | pattern | boundary | renewal | fabric | castOn | confirm
  deriving DecidableEq, Repr

/-- One entry of the object table: index, first and last subindex, size in bytes, width of its field in bits,
access class, takes effect, signed, range, and the Reset values by subindex (the last one goes on). -/
structure Obj where
  index : Nat
  lo : Nat
  hi : Nat
  bytes : Nat
  bits : Nat
  access : Access
  effect : Effect
  signed : Bool
  min : Int
  max : Int
  reset : List Int
  deriving DecidableEq, Repr

/-- The configuration objects of 0x1000 to 0x10FF, as their chapter tables them. -/
def objs10 : List Obj :=
  [⟨0x1010, 1, 1, 2, 16, .stop, .castOn, false, 0, 16000, [0]⟩ /- NodeIdSideA -/,
   ⟨0x1010, 2, 2, 2, 16, .stop, .castOn, false, 0, 16000, [0]⟩ /- NodeIdSideB -/]

/-- The configuration objects of 0x1A00 to 0x1AFF, as their chapter tables them. -/
def objs1A : List Obj :=
  [⟨0x1A01, 0, 0, 1, 8, .live, .row, false, 0, 255, [0]⟩ /- FaultAcknowledge -/,
   ⟨0x1A02, 0, 0, 1, 8, .staged, .boundary, false, 10, 100, [50]⟩ /- DerateFactor -/]

/-- The configuration objects of 0x2100 to 0x21FF, as their chapter tables them. -/
def objs21 : List Obj :=
  [⟨0x2180, 1, 1, 2, 16, .staged, .boundary, false, 5, 3600, [60]⟩ /- SessionIdleTimeout -/,
   ⟨0x2182, 1, 1, 1, 8, .staged, .boundary, false, 0, 255, [0]⟩ /- TelemetryGroup -/,
   ⟨0x2182, 2, 2, 2, 16, .staged, .boundary, false, 1, 6000, [100]⟩ /- TelemetryPeriod -/,
   ⟨0x2183, 1, 32, 4, 32, .staged, .boundary, false, 0, 16777215, [0]⟩ /- TelemetryList -/]

/-- The configuration objects of 0x2200 to 0x22FF, as their chapter tables them. -/
def objs22 : List Obj :=
  [⟨0x2280, 1, 1, 1, 8, .live, .row, false, 0, 255, [0]⟩ /- SoftwareReset -/,
   ⟨0x2280, 2, 2, 1, 8, .live, .row, false, 0, 255, [0]⟩ /- BindOff -/,
   ⟨0x2280, 4, 4, 2, 16, .staged, .boundary, false, 150, 1000, [150]⟩ /- PullInSpacing -/]

/-- The configuration objects of 0x2300 to 0x23FF, as their chapter tables them. -/
def objs23 : List Obj :=
  [⟨0x2381, 1, 8, 4, 25, .staged, .boundary, false, 0, 33554431, [66161, 1114737, 3211889, 4260465, 5309041, 6357617, 9503345, 10551921]⟩ /- DutyConfig -/,
   ⟨0x2382, 1, 8, 1, 8, .staged, .boundary, false, 0, 6, [1, 1, 1, 0, 0, 0, 0, 0]⟩ /- CaptureSource -/,
   ⟨0x2383, 1, 8, 4, 32, .staged, .boundary, false, 0, 10000000, [0]⟩ /- CaptureDelay -/,
   ⟨0x2384, 0, 0, 12, 96, .staged, .boundary, false, 0, 79228162514264337593543950335, [0]⟩ /- TimerStart -/,
   ⟨0x2385, 0, 0, 4, 32, .staged, .boundary, false, 0, 4000000000, [0]⟩ /- TimerPeriod -/,
   ⟨0x2386, 1, 4, 1, 8, .staged, .boundary, false, 0, 6, [0]⟩ /- LineSource -/,
   ⟨0x2387, 0, 0, 1, 4, .live, .row, false, 0, 15, [0]⟩ /- SoftwareTrigger -/,
   ⟨0x2388, 1, 16, 2, 16, .staged, .boundary, false, 0, 65535, [16393, 16514, 0, 0, 0, 0, 0, 0, 0, 0, 0, 0, 0, 0, 0, 0]⟩ /- D6Sequence -/,
   ⟨0x2389, 1, 16, 2, 16, .staged, .boundary, false, 0, 65535, [8202, 8210, 8211, 8204, 8208, 8337, 0, 0, 0, 0, 0, 0, 0, 0, 0, 0]⟩ /- D7Sequence -/,
   ⟨0x2390, 0, 0, 2, 16, .staged, .boundary, false, 5, 1000, [20]⟩ /- HandOverLimit -/]

/-- The configuration objects of 0x2400 to 0x24FF, as their chapter tables them. -/
def objs24 : List Obj :=
  [⟨0x2480, 1, 1, 2, 16, .safe, .confirm, true, -32768, 32767, [26214]⟩ /- FA_High -/,
   ⟨0x2480, 2, 2, 2, 16, .safe, .confirm, true, -32768, 32767, [-26214]⟩ /- FA_Low -/,
   ⟨0x2480, 3, 3, 2, 16, .safe, .confirm, true, -32768, 32767, [29127]⟩ /- FB_High -/,
   ⟨0x2480, 4, 4, 2, 16, .safe, .confirm, true, -32768, 32767, [-32768]⟩ /- FB_Low -/,
   ⟨0x2481, 1, 2, 2, 12, .live, .row, false, 0, 4095, [1024]⟩ /- RingPreTrigger -/,
   ⟨0x2481, 3, 4, 1, 8, .live, .row, false, 0, 255, [0]⟩ /- RingArm -/,
   ⟨0x2482, 1, 2, 1, 2, .staged, .boundary, false, 0, 3, [3]⟩ /- RingTriggerMask -/]

/-- The configuration objects of 0x2500 to 0x25FF, as their chapter tables them. -/
def objs25 : List Obj :=
  [⟨0x2580, 1, 1, 4, 32, .stop, .row, false, 10000, 1000000, [50000]⟩ /- ShuntR25 -/,
   ⟨0x2580, 2, 2, 4, 32, .stop, .row, true, -2147483648, 2147483647, [0]⟩ /- ShuntAlpha -/,
   ⟨0x2580, 3, 3, 4, 32, .stop, .row, true, -2147483648, 2147483647, [0]⟩ /- ShuntBeta -/,
   ⟨0x2580, 4, 4, 2, 16, .stop, .row, false, 0, 65535, [0]⟩ /- ShuntSelfHeat -/,
   ⟨0x2581, 1, 1, 4, 32, .stop, .row, true, -2147483648, 2147483647, [625000]⟩ /- HallScale -/,
   ⟨0x2581, 2, 2, 4, 32, .stop, .row, true, -2147483648, 2147483647, [0]⟩ /- HallOffset -/,
   ⟨0x2582, 1, 1, 4, 32, .staged, .boundary, false, 1000, 200000, [10000]⟩ /- HallCheckAbs -/,
   ⟨0x2582, 2, 2, 2, 16, .staged, .boundary, false, 10, 2000, [200]⟩ /- HallCheckRel -/,
   ⟨0x2582, 3, 3, 2, 16, .staged, .boundary, false, 5, 1000, [50]⟩ /- HallCheckTime -/]

/-- The configuration objects of 0x2600 to 0x26FF, as their chapter tables them. -/
def objs26 : List Obj :=
  [⟨0x2680, 1, 1, 2, 16, .staged, .boundary, false, 0, 65535, [0]⟩ /- IsoBusId -/,
   ⟨0x2680, 2, 2, 4, 32, .staged, .boundary, false, 10000, 10000000, [500000]⟩ /- PrewarnLimit -/,
   ⟨0x2680, 3, 3, 4, 32, .staged, .boundary, false, 10000, 10000000, [100000]⟩ /- AlarmLimit -/,
   ⟨0x2680, 4, 4, 2, 16, .staged, .boundary, false, 1000, 60000, [20000]⟩ /- StateMax -/,
   ⟨0x2680, 5, 5, 4, 32, .staged, .boundary, false, 0, 4294967295, [3600]⟩ /- TokenRotate -/,
   ⟨0x2680, 6, 6, 2, 16, .staged, .boundary, false, 10, 3600, [300]⟩ /- TokenStarveTime -/,
   ⟨0x2680, 7, 7, 1, 1, .staged, .boundary, false, 0, 1, [0]⟩ /- ExternalImd -/]

/-- The configuration objects of 0x2700 to 0x27FF, as their chapter tables them. -/
def objs27 : List Obj :=
  [⟨0x2780, 1, 1, 4, 32, .stop, .row, false, 0, 4294967295, [100000]⟩ /- PrechargeR -/,
   ⟨0x2780, 2, 2, 4, 32, .stop, .row, false, 0, 4294967295, [1000]⟩ /- BusCapMin -/,
   ⟨0x2780, 3, 3, 4, 32, .stop, .row, false, 0, 4294967295, [20000]⟩ /- BusCapMax -/,
   ⟨0x2780, 4, 4, 4, 32, .stop, .row, false, 0, 4294967295, [10000]⟩ /- PrechargeDoneV -/,
   ⟨0x2780, 5, 5, 2, 16, .stop, .row, false, 0, 65535, [50]⟩ /- CurveMargin -/,
   ⟨0x2780, 6, 6, 4, 32, .stop, .row, false, 0, 4294967295, [60000]⟩ /- ResistorEnergyMax -/,
   ⟨0x2780, 7, 7, 4, 32, .stop, .row, false, 0, 4294967295, [600]⟩ /- ResistorTau -/,
   ⟨0x2780, 8, 8, 2, 16, .stop, .row, false, 5, 100, [20]⟩ /- ContactOpenTime -/,
   ⟨0x2780, 9, 9, 2, 16, .stop, .row, false, 0, 65535, [30]⟩ /- OpenStagger -/,
   ⟨0x2780, 10, 10, 4, 32, .stop, .row, false, 0, 4294967295, [20000]⟩ /- ContactVoltageLimit -/,
   ⟨0x2780, 11, 11, 4, 32, .stop, .row, false, 0, 4294967295, [2000]⟩ /- WeldCurrent -/,
   ⟨0x2781, 0, 0, 1, 1, .live, .row, false, 0, 1, [0]⟩ /- AuxCoilCommand -/]

/-- The configuration objects of 0x2800 to 0x28FF, as their chapter tables them. -/
def objs28 : List Obj :=
  [⟨0x2880, 0, 0, 1, 8, .stop, .renewal, false, 0, 32, [0]⟩ /- ExpectedCmuCount -/,
   ⟨0x2881, 1, 32, 1, 8, .stop, .renewal, false, 1, 24, [24]⟩ /- GroupsPerCmu -/,
   ⟨0x2882, 1, 32, 1, 8, .stop, .renewal, false, 0, 255, [255]⟩ /- SensorMask -/,
   ⟨0x2883, 1, 1, 2, 16, .safe, .confirm, false, 0, 65535, [36500]⟩ /- CmuOvThreshold -/,
   ⟨0x2883, 2, 2, 2, 16, .safe, .confirm, false, 0, 65535, [20000]⟩ /- CmuUvThreshold -/,
   ⟨0x2884, 0, 0, 2, 16, .staged, .boundary, false, 100, 10000, [1000]⟩ /- CellDataLostOpenDelay -/,
   ⟨0x2885, 1, 1, 4, 32, .staged, .boundary, false, 0, 4294967295, [50000]⟩ /- StepThreshold -/,
   ⟨0x2885, 2, 2, 1, 3, .staged, .boundary, false, 0, 7, [7]⟩ /- StepSources -/,
   ⟨0x2887, 0, 0, 2, 16, .staged, .boundary, false, 10, 6000, [100]⟩ /- RingCloseDwell -/,
   ⟨0x2888, 0, 0, 1, 8, .stop, .renewal, false, 1, 2, [2]⟩ /- LoaderVersionMax -/,
   ⟨0x2889, 0, 0, 1, 8, .stop, .pattern, false, 1, 1, [0]⟩ /- RenewRing -/]

/-- The configuration objects of 0x2900 to 0x29FF, as their chapter tables them. -/
def objs29 : List Obj :=
  [⟨0x2980, 1, 1, 4, 32, .stop, .fabric, false, 0, 4294967295, [0]⟩ /- ModelId -/,
   ⟨0x2980, 2, 9, 2, 16, .stop, .fabric, true, -32768, 32767, [-2000, -1000, 0, 1000, 2500, 3500, 4500, 5500]⟩ /- TempBreakpoint -/,
   ⟨0x2980, 10, 10, 2, 16, .stop, .fabric, false, 0, 65535, [36000]⟩ /- ChargeLimitVoltage -/,
   ⟨0x2980, 11, 11, 2, 16, .stop, .fabric, false, 0, 65535, [28000]⟩ /- DischargeCutoffVoltage -/,
   ⟨0x2980, 12, 12, 8, 64, .stop, .fabric, false, 0, 18446744073709551615, [0]⟩ /- NominalCapacity -/,
   ⟨0x2980, 13, 13, 4, 32, .stop, .fabric, false, 990000, 1000000, [999500]⟩ /- ChargeEfficiency -/,
   ⟨0x2980, 14, 14, 2, 16, .stop, .fabric, false, 0, 65535, [400]⟩ /- HysteresisRate -/,
   ⟨0x2980, 15, 15, 4, 32, .stop, .fabric, false, 0, 4294967295, [0]⟩ /- ModelCheck -/,
   ⟨0x2989, 0, 0, 1, 8, .live, .pattern, false, 0, 255, [0]⟩ /- FabricStop -/,
   ⟨0x298A, 1, 1, 2, 16, .staged, .boundary, false, 100, 20000, [1000]⟩ /- MeasNoise -/,
   ⟨0x298A, 2, 2, 2, 16, .staged, .boundary, false, 30, 200, [50]⟩ /- GateSigma -/,
   ⟨0x298A, 3, 3, 2, 16, .staged, .boundary, false, 0, 1000, [50]⟩ /- SocDriftRate -/,
   ⟨0x298A, 4, 4, 2, 16, .staged, .boundary, false, 200, 10000, [1000]⟩ /- RestVoltageSigma -/,
   ⟨0x298A, 5, 5, 2, 16, .staged, .boundary, false, 0, 65535, [500]⟩ /- NearLimitVoltage -/,
   ⟨0x298A, 6, 6, 2, 16, .staged, .boundary, false, 0, 65535, [500]⟩ /- ConfidenceWarn -/,
   ⟨0x298B, 1, 1, 4, 32, .staged, .boundary, false, 1200, 14400, [1200]⟩ /- RestTime -/,
   ⟨0x298B, 2, 2, 4, 32, .staged, .boundary, false, 0, 14400, [3600]⟩ /- ColdRestTime -/,
   ⟨0x298B, 3, 3, 2, 16, .staged, .boundary, true, -32768, 32767, [1000]⟩ /- ColdRestTemp -/,
   ⟨0x298B, 4, 4, 2, 16, .staged, .boundary, false, 400, 900, [400]⟩ /- CapacityLearnSpan -/,
   ⟨0x298B, 5, 5, 4, 32, .staged, .boundary, false, 0, 4294967295, [2592000]⟩ /- ReferenceMaxAge -/,
   ⟨0x298B, 6, 6, 4, 32, .staged, .boundary, false, 3600, 31536000, [604800]⟩ /- RestRequestAfter -/,
   ⟨0x298B, 7, 7, 4, 32, .staged, .boundary, false, 1800, 14400, [1800]⟩ /- RestRequestMinWindow -/,
   ⟨0x298C, 1, 1, 4, 32, .staged, .boundary, false, 0, 4294967295, [50000]⟩ /- ImpedanceMinStep -/,
   ⟨0x298C, 2, 2, 2, 16, .staged, .boundary, false, 10, 1000, [100]⟩ /- ImpedanceGain -/] ++
  [⟨0x298D, 1, 1, 2, 16, .staged, .boundary, false, 10, 10000, [100]⟩ /- DispatchSlew -/,
   ⟨0x298D, 2, 2, 2, 16, .staged, .boundary, false, 1, 600, [60]⟩ /- CurrentSmoothing -/,
   ⟨0x298F, 0, 0, 1, 8, .live, .pattern, false, 0, 255, [0]⟩ /- LearnedStateReset -/]

/-- The configuration objects of 0x2A00 to 0x2AFF, as their chapter tables them. -/
def objs2A : List Obj :=
  [⟨0x2A80, 1, 1, 1, 1, .live, .row, false, 0, 1, [1]⟩ /- BalanceEnable -/,
   ⟨0x2A80, 2, 2, 2, 16, .stop, .pattern, false, 0, 65535, [1200]⟩ /- BleedResistance -/,
   ⟨0x2A80, 3, 3, 2, 16, .staged, .boundary, false, 5, 500, [20]⟩ /- StartBand -/,
   ⟨0x2A80, 4, 4, 2, 16, .staged, .boundary, false, 1, 499, [5]⟩ /- StopBand -/,
   ⟨0x2A80, 5, 5, 2, 16, .staged, .boundary, false, 0, 65535, [800]⟩ /- BalanceMinConfidence -/,
   ⟨0x2A80, 6, 6, 2, 16, .staged, .boundary, true, -32768, 32767, [4500]⟩ /- BalanceMaxCellTemp -/,
   ⟨0x2A80, 7, 7, 2, 16, .staged, .boundary, false, 500, 20000, [4000]⟩ /- CmuBleedPowerMax -/,
   ⟨0x2A80, 8, 8, 2, 16, .staged, .boundary, true, 7000, 10500, [9500]⟩ /- CmuDieDerateStart -/,
   ⟨0x2A80, 9, 9, 1, 8, .staged, .boundary, false, 11, 50, [20]⟩ /- BleedSlice -/,
   ⟨0x2A80, 10, 10, 1, 1, .staged, .boundary, false, 0, 1, [1]⟩ /- RestProtect -/,
   ⟨0x2A80, 11, 11, 2, 16, .staged, .boundary, false, 0, 65535, [1000]⟩ /- BleedVoltageMargin -/]

/-- The configuration objects of 0x2B00 to 0x2BFF, as their chapter tables them. -/
def objs2B : List Obj :=
  [⟨0x2B80, 1, 4, 2, 16, .staged, .boundary, true, -32768, 32767, [4500, 5000, 5500, 6000]⟩ /- ThrottleThreshold -/,
   ⟨0x2B80, 5, 8, 1, 8, .staged, .boundary, false, 0, 100, [80, 50, 25, 0]⟩ /- ThrottleFactor -/,
   ⟨0x2B81, 1, 1, 2, 16, .staged, .boundary, false, 50, 1000, [200]⟩ /- Hysteresis -/,
   ⟨0x2B81, 2, 2, 1, 8, .staged, .boundary, false, 1, 10, [3]⟩ /- Dwell -/,
   ⟨0x2B81, 3, 3, 2, 16, .staged, .boundary, false, 0, 2000, [300]⟩ /- SubstituteMargin -/,
   ⟨0x2B81, 4, 4, 2, 16, .staged, .boundary, false, 10, 3600, [60]⟩ /- RecoverTime -/,
   ⟨0x2B84, 1, 128, 8, 64, .staged, .boundary, false, 0, 18446744073709551615, [18446744073709551615]⟩ /- SensorNeighbours -/,
   ⟨0x2B85, 1, 128, 8, 64, .staged, .boundary, false, 0, 18446744073709551615, [18446744073709551615]⟩ /- SensorNeighbours -/,
   ⟨0x2B86, 1, 128, 2, 16, .staged, .boundary, false, 0, 65535, [65535]⟩ /- GroupSensor -/,
   ⟨0x2B87, 1, 128, 2, 16, .staged, .boundary, false, 0, 65535, [65535]⟩ /- GroupSensor -/,
   ⟨0x2B88, 1, 128, 2, 16, .staged, .boundary, false, 0, 65535, [65535]⟩ /- GroupSensor -/,
   ⟨0x2B89, 1, 128, 2, 16, .staged, .boundary, false, 0, 65535, [65535]⟩ /- GroupSensor -/,
   ⟨0x2B8A, 1, 8, 1, 8, .staged, .boundary, false, 0, 2, [0]⟩ /- LocalSensorType -/,
   ⟨0x2B8B, 1, 8, 2, 16, .staged, .boundary, false, 0, 65535, [3435]⟩ /- LocalNtcB -/,
   ⟨0x2B8C, 1, 8, 2, 16, .staged, .boundary, true, -32768, 32767, [8000]⟩ /- LocalLimit -/,
   ⟨0x2B90, 1, 4, 1, 8, .staged, .boundary, false, 0, 12, [0]⟩ /- PwmSource -/,
   ⟨0x2B91, 1, 4, 2, 16, .staged, .boundary, false, 100, 25000, [25000]⟩ /- PwmFrequency -/,
   ⟨0x2B92, 1, 4, 2, 16, .staged, .boundary, true, -32768, 32767, [3000]⟩ /- PwmStartTemp -/,
   ⟨0x2B93, 1, 4, 2, 16, .staged, .boundary, true, -32768, 32767, [4500]⟩ /- PwmFullTemp -/,
   ⟨0x2B94, 1, 4, 1, 8, .staged, .boundary, false, 0, 100, [0]⟩ /- PwmMinDuty -/,
   ⟨0x2B98, 1, 1, 2, 16, .safe, .confirm, true, -32768, 32767, [0]⟩ /- ChargeWindowLow -/,
   ⟨0x2B98, 2, 2, 2, 16, .safe, .confirm, true, -32768, 32767, [5500]⟩ /- ChargeWindowHigh -/,
   ⟨0x2B98, 3, 3, 2, 16, .safe, .confirm, true, -32768, 32767, [6500]⟩ /- CellCriticalTemp -/]

/-- The configuration objects of 0x2C00 to 0x2CFF, as their chapter tables them. -/
def objs2C : List Obj :=
  [⟨0x2C80, 1, 1, 4, 32, .staged, .boundary, false, 0, 2000000, [2000000]⟩ /- ChargeCurrentMax -/,
   ⟨0x2C80, 2, 2, 4, 32, .staged, .boundary, false, 0, 2000000, [2000000]⟩ /- DischargeCurrentMax -/,
   ⟨0x2C80, 3, 3, 4, 32, .staged, .boundary, false, 0, 3000000, [2200000]⟩ /- HardCurrentLimit -/,
   ⟨0x2C80, 4, 4, 2, 16, .staged, .boundary, false, 100, 2000, [500]⟩ /- HardCellMargin -/,
   ⟨0x2C80, 5, 5, 4, 32, .staged, .boundary, false, 0, 4294967295, [1500000]⟩ /- UpperVoltageMax -/,
   ⟨0x2C80, 6, 6, 4, 32, .staged, .boundary, false, 0, 4294967295, [0]⟩ /- LowerVoltageMin -/,
   ⟨0x2C81, 1, 1, 4, 32, .staged, .boundary, false, 0, 50000, [2000]⟩ /- EnforceAbsMargin -/,
   ⟨0x2C81, 2, 2, 2, 16, .staged, .boundary, false, 10, 2000, [100]⟩ /- ResponseTime -/,
   ⟨0x2C81, 3, 3, 4, 32, .staged, .boundary, false, 500, 100000, [5000]⟩ /- OpenCurrentLimit -/,
   ⟨0x2C81, 4, 4, 4, 32, .stop, .row, false, 10000, 2000000, [2000000]⟩ /- ContactorBreakRating -/,
   ⟨0x2C82, 1, 1, 1, 3, .staged, .boundary, false, 0, 7, [5]⟩ /- EnvelopePaths -/,
   ⟨0x2C82, 2, 2, 4, 32, .stop, .row, false, 0, 4294967295, [16]⟩ /- EnvelopeCanId -/,
   ⟨0x2C82, 3, 3, 1, 8, .stop, .row, false, 1, 2, [1]⟩ /- EnvelopeCanCtrl -/,
   ⟨0x2C82, 4, 4, 2, 16, .staged, .boundary, false, 0, 65535, [0]⟩ /- EnvelopeEthTarget -/,
   ⟨0x2C83, 1, 1, 1, 8, .staged, .boundary, false, 0, 2, [1]⟩ /- NoLeaseAction -/,
   ⟨0x2C83, 2, 2, 4, 32, .staged, .boundary, false, 3600, 2592000, [86400]⟩ /- RestRetryInterval -/]

/-- The configuration objects of 0x2D00 to 0x2DFF, as their chapter tables them. -/
def objs2D : List Obj :=
  [⟨0x2D80, 1, 8, 1, 8, .safe, .confirm, false, 0, 2, [0]⟩ /- SinMode -/,
   ⟨0x2D81, 1, 8, 2, 16, .safe, .confirm, false, 5, 200, [10]⟩ /- SinFilter -/,
   ⟨0x2D82, 1, 8, 2, 16, .safe, .confirm, false, 10, 500, [100]⟩ /- SinDiscrepancy -/,
   ⟨0x2D83, 1, 8, 1, 8, .safe, .confirm, false, 1, 2, [1]⟩ /- SinReaction -/,
   ⟨0x2D84, 1, 8, 1, 8, .safe, .confirm, false, 0, 1, [1]⟩ /- SinRestart -/,
   ⟨0x2D85, 1, 8, 1, 8, .safe, .confirm, false, 0, 1, [1]⟩ /- SinTestSource -/,
   ⟨0x2D86, 1, 1, 4, 32, .safe, .confirm, false, 10000, 3000000, [2000000]⟩ /- SafetyBreakCurrent -/,
   ⟨0x2D86, 2, 2, 4, 32, .safe, .confirm, false, 1000, 100000, [5000]⟩ /- ChargeBlockCurrent -/,
   ⟨0x2D86, 3, 3, 2, 16, .safe, .confirm, false, 1000, 60000, [5000]⟩ /- ChargeBlockTime -/,
   ⟨0x2D86, 4, 4, 1, 8, .safe, .confirm, false, 0, 1, [1]⟩ /- XtripEnable -/,
   ⟨0x2D86, 5, 5, 4, 32, .safe, .confirm, false, 720, 87600, [8760]⟩ /- ProofTestInterval -/,
   ⟨0x2D8A, 0, 0, 1, 8, .live, .row, false, 0, 255, [0]⟩ /- SafetyInputReset -/,
   ⟨0x2D8B, 0, 0, 4, 32, .live, .row, false, 0, 4294967295, [0]⟩ /- SafetySetConfirm -/,
   ⟨0x2D8C, 0, 0, 1, 8, .live, .row, false, 0, 255, [0]⟩ /- SafetySetRevert -/,
   ⟨0x2D8D, 0, 0, 1, 8, .live, .row, false, 0, 255, [0]⟩ /- ProofTest -/]

/-- The configuration objects of 0x2E00 to 0x2EFF, as their chapter tables them. -/
def objs2E : List Obj :=
  [⟨0x2E80, 1, 4, 1, 8, .safe, .confirm, false, 0, 1, [1]⟩ /- CoilWiring -/,
   ⟨0x2E81, 1, 4, 2, 16, .staged, .boundary, false, 200, 800, [800]⟩ /- CoilHoldCurrent -/]

/-- The configuration objects of 0x2F00 to 0x2FFF, as their chapter tables them. -/
def objs2F : List Obj :=
  [⟨0x2F80, 1, 1, 1, 8, .stop, .castOn, false, 0, 2, [2]⟩ /- PairMode -/,
   ⟨0x2F80, 2, 2, 2, 16, .stop, .castOn, false, 500, 30000, [2000]⟩ /- PairWait -/,
   ⟨0x2F80, 3, 3, 1, 8, .staged, .boundary, false, 1, 14, [4]⟩ /- HealthMargin -/,
   ⟨0x2F80, 4, 4, 2, 16, .staged, .boundary, false, 1, 1000, [5]⟩ /- StitchLimit -/,
   ⟨0x2F80, 5, 5, 4, 32, .staged, .boundary, false, 1000, 200000, [10000]⟩ /- TwinCurrentCheck -/,
   ⟨0x2F80, 6, 6, 4, 32, .staged, .boundary, false, 200, 50000, [2000]⟩ /- TwinVoltageCheck -/,
   ⟨0x2F81, 0, 0, 1, 8, .live, .row, false, 0, 255, [0]⟩ /- HandOverRequest -/,
   ⟨0x2F82, 0, 0, 1, 8, .live, .row, false, 0, 255, [0]⟩ /- RejoinRequest -/]

/-- The configuration objects of 0x3000 to 0x30FF, as their chapter tables them. -/
def objs30 : List Obj :=
  [⟨0x3080, 1, 1, 1, 1, .staged, .boundary, false, 0, 1, [1]⟩ /- PtpEnable -/,
   ⟨0x3080, 2, 2, 1, 8, .stop, .boundary, false, 0, 1, [0]⟩ /- PtpProfile -/,
   ⟨0x3080, 3, 3, 1, 8, .stop, .boundary, false, 0, 1, [0]⟩ /- PtpTransport -/,
   ⟨0x3080, 4, 4, 1, 8, .stop, .boundary, false, 0, 127, [0]⟩ /- PtpDomain -/,
   ⟨0x3080, 5, 5, 1, 8, .stop, .boundary, false, 0, 1, [0]⟩ /- PtpRole -/,
   ⟨0x3080, 6, 6, 1, 8, .stop, .boundary, false, 0, 255, [128]⟩ /- Priority1 -/,
   ⟨0x3080, 7, 7, 1, 8, .stop, .boundary, false, 0, 255, [128]⟩ /- Priority2 -/,
   ⟨0x3080, 8, 8, 1, 8, .staged, .boundary, true, -3, 1, [0]⟩ /- LogSyncInterval -/,
   ⟨0x3080, 9, 9, 1, 8, .staged, .boundary, true, -3, 3, [0]⟩ /- LogAnnounceInterval -/,
   ⟨0x3080, 10, 10, 1, 8, .staged, .boundary, false, 2, 10, [3]⟩ /- AnnounceReceiptTimeout -/,
   ⟨0x3080, 11, 11, 2, 16, .stop, .boundary, false, 0, 32767, [0]⟩ /- PtpVlan -/,
   ⟨0x3081, 1, 2, 2, 16, .staged, .boundary, false, 0, 65535, [0]⟩ /- IngressLatency -/,
   ⟨0x3081, 3, 4, 2, 16, .staged, .boundary, false, 0, 65535, [0]⟩ /- EgressLatency -/,
   ⟨0x3082, 1, 1, 4, 32, .staged, .boundary, false, 1000, 1000000000, [1000000]⟩ /- JumpThreshold -/,
   ⟨0x3082, 2, 2, 1, 1, .staged, .boundary, false, 0, 1, [0]⟩ /- AutoAccept -/,
   ⟨0x3082, 3, 3, 2, 16, .staged, .boundary, false, 1, 500, [500]⟩ /- MaxSlew -/,
   ⟨0x3082, 4, 4, 4, 32, .staged, .boundary, false, 50, 1000000, [1000]⟩ /- LockThreshold -/,
   ⟨0x3082, 5, 5, 2, 16, .staged, .boundary, false, 2, 1000, [16]⟩ /- ServoTau -/,
   ⟨0x3083, 0, 0, 1, 8, .live, .row, false, 0, 255, [0]⟩ /- StepAccept -/,
   ⟨0x3084, 0, 0, 1, 8, .stop, .boundary, false, 0, 2, [0]⟩ /- ServoOwner -/,
   ⟨0x3085, 0, 0, 4, 32, .staged, .boundary, false, 100, 100000, [1000]⟩ /- TwinTimeLimit -/,
   ⟨0x3086, 0, 0, 8, 64, .live, .row, false, 0, 18446744073709551615, [21474836480]⟩ /- Increment -/,
   ⟨0x3087, 0, 0, 8, 64, .live, .row, true, -9223372036854775808, 9223372036854775807, [0]⟩ /- StepRequest -/]

/-- The configuration objects of 0x3100 to 0x31FF, as their chapter tables them. -/
def objs31 : List Obj :=
  [⟨0x3180, 1, 1, 4, 32, .staged, .boundary, false, 0, 4294967295, [0]⟩ /- Ipv4Address -/,
   ⟨0x3180, 2, 2, 4, 32, .staged, .boundary, false, 0, 4294967295, [0]⟩ /- Ipv4Netmask -/,
   ⟨0x3180, 3, 3, 4, 32, .staged, .boundary, false, 0, 4294967295, [0]⟩ /- Ipv4Gateway -/,
   ⟨0x3180, 4, 4, 2, 16, .staged, .boundary, false, 0, 32767, [0]⟩ /- SybenVlan -/]

/-- The configuration objects of 0x3200 to 0x32FF, as their chapter tables them. -/
def objs32 : List Obj :=
  [⟨0x3280, 1, 2, 1, 8, .live, .row, false, 0, 255, [1]⟩ /- ControllerMode -/,
   ⟨0x3281, 1, 2, 2, 16, .stop, .row, false, 125, 1000, [500]⟩ /- NominalBitrate -/,
   ⟨0x3282, 1, 2, 2, 16, .stop, .row, false, 500, 900, [800]⟩ /- NominalSamplePoint -/,
   ⟨0x3283, 1, 2, 1, 2, .stop, .row, false, 0, 3, [1]⟩ /- Formats -/,
   ⟨0x3284, 1, 2, 2, 16, .stop, .row, false, 0, 5000, [2000]⟩ /- DataBitrate -/,
   ⟨0x3285, 1, 2, 2, 16, .stop, .row, false, 500, 900, [700]⟩ /- DataSamplePoint -/,
   ⟨0x3286, 1, 2, 2, 16, .stop, .row, false, 2000, 10000, [10000]⟩ /- XlDataBitrate -/,
   ⟨0x3287, 1, 2, 2, 16, .stop, .row, false, 500, 900, [700]⟩ /- XlDataSamplePoint -/,
   ⟨0x3288, 1, 2, 1, 2, .live, .row, false, 0, 3, [1]⟩ /- ErrorOptions -/,
   ⟨0x3289, 1, 2, 1, 8, .stop, .row, false, 1, 128, [128]⟩ /- RxRingSize -/,
   ⟨0x328A, 1, 2, 1, 8, .live, .row, false, 0, 255, [0]⟩ /- RecoverRequest -/,
   ⟨0x328B, 0, 0, 1, 8, .stop, .row, false, 0, 1, [0]⟩ /- Can2Owner -/,
   ⟨0x328C, 1, 2, 1, 1, .staged, .boundary, false, 0, 1, [1]⟩ /- SybenEnable -/,
   ⟨0x328D, 0, 0, 1, 8, .staged, .boundary, false, 0, 255, [0]⟩ /- SybenXlSdt -/,
   ⟨0x328E, 1, 1, 4, 32, .staged, .boundary, false, 0, 4294967295, [4294967295]⟩ /- HvacCanId -/,
   ⟨0x328E, 2, 2, 1, 8, .staged, .boundary, false, 1, 2, [1]⟩ /- HvacCanCtrl -/,
   ⟨0x328F, 1, 1, 4, 32, .staged, .boundary, false, 0, 4294967295, [4294967295]⟩ /- FireCanId -/,
   ⟨0x328F, 2, 2, 1, 8, .staged, .boundary, false, 1, 2, [1]⟩ /- FireCanCtrl -/,
   ⟨0x328F, 3, 3, 2, 16, .staged, .boundary, false, 1000, 60000, [3000]⟩ /- FireTimeout -/,
   ⟨0x328F, 4, 4, 4, 32, .staged, .boundary, false, 0, 4294967295, [200000]⟩ /- FirePreAlarmCap -/]

/-- The configuration objects of 0x3300 to 0x33FF, as their chapter tables them. -/
def objs33 : List Obj :=
  [⟨0x3380, 1, 2, 1, 8, .live, .row, false, 0, 255, [0]⟩ /- HostEngineClaim -/]

/-- The configuration objects of 0x3400 to 0x34FF, as their chapter tables them. -/
def objs34 : List Obj :=
  [⟨0x3480, 0, 0, 2, 16, .staged, .boundary, false, 10, 600, [60]⟩ /- LoadIdleTimeout -/,
   ⟨0x3481, 0, 0, 1, 8, .live, .row, false, 0, 255, [0]⟩ /- RecoveryRequest -/]

/-- Every configuration object held as a word. -/
def objTable : List Obj :=
  objs10 ++ objs1A ++ objs21 ++ objs22 ++ objs23 ++ objs24 ++ objs25 ++ objs26 ++ objs27 ++ objs28 ++ objs29 ++ objs2A ++ objs2B ++ objs2C ++ objs2D ++ objs2E ++ objs2F ++ objs30 ++ objs31 ++ objs32 ++ objs33 ++ objs34

/-- The entry of an object, if there is one. -/
def findObj (index sub : Nat) : Option Obj :=
  objTable.find? fun o => o.index == index && (o.lo ≤ sub && sub ≤ o.hi)

/-- The key of an object in a table of values. -/
def objKey (index sub : Nat) : Nat := index * 256 + sub

/-- Two's complement: the value of an object's word as its stored number (R505). -/
def toWord (bits : Nat) (v : Int) : Nat := (v % (2 ^ bits : Int)).toNat

/-- The number a word of a signed field stands for (R505). -/
def ofWord (bits : Nat) (n : Nat) : Int :=
  let m := n % 2 ^ bits
  if m < 2 ^ (bits - 1) then m else (m : Int) - 2 ^ bits

/-- The Reset value of an object as a stored number; FB_High and UpperVoltageMax depend on the variant (R153, R329). -/
def objReset (variant index sub : Nat) : Nat :=
  if index == 0x2480 && sub == 3 then (if variant == 10 then 28836 else 29127)
  else if index == 0x2C80 && sub == 5 then (if variant == 10 then 1000000 else 1500000)
  else match findObj index sub with
    | none => 0
    | some o => toWord (o.bytes * 8) (o.reset.getD (sub - o.lo) (o.reset.getLastD 0))

/-- Look a key up in a list of keyed values. -/
def lookupKey (k : Nat) : Tab Nat → Option Nat
  | [] => none
  | (j, v) :: t => if j == k then some v else lookupKey k t

/-- The value in force of a configuration object, as its stored number (R507). -/
def State.cfgGet (s : State) (index sub : Nat) : Nat :=
  (lookupKey (objKey index sub) s.cfg).getD (objReset s.id.variant index sub)

/-- The value in force of a signed configuration object. -/
def State.cfgInt (s : State) (index sub bits : Nat) : Int := ofWord bits (s.cfgGet index sub)

/-- The value of a SAFE object in the active safety set (R358). -/
def State.safeGet (s : State) (index sub : Nat) : Nat :=
  (lookupKey (objKey index sub) s.si.active).getD (objReset s.id.variant index sub)

/-- The value of a SAFE object in the shadow set (R356). -/
def State.shadowGet (s : State) (index sub : Nat) : Nat :=
  (lookupKey (objKey index sub) s.si.shadow).getD (objReset s.id.variant index sub)

end Sys2Proof.Machine
end

