-- ==== Sys2Proof/Machine/Setters.lean ====
section
/-! DEFINITION. Setters: a change to one part of the state leaves every other part as it is. -/

namespace Sys2Proof.Machine

/-- The state with a change made to `fm`. -/
def State.modFm (s : State) (f : FaultMgr → FaultMgr) : State := { s with fm := f s.fm }

/-- The state with a change made to `rows`. -/
def State.modRows (s : State) (f : Rows → Rows) : State := { s with rows := f s.rows }

/-- The state with a change made to `pm`. -/
def State.modPm (s : State) (f : Power → Power) : State := { s with pm := f s.pm }

/-- The state with a change made to `ca`. -/
def State.modCa (s : State) (f : Converter → Converter) : State := { s with ca := f s.ca }

/-- The state with a change made to `ss`. -/
def State.modSs (s : State) (f : Sensing → Sensing) : State := { s with ss := f s.ss }

/-- The state with a change made to `im`. -/
def State.modIm (s : State) (f : Insulation → Insulation) : State := { s with im := f s.im }

/-- The state with a change made to `pc`. -/
def State.modPc (s : State) (f : Contactor → Contactor) : State := { s with pc := f s.pc }

/-- The state with a change made to `cl`. -/
def State.modCl (s : State) (f : CellLink → CellLink) : State := { s with cl := f s.cl }

/-- The state with a change made to `ef`. -/
def State.modEf (s : State) (f : Fabric → Fabric) : State := { s with ef := f s.ef }

/-- The state with a change made to `bs`. -/
def State.modBs (s : State) (f : Balancer → Balancer) : State := { s with bs := f s.bs }

/-- The state with a change made to `tm`. -/
def State.modTm (s : State) (f : Thermal → Thermal) : State := { s with tm := f s.tm }

/-- The state with a change made to `de`. -/
def State.modDe (s : State) (f : Dispatch → Dispatch) : State := { s with de := f s.de }

/-- The state with a change made to `si`. -/
def State.modSi (s : State) (f : Safety → Safety) : State := { s with si := f s.si }

/-- The state with a change made to `os`. -/
def State.modOs (s : State) (f : Outputs → Outputs) : State := { s with os := f s.os }

/-- The state with a change made to `ty`. -/
def State.modTy (s : State) (f : Twin → Twin) : State := { s with ty := f s.ty }

/-- The state with a change made to `tb`. -/
def State.modTb (s : State) (f : Timebase → Timebase) : State := { s with tb := f s.tb }

/-- The state with a change made to `en`. -/
def State.modEn (s : State) (f : Ethernet → Ethernet) : State := { s with en := f s.en }

/-- The state with a change made to `cn`. -/
def State.modCn (s : State) (f : Can → Can) : State := { s with cn := f s.cn }

/-- The state with a change made to `sy`. -/
def State.modSy (s : State) (f : Syben → Syben) : State := { s with sy := f s.sy }

/-- The state with a change made to `ck`. -/
def State.modCk (s : State) (f : Tab Engine → Tab Engine) : State := { s with ck := f s.ck }

/-- The state with a change made to `nv`. -/
def State.modNv (s : State) (f : Nv → Nv) : State := { s with nv := f s.nv }

/-- The state with a change made to `ld`. -/
def State.modLd (s : State) (f : Loader → Loader) : State := { s with ld := f s.ld }

/-- The state with a change made to `lg`. -/
def State.modLg (s : State) (f : EventLog → EventLog) : State := { s with lg := f s.lg }

/-- The state with a change made to `id`. -/
def State.modId (s : State) (f : Ident → Ident) : State := { s with id := f s.id }

/-- The state with a change made to `cfg`. -/
def State.modCfg (s : State) (f : Tab Nat → Tab Nat) : State := { s with cfg := f s.cfg }

/-- The state with a change made to `stopWait`. -/
def State.modStopWait (s : State) (f : Tab Nat → Tab Nat) : State := { s with stopWait := f s.stopWait }

/-- The state with a change made to `bytesWait`. -/
def State.modBytesWait (s : State) (f : Tab Nat → Tab Nat) : State := { s with bytesWait := f s.bytesWait }

/-- The state with a change made to `bytes`. -/
def State.modBytes (s : State) (f : List Host.Cell → List Host.Cell) : State := { s with bytes := f s.bytes }

/-- The state with a change made to `freeCount`. -/
def State.modFreeCount (s : State) (f : Nat → Nat) : State := { s with freeCount := f s.freeCount }

/-- The state with a change made to `out`. -/
def State.modOut (s : State) (f : List Out → List Out) : State := { s with out := f s.out }

/-- The state with a change made to `pending`. -/
def State.modPending (s : State) (f : List Instr → List Instr) : State := { s with pending := f s.pending }

end Sys2Proof.Machine
end

