-- ==== Sys2Proof/Machine/Ops.lean ====
section
/-! DEFINITION. Ops: the operations every chapter shares. Sparse tables, plant time and its ticks, free values,
raising and clearing faults (R38 to R44, R551), the held-write pool (R300) and what leaves the module. -/

namespace Sys2Proof.Machine

/-! ### Sparse tables -/

/-- The entry of a table, `d` where none is listed. -/
def tabGet {α : Type} (d : α) (k : Nat) : Tab α → α
  | [] => d
  | (j, v) :: t => if j == k then v else tabGet d k t

/-- Set an entry of a table; an entry equal to `d` is not listed. -/
def tabPut {α : Type} [DecidableEq α] (d : α) (k : Nat) (v : α) : Tab α → Tab α
  | [] => if v = d then [] else [(k, v)]
  | (j, w) :: t =>
    if j < k then (j, w) :: tabPut d k v t
    else if j = k then (if v = d then t else (k, v) :: t)
    else if v = d then (j, w) :: t else (k, v) :: (j, w) :: t

/-- Change an entry of a table. -/
def tabMod {α : Type} [DecidableEq α] (d : α) (k : Nat) (f : α → α) (t : Tab α) : Tab α :=
  tabPut d k (f (tabGet d k t)) t

/-- Whether every key of a table is above a bound, rising, and no entry equals `d`. -/
def tabAbove {α : Type} [DecidableEq α] (d : α) (lo : Nat) : Tab α → Bool
  | [] => true
  | (j, v) :: t => decide (lo ≤ j) && decide (v ≠ d) && tabAbove d (j + 1) t

/-- The canonical form of a table: keys strictly rising, no entry equal to what an unlisted number reads as. -/
def tabWf {α : Type} [DecidableEq α] (d : α) (t : Tab α) : Bool := tabAbove d 0 t

/-- Apply a change to the entries numbered by a list, in turn. -/
def tabEach {α : Type} [DecidableEq α] (d : α) (ks : List Nat) (f : Nat → α → α) (t : Tab α) : Tab α :=
  ks.foldl (fun u k => tabMod d k (f k) u) t

/-- A configuration object takes a value in force (R507). -/
def State.cfgPut (s : State) (index sub v : Nat) : State :=
  s.modCfg fun c => tabPut (objReset s.id.variant index sub) (objKey index sub) v c

/-! ### Byte memory of the cell model tables (R240) -/

/-- What a byte of the model tables reads; unlisted bytes read 0, the Reset value of the tables (R274). -/
def memRead (m : List Host.Cell) (a : Nat) : U8 := tabGet 0 a m

/-- Write one byte of the model tables. -/
def memWrite (m : List Host.Cell) (a : Nat) (b : U8) : List Host.Cell := tabPut 0 a b m

/-- Write bytes at rising addresses. -/
def memWriteAll (m : List Host.Cell) (a : Nat) : Bytes → List Host.Cell
  | [] => m
  | b :: t => memWriteAll (memWrite m a (BitVec.ofNat 8 b)) (a + 1) t

/-- Read bytes at rising addresses. -/
def memReadAll (m : List Host.Cell) (a : Nat) : Nat → Bytes
  | 0 => []
  | n + 1 => (memRead m a).toNat :: memReadAll m (a + 1) n

/-- The canonical form of the byte memory. -/
def memWf (m : List Host.Cell) : Bool := tabWf (0 : U8) m

/-! ### Bits -/

/-- Bit `n` of a number. -/
def bit (v n : Nat) : Bool := v / 2 ^ n % 2 == 1

/-- A number with bit `n` set to `b`. -/
def setBit (v n : Nat) (b : Bool) : Nat :=
  if bit v n == b then v else if b then v + 2 ^ n else v - 2 ^ n

/-- A flag as a number. -/
def b2n (b : Bool) : Nat := if b then 1 else 0

/-! ### Plant time (R7, R12, R31, R409) -/

/-- Nanoseconds of a stamp within its epoch. -/
def stampNs (t : Stamp) : Nat := t.sec * 1000000000 + t.ns

/-- The stamp of a number of nanoseconds within an epoch. -/
def stampAt (epoch n : Nat) : Stamp := { epoch := epoch, sec := n / 1000000000, ns := n % 1000000000 }

/-- Order of stamps: epoch, then seconds, then nanoseconds (R12). -/
def stampBefore (a b : Stamp) : Bool :=
  a.epoch < b.epoch || (a.epoch == b.epoch && stampNs a < stampNs b)

/-- Nanoseconds of plant time now. -/
def State.ns (s : State) : Nat := stampNs s.tb.now

/-- The short stamp of now (R12). -/
def State.short (s : State) : Nat := s.ns % 2 ^ 32

/-- The row number within the pattern, 0 to 99 (R31). -/
def State.rowIn (s : State) : Nat := s.ns / 100000 % 100

/-- The pattern number (R31). -/
def State.patNo (s : State) : Nat := s.ns / 10000000 % 2 ^ 32

/-- A number that orders rows by plant time, epoch first. -/
def rowKey (t : Stamp) : Nat := t.epoch * 2 ^ 64 + stampNs t / 100000

/-- Plant time and its fraction as one number in units of 2^-32 ns. -/
def Timebase.fine (t : Timebase) : Nat := stampNs t.now * 2 ^ 32 + t.frac

/-- Plant time after a number of reference ticks (R409). -/
def Timebase.ticks (t : Timebase) (k : Nat) : Timebase :=
  let f := t.fine + k * t.incr.toNat
  { t with now := stampAt t.now.epoch (f / 2 ^ 32), frac := f % 2 ^ 32 }

/-- The number of reference ticks to the first tick at or after an instant (R411). -/
def Timebase.ticksTo (t : Timebase) (ns : Nat) : Nat :=
  let d := ns * 2 ^ 32 - t.fine
  (d + t.incr.toNat - 1) / t.incr.toNat

/-- Let plant time run to an instant of the present epoch: to the first tick at or after it; an instant that has
passed changes nothing (R411, assumption 7). -/
def State.runTo (s : State) (ns : Nat) : State :=
  if s.tb.running && s.ns < ns then s.modTb fun t => t.ticks (t.ticksTo ns) else s

/-- One tick of the reference (R409): plant time counts on where it runs. -/
def State.tick (s : State) : State := if s.tb.running then s.modTb fun t => t.ticks 1 else s

/-- Plant nanoseconds at the start of the present pattern. -/
def State.patStart (s : State) : Nat := s.ns / 10000000 * 10000000

/-- Plant nanoseconds at the start of the present row. -/
def State.rowStartNs (s : State) : Nat := s.ns / 100000 * 100000

/-- What a claim word counts as: 0 with health score 0 or class 0 (R386, R395). -/
def wordValue (w : Nat) : Nat := if w / 256 % 16 == 0 || w / 4096 == 0 then 0 else w

/-- A byte array of a length, missing bytes 0. -/
def padBytes (n : Nat) (b : Bytes) : Bytes := (b ++ List.replicate (n - b.length) 0).take n

/-- Whether the core runs: powered, not held in reset (R86), and not in ROM recovery, where no section runs (R541). -/
def State.coreUp (s : State) : Bool :=
  match s.pm.state with
  | .off | .hold | .reset => false
  | .powerFail => s.pm.failFrom != .reset && !s.ld.recovery
  | _ => !s.ld.recovery

/-- Whether rows run: the core is up, plant time counts and the reference is within limits (R30, R31). -/
def State.rowsRun (s : State) : Bool := s.coreUp && s.tb.running && s.rows.running

/-- A wrapped difference of two short stamps, as a signed number. -/
def shortDiff (a b : Nat) : Int :=
  let d : Nat := (a + 2 ^ 32 - b % 2 ^ 32) % 2 ^ 32
  if d < 2 ^ 31 then (d : Int) else (d : Int) - 2 ^ 32

/-! ### Free values (assumption 4) -/

/-- The next free value. -/
def State.freeNat (s : State) : Nat := Config.free s.freeCount

/-- The state with its next free value taken. -/
def State.takeFree (s : State) : State := s.modFreeCount (· + 1)

/-! ### What leaves the module -/

/-- Something leaves a port. -/
def State.emit (s : State) (o : Out) : State := s.modOut (· ++ [o])

/-- Several things leave the ports in order. -/
def State.emits (s : State) (os : List Out) : State := s.modOut (· ++ os)

/-! ### Codes of the enumerations -/

/-- The code of a reaction state (R38). -/
def Reaction.code : Reaction → Nat
  | .normal => 0 | .warn => 1 | .derate => 2 | .open => 3 | .latch => 4

/-- The reaction state of a code. -/
def Reaction.ofCode : Nat → Reaction
  | 0 => .normal | 1 => .warn | 2 => .derate | 3 => .open | _ => .latch

/-- The safer of two reaction states (R39). -/
def Reaction.max (a b : Reaction) : Reaction := if a.code < b.code then b else a

/-- The code of a power state (R86). -/
def PowerState.code : PowerState → Nat
  | .off => 0 | .hold => 1 | .slot => 2 | .castOn => 3 | .ready => 4 | .reset => 5 | .powerFail => 6 | .bindOff => 7

/-- The code of a ring state (R204). -/
def RingState.code : RingState → Nat
  | .off => 0 | .waking => 1 | .enumerating => 2 | .loading => 3 | .configuring => 4 | .closed => 5 | .chain => 6
  | .singleA => 7 | .singleB => 8 | .renewing => 9 | .lost => 10 | .hold => 11

/-- The code of a twin state (R365). -/
def TwinState.code : TwinState → Nat
  | .alone => 0 | .pairing => 1 | .member => 2 | .joining => 3 | .observer => 4 | .solo => 5 | .refused => 6

/-- The code of a time state (R431). -/
def TimeState.code : TimeState → Nat
  | .free => 0 | .acquiring => 1 | .locked => 2 | .holdover => 3 | .stepPending => 4 | .twin => 5

/-- The fault codes of severity latch (R524). -/
def latchFaults : List Nat :=
  [0x0706, 0x0707, 0x0708, 0x0B07, 0x0B08, 0x0C09, 0x0D01, 0x0D06, 0x0E01]

/-- The fault codes of severity open (R524). -/
def openFaults : List Nat :=
  [0x0101, 0x0103, 0x0104, 0x0203, 0x0305, 0x0402, 0x0405, 0x0506, 0x0602, 0x0701, 0x0702, 0x0703, 0x0705, 0x0709, 0x070A, 0x070C, 0x0801, 0x0807, 0x0808, 0x080F, 0x0904, 0x0C02, 0x0C03, 0x0C06, 0x0D02, 0x0D03, 0x0D04, 0x0D07, 0x0D08, 0x0D09, 0x0D0A, 0x0D0C, 0x0D0F, 0x0D10, 0x0E02, 0x0E04, 0x0E07, 0x0F02, 0x1001, 0x1301] ++
  [0x1409, 0x140A]

/-- The fault codes of severity derate (R524). -/
def derateFaults : List Nat :=
  [0x0105, 0x0301, 0x0304, 0x0503, 0x0804, 0x0806, 0x0902, 0x0A05, 0x0B02, 0x0E06]

/-- The fault codes of severity warning (R524). -/
def warningFaults : List Nat :=
  [0x0102, 0x0108, 0x0201, 0x0202, 0x0207, 0x0208, 0x0211, 0x0302, 0x0303, 0x0306, 0x0401, 0x0404, 0x0501, 0x0502, 0x0504, 0x0505, 0x0507, 0x0601, 0x0603, 0x0604, 0x0605, 0x0704, 0x0802, 0x0803, 0x0805, 0x080A, 0x080B, 0x080C, 0x0901, 0x0903, 0x0905, 0x0908, 0x090A, 0x090B, 0x090C, 0x0A01, 0x0A02, 0x0A04, 0x0B01, 0x0B04] ++
  [0x0B05, 0x0B06, 0x0B09, 0x0B0A, 0x0C01, 0x0C05, 0x0C08, 0x0C0A, 0x0D0B, 0x0D0D, 0x0D0E, 0x0E03, 0x0E05, 0x0E08, 0x0F01, 0x0F03, 0x0F04, 0x0F05, 0x0F06, 0x0F07, 0x0F08, 0x0F0A, 0x0F0B, 0x0F0C, 0x0F0D, 0x1002, 0x1004, 0x1006, 0x1007, 0x1008, 0x1101, 0x1102, 0x1103, 0x1104, 0x1201, 0x1202, 0x1205, 0x1206, 0x1401, 0x1402] ++
  [0x1404, 0x1405, 0x1407, 0x1408]


/-- The severity of a fault code, 0 info to 4 latch (R524). -/
def faultSeverity (code : Nat) : Nat :=
  if latchFaults.contains code then 4
  else if openFaults.contains code then 3
  else if derateFaults.contains code then 2
  else if warningFaults.contains code then 1
  else 0

/-- Whether a fault is a unit fault, which stays out of the pair reaction of a healthy pair (R381). -/
def unitFault (code : Nat) : Bool :=
  let ss := code / 256
  (1 ≤ ss && ss ≤ 4) || ss == 0x0E || (0x10 ≤ ss && ss ≤ 0x14) || code == 0x0B08 || code == 0x0D01

/-- Whether the twin is healthy (R393): its word has come in each of the last 100 rows, its class is 2 or 3, its
health score is 8 or more, and its confirmed safety set check equals this unit's. -/
def State.twinHealthy (s : State) : Bool :=
  let w := s.ty.wordTwin
  100 ≤ s.ty.wordRows && (w / 4096 == 2 || w / 4096 == 3) && 8 ≤ w / 256 % 16 &&
    (s.ty.hello.map (·.setCheck)) == some s.si.checkConfirmed

/-! ### Frames to the twin (R368, R369, R377, R383, R389) -/

/-- The number of the present row as frames carry it (R368). -/
def State.rowCount (s : State) : Nat := s.ns / 100000 % 2 ^ 32

/-- The bytes of a command record (R377). -/
def cmdBytes (c : CmdRecord) : Bytes :=
  leBytes 2 c.node ++ leBytes 4 c.seq ++ leBytes 2 c.index ++ [c.sub, c.value.length] ++ c.value

/-- The 256-byte payload of a ROW_INPUT (R377). -/
def rowInputBytes (m : RowInput) : Bytes :=
  let urgent := m.urgent.flatMap fun (a, k) => [a, k]
  let duties := (List.range 5).flatMap fun k =>
    let d := m.duties.getD k {}
    leBytes 4 d.word0 ++ leBytes 4 d.word1
  let cmds := m.cmds.flatMap cmdBytes
  leBytes 2 m.claim ++ leBytes 2 m.unitFlags ++ leBytes 2 (m.coils + 16 * b2n m.trip + 32 * b2n m.uvr + 256 * m.seq) ++
    [m.pullIn, m.urgent.length] ++ leBytes 4 m.pullInStart ++ leBytes 2 m.demand ++ leBytes 2 m.sin ++
    [m.fast, m.reaction] ++ padBytes 16 urgent ++ duties ++ leInt 2 m.faMean ++ leInt 2 m.fbMean ++ leBytes 2 m.pins ++
    leInt 8 m.chargeIn ++ leInt 8 m.chargeOut ++ leInt 4 (m.currentAt.getD (-2147483648)) ++ leBytes 2 m.cmds.length ++
    leBytes 2 cmds.length ++ padBytes 152 cmds

/-- The kind of an item (R368). -/
def itemKind : PatternItem → Nat
  | .dataFrame _ => 1 | .stepData _ _ _ _ _ => 2 | .command _ => 3 | .records _ => 4 | .snapshot _ => 5

/-- The 72-byte payload of a HELLO (R369). -/
def helloBytes (h : Hello) : Bytes :=
  leBytes 2 h.device ++ [h.variant, h.side] ++ leBytes 4 h.serial ++ leBytes 2 h.node ++ [h.tyLow, h.tyHigh] ++
    leBytes 2 h.stepNo ++ leBytes 2 h.learnedFormat ++ leBytes 4 h.setCheck ++ [h.flags, 0] ++ leBytes 2 h.pairNode ++
    leBytes 4 h.pairSeq ++ stampBytes h.restRef ++ padBytes 32 h.digest

/-- The type and payload of a frame on Twin Yarn (R368); the claim frame has its own pair. -/
def twinParts : TwinFrame → Nat × Bytes
  | .hello h => (0x01, helloBytes h)
  | .lock pl source seq => (0x02, leBytes 4 pl ++ [source, 0, 0, 0] ++ leBytes 4 seq)
  | .rowInput m => (0x03, rowInputBytes m)
  | .cellIndex crcs => (0x04, (List.range 32).flatMap fun k => leBytes 4 (crcs.getD k 0))
  | .digest m => (0x05, leBytes 4 m.input ++ leBytes 4 m.output ++ leBytes 4 m.state ++ leBytes 4 m.pairSeq)
  | .patternData x index total data => (0x06, [itemKind x, 0] ++ leBytes 2 index ++ leBytes 4 total ++ data)
  | .bye reason => (0x07, [reason])
  | .join code ps => (0x08, [code, 0, 0, 0] ++ leBytes 4 ps)
  | .claim word row => (0, leBytes 2 word ++ [row])

/-- The bytes of a frame to the twin: header, payload and CRC (R368), or the 40 bits of a claim frame (R389). -/
def twinBytes (row : Nat) (f : TwinFrame) : Bytes :=
  let (kind, payload) := twinParts f
  match f with
  | .claim _ _ => [0x55] ++ payload ++ [crc8 payload]
  | _ =>
    let b := [kind, 0] ++ leBytes 2 payload.length ++ leBytes 4 row ++ payload
    b ++ leBytes 4 (crc32c b)

/-- A frame leaves for the twin (R368, R389). -/
def State.toTwin (s : State) (f : TwinFrame) : State := s.emit (.twin f (twinBytes s.rowCount f))

/-! ### Messages (R465 to R471) -/

/-- The 16-byte header of a message (R467). -/
def headerBytes (version flags opcode status length session seq pairSeq : Nat) : Bytes :=
  leBytes 1 version ++ leBytes 1 flags ++ leBytes 1 opcode ++ leBytes 1 status ++ leBytes 2 length ++
    leBytes 2 session ++ leBytes 4 seq ++ leBytes 4 pairSeq

/-- A MAC over bytes: 16 bytes, or 8 with a short MAC (R468). -/
def macOf (key : Bytes) (short : Bool) (covered : Bytes) : Bytes :=
  (hmac key covered).take (if short then 8 else 16)

/-- The bytes of a message that the module sends, without its MAC (R467). -/
def Msg.covered (m : Msg) : Bytes :=
  headerBytes 0x10 m.flags m.opcode m.status m.payload.length m.session m.seq m.pairSeq ++ m.payload

/-- The bytes of a message with its MAC. -/
def Msg.bytes (m : Msg) : Bytes := m.covered ++ m.mac.getD []

/-- The open session with a number. -/
def State.session (s : State) (num : Nat) : Option Session := s.sy.sessions.find? (·.num == num)

/-- A change to the session with a number. -/
def State.modSession (s : State) (num : Nat) (f : Session → Session) : State :=
  s.modSy fun y => { y with sessions := y.sessions.map fun x => if x.num == num then f x else x }

/-- The module's number for a message: a pair message carries origin and counter (R404), a unit message 3 and the
unit's own counter (R467). -/
def State.numberMsg (s : State) (unit : Bool) : Nat × State :=
  if unit then
    let c := (s.sy.unitCounter + 1) % 2 ^ 30
    (3 * 2 ^ 30 + c, s.modSy fun y => { y with unitCounter := c })
  else
    let c := (s.ty.counter + 1) % 2 ^ 30
    (s.ty.origin * 2 ^ 30 + c, s.modTy fun t => { t with counter := c })

/-- A mailbox slot returns to the host with a content (R465). -/
def State.returnSlot (s : State) (n : Nat) (content : Bytes) : State :=
  s.modSy fun y =>
    { y with
      slots := tabMod {} n (fun x => { x with module := false, receive := false, bytes := content }) y.slots
      done := setBit y.done n true }

/-- PairNodeId (R374): a unit that has never paired uses its own node ID. -/
def State.pairNodeId (s : State) : Nat := if s.ty.pairNode == 0 then s.id.nodeId else s.ty.pairNode

/-- A change to a CAN controller. -/
def State.modCtl (s : State) (k : Nat) (f : CanCtl → CanCtl) : State :=
  s.modCn fun n => if k == 1 then { n with c1 := f n.c1 } else { n with c2 := f n.c2 }

/-- The next CAN FD data length (R471). -/
def fdLength (n : Nat) : Nat :=
  if n ≤ 8 then n else [12, 16, 20, 24, 32, 48, 64].find? (n ≤ ·) |>.getD 64

/-- Bytes padded with 0xCC to a CAN FD data length (R471). -/
def fdPad (b : Bytes) : Bytes := b ++ List.replicate (fdLength b.length - b.length) 0xCC

/-- The following frames of a message (R471): code and data, from an index on. -/
def segmentsFrom (i : Nat) (b : Bytes) : Nat → List (Nat × Bytes)
  | 0 => []
  | k + 1 =>
    if b.length ≤ 63 then [(3, fdPad (i % 256 :: b))]
    else (2, i % 256 :: b.take 63) :: segmentsFrom (i + 1) (b.drop 63) k

/-- The CAN FD frames of a message (R471): segment code and data. -/
def segments (b : Bytes) : List (Nat × Bytes) :=
  if b.length ≤ 64 then [(0, fdPad b)] else (1, b.take 64) :: segmentsFrom 1 (b.drop 64) 40

/-- The CAN frames of a Syben message that the module sends (R453, R471). -/
def State.sybenFrames (s : State) (ctl channel prio : Nat) (xl : Bool) (b : Bytes) : List CanFrame :=
  let ident (seg : Nat) : Nat := prio * 2 ^ 27 + 2 ^ 26 + s.pairNodeId % 2 ^ 14 * 2 ^ 12 + channel % 256 * 16 + seg
  if xl then [{ fmt := 2, id := ident 0 / 2 ^ 18, af := ident 0, sdt := s.cfgGet 0x328D 0, data := b }]
  else (segments b).map fun (seg, d) => { fmt := 1, ide := true, brs := s.cfgGet 0x3284 ctl != 0, id := ident seg, data := d }

/-- A change to an SFP port. -/
def State.modSfp (s : State) (port : Nat) (f : Sfp → Sfp) : State :=
  s.modEn fun e => if port == 1 then { e with p1 := f e.p1 } else { e with p2 := f e.p2 }

/-- A frame arrives at a port (R518). -/
def State.frameIn (s : State) (port : Nat) : State := s.modSfp port fun p => { p with rx := p.rx + 1 }

/-- A frame leaves by a port (R518). -/
def State.frameOut (s : State) (port : Nat) : State := s.modSfp port fun p => { p with tx := p.tx + 1 }

/-- The parts of a message that its IPv4 fragments carry (R461): 1,500 bytes less the IPv4 header, and in the first less
the UDP header. -/
def udpParts : Nat → Nat → Bytes → List Bytes
  | 0, _, b => [b]
  | k + 1, room, b => if b.length ≤ room then [b] else b.take room :: udpParts k 1480 (b.drop room)

/-- Syben leaves in a datagram by a port (R460, R461): each fragment is a frame (R518). -/
def State.datagram (s : State) (port target targetPort : Nat) (b : Bytes) : State :=
  let parts := udpParts 1 1472 b
  (s.emit (.datagram port (s.cfgGet 0x3180 4) target targetPort parts)).modSfp port fun p =>
    { p with tx := p.tx + BitVec.ofNat 32 parts.length }

/-- A message that the module originates in a session (R467, R468, R488): Sequence 0, the module-to-client key, and a
short MAC on CAN FD. It leaves for the session's source; over the host SPI port it goes into the oldest receive
slot, and `none` is answered where there is no such slot (R465). -/
def State.originate (s : State) (x : Session) (opcode : Nat) (payload : Bytes) : Bytes × State :=
  let (n, t) := s.numberMsg false
  let short := match x.source with
    | .can _ _ => !x.xl
    | _ => false
  let m : Msg := { opcode, flags := 8 * b2n short, session := x.num, pairSeq := n, payload }
  let m' : Msg := { m with mac := some (macOf x.m2c short m.covered) }
  match x.source with
  | .spi => (m'.bytes, t)
  | .twinSpi => ([], t)
  | .can ctl channel =>
    ([], (t.emit (.message x.source m')).modCtl ctl fun c =>
      { c with chain := c.chain ++ s.sybenFrames ctl channel x.prio x.xl m'.bytes })
  | .udp address port => ([], (t.emit (.message x.source m')).datagram x.sfp address port m'.bytes)

/-- A message for the host goes into the oldest receive slot, if there is one (R465). -/
def State.toReceiveSlot (s : State) (b : Bytes) : Option State :=
  match s.sy.receive with
  | [] => none
  | n :: rest => some ((s.modSy fun y => { y with receive := rest }).returnSlot n b)

/-- The bytes of an event log record (R521). -/
def logBytes (r : LogRec) : Bytes :=
  let b := leBytes 4 r.number ++ stampBytes r.stamp ++ leBytes 2 r.code ++ leBytes 1 r.kind ++ leBytes 1 r.severity ++
    leBytes 1 r.reaction ++ leBytes 1 r.flags ++ leBytes 1 (min 255 r.count) ++ leBytes 1 r.row ++ leBytes 4 r.detail
  b ++ leBytes 4 (crc32c b)

/-- An EVENT message goes to a session that asked for events (R488); over the host SPI port it is held until a
receive slot is posted (R465). -/
def State.sendEvent (s : State) (r : LogRec) (x : Session) : State :=
  let (b, t) := s.originate x 0x31 (logBytes r)
  if x.source = .spi then
    if t.sy.heldEvents.isEmpty then
      (t.toReceiveSlot b).getD (t.modSy fun y => { y with heldEvents := [b] })
    else t.modSy fun y => { y with heldEvents := y.heldEvents ++ [b] }
  else t

/-! ### The pending fault queue (R40 to R43, R551) -/

/-- The order of the pending queue: severity, then the row of the raise, then the code (R40). -/
def Pending.before (a b : Pending) : Bool :=
  b.severity < a.severity ||
    (a.severity == b.severity && (a.row < b.row || (a.row == b.row && a.code < b.code)))

/-- Put an entry at its place in the pending queue (R40). -/
def insertPending (p : Pending) : List Pending → List Pending
  | [] => [p]
  | q :: t => if p.before q then p :: q :: t else q :: insertPending p t

/-- Whether a code is pending. -/
def FaultMgr.has (m : FaultMgr) (code : Nat) : Bool := m.pending.any (·.code == code)

/-- A code counts as active (R43, R551). -/
def FaultMgr.activate (m : FaultMgr) (code : Nat) : FaultMgr :=
  if m.active.contains code then m else { m with active := m.active ++ [code] }

/-- A code's condition ends (R43, R551): it is no longer active, and a later raise is not absorbed. -/
def FaultMgr.deactivate (m : FaultMgr) (code : Nat) : FaultMgr :=
  { m with active := m.active.filter (· != code), handled := m.handled.filter (· != code) }

/-- A raise of a pending code adds to its count (R40). -/
def FaultMgr.bump (m : FaultMgr) (code : Nat) : FaultMgr :=
  { m with pending := m.pending.map fun p => if p.code == code then { p with count := p.count + 1 } else p }

/-- The newest of the least severe entries is dropped; an event fault's condition ends with its entry (R41, R551).
DESIGN CHOICE (assumption 156): of entries raised in the same row, where R41 names no newest, the queue's last goes: the one
with the highest code. -/
def FaultMgr.dropLast (m : FaultMgr) : FaultMgr :=
  match m.pending.getLast? with
  | none => m
  | some p =>
    let n := { m with pending := m.pending.dropLast, suspended := m.suspended.filter (· != p.code) }
    if p.event then n.deactivate p.code else n

/-- The least severity pending. -/
def FaultMgr.least (m : FaultMgr) : Nat := (m.pending.getLast?.map (·.severity)).getD 0

/-- The reaction state follows a raise of a severity (R38, R39). -/
def FaultMgr.react (m : FaultMgr) (severity : Nat) (inPair : Bool) : FaultMgr :=
  { m with
    reaction := m.reaction.max (Reaction.ofCode severity)
    pairOwn := if inPair then m.pairOwn.max (Reaction.ofCode severity) else m.pairOwn
    latchKept := m.latchKept || severity == 4
    raised := m.raised + 1 }

/-- 0x0105 after an overflow (R41): it counts up, takes the place of an info or warning entry, or is not queued;
its reaction applies in each case. -/
def FaultMgr.overflowFault (m : FaultMgr) (stamp : Stamp) (inPair : Bool) : FaultMgr :=
  let m1 := (m.react 2 inPair).activate 0x0105
  if m1.has 0x0105 then m1.bump 0x0105
  else if m1.least ≤ 1 then
    let m2 := m1.dropLast
    { m2 with pending := insertPending { code := 0x0105, severity := 2, stamp, row := rowKey stamp } m2.pending }
  else m1

/-- A fault enters the queue, or the overflow rule places it (R40, R41). -/
def FaultMgr.enqueue (m : FaultMgr) (p : Pending) (inPair : Bool) : FaultMgr :=
  if m.has p.code then m.bump p.code
  else if m.pending.length < 64 then { m with pending := insertPending p m.pending }
  else
    let m1 := { m with overflowCount := m.overflowCount + 1 }
    if m1.least < p.severity then
      let m2 := m1.dropLast
      ({ m2 with pending := insertPending p m2.pending }).overflowFault p.stamp inPair
    else
      (if p.event then m1.deactivate p.code else m1).overflowFault p.stamp inPair

/-- A raise at a plant instant (R38 to R43): absorbed when its condition has held since an entry of it was
handled; else the reaction follows, the code is active, and the queue takes it. -/
def FaultMgr.raise (m : FaultMgr) (event : Bool) (stamp : Stamp) (inPair : Bool) (code item : Nat) : FaultMgr :=
  if !event && m.handled.contains code && !m.has code then m
  else
    let sev := faultSeverity code
    ((m.react sev inPair).activate code).enqueue
      { code, severity := sev, stamp, row := rowKey stamp, item, event } inPair

/-- Whether a fault enters the pair reaction of this unit (R381). -/
def State.inPair (s : State) (code : Nat) : Bool := !(unitFault code && s.twinHealthy)

/-- The log record of a fault as it stands at its raise, which an EVENT message carries (R488, R521). The record's
EntryNumber is given when it is written; the model leaves it out of the message (assumption 8). -/
def State.eventRec (s : State) (code item : Nat) : LogRec :=
  { stamp := s.tb.now, code, kind := 1, severity := faultSeverity code, reaction := s.fm.reaction.code,
    flags := b2n s.ty.sideB + 2 * b2n (s.inPair code), count := 1, row := s.rowIn, detail := item }

/-- Raise a fault: the fault manager takes it, and a raise that is no repeat of a pending code and is not absorbed
goes out as an EVENT message (R488). -/
def State.raise (s : State) (event : Bool) (code item : Nat) : State :=
  let fresh := !s.fm.has code && (event || !s.fm.handled.contains code)
  let t := s.modFm fun m => m.raise event s.tb.now (s.inPair code) code item
  if fresh then (t.sy.sessions.filter (·.events)).foldl (State.sendEvent · (t.eventRec code item)) t else t

/-- An occurrence raises an event fault (R551). -/
def State.raiseEvent (s : State) (code : Nat) (item : Nat := 0xFFFF) : State := s.raise true code item

/-- A detector finds its condition true and raises its fault, or finds it false and the condition ends (R43). -/
def State.cond (s : State) (code : Nat) (holds : Bool) (item : Nat := 0xFFFF) : State :=
  if holds then s.raise false code item else s.modFm fun m => m.deactivate code

/-- A detector finds its condition true (R43). -/
def State.raiseCond (s : State) (code : Nat) (item : Nat := 0xFFFF) : State := s.raise false code item

/-- A condition ends (R43). -/
def State.clearCond (s : State) (code : Nat) : State := s.modFm fun m => m.deactivate code

/-- The reaction state that the module acts on: the agreed pair reaction in lockstep, else its own (R381). -/
def State.acting (s : State) : Reaction :=
  if s.ty.state == .member then (Reaction.ofCode s.ty.pairReaction).max s.fm.pairOwn else s.fm.reaction

/-! ### Nonvolatile writes (R101, R299, R300, R545) -/

/-- The hold-up check passes: half C times (VHOLD squared minus 22.0 V squared) is at least 0.26 J (R101), in
microfarads and millivolts. -/
def holdUpPasses (capUf vholdMv : Nat) : Bool :=
  520000000000 ≤ (capUf : Int) * ((vholdMv : Int) ^ 2 - 22000 ^ 2)

/-- A nonvolatile write may begin (R101, R299). -/
def State.nvOpen (s : State) : Bool := holdUpPasses s.pm.capUf s.pm.vholdMv && !s.tm.nvClosed

/-- Whether a journal record is a settings record, which has no reserved pool entry (R300). -/
def settingsRecord (id : Nat) : Bool := (0x0200 ≤ id && id < 0x0300) || (0x0300 ≤ id && id ≤ 0x0302)

/-- Whether a held write takes one of the 21 shared entries (R300). -/
def Held.shared (h : Held) : Bool := h.isLog || settingsRecord h.id

/-- The number of shared entries taken. -/
def sharedCount (hs : List Held) : Nat := (hs.filter Held.shared).length

/-- The first held write of a medium has begun. -/
def beginHead (isLog : Bool) : List Held → List Held
  | [] => []
  | h :: t => if h.isLog == isLog then { h with begun := true } :: t else h :: beginHead isLog t

/-- Begin the first write of a medium that is held, if none of that medium has begun. -/
def beginFirst (isLog : Bool) (hs : List Held) : List Held :=
  if hs.any fun h => h.isLog == isLog && h.begun then hs else beginHead isLog hs

/-- Let held writes begin where they may: one journal write and one flash program at a time, in arrival order
(R299, R545). -/
def State.nvKick (s : State) : State :=
  if s.nvOpen then s.modNv fun n => { n with held := beginFirst true (beginFirst false n.held) } else s

/-- The chunk of a firmware load begins to be programmed where it may (R101, R538). -/
def State.progKick (s : State) : State :=
  if s.nvOpen && !s.ld.chunk.isEmpty then s.modLd fun l => { l with begun := true } else s

/-- A write joins the pool: a held content of the same record that has not begun is replaced (R300). -/
def coalesce (h : Held) (hs : List Held) : List Held :=
  if hs.any fun g => !g.isLog && g.id == h.id && !g.begun then
    hs.map fun g => if !g.isLog && g.id == h.id && !g.begun then { g with payload := h.payload } else g
  else hs ++ [h]

/-- Drop the oldest held log entry that has not begun; the log entry, if there is one (R300). -/
def dropOldestLog : List Held → Option (Held × List Held)
  | [] => none
  | h :: t =>
    if h.isLog && !h.begun then some (h, t)
    else (dropOldestLog t).map fun (d, r) => (d, h :: r)

/-- A dropped log entry is counted, and raises 0x0B06 unless it is a record of 0x0B06 itself (R300, R520). -/
def State.logDropped (s : State) (r : LogRec) : State :=
  let t := (s.modNv fun n => { n with logDropped := n.logDropped + 1 }).modLg fun l =>
    { l with lost := l.lost + 1, lostSince := l.lostSince + 1, lostDue := true }
  if r.code == 0x0B06 then t else t.raiseEvent 0x0B06

/-- A log record is handed to the pool (R300, R520): it takes a shared entry, drops the oldest held log entry for
one, or is dropped itself. -/
def State.logAdmit (s : State) (r : LogRec) : State :=
  let rec' := if s.tm.nvClosed then { r with flags := setBit r.flags 3 true } else r
  let h : Held := { isLog := true, log := rec' }
  if sharedCount s.nv.held < 21 then (s.modNv fun n => { n with held := n.held ++ [h] }).nvKick
  else match dropOldestLog s.nv.held with
    | some (d, hs) => ((s.modNv fun n => { n with held := hs ++ [h] }).logDropped d.log).nvKick
    | none => s.logDropped rec'

/-- A log record of a kind without a fault (R520 to R522). -/
def State.logKind (s : State) (kind detail : Nat) : State :=
  s.logAdmit { stamp := s.tb.now, kind, reaction := s.fm.reaction.code, flags := b2n s.ty.sideB,
               row := s.rowIn, detail := detail % 2 ^ 32 }

/-- A journal record with a reserved entry is handed to the pool (R300). -/
def State.journal (s : State) (id : Nat) (payload : List Int) : State :=
  (s.modNv fun n => { n with held := coalesce { id, payload } n.held }).nvKick

/-- A sequence is newer than another, modulo 2^32 (R543). -/
def newerSeq (a b : U32) : Bool := 0 < (a - b).toNat && (a - b).toNat < 2 ^ 31

/-- The content of a journal record's newest valid copy; none when neither is valid (R543, R547). -/
def State.recall (s : State) (id : Nat) : Option (List Int) :=
  let r := tabGet {} id s.nv.records
  match r.a.valid, r.b.valid with
  | true, true => some (if newerSeq r.b.seq r.a.seq then r.b.payload else r.a.payload)
  | true, false => some r.a.payload
  | false, true => some r.b.payload
  | false, false => none

/-- A stamp as numbers of a journal record. -/
def stampInts (t : Stamp) : List Int := [t.epoch, t.sec, t.ns]

/-- The content of record 0x0006 (R546): the LATCH reaction state, the thermal latches with their stamp and sensor,
the transport-hold flag. -/
def State.record6 (s : State) : List Int :=
  ([b2n s.fm.latchKept, b2n s.tm.cellLatch, b2n s.tm.junctionLatch, s.tm.shutSensor, b2n s.pm.holdFlag].map
    Int.ofNat) ++ stampInts s.tm.shutStamp

/-- Write record 0x0006 (R546: at each change). -/
def State.journal6 (s : State) : State := s.journal 0x0006 s.record6

end Sys2Proof.Machine
end

