-- ==== Sys2Proof/Machine/Requests.lean ====
section
/-! DEFINITION. Requests: what every Syben request shares (R467 to R491): framing, MAC, session, source, version,
sequence and role checks, the response with its numbers and MAC, and the mailbox slot it returns in. -/

namespace Sys2Proof.Machine

/-! ### Messages -/

/-- The bytes a request's MAC covers (R467, R468). -/
def reqCovered (r : Req) (opcode : Nat) (payload : Bytes) : Bytes :=
  headerBytes r.version (if r.shortMac then 8 else 0) opcode 0 payload.length r.session r.seq 0 ++ payload

/-! ### Sessions (R479 to R484) -/

/-- The engines that a closing session claimed are released and cleared (R499). -/
def releaseEngines (num : Nat) (s : State) : State :=
  [6, 7].foldl (fun t k =>
    if (tabGet {} k t.ck).owner == 1 && (tabGet {} k t.ck).claimant == num then
      (t.modCk fun c => tabPut {} k {} c).raiseEvent 0x1302 k
    else t) s

/-- The resident loader runs in place of the control processor's firmware (R537, R540). -/
def State.loaderRuns (s : State) : Bool := 2 ≤ s.ld.state && s.ld.state ≤ 5

/-- The requests in a session that the loader answers (R537): CLOSE, KEEPALIVE and its own. -/
def loaderOpcodes : List Nat := [0x04, 0x05, 0x60, 0x61, 0x62]

/-- A load under way is aborted (R540): the loader stays, and the skein region holds no valid image. -/
def State.loadAbort (s : State) : State :=
  if s.ld.state == 2 || s.ld.state == 3 then
    s.modLd fun l => { l with state := 5, skeinValid := false, loadSession := 0, chunk := [], req := none, slot := none }
  else s

/-- The agreed commits of a closing session keep the shadow they will apply (R512). -/
def keepCommits (x : Session) (cs : List Commit) : List Commit :=
  cs.map fun c => if c.session == x.num && !c.closed then { c with closed := true, writes := x.shadow } else c

/-- A session closes (R484): its context and staged writes go, the engines it claimed are released (R499), a load in it
is aborted (R540), and its agreed commits stay (R512). -/
def State.closeSession (s : State) (num : Nat) : State :=
  match s.session num with
  | none => s
  | some x =>
    let t := releaseEngines num (s.modSy fun y =>
      { y with sessions := y.sessions.filter (·.num != num), commits := keepCommits x y.commits })
    if t.ld.loadSession == num then t.loadAbort else t

/-! ### Roles (R474) -/

/-- OPERATOR and the roles above it. -/
def operator (role : Nat) : Bool := 4 ≤ role && role ≤ 6

/-- ENGINEER and COMMISSIONING. -/
def engineer (role : Nat) : Bool := 5 ≤ role && role ≤ 6

/-- COMMISSIONING. -/
def commissioning (role : Nat) : Bool := role == 6

/-- Every role: MONITOR and the roles that permit what it does. -/
def anyRole (role : Nat) : Bool := 1 ≤ role && role ≤ 6

/-- The roles that may announce a step: DISPATCH, PROTECTION, OPERATOR and above (R488). -/
def announcer (role : Nat) : Bool := 2 ≤ role && role ≤ 6

/-! ### Responses -/

/-- A request that came over the host SPI port gives its slot back, with the response, or with byte 0 cleared when
there is none (R465). -/
def State.answerSlot (s : State) (peer : Source) (content : Option Bytes) : State :=
  if peer = .spi then
    match s.sy.queue with
    | [] => s
    | n :: rest =>
      let old := (tabGet {} n s.sy.slots).bytes
      (s.modSy fun y => { y with queue := rest }).returnSlot n (content.getD (0 :: old.drop 1))
  else s

/-- The source of a request for sessions and lockout (R460): a client's IPv4 address, whatever its port. -/
def sourceKey : Source → Source
  | .udp a _ => .udp a 0
  | x => x

/-- A transport that the module serves (R453, R460, R500, R516): UDP with an address, CAN on a controller of the firmware
with SybenEnable and a node ID, a partner's channel from 1 to 254. -/
def State.serves (s : State) : Source → Bool
  | .spi => true
  | .twinSpi => true
  | .udp _ _ => s.cfgGet 0x3180 1 != 0
  | .can k c => s.id.nodeId != 0 && (k == 1 || (k == 2 && s.cfgGet 0x328B 0 == 0)) && s.cfgGet 0x328C k == 1 &&
      1 ≤ c && c ≤ 254

/-- The slot of a request over the host SPI port leaves the queue before its response is known. -/
def State.popSlot (s : State) (r : Req) : Option Nat × State :=
  if r.source = .spi then (s.sy.queue.head?, s.modSy fun y => { y with queue := y.queue.drop 1 }) else (none, s)

/-- A slot taken by `popSlot` is the next one answered. -/
def State.pushSlot (s : State) (slot : Option Nat) : State :=
  s.modSy fun y => { y with queue := slot.toList ++ y.queue }

/-- A request whose answer waited: where it came by a mailbox slot that MB_RESET has taken back, its response is discarded
(R465), as one for the twin's port is. -/
def inSlot (r : Req) (slot : Option Nat) : Req :=
  if r.source = .spi && slot.isNone then { r with source := .twinSpi } else r

/-- A response leaves for its source: in its slot when it came by the mailbox (R465), as frames on the controller's
chain when it came over CAN (R453, R471). A response for the twin's host SPI port has no port here (R470). -/
def State.deliver (s : State) (r : Req) (m : Msg) : State :=
  let t := s.answerSlot r.source (some m.bytes)
  let u := match r.source with
    | .can ctl channel =>
      t.modCtl ctl fun c => { c with chain := c.chain ++ s.sybenFrames ctl channel r.prio r.xl m.bytes }
    | .udp address port => t.datagram r.sfp address port m.bytes
    | _ => t
  u.modOut fun o => if r.source = .twinSpi then o else o ++ [.response r.source m]

/-- The Flags of a response (R467). -/
def State.respFlags (s : State) (unit short : Bool) : Nat :=
  1 + 2 * b2n unit + 4 * b2n (unit && s.ty.sideB) + 8 * b2n short

/-- Form a response (R467, R468): its number, and its MAC under the session's key where there is one. -/
def State.formMsg (s : State) (r : Req) (unit : Bool) (key : Option Bytes) (opcode status : Nat)
    (payload : Bytes) : Msg × State :=
  let (n, t) := s.numberMsg unit
  let m : Msg := { opcode, flags := s.respFlags unit r.shortMac, status, session := r.session, seq := r.seq,
                   pairSeq := n, payload }
  ({ m with mac := key.map fun k => macOf k r.shortMac m.covered }, t)

/-- Answer a request outside the cached responses of a session: refusals before its sequence is accepted. -/
def State.refuse (s : State) (r : Req) (unit : Bool) (key : Option Bytes) (opcode status : Nat) : State :=
  let (m, t) := s.formMsg r unit key opcode status []
  t.deliver r m

/-- A slot of the key store; slot 6 is delivered with the label key (R475). -/
def State.keySlot (s : State) (n : Nat) : KeySlot :=
  let k := tabGet {} n s.sy.keys
  if n == 6 && k.key.isEmpty then { salt := Config.labelSalt s.id.serial, key := Config.labelKey s.id.serial } else k

/-- The MAC of a message that carries none: all 0 (R468). -/
def zeroMac (short : Bool) : Bytes := List.replicate (if short then 8 else 16) 0

/-- The telemetry MAC (R468): by the key of slot 7, all 0 while that slot is empty. -/
def State.telemetryMac (s : State) (covered : Bytes) : Bytes :=
  let k := (s.keySlot 7).key
  if k.isEmpty then zeroMac false else macOf k false covered

/-- A telemetry message leaves as a unit message on both SFP ports, to the module's group, with a MAC by the telemetry key
(R460, R493); none without an IPv4 address (R500) or a node ID (R516). -/
def State.sendTelemetry (s : State) (body : Bytes) : State :=
  if s.cfgGet 0x3180 1 == 0 || s.id.nodeId == 0 then s
  else
    let (n, t) := s.numberMsg true
    let m : Msg := { opcode := 0x30, flags := 2 + 4 * b2n t.ty.sideB + 16, pairSeq := n, payload := body }
    let m' : Msg := { m with mac := some (t.telemetryMac m.covered) }
    let group := 239 * 2 ^ 24 + 192 * 2 ^ 16 + 86 * 256 + t.cfgGet 0x2182 1
    ((t.emit (.message (.udp group 48621) m')).datagram 1 group 48621 m'.bytes).datagram 2 group 48621 m'.bytes

/-- What a request's action gives: the state, the status and the response payload. -/
abbrev Answer := State × Nat × Bytes

/-- Success with an empty payload. -/
def ok (s : State) : Answer := (s, 0x00, [])

/-- A refusal: the state unchanged, a status, no payload. -/
def no (s : State) (status : Nat) : Answer := (s, status, [])

/-- The payload as it arrived: cut short where the request says so (R488). -/
def reqArrived (r : Req) (payload : Bytes) : Bytes :=
  match r.cut with
  | none => payload
  | some n => payload.take n

/-- The first check of a request that names a session, in the model's order (assumption 9): the session exists
(0x05), its MAC holds (R469), its source is the session's (R482), its major version is the negotiated one (R473).
The answer is the session, or what the state becomes. -/
def State.sessionCheck (s : State) (r : Req) (unit : Bool) (opcode : Nat) (payload : Bytes) : Except State Session :=
  let p := reqArrived r payload
  if (r.length.getD p.length) != p.length then .error (s.answerSlot r.source none)
  else match s.session r.session with
    | none => .error (s.refuse r unit none opcode 0x05)
    | some x =>
      if r.mac != macOf x.c2m r.shortMac (reqCovered r opcode p) then
        .error ((s.modSy fun y => { y with authFailures := y.authFailures + 1 }).answerSlot r.source none)
      else if sourceKey r.source ≠ sourceKey x.source then .error (s.refuse r unit (some x.m2c) opcode 0x05)
      else if r.version / 16 != x.version / 16 then .error (s.refuse r unit (some x.m2c) opcode 0x03)
      else .ok x

/-- What the entry of a request gives: the state becomes final, or the request goes on in a session, with a status that
refuses it already or with none. -/
inductive Entry where
  | isOver (t : State)
  | on (t : State) (x : Session) (refusal : Option Nat)

/-- The bytes a command record takes in the command area (R377). A write at an offset, which the record's layout has no
place for, counts as too long for the area. -/
def recordSize (c : CmdRecord) : Nat := (if c.offset == 0 then 10 else 153) + c.value.length

/-- An accepted request travels to the twin: as a command record of the next ROW_INPUT, or as a long command when its
record exceeds the 152-byte area (R377, R380, R487). -/
def State.travel (s : State) (c : CmdRecord) : State :=
  if s.ty.state != .member then s
  else if recordSize c ≤ 152 then s.modTy fun t => { t with cmdsDue := t.cmdsDue ++ [c] }
  else s.modTy fun t => { t with longDue := t.longDue ++ [.command (.write c)] }

/-- A request enters its session (R467 to R491). After `sessionCheck`, the sequence decides: 0 or an older one is refused with
0x07, the highest one again gets the cached response, a higher one is carried out (R483). A payload short of its
fixed part, or with a non-zero reserved byte, is refused with 0x02; a role that does not permit the request with
0x06 (R474). While the loader runs it refuses every other opcode with 0x0B (R537). What is accepted travels to the twin
(R487); a write and a key travel with what they carry. -/
def State.enter (s0 : State) (r : Req) (unit : Bool) (opcode : Nat) (payload : Bytes) (fixed : Nat)
    (role : Nat → Bool) : Entry :=
  let s := match r.source with
    | .udp _ _ => s0.frameIn r.sfp
    | _ => s0
  if !s.coreUp || s.rows.cpRestarting then .isOver s0
  else if !s.serves r.source then .isOver s
  else match s.sessionCheck r unit opcode payload with
    | .error t => .isOver t
    | .ok x =>
      if r.seq == x.high && r.seq != 0 then
        match x.cached with
        | none => .isOver s
        | some m => .isOver ((s.modSession x.num fun y =>
            { y with idleFrom := s.tb.now, prio := r.prio, xl := r.xl, sfp := r.sfp }).deliver r m)
      else if r.seq ≤ x.high then .isOver (s.refuse r unit (some x.m2c) opcode 0x07)
      else
        let s1 := s.modSession x.num fun y =>
          { y with high := r.seq, idleFrom := s.tb.now, prio := r.prio, xl := r.xl, sfp := r.sfp, cached := none }
        .on (if opcode == 0x11 || opcode == 0x70 then s1 else s1.travel
              { node := x.client, seq := r.seq, sub := opcode, value := if opcode == 0x40 then payload else [] }) x
          (if s.loaderRuns && !loaderOpcodes.contains opcode then some 0x0B
          else if (reqArrived r payload).length < fixed || r.reserved != 0 then some 0x02
          else if !role x.role then some 0x06 else none)

/-- The response of a request that was carried out or refused in its session: formed, cached and delivered (R467,
R483). -/
def State.finish (s : State) (r : Req) (unit : Bool) (x : Session) (opcode status : Nat) (body : Bytes) : State :=
  let (m, t) := s.formMsg r unit (some x.m2c) opcode status body
  (t.modSession x.num fun y => { y with cached := some m }).deliver r m

/-- A request in a session: entered, carried out, answered. -/
def State.request (s : State) (r : Req) (unit : Bool) (opcode : Nat) (payload : Bytes) (fixed : Nat)
    (role : Nat → Bool) (act : State → Session → Answer) : State :=
  match s.enter r unit opcode payload fixed role with
  | .isOver t => t
  | .on s1 x (some status) => s1.finish r unit x opcode status []
  | .on s1 x none =>
    let (s2, status, body) := act s1 x
    s2.finish r unit x opcode status body

/-- The payload of a WRITE (R488): index, subindex, the reserved byte, offset, value. -/
def writePayload (r : Req) (index sub offset : Nat) (value : Bytes) : Bytes :=
  leBytes 2 index ++ [sub, r.reserved] ++ leBytes 4 offset ++ value

/-- The twin lacks a segment of a long command: neither unit acts (R380, R492). -/
def State.notAgreed (s : State) (r : Req) (size : Nat) : Bool :=
  s.ty.state == .member && 152 < size && !r.longOk

/-- A WRITE (R488, R489): role, then the object's own effect; a pair write that is accepted travels to the twin, and
one too long for a record needs the twin to have all of it. -/
def State.writeAt (s : State) (r : Req) (unit : Bool) (index sub offset : Nat) (value : Bytes) (role : Nat → Bool)
    (act : State → Session → Answer) : State :=
  s.request r unit 0x11 (writePayload r index sub offset value) 8 role fun t x =>
    let c : CmdRecord := { node := x.client, seq := r.seq, index, sub, offset, value }
    if !unit && t.notAgreed r (recordSize c) then no t 0x10
    else
      let (u, status, body) := act t x
      if status == 0 && !unit then (u.travel c, status, body) else (u, status, body)

/-- A LIVE write (R488, R489, R507): role, then the check that its object's rule gives; a write that the rule refuses now
is answered now. What is accepted travels to the twin and waits for the row after the one in which it is agreed
(R377, R508); its response waits with it. -/
def State.liveReq (s : State) (r : Req) (unit : Bool) (index sub : Nat) (value : Bytes) (role : Nat → Bool)
    (cmd : Instr) (act : State → Session → Answer) : State :=
  match s.enter r unit 0x11 (writePayload r index sub 0 value) 8 role with
  | .isOver t => t
  | .on s1 x (some status) => s1.finish r unit x 0x11 status []
  | .on s1 x none =>
    let c : CmdRecord := { node := x.client, seq := r.seq, index, sub, value }
    if !unit && s1.notAgreed r (recordSize c) then s1.finish r unit x 0x11 0x10 []
    else
      let (u, status, body) := act s1 x
      if status != 0 then u.finish r unit x 0x11 status body
      else
        let (slot, v) := (if unit then s1 else s1.travel c).popSlot r
        v.modSy fun y => { y with live := y.live ++ [{ cmd, req := r, sess := x, slot, unit }] }

/-- A read (R506): role, then whether its object is there; what can be read waits for the next row latch, and is taken there
whole. It concerns this unit only (R470). -/
def State.latchReq (s : State) (r : Req) (opcode : Nat) (payload : Bytes) (fixed : Nat) (cmd : Instr)
    (act : State → Answer) : State :=
  match s.enter r true opcode payload fixed anyRole with
  | .isOver t => t
  | .on s1 x (some status) => s1.finish r true x opcode status []
  | .on s1 x none =>
    let (_, status, body) := act s1
    if status != 0 then s1.finish r true x opcode status body
    else
      let (slot, v) := s1.popSlot r
      v.modSy fun y => { y with live := y.live ++ [{ cmd, req := r, sess := x, slot, unit := true, agreed := true }] }

/-- The opcode of a request that waits for a row (R488). -/
def waitingOpcode : Instr → Nat
  | .read _ _ _ _ _ => 0x10
  | .readList _ _ _ => 0x12
  | _ => 0x11

/-- The response of a LIVE write or a read leaves for its session (R489, R506); a closed session gets none, and its mailbox slot goes
back (R465). -/
def State.liveAnswer (s : State) (l : Live) : State :=
  match l.answer with
  | none => s
  | some (status, body) =>
    let t := s.pushSlot l.slot
    match t.session l.sess.num with
    | none => if l.slot.isSome then t.answerSlot .spi none else t
    | some x => t.finish (inSlot l.req l.slot) l.unit x (waitingOpcode l.cmd) status body

/-- The responses of the LIVE writes that have taken effect leave (R489). -/
def State.liveAnswers (s : State) : State :=
  let t := s.modSy fun y => { y with live := y.live.filter (·.answer.isNone) }
  (s.sy.live.filter (·.answer.isSome)).foldl State.liveAnswer t

/-- A WRITE to an object with a row of its own, whole (R488, R489). -/
def State.writeReq (s : State) (r : Req) (unit : Bool) (index sub : Nat) (value : Bytes) (role : Nat → Bool)
    (act : State → Session → Answer) : State :=
  s.writeAt r unit index sub 0 value role act

end Sys2Proof.Machine
end

