-- ==== Sys2Proof/Machine/Outputs.lean ====
section
/-! DEFINITION. Outputs: the operations on coils, TRIP_OUT and UVR_HOLD that several chapters share (R65 to R68,
R93, R94, R333 to R336, R353), and the openings they begin (R181). -/

namespace Sys2Proof.Machine

/-! ### Coils -/

/-- A coil output: 1 MAIN_POS, 2 MAIN_NEG, 3 PRECHG, 4 AUX_COIL. -/
def State.coil (s : State) (n : Nat) : Coil := tabGet {} n s.os.coils

/-- A change to one coil output. -/
def State.modCoil (s : State) (n : Nat) (f : Coil → Coil) : State :=
  s.modOs fun o => { o with coils := tabMod {} n f o.coils }

/-- A coil with both switches commanded off; its fault bits stay (R65, R94). -/
def Coil.off (c : Coil) : Coil :=
  { c with cmd := false, phase := 0, reached := false, lowRows := 0, noChangeHs := 0, noChangeLs := 0 }

/-- A coil's pull-in begins (R65): a new energisation, in which no current has been seen or lost yet. -/
def Coil.on (c : Coil) : Coil :=
  { c with cmd := true, phase := 1, reached := false, lost := false, lowRows := 0, faults := setBit c.faults 2 false }

/-- A coil is on: commanded, or not yet off at an output commit (R33). -/
def Coil.isOn (c : Coil) : Bool := c.cmd || c.drive

/-- A coil output conducts: the stage has taken the command, and the claim gate is open (R32, R333). -/
def State.energised (s : State) (n : Nat) : Bool := (s.coil n).drive && s.os.gate

/-- Some coil is on. -/
def State.anyCoil (s : State) : Bool := [1, 2, 3, 4].any fun n => (s.coil n).isOn

/-- Every contactor is proven open: the supervisor is open, no string coil is commanded, and no weld is found
(R178, assumption 10). -/
def State.provenOpen (s : State) : Bool :=
  s.pc.seq == 0 && !([1, 2, 3].any fun n => (s.coil n).isOn) && s.pc.weld == 0

/-- The string current latched at the row start, or 0 without a value. -/
def State.latchedI (s : State) : Rat := s.rows.latched.getD 0

/-- The magnitude of the latched string current, mA. -/
def State.latchedAbs (s : State) : Rat := if s.latchedI < 0 then -s.latchedI else s.latchedI

/-- A coil is commanded off at this commit: its pull-in ends, and a queued request for it is withdrawn
(R93, R94). -/
def State.coilOff (s : State) (n : Nat) : State :=
  (s.modCoil n Coil.off).modPm fun p =>
    { p with pullIn := if p.pullIn == n then 0 else p.pullIn, queue := p.queue.filter (·.1 != n) }

/-- A request takes its place in the queue: after those of earlier rows, and among those of its own row in the order of
the coils (R93). -/
def insertPull (n row : Nat) : List (Nat × Nat) → List (Nat × Nat)
  | [] => [(n, row)]
  | q :: t => if q.2 == row && n < q.1 then (n, row) :: q :: t else q :: insertPull n row t

/-- A pull-in request joins the queue (R93). -/
def State.requestPullIn (s : State) (n : Nat) : State :=
  if (s.coil n).cmd || s.pm.queue.any (·.1 == n) then s
  else s.modPm fun p => { p with queue := insertPull n (rowKey s.tb.now) p.queue }

/-- Plant time reaches an instant some nanoseconds after a stamp of the present epoch. -/
def State.runPast (s : State) (t : Option Stamp) (after : Nat) : State :=
  match t with
  | some x => if x.epoch == s.tb.now.epoch then s.runTo (stampNs x + after) else s
  | none => s

/-- The module has reached READY, and has not left it but for a loss of supply (R86, R387). -/
def State.wasReady (s : State) : Bool :=
  s.pm.state == .ready || (s.pm.state == .powerFail && s.pm.failFrom == .ready)

/-! ### Openings (R181, R190) -/

/-- An opening begins: SequenceState 7. `both` says that both main contactors are commanded off already, so the
both-welded test is next; the currents at this instant decide which tests run (R190). -/
def State.beginOpening (s : State) (sequenced both : Bool) : State :=
  let big := decide ((s.cfgGet 0x2780 11 : Rat) ≤ s.latchedAbs)
  (s.modPc fun c =>
    { c with
      seq := 7, sequenced, opening2 := both, openI := big, openBothI := both && big, timing := false, step5 := 0,
      contactRun := 0, skipped := setBit (setBit c.skipped 2 (!(sequenced && big))) 3 (both && !big) }).modDe
    fun d => { d with connect := 5 }

/-- The end of a precharge writes the resistor's energy to the journal (R189, R546). -/
def State.journalEnergy (s : State) : State :=
  s.journal 0x0008 [s.pc.energy.num, s.pc.energy.den]

/-- Every coil off in one commit (R94, R336). A string that was connected or connecting is then opening, and the
module has opened it, so ConnectArmed is cleared (R321). -/
def State.dropCoils (s : State) : State :=
  let t := [1, 2, 3, 4].foldl State.coilOff s
  if 1 ≤ s.pc.seq && s.pc.seq ≤ 6 then
    let u := (t.beginOpening false true).modDe fun d => { d with armed := false }
    if s.pc.seq == 3 then u.journalEnergy else u
  else if s.pc.seq == 7 && s.pc.sequenced && !s.pc.opening2 then
    t.beginOpening false true
  else t

/-- The coils of one unit off (R336, R348): every switch of it. Where the twin can take the coils the string goes on, else it
opens. -/
def State.safeOff (s : State) : State :=
  if s.ty.paired && wordValue s.ty.wordTwin != 0 then [1, 2, 3, 4].foldl State.coilOff s else s.dropCoils

/-! ### TRIP_OUT and UVR_HOLD (R67, R68, R353) -/

/-- A second has passed since the last trip pulse began (R67); across a time step that raised the epoch the model counts it
as passed (DESIGN CHOICE, assumption 134). -/
def State.tripSpaced (s : State) : Bool :=
  match s.os.lastTrip with
  | none => true
  | some t => decide (stampNs t + 1000000000 ≤ stampNs s.tb.now) || decide (t.epoch ≠ s.tb.now.epoch)

/-- A trip pulse that is due starts: TRIP_OUT on, counted since manufacture (R67, R364); none without both safety island
programs (R534), none on the hold-up store (R64). -/
def State.startPulse (s : State) : State :=
  if !s.os.tripDue then s
  else if s.ld.islandStopped || s.pm.onStore then s.modOs fun o => { o with tripDue := false }
  else (s.modOs fun o => { o with tripActive := true, tripDue := false, lastTrip := some s.tb.now }).modSi fun i =>
    { i with tripPulses := i.tripPulses + 1, demandPulses := i.demandPulses + 1 }

/-- A demand asks for a trip pulse (R353): the first pulse of the demand is due unless one runs or less than a second has
passed since the last. -/
def State.askPulse (s : State) : State :=
  let t := s.modSi fun i => { i with tripDemand := true }
  if s.os.tripActive || s.si.demandPulses != 0 || !s.tripSpaced then t else t.modOs fun o => { o with tripDue := true }

/-- UVR_HOLD off by a safety action (R336). -/
def State.dropUvr (s : State) : State := s.modOs fun o => { o with uvr := false, uvrDrop := true }

/-- Every output of this unit at its safe state (R348): coils, TRIP_OUT, UVR_HOLD and XTRIP_OUT off. -/
def State.allSafe (s : State) : State :=
  (s.safeOff.dropUvr.modOs fun o => { o with tripActive := false, tripDue := false }).modSi fun i => { i with xtripOut := false }

/-! ### What reaches the output stages (R32, R33) -/

/-- The output commit: the stages take the commands, a pull-in whose coil comes on is timed from here (R65), and a pulse
that is due starts (R32, R33). -/
def State.takeCommands (s : State) : State :=
  let n := s.pm.pullIn
  let begins := n != 0 && (s.coil n).cmd && !(s.coil n).drive
  let t := s.modOs fun o =>
    { o with coils := o.coils.map fun (k, c) => (k, { c with drive := c.cmd }), uvrOn := o.uvr }
  (if begins then t.modPm fun p => { p with lastPullIn := some s.tb.now } else t).startPulse

/-- What acts outside the row grid turns outputs off at once (R33): a stage follows a command that is off, and none that
is on; the pulse of a fast pair event starts. -/
def State.cutOutputs (s : State) : State :=
  (s.modOs fun o =>
    { o with coils := o.coils.map fun (k, c) => (k, { c with drive := c.drive && c.cmd }), uvrOn := o.uvrOn && o.uvr }).startPulse

/-! ### Safety actions (R336) -/

/-- The actions of the safety island. -/
inductive Action where
  | coils | open | trip | unit
  deriving DecidableEq, Repr

/-- The code of an action (R364, LastReaction). -/
def Action.code : Action → Nat
  | .coils => 1 | .open => 2 | .trip => 3 | .unit => 4

/-- FA is unusable: 0x0402 or 0x0405 stands (R336). -/
def State.faUnusable (s : State) : Bool := s.fm.active.contains 0x0402 || s.fm.active.contains 0x0405

/-- The FA current over the row just ended, mA: 91.6 mA for each code (R145, R336). -/
def State.faMa (s : State) : Rat := (s.rows.faMean : Rat) * 916 / 10

/-- An OPEN includes a trip pulse: the FA current exceeds SafetyBreakCurrent, or FA is unusable (R336). -/
def State.openPulse (s : State) : Bool :=
  s.faUnusable || decide ((s.safeGet 0x2D86 1 : Rat) < (if s.faMa < 0 then -s.faMa else s.faMa))

/-- The safety island takes an action (R336): every coil off, for UNIT this unit's alone; the pulse and UVR_HOLD as the action
says. -/
def State.take (s : State) (a : Action) : State :=
  let t := (if a == .unit then s.safeOff else s.dropCoils).modSi fun i => { i with lastReaction := a.code, lastReactionStamp := s.tb.now }
  match a with
  | .coils => t
  | .open => if s.openPulse then t.dropUvr.askPulse else t
  | .trip => t.dropUvr.askPulse
  | .unit => t.dropUvr

/-! ### Closing (R334) -/

/-- Safety functions of this unit or of the pair that demand, bit n for SFn. -/
def State.demands (s : State) : Nat := s.si.siDemand ||| s.si.pairDemand

/-- An input's own restart or discrepancy block stands (R346, R347). -/
def State.inputBlocked (s : State) : Bool := s.si.sins.any fun (_, i) => i.restartBlock || i.discBlock

/-- A restart block of R354 stands. -/
def State.restartBlocked (s : State) : Bool := s.si.blocked != 0 || s.inputBlocked || s.si.coreBlock

/-- The safety set is confirmed here, and at the twin of a pair (R334). -/
def State.setsConfirmed (s : State) : Bool :=
  s.si.setConfirmed && !s.ld.islandStopped && (!(s.ty.state == .member) || (s.ty.hello.map fun h => bit h.flags 3).getD false)

/-- An output stage fault of severity open or latch stands (R334, R349). -/
def State.outputFault (s : State) : Bool :=
  [0x0E01, 0x0E02, 0x0E04, 0x0E07].any fun c => s.fm.active.contains c

/-- The first unmet condition of a request to energise a coil, 0 when all hold (R334). -/
def State.closeRefusal (s : State) : Nat :=
  if !s.setsConfirmed then 1
  else if s.demands != 0 then 2
  else if s.restartBlocked then 3
  else if 3 ≤ s.acting.code then 4
  else if !s.os.gate then 5
  else if s.outputFault then 6
  else 0

end Sys2Proof.Machine
end

