-- ==== Sys2Proof/Machine/SafetyIsland.lean ====
section
/-! DEFINITION. SafetyIsland: the safety functions, the dual-channel inputs, the tests of the output stages,
cross-trip, the safety parameter set and the proof test (R331 to R364). -/

namespace Sys2Proof.Machine

/-! ### Dual-channel inputs (R342 to R347) -/

/-- Safety input n. -/
def State.sin (s : State) (n : Nat) : Sin := tabGet {} n s.si.sins

/-- A change to safety input n. -/
def State.modSin (s : State) (n : Nat) (f : Sin → Sin) : State :=
  s.modSi fun i => { i with sins := tabMod {} n f i.sins }

/-- A filtered channel demands: channel A when off; channel B when off in mode 1 and when on in mode 2 (R342). -/
def chanDemand (mode : Nat) (isB filt : Bool) : Bool :=
  match mode with
  | 1 => !filt
  | 2 => if isB then filt else !filt
  | _ => false

/-- The test-pulse source of a channel (R73): TP1 SIN1_A to SIN4_A, TP2 their B channels, TP3 SIN5_A to SIN8_A, TP4
theirs. -/
def ownSource (n : Nat) (isB : Bool) : Nat := (if n ≤ 4 then 1 else 3) + b2n isB

/-- One sample of a channel (R343 to R345): the level is recorded; in the window of its own source's pulse the
filter holds its count; otherwise a sample at the new level counts toward the filter time and one at the old level
sets the count to 0. The filtered state changes at the sample T_f after the first at the new level, as in R347's worked
example (DEDUCED, assumption 152). -/
def Chan.sample (c : Chan) (filter : Nat) (tested : Bool) (window own : Nat) (level : Bool) : Chan :=
  let c1 := { c with raw := level, offSeen := c.offSeen || (window != 0 && !level) }
  if tested && window == own then c1
  else if level == c.filt then { c1 with count := 0 }
  else if filter ≤ c.count then { c1 with filt := level, count := 0 }
  else { c1 with count := c.count + 1 }

/-- The end of a pulse window (R345). In its own source's window, a channel that reads on and showed no off sample
misses a pulse, three in a row are a test-pulse fault, and three seen in a row end it. In another source's window,
whether it showed an off sample is kept. -/
def Chan.windowEnd (c : Chan) (tested : Bool) (window own : Nat) : Chan :=
  let c0 := { c with offSeen := false }
  if !tested then c0
  else if window == own then
    let c1 := { c0 with ownOn := !c.offSeen }
    if c.offSeen then
      let seen := c.seen + 1
      if c.fault && 3 ≤ seen then { c1 with missed := 0, seen := 0, fault := false }
      else { c1 with missed := 0, seen := if c.fault then seen else 0 }
    else if c.filt then
      { c1 with missed := c.missed + 1, seen := 0, fault := c.fault || 3 ≤ c.missed + 1 }
    else c1
  else { c0 with foreign := setBit c.foreign (window - 1) c.offSeen }

/-- A channel shows a cross-short: off during another source's pulse while on during its own (R345). -/
def Chan.crossed (c : Chan) : Bool := c.foreign != 0 && c.ownOn

/-- Channel A or B of an input demands, with its test-pulse fault or the input's cross-short treated as a demand
(R345). -/
def Sin.chanDemands (i : Sin) (mode : Nat) (isB : Bool) : Bool :=
  let c := if isB then i.b else i.a
  mode != 0 && (chanDemand mode isB c.filt || c.fault || i.crossShort)

/-- The input's demand after a sample, and its blocks (R342, R347): a demand sets the restart block, which clears by
itself at the end of the demand when SinRestart is 0; while a discrepancy block stands, demanding together and
then ending together is recorded. -/
def Sin.settle (i : Sin) (mode restart : Nat) : Sin :=
  let da := i.chanDemands mode false
  let db := i.chanDemands mode true
  let demand := da || db
  let both := i.bothDemanded || (i.discBlock && da && db)
  let ended := i.bothEnded || (i.discBlock && both && !da && !db)
  { i with
    demand, bothDemanded := i.discBlock && both, bothEnded := i.discBlock && ended
    restartBlock := if demand then true else if restart == 0 then false else i.restartBlock }

/-- The cross-short of an input at the end of a window (R345): it stands from its condition until the condition has
been absent for 10 consecutive pulses of each source. -/
def Sin.crossCheck (i : Sin) (window : Nat) : Sin :=
  if i.a.crossed || i.b.crossed then { i with crossShort := true, crossAbsent := [] }
  else if i.crossShort then
    let t := tabMod 0 window (· + 1) i.crossAbsent
    if [1, 2, 3, 4].all fun x => 10 ≤ tabGet 0 x t then { i with crossShort := false, crossAbsent := [] }
    else { i with crossAbsent := t }
  else i

/-- One input takes a sample of both channels. -/
def State.sampleInput (s : State) (levels n : Nat) : State :=
  let mode := s.safeGet 0x2D80 n
  if mode == 0 then s.modSin n fun i =>
    { i with a := { i.a with raw := bit levels (2 * (n - 1)) }, b := { i.b with raw := bit levels (2 * (n - 1) + 1) },
             demand := false, restartBlock := false }
  else
    let filter := s.safeGet 0x2D81 n
    let tested := s.safeGet 0x2D85 n == 1
    let x := if s.si.windowLeft == 0 then 0 else s.si.sourceX
    let last := s.si.windowLeft == 1
    s.modSin n fun i =>
      let a1 := i.a.sample filter tested x (ownSource n false) (bit levels (2 * (n - 1)))
      let b1 := i.b.sample filter tested x (ownSource n true) (bit levels (2 * (n - 1) + 1))
      let i1 := if last then
          ({ i with a := a1.windowEnd tested x (ownSource n false)
                    b := b1.windowEnd tested x (ownSource n true) }).crossCheck x
        else { i with a := a1, b := b1 }
      i1.settle mode (s.safeGet 0x2D84 n)

/-- The faults of the inputs after a sample (R345): 0x0D03 while a channel has a test-pulse fault, 0x0D04 while an
input has a cross-short, 0x0D05 while an input demands; the item is the lowest input concerned. -/
def State.inputFaults (s : State) : State :=
  let first (p : Sin → Bool) : Option Nat := [1, 2, 3, 4, 5, 6, 7, 8].find? fun n => p (s.sin n)
  let on (t : State) (code : Nat) (o : Option Nat) : State := t.cond code o.isSome (o.getD 0)
  on (on (on s 0x0D03 (first fun i => i.a.fault || i.b.fault)) 0x0D04 (first (·.crossShort)))
    0x0D05 (first (·.demand))

/-- SAFETY_INPUT_SAMPLE (R343): every channel is sampled and filtered; a pulse window counts down. -/
def execSafetyInputSample (levels : Nat) (s : State) : Host.Outcome State Fault Refusal :=
  let t := [1, 2, 3, 4, 5, 6, 7, 8].foldl (fun u n => u.sampleInput levels n) s
  .next ((t.modSi fun i => { i with windowLeft := i.windowLeft - 1
                                    sourceX := if i.windowLeft ≤ 1 then 0 else i.sourceX }).inputFaults)

/-- TEST_PULSE_START (R73, R344): the source whose offset in the 100 ms cycle has come goes low; its window is the
five samples from the pulse start. -/
def execTestPulseStart (s : State) : Host.Outcome State Fault Refusal :=
  .next (s.modSi fun i => { i with sourceX := s.ns / 25000000 % 4 + 1, windowLeft := 5 })

/-- One input at a 1 ms grid instant (R346): a disagreement of the filtered channels counts, and SinDiscrepancy
instants of one disagreement latch the discrepancy block. -/
def State.gridInput (s : State) (n : Nat) : State :=
  let mode := s.safeGet 0x2D80 n
  let i := s.sin n
  if mode == 0 then s.modSin n fun i => { i with discCount := 0 }
  else if chanDemand mode false i.a.filt != chanDemand mode true i.b.filt then
    let c := i.discCount + 1
    let t := s.modSin n fun i => { i with
      discCount := c, discMax := max i.discMax c
      discBlock := i.discBlock || s.safeGet 0x2D82 n ≤ c
      bothDemanded := i.discBlock && i.bothDemanded, bothEnded := i.discBlock && i.bothEnded }
    if s.safeGet 0x2D82 n ≤ c then t.raiseCond 0x0D02 n else t
  else s.modSin n fun i => { i with discCount := 0 }

/-- DISCREPANCY_GRID_TICK (R346). -/
def execDiscrepancyGridTick (s : State) : Host.Outcome State Fault Refusal :=
  .next ([1, 2, 3, 4, 5, 6, 7, 8].foldl State.gridInput s)

/-- A write of SafetyInputReset may reset an input (R347): its discrepancy block when both channels have demanded
together and ended together, its restart block when its demand has ended. -/
def Sin.resettable (i : Sin) : Bool :=
  !i.demand && (if i.discBlock then i.bothEnded else i.restartBlock)

/-- A write of SafetyInputReset (R347): every input named must be resettable, else the write is refused and changes
nothing; one that names none is refused (DESIGN CHOICE, assumption 153). -/
def State.inputReset (t : State) (bits : Nat) : Answer :=
  let named := [1, 2, 3, 4, 5, 6, 7, 8].filter fun n => bit bits (n - 1)
  if named.isEmpty || !named.all fun n => (t.sin n).resettable then no t 0x0B
  else
    let u := named.foldl (fun v n => v.modSin n fun i => { i with
      discBlock := false, restartBlock := false, bothDemanded := false, bothEnded := false }) t
    ok (u.cond 0x0D02 (u.si.sins.any fun (_, i) => i.discBlock))

/-- SAFETY_INPUT_RESET (R347, R363): acts at the next row. -/
def execSafetyInputReset (r : Req) (bits : Nat) (s : State) : Host.Outcome State Fault Refusal :=
  .next (s.liveReq r false 0x2D8A 0 (leBytes 1 bits) operator (.safetyInputReset r bits) fun t _ => t.inputReset bits)

/-! ### The safety functions at an output commit (R335 to R340, R353, R354) -/

/-- SF4 demands: a group has had two consecutive fresh samples beyond a threshold (R337). -/
def State.sf4 (s : State) : Bool := s.cl.groups.any fun (_, g) => 2 ≤ g.sf4

/-- SF3 demands: a triple latched in this row with reason bit 0 or 1 (R339). -/
def State.sf3 (s : State) : Bool := s.cl.urgentRow.any fun u => bit u.reason 0 || bit u.reason 1

/-- The functions of this unit that demand now, bit n for SFn (R335). -/
def State.ownDemands (s : State) : Nat :=
  let f (n : Nat) (b : Bool) : Nat := if b then 2 ^ n else 0
  f 1 (s.si.sf1 || s.ca.fa.cmp % 4 != 0) + f 2 (s.si.sf2 || s.ca.fb.cmp % 4 != 0) + f 3 s.sf3 + f 4 s.sf4 +
  f 5 s.tm.cellLatch + f 6 s.tm.junctionLatch + f 7 s.si.sf7 + f 8 (s.si.sins.any fun (_, i) => i.demand) +
  f 9 (s.si.xtripIn || s.si.xtripOpen) + f 10 s.si.rowLoss + f 11 s.si.sf11

/-- The row start latches what the row's commit acts on (R32): the demands of this unit, its safety inputs, and the actions
that are due. What was latched for a row that had no commit is `kept`. -/
def State.latchDemands (s : State) (kept : Bool) : State :=
  let inputs := ([1, 2, 3, 4, 5, 6, 7, 8].map fun n => b2n (s.sin n).demand * 2 ^ (n - 1)).sum
  s.modSi fun i => { i with
    rowOwn := s.ownDemands ||| (if kept then i.rowOwn &&& 0x0806 else 0), rowInputs := inputs
    rowSf5 := i.sf5Due || (kept && i.rowSf5), rowSf6 := i.sf6Due || (kept && i.rowSf6)
    rowXtrip := i.xtripDue || (kept && i.rowXtrip)
    sf1 := false, sf2 := false, sf5Due := false, sf6Due := false, sf11 := false, xtripDue := false }

/-- A safety input demands at the twin, by the filtered states of the agreed input set (R377). -/
def State.twinInput (s : State) (n : Nat) : Bool :=
  let mode := s.safeGet 0x2D80 n
  let on (k : Nat) : Bool := bit ((s.ty.rowIn.map (·.sin)).getD 0) k
  s.ty.agreedTwin && mode != 0 &&
    (chanDemand mode false (on (2 * (n - 1))) || chanDemand mode true (on (2 * (n - 1) + 1)))

/-- The action of the safety inputs that demand: TRIP when any of them has SinReaction 2 (R335, R353). -/
def State.inputAction (s : State) : Action :=
  let trips (n : Nat) : Bool := s.safeGet 0x2D83 n == 2 && (bit s.si.rowInputs (n - 1) || s.twinInput n)
  if [1, 2, 3, 4, 5, 6, 7, 8].any trips then .trip else .open

/-- One function's action: taken whole in the row in which it begins to demand; while it goes on demanding, every
coil stays off and a pulse that the action asks for is still asked for (R336, R353). -/
def State.act (s : State) (begins : Bool) (a : Action) : State :=
  if begins then s.take a
  else match a with
    | .coils => s.dropCoils
    | .open => if s.openPulse then s.dropCoils.dropUvr.askPulse else s.dropCoils
    | .trip => s.dropCoils.dropUvr.askPulse
    | .unit => s.safeOff.dropUvr

/-- The action of a function that demands here or, by the agreed input set, at the twin (R335, R336). SF5 acts when it
latches; from then on it keeps the coils off (R302). -/
def State.actionOf (s : State) (n : Nat) : Action :=
  match n with
  | 1 => .trip | 2 => .open | 3 => .open | 4 => .open
  | 5 => if s.si.rowSf5 then .trip else .coils
  | 6 => .unit
  | 7 => .open | 8 => s.inputAction
  | 9 => if s.si.rowXtrip || (s.si.xtripOpen && !s.si.xtripDue) then .open else .coils
  | 10 => .unit | 11 => .trip | _ => .coils

/-- The blocks of R354 that have cleared: the function no longer demands and the reaction state is below OPEN; for
SF2, FB has also been inside its window for 10 ms; SF5 and SF6 by their latches; SF9 by the release of XTRIP_IN. -/
def State.unblock (s : State) : State :=
  let free (n : Nat) : Bool :=
    if n == 9 then !s.si.xtripIn && !s.si.xtripOpen
    else if n == 5 then !s.tm.cellLatch
    else if n == 6 then !s.tm.junctionLatch
    else !bit s.demands n && s.acting.code < 3 && (n != 2 || 100 ≤ s.ca.fb.insideRows)
  s.modSi fun i => { i with blocked :=
    [1, 2, 3, 4, 5, 6, 7, 9, 10, 11].foldl (fun v n => if bit v n && free n then setBit v n false else v) i.blocked }

/-- UVR_HOLD comes back after a safety action when nothing keeps it off: no function demands, no restart block stands, and no
test or power-fail hold applies (assumption 11). What step 8 left off for a demand stays off (R91). -/
def State.restoreUvr (s : State) : State :=
  if s.os.uvrDrop && !s.os.uvrStays && s.demands == 0 && !s.restartBlocked && s.si.selfTested && !s.os.uvrTest &&
     !s.pm.safeUntilConnect && s.wasReady && !s.pm.onStore && !s.ld.islandStopped then
    s.modOs fun o => { o with uvr := true, uvrDrop := false }
  else s

/-- The faults of the safety functions at a commit (R335). -/
def State.functionFaults (s : State) (d : Nat) : State :=
  ((((s.cond 0x0D06 (bit d 1) 1).cond 0x0D07 (bit d 2) 2).cond 0x0D08 (bit d 3) 3).cond 0x0D09 (bit d 4) 4).cond
    0x0D0A (bit d 7) 7

/-- The safety demands that a row has latched (R32) are combined into one action for each output (R353). `twin` holds the functions that
the twin reports in the agreed input set; junction over-temperature and row loss act on their own unit only. -/
def State.safetyCommit (s : State) (twin : Nat) : State :=
  let own := s.si.rowOwn
  let pair := [1, 2, 3, 4, 5, 7, 8, 11].foldl (fun v n => if bit twin n then setBit v n true else v) 0
  let all := own ||| pair
  let before := s.demands
  let s1 := [1, 2, 3, 4, 5, 6, 7, 8, 9, 10, 11].foldl
    (fun t n => if bit all n then
        t.act (!bit before n || (n == 5 && s.si.rowSf5) || (n == 6 && s.si.rowSf6) || (n == 9 && s.si.rowXtrip))
          (s.actionOf n)
      else t) (if s.si.tripTest then s.take .trip else s)
  let pulses := all.testBit 1 || all.testBit 2 || all.testBit 3 || all.testBit 4 || all.testBit 5 ||
    all.testBit 7 || all.testBit 8 || all.testBit 11 || s.si.xtripOpen || s.si.tripTest
  let s2 := s1.modSi fun i => { i with
    siDemand := own, pairDemand := pair, functions := all
    blocked := i.blocked ||| setBit all 8 false
    tripDemand := pulses && i.tripDemand
    demandPulses := if pulses then i.demandPulses else 0
    dropClaim := i.rowSf5, rowSf5 := false, rowSf6 := false, rowXtrip := false, tripTest := false }
  let s3 := (s2.functionFaults own).unblock
  if s.si.tripTest then s3 else s3.restoreUvr

/-- CHARGE_BLOCK_TIMEOUT (R340): with the window closed and the FA current above ChargeBlockCurrent in every row of
ChargeBlockTime, SF7 demands. -/
def execChargeBlockTimeout (s : State) : Host.Outcome State Fault Refusal :=
  .next (if s.si.blockTimer && s.si.windowClosed && 10 * s.safeGet 0x2D86 3 ≤ s.si.blockRows then
    s.modSi fun i => { i with sf7 := true }
  else s)

/-- The FA current latched in a row against ChargeBlockCurrent (R340): above it while the window is closed, the time
runs; at or below it the time restarts and SF7 no longer demands. -/
def State.chargeBlockRow (s : State) : State :=
  if s.si.windowClosed && decide ((s.safeGet 0x2D86 2 : Rat) < s.faMa) then
    s.modSi fun i => { i with blockTimer := true, blockRows := i.blockRows + 1 }
  else s.modSi fun i => { i with blockTimer := false, blockRows := 0, sf7 := false }

/-! ### Cross-trip (R351, R352) -/

/-- The fast gate asserts XTRIP_OUT on a fast pair event (R351). -/
def State.assertXtripOut (s : State) : State :=
  if s.safeGet 0x2D86 4 == 1 then s.modSi fun i => { i with xtripOut := true } else s

/-- XTRIP_IN_ASSERT (R352): COILS at once, and 0x0D0B; ignored with XtripEnable 0. -/
def execXtripInAssert (s : State) : Host.Outcome State Fault Refusal :=
  .next (if s.safeGet 0x2D86 4 == 1 && s.coreUp then
    (((s.take .coils).cutOutputs).modSi fun i => { i with xtripIn := true, xtripMatched := false }).raiseCond 0x0D0B 9
  else s)

/-- XTRIP_IN_RELEASE (R352, R354). -/
def execXtripInRelease (s : State) : Host.Outcome State Fault Refusal :=
  .next ((s.modSi fun i => { i with xtripIn := false, xtripOpen := false, xtripDue := false, xtripMatched := false }).clearCond 0x0D0B)

/-- XTRIP_CONFIRM_TIMEOUT (R352): no sender event within 3 rows; the receiver takes OPEN as its own demand, which the next
row latches (R33). -/
def execXtripConfirmTimeout (s : State) : Host.Outcome State Fault Refusal :=
  .next (if s.si.xtripIn && !s.si.xtripMatched then s.modSi fun i => { i with xtripOpen := true, xtripDue := true } else s)

/-- XTRIP_OUT_HOLD_END (R351): 20 ms after the last fast event. -/
def execXtripOutHoldEnd (s : State) : Host.Outcome State Fault Refusal :=
  .next (s.modSi fun i => { i with xtripOut := false })

/-! ### Output stages and their tests (R65, R67, R349, R350) -/

/-- A fault of the output stages: its bit in CoilState, its code, and the stamp of the last (R364). -/
def State.outputFaultAt (s : State) (code item : Nat) : State :=
  (s.modOs fun o => { o with lastFault := s.tb.now }).raiseCond code item

/-- A switch is stuck closed (R349): its partner opens, the health score is 0, 0x0E01. -/
def State.stuckClosed (s : State) (n bitNo : Nat) : State :=
  let t := if n ≤ 4 then (s.coilOff n).modCoil n fun c => { c with faults := setBit c.faults bitNo true } else s.dropUvr
  (t.modOs fun o => { o with stuckAny := true }).outputFaultAt 0x0E01 (if n ≤ 4 then n else 6)

/-- One coil's readback in a row (R65, R349, R350): current lost, open load, a switch that conducts while commanded
off, and the pins of a shared coil against the holder's command. -/
def State.coilRow (s : State) (l : RowLatch) (n : Nat) : State :=
  let c := s.coil n
  let ma := l.coilMa.getD (n - 1) 0
  let hs := bit l.hsRead (n - 1)
  let ls := bit l.lsRead (n - 1)
  let shared := s.safeGet 0x2E80 n == 1
  let s0 := s.modCoil n fun c => { c with hsRead := hs, lsRead := ls, ma }
  if s.energised n then
    if 50 ≤ ma then s0.modCoil n fun c =>
      { c with reached := true, lowRows := 0, condRows := 0, wireRows := 0, faults := setBit c.faults 3 false }
    else if c.lowRows + 1 < 3 then s0.modCoil n fun c => { c with lowRows := c.lowRows + 1, condRows := 0 }
    else if c.reached then
      ((s0.coilOff n).modCoil n fun c => { c with lost := true, faults := setBit c.faults 2 true }).outputFaultAt
        0x0E02 n
    else (s0.modCoil n fun c => { c with lowRows := 3, faults := setBit c.faults 3 true }).outputFaultAt 0x0E03 n
  else
    let s1 := s0.modCoil n fun c => { c with faults := setBit c.faults 3 false }
    let twinOn := bit s.ty.twinCoils (n - 1)
    if shared && !s.os.gate then
      let bad := (hs || ls) != twinOn
      let rows := if bad then min 255 (c.wireRows + 1) else 0
      let s2 := s1.modCoil n fun c => { c with wireRows := rows, condRows := 0,
                                               faults := setBit c.faults 5 (3 ≤ rows) }
      if 3 ≤ rows then s2.outputFaultAt 0x0E05 n else s2
    else
      let rows := if hs || ls then min 255 (c.condRows + 1) else 0
      let s2 := s1.modCoil n fun c => { c with condRows := rows, wireRows := 0 }
      if 3 ≤ rows then s2.stuckClosed n (if hs then 0 else 1) else s2

/-- Output stage conditions that have ended (R551): a coil whose current was lost is off, and no coil shows an open load
or a wiring mismatch. -/
def State.coilConditionsEnd (s : State) : State :=
  let none' (b : Nat) : Bool := [1, 2, 3, 4].all fun n => !bit (s.coil n).faults b
  let t := if none' 3 then s.clearCond 0x0E03 else s
  if none' 5 then t.clearCond 0x0E05 else t

/-- The readbacks of a row (R349): the four coils, the trip continuity, and XTRIP_OUT for 3 rows. -/
def State.outputRow (s : State) (l : RowLatch) : State :=
  let t := ([1, 2, 3, 4].foldl (fun u n => u.coilRow l n) (s.clearCond 0x0E02)).coilConditionsEnd
  let t1 := (t.modOs fun o => { o with tripCont := l.tripCont }).modOs fun o =>
    { o with xtripRows := if l.xtripRead != s.si.xtripOut then min 255 (o.xtripRows + 1) else 0 }
  let t2 := if l.tripCont then t1.clearCond 0x0E06 else t1
  if t2.os.xtripRows == 0 then t2.clearCond 0x0E08
  else if 3 ≤ t2.os.xtripRows then t2.outputFaultAt 0x0E08 7
  else t2

/-- OFF_PULSE_TEST (R349): in its 100 ms slot of the plant second, an energised switch is turned off for 200 us; a
switch in its pull-in skips its slot. Switches 0 to 7 are the coils', 8 and 9 UVR_HOLD's. -/
def execOffPulseTest (s : State) : Host.Outcome State Fault Refusal :=
  let k := s.ns / 100000000 % 10
  let n := k / 2 + 1
  let on := if k < 8 then s.energised n && (s.coil n).phase == 2 else s.os.uvrOn
  .next (if on then s.modOs fun o => { o with pulseSwitch := some k } else s)

/-- OFF_PULSE_END (R349): the readback of the switch node is judged; no change in 2 consecutive off-pulses is a
switch stuck closed. A demand during the off-pulse has left the switch off, and nothing is judged. -/
def execOffPulseEnd (changed : Bool) (s : State) : Host.Outcome State Fault Refusal :=
  match s.os.pulseSwitch with
  | none => .next s
  | some k =>
    let n := k / 2 + 1
    let t := s.modOs fun o => { o with pulseSwitch := none, offPulses := o.offPulses + 1 }
    let still := if k < 8 then (s.coil n).drive && (s.coil n).cmd else s.os.uvrOn && s.os.uvr
    if !still then .next t
    else
      let was := if k == 8 then s.os.uvrNoChange1 else if k == 9 then s.os.uvrNoChange2
        else if k % 2 == 0 then (s.coil n).noChangeHs else (s.coil n).noChangeLs
      let now := if changed then 0 else was + 1
      let u := if k == 8 then t.modOs fun o => { o with uvrNoChange1 := now, uvr1 := changed }
        else if k == 9 then t.modOs fun o => { o with uvrNoChange2 := now, uvr2 := changed }
        else t.modCoil n fun c => if k % 2 == 0 then { c with noChangeHs := now } else { c with noChangeLs := now }
      .next (if 2 ≤ now then u.stuckClosed n (k % 2) else u)

/-- TRIP_SWITCH_TEST (R349): a switch of TRIP_OUT closed alone; a wrong readback is 0x0E07, and trips then go by the
other switch only. No test runs during a pulse. -/
def execTripSwitchTest (switch : Nat) (good : Bool) (s : State) : Host.Outcome State Fault Refusal :=
  if s.os.tripActive then .next s
  else
    let t := s.modOs fun o => if switch == 1 then { o with trip1 := good, trip1Stuck := !good }
      else { o with trip2 := good, trip2Stuck := !good }
    .next (if t.os.trip1Stuck || t.os.trip2Stuck then t.outputFaultAt 0x0E07 5 else t.clearCond 0x0E07)

/-- TRIP_CONTINUITY_TIMEOUT (R349): the 2 mA test current absent for 1 s. -/
def execTripContinuityTimeout (s : State) : Host.Outcome State Fault Refusal :=
  .next ((s.modOs fun o => { o with tripCont := false }).outputFaultAt 0x0E06 5)

/-- TRIP_PULSE_END (R67): the pulse ends after 50 ms. -/
def execTripPulseEnd (s : State) : Host.Outcome State Fault Refusal :=
  .next (s.modOs fun o => { o with tripActive := false })

/-- TRIP_PULSE_REPEAT (R67, R353): 1 s after a pulse began, another is due at the next output commit if the FA current was
still at or above 2,000 mA 200 ms after it began, at most three for a demand. -/
def execTripPulseRepeat (faMa : Int) (s : State) : Host.Outcome State Fault Refusal :=
  .next (if s.si.tripDemand && !s.os.tripActive && 1 ≤ s.si.demandPulses && s.si.demandPulses < 3 &&
      2000 ≤ faMa.natAbs then (s.runPast s.os.lastTrip 1000000000).modOs fun o => { o with tripDue := true }
    else s)

/-- COIL_SHORT_CIRCUIT (R65, R349): the output is off until reset, and 0x0E04 stands. -/
def execCoilShortCircuit (coil : Nat) (s : State) : Host.Outcome State Fault Refusal :=
  .next (((s.coilOff coil).modCoil coil fun c => { c with drive := false, shorted := true, faults := setBit c.faults 4 true }).outputFaultAt
    0x0E04 coil)

/-! ### Safety parameter set (R355 to R359) -/

/-- The entries of the safety set in ascending index, then subindex: the SAFE objects of R355. -/
def safeEntries : List (Nat × Nat) :=
  (objTable.filter (·.access == .safe)).flatMap fun o =>
    (List.range (o.hi + 1 - o.lo)).map fun k => (o.index, o.lo + k)

/-- The serialisation of R357 over the values that a reader gives. -/
def safeBytes (get : Nat → Nat → Nat) : Bytes :=
  leBytes 2 1 ++ leBytes 2 66 ++ safeEntries.flatMap fun (index, sub) =>
    let n := ((findObj index sub).map (·.bytes)).getD 1
    leBytes 2 index ++ [sub, n] ++ leBytes n (get index sub)

/-- SetCheckComputed (R357): the check of the shadow set. -/
def State.checkOfShadow (s : State) : Nat := crc32c (safeBytes s.shadowGet)

/-- The relations between SAFE values (R356). -/
def State.shadowRelations (s : State) : Bool :=
  let g (i j : Nat) : Int := ofWord 16 (s.shadowGet i j)
  s.shadowGet 0x2883 2 < s.shadowGet 0x2883 1 && g 0x2B98 1 < g 0x2B98 2 && g 0x2B98 2 < g 0x2B98 3

/-- The range check of a configuration value (R505, R507): the value of its size, inside its field and its range. -/
def objInRange (o : Obj) (v : Nat) : Bool :=
  let x : Int := if o.signed then ofWord (o.bytes * 8) v else v
  decide (o.min ≤ x) && decide (x ≤ o.max)

/-- SAFE_OBJECT_WRITE (R19, R356): outside a commissioning session refused with 0x09; with a coil on, 0x0C; out of
range, 0x0A. An accepted write goes to the shadow, and the first after a confirmation clears SetConfirmed, raises
0x0D0C and locks the coils off. A value that the gate fails to validate raises 0x0D10 and is not taken. -/
def execSafeObjectWrite (r : Req) (index sub : Nat) (value : Bytes) (gateOk : Bool) (s : State) :
    Host.Outcome State Fault Refusal :=
  .next (s.writeReq r false index sub value anyRole fun t x =>
    match findObj index sub with
    | none => no t 0x08
    | some o =>
      if o.access != .safe then no t 0x08
      else if !commissioning x.role then no t 0x09
      else if t.anyCoil then no t 0x0C
      else if value.length != o.bytes || !objInRange o (leNat value) then no t 0x0A
      else if !gateOk then no (t.raiseEvent 0x0D10) 0x0B
      else
        let u := t.modSi fun i => { i with
          setConfirmed := false
          shadow := tabPut (objReset t.id.variant index sub) (objKey index sub) (leNat value) i.shadow }
        ok ((u.modSi fun i => { i with checkComputed := u.checkOfShadow }).raiseCond 0x0D0C))

/-- The content of record 0x0100 (R546): the confirmed set, its check and its stamp. -/
def State.record100 (s : State) : List Int :=
  [(b2n s.si.setConfirmed : Int), (s.si.checkConfirmed : Int)] ++ stampInts s.si.confirmStamp ++
    s.si.active.flatMap fun (k, v) => [(k : Int), (v : Int)]

/-- A write of SafetySetConfirm (R358): the value must be the computed check, the shadow keep its relations, and the twin
agree; then the shadow is the active set, journalled and logged, and 0x0D0C ends. A refusal raises 0x0D0D. -/
def State.confirmSet (t : State) (value : Nat) (twinAgrees : Bool) : Answer :=
  if value != t.si.checkComputed || !twinAgrees then no (t.raiseEvent 0x0D0D) 0x0B
  else if !t.shadowRelations then no (t.raiseEvent 0x0D0D) 0x0A
  else
    let u := t.modSi fun i => { i with
      active := i.shadow, setConfirmed := true, everConfirmed := true, formatLost := false, checkConfirmed := value
      confirmStamp := t.tb.now }
    ok (((u.clearCond 0x0D0C).journal 0x0100 u.record100).logKind 7 value)

/-- SAFETY_SET_CONFIRM (R358, R363): acts at the next row. -/
def execSafetySetConfirm (r : Req) (value : Nat) (twinAgrees : Bool) (s : State) :
    Host.Outcome State Fault Refusal :=
  .next (s.liveReq r false 0x2D8B 0 (leBytes 4 value) commissioning (.safetySetConfirm r value twinAgrees) fun t _ =>
    t.confirmSet value twinAgrees)

/-- A write of SafetySetRevert (R356): the shadow is discarded; a confirmed set gets its confirmation back, without one the
shadow takes the defaults and the set stays unconfirmed. -/
def State.revertSet (t : State) : Answer :=
  let u := t.modSi fun i =>
    if i.everConfirmed then { i with shadow := i.active, setConfirmed := true } else { i with shadow := [] }
  let v := u.modSi fun i => { i with checkComputed := u.checkOfShadow }
  ok (if v.si.setConfirmed then v.clearCond 0x0D0C else v)

/-- SAFETY_SET_REVERT (R356, R363): acts at the next row. -/
def execSafetySetRevert (r : Req) (s : State) : Host.Outcome State Fault Refusal :=
  .next (s.liveReq r false 0x2D8C 0 [1] commissioning (.safetySetRevert r) fun t _ => t.revertSet)

/-! ### Proof test (R360, R361) -/

/-- The content of record 0x0009 (R546). -/
def State.record9 (s : State) : List Int :=
  [(s.si.proofState : Int), (s.si.proofDue : Int)] ++ stampInts s.si.proofStamp

/-- Write record 0x0009 (R546). -/
def State.journal9 (s : State) : State := s.journal 0x0009 s.record9

/-- V_bus (R161): BUS_P less BUS_N, where both have values. -/
def State.vBus (s : State) : Option Int :=
  match s.ss.busP, s.ss.busN with
  | some p, some n => some (p - n)
  | _, _ => none

/-- The bus is below 60 V (R351, R360). -/
def State.busDead (s : State) : Bool := (s.vBus.map fun v => decide (v.natAbs < 60000)).getD false

/-- The automated part of the proof test (R360): refused with 0x0C unless every contactor is proven open and the bus is below
60 V. The run passes, or ends at its first failed step with 0x0D0F. -/
def State.proofRun (t : State) (failed : Option Nat) : Answer :=
  if !t.provenOpen || !t.busDead then no t 0x0C
  else match failed with
    | none => ok ((t.modSi fun i => { i with proofState := 2 }).journal9)
    | some step => ok (((t.modSi fun i => { i with proofState := 3 }).journal9).raiseEvent 0x0D0F step)

/-- PROOF_TEST_AUTOMATED (R360, R363): acts at the next row. -/
def execProofTestAutomated (r : Req) (failed : Option Nat) (s : State) : Host.Outcome State Fault Refusal :=
  .next (s.liveReq r false 0x2D8D 0 [1] engineer (.proofTestAutomated r failed) fun t _ => t.proofRun failed)

/-- The manual part of the proof test is recorded (R361): after the automated part has passed, the test is complete: its
stamp is set and ProofTestDue counts from ProofTestInterval again. -/
def State.proofRecord (t : State) : Answer :=
  if t.si.proofState != 2 then no t 0x0B
  else
    let u := t.modSi fun i => { i with
      proofState := 4, proofStamp := t.tb.now, proofDue := t.safeGet 0x2D86 5 }
    ok (((u.modOs fun o => { o with uvrTest := false }).journal9).clearCond 0x0D0E)

/-- PROOF_TEST_RECORD (R361, R363): acts at the next row. -/
def execProofTestRecord (r : Req) (s : State) : Host.Outcome State Fault Refusal :=
  .next (s.liveReq r false 0x2D8D 0 [2] engineer (.proofTestRecord r) fun t _ => t.proofRecord)

/-- One TRIP reaction for test (R361): due at the row's output commit. -/
def State.proofTrip (t : State) : Answer := ok (t.modSi fun i => { i with tripTest := true })

/-- PROOF_TEST_TRIP (R361, R363): acts at the next row. -/
def execProofTestTrip (r : Req) (s : State) : Host.Outcome State Fault Refusal :=
  .next (s.liveReq r false 0x2D8D 0 [3] engineer (.proofTestTrip r) fun t _ => t.proofTrip)

/-- UVR_HOLD is dropped for test (R361), until the manual part is recorded or a reset (assumption 12). -/
def State.proofUvr (t : State) : Answer := ok (t.dropUvr.modOs fun o => { o with uvrTest := true })

/-- PROOF_TEST_UVR_DROP (R361, R363): acts at the next row. -/
def execProofTestUvrDrop (r : Req) (s : State) : Host.Outcome State Fault Refusal :=
  .next (s.liveReq r false 0x2D8D 0 [4] engineer (.proofTestUvrDrop r) fun t _ => t.proofUvr)

/-- PROOF_TEST_DUE_EXPIRY (R360): ProofTestDue at 0 raises 0x0D0E. -/
def execProofTestDueExpiry (s : State) : Host.Outcome State Fault Refusal :=
  .next (if s.si.proofDue == 0 then s.raiseCond 0x0D0E else s)

end Sys2Proof.Machine
end

