-- ==== Sys2Proof/Machine/Converter.lean ====
section
/-! DEFINITION. Converter: the converter array and the fast pairs (R120 to R154, R553, R554): results and their
settling, rotation, calibration, hand-overs, captures, the event rings and the host's two-half reads. -/

namespace Sys2Proof.Machine

/-! ### Duties and their configuration (R121, R122, R124, R153) -/

/-- A duty. -/
def State.duty (s : State) (d : Nat) : Duty := tabGet {} d s.ca.duties

/-- A change to a duty. -/
def State.modDuty (s : State) (d : Nat) (f : Duty → Duty) : State :=
  s.modCa fun c => { c with duties := tabMod {} d f c.duties }

/-- A slice. -/
def State.slice (s : State) (n : Nat) : Slice := tabGet {} n s.ca.slices

/-- A change to a slice. -/
def State.modSlice (s : State) (n : Nat) (f : Slice → Slice) : State :=
  s.modCa fun c => { c with slices := tabMod {} n f c.slices }

/-- The DutyConfig word of a duty. -/
def State.dutyWord (s : State) (d : Nat) : Nat := s.cfgGet 0x2381 (d + 1)

/-- The settling count N of a filter mode (R124). -/
def settleN (mode : Nat) : Nat :=
  match mode with
  | 0 => 3 | 1 => 4 | _ => 2

/-- The settling count of a duty's mode. -/
def State.dutyN (s : State) (d : Nat) : Nat := settleN (s.dutyWord d / 65536 % 4)

/-- A change that invalidates n results (R142): the count restarts at it; changes before the same result count once, at the
largest count. -/
def Duty.change (u : Duty) (n : Nat) : Duty :=
  { u with settle := if u.fresh then max u.settle n else n, fresh := true }

/-- An entry of the D6 or the D7 sequence (R153). -/
def State.seqEntry (s : State) (d idx : Nat) : Nat := s.cfgGet (if d == 6 then 0x2388 else 0x2389) (idx + 1)

/-- The input a duty measures (R122): fixed for D0 to D4, the insulation monitor's for D5, the sequence's for D6 and
D7. -/
def State.dutyInput (s : State) (d : Nat) : Nat :=
  match d with
  | 0 => 0 | 1 => 1 | 2 => 3 | 3 => 4 | 4 => 5
  | 5 => 6 + (s.duty 5).seqIdx
  | _ => s.seqEntry d (s.duty d).seqIdx % 32

/-- The gain of a duty: the code's power of two (R121). -/
def State.dutyGain (s : State) (d : Nat) : Nat :=
  2 ^ (if d == 6 || d == 7 then s.seqEntry d (s.duty d).seqIdx / 32 % 4 else s.dutyWord d / 2 ^ 18 % 4)

/-- The decimation of a duty (R124). -/
def State.dutyD (s : State) (d : Nat) : Nat := s.dutyWord d % 65536

/-- The filter mode of a duty (R124). -/
def State.dutyMode (s : State) (d : Nat) : Nat := s.dutyWord d / 65536 % 4

/-- VALUE of a duty's result of an input given as levels over its window (R124, R554). -/
def State.filtered (s : State) (d : Nat) (levels : List (Nat × Int)) : Int :=
  filterValue (s.dutyMode d) (s.dutyD d) levels

/-- A clamp to a range. -/
def clampInt (lo hi x : Int) : Int := if x < lo then lo else if hi < x then hi else x

/-- A value is at overrange (R141). -/
def overrange (v : Int) : Bool := v == 8388607 || v == -8388608

/-! ### Results (R125, R131, R141, R142) -/

/-- The instant of a short stamp near now, ns of plant time. -/
def State.centreOf (s : State) (short : Nat) : Int := (s.ns : Int) + shortDiff short s.short

/-- The slice from which a result or a capture comes: the outgoing one for a centre before the last Tsw (R131, R132). -/
def State.resultSlice (s : State) (d stamp : Nat) : Nat :=
  match s.ca.swAt with
  | some t => if s.ca.swDuty == d && decide (s.centreOf stamp < (t : Int)) then s.ca.swFrom else (s.duty d).slice
  | none => (s.duty d).slice

/-- The D6 or D7 sequence after a result: at the end of its dwell the next entry is taken, with the settling of its
change (R142, R153). An entry of 0 that is reached is an entry like any other: input 0, SHUNT, for one result (assumption 102). -/
def State.seqStep (s : State) (d : Nat) : State :=
  let u := s.duty d
  let e := s.seqEntry d u.seqIdx
  if u.dwell + 1 < e / 256 then s.modDuty d fun u => { u with dwell := u.dwell + 1 }
  else
    let i := if bit e 7 || 15 ≤ u.seqIdx then 0 else u.seqIdx + 1
    let f := s.seqEntry d i
    let n := s.dutyN d
    s.modDuty d fun u =>
      let v := { u with seqIdx := i, dwell := 0 }
      if e / 32 % 4 != f / 32 % 4 then v.change (n + 1) else if e % 32 != f % 32 then v.change n else v

/-- The insulation monitor's D5 moves to another of its inputs: a change of input (R142). -/
def State.d5Input (s : State) (input : Nat) : State :=
  if 6 ≤ input && input ≤ 8 && input != s.dutyInput 5 then
    s.modDuty 5 fun u => { u.change (s.dutyN 5) with seqIdx := input - 6 }
  else s

/-- The duties' overrange times (R141): a result at overrange lets the duty's time run, one within range restarts
it; 0x0306 ends when no duty's condition holds. -/
def State.overTrack (s : State) (d : Nat) (isOver : Bool) : State :=
  let t := s.modDuty d fun u => { u with isOver, overMs := isOver && u.overMs }
  if t.ca.duties.any fun (_, u) => u.overMs then t else t.clearCond 0x0306

/-- The outgoing slice's results of a hand-over phase (R131): those of the target duty centred before Tsw, the last 16 that
are not settling. -/
def State.keepOutgoing (s : State) (d : Nat) (value : Int) (stamp : Nat) : State :=
  if s.ca.hoActive && s.ca.hoDuty == d && (s.duty d).settle == 0 && decide (s.centreOf stamp < (s.ca.hoTsw : Int)) then
    s.modCa fun c => { c with hoOut := (stamp, value) :: c.hoOut.take 15 }
  else s

/-- A main-stream result enters the result store (R125, R141, R142): SETTLE and REMAIN from the duty's settling
count, UPD one more than the slot's. -/
def State.storeResult (s : State) (d : Nat) (value : Int) (stamp : Nat) : State :=
  let k := (s.duty d).settle
  let input := s.dutyInput d
  let old := tabGet {} input s.ca.results
  let r : Result := { stamp := BitVec.ofNat 32 stamp, value, upd := (old.upd + 1) % 16, settle := k != 0,
                      remain := k - 1, slice := s.resultSlice d stamp, input, held := s.ca.precisionHeld }
  let t := ((s.keepOutgoing d value stamp).modCa fun c => { c with results := tabPut {} input r c.results }).modDuty d fun u =>
    { u with settle := k - 1, fresh := false }
  (if d == 6 || d == 7 then t.seqStep d else t).overTrack d (overrange value)

/-- Each start of the modulators counts as a change of mode (R142): N + 1 results of each duty settle. -/
def State.startModulators (s : State) : State :=
  [0, 1, 2, 3, 4, 5, 6, 7].foldl (fun t d => t.modDuty d fun u => u.change (t.dutyN d + 1))
    (s.modCa fun c => { c with started := true })

/-- DUTY_OVERRANGE_TIMEOUT (R141): every result of the duty has been at overrange for more than 10 ms. -/
def execDutyOverrangeTimeout (duty : Nat) (s : State) : Host.Outcome State Fault Refusal :=
  .next (if (s.duty duty).isOver then
    (s.modDuty duty fun u => { u with overMs := true }).raiseCond 0x0306 duty
  else s)

/-! ### Captures (R136, R139, R140) -/

/-- The timer's newest instant (R136): TimerStart, then every TimerPeriod; none before TimerStart. Instants are those of
TimerStart's epoch, and compare by epoch and time. -/
def State.timerTrig (s : State) : Option Stamp :=
  let start := stampOf (leBytes 12 (s.cfgGet 0x2384 0))
  let period := s.cfgGet 0x2385 0
  if stampBefore s.tb.now start then none
  else
    let k := if period == 0 then 0 else (s.ns - stampNs start) / period
    some (stampAt start.epoch (stampNs start + k * period))

/-- The newest pattern start (R136). -/
def State.patternTrig (s : State) : Option Stamp :=
  s.rows.lastPat.map fun p => stampAt s.tb.now.epoch (p * 10000000)

/-- The newest instant of a trigger line's own source (R136); line 1 is CT0. -/
def State.lineTrig (s : State) (line : Nat) : Option Stamp :=
  match s.cfgGet 0x2386 line with
  | 1 => s.patternTrig
  | 2 => s.timerTrig
  | 3 => s.ca.fa.evAt
  | 4 => s.ca.fb.evAt
  | 5 => tabGet none line s.ca.softAt
  | 6 => if s.cl.stepState == 0 then none else some s.cl.stepTs
  | _ => none

/-- The newest trigger instant of a duty's capture decimator (R136). -/
def State.dutyTrig (s : State) (d : Nat) : Option Stamp :=
  match s.cfgGet 0x2382 (d + 1) with
  | 0 => none
  | 1 => s.patternTrig
  | 2 => s.timerTrig
  | k => s.lineTrig (k - 2)

/-- A trigger instant that the duty has not taken yet: a passed one never triggers again. -/
def Duty.newTrig (u : Duty) (t : Stamp) : Bool := (u.capTook.map fun x => stampBefore x t).getD true

/-- CAPTURE_TRIGGER (R136, R139): a new instant of the duty's source opens a window of its capture decimator, centred
CaptureDelay after it; while a window is open the trigger is dropped and counted, with 0x0307. -/
def execCaptureTrigger (duty : Nat) (s : State) : Host.Outcome State Fault Refusal :=
  .next (if !s.ca.started then s
    else match (s.dutyTrig duty).filter (s.duty duty).newTrig with
      | none => s
      | some t =>
        let u := s.modDuty duty fun u => { u with capTook := some t }
        if (s.duty duty).captureOpen then
          (u.modCa fun c => { c with capDropped := c.capDropped + 1 }).raiseEvent 0x0307 duty
        else u.modDuty duty fun u => { u with
          captureOpen := true, capAt := stampNs t + s.cfgGet 0x2383 (duty + 1) })

/-- The actual centre of a capture (R137): within 20 ns of its scheduled instant, and within 2 ns of the centre of another
capture on its line for the same instant. Within that the centre is the one that `stamp` gives. -/
def State.captureCentre (s : State) (d stamp : Nat) : Nat :=
  let at' := (s.duty d).capAt
  let near := clampInt ((at' : Int) - 20) ((at' : Int) + 20) (s.centreOf stamp)
  let (sched, had) := tabGet (0, 0) (s.cfgGet 0x2382 (d + 1)) s.ca.lineCap
  (if 3 ≤ s.cfgGet 0x2382 (d + 1) && sched == at' && had != 0 then clampInt ((had : Int) - 2) ((had : Int) + 2) near
    else near).toNat

/-- A capture result goes to the capture slot of its input; it carries the settling count of the main stream that
still runs (R140), as the next main result will show it: SETTLE 1 and REMAIN one less than the count (assumption 142). -/
def State.storeCapture (s : State) (d : Nat) (value : Int) (stamp : Nat) : State :=
  let k := (s.duty d).settle
  let input := s.dutyInput d
  let old := tabGet {} input s.ca.captures
  let centre := s.captureCentre d stamp
  let r : Result := { stamp := BitVec.ofNat 32 centre, value, upd := (old.upd + 1) % 16, settle := k != 0,
                      remain := k - 1, slice := s.resultSlice d (centre % 2 ^ 32), input, held := s.ca.precisionHeld,
                      capture := true }
  (s.modCa fun c => { c with
    captures := tabPut {} input r c.captures
    lineCap := if 3 ≤ s.cfgGet 0x2382 (d + 1) then
        tabPut (0, 0) (s.cfgGet 0x2382 (d + 1)) ((s.duty d).capAt, centre) c.lineCap else c.lineCap }).modDuty d fun u =>
    { u with captureOpen := false }

/-! ### Rotation and hand-over (R127 to R135) -/

/-- The slices retired. -/
def State.retiredCount (s : State) : Nat := (s.ca.slices.filter fun (_, x) => x.retired).length

/-- The step of a rotation cycle at an offset in patterns (R127); 32 patterns each when degraded (R135). -/
def rotationStepAt (mode offset : Nat) : Nat :=
  if mode == 0 then ([29, 57, 86, 114, 143, 171, 200, 228].filter (· ≤ offset)).length else offset / 32

/-- The duty that a slice serves. -/
def State.dutyOf (s : State) (n : Nat) : Option Nat :=
  [0, 1, 2, 3, 4, 5, 6, 7].find? fun d => (s.duty d).slice == n

/-- The next slice in the cyclic order that is not retired and serves a duty, with the duty (R128). -/
def State.nextServing (s : State) (spare : Nat) : Option (Nat × Nat) :=
  [1, 2, 3, 4, 5, 6, 7, 8].findSome? fun k =>
    let n := (spare + k) % 9
    if (s.slice n).retired then none else (s.dutyOf n).map fun d => (n, d)

/-- A slice retires (R129, R135): 0x0302; the second stops the rotation and D7 with 0x0304, the third D6 with
0x0305. -/
def State.retire (s : State) (n : Nat) : State :=
  let t := ((s.modSlice n fun x => { x with retired := true }).modCa fun c =>
    { c with spare := if c.spare == n then 0xFF else c.spare, hoActive := false, hoRetry := false }).raiseEvent 0x0302 n
  let k := t.retiredCount
  if k == 1 then t.modCa fun c => { c with rotMode := 1 }
  else
    let u := ((t.modCa fun c => { c with rotMode := 2, spare := 0xFF, precisionHeld := false }).modDuty 7 fun d =>
      { d with slice := 0xFF }).raiseCond 0x0304 n
    if 3 ≤ k then (u.modDuty 6 fun d => { d with slice := 0xFF }).raiseCond 0x0305 n else u

/-- The residuals of a fast pair against twice the limits of R146. -/
def residualsBad (off gain skew : Int) : Bool := 400 < off.natAbs || 1000 < gain.natAbs || 100 < skew.natAbs

/-- A signed 16-bit range. -/
def clamp16 (x : Int) : Int := clampInt (-32768) 32767 x

/-- A pair is matched (R146): what the cycle measured is taken off by the corrections of each SAR, the skew only with a
first-difference rms of at least 64 LSB; the residuals are what the SARs differ by. -/
def Pair.matched (p : Pair) (m : Matching) : Pair :=
  let o := m.offA - m.offB
  let g := m.gainA - m.gainB
  { p with residOffset := clamp16 o, residGain := clamp16 g, residSkew := clamp16 m.skew
           residBad := if residualsBad o g m.skew then p.residBad + 1 else 0
           offA := p.offA + m.offA, offB := p.offB + m.offB, gainA := p.gainA + m.gainA, gainB := p.gainB + m.gainB
           skew := if 64 ≤ m.rms then clampInt (-400) 400 (p.skew + roundEven ((m.skew : Rat) / 5)) else p.skew }

/-- The corrected code of a raw sample (R146): SAR 0 is the even one, SAR 1 the odd one. -/
def Pair.correct (p : Pair) (sar : Nat) (x : Int) : Int :=
  let off := if sar == 0 then p.offA else p.offB
  let gain := if sar == 0 then p.gainA else p.gainB
  clamp16 (roundEven (((x : Rat) - (off : Rat) / 100) * (1 - (gain : Rat) / 1000000)))

/-- The corrected codes of samples that begin with the even SAR's. -/
def Pair.corrected (p : Pair) (l : List Int) : List Int :=
  List.zipWith (fun k x => p.correct (k % 2) x) (List.range l.length) l

/-- The interleave correction of a rotation cycle (R146): FA and FB are matched, and 0x0401 after 8 cycles in a
row above twice the limits. -/
def State.interleave (s : State) (fa fb : Matching) : State :=
  let t := s.modCa fun c => { c with fa := c.fa.matched fa, fb := c.fb.matched fb }
  t.cond 0x0401 (8 ≤ t.ca.fa.residBad || 8 ≤ t.ca.fb.residBad) (if 8 ≤ t.ca.fa.residBad then 9 else 10)

/-- ROTATION_STEP_BOUNDARY (R127, R128): the spare needle starts its passes; once in a cycle the pairs are matched, while
the rotation runs (assumption 143). -/
def execRotationStepBoundary (pairs : PairMatching) (s : State) : Host.Outcome State Fault Refusal :=
  if s.ca.rotMode == 2 || !s.ca.started then .next s
  else
    let k := rotationStepAt s.ca.rotMode (s.patNo % 256)
    let t := s.modCa fun c => { c with rotStep := k, calIdx := 0 }
    .next (if k == 0 then t.interleave pairs.fa pairs.fb else t)

/-- REF_B at the end of a pass (R130): its deviation, and 0x0301 from the third failing pass in a row on one slice
until every slice that is not retired has had three good ones (assumption 144). -/
def State.refCheck (s : State) (n : Nat) (dev : Int) : State :=
  let t := s.modCa fun c => { c with refCheck := dev }
  if 100 < dev.natAbs then
    let u := t.modSlice n fun x => { x with refFails := x.refFails + 1, refGood := 0 }
    if 3 ≤ (u.slice n).refFails then
      let v := if u.fm.active.contains 0x0301 then u
        else [0, 1, 2, 3, 4, 5, 6, 7, 8].foldl (fun w k => w.modSlice k fun x => { x with refGood := 0 }) u
      (v.modCa fun c => { c with precisionHeld := false }).raiseCond 0x0301 n
    else u
  else
    let u := t.modSlice n fun x => { x with refFails := 0, refGood := x.refGood + 1 }
    if [0, 1, 2, 3, 4, 5, 6, 7, 8].all fun k => (u.slice k).retired || 3 ≤ (u.slice k).refGood then
      u.clearCond 0x0301
    else u

/-- Whether a measurement of a pass is outside its limit (R129): offset 2 % of 2.5 V, gain error 0.5 % and 100 ppm
from the slice's last pass at that gain, linearity 50 ppm. -/
def calBad (idx : Nat) (last : Option Int) (value : Int) : Bool :=
  if idx < 4 then 50000000 < value.natAbs
  else if idx < 8 then 5000 < value.natAbs || (last.map fun g => decide (100 < (value - g).natAbs)).getD false
  else idx == 9 && 50 < value.natAbs

/-- The four entries of a pass that begin at `k`, by gain code. -/
def passFour (vals : Tab Int) (k : Nat) : Tab Int := [0, 1, 2, 3].map fun g => (g, tabGet 0 (k + g) vals)

/-- CALIBRATION_MEASUREMENT_DONE (R129, R130): the eleven measurements of a pass in turn; a pass with every result
inside its limits gives the slice its coefficients, two failing passes in a row retire it. A failed pass, too, is the last
pass against which the next one's gain errors are held (assumption 145). The value is the offset in nV, the gain error,
linearity term or REF_B deviation in ppm that the measurement gives. -/
def execCalibrationMeasurementDone (value : Int) (s : State) : Host.Outcome State Fault Refusal :=
  let n := s.ca.spare
  if 9 ≤ n || !s.ca.started || s.ca.hoActive then .next s
  else
    let k := s.ca.calIdx
    let t := (s.modCa fun c => { c with
        calIdx := if k == 10 then 0 else k + 1, calVals := tabPut 0 k value c.calVals }).modSlice n fun x =>
      { x with passBad := (k != 0 && x.passBad) || calBad k (tabGet none (k - 4) x.lastGains) value }
    if k < 10 then .next t
    else
      let bad := (t.slice n).passBad
      let gains := passFour t.ca.calVals 4
      let u := t.modSlice n fun x =>
        let y := { x with lastGains := gains.map fun (g, v) => (g, some v) }
        if bad then { y with passFails := x.passFails + 1 }
        else { y with
          passFails := 0, calAt := some s.tb.now, gains, offsets := passFour t.ca.calVals 0
          linear := tabGet 0 9 t.ca.calVals, calibrated := true }
      let v := u.refCheck n value
      .next (if bad && 2 ≤ (v.slice n).passFails then v.retire n else v)

/-- The offset in patterns at which a rotation step ends (R127, R135). -/
def rotationStepEnd (mode k : Nat) : Nat :=
  if mode == 0 then [29, 57, 86, 114, 143, 171, 200, 228, 256].getD k 256 else (k + 1) * 32

/-- The overlap of a hand-over in patterns (R131): the longer of 10 ms and N + 1 + 16 result periods of the duty, rounded up
to whole patterns. -/
def State.overlap (s : State) (d : Nat) : Nat :=
  max 1 (((s.dutyN d + 17) * s.dutyD d * 50 + 9999999) / 10000000)

/-- HAND_OVER_PHASE_BEGIN (R131): at Tsw, the end of the present step, less the overlap, the spare needle joins the duty of
the next slice in the cyclic order. -/
def execHandOverPhaseBegin (s : State) : Host.Outcome State Fault Refusal :=
  if 9 ≤ s.ca.spare || s.ca.rotMode == 2 then .next s
  else match s.nextServing s.ca.spare with
    | none => .next s
    | some (_, d) =>
      let off := s.patNo % 256
      let tsw := (s.ns / 10000000 - off + rotationStepEnd s.ca.rotMode (rotationStepAt s.ca.rotMode off)) * 10000000
      .next ((s.runTo (tsw - s.overlap d * 10000000)).modCa fun c => { c with
        hoActive := true, hoDuty := d, hoDeferred := false, hoTsw := tsw, hoOut := [] })

/-- The switch at Tsw (R131, R135): the duty's results come from the incoming slice; the outgoing one is the spare
needle, or in degraded rotation takes D7, whose first N + 1 results then settle, as after a start (assumption 146). -/
def State.switchDuty (s : State) : State :=
  let d := s.ca.hoDuty
  let out := (s.duty d).slice
  let t := (s.modDuty d fun u => { u with slice := s.ca.spare }).modCa fun c =>
    { c with handOvers := c.handOvers + 1, hoActive := false, hoRetry := false, swDuty := d, swFrom := out
             swAt := some c.hoTsw }
  if s.ca.rotMode == 1 then
    (t.modDuty 7 fun u => { u.change (s.dutyN 7 + 1) with slice := out }).modCa fun c => { c with spare := 0xFF }
  else t.modCa fun c => { c with spare := out }

/-- The differences of a hand-over (R131): the incoming slice's results, less the first N + 1, against the outgoing
slice's last results with equal centres, to within one modulator period. -/
def State.handOverPairs (s : State) (incoming : List (Nat × Int)) : List Int :=
  let mine := incoming.drop (s.dutyN s.ca.hoDuty + 1)
  s.ca.hoOut.filterMap fun (t, v) => (mine.find? fun p => (shortDiff p.1 t).natAbs ≤ 50).map fun p => p.2 - v

/-- The mean difference of a hand-over exceeds HandOverLimit, in ppm of full scale (R131); without a pair there is none to
exceed it (assumption 147). -/
def State.handOverOff (s : State) (incoming : List (Nat × Int)) : Bool :=
  let l := s.handOverPairs incoming
  decide (s.cfgGet 0x2390 0 * 8388608 * l.length < l.sum.natAbs * 1000000)

/-- HAND_OVER_SWITCH (R131, R133, R134): at Tsw the mean difference against HandOverLimit. A deferred hand-over does
not switch; the first mismatch keeps the duty and is tried again, the second switches all the same. `incoming` holds the
results that the spare needle has given in the phase, in their order. -/
def execHandOverSwitch (incoming : List (Nat × Int)) (s : State) : Host.Outcome State Fault Refusal :=
  .next (if !s.ca.hoActive then s
    else
      let s0 := s.runTo s.ca.hoTsw
      if s.ca.hoDeferred then s0.modCa fun c => { c with hoActive := false, hoDeferred := false }
      else if !s.handOverOff incoming then s0.switchDuty
      else
        let t := (s0.modCa fun c => { c with mismatches := c.mismatches + 1 }).raiseEvent 0x0303 s.ca.hoDuty
        if s.ca.hoRetry then t.switchDuty else t.modCa fun c => { c with hoActive := false, hoRetry := true })

/-- A commit changes a duty's configuration inside its hand-over phase (R134): the hand-over is deferred. -/
def State.deferHandOver (s : State) (d : Nat) : State :=
  if s.ca.hoActive && s.ca.hoDuty == d && !s.ca.hoDeferred then
    s.modCa fun c => { c with hoDeferred := true, deferrals := c.deferrals + 1 }
  else s

/-- The array at a pattern start: in degraded rotation the D7 slice becomes the spare needle after 8 patterns (R135). -/
def State.rotationPattern (s : State) : State :=
  if s.ca.rotMode == 1 && s.patNo % 32 == 8 && (s.duty 7).slice < 9 then
    let n := (s.duty 7).slice
    (s.modDuty 7 fun u => { u with slice := 0xFF }).modCa fun c => { c with spare := n, calIdx := 0 }
  else s

/-- Nanoseconds since an instant of the present epoch. -/
def State.nsSince (s : State) (t : Stamp) : Nat := s.ns - stampNs t

/-- CalAge of a slice in ms (R154); none before its first complete pass. -/
def State.calAge (s : State) (n : Nat) : Option Nat := (s.slice n).calAt.map fun t => s.nsSince t / 1000000

/-- PrecisionHeld for a pattern (R553). -/
def State.precisionPattern (s : State) : State :=
  let good (d : Nat) : Bool :=
    let n := (s.duty d).slice
    9 ≤ n || ((s.slice n).calibrated && ((s.slice n).calAt.map fun t => decide (s.nsSince t ≤ 3140000000)).getD false)
  let faults := s.fm.active.contains 0x0301 || s.fm.active.contains 0x0507
  let held := s.ca.started && [0, 1, 2, 3, 4, 5, 6, 7].all good && s.ca.rotMode != 2 && !faults
  s.modCa fun c => { c with precisionHeld := held }

/-! ### Fast pairs (R145 to R150) -/

/-- A change to a fast pair: 0 FA, else FB. -/
def State.modPair (s : State) (p : Nat) (f : Pair → Pair) : State :=
  s.modCa fun c => if p == 0 then { c with fa := f c.fa } else { c with fb := f c.fb }

/-- A fast pair. -/
def State.pair (s : State) (p : Nat) : Pair := if p == 0 then s.ca.fa else s.ca.fb

/-- The ring takes samples: its last 4,096 stay (R149). -/
def Pair.record (p : Pair) (samples : List Int) : Pair :=
  let l := p.ring ++ p.corrected samples
  { p with ring := l.drop (l.length - 4096) }

/-- A trigger of an event ring (R149): it freezes an armed ring, once the samples after the trigger have been recorded; on a
frozen one it is lost, with 0x0404. -/
def State.ringTrigger (s : State) (p : Nat) (ring : List Int) : State :=
  if (s.pair p).frozen then (s.modPair p fun x => { x with lost := x.lost + 1 }).raiseEvent 0x0404 (9 + p)
  else (s.modPair p fun x => { x.record ring with
    frozen := true, trigStamp := s.tb.now, trigIdx := s.cfgGet 0x2481 (p + 1) }).raiseEvent 0x0403 (9 + p)

/-- The comparator of a pair over its newest samples (R147): 0 no event, 1 high, 2 low. -/
def State.pairEvent (s : State) (p : Nat) (samples : List Int) : Nat :=
  let hi := ofWord 16 (s.safeGet 0x2480 (2 * p + 1))
  let lo := ofWord 16 (s.safeGet 0x2480 (2 * p + 2))
  let last := samples.drop (samples.length - 16)
  if samples.length < 16 then 0
  else if last.all fun x => decide (hi < x) then 1
  else if last.all fun x => decide (x < lo) then 2
  else 0

/-- FAST_PAIR_EVENT (R147, R336, R351, R149): 16 samples in a row outside the window on one side. The fast gate takes
TRIP for FA and OPEN for FB at once, XTRIP_OUT is asserted, and an enabled event triggers the ring. `samples` are the SARs'
newest codes and `ring` those that the ring takes until it is frozen, each from the even SAR on; both are corrected (R146). -/
def execFastPairEvent (pair : Nat) (samples ring : List Int) (s : State) : Host.Outcome State Fault Refusal :=
  let e := s.pairEvent pair ((s.pair pair).corrected samples)
  if e == 0 || !s.coreUp then .next s
  else
    let t := s.modPair pair fun x => { x with cmp := 4 + e, insideRows := 0, evAt := some s.tb.now }
    let u := if pair == 0 then (t.modSi fun i => { i with sf1 := true }).take .trip
      else (t.modSi fun i => { i with sf2 := true }).take .open
    let v := u.cutOutputs.assertXtripOut
    .next (if bit (s.cfgGet 0x2482 (pair + 1)) (e - 1) then v.ringTrigger pair ring else v)

/-- SAR_STUCK_DETECT (R150): a SAR of a pair repeats one code for 4,096 samples, or no SAR of it does any longer;
0x0405 holds while either pair has one. -/
def execSarStuckDetect (pair : Nat) (stuck : Bool) (s : State) : Host.Outcome State Fault Refusal :=
  let t := s.modPair pair fun x => { x with stuck }
  .next (if stuck then t.raiseCond 0x0405 (9 + pair)
    else if t.ca.fa.stuck || t.ca.fb.stuck then t else t.clearCond 0x0405)

/-- A write of 1 to RingArm (R149): the ring records again. -/
def State.ringArmAct (t : State) (pair : Nat) : Answer := ok (t.modPair pair fun x => { x with frozen := false })

/-- RING_ARM (R149, R153): acts at the next row. -/
def execRingArm (r : Req) (pair : Nat) (s : State) : Host.Outcome State Fault Refusal :=
  .next (s.liveReq r false 0x2481 (3 + pair) [1] operator (.ringArm r pair) fun t _ => t.ringArmAct pair)

/-- RING_SOFTWARE_TRIGGER (R149, R153): acts at the next row. -/
def execRingSoftwareTrigger (r : Req) (pair : Nat) (ring : List Int) (s : State) :
    Host.Outcome State Fault Refusal :=
  .next (s.liveReq r false 0x2481 (3 + pair) [2] operator (.ringSoftwareTrigger r pair ring) fun t _ =>
    ok (t.ringTrigger pair ring))

/-- A write of SoftwareTrigger (R136, R153): the chosen lines fire, at the row start in which the write takes effect. -/
def State.softTrigAct (t : State) (lines : Nat) : Answer :=
  if 16 ≤ lines then no t 0x0A
  else ok (t.modCa fun c => { c with
    softAt := ([0, 1, 2, 3].filter (bit lines)).foldl (fun m k => tabPut none (k + 1) (some t.tb.now) m) c.softAt })

/-- SOFTWARE_TRIGGER (R136, R153): the chosen lines fire at the start of the next row. -/
def execSoftwareTrigger (r : Req) (lines : Nat) (s : State) : Host.Outcome State Fault Refusal :=
  .next (s.liveReq r false 0x2387 0 (leBytes 1 lines) operator (.softwareTrigger r lines) fun t _ => t.softTrigAct lines)

/-- The mean of numbers as a fraction; none of an empty list. -/
def meanOf (l : List Int) : Option Rat := if l.isEmpty then none else some ((l.sum : Rat) / (l.length : Rat))

/-- One pair against its precision duty (R150): 0.5 % of full scale over 10 patterns in a row. A pattern without a valid
result of the duty neither counts nor breaks the run (assumption 148). -/
def Pair.check (p : Pair) (codes : List Int) (gain : Nat) : Pair :=
  let q := { p with sumCode := 0, rows := 0 }
  match meanOf codes with
  | none => q
  | some m =>
    if p.rows == 0 then q
    else
      let d := (p.sumCode : Rat) / (p.rows : Rat) / 32768 - m / (8388608 * (gain : Rat))
      { q with disagree := if (5 : Rat) / 1000 < (if d < 0 then -d else d) then p.disagree + 1 else 0 }

/-- The pair check of a pattern (R150). -/
def State.pairPattern (s : State) : State :=
  let t := s.modCa fun c => { c with
    fa := c.fa.check s.ss.pat.d0 (s.dutyGain 0), fb := c.fb.check s.ss.pat.v (s.dutyGain 2) }
  t.cond 0x0402 (10 ≤ t.ca.fa.disagree || 10 ≤ t.ca.fb.disagree) (if 10 ≤ t.ca.fa.disagree then 9 else 10)

/-- A pair's newest sample, updated once in a microsecond (R143): UPD counts the updates since the one before. -/
def Pair.newest (p : Pair) (code : Int) (stamp : Nat) : Pair :=
  let k := (shortDiff stamp p.stamp / 1000).toNat
  { p with code, upd := (p.upd + k) % 16, stamp := (p.stamp + 1000 * k) % 2 ^ 32 }

/-- The pairs at a row start: newest sample, comparators, row means, and what an armed ring has recorded (R32, R143, R149,
R154, R354). -/
def State.pairRow (s : State) (l : RowLatch) : State :=
  let one (x : Pair) (code mean : Int) (cmp : Nat) (samples : List Int) : Pair :=
    { (if x.frozen then x else x.record samples).newest code s.short with
      cmp := x.cmp / 4 * 4 + cmp % 4, insideRows := if cmp % 4 == 0 then min 100 (x.insideRows + 1) else 0
      sumCode := x.sumCode + mean, rows := x.rows + 1 }
  s.modCa fun c => { c with
    fa := one c.fa l.faCode l.faMean l.faCmp l.faSamples, fb := one c.fb l.fbCode l.fbMean l.fbCmp l.fbSamples }

/-! ### Host reads (R143, R144) -/

/-- Word 1 of a result record (R141). -/
def Result.word1 (r : Result) : Nat :=
  toWord 24 r.value * 256 + r.upd % 16 * 16 + b2n r.settle * 8 + r.remain % 8

/-- Word 2 of a result record (R141). -/
def Result.word2 (r : Result) : Nat :=
  r.slice % 16 * 2 ^ 28 + r.input % 32 * 2 ^ 23 + b2n r.held * 2 ^ 22 + b2n r.capture * 2 ^ 21

/-- The live words of a slot of the converter region: inputs, captures, FA and FB; those of reserved inputs and others
read 0 (R143). -/
def State.slotWords (s : State) (slot : Nat) : Nat × Nat :=
  if slot < 20 then let r := tabGet {} slot s.ca.results; (r.stamp.toNat, r.word1)
  else if 32 ≤ slot && slot < 52 then let r := tabGet {} (slot - 32) s.ca.captures; (r.stamp.toNat, r.word1)
  else if slot == 64 || slot == 65 then
    let p := s.pair (slot - 64)
    (p.stamp, toWord 16 p.code * 65536 + p.upd * 16)
  else (0, 0)

/-- A word returned to the host on MISO (R463). -/
def State.hostWord (s : State) (w : Nat) : State := s.modSy fun y => { y with miso := BitVec.ofNat 32 w }

/-- At a read of the slot of a fast pair its newest sample is the one at that instant (R143). -/
def State.pairNow (s : State) (slot : Nat) (code : Int) (stamp : Nat) : State :=
  if slot == 64 || slot == 65 then s.modPair (slot - 64) fun p => p.newest code stamp else s

/-- CONVERTER_WORD0_READ (R143, R144): the live word 0, and word 1 into the slot's shadow. The read carries a fast
pair's newest corrected sample, used where the slot is one's. -/
def execConverterWord0Read (r : SlotRead) (s : State) : Host.Outcome State Fault Refusal :=
  .next (if !s.coreUp then s
    else
      let t := s.pairNow r.slot r.code r.stamp
      let (w0, w1) := t.slotWords r.slot
      (t.modCa fun c => { c with shadows := tabPut none r.slot (some w1) c.shadows }).hostWord w0)

/-- CONVERTER_WORD1_READ (R143, R144): the shadow, once; else the live word 1. -/
def execConverterWord1Read (r : SlotRead) (s : State) : Host.Outcome State Fault Refusal :=
  .next (if !s.coreUp then s
    else match tabGet none r.slot s.ca.shadows with
      | some w => (s.modCa fun c => { c with shadows := tabPut none r.slot none c.shadows }).hostWord w
      | none =>
        let t := s.pairNow r.slot r.code r.stamp
        t.hostWord (t.slotWords r.slot).2)

end Sys2Proof.Machine
end

