-- ==== Sys2Proof/Machine/Sensing.lean ====
section
/-! DEFINITION. Sensing: string current, voltages and the charge accumulator (R155 to R166). -/

namespace Sys2Proof.Machine

/-! ### The results of a pattern (R157, R159, R161) -/

/-- A result's centre lies before the pattern that runs (R125). -/
def State.late (s : State) (stamp : Nat) : Bool :=
  (s.rows.lastPat.map fun p => decide (s.centreOf stamp < (p * 10000000 : Nat))).getD false

/-- The results of the pattern in which a stamp lies, present or previous, change (R157, R161). -/
def State.modPat (s : State) (stamp : Nat) (f : PatResults → PatResults) : State :=
  s.modSs fun x => if s.late stamp then { x with prev := f x.prev } else { x with pat := f x.pat }

/-! ### Shunt (R155, R156) -/

/-- The shunt model (R156): resistance in nanoohms at a temperature in 0.01 °C. -/
def State.shuntOhm (s : State) (t : Int) : Rat :=
  let d : Rat := ((t : Rat) - 2500) / 100
  let a : Rat := s.cfgInt 0x2580 2 32
  let b : Rat := s.cfgInt 0x2580 3 32
  (s.cfgGet 0x2580 1 : Rat) * (1 + a * d / 1000000000 + b * d * d / 1000000000)

/-- R_sh at the model temperature; 25.00 °C before any (R156). -/
def State.rSh (s : State) : Rat := s.shuntOhm (s.ss.shuntT.getD 2500)

/-- I_P of a D0 value in mA (R155). -/
def State.iP (s : State) (value : Int) : Rat :=
  let mv : Rat := (value : Rat) * 150 / (8388608 * (s.dutyGain 0 : Rat))
  if s.rSh = 0 then 0 else -mv * 1000000000 / s.rSh

/-- The resistance of a PT1000 in 10^-14 ohm at a temperature in 0.01 °C, by the standard's polynomials (PRESUMED,
assumption 14). -/
def pt1000 (c : Int) : Int :=
  let base := 100000000000000000 + 3908300000000 * c - 5775000 * c * c
  if c < 0 then base - 4183 * (c - 10000) * c * c * c / 1000000 else base

/-- The temperature of a PT1000 resistance in 10^-14 ohm: the greatest of a bracket of 2^k steps from `lo`. -/
def ptSearch (r : Int) : Nat → Int → Int
  | 0, lo => lo
  | k + 1, lo => if pt1000 (lo + 2 ^ k) ≤ r then ptSearch r k (lo + 2 ^ k) else ptSearch r k lo

/-- The temperature of an SH_TEMP result in 0.01 °C; none when open or short (R75): 200 µA excitation, 2.5 V full
scale. -/
def shTemp (value : Int) (gain : Nat) : Option Int :=
  let r : Rat := (value : Rat) * 12500 / (8388608 * (gain : Rat))
  if overrange value || r < 50 then none else some (ptSearch ((r * 100000000000000).floor) 17 (-20000))

/-- A temperature arrives for the shunt model (R156): with the self-heat of the previous pattern's mean current;
clamped to -40 to 125 °C with 0x0502; without a value the last one is held with 0x0501. -/
def State.shuntTemp (s : State) (o : Option Int) : State :=
  match o with
  | none =>
    let t := s.modSs fun x => { x with shTempBad := true, shuntT := some (x.shuntT.getD 2500) }
    (t.modSs fun x => { x with rSh := some (ratTrunc t.rSh).toNat }).raiseCond 0x0501
  | some c =>
    let amp := s.ss.prevMean / 1000
    let watt := amp * amp * s.rSh / 1000000000
    let raw := (c : Rat) + (s.cfgGet 0x2580 4 : Rat) * watt / 10
    let v := ratTrunc raw
    let t := s.modSs fun x => { x with
      shTempBad := false, shTempLast := some c, shuntT := some (clampInt (-4000) 12500 v) }
    ((t.modSs fun x => { x with rSh := some (ratTrunc t.rSh).toNat }).clearCond 0x0501).cond 0x0502
      (raw < -4000 || 12500 < raw)

/-! ### Hall channel (R158, R164) -/

/-- The Hall channel is invalid (R158). -/
def Sensing.hallBad (x : Sensing) : Bool :=
  !x.hallSeen || x.hallRefBad || x.hallSupBad || x.hallOver || x.hallLate

/-- The Hall channel's flag and 0x0504, judged from D1's first valid result (R158). -/
def State.judgeHall (s : State) : State :=
  (s.modSs fun x => { x with hallInvalid := x.hallBad, pat := { x.pat with hallBad := x.pat.hallBad || x.hallBad } }).cond 0x0504 (s.ss.hallSeen && s.ss.hallBad)

/-- The I_H that later gap results may need (R164): those of the last 20 ms, more than the longest window, and the newest
of those before. -/
def keepHall (now : Nat) : List (Nat × Rat) → List (Nat × Rat)
  | [] => []
  | (t, i) :: rest => if shortDiff now t ≤ 20000000 then (t, i) :: keepHall now rest else [(t, i)]

/-- A D1 result (R158). -/
def State.d1Result (s : State) (value : Int) (settle : Bool) (stamp : Nat) : State :=
  let isOver := overrange value
  if settle then s
  else if isOver then (s.modSs fun x => { x with hallOver := true }).judgeHall
  else
    let v : Rat := (value : Rat) * 5 / (8388608 * (s.dutyGain 1 : Rat))
    let i := v * (s.cfgInt 0x2581 1 32 : Rat) - (s.cfgInt 0x2581 2 32 : Rat)
    let t := s.modSs fun x => { x with
      hallOver := false, hallLate := false, hallSeen := true, ihHist := keepHall stamp ((stamp, i) :: x.ihHist) }
    (if t.ss.hallBad then t else t.modPat stamp fun p => { p with ih := i :: p.ih }).judgeHall

/-- I_H of the newest valid D1 result centred at or before an instant (R164). -/
def State.ihAt (s : State) (stamp : Nat) : Option Rat :=
  (s.ss.ihHist.find? fun (t, _) => shortDiff t stamp ≤ 0).map (·.2)

/-- HALL_NO_RESULT_TIMEOUT (R158): D1 has given no valid result for 1 ms. -/
def execHallNoResultTimeout (s : State) : Host.Outcome State Fault Refusal :=
  .next ((s.modSs fun x => { x with hallLate := true }).judgeHall)

/-! ### Charge accumulator (R163 to R166) -/

/-- The full stamp of a short stamp near now. -/
def State.fullStamp (s : State) (short : Nat) : Stamp :=
  stampAt s.tb.now.epoch ((s.ns : Int) - shortDiff s.short short).toNat

/-- Charge is added to the totals, the remainders carried (R163). -/
def Sensing.addCharge (x : Sensing) (dq : Rat) : Sensing :=
  let n := x.remNet + dq
  let i := x.remIn + ratMax dq 0
  let o := x.remOut + ratMax (-dq) 0
  { x with
    charge := x.charge + ratTrunc n, remNet := n - (ratTrunc n : Rat)
    chargeIn := x.chargeIn + ratTrunc i, remIn := i - (ratTrunc i : Rat)
    chargeOut := x.chargeOut + ratTrunc o, remOut := o - (ratTrunc o : Rat) }

/-- What a gap result contributes (R164, R165): I_H + b, or the last valid I_P in a blind gap. -/
def State.gapValue (s : State) (bias : Rat) (stamp : Nat) : Rat :=
  match s.ihAt stamp with
  | some i => if s.ss.hallBad then s.ss.lastValidIP else i + bias
  | none => s.ss.lastValidIP

/-- A gap is blind at a result (R165). -/
def State.gapBlind (s : State) (stamp : Nat) : Bool := s.ss.hallBad || (s.ihAt stamp).isNone

/-- The bias b of a gap that begins (R164): the mean over the last 16 results with a partner, 0 without any. -/
def State.biasNow (s : State) : Rat := (ratMean s.ss.biasHist).getD 0

/-- The current that a D0 result gives: I_P, or the gap value (R157, R164). -/
def State.d0Current (s : State) (value : Int) (gap : Bool) (stamp : Nat) : Rat :=
  if gap then s.gapValue (if s.ss.inGap then s.ss.gapBias else s.biasNow) stamp else s.iP value

/-- A gap result's book-keeping (R164, R165, R193). -/
def State.gapResult (s : State) (i dq : Rat) (dt stamp : Nat) : State :=
  let blind := s.gapBlind stamp
  let t := (s.modPat stamp fun p => { p with ip := i :: p.ip, gap := true, blind := p.blind || blind }).modSs fun x =>
    let len := (if x.inGap then x.gapNs else 0) + dt
    { x with
      inGap := true, gapBias := if x.inGap then x.gapBias else s.biasNow
      gapCount := if x.inGap then x.gapCount else x.gapCount + 1
      gapResults := x.gapResults + 1, gapNs := len, longestGap := max x.longestGap len
      gapCharge := x.gapCharge + dq, blindResults := if blind then x.blindResults + 1 else x.blindResults
      blind := x.blind || blind }
  if blind then t.raiseCond 0x0505 else t

/-- A valid D0 result ends a gap and feeds the bias (R164, R165). -/
def State.goodResult (s : State) (value : Int) (i : Rat) (stamp : Nat) : State :=
  let h := if s.ss.hallBad then none else s.ihAt stamp
  (((s.modPat stamp fun p => { p with ip := i :: p.ip, d0 := value :: p.d0 }).modSs fun x => { x with
    inGap := false, blind := false, gapNs := 0, integrating := true, lastValidIP := i
    biasHist := match h with
      | some v => (i - v) :: x.biasHist.take 15
      | none => x.biasHist }).clearCond 0x0505).clearCond 0x0506

/-- A D0 result (R157, R160, R163 to R165): integrated over the stamp difference from the one before; before the
first valid result nothing is integrated and no gap counts. The answer also holds the current and the time. -/
def State.d0Result (s : State) (value : Int) (settle : Bool) (stamp : Nat) : State × Rat × Nat :=
  let isOver := overrange value
  let gap := settle || isOver
  let t := (s.modSs fun x => { x with d0Over := isOver, lastD0 := some stamp }).cond 0x0508 isOver
  if gap && !s.ss.integrating then (t, 0, 0)
  else
    let dt : Nat := match s.ss.lastD0 with
      | some p => if s.ss.integrating then (shortDiff stamp p).toNat else 0
      | none => 0
    let i := s.d0Current value gap stamp
    let dq := i * (dt : Rat) / 1000000
    let u := t.modSs fun x => { x.addCharge dq with chargeStamp := s.fullStamp stamp }
    (if gap then u.gapResult i dq dt stamp else u.goodResult value i stamp, i, dt)

/-- BLIND_GAP_TIMEOUT (R165): a blind gap has lasted 100 ms. -/
def execBlindGapTimeout (s : State) : Host.Outcome State Fault Refusal :=
  .next (if s.ss.inGap && s.ss.blind then s.raiseCond 0x0506 else s)

/-- The content of record 0x0007 (R166, R546). -/
def State.record7 (s : State) : List Int :=
  [s.ss.charge, s.ss.chargeIn, s.ss.chargeOut] ++ stampInts s.ss.chargeStamp

/-- CHARGE_JOURNAL_WRITE (R166). -/
def execChargeJournalWrite (s : State) : Host.Outcome State Fault Refusal := .next (s.journal 0x0007 s.record7)

/-! ### Voltages and the D6 and D7 monitors (R158, R161, R162) -/

/-- A D2, D3 or D4 result joins its pattern (R161). -/
def State.voltResult (s : State) (d : Nat) (value : Int) (settle : Bool) (stamp : Nat) : State :=
  let isOver := overrange value
  let add (l : List Int) : List Int := if settle || isOver then l else value :: l
  s.modPat stamp fun x =>
    if d == 2 then { x with v := add x.v, vOver := x.vOver || isOver }
    else if d == 3 then { x with p := add x.p, pOver := x.pOver || isOver }
    else { x with n := add x.n, nOver := x.nOver || isOver }

/-- Full scale of the high voltage inputs in mV (R120), by variant. -/
def State.hvScale (s : State) : Nat := if s.id.variant == 10 then 1250000 else 1800000

/-- The pattern mean of a voltage in mV (R161); none without a valid result or with one at overrange. -/
def State.voltMean (s : State) (d : Nat) (codes : List Int) (isOver : Bool) : Option Int :=
  if isOver then none
  else (meanOf codes).map fun m => ratTrunc (m * (s.hvScale : Rat) / (8388608 * (s.dutyGain d : Rat)))

/-- One divider's check at the end of a pass of its tap (R162): tap 0 checks D2, 1 D3, 2 D4. The ratio is that of the values
at gain x1; a tap that reads nothing deviates. -/
def State.dividerPass (s : State) (tap gain : Nat) (value : Int) : State :=
  let d := tap + 2
  let r := tabGet {} (s.dutyInput d) s.ca.results
  let main : Rat := (r.value : Rat) / (s.dutyGain d : Rat)
  if r.settle || overrange r.value || ratAbs (main * (s.hvScale : Rat) / 8388608) < 50000 then s
  else
    let stored := Config.dividerRatio s.id.serial tap
    let dev := if value == 0 then 1 + ratAbs stored else ratAbs (main / ((value : Rat) / (gain : Rat)) - stored)
    if ratAbs stored / 1000 < dev then
      let n := tabGet 0 tap s.ss.divRuns + 1
      let t := s.modSs fun x => { x with
        divRuns := tabPut 0 tap n x.divRuns, divGood := tabPut 0 tap 0 x.divGood
        divBad := if 3 ≤ n then setBit x.divBad tap true else x.divBad }
      if 3 ≤ n then (t.modCa fun c => { c with precisionHeld := false }).raiseCond 0x0507 tap else t
    else
      let n := tabGet 0 tap s.ss.divGood + 1
      let t := s.modSs fun x => { x with
        divRuns := tabPut 0 tap 0 x.divRuns, divGood := tabPut 0 tap n x.divGood
        divBad := if 3 ≤ n then setBit x.divBad tap false else x.divBad }
      if t.ss.divBad == 0 then t.clearCond 0x0507 else t

/-- A D6 or D7 result acts on the channel it monitors (R156, R158, R162); `last` says that its dwell ends. -/
def State.monitorResult (s : State) (input gain : Nat) (value : Int) (last : Bool) : State :=
  let volt (fs : Rat) : Rat := (value : Rat) * fs / (8388608 * (gain : Rat))
  match input with
  | 9 => s.shuntTemp (shTemp value gain)
  | 2 => (s.modSs fun x => { x with hallRefBad := volt 5 < 1 / 2 || 5 < volt 5 || overrange value }).judgeHall
  | 10 => (s.modSs fun x => { x with
      hallSupBad := volt 20 < 114 / 10 || 126 / 10 < volt 20 || overrange value }).judgeHall
  | 16 => if last then s.dividerPass 0 gain value else s
  | 17 => if last then (s.dividerPass (if s.ss.divBusN then 2 else 1) gain value).modSs fun x =>
      { x with divBusN := !x.divBusN } else s
  | _ => s

/-! ### Capture at the pattern start (R140, R157) -/

/-- CAPTURE_RESULT (R124, R137, R140): to its capture slot; the D0 capture of the pattern gives CurrentAtPattern, from the gap
value when it is settling or at overrange (R157). -/
def execCaptureResult (duty : Nat) (levels : List (Nat × Int)) (stamp : Nat) (s : State) :
    Host.Outcome State Fault Refusal :=
  if !s.ca.started || (s.duty duty).slice == 0xFF || !(s.duty duty).captureOpen then .next s
  else
    let value := s.filtered duty levels
    let gap := (s.duty duty).settle != 0 || overrange value
    let t := s.storeCapture duty value stamp
    .next (if duty == 0 && s.cfgGet 0x2382 1 == 1 && s.ss.integrating then
      t.modSs fun x => { x with currentAt := some (ratTrunc (s.d0Current value gap (s.captureCentre duty stamp % 2 ^ 32))) }
    else t)

/-! ### Pattern start (R157, R159, R161) -/

/-- The cross-check of a pattern (R159): patterns with gaps or an invalid Hall channel do not count and do not break
a run. -/
def State.crossCheck (s : State) : State :=
  match ratMean s.ss.pat.ip, ratMean s.ss.pat.ih with
  | some p, some h =>
    if s.ss.pat.gap || s.ss.pat.hallBad || s.ss.hallBad then s
    else
      let lim := ratMax (s.cfgGet 0x2582 1 : Rat) ((s.cfgGet 0x2582 2 : Rat) * ratAbs p / 10000)
      if lim < ratAbs (p - h) then
        let n := s.ss.hallFailRun + 1
        let t := s.modSs fun x => { x with hallFailRun := n }
        if s.cfgGet 0x2582 3 ≤ n then (t.modSs fun x => { x with crossFail := true }).raiseCond 0x0503 else t
      else (s.modSs fun x => { x with hallFailRun := 0, crossFail := false }).clearCond 0x0503
  | _, _ => s

/-- The means of the previous pattern are published (R157, R161). -/
def State.publishMeans (s : State) : State :=
  let r := s.ss.prev
  let mean := ratMean r.ip
  s.modSs fun x => { x with
    current := mean.map ratTrunc
    source := if mean.isNone then 3 else if r.blind then 2 else if r.gap then 1 else 0
    hall := (ratMean r.ih).map ratTrunc
    vStr := s.voltMean 2 r.v r.vOver
    busP := s.voltMean 3 r.p r.pOver
    busN := s.voltMean 4 r.n r.nOver
    prevMean := mean.getD x.prevMean }

/-- The values of the pattern just ended are published, and the next pattern's collections begin (R157, R161). -/
def State.sensingPattern (s : State) : State :=
  (s.crossCheck.modSs fun x => { x with prev := x.pat, pat := { hallBad := x.hallBad } }).publishMeans

/-- A result centred in the previous pattern that enters the store after its end joins the published means (R125, R157,
R161). -/
def State.lateMeans (s : State) (stamp : Nat) : State :=
  if s.late stamp then s.publishMeans else s

end Sys2Proof.Machine
end

