-- ==== Sys2Proof/Machine/Insulation.lean ====
section
/-! DEFINITION. Insulation: the insulation monitor and the injection token (R167 to R177). -/

namespace Sys2Proof.Machine

/-- MAIN_POS or MAIN_NEG is commanded (R172). -/
def State.mainClosed (s : State) : Bool := (s.coil 1).cmd || (s.coil 2).cmd

/-- This module's bus (R173). -/
def State.isoBus (s : State) : Nat := s.cfgGet 0x2680 1

/-- A token message of this module (R174). -/
def State.tokenMsg (s : State) (target : Nat) : TokenMsg :=
  { bus := s.isoBus, sender := s.id.nodeId, target, seq := s.im.sequence.toNat, stamp := s.tb.now }

/-- The 40-byte record of a token message (R174): 1 NEED, 2 HOLD, 3 PASS, 4 ACCEPT, 5 RESULT, 6 CLAIM, 7 RELEASE. -/
def tokenBytes (kind : Nat) (m : TokenMsg) : Bytes :=
  [kind, 0] ++ leBytes 2 m.bus ++ leBytes 2 m.sender ++ leBytes 2 m.target ++ leBytes 4 m.seq ++ leBytes 4 m.riso ++
    leBytes 4 m.rp ++ leBytes 4 m.rn ++ leBytes 4 m.ce ++ stampBytes m.stamp

/-- A token message leaves as telemetry of kind 1 (R174, R493); none without a node ID (R516). -/
def State.emitToken (s : State) (kind : Nat) (m : TokenMsg) : State :=
  if s.id.nodeId == 0 then s else s.sendTelemetry ([1, 0] ++ leBytes 2 s.id.nodeId ++ tokenBytes kind m)

/-- Send a token message without results (R174). -/
def State.sendToken (s : State) (kind target : Nat) : State := s.emitToken kind (s.tokenMsg target)

/-- The cycle is void and starts again (R168). -/
def State.voidCycle (s : State) : State := s.modIm fun m => { m with inB := false, cycleVoid := true }

/-- A member holds the token in these states: foreign check, holding, passing (R175, R193). -/
def State.holdsToken (s : State) : Bool := 2 ≤ s.im.tokenState && s.im.tokenState ≤ 4

/-- A message is of this module's shared bus (R173, R174); without a node ID the module takes no part (R516). -/
def State.onBus (s : State) (m : TokenMsg) : Bool := s.isoBus != 0 && s.id.nodeId != 0 && m.bus == s.isoBus && m.sender != s.id.nodeId

/-- The next member in ascending node ID, wrapping, that has sent NEED within 3 s (R175). -/
def State.nextNeed (s : State) : Option Nat :=
  let own := if s.im.passTo == 0 then s.id.nodeId else s.im.passTo
  let ns := (s.im.needs.filter fun n => n.fresh != 0 && n.node != s.id.nodeId).map (·.node)
  let least (l : List Nat) : Option Nat := l.foldl (fun o n => match o with
    | none => some n
    | some m => some (min m n)) none
  match least (ns.filter (own < ·)) with
  | some n => some n
  | none => least ns

/-- The token is offered to the next member that needs it (R175). -/
def State.passToken (s : State) : State :=
  match s.nextNeed with
  | some n => (s.modIm fun m => { m with passTo := n, tokenState := 4 }).sendToken 3 n
  | none => s

/-! ### Cycle (R167 to R172) -/

/-- An insulation conductance as a published resistance (R169): 10 kΩ to 50 MΩ, with the range flags. -/
def rangeOhm (g : Rat) : Nat × Bool × Bool :=
  if g ≤ 0 then (50000000, false, true)
  else
    let r := 1 / g
    if r < 10000 then (10000, true, false)
    else if 50000000 < r then (50000000, false, true)
    else ((ratTrunc r).toNat, false, false)

/-- One limit of R170: raised at or below it, cleared above 1.25 times it for two cycles in a row. The answer holds
the new run count. -/
def State.isoLimit (s : State) (code limit run riso : Nat) : State × Nat :=
  if riso ≤ limit then (s.raiseCond code, 0)
  else if 5 * limit < 4 * riso then ((if 2 ≤ run + 1 then s.clearCond code else s), run + 1)
  else (s, 0)

/-- Both limits of R170 on a cycle's Riso. -/
def State.isoLimits (s : State) (riso : Nat) : State :=
  let (t, p) := s.isoLimit 0x0601 (s.cfgGet 0x2680 2) s.im.prewarnClear riso
  let (u, a) := t.isoLimit 0x0602 (s.cfgGet 0x2680 3) s.im.alarmClear riso
  u.modIm fun m => { m with prewarnClear := p, alarmClear := a }

/-- The solution of a cycle (R167) with ratios a and b; a result that the rule leaves open (b not above a) is free
(assumption 4). The answer holds Riso. -/
def State.isoSolve (s : State) (a b : Rat) : State × Nat :=
  if b ≤ a then
    let t := s.takeFree.takeFree.takeFree
    let v (k : Nat) : Nat := Config.free (s.freeCount + k) % 2 ^ 32
    (t.modIm fun m => { m with riso := some (v 0), rp := some (v 1), rn := some (v 2) }, v 0)
  else
    let gp := (1 + a) / ((b - a) * 2000000)
    let gn := a * (1 + b) / ((b - a) * 2000000)
    let (rp, p0, p1) := rangeOhm gp
    let (rn, n0, n1) := rangeOhm gn
    let (ri, i0, i1) := rangeOhm (gp + gn)
    (s.modIm fun m => { m with
      rp := some rp, rn := some rn, riso := some ri, belowRange := p0 || n0 || i0, aboveRange := p1 || n1 || i1 }, ri)

/-- A result of this module leaves as RESULT while it holds the token of a shared bus (R175), also while it passes it. -/
def State.sendResult (s : State) : State :=
  if (s.im.tokenState == 3 || s.im.tokenState == 4) && s.isoBus != 0 then
    s.emitToken 5 { s.tokenMsg 0xFFFF with
      riso := s.im.riso.getD 0xFFFFFFFF, rp := s.im.rp.getD 0xFFFFFFFF, rn := s.im.rn.getD 0xFFFFFFFF
      ce := s.im.ce.getD 0xFFFFFFFF }
  else s

/-- The PE_SENSE and baseplate earths disagree (R171): the ISO_PE code `pe` read while 10 uA is driven through the
coupling chain is, at D5's gain, more than 1 V, 100 kohm. -/
def State.earthsDisagree (s : State) (pe : Int) : Bool :=
  decide (8388608 * s.dutyGain 5 * 2 < pe.natAbs * 5)

/-- A pole-to-earth ratio; a free value where the lower voltage is 0 (assumption 4). -/
def State.isoRatio (s : State) (vP vN : Int) : Rat × State :=
  if vN == 0 then ((s.freeNat : Rat), s.takeFree) else ((vP : Rat) / (vN : Rat), s)

/-- ISO_STATE_END (R167 to R171): state A gives a and the earth capacitance; state B ends the cycle, whose results are
solved, checked against the earth agreement and the limits, and published; with disagreeing earths they are invalid. -/
def execIsoStateEnd (vP vN : Int) (ce : Nat) (pe : Int) (s : State) : Host.Outcome State Fault Refusal :=
  if !s.im.connected then .next s
  else
    let (q, t) := s.isoRatio vP vN
    if !t.im.inB then .next (t.modIm fun m => { m with inB := true, ratioA := q, ce := some (ce % 2 ^ 32) })
    else
      let bad := s.earthsDisagree pe
      let u := t.modIm fun m => { m with
        inB := false, cycleVoid := false, stamp := s.tb.now, source := s.id.nodeId, busResult := s.mainClosed
        earthBad := bad }
      .next ((if bad then
          (u.modIm fun m => { m with riso := none, rp := none, rn := none, ce := none }).raiseCond 0x0603
        else
          let (v, riso) := (u.clearCond 0x0603).isoSolve t.im.ratioA q
          (v.isoLimits riso).clearCond 0x0604).sendResult)

/-- ISO_STATE_TIMEOUT (R168): a state reaches StateMax without settling. -/
def execIsoStateTimeout (s : State) : Host.Outcome State Fault Refusal :=
  .next (if s.im.connected then s.voidCycle else s)

/-- The module no longer needs the token of a bus (R173, R175): a holder sends RELEASE and passes the token on. -/
def State.releaseToken (s : State) (bus : Nat) : State :=
  if !s.holdsToken || bus == 0 then s.modIm fun m => { m with tokenState := 0 }
  else
    let u := (s.modIm fun m => { m with holder := 0 }).emitToken 7 { s.tokenMsg 0xFFFF with bus := bus }
    if s.im.tokenState == 4 then u else (u.modIm fun m => { m with tokenState := 0 }).passToken

/-- The module joins what is behind its closed contactors (R173, R176): it waits for the token of a shared bus, and checks an
unshared one for a foreign injector. -/
def State.joinBus (s : State) : State :=
  s.modIm fun m => if s.isoBus == 0 then { m with connected := false, tokenState := 2, checking := true }
    else { m with connected := false, tokenState := 1, checking := false }

/-- The monitor at a pattern start (R168, R172, R173, R175): the contactors and V_str against the pattern before void the
cycle; the network connects and leaves as the contactors, the claim, the external monitor, the bus and the token say. -/
def State.isoPattern (s : State) : State :=
  let contacts := b2n (s.coil 1).cmd + 2 * b2n (s.coil 2).cmd + 4 * b2n (s.coil 3).cmd + 8 * b2n (s.coil 4).cmd
  let was := s.im.lastContacts % 4
  let bus := s.im.lastBus
  let step := match s.ss.vStr, s.im.lastVstr with
    | some v, some w => decide (2 * w.natAbs < 100 * (v - w).natAbs)
    | _, _ => false
  let s0 := if contacts != s.im.lastContacts || step then s.voidCycle else s
  let s1 := s0.modIm fun m => { m with lastContacts := contacts, lastVstr := s.ss.vStr, lastBus := s.isoBus }
  if !s.os.gate || !s.ca.started then s1.modIm fun m => { m with connected := false, tokenState := 0, checking := false }
  else if contacts % 4 == 0 then
    let s2 := if was != 0 then s1.releaseToken bus
      else if s.im.tokenState == 4 then s1
      else s1.modIm fun m => { m with tokenState := 0 }
    s2.modIm fun m => { m with connected := true, checking := false }
  else if s.cfgGet 0x2680 7 == 1 then
    s1.modIm fun m => { m with connected := false, tokenState := 6, checking := false, riso := none, rp := none, rn := none, ce := none }
  else if was != 0 && s.isoBus != bus then (s1.releaseToken bus).voidCycle.joinBus
  else if was == 0 || s.im.tokenState == 6 || s.im.tokenState == 0 && !s.im.connected then s1.joinBus
  else s1

/-! ### Shared results of a pair (R172) -/

/-- Flags 0x2600.08 (R193). -/
def Insulation.flags (m : Insulation) : Nat :=
  b2n m.belowRange + 2 * b2n m.aboveRange + 4 * b2n m.earthBad + 8 * b2n m.cycleVoid + 16 * b2n m.busResult

/-- What the claim holder shares of its results (R172). -/
def State.isoShare (s : State) : IsoShare :=
  { riso := s.im.riso, rp := s.im.rp, rn := s.im.rn, ce := s.im.ce, stamp := s.im.stamp, source := s.im.source, flags := s.im.flags }

/-- The twin that does not hold the claim takes the holder's results from the agreed input set (R172); each new cycle's
Riso meets the limits here too (R170). -/
def State.takeIso (s : State) (x : IsoShare) : State :=
  let t := s.modIm fun m => { m with
    riso := x.riso, rp := x.rp, rn := x.rn, ce := x.ce, stamp := x.stamp, source := x.source
    belowRange := bit x.flags 0, aboveRange := bit x.flags 1, earthBad := bit x.flags 2, cycleVoid := bit x.flags 3
    busResult := bit x.flags 4 }
  if x.stamp == s.im.stamp then t
  else match x.riso with
    | some r => t.isoLimits r
    | none => t

/-! ### Token (R173 to R177) -/

/-- TOKEN_PERIODIC_SEND (R175): NEED while waiting, HOLD while holding; what was heard grows a second older. -/
def execTokenPeriodicSend (s : State) : Host.Outcome State Fault Refusal :=
  let t := s.modIm fun m => { m with needs := m.needs.map fun n => { n with fresh := n.fresh - 1 } }
  .next (if s.isoBus == 0 then t
    else if s.im.tokenState == 1 || s.im.tokenState == 5 then t.sendToken 1 0xFFFF
    else if s.holdsToken then t.sendToken 2 0xFFFF
    else t)

/-- A token message's sequence is the last heard (R193). -/
def State.heardSeq (s : State) (m : TokenMsg) : State := s.modIm fun x => { x with sequence := BitVec.ofNat 32 m.seq }

/-- A NEED is remembered for 3 s (R175). -/
def State.tokenNeed (s : State) (m : TokenMsg) : State :=
  if !s.onBus m then s
  else s.modIm fun x => { x with
    needs := { node := m.sender, fresh := 3 } :: x.needs.filter fun n => n.node != m.sender }

/-- A HOLD (R175): the sender holds; of two holders the higher node ID disconnects and stops holding; it ends a claim
of a higher node ID. -/
def State.tokenHold (s : State) (m : TokenMsg) : State :=
  if !s.onBus m then s
  else if s.holdsToken then
    if m.sender < s.id.nodeId then
      (((s.heardSeq m).modIm fun x => { x with
        connected := false, tokenState := if s.mainClosed then 1 else 0, holder := m.sender, checking := false }).voidCycle)
    else s
  else (s.heardSeq m).modIm fun x => { x with
    holder := m.sender, claimLost := x.claimLost || (x.tokenState == 5 && m.sender < s.id.nodeId) }

/-- A PASS (R175): the target that waits for the token accepts it and runs the foreign-injection check. -/
def State.tokenPass (s : State) (m : TokenMsg) : State :=
  if !s.onBus m then s
  else
    let t := s.heardSeq m
    if m.target == s.id.nodeId && (s.im.tokenState == 1 || s.im.tokenState == 5) then
      (t.modIm fun x => { x with
        tokenState := 2, holder := s.id.nodeId, sequence := x.sequence + 1, checking := true }).sendToken 4 m.sender
    else t

/-- An ACCEPT for this passer (R175): the network disconnects, the sender holds. -/
def State.tokenAccept (s : State) (m : TokenMsg) : State :=
  if !s.onBus m then s
  else
    let t := (s.heardSeq m).modIm fun x => { x with holder := m.sender }
    if s.im.tokenState == 4 && m.target == s.id.nodeId && m.sender == s.im.passTo then
      (t.modIm fun x => { x with
        connected := x.connected && !s.mainClosed, tokenState := if s.mainClosed then 1 else 0, passTo := 0 }).voidCycle
    else t

/-- A RESULT (R177): a connected member that does not hold the token reports it as its own. -/
def State.tokenResult (s : State) (m : TokenMsg) : State :=
  if !s.onBus m then s
  else
    let t := s.heardSeq m
    if s.mainClosed && !s.holdsToken && s.im.tokenState != 6 then
      let val (n : Nat) : Option Nat := if n == 0xFFFFFFFF then none else some n
      let u := (t.modIm fun x => { x with
        riso := val m.riso, rp := val m.rp, rn := val m.rn, ce := val m.ce, stamp := m.stamp, source := m.sender
        busResult := true, holder := m.sender }).clearCond 0x0604
      match val m.riso with
      | some r => u.isoLimits r
      | none => u
    else t

/-- A CLAIM (R175): one of a lower node ID ends this module's claim. -/
def State.tokenClaim (s : State) (m : TokenMsg) : State :=
  if !s.onBus m then s
  else (s.heardSeq m).modIm fun x => { x with
    claimLost := x.claimLost || (x.tokenState == 5 && m.sender < s.id.nodeId) }

/-- A RELEASE (R175): the sender neither holds nor needs the token. -/
def State.tokenRelease (s : State) (m : TokenMsg) : State :=
  if !s.onBus m then s
  else (s.heardSeq m).modIm fun x => { x with
    holder := if x.holder == m.sender then 0 else x.holder, needs := x.needs.filter fun n => n.node != m.sender }

/-- TOKEN_NEED (R175). -/
def execTokenNeed (m : TokenMsg) (s : State) : Host.Outcome State Fault Refusal := .next (s.tokenNeed m)

/-- TOKEN_HOLD (R175). -/
def execTokenHold (m : TokenMsg) (s : State) : Host.Outcome State Fault Refusal := .next (s.tokenHold m)

/-- TOKEN_PASS (R175). -/
def execTokenPass (m : TokenMsg) (s : State) : Host.Outcome State Fault Refusal := .next (s.tokenPass m)

/-- TOKEN_ACCEPT (R175). -/
def execTokenAccept (m : TokenMsg) (s : State) : Host.Outcome State Fault Refusal := .next (s.tokenAccept m)

/-- TOKEN_RESULT (R177). -/
def execTokenResult (m : TokenMsg) (s : State) : Host.Outcome State Fault Refusal := .next (s.tokenResult m)

/-- TOKEN_CLAIM (R175). -/
def execTokenClaim (m : TokenMsg) (s : State) : Host.Outcome State Fault Refusal := .next (s.tokenClaim m)

/-- TOKEN_RELEASE (R175). -/
def execTokenRelease (m : TokenMsg) (s : State) : Host.Outcome State Fault Refusal := .next (s.tokenRelease m)

/-- A received token message by its type (R174, R494). -/
def State.tokenReceived (s : State) (kind : Nat) (m : TokenMsg) : State :=
  match kind with
  | 1 => s.tokenNeed m
  | 2 => s.tokenHold m
  | 3 => s.tokenPass m
  | 4 => s.tokenAccept m
  | 5 => s.tokenResult m
  | 6 => s.tokenClaim m
  | 7 => s.tokenRelease m
  | _ => s

/-- TOKEN_ROTATE_EXPIRY (R175): after TokenRotate the holder passes to the next member that needs the token; 0 never
passes (R192). -/
def execTokenRotateExpiry (s : State) : Host.Outcome State Fault Refusal :=
  .next (if s.im.tokenState == 3 && s.cfgGet 0x2680 5 != 0 then s.passToken else s)

/-- TOKEN_ACCEPT_TIMEOUT (R175): with no ACCEPT within 1 s the passer keeps the token; one that no longer needs it lets
it lapse. -/
def execTokenAcceptTimeout (s : State) : Host.Outcome State Fault Refusal :=
  .next (if s.im.tokenState == 4 then s.modIm fun x => if s.mainClosed then { x with tokenState := 3 }
      else { x with tokenState := 0, holder := 0, passTo := 0 }
    else s)

/-- TOKEN_HOLD_SILENCE (R175): no HOLD for 3 s and the node's delay. -/
def execTokenHoldSilence (s : State) : Host.Outcome State Fault Refusal :=
  .next (if s.im.tokenState == 1 && s.isoBus != 0 then
    (s.modIm fun x => { x with tokenState := 5, claimLost := false }).sendToken 6 0xFFFF
  else s)

/-- TOKEN_CLAIM_WINDOW_END (R175): with no lower claim the token is taken, with 0x0607, and checked. -/
def execTokenClaimWindowEnd (s : State) : Host.Outcome State Fault Refusal :=
  .next (if s.im.tokenState != 5 then s
    else if s.im.claimLost then s.modIm fun x => { x with tokenState := 1, claimLost := false }
    else (s.modIm fun x => { x with
      tokenState := 2, holder := s.id.nodeId, sequence := x.sequence + 1, checking := true }).raiseEvent 0x0607)

/-- FOREIGN_INJECTION_CHECK_END (R176): V_P has moved by more than 2 % of V_str while V_str was steady within 0.2 %:
another injector, 0x0605; else the module injects. The operands are the movements in mV. -/
def execForeignInjectionCheckEnd (vpMove vstrMove : Nat) (s : State) : Host.Outcome State Fault Refusal :=
  .next (if s.im.tokenState != 2 || !s.im.checking then s
    else
      let v := (s.ss.vStr.getD 0).natAbs
      let t := s.modIm fun x => { x with checking := false }
      if 2 * v < 100 * vpMove && 1000 * vstrMove ≤ 2 * v then t.raiseCond 0x0605
      else (t.modIm fun x => { x with
        connected := s.os.gate, inB := false, tokenState := if s.isoBus == 0 then 0 else 3 }).clearCond 0x0605)

/-- FOREIGN_INJECTION_RETRY (R176): the check repeats. -/
def execForeignInjectionRetry (s : State) : Host.Outcome State Fault Refusal :=
  .next (if s.im.tokenState == 2 then s.modIm fun x => { x with checking := true } else s)

/-- TOKEN_STARVE_TIMEOUT (R177): a connected member has had no result of its bus for TokenStarveTime. -/
def execTokenStarveTimeout (s : State) : Host.Outcome State Fault Refusal :=
  .next (if s.mainClosed && s.isoBus != 0 then s.raiseCond 0x0604 else s)

end Sys2Proof.Machine
end

