-- ==== Sys2Proof/Machine/Contactor.lean ====
section
/-! DEFINITION. Contactor: the precharge and contactor supervisor, the resistor's energy and the weld tests (R178 to
R191), and the results that the array delivers (R125). -/

namespace Sys2Proof.Machine

/-! ### The values that the supervisor acts on (R178) -/

/-- Means of the agreed rows of the previous pattern in lockstep, by which both units' supervisors act alike (R178, R377,
assumption 101); else this unit's own. -/
def State.agreedMeans (s : State) : Option (Option Int × Option Int × Option Int × Option Int) :=
  if s.ty.state == .member then s.ty.agMeans else none

/-- The mean current (R157, R178). -/
def State.supI (s : State) : Option Int := (s.agreedMeans.map fun m => m.1).getD s.ss.current

/-- V_str (R161, R178). -/
def State.supV (s : State) : Option Int := (s.agreedMeans.map fun m => m.2.1).getD s.ss.vStr

/-- BUS_P (R161, R178). -/
def State.supP (s : State) : Option Int := (s.agreedMeans.map fun m => m.2.2.1).getD s.ss.busP

/-- BUS_N (R161, R178). -/
def State.supN (s : State) : Option Int := (s.agreedMeans.map fun m => m.2.2.2).getD s.ss.busN

/-- V_bus (R161, R178). -/
def State.supBus (s : State) : Option Int :=
  match s.supP, s.supN with
  | some p, some n => some (p - n)
  | _, _ => none

/-! ### Sequences (R179, R186) -/

/-- A measured value, or a free one where the rule uses it and it reads no value (assumption 4). -/
def State.orFree (s : State) (o : Option Int) : Int × State :=
  match o with
  | some v => (v, s)
  | none => (ofWord 32 s.freeNat, s.takeFree)

/-- A sequence is aborted (R186): PRECHG and MAIN_NEG off in one commit, with no stagger. A MAIN_POS pull-in that
waits or runs goes too. From step 3 on this commands the main contactors off: the opening ends with its test (R190), and a
precharge with its energy in the journal (R189). -/
def State.abortSequence (s : State) : State :=
  let t := [1, 2, 3].foldl State.coilOff s
  if 3 ≤ s.pc.seq && s.pc.seq ≤ 6 then
    let u := (t.beginOpening false true).modDe fun d => { d with armed := false }
    if s.pc.seq == 3 then u.journalEnergy else u
  else
    (t.modPc fun c => { c with seq := 0, timing := false, preDone := false, slowRun := 0, fastRun := 0, resRun := 0 }).modDe
      fun d => { d with connect := 0, armed := false }

/-- The connect sequence is refused, with a reason in ConnectRefusal (R179, R321, R330). -/
def State.refuseConnect (s : State) (reason : Nat) : State :=
  (s.modPc fun c => { c with seq := 0 }).modDe fun d => { d with refusal := reason, connect := 0, armed := false }

/-- The first unmet condition of a connect command (R179), 0 when all hold. A unit whose closing R98 or a bind-off
refuses reports not READY. -/
def State.connectRefusal (s : State) : Nat :=
  if s.pm.state != .ready || s.pm.closingRefused then 1
  else if 3 ≤ s.acting.code then 2
  else if !s.setsConfirmed then 3
  else if !s.provenOpen then 4
  else 0

/-- A weld is found at a connect or an opening (R190, R191): `bits` of weld, and the latch fault, which the test's
failing instant raises (assumption 15). -/
def State.weldFound (s : State) (code bits : Nat) : State :=
  (s.modPc fun c => { c with weld := c.weld ||| bits }).raiseEvent code

/-- Step 1 of the connect sequence (R179, R190): V_bus0 and ΔV0 are recorded, and the positive path is tested where
the bus is below 60 V. -/
def State.connectBegin (s : State) : State :=
  let k := s.connectRefusal
  if k != 0 then s.refuseConnect k
  else
    let (vb, s1) := s.orFree s.supBus
    let (vs, s2) := s1.orFree s.supV
    let (bp, s3) := s2.orFree s.supP
    let possible := decide (vb.natAbs < 60000)
    let t := ((s3.modPc fun c => { c with
      seq := 1, vBus0 := vb, dv0 := (vs - vb).natAbs, maxDvBus := 0, maxWeldI := 0, preMs := 0, timing := false
      preDone := false, closed3 := false, slowRun := 0, fastRun := 0, resRun := 0, step5 := 0, contactRun := 0, curDue := false
      weldBase := none
      estimate := none, wait := 0, skipped := if possible then 0 else 1 }).modDe fun d =>
      { d with connect := 1, armed := false, refusal := 0 }).modPm fun p => { p with safeUntilConnect := false }
    if possible && decide (9 * vs ≤ 10 * bp) then (t.weldFound 0x0707 2).abortSequence else t

/-! ### Resistor energy (R187, R188) -/

/-- E_pred in J (R188): half BusCapMax times (ΔV0² − PrechargeDoneV²). -/
def State.energyPred (s : State) : Rat :=
  let c : Rat := s.cfgGet 0x2780 3
  let v : Rat := s.pc.dv0
  let d : Rat := s.cfgGet 0x2780 4
  c * (v * v - d * d) / 2000000000000

/-- Energies are kept to 2^-40 J (assumption 13). -/
def keepJoule (e : Rat) : Rat := ((e * 1099511627776).floor : Rat) / 1099511627776

/-- The time constant ResistorTau in patterns; one pattern where it is 0. -/
def State.tauPatterns (s : State) : Rat := ratMax 1 ((s.cfgGet 0x2780 7 : Rat) * 100)

/-- E after one pattern's decay (R187). -/
def State.decayed (s : State) (e : Rat) : Rat := keepJoule (e * expNeg (1 / s.tauPatterns))

/-- A search by powers of two, greatest first: the greatest number of patterns whose decay leaves more than the
ratio. -/
def waitSearch (tau ratio : Rat) : Nat → Nat → Nat
  | 0, n => n
  | k + 1, n =>
    let m := n + 2 ^ k
    if ratio < expNeg ((m : Rat) / tau) then waitSearch tau ratio k m else waitSearch tau ratio k n

/-- The time in ms until E + E_pred is at most ResistorEnergyMax (R188); all ones where it never is. -/
def State.energyWait (s : State) : Nat :=
  let room := (s.cfgGet 0x2780 6 : Rat) - s.energyPred
  if s.pc.energy ≤ room then 0
  else if room ≤ 0 then 0xFFFFFFFF
  else min 0xFFFFFFFF ((waitSearch s.tauPatterns (room / s.pc.energy) 28 0 + 1) * 10)

/-- Step 2 (R179, R188): refused with 0x0704 where the resistor could not take the coming precharge; else PRECHG is
asked to pull in. -/
def State.connectStep2 (s : State) : State :=
  if (s.cfgGet 0x2780 6 : Rat) < s.pc.energy + s.energyPred then
    let w := s.energyWait
    ((s.refuseConnect 5).modPc fun c => { c with wait := w }).raiseEvent 0x0704
  else
    let possible := decide (60000 ≤ s.pc.dv0)
    (s.modPc fun c => { c with seq := 2, skipped := setBit c.skipped 1 (!possible) }).requestPullIn 3

/-- Step 3 (R179): MAIN_NEG is asked to pull in. -/
def State.connectStep3 (s : State) : State :=
  (s.modPc fun c => { c with seq := 3, closed3 := false, timing := false, preMs := 0, preDone := false }).requestPullIn 2

/-- Step 4 (R179, R189): the precharge is done, its energy goes to the journal, and MAIN_POS is asked to pull in. -/
def State.connectStep4 (s : State) : State :=
  ((s.modPc fun c => { c with seq := 4, preDone := true, timing := false }).journalEnergy).requestPullIn 1

/-- A pull-in of the sequence ends (R179): PRECHG's without a weld test to run leads to step 3; MAIN_POS's ends with
PRECHG off, step 5. -/
def State.pullInEnded (s : State) (n : Nat) : State :=
  if n == 3 && s.pc.seq == 2 && bit s.pc.skipped 1 then s.connectStep3
  else if n == 1 && s.pc.seq == 4 then (s.coilOff 3).modPc fun c => { c with seq := 5, step5 := 0 }
  else s

/-- WELD_TEST_WINDOW_END (R190): 150 ms after the PRECHG pull-in start the MAIN_NEG test is judged. -/
def execWeldTestWindowEnd (s : State) : Host.Outcome State Fault Refusal :=
  .next (if s.pc.seq != 2 || bit s.pc.skipped 1 || !(s.coil 3).cmd then s
    else if (s.cfgGet 0x2780 11 : Int) ≤ s.pc.maxWeldI || 20000 ≤ s.pc.maxDvBus then (s.weldFound 0x0706 1).abortSequence
    else s.connectStep3)

/-- 0x0701 (R183) is judged with the pattern that runs now, the last that may begin within 150 ms. -/
def State.currentDue (s : State) : State :=
  if 60000 ≤ s.pc.dv0 && !s.pc.timing && !s.pc.preDone then s.modPc fun c => { c with curDue := true } else s

/-- MAIN_NEG_CLOSURE_TIMEOUT (R179, R183): 150 ms after the MAIN_NEG pull-in, |BUS_N| has not come within
ContactVoltageLimit (0x070A), or no precharge current has begun yet (0x0701, at the end of the running pattern). -/
def execMainNegClosureTimeout (s : State) : Host.Outcome State Fault Refusal :=
  .next (if s.pc.seq != 3 then s
    else if !s.pc.closed3 then (s.currentDue.raiseCond 0x070A).abortSequence
    else s.currentDue)

/-- PRECHARGE_TIME_LIMIT (R184): the precharge time has run to its limit and the precharge is not done. -/
def execPrechargeTimeLimit (s : State) : Host.Outcome State Fault Refusal :=
  .next (if s.pc.seq == 3 && !s.pc.preDone && s.pc.timing then (s.raiseCond 0x0702).abortSequence else s)

/-! ### Supervision at pattern starts (R182 to R187, R190) -/

/-- |V_str − V_bus| in mV (R183). -/
def State.deltaV (s : State) : Option Int :=
  match s.supV, s.supBus with
  | some v, some b => some (v - b).natAbs
  | _, _ => none

/-- The magnitude of the pattern's mean current in mA. -/
def State.meanAbs (s : State) : Int := (s.supI.getD 0).natAbs

/-- The magnitude of a voltage in mV is within ContactVoltageLimit. -/
def State.withinContact (s : State) (o : Option Int) : Bool :=
  (o.map fun v => decide (v.natAbs ≤ s.cfgGet 0x2780 10)).getD false

/-- The voltage across MAIN_POS (R161). -/
def State.acrossPos (s : State) : Option Int :=
  match s.supV, s.supP with
  | some v, some p => some (v - p)
  | _, _ => none

/-- e^(−t/τ) for t in ms, τ in mΩ × µF = 10^-6 ms; 0 for a time constant of 0. -/
def curve (ms ohmFarad : Nat) : Rat := if ohmFarad == 0 then 0 else expNeg ((ms : Rat) * 1000000 / (ohmFarad : Rat))

/-- One pattern of the precharge against its curve (R183): above the upper bound, below the lower bound. -/
def State.curveCheck (s : State) (dv : Int) : Bool × Bool :=
  let dv0 : Rat := s.pc.dv0
  let m := dv0 * (s.cfgGet 0x2780 5 : Rat) / 1000 + 5000
  let r := s.cfgGet 0x2780 1
  let lower := dv0 * curve s.pc.preMs (r * s.cfgGet 0x2780 2) - m
  let upper := dv0 * curve s.pc.preMs (r * s.cfgGet 0x2780 3) + m
  (decide (upper < (dv : Rat)), decide ((dv : Rat) < lower))

/-- The resistance estimate of a pattern (R185) in mΩ, and whether it is more than 20 % off. -/
def State.resCheck (s : State) (dv : Int) : Option (Nat × Bool) :=
  let i := s.meanAbs
  if i < 1000 then none
  else
    let e : Rat := (dv : Rat) * 1000 / (i : Rat)
    let r : Rat := s.cfgGet 0x2780 1
    some ((ratTrunc e).toNat, decide (r < 5 * ratAbs (e - r)))

/-- A pattern's mean |I| exceeds 10 % of ΔV0 / PrechargeR (R183). -/
def State.prechargeCurrent (s : State) : Bool :=
  decide ((s.pc.dv0 : Rat) * 100 < (s.meanAbs : Rat) * (s.cfgGet 0x2780 1 : Rat))

/-- The precharge time begins in the first pattern with the current of a precharge (R183). -/
def State.prechargeT0 (s : State) : State :=
  if s.prechargeCurrent then s.modPc fun c => { c with timing := true, preMs := 0, slowRun := 0, fastRun := 0 } else s

/-- The resistance estimate of a pattern of step 3 (R185): three in a row more than 20 % off raise 0x0705. -/
def State.resPattern (s : State) : State :=
  match s.deltaV.bind s.resCheck with
  | none => s.modPc fun c => { c with resRun := 0 }
  | some (v, bad) =>
    let t := s.modPc fun c => { c with estimate := some v, resRun := if bad then c.resRun + 1 else 0 }
    if 3 ≤ t.pc.resRun then (t.raiseCond 0x0705).abortSequence else t

/-- A pattern of the running precharge (R183). -/
def State.prechargePattern (s : State) : State :=
  let s0 := s.modPc fun c => { c with preMs := c.preMs + 10 }
  match s.deltaV with
  | none => s0
  | some dv =>
    let (slow, fast) := s0.curveCheck dv
    let t := s0.modPc fun c => { c with
      slowRun := if slow then c.slowRun + 1 else 0, fastRun := if fast then c.fastRun + 1 else 0 }
    if 2 ≤ t.pc.slowRun then (t.raiseCond 0x0702).abortSequence
    else if 2 ≤ t.pc.fastRun then (t.raiseCond 0x0703).abortSequence
    else t

/-- Step 3 at a pattern start (R179, R183 to R185): the closure of MAIN_NEG, the precharge's time, bounds and resistance, and
its end in the first pattern within PrechargeDoneV. -/
def State.step3Pattern (s : State) : State :=
  let t := if (s.coil 2).cmd && s.withinContact s.supN then s.modPc fun c => { c with closed3 := true } else s
  if !(s.coil 2).cmd then t
  else
    let u := (if t.pc.timing then t.prechargePattern else t.prechargeT0)
    let w := if u.pc.seq == 3 then u.resPattern else u
    let within := (s.deltaV.map fun v => decide (v ≤ (s.cfgGet 0x2780 4 : Int))).getD false ||
      decide (s.pc.dv0 ≤ (s.cfgGet 0x2780 4 : Int))
    if w.pc.seq == 3 && within then
      let v := w.modPc fun c => { c with preDone := true, timing := false }
      if v.pc.closed3 then v.connectStep4 else v
    else if w.pc.seq == 3 && w.pc.preDone && w.pc.closed3 then w.connectStep4
    else w

/-- The pattern that ran 150 ms after the MAIN_NEG pull-in has ended (R183): without the current of a precharge in it 0x0701
is raised, and a precharge that goes on is aborted. -/
def State.currentPattern (s : State) : State :=
  if !s.pc.curDue then s
  else
    let t := s.modPc fun c => { c with curDue := false }
    if s.prechargeCurrent || s.pc.timing then t
    else if s.pc.seq == 3 then (t.raiseCond 0x0701).abortSequence
    else t.raiseCond 0x0701

/-- Step 2 at a pattern start (R190): the largest current, and the largest bus change from the first pattern on, of the
patterns from 100 ms to 150 ms after the PRECHG pull-in start. -/
def State.step2Pattern (s : State) : State :=
  match s.pm.lastPullIn with
  | none => s
  | some t =>
    let ago := s.ns - stampNs t
    if (s.coil 3).cmd && 110000000 ≤ ago && ago ≤ 150000000 then
      s.modPc fun c =>
        let base := c.weldBase.or s.supBus
        { c with
          weldBase := base, maxWeldI := max c.maxWeldI s.meanAbs
          maxDvBus := match s.supBus, base with
            | some v, some b => max c.maxDvBus ((v - b).natAbs : Int)
            | _, _ => c.maxDvBus }
    else s

/-- A check of step 5 has failed: 0x0709, and the sequence stays in step 5 (R179). -/
def State.step5Fails (s : State) : State := (s.modPc fun c => { c with step5 := 4 }).raiseCond 0x0709 1

/-- Step 5 at a pattern start (R179): three patterns within ContactVoltageLimit across MAIN_POS connect the string; one
beyond it fails the step. A pattern without a value is not counted. -/
def State.step5Pattern (s : State) : State :=
  match s.acrossPos with
  | none => s
  | some v =>
    if s.pc.step5 == 4 || !s.withinContact (some v) then s.step5Fails
    else if s.pc.step5 == 2 then
      (s.modPc fun c => { c with seq := 6, step5 := 3, contactRun := 0 }).modDe fun d =>
        { d with connect := if d.connect == 1 then 2 else d.connect }
    else s.modPc fun c => { c with step5 := c.step5 + 1 }

/-- Step 6 at a pattern start (R182): three patterns in a row beyond ContactVoltageLimit across either contactor raise
0x0709. -/
def State.step6Pattern (s : State) : State :=
  let bad (o : Option Int) : Bool := (o.map fun v => decide (s.cfgGet 0x2780 10 < v.natAbs)).getD false
  let n := if bad s.acrossPos || bad s.supN then s.pc.contactRun + 1 else 0
  let t := s.modPc fun c => { c with contactRun := n }
  t.cond 0x0709 (3 ≤ n) (if bad s.acrossPos then 1 else 2)

/-- Faults of a past sequence whose detecting condition has ended (R551): with the string open and no weld, the
precharge and contactor conditions no longer hold. -/
def State.sequenceFaultsEnd (s : State) : State :=
  [0x0701, 0x0702, 0x0703, 0x0705, 0x0709, 0x070A, 0x070C].foldl State.clearCond s

/-- The supervisor at a pattern start (R179, R182, R183, R187); from READY on the resistor's energy decays (R189). -/
def State.contactorPattern (s : State) : State :=
  let due := s.pc.curDue
  let s0 := (if s.wasReady || s.pm.state == .bindOff then s.modPc fun c => { c with energy := s.decayed c.energy }
    else s).currentPattern
  match s0.pc.seq with
  | 0 => if due then s0 else s0.sequenceFaultsEnd
  | 1 => s0.connectStep2
  | 2 => s0.step2Pattern
  | 3 => s0.step3Pattern
  | 5 => s0.step5Pattern
  | 6 => s0.step6Pattern
  | _ => s0

/-! ### Openings (R181, R190) -/

/-- A sequenced opening at its T0 (R181): MAIN_NEG off, and PRECHG if on; with it a precharge ends (R189). -/
def State.openSequenced (s : State) : State :=
  let t := ((s.coilOff 2).coilOff 3).beginOpening true false
  if s.pc.seq == 3 then t.journalEnergy else t

/-- MAIN_POS_OPEN_STAGGER (R181, R190): MAIN_POS off; the current at this instant decides the test of both. -/
def execMainPosOpenStagger (s : State) : Host.Outcome State Fault Refusal :=
  .next (if s.pc.seq == 7 && s.pc.sequenced && !s.pc.opening2 then
    let big := decide ((s.cfgGet 0x2780 11 : Rat) ≤ s.latchedAbs)
    (s.coilOff 1).modPc fun c => { c with opening2 := true, openBothI := big, skipped := setBit c.skipped 3 (!big) }
  else s)

/-- OPENING_WELD_TEST (R190, R191): MAIN_NEG's test while MAIN_POS is on, then the test of both, which ends the
opening; a weld there trips the breaker through safety function 11. -/
def execOpeningWeldTest (s : State) : Host.Outcome State Fault Refusal :=
  let big := decide ((s.cfgGet 0x2780 11 : Rat) ≤ s.latchedAbs)
  .next (if s.pc.seq != 7 then s
    else if !s.pc.opening2 then if s.pc.openI && big then s.weldFound 0x0706 1 else s
    else
      let t := if s.pc.openBothI && big then
          (s.weldFound 0x0708 3).modSi fun i => { i with sf11 := true }
        else s
      (t.modPc fun c => { c with seq := 0, opening2 := false, sequenced := false }).modDe fun d =>
        { d with connect := if d.connect == 6 then 6 else 0, waitRows := 0, lowRows := 0 })

/-- A write of AuxCoilCommand (R180): 1 asks for a pull-in of AUX_COIL, 0 drops it. -/
def State.auxCoilAct (t : State) (value : Nat) : Answer :=
  if 1 < value then no t 0x0A
  else ok ((if value == 1 then t.requestPullIn 4 else t.coilOff 4).cfgPut 0x2781 0 value)

/-- AUX_COIL_COMMAND (R180, R192): acts at the next row. -/
def execAuxCoilCommand (r : Req) (value : Nat) (s : State) : Host.Outcome State Fault Refusal :=
  .next (s.liveReq r false 0x2781 0 (leBytes 1 value) operator (.auxCoilCommand r value) fun t _ => t.auxCoilAct value)

/-! ### Heat of the resistor (R187) -/

/-- The heat that a D0 result adds to the resistor (R187, R188): I² × PrechargeR × Δt; at ResistorEnergyMax the
precharge is aborted with 0x070C. -/
def State.prechargeHeat (s : State) (i : Rat) (dt : Nat) : State :=
  if s.pc.seq == 3 then
    let a := i / 1000
    let e := keepJoule (s.pc.energy + a * a * (s.cfgGet 0x2780 1 : Rat) * (dt : Rat) / 1000000000000)
    let t := s.modPc fun c => { c with energy := e }
    if (s.cfgGet 0x2780 6 : Rat) ≤ e then (t.raiseCond 0x070C).abortSequence else t
  else s

end Sys2Proof.Machine
end

