-- ==== Sys2Proof/Machine/CellLink.lean ====
section
/-! DEFINITION. CellLink: the cell link engine (R194 to R237, R555): ring start and renewal, loads, pattern data and
ages, urgent triples, breaks and step captures. -/

namespace Sys2Proof.Machine

/-! ### CMUs, groups and sensors (R210) -/

/-- A CMU. -/
def State.cmu (s : State) (c : Nat) : Cmu := tabGet {} c s.cl.cmus

/-- A change to a CMU. -/
def State.modCmu (s : State) (c : Nat) (f : Cmu → Cmu) : State :=
  s.modCl fun l => { l with cmus := tabMod {} c f l.cmus }

/-- A cell group at the cell link. -/
def State.group (s : State) (g : Nat) : Group := tabGet {} g s.cl.groups

/-- A change to a cell group. -/
def State.modGroup (s : State) (g : Nat) (f : Group → Group) : State :=
  s.modCl fun l => { l with groups := tabMod {} g f l.groups }

/-- A cell sensor. -/
def State.sensor (s : State) (n : Nat) : Sensor := tabGet {} n s.cl.sensors

/-- A change to a cell sensor. -/
def State.modSensor (s : State) (n : Nat) (f : Sensor → Sensor) : State :=
  s.modCl fun l => { l with sensors := tabMod {} n f l.sensors }

/-- ExpectedCmuCount (R236). -/
def State.cmuCount (s : State) : Nat := s.cfgGet 0x2880 0

/-- GroupsPerCmu of a CMU. -/
def State.groupsOf (s : State) (c : Nat) : Nat := s.cfgGet 0x2881 c

/-- G(c), the first group of a CMU (R210). -/
def State.firstGroup (s : State) (c : Nat) : Nat :=
  ((List.range (c - 1)).map fun k => s.groupsOf (k + 1)).sum

/-- The number of populated groups. -/
def State.groupCount (s : State) : Nat := s.firstGroup (s.cmuCount + 1)

/-- The CMU that serves a group, and its local number (R210). -/
def State.cmuOf (s : State) (g : Nat) : Nat × Nat :=
  let rec go : Nat → Nat → Nat → Nat × Nat
    | 0, c, left => (c, left)
    | k + 1, c, left => if left < s.groupsOf c then (c, left) else go k (c + 1) (left - s.groupsOf c)
  go 32 1 g

/-- The sensors that exist and are enabled (R210, R236). -/
def State.sensorList (s : State) : List Nat :=
  (List.range s.cmuCount).flatMap fun k => ((List.range 8).filter fun t => bit (s.cfgGet 0x2882 (k + 1)) t).map fun t =>
    8 * k + t

/-- The CMUs enumerated, in ascending address. -/
def State.enumerated (s : State) : List Nat :=
  (s.cl.cmus.filter fun (_, c) => c.state != 0 && c.state != 5).map (·.1)

/-! ### Frames (R196, R200 to R203) -/

/-- The bytes of a ring frame of the module (R200): header, payload and CRC. -/
def ringFrame (kind dest seq pattern : Nat) (payload : Bytes) : Bytes :=
  let covered := [kind, if dest == 0xFF then 2 else 0, dest, 0] ++ leBytes 2 payload.length ++ leBytes 2 seq ++
    leBytes 4 pattern ++ payload
  covered ++ leBytes 4 (crc32c covered)

/-- A frame leaves a ring port (R200). -/
def State.ringOut (s : State) (port kind dest pattern : Nat) (payload : Bytes) : State :=
  (s.emit (.ring port (ringFrame kind dest s.cl.ringSeq pattern payload))).modCl fun l => { l with
    ringSeq := (l.ringSeq + 1) % 2 ^ 16, txRow := true }

/-- A frame of this unit on ports it names (R196, R203): in closed mode port A sends it at once; in chain mode it waits
for a row start. A unit that repeats sends only in its measuring slot (R205). -/
def State.ringTo (s : State) (ports : List Nat) (kind dest : Nat) (payload : Bytes) : State :=
  if !s.cl.driver && !s.cl.echoSlot then s
  else if s.cl.chainMode then
    s.modCl fun l => { l with txWait := l.txWait ++ ports.map fun port => { port, kind, dest, payload } }
  else s.ringOut 1 kind dest s.patNo payload

/-- The ports from which a destination is reached (R203, R224): for all, each port that reaches CMUs. -/
def State.ringPorts (s : State) (dest : Nat) : List Nat :=
  if dest == 0xFF then (if s.cl.breakAfter == 0 then [] else [1]) ++ (if s.cl.breakBefore == 0 then [] else [2])
  else [if dest ≤ s.cl.breakAfter then 1 else 2]

/-- A frame of this unit to a CMU or to all (R203). -/
def State.ringSend (s : State) (kind dest : Nat) (payload : Bytes) : State := s.ringTo (s.ringPorts dest) kind dest payload

/-- Port by port, the first frame that waits leaves at a row start in chain mode, and at most one a row (R203). -/
def State.ringServe (s : State) : State :=
  if s.cl.txRow || s.rowStartNs < s.cl.quietUntil then s
  else [1, 2].foldl (fun t port => match t.cl.txWait.find? (·.port == port) with
    | none => t
    | some x => (t.modCl fun l => { l with txWait := l.txWait.eraseP (·.port == port) }).ringOut port x.kind x.dest t.patNo x.payload) s

/-- A unit that repeats sends on what it receives (R196, R202), unless it is in reset or unpowered. -/
def State.repeatFrame (s : State) (f : RingRx) : State := if s.cl.driver || !s.coreUp then s else s.emit (.repeated f)

/-- The CONFIG payload of a CMU (R200). -/
def State.configBytes (s : State) (c : Nat) : Bytes :=
  [s.groupsOf c, s.cfgGet 0x2882 c] ++ leBytes 2 (s.safeGet 0x2883 1) ++ leBytes 2 (s.safeGet 0x2883 2) ++
    leBytes 2 ((s.cmu c).delayA.getD 0xFFFF) ++ leBytes 2 ((s.cmu c).delayB.getD 0xFFFF)

/-- CONFIG to every CMU that a port reaches (R196, R205 step 7). -/
def State.configAll (s : State) : State :=
  (s.enumerated.filter fun c => (s.cmu c).state != 4).foldl (fun t c => t.ringSend 0x07 c (t.configBytes c)) s

/-- Values that a STOP object of an index range waits to put in force take effect (R508). -/
def State.stopApply (s : State) (lo hi : Nat) : State :=
  let mine (k : Nat) : Bool := lo ≤ k / 256 && k / 256 ≤ hi
  let t := s.stopWait.foldl (fun t (k, v) => if mine k then t.cfgPut (k / 256) (k % 256) v else t) s
  t.modStopWait fun w => w.filter fun (k, _) => !mine k

/-! ### Ring procedure (R205 to R213) -/

/-- The CMU count against ExpectedCmuCount (R208), and more units than the ring serves (R206). -/
def State.countCheck (s : State) : State :=
  s.cond 0x0801 (s.cmuCount == 0 || s.cl.found != s.cmuCount || s.cl.tooMany)

/-- Cast-on step 6 (R205): the values that waited for the renewal act, and the driver's ring ports start the wake tone,
step 1. The driver is the unit that holds the claim (R196); where neither does, side A (DESIGN CHOICE, assumption 151).
The other unit's step 6 has nothing to wait for. -/
def State.ringStart (s : State) : State :=
  let t := s.stopApply 0x2880 0x2888
  if t.os.gate || t.ty.wordTwin == 0 || (wordValue t.ty.wordTwin == 0 && !t.ty.sideB) then
    (t.modCl fun l => { l with ring := .waking, proc := 1, renewing := false, driver := true, chainMode := true, txWait := [] }).emit
      .wakeTone
  else t.modPm fun p => { p with step6Done := true }

/-- ENUM from the port that enumerates (R205). -/
def State.sendEnum (s : State) (a : Nat) : State := s.ringTo [if s.cl.fromB then 2 else 1] 0x04 0xFE [a]

/-- Step 3 begins (R205): every number is absent until its IDENT arrives, and ENUM 1 leaves port A. -/
def State.enumStart (s : State) : State :=
  (s.modCl fun l => { l with
    ring := if l.renewing then .renewing else .enumerating, proc := 3, fromB := false, nextAddr := 1, lastA := 0
    probe := false, tooMany := false, foreignAt := 0, foundClosed := false, found := 0, resends := 0, slotEnd := none
    modeDue := false
    cmus := l.cmus.map fun (c, x) => (c, { x with
      state := 0, configured := false, delivered := none, echoA := [], echoB := [], spreadA := 0, spreadB := 0
      delayA := none, delayB := none, rounds := 0, needsLoad := false, loadBad := false, awaits := false, missing := false
      missBits := [] }) }).sendEnum 1

/-- The module's port A reaches a CMU, or its port B does (R209). -/
def State.reaches (s : State) (portB : Bool) (c : Nat) : Bool :=
  s.cl.foundClosed || (if portB then s.cl.lastA < c else c ≤ s.cl.lastA)

/-- The block size of a load (R212). -/
def blockSize (version : Nat) (closed : Bool) : Nat := if !closed then 64 else if version == 1 then 256 else 480

/-- Step 8 begins: normal pattern operation (R205). -/
def State.step8Start (s : State) : State := s.modCl fun l => { l with proc := 8 }

/-- Step 7 begins (R205): CONFIG to every running CMU; without one there is nothing to wait for. -/
def State.step7Start (s : State) : State :=
  let t := s.modCl fun l => { l with ring := if l.renewing then .renewing else .configuring, proc := 7 }
  if t.enumerated.any fun c => (t.cmu c).state == 3 then t.configAll else t.step8Start

/-- Step 7 follows when no load is under way. -/
def State.afterLoads (s : State) : State :=
  if s.cl.proc == 6 && !(s.enumerated.any fun c => (s.cmu c).state == 2) then s.step7Start else s

/-- The groups and sensors of a CMU read no value (R213). -/
def State.noCellData (s : State) (c : Nat) : State :=
  let t := (List.range (s.groupsOf c)).foldl (fun u g => u.modGroup (s.firstGroup c + g) fun x => { x with voltage := none }) s
  (List.range 8).foldl (fun u k => u.modSensor (8 * (c - 1) + k) fun x => { x with temp := none }) t

/-- A CMU's load has failed (R212, R213): it stays in its ROM loader, and its groups and sensors read no value. -/
def State.loadFailed (s : State) (c : Nat) : State :=
  ((s.modCmu c fun x => { x with state := 1, awaits := false, missing := false, loadBad := true }).noCellData c).raiseCond 0x0808 c

/-- The number of blocks of the CMU image in the present block size (R200). -/
def CellLink.blockCount (l : CellLink) : Nat := if l.loadSize == 0 then 0 else (l.image.length + l.loadSize - 1) / l.loadSize

/-- LOAD_BLOCK frames of given blocks, then LOAD_END (R200, R213). -/
def State.sendBlocks (s : State) (dest : Nat) (blocks : List Nat) : State :=
  (blocks.foldl (fun t b =>
    t.ringSend 0x11 dest (leBytes 2 b ++ (t.cl.image.drop (b * t.cl.loadSize)).take t.cl.loadSize)) s).ringSend 0x12 dest []

/-- The CMU to which a load goes alone, else all (R213). -/
def loadDest (cs : List Nat) : Nat := if cs.length == 1 then cs.headD 0 else 0xFF

/-- The LOAD_BEGIN payload of the present load (R200). -/
def State.loadBegin (s : State) : Bytes :=
  [s.cl.loaderVersion, 0] ++ leBytes 2 s.cl.loadSize ++ leBytes 4 s.cl.image.length ++ leBytes 2 s.cl.blockCount ++
    padBytes 32 s.cl.imageDigest

/-- A load of CMUs begins (R212, R213): the version is the highest in the module's range and in that of every CMU being
loaded; a CMU whose range shares none is not loaded. Without a CMU image none is (R534). -/
def State.loadRun (s : State) (want : List Nat) : State :=
  let max := s.cfgGet 0x2888 0
  let bad := want.filter fun c => !bit s.ld.sections 5 || max < (s.cmu c).lowVer || (s.cmu c).highVer == 0
  let good := want.filter fun c => !bad.contains c
  let t := bad.foldl State.loadFailed s
  let top := good.foldl (fun v c => min v (t.cmu c).highVer) max
  if good.isEmpty then t.afterLoads
  else if good.any fun c => top < (t.cmu c).lowVer then (good.foldl State.loadFailed t).afterLoads
  else
    let u := good.foldl (fun u c => u.modCmu c fun x => { x with
      state := 2, awaits := true, missing := false, missBits := [], rounds := 0 }) t
    let v := u.modCl fun l => { l with loaderVersion := top, loadSize := blockSize top !l.chainMode, resends := 0 }
    (v.ringSend 0x10 (loadDest good) v.loadBegin).sendBlocks (loadDest good) (List.range v.cl.blockCount)

/-- Step 6 begins (R211 to R214). A chain does not start loads while a main contactor is closed. -/
def State.loadStart (s : State) : State :=
  let t := s.modCl fun l => { l with ring := if l.renewing then .renewing else .loading, proc := 6, resends := 0 }
  let want := t.enumerated.filter fun c => (t.cmu c).needsLoad && (t.cmu c).state != 4 && !(t.cmu c).loadBad
  if want.isEmpty || (t.cl.chainMode && t.mainClosed) then t.afterLoads else t.loadRun want

/-- The delays are measured and the twin's slot is over (R205): MODE closed goes first on a closed ring, at the next row
start, and the loads follow. -/
def State.delaysEnd (s : State) : State :=
  if s.cl.foundClosed then s.modCl fun l => { l with modeDue := true } else s.loadStart

/-- Step 5 of the driver ends when every reached delay is measured (R205, R209); a twin then has its slot of 10 ms. -/
def State.delaysDone (s : State) : State :=
  if s.cl.proc == 5 && s.cl.slotEnd.isNone && s.enumerated.all fun c =>
      (!s.reaches false c || (s.cmu c).delayA.isSome) && (!s.reaches true c || (s.cmu c).delayB.isSome) then
    if s.ty.wordTwin == 0 then s.delaysEnd else s.modCl fun l => { l with slotEnd := some (s.ns + 10000000) }
  else s

/-- The ECHOs of one measurement: 16 to a CMU from a port (R205, R209). -/
def State.sendEchoes (s : State) (portB : Bool) (c : Nat) : State :=
  (List.range 16).foldl (fun t k => t.ringTo [if portB then 2 else 1] 0x06 c (leBytes 4 k)) s

/-- The CMUs that the ports reach (R224, R237): in closed mode 0xFF, else the last from port A and the first from port B. -/
def State.reachSet (s : State) : State :=
  s.modCl fun l => { l with
    breakAfter := if l.chainMode then l.lastA else 0xFF
    breakBefore := if !l.chainMode then 0xFF
      else ((l.cmus.filter fun (c, x) => (l.foundClosed || l.lastA < c) && x.state != 0 && x.state != 5).headD (0, {})).1 }

/-- The ECHOs of a CMU from each port that reaches it (R205, R209). -/
def State.echoCmu (s : State) (c : Nat) : State :=
  let t := if s.reaches false c then s.sendEchoes false c else s
  if t.reaches true c then t.sendEchoes true c else t

/-- Step 5 begins (R205, R207, R208): the enumeration has ended, numbers without a CMU are cleared, ECHOs leave. -/
def State.step5Start (s : State) : State :=
  let t := ((s.modCl fun l => { l with proc := 5, cmus := l.cmus.filter fun (_, x) => x.state != 0 }).reachSet).countCheck
  let u := if t.cl.cmus.any fun (_, x) => x.state == 5 then t else t.clearCond 0x0802
  (u.enumerated.foldl State.echoCmu u).delaysDone

/-- Enumeration from port A has ended with the ring not closed (R205 step 4): from port B where numbers remain. -/
def State.enumFromB (s : State) : State :=
  if max s.cl.lastA s.cl.foreignAt < s.cmuCount then
    (s.modCl fun l => { l with proc := 4, fromB := true, nextAddr := s.cmuCount, probe := false }).sendEnum s.cmuCount
  else s.step5Start

/-- A port's enumeration ends. -/
def State.enumEnd (s : State) : State := if s.cl.fromB then s.step5Start else s.enumFromB

/-- ENUM_TIMEOUT (R205): no IDENT within 200 µs, or the ENUM came back at port B and the ring is closed. -/
def execEnumTimeout (returned : Bool) (s : State) : Host.Outcome State Fault Refusal :=
  .next (if s.cl.proc != 3 && s.cl.proc != 4 then s
    else if returned && !s.cl.fromB then (s.modCl fun l => { l with foundClosed := true }).step5Start
    else s.enumEnd)

/-- An IDENT during enumeration (R205 to R207). A foreign unit ends the enumeration from its port, and none reaches it from
the other. -/
def State.enumIdent (s : State) (m : IdentMsg) : State :=
  let a := s.cl.nextAddr
  if s.cl.probe then (s.modCl fun l => { l with tooMany := true }).enumEnd
  else if m.deviceType != 0x1624 then
    (((s.modCmu a fun _ => { state := 5, serial := m.serial % 2 ^ 32 }).modCl fun l => { l with
      foreignAt := if l.fromB then l.foreignAt else a }).raiseCond 0x0802 a).enumEnd
  else
    let loaded := m.image && m.digest == s.cl.imageDigest
    let t := (s.modCmu a fun x => { x with
      state := if loaded then 3 else 1, needsLoad := !(s.cl.renewing && loaded), lowVer := m.lowVer, highVer := m.highVer
      serial := m.serial % 2 ^ 32, turnNs := m.turnNs, digest := m.digest }).modCl fun l => { l with
        found := l.found + 1, lastA := if l.fromB then l.lastA else a, nextAddr := if l.fromB then a - 1 else a + 1 }
    if s.cl.fromB then if a - 1 ≤ max s.cl.lastA s.cl.foreignAt then t.step5Start else t.sendEnum (a - 1)
    else if a == 32 then (t.modCl fun l => { l with probe := true }).sendEnum 0
    else t.sendEnum (a + 1)

/-- 0x0808 stands while the load of a CMU has failed (R213). -/
def State.loadCond (s : State) : State := s.cond 0x0808 (s.cl.cmus.any fun (_, x) => x.loadBad)

/-- IDENT (R206, R207, R213): in enumeration it takes the address; after START it shows the image that runs. -/
def execIdentFrame (m : IdentMsg) (s : State) : Host.Outcome State Fault Refusal :=
  .next (if !s.cl.driver then s.repeatFrame (.ident m)
    else if s.cl.proc == 3 || s.cl.proc == 4 then s.enumIdent m
    else if (s.cmu m.source).state == 2 && !(s.cmu m.source).awaits then
      (if m.image && m.digest == s.cl.imageDigest then
        (s.modCmu m.source fun x => { x with state := 3, needsLoad := false, loadBad := false, digest := m.digest }).loadCond
      else s.loadFailed m.source).afterLoads
    else s)

/-- The mean of 16 round trips as a delay in 0.1 ns (R209). -/
def echoDelay (rtts : List Nat) (turnNs : Nat) : Nat := (rtts.sum / 16 - turnNs * 10) / 2

/-- The spread of round trips (R209), 0.1 ns. -/
def echoSpread (rtts : List Nat) : Nat := rtts.foldl max 0 - rtts.foldl min (rtts.headD 0)

/-- ECHO (R209): a round trip in 0.1 ns; of 16, the delay, or the measurement again when they spread by more than
4 ns, three times at most. -/
def execEcho (cmu : Nat) (portB : Bool) (rtt : Nat) (s : State) : Host.Outcome State Fault Refusal :=
  .next (if !(s.cl.driver && s.cl.proc == 5) && !s.cl.echoSlot then s.repeatFrame (.echo cmu)
    else if (s.cmu cmu).state == 0 then s
    else
      let x := s.cmu cmu
      let rtts := rtt :: (if portB then x.echoB else x.echoA)
      if rtts.length < 16 then s.modCmu cmu fun x => if portB then { x with echoB := rtts } else { x with echoA := rtts }
      else
        let wide := 40 < echoSpread rtts
        let n := (if portB then x.spreadB else x.spreadA) + 1
        if wide && n < 3 then
          (s.modCmu cmu fun x => if portB then { x with echoB := [], spreadB := n } else { x with echoA := [], spreadA := n }).sendEchoes
            portB cmu
        else
          let d := some (echoDelay rtts x.turnNs)
          let t := s.modCmu cmu fun x => if portB then { x with echoB := [], spreadB := 0, delayB := d }
            else { x with echoA := [], spreadA := 0, delayA := d }
          (if wide then t.raiseEvent 0x080C cmu else t).delaysDone)

/-- ACK (R205 step 7): when every running CMU has accepted its CONFIG, step 8 begins. -/
def execAck (cmu status : Nat) (s : State) : Host.Outcome State Fault Refusal :=
  .next (if !s.cl.driver then s.repeatFrame (.ack cmu status)
    else if s.cl.proc != 7 || status != 0 then s
    else
      let t := s.modCmu cmu fun x => { x with configured := true }
      if t.enumerated.all fun c => (t.cmu c).state != 3 || (t.cmu c).configured then t.step8Start else t)

/-- The blocks that a resend round sends (R212): in version 1 the whole image, in version 2 the union of the missing
blocks. -/
def State.resendBlocks (s : State) (miss : List Nat) : List Nat :=
  (List.range s.cl.blockCount).filter fun b =>
    s.cl.loaderVersion == 1 || miss.any fun c => bit ((s.cmu c).missBits.getD (b / 8) 0) (b % 8)

/-- A round of LOAD_STATUS is complete (R213): the missing blocks go again, at most three times; a CMU that still
misses blocks then has failed. -/
def State.loadRound (s : State) : State :=
  let loading := s.enumerated.filter fun c => (s.cmu c).state == 2
  if loading.any fun c => (s.cmu c).awaits then s
  else
    let miss := loading.filter fun c => (s.cmu c).missing
    if miss.isEmpty then s.afterLoads
    else if 3 ≤ s.cl.resends then (miss.foldl State.loadFailed s).afterLoads
    else
      let t := miss.foldl (fun u c => u.modCmu c fun x => { x with awaits := true, missing := false, rounds := x.rounds + 1 }) s
      (t.modCl fun l => { l with resends := l.resends + 1 }).sendBlocks (loadDest miss) (s.resendBlocks miss)

/-- CMU_LOAD_STATUS (R212, R213): 0 complete, START follows; 1 blocks missing, in version 2 with their bitmap; 2 digest
mismatch and 3 version refused end the load of that CMU. -/
def execCmuLoadStatus (cmu : Nat) (m : LoadReport) (s : State) : Host.Outcome State Fault Refusal :=
  .next (if !s.cl.driver then s.repeatFrame (.loadStatus cmu m.status m.count m.bitmap)
    else if (s.cmu cmu).state != 2 then s
    else match m.status with
      | 0 => ((s.modCmu cmu fun x => { x with awaits := false, missing := false }).ringSend 0x14 cmu []).loadRound
      | 1 => (s.modCmu cmu fun x => { x with awaits := false, missing := true, missBits := m.bitmap }).loadRound
      | _ => (s.loadFailed cmu).loadRound)

/-- The ring state of the mode and of the ports that reach CMUs (R204). -/
def State.ringByReach (s : State) : RingState :=
  if !s.cl.chainMode then .closed
  else match s.cl.breakAfter == 0, s.cl.breakBefore == 0 with
    | false, false => .chain
    | false, true => .singleA
    | true, false => .singleB
    | true, true => .lost

/-- Step 8 ends (R205): the ring runs; a broken one runs in chain mode with 0x0803. -/
def State.ringDone (s : State) : State :=
  let t := s.modCl fun l => { l with
    proc := 0, ring := s.ringByReach, renewing := false, closeDwell := 0, breakAged := false }
  (t.modPm fun p => { p with step6Done := true }).cond 0x0803 (t.cl.ring != .closed)

/-- RING_START_TIMEOUT (R204, R205): the ring start is not done in 500 ms; cast-on continues, and the ring is what the
ports have reached. -/
def execRingStartTimeout (s : State) : Host.Outcome State Fault Refusal :=
  .next (if s.cl.proc != 0 && !s.cl.renewing then
    let t := if s.cl.proc < 5 then s.reachSet else s
    ((t.modCl fun l => { l with proc := 0, ring := if l.found == 0 then .lost else t.ringByReach, slotEnd := none, modeDue := false, txWait := [] }).modPm fun p =>
      { p with step6Done := true }).raiseEvent 0x080F
  else s)

/-- A renewal begins (R229): steps 2 to 8 with DEADDRESS; a closed ring then changes to chain mode. -/
def State.renewalStart (s : State) : State :=
  let t := (((s.stopApply 0x2880 0x2888).modCl fun l => { l with
    renewing := true, renewDue := false, retryDue := false, renewals := l.renewals + 1, txWait := [] }).raiseEvent 0x0809).ringTo
      [1, 2] 0x03 0xFF [0xD5]
  (if t.cl.chainMode then t else (t.ringTo [1] 0x09 0xFF [1]).modCl fun l => { l with chainMode := true }).enumStart

/-- WAKE_TONE_END (R205, R235): 200 us of IDLE, then RESET from both ports and step 3; after the tone of an aborted
bind-off a renewal. -/
def execWakeToneEnd (s : State) : Host.Outcome State Fault Refusal :=
  let t := s.modCl fun l => { l with quietUntil := s.ns + 200000 }
  .next (if s.cl.proc != 1 then s
    else if s.cl.renewing then t.renewalStart
    else (t.ringTo [1, 2] 0x02 0xFF [0x5A]).enumStart)

/-- RENEWAL_TIMEOUT (R229): not done in 400 ms; it starts again 1 s later. -/
def execRenewalTimeout (s : State) : Host.Outcome State Fault Refusal :=
  .next (if s.cl.proc != 0 && s.cl.renewing then
    (s.modCl fun l => { l with proc := 0, retryDue := true, slotEnd := none, modeDue := false, txWait := [] }).raiseEvent 0x080F
  else s)

/-- RENEWAL_RETRY (R229). -/
def execRenewalRetry (s : State) : Host.Outcome State Fault Refusal :=
  .next (if s.cl.retryDue && s.cl.driver then s.renewalStart else s)

/-- A bind-off's hold was aborted (R114, R235): the driver sends the wake tone of step 1, and a renewal follows it. -/
def State.wakeHeld (s : State) : State :=
  let t := s.modCl fun l => { l with cmus := l.cmus.map fun (n, c) => (n, { c with held := false }) }
  if t.cl.driver then (t.modCl fun l => { l with ring := .waking, proc := 1, renewing := true }).emit .wakeTone else t

/-- RENEW_RING (R236): a renewal from the next pattern start, with every contactor proven open. -/
def execRenewRing (r : Req) (s : State) : Host.Outcome State Fault Refusal :=
  .next (s.writeReq r false 0x2889 0 [1] engineer fun t _ =>
    if !t.provenOpen then no t 0x0C else ok (t.modCl fun l => { l with renewDue := true }))

/-! ### Pattern data (R216 to R219, R227) -/

/-- A frame is discarded (R227): counted, and 0x0805 while more than 10 lie within 1,000 patterns. -/
def State.discardFrame (s : State) : State :=
  let hist := BitVec.ofNat 32 s.patNo :: s.cl.discardHist.filter fun p => (BitVec.ofNat 32 s.patNo - p).toNat < 1000
  (s.modCl fun l => { l with discarded := l.discarded + 1, discardHist := hist }).cond 0x0805 (10 < hist.length)

/-- SYMBOL_GAP_TIMEOUT (R227): more than 2,000 ns between two symbols. -/
def execSymbolGapTimeout (s : State) : Host.Outcome State Fault Refusal := .next s.discardFrame

/-- A DATA frame's voltages enter the groups of its CMU; 0xFFFF is never fresh (R201, R219). -/
def State.dataGroups (s : State) (m : CellData) (late : Bool) : State :=
  let base := s.firstGroup m.cmu
  (List.range (min (s.groupsOf m.cmu) m.populated)).foldl (fun t g =>
    let v := m.voltages.getD g 0xFFFF
    let f := b2n (bit m.bleed g) * 2 + b2n (bit m.ov g) * 4 + b2n (bit m.uv g) * 8 + b2n (bit m.status 0) * 16 + b2n late * 32
    t.modGroup (base + g) fun x =>
      if v == 0xFFFF || bit m.status 4 then { x with flags := x.flags % 2 + f }
      else { x with heldV := if x.fresh == 1 then x.heldV else x.voltage, heldStamp := if x.fresh == 1 then x.heldStamp else x.stamp
                    voltage := some v, stamp := BitVec.ofNat 32 m.stamp, fresh := if late then 2 else 1, flags := x.flags % 2 + f }) s

/-- A DATA frame's temperatures enter the sensors of its CMU (R201, R219); late ones reach age 1 at the cut-off. -/
def State.dataSensors (s : State) (m : CellData) (late : Bool) : State :=
  (List.range 8).foldl (fun t k =>
    if !bit (t.cfgGet 0x2882 m.cmu) k || bit m.status 4 then t
    else match m.temps.getD k none with
      | none => t.modSensor (8 * (m.cmu - 1) + k) fun x => { x with noVal := true }
      | some v => t.modSensor (8 * (m.cmu - 1) + k) fun x => { x with
          heldT := if x.fresh then x.heldT else x.temp, temp := some v, fresh := !late, age := if late then 0 else x.age, noVal := false, read := true }) s

/-- A CMU's die temperature as its DATA gives it; a converter fault sends no value (R201). -/
def dieOf (m : CellData) : Option Int := if bit m.status 4 then none else m.die

/-- A DATA frame of the present pattern is accepted (R218, R219): its status, link and bleeding act now; its voltages and
temperatures now, or at the next cut-off where it came late. -/
def State.acceptData (s : State) (m : CellData) (late : Bool) : State :=
  let t := s.modCmu m.cmu fun x => { x with
    state := if x.state == 4 && !x.lost then 3 else x.state
    status := m.status % 256, link := m.link % 4, dieTemp := dieOf m, bleedMask := m.bleed % 2 ^ 24
    delivered := some m.pattern, dataCrc := m.crc, frame := some m, lost := false, lateFrame := late
    masks := (m.bleed % 2 ^ 24) :: x.masks.take 3
    holdHist := (if bit m.status 0 then [s.patStart] else []) ++ x.holdHist.filter fun p => s.patStart < p + 1000000000 }
  if late then t else (t.dataGroups m false).dataSensors m false

/-- The frame types of R200. -/
def ringKinds : List Nat := [1, 2, 3, 4, 5, 6, 7, 8, 9, 0x0A, 0x0B, 0x0C, 0x0D, 0x0E, 0x10, 0x11, 0x12, 0x13, 0x14]

/-- DATA (R200, R218, R219, R227, R229): of the present pattern by the cut-off it is used in it, later it waits for the
cut-off of the next, at age 1; after the next pattern start, or with another pattern or stamp, it is discarded. During a
renewal it is discarded; in step 8 it is kept until the cut-off shows whether the step is complete. A frame of an unknown
type counts as discarded. -/
def execDataFrame (m : CellData) (s : State) : Host.Outcome State Fault Refusal :=
  let s0 := s.repeatFrame (.data m)
  .next (if !m.intact || !ringKinds.contains m.kind then s.discardFrame
    else if m.kind != 0x0A || m.cmu == 0 || 32 < m.cmu || (s.cl.renewing && s.cl.proc != 8) then s0
    else if (m.pattern + 1) % 2 ^ 32 == s.patNo then s0.modCl fun l => { l with late := l.late + 1 }
    else if m.pattern != s.patNo || m.stamp != s.patStart % 2 ^ 32 then s0.modCl fun l => { l with mismatches := l.mismatches + 1 }
    else
      let late := 1000000 < s.ns - s.patStart
      let t := if late then s0.modCl fun l => { l with late := l.late + 1 } else s0
      if s.cl.renewing then
        if late then t else t.modCmu m.cmu fun x => { x with delivered := some m.pattern, frame := some m, dataCrc := m.crc }
      else
        let u := t.acceptData m late
        if (s.cmu m.cmu).lost && s.cl.proc == 0 then u.modCl fun l => { l with renewDue := true } else u)

/-! ### Cut-off (R218, R219, R228, R229, R337) -/

/-- A group's age at a cut-off, its stale flag, and SF4's count of fresh samples beyond a threshold (R219, R337). -/
def Group.cutoff (x : Group) (ov uv : Nat) : Group :=
  let age := if x.fresh == 1 then 0 else if x.fresh == 2 then 1 else min 255 (x.age + 1)
  let v := x.voltage.getD 0
  let n := if age != 0 then x.sf4 else if ov < v || v < uv then min 255 (x.sf4 + 1) else 0
  { x with age, heldAge := x.age, fresh := 0, sf4 := n,
           flags := x.flags / 2 * 2 + b2n (4 ≤ age) }

/-- A sensor's age at a cut-off (R219). -/
def Sensor.cutoff (x : Sensor) : Sensor := { x with
  age := if x.fresh then 0 else min 255 (x.age + 1), heldAge := x.age, fresh := false }

/-- DATA that came after the cut-off of the pattern before enters now, unless fresh data has replaced it (R218). -/
def State.lateData (s : State) : State :=
  s.cl.cmus.foldl (fun t (c, x) => match x.frame with
    | some m =>
      if x.lateFrame && (m.pattern + 1) % 2 ^ 32 == s.patNo then
        ((t.modCmu c fun y => { y with lateFrame := false }).dataGroups m true).dataSensors m true
      else t
    | none => t) s

/-- The ages of a cut-off (R219). A renewal not complete at this cut-off accepts nothing (R229). -/
def State.ages (s : State) (accept : Bool) : State :=
  let ov := s.safeGet 0x2883 1
  let uv := s.safeGet 0x2883 2
  let s1 := if accept then s.lateData else s
  let t := (List.range s1.groupCount).foldl (fun u g => u.modGroup g fun x =>
    (if accept then x else { x with fresh := 0 }).cutoff ov uv) s1
  s1.sensorList.foldl (fun u n => u.modSensor n fun x => (if accept then x else { x with fresh := false }).cutoff) t

/-- A CMU has delivered no DATA for more than 3 patterns (R229). -/
def State.silent (s : State) (c : Nat) : Bool :=
  match (s.cmu c).delivered with
  | some k => 4 ≤ (s.patNo + 2 ^ 32 - k) % 2 ^ 32
  | none => true

/-- The age of a populated group. -/
def State.ageOf (s : State) (g : Nat) : Nat := (s.group g).age

/-- Lost cell data (R228), stale groups (R237), and the CMUs whose DATA has stayed away until a group reached
age 4 (R229); one whose values are no value goes on sending (R219). -/
def State.lostData (s : State) : State :=
  let gs := List.range s.groupCount
  let stale := (gs.filter fun g => 4 ≤ s.ageOf g).length
  let away (age : Nat → Bool) (k : Nat) : Bool :=
    s.silent (k + 1) && (List.range (s.groupsOf (k + 1))).any fun g => age (s.ageOf (s.firstGroup (k + 1) + g))
  let t := s.modCl fun l => { l with
    stale, breakAged := l.breakAged || (List.range s.cmuCount).any (away fun n => n == 4) }
  let u := (List.range s.cmuCount).foldl (fun v k =>
    if away (fun n => decide (4 ≤ n)) k then v.modCmu (k + 1) fun x => { x with lost := true } else v) t
  if gs.any fun g => 14 ≤ s.ageOf g then (u.modCl fun l => { l with dataLost := true }).raiseCond 0x0806
  else if gs.all fun g => s.ageOf g ≤ 3 then
    ((u.modCl fun l => { l with dataLost := false }).clearCond 0x0806).clearCond 0x0807
  else u.clearCond 0x0807

/-- The CMUs at every break report both ports locked (R226). -/
def State.breaksLocked (s : State) : Bool :=
  let l (c : Nat) : Bool := c == 0 || (s.cmu c).link == 3
  l s.cl.breakAfter && l s.cl.breakBefore && !(s.cl.breakAfter == 0 && s.cl.breakBefore == 0)

/-- The ring runs in chain mode (R204). -/
def CellLink.chained (l : CellLink) : Bool := l.ring == .chain || l.ring == .singleA || l.ring == .singleB

/-- The frames that a renewal's step 8 has kept enter when it completes (R229). -/
def State.acceptKept (s : State) : State :=
  s.cl.cmus.foldl (fun t (_, x) => match x.frame with
    | some m => if x.delivered == some s.patNo && m.pattern == s.patNo then t.acceptData m false else t
    | none => t) s

/-- Every reachable CMU has delivered its DATA for the pattern, and step 8 waits for it (R205, R229). -/
def State.step8Done (s : State) : Bool :=
  s.cl.proc == 8 && s.enumerated.all fun c => (s.cmu c).state != 3 || (s.cmu c).delivered == some s.patNo

/-- The cut-off on this unit's own frames (R205 step 8, R218, R219, R229, R337). -/
def State.cutoffOwn (s : State) : State :=
  (if s.step8Done && s.cl.renewing then s.acceptKept else s).ages (!s.cl.renewing || s.step8Done)

/-- The cell link engine once the cell data of a pattern is agreed (R205 step 8, R226, R228, R229). -/
def State.cutoffAgreed (s : State) : State :=
  let t := if s.step8Done then s.lostData.ringDone else s.lostData
  if t.cl.chained && t.cl.proc == 0 && t.cl.breakAged && t.breaksLocked then t.modCl fun l => { l with renewDue := true }
  else t

/-- CELL_DATA_LOST_OPEN (R228): a group has stayed at 14 or more for CellDataLostOpenDelay. -/
def execCellDataLostOpen (s : State) : Host.Outcome State Fault Refusal :=
  .next (if (List.range s.groupCount).any fun g => 14 ≤ s.ageOf g then s.raiseCond 0x0807 else s)

/-! ### Urgent triples and breaks (R221 to R226) -/

/-- URGENT (R221, R222): a valid triple waits for the next row start; reason bits 2 and 3 raise 0x080B. -/
def execUrgent (addr reason : Nat) (s : State) : Host.Outcome State Fault Refusal :=
  let s0 := s.repeatFrame (.urgent addr reason)
  .next (if 32 < addr || 16 ≤ reason then s0.modCl fun l => { l with urgentIgnored := l.urgentIgnored + 1 }
    else
      let t := s0.modCl fun l => { l with
        urgentReceived := l.urgentReceived + 1, urgentNow := l.urgentNow ++ [{ addr, reason }] }
      if 4 ≤ reason then t.raiseEvent 0x080B addr else t)

/-- A break is detected in closed mode (R223, R224): MODE chain follows at the next row start, with what the ports
then reach. -/
def State.breakFound (s : State) (lastA firstB : Nat) : State :=
  if s.cl.chainMode then s
  else s.modCl fun l => { l with breakDue := true, breakLastA := lastA, breakFirstB := firstB }

/-- BREAK (R223). The address is the CMU's that lost lock. -/
def execBreakTriple (addr lastA firstB : Nat) (s : State) : Host.Outcome State Fault Refusal :=
  let s0 := s.repeatFrame (.broken addr)
  .next (if 32 < addr then s0 else s0.breakFound lastA firstB)

/-- PORT_LOCK_LOSS (R223): the module's port B loses lock. -/
def execPortLockLoss (lastA firstB : Nat) (s : State) : Host.Outcome State Fault Refusal :=
  .next (s.breakFound lastA firstB)

/-- A load that runs when its ring breaks starts again in the blocks of chain mode (R212, R214). -/
def State.loadAgain (s : State) : State :=
  let want := s.enumerated.filter fun c => (s.cmu c).state == 2
  if s.cl.proc != 6 || want.isEmpty then s else (s.modCl fun l => { l with txWait := [] }).loadRun want

/-- MODE chain at the row start after a break (R224): 0x0803, and 0x0804 for a CMU that neither port reaches. -/
def State.breakRow (s : State) : State :=
  if !s.cl.breakDue || !s.cl.driver then s
  else
    let a := s.cl.breakLastA
    let b := s.cl.breakFirstB
    let t := ((s.modCl fun l => { l with
      breakDue := false, breakAfter := a, breakBefore := b, closeDwell := 0, breakAged := false, chainMode := true }).ringOut
        1 0x09 0xFF s.patNo [1]).ringOut 2 0x09 0xFF s.patNo [1]
    let gone := t.enumerated.filter fun c => a < c && (b == 0 || c < b)
    let u := gone.foldl (fun v c => v.modCmu c fun x => { x with state := 4 }) t
    let w := ((u.modCl fun l => { l with ring := if l.proc == 0 then u.ringByReach else l.ring }).raiseCond 0x0803).loadAgain
    match gone with
    | [] => w
    | c :: _ => w.raiseCond 0x0804 c

/-- MODE closed after step 5 (R205): it leaves port A, and the loads begin on the closed ring. -/
def State.modeRow (s : State) : State :=
  if !s.cl.modeDue then s
  else (((s.ringOut 1 0x09 0xFF s.patNo [0]).modCl fun l => { l with modeDue := false, chainMode := false }).reachSet).loadStart

/-- The twin's measuring slot ends (R205). -/
def State.slotRow (s : State) : State :=
  if s.cl.slotEnd.any fun e => decide (e ≤ s.rowStartNs) then (s.modCl fun l => { l with slotEnd := none }).delaysEnd else s

/-- The ring carries plant time (R215). -/
def CellLink.carries (l : CellLink) : Bool := l.driver && l.ring != .off && l.ring != .waking && l.ring != .hold

/-- The ports of a frame to all (R203, R215): port A in closed mode, else each port that reaches CMUs. -/
def State.allPorts (s : State) : List Nat := if s.cl.chainMode then s.ringPorts 0xFF else [1]

/-- TIME at row 90 (R215): SOF stamp, epoch, step flag and the not-locked flag, for the next pattern. In chain mode MODE
takes the row's frame before it. -/
def State.timeRow (s : State) : State :=
  let t := s.modCl fun l => { l with timeDue := s.rowIn == 90 || (l.timeDue && 90 ≤ s.rowIn) }
  if !t.cl.carries || !t.cl.timeDue || (t.cl.chainMode && t.cl.txRow) then t
  else
    (t.allPorts.foldl (fun u port => u.ringOut port 0x01 0xFF ((s.patNo + 1) % 2 ^ 32)
      (leBytes 4 s.short ++ leBytes 2 s.tb.now.epoch ++ [b2n s.cl.stepFlag + 2 * b2n (s.tb.state != .locked), 0])) t).modCl
      fun l => { l with stepFlag := false, timeDue := false }

/-- STEP at the row start after a request (R231). In chain mode MODE and TIME take the row's frame before it. -/
def State.stepRow (s : State) : State :=
  if !s.cl.stepSend || !s.cl.driver || (s.cl.chainMode && s.cl.txRow) then s
  else
    (s.allPorts.foldl (fun u port => u.ringOut port 0x0D 0xFF s.patNo
      (leBytes 4 (stampNs s.cl.stepTs % 2 ^ 32) ++ [s.cl.stepId])) s).modCl fun l => { l with stepSend := false }

/-- The cell link engine at a row start (R32, R203, R205, R215, R222, R224, R231). At a pattern start the frames that wait
leave after the pattern's own (`cellPattern`). -/
def State.cellRow (s : State) : State :=
  let t := (((((s.modCl fun l => { l with urgentRow := l.urgentNow, urgentNow := [], txRow := false }).breakRow).modeRow).timeRow).stepRow).slotRow
  if s.rowIn == 0 then t else t.ringServe

/-- The other unit has fallen silent (R225, R390). -/
def State.twinSilent (s : State) : Bool := !s.ty.wordSeen && decide (3 ≤ s.ty.missing)

/-- This unit takes the ring (R196, R225): it sends CONFIG to every CMU; with the other unit silent it finds the ring
broken there, behind its port A on side B and its port B on side A; a procedure that ran starts again as a renewal. -/
def State.takeRing (s : State) : State :=
  let last := (s.enumerated.getLast?).getD 0
  let runs := s.cl.ring != .off && s.cl.ring != .hold
  let ranProc := [RingState.waking, .enumerating, .loading, .configuring, .renewing].contains s.cl.ring
  let t := (s.modCl fun l => { l with driver := true, echoSlot := false, txWait := [], renewDue := l.renewDue || ranProc }).configAll
  if s.twinSilent && runs then (if s.ty.sideB then t.breakFound 0 (min 1 last) else t.breakFound last 0) else t

/-- The ring driver of a pattern is the claim holder (R196). Where neither unit holds the claim the driver stays. -/
def State.driverPattern (s : State) : State :=
  if s.os.gate && !s.cl.driver && s.pm.bindStep == 0 then s.takeRing
  else if !s.os.gate && s.cl.driver && s.ty.wordTwin / 4096 == 4 then
    s.modCl fun l => { l with driver := false, proc := 0, txWait := [], slotEnd := none, modeDue := false }
  else s

/-- A closed ring again (R226): after RingCloseDwell patterns with every break locked and no CMU unreachable. -/
def State.closePattern (s : State) : State :=
  if s.cl.driver && s.cl.chained && s.cl.proc == 0 && !s.cl.renewDue then
    let n := if s.breaksLocked && !(s.cl.cmus.any fun (_, x) => x.state == 4) then s.cl.closeDwell + 1 else 0
    let t := s.modCl fun l => { l with closeDwell := n }
    if n < s.cfgGet 0x2887 0 then t
    else if s.cl.breakAged then t.modCl fun l => { l with renewDue := true }
    else
      ((((t.ringOut 1 0x09 0xFF s.patNo [0]).ringOut 2 0x09 0xFF s.patNo [0]).modCl fun l => { l with
        ring := .closed, chainMode := false, breakAfter := 0xFF, breakBefore := 0xFF, closeDwell := 0 })).clearCond 0x0803
  else s

/-- Loads that a closed main contactor held back in chain mode begin once both are open (R214). -/
def State.deferredLoads (s : State) : State :=
  if s.cl.chained && s.cl.proc == 0 && s.cl.driver && !s.mainClosed &&
      (s.cl.cmus.any fun (_, x) => x.state == 1 && x.needsLoad && !x.loadBad) then s.loadStart
  else s

/-- A capture whose groups have not all come within 3 patterns of T_s + 150 ms is incomplete (R233). -/
def State.stepPattern (s : State) : State :=
  if (s.cl.stepState == 1 || s.cl.stepState == 2) && decide (stampNs s.cl.stepTs + 180000000 < s.ns) then
    s.modCl fun l => { l with stepState := 4 }
  else s

/-- The cell link engine at a pattern start (R196, R203, R214, R226, R229, R236). -/
def State.cellPattern (s : State) : State :=
  let t := (s.driverPattern.closePattern).stepPattern
  let u := if t.cl.renewDue && t.cl.driver && t.cl.proc == 0 then t.renewalStart else t.deferredLoads
  (u.cond 0x0804 (u.cl.cmus.any fun (_, x) => x.state == 4)).ringServe

/-! ### The ring at the unit that repeats (R196, R205, R225, R237) -/

/-- What the driver tells its twin of the ring. -/
def State.ringShare (s : State) : RingShare :=
  { ring := s.cl.ring.code, found := s.cl.found, breakAfter := s.cl.breakAfter, breakBefore := s.cl.breakBefore
    version := s.cl.loaderVersion, renewals := s.cl.renewals.toNat, chain := s.cl.chainMode, slot := s.cl.slotEnd.isSome
    cmus := s.cl.cmus.map fun (c, x) => (c, {
      state := x.state, lowVer := x.lowVer, highVer := x.highVer, rounds := x.rounds, serial := x.serial, turnNs := x.turnNs }) }

/-- The ring state of a code (R204). -/
def ringOfCode (n : Nat) : RingState :=
  ([.off, .waking, .enumerating, .loading, .configuring, .closed, .chain, .singleA, .singleB, .renewing, .lost, .hold] :
    List RingState).getD n .off

/-- A CMU as the driver has it, beside what this unit has measured and copied itself. -/
def Cmu.taken (x : Cmu) (c : CmuShare) (fresh : Bool) : Cmu :=
  { x with
    state := c.state, lowVer := c.lowVer, highVer := c.highVer, rounds := c.rounds, serial := c.serial, turnNs := c.turnNs
    delayA := if fresh then none else x.delayA, delayB := if fresh then none else x.delayB }

/-- The twin's slot begins or ends (R205): this unit measures its own delays in it. -/
def State.slotTaken (s : State) (on : Bool) : State :=
  if on && !s.cl.echoSlot then
    let t := s.modCl fun l => { l with echoSlot := true, txWait := [] }
    t.enumerated.foldl State.echoCmu t
  else if !on && s.cl.echoSlot then s.modCl fun l => { l with echoSlot := false, txWait := [] }
  else s

/-- The unit that repeats takes the ring as its driver has it (R196, R225, R237); STOP values act when the driver begins a
ring start or a renewal (R236). -/
def State.takeRingShare (s : State) (x : RingShare) : State :=
  if s.cl.driver then s
  else
    let starts := (x.ring == 1 || x.ring == 2 || x.ring == 9) && s.cl.ring.code != x.ring
    let s0 := if starts then s.stopApply 0x2880 0x2888 else s
    let gone := s0.modCl fun l => { l with
      cmus := l.cmus.filter fun (c, _) => x.cmus.any (·.1 == c)
      ring := ringOfCode x.ring, found := x.found, breakAfter := x.breakAfter, breakBefore := x.breakBefore
      lastA := if x.breakAfter == 0xFF then x.found else x.breakAfter, foundClosed := x.breakAfter == 0xFF
      loaderVersion := x.version, renewals := BitVec.ofNat 32 x.renewals, chainMode := x.chain, renewing := x.ring == 9
      breakDue := l.breakDue && !x.chain }
    (x.cmus.foldl (fun t (c, y) => t.modCmu c fun z => z.taken y starts) gone).slotTaken x.slot

/-! ### Step capture requests (R231, R232) -/

/-- A capture is requested at T_s (R231, R232): rounded down to the 1 ms grid; merged into a pending one within 5 ms;
refused when one is busy, too late or more than 1 s ahead. The answer says whether it stands. -/
def State.requestStep (s : State) (ts : Stamp) : State × Bool :=
  let t := stampAt ts.epoch (stampNs ts / 1000000 * 1000000)
  let busy := s.cl.stepState == 1 || s.cl.stepState == 2
  let diff : Int := (stampNs t : Int) - stampNs s.cl.stepTs
  let refuse : State × Bool :=
    ((s.modCl fun l => { l with stepRefused := l.stepRefused + 1 }).raiseEvent 0x080A, false)
  if busy && s.cl.stepState == 1 && t.epoch == s.cl.stepTs.epoch && diff.natAbs ≤ 5000000 then (s, true)
  else if busy || t.epoch != s.tb.now.epoch || stampNs t + 100000000 < s.rowStartNs + 100000 ||
      s.ns + 1000000000 < stampNs t then refuse
  else
    (s.modCl fun l => { l with
      stepState := 1, stepId := (l.stepId + 1) % 256, stepTs := t, stepSend := true, stepGroups := 0, stepMarked := false
      stepData := [] }, true)

/-- A write of StepRequest (R231). A request that R232 refuses, or whose source is disabled, is answered 0x0B (assumption
16). -/
def State.stepRequestAct (t : State) (ts : Stamp) : Answer :=
  if !bit (t.cfgGet 0x2885 2) 2 then no t 0x0B
  else
    let (u, good) := t.requestStep ts
    if good then ok u else no u 0x0B

/-- STEP_REQUEST (R231, R236): acts at the next row. -/
def execStepRequest (r : Req) (ts : Stamp) (s : State) : Host.Outcome State Fault Refusal :=
  .next (s.liveReq r false 0x2886 0 (stampBytes ts) operator (.stepRequest r ts) fun t _ => t.stepRequestAct ts)

/-- STEP_LOCAL_DETECT (R231): the mean of the D0 results of the millisecond just ended against the one before. -/
def execStepLocalDetect (s : State) : Host.Outcome State Fault Refusal :=
  let now := ratMean s.cl.localNow
  let t := s.modCl fun l => { l with localPrev := now, localNow := [] }
  let lim := s.cfgGet 0x2885 1
  .next (match now, s.cl.localPrev with
    | some a, some b =>
      if lim != 0 && bit (s.cfgGet 0x2885 2) 0 && decide ((lim : Rat) ≤ ratAbs (a - b)) then
        (t.requestStep (stampAt s.tb.now.epoch (s.ns - 1000000))).1
      else t
    | _, _ => t)

end Sys2Proof.Machine
end

