-- ==== Sys2Proof/Machine/Fabric.lean ====
section
/-! DEFINITION. Fabric: the estimation fabric (R238 to R275, R556, R557): cell model, group updates, rests, capacity
and impedance learning, the string head and tail, learned-state records. -/

namespace Sys2Proof.Machine

/-! ### Contexts and the model's tables (R238, R240) -/

/-- A group context. -/
def State.ctx (s : State) (g : Nat) : Ctx := tabGet {} g s.ef.ctx

/-- A change to a group context. -/
def State.modCtx (s : State) (g : Nat) (f : Ctx → Ctx) : State :=
  s.modEf fun e => { e with ctx := tabMod {} g f e.ctx }

/-- The populated groups. -/
def State.populated (s : State) : List Nat := List.range s.groupCount

/-- An entry of `n` bytes of a table of the cell model. -/
def State.tableAt (s : State) (index n entry : Nat) : Nat :=
  leNat (memReadAll s.bytes (index * 65536 + n * entry) n)

/-- A temperature breakpoint, 0.01 °C. -/
def State.breakpoint (s : State) (t : Nat) : Int := s.cfgInt 0x2980 (2 + t) 16

/-- The pair of breakpoints around a temperature, and the weight of the upper one (R242). -/
def State.tempWeight (s : State) (t : Int) : Nat × Rat :=
  if t ≤ s.breakpoint 0 then (0, 0)
  else if s.breakpoint 7 ≤ t then (6, 1)
  else
    let j := ([1, 2, 3, 4, 5, 6].filter fun k => s.breakpoint k ≤ t).length
    (j, div64 ((t - s.breakpoint j : Int) : Rat) ((s.breakpoint (j + 1) - s.breakpoint j : Int) : Rat))

/-- Linear interpolation in binary64. -/
def lerp (a b w : Rat) : Rat := add64 a (mul64 (sub64 b a) w)

/-- A table's value at a grid point of SoC, interpolated in temperature. -/
def State.gridAt (s : State) (index n : Nat) (tw : Nat × Rat) (i : Nat) : Rat :=
  lerp (s.tableAt index n (64 * tw.1 + i)) (s.tableAt index n (64 * (tw.1 + 1) + i)) tw.2

/-- The SoC segment of a z and the place in it (R242): the place goes beyond the ends for z outside 0 to 1. -/
def socSegment (z : Rat) : Nat × Rat :=
  let x := mul64 63 z
  let i : Int := clampInt 0 62 x.floor
  (i.toNat, sub64 x (i : Rat))

/-- A parameter at (z, T), z clamped to 0 to 1 (R242). -/
def State.paramAt (s : State) (index n : Nat) (tw : Nat × Rat) (z : Rat) : Rat :=
  let (i, f) := socSegment (ratMax 0 (ratMin 1 z))
  lerp (s.gridAt index n tw i) (s.gridAt index n tw (i + 1)) f

/-- The open-circuit voltage at a grid point, V. -/
def State.ocvGrid (s : State) (tw : Nat × Rat) (i : Nat) : Rat := div64 (s.gridAt 0x2981 2 tw i) 10000

/-- The open-circuit voltage at (z, T), extended along its end segments (R242), V. -/
def State.ocvAt (s : State) (tw : Nat × Rat) (z : Rat) : Rat :=
  let (i, f) := socSegment z
  lerp (s.ocvGrid tw i) (s.ocvGrid tw (i + 1)) f

/-- The slope of a segment, V per unit of SoC. -/
def State.segSlope (s : State) (tw : Nat × Rat) (i : Nat) : Rat :=
  mul64 (sub64 (s.ocvGrid tw (i + 1)) (s.ocvGrid tw i)) 63

/-- dOCV/dz at z (R242). -/
def State.slopeAt (s : State) (tw : Nat × Rat) (z : Rat) : Rat := s.segSlope tw (socSegment z).1

/-- The z whose open-circuit voltage at T is a voltage (R242). -/
def State.ocvInverse (s : State) (tw : Nat × Rat) (v : Rat) : Rat :=
  let i := (((List.range 62).map (· + 1)).filter fun k => s.ocvGrid tw k ≤ v).length
  let lo := s.ocvGrid tw i
  div64 (add64 (i : Rat) (div64 (sub64 v lo) (sub64 (s.ocvGrid tw (i + 1)) lo))) 63

/-- The parameters of the model at (z, T): resistances in ohm times kR, time constants in ms, hysteresis in V. -/
structure Model where
  rs : Rat
  ra : Rat
  taua : Rat
  rb : Rat
  taub : Rat
  hchg : Rat
  hdis : Rat

/-- The model at (z, T) for a resistance ratio (R242). -/
def State.modelAt (s : State) (tw : Nat × Rat) (z kr : Rat) : Model :=
  let ohm (i : Nat) : Rat := div64 (mul64 (s.paramAt i 4 tw z) kr) 1000000
  { rs := ohm 0x2982, ra := ohm 0x2983, taua := s.paramAt 0x2984 4 tw z, rb := ohm 0x2985
    taub := s.paramAt 0x2986 4 tw z, hchg := div64 (s.paramAt 0x2987 2 tw z) 10000
    hdis := div64 (s.paramAt 0x2988 2 tw z) 10000 }

/-! ### Model check (R241) -/

/-- The bytes of the model's tables in index order (R241). -/
def State.modelBytes (s : State) : Bytes :=
  [(0x2981, 1024), (0x2982, 2048), (0x2983, 2048), (0x2984, 2048), (0x2985, 2048), (0x2986, 2048), (0x2987, 1024),
   (0x2988, 1024)].flatMap fun (i, n) => memReadAll s.bytes (i * 65536) n

/-- Whether the model meets R241, its check apart. -/
def State.modelConsistent (s : State) : Bool :=
  let ocvUp := (List.range 8).all fun t => (List.range 63).all fun i =>
    s.tableAt 0x2981 2 (64 * t + i) < s.tableAt 0x2981 2 (64 * t + i + 1)
  let temps := (List.range 7).all fun t => s.breakpoint t + 100 ≤ s.breakpoint (t + 1)
  let taus := (List.range 512).all fun e => 10 ≤ s.tableAt 0x2984 4 e && 10 ≤ s.tableAt 0x2986 4 e
  ocvUp && temps && taus && s.cfgGet 0x2980 12 != 0 && s.cfgGet 0x2980 11 < s.cfgGet 0x2980 10

/-- The fabric starts (R241, R254): the waiting model values act, the model is checked; without a valid one
FabricState is 1 and 0x0904 stands. -/
def State.fabricStart (s : State) : State :=
  let u := s.stopApply 0x2980 0x2988
  let t := (u.modBytes fun m => u.bytesWait.foldl (fun m (a, v) => memWrite m a (BitVec.ofNat 8 (v - 1))) m).modBytesWait
    fun _ => []
  let crc := crc32c t.modelBytes
  let good := crc == t.cfgGet 0x2980 15 && t.modelConsistent
  (t.modEf fun e => { e with
    modelCheck := crc, state := if good then 2 else 1, flags := setBit e.flags 0 false
    ctx := e.ctx.map fun (g, c) => (g, { c with everDone := false }) }).cond 0x0904 (!good)

/-- A write of FabricStop (R254): 1 only while every contactor is proven open. -/
def State.fabricStopAct (t : State) (value : Nat) : Answer :=
  if 1 < value then no t 0x0A
  else if value == 1 && !t.provenOpen then no t 0x0C
  else ok (t.modEf fun e => { e with stopDue := some (value == 1) })

/-- FABRIC_STOP (R254, R274): acts at the next pattern start. -/
def execFabricStop (r : Req) (value : Nat) (s : State) : Host.Outcome State Fault Refusal :=
  .next (s.liveReq r false 0x2989 0 (leBytes 1 value) engineer (.fabricStop r value) fun t _ => t.fabricStopAct value)

/-- A FabricStop write acts at a pattern start (R254). -/
def State.fabricStopPattern (s : State) : State :=
  match s.ef.stopDue with
  | none => s
  | some stop =>
    let t := (s.modEf fun e => { e with stopDue := none }).cfgPut 0x2989 0 (b2n stop)
    if stop then t.modEf fun e => { e with state := 0, flags := setBit e.flags 0 false }
    else if s.cfgGet 0x2989 0 == 1 then t.fabricStart
    else t

/-! ### Group start and update (R243 to R250, R556) -/

/-- The range of a z, −0.10 to 1.10 (R238). -/
def clampZ (z : Rat) : Rat := ratMax (rnd64 (-1 / 10)) (ratMin (rnd64 (11 / 10)) z)

/-- A square. -/
def sq64 (x : Rat) : Rat := mul64 x x

/-- A diagonal covariance, row major. -/
def diagP (a b c d : Rat) : List Rat := [a, 0, 0, 0, 0, b, 0, 0, 0, 0, c, 0, 0, 0, 0, d]

/-- Hmax of a point (R250). -/
def Model.hmax (m : Model) : Rat := ratMax m.hchg m.hdis

/-- The start of a group without learned state (R250), from its voltage in V and the current in mA. -/
def State.ctxStart (s : State) (c : Ctx) (tg : Int) (v i0 : Rat) : Ctx :=
  let tw := s.tempWeight tg
  let z1 := s.ocvInverse tw v
  let rs := (s.modelAt tw z1 1).rs
  let z := clampZ (s.ocvInverse tw (sub64 v (mul64 rs (div64 i0 1000))))
  let h := (s.modelAt tw z 1).hmax
  { c with
    born := true, z, va := 0, vb := 0, h := 0, kr := 1, z100 := none, cap := s.cfgGet 0x2980 12
    sig2 := rnd64 (9 / 10000), qg := 0, catchNet := none
    p := diagP (rnd64 (9 / 10000)) (sq64 (rnd64 (5 / 1000))) (sq64 (rnd64 (5 / 1000))) (sq64 h) }

/-- An entry of a covariance. -/
def pAt (p : List Rat) (i j : Nat) : Rat := p.getD (4 * i + j) 0

/-- A 4 by 4 matrix by its entries. -/
def mat (f : Nat → Nat → Rat) : List Rat :=
  (List.range 4).flatMap fun i => (List.range 4).map fun j => f i j

/-- A product of 4 by 4 matrices in binary64, terms left to right. -/
def matMul (a b : List Rat) : List Rat :=
  mat fun i j => (List.range 4).foldl (fun acc k => add64 acc (mul64 (pAt a i k) (pAt b k j))) 0

/-- A transpose. -/
def matT (a : List Rat) : List Rat := mat fun i j => pAt a j i

/-- What one update takes besides the context: the counted charge in µC, the time in ns, the mean current in A. -/
structure Drive where
  dq : Rat
  dt : Nat
  ibar : Rat

/-- The prediction of an update (R245, R246). -/
def State.predict (s : State) (c : Ctx) (tw : Nat × Rat) (d : Drive) : Ctx :=
  let p := s.modelAt tw c.z c.kr
  let dz := div64 d.dq c.cap
  let ms : Rat := (d.dt : Rat) / 1000000
  let ea := expF (ms / ratMax 1 p.taua)
  let eb := expF (ms / ratMax 1 p.taub)
  let gamma := div64 (s.cfgGet 0x2980 14 : Rat) 10
  let eh := expF (gamma * ratAbs dz)
  let rc (e v r : Rat) : Rat := add32 (mul32 e v) (mul32 (mul32 (rnd32 r) (rnd32 (1 - e))) (rnd32 d.ibar))
  let h := if 0 < dz then add32 (mul32 eh c.h) (mul32 (rnd32 (1 - eh)) (rnd32 p.hchg))
    else if dz < 0 then add32 (mul32 eh c.h) (-(mul32 (rnd32 (1 - eh)) (rnd32 p.hdis)))
    else c.h
  let drift := div64 (s.cfgGet 0x298A 3 : Rat) 100000
  let wz := add64 (mul64 c.sig2 (sq64 dz)) (mul64 (sq64 drift) (rnd64 ((d.dt : Rat) / 3600000000000)))
  let a (k : Nat) : Rat := if k == 1 then ea else if k == 2 then eb else if k == 3 then eh else 1
  let w (k : Nat) : Rat :=
    if k == 0 then wz else if k == 3 then sq64 (rnd64 (2 / 10000)) else sq64 (rnd64 (1 / 10000))
  { c with
    z := clampZ (add64 c.z dz)
    va := rc ea c.va p.ra, vb := rc eb c.vb p.rb, h
    p := mat fun i j =>
      let v := mul64 (mul64 (a i) (pAt c.p i j)) (a j)
      if i == j then add64 v (w i) else v }

/-- The correction of an update by a voltage in V and the current at the sample in A (R245, R247). `rs` is the series
resistance of the model looked up at the start of the update. -/
def State.correct (s : State) (c : Ctx) (tw : Nat × Rat) (rs vg i0 : Rat) : Ctx × Bool :=
  let sl := s.slopeAt tw c.z
  let mn := div64 (s.cfgGet 0x298A 1 : Rat) 1000000
  let gs := div64 (s.cfgGet 0x298A 2 : Rat) 10
  let y := add64 (add64 (add64 (add64 (s.ocvAt tw c.z) c.h) c.va) c.vb) (mul64 rs i0)
  let hh (k : Nat) : Rat := if k == 0 then sl else 1
  let ph (i : Nat) : Rat := (List.range 4).foldl (fun acc j => add64 acc (mul64 (pAt c.p i j) (hh j))) 0
  let v := add64 ((List.range 4).foldl (fun acc i => add64 acc (mul64 (hh i) (ph i))) 0) (sq64 mn)
  let e := sub64 vg y
  if sq64 e ≤ mul64 (sq64 gs) v then
    let kk (i : Nat) : Rat := div64 (ph i) v
    let jj := mat fun i j => sub64 (if i == j then 1 else 0) (mul64 (kk i) (hh j))
    let jpj := matMul (matMul jj c.p) (matT jj)
    ({ c with
      z := clampZ (add64 c.z (mul64 (kk 0) e)), va := rnd32 (add64 c.va (mul64 (kk 1) e)), vb := rnd32 (add64 c.vb (mul64 (kk 2) e))
      h := rnd32 (add64 c.h (mul64 (kk 3) e)), rejectRun := 0, flags := setBit c.flags 2 false
      p := mat fun i j => add64 (pAt jpj i j) (mul64 (mul64 (kk i) (sq64 mn)) (kk j)) }, false)
  else
    let n := c.rejectRun + 1
    let widen := sq64 (div64 e (ratMax (ratAbs sl) (rnd64 (2 / 10))))
    ({ c with
      rejectRun := if 10 ≤ n then 0 else n, flags := setBit c.flags 2 true
      p := if 10 ≤ n then mat fun i j => if i == 0 && j == 0 then add64 (pAt c.p 0 0) widen else pAt c.p i j else c.p },
      10 ≤ n)

/-- One end point of R268 with its hysteresis evaluated at the point, iterated until it moves by less than 10^-6. -/
def endPoint (f : Rat → Rat) : Nat → Rat → Rat
  | 0, z => z
  | k + 1, z =>
    let n := f z
    if ratAbs (n - z) < 1 / 1000000 then n else endPoint f k n

/-- The end points and charges of a group (R268): z_lo, z_hi, Q_dn, Q_up. -/
def State.endPoints (s : State) (c : Ctx) (tw : Nat × Rat) : Rat × Rat × Rat × Rat :=
  let ib := s.ef.iBar.getD 0
  let rs := (s.modelAt tw c.z c.kr).rs
  let dis := div64 (ratMin ib 0) 1000
  let chg := div64 (ratMax ib 0) 1000
  let vlo := div64 (s.cfgGet 0x2980 11 : Rat) 10000
  let vhi := div64 (s.cfgGet 0x2980 10 : Rat) 10000
  let lo := endPoint (fun z => s.ocvInverse tw (sub64 (add64 vlo (s.modelAt tw z 1).hdis) (mul64 dis rs))) 32 0
  let hi := endPoint (fun z => s.ocvInverse tw (sub64 (sub64 vhi (s.modelAt tw z 1).hchg) (mul64 chg rs))) 32 1
  (lo, hi, mul64 (sub64 c.z lo) c.cap, mul64 (sub64 hi c.z) c.cap)

/-- The published figures of a group at the end of its update (R248, R252, R265, R275). -/
def State.publishCtx (s : State) (c : Ctx) (tw : Nat × Rat) (vg : Option Nat) (predicted : Bool) : Ctx :=
  let sz := sqrt64 (pAt c.p 0 0)
  let (lo, hi, dn, up) := s.endPoints c tw
  let near (lim : Nat) : Bool :=
    (vg.map fun v => decide (((v : Int) - lim).natAbs ≤ s.cfgGet 0x298A 5)).getD false
  let nearLimit := near (s.cfgGet 0x2980 10) || near (s.cfgGet 0x2980 11)
  let close := decide (sub64 c.z lo < 5 / 100) || decide (sub64 hi c.z < 5 / 100)
  let f0 := setBit (setBit (setBit c.flags 0 predicted) 1 nearLimit) 4 false
  { c with
    sigma2 := min 65535 (pub (2 * sz * 65536)).toNat
    conf := (pub (mul64 1000 (ratMax 0 (sub64 1 (div64 (2 * sz) (rnd64 (5 / 100))))))).toNat
    rs := min 0xFFFFFFFE (pub (mul64 (s.paramAt 0x2982 4 tw c.z) c.kr)).toNat
    qdn := dn, qup := up, flagged := nearLimit || close
    flags := setBit (setBit f0 6 (decide (ratAbs (s.slopeAt tw c.z) ≤ 2 / 10))) 7 false }

/-- The full covariance of a restored context at its first update (R556): P = diag(Pzz, (5 mV)², (5 mV)², Hmax²). -/
def State.fillP (s : State) (c : Ctx) (tw : Nat × Rat) : Ctx :=
  if c.p.length == 16 then c
  else { c with p := diagP (c.p.getD 0 0) (sq64 (rnd64 (5 / 1000))) (sq64 (rnd64 (5 / 1000))) (sq64 (s.modelAt tw c.z c.kr).hmax) }

/-- What drives a group's update (R244, R272): the sums since its own last update, or after a restore the net charge
since its SOC record. -/
def State.driveOf (s : State) (c : Ctx) (bleed : Rat) : Drive :=
  match c.catchNet with
  | some q =>
    let start := if c.catchAt.epoch == s.tb.now.epoch then c.catchAt else s.pm.castOnStart
    let dt := s.patStart - stampNs start
    let dq : Rat := (s.ef.snapNet - q : Int)
    { dq, dt, ibar := div64 dq (div64 (dt : Rat) 1000) }
  | none =>
    let eff := div64 (s.cfgGet 0x2980 13 : Rat) 1000000
    { dq := sub64 (sub64 (mul64 eff (c.accIn : Rat)) (c.accOut : Rat)) bleed, dt := c.accNs
      ibar := div64 ((c.accIn - c.accOut : Int) : Rat) (div64 (c.accNs : Rat) 1000) }

/-- The rest duration D of a temperature at the rest's start, s (R255). -/
def State.restSeconds (s : State) (tg : Int) : Nat :=
  if tg < s.cfgInt 0x298B 3 16 then s.cfgGet 0x298B 2 else s.cfgGet 0x298B 1

/-- A valid rest point corrects z (R258): the gain on z alone, the full update of P with H = [1, 0, 0, 0], then va and
vb to 0 with variance (0.5 mV)². -/
def Ctx.restCorrect (c : Ctx) (zr sr : Rat) : Ctx :=
  let r := sq64 sr
  let v := add64 (pAt c.p 0 0) r
  let k (i : Nat) : Rat := div64 (pAt c.p i 0) v
  let e := sub64 zr c.z
  let p1 := mat fun i j => sub64 (pAt c.p i j) (mul64 (k i) (pAt c.p 0 j))
  { c with
    z := clampZ (add64 c.z (mul64 (k 0) e)), h := rnd32 (c.h + mul64 (k 3) e), va := 0, vb := 0
    p := mat fun i j =>
      if (i == 1 || i == 2 || j == 1 || j == 2) then (if i == j then sq64 (rnd64 (5 / 10000)) else 0) else pAt p1 i j }

/-- A fraction of 2^32 (R270). -/
def frac32 (z : Rat) : Int := clampInt 0 4294967295 (pub (z * 4294967296))

/-- The content of a CAP record (R270). -/
def State.capRecord (s : State) (k : Nat) : List Int :=
  (List.range 32).flatMap fun i =>
    let c := s.ctx (32 * k + i)
    let (z, q) := match c.ref with
      | some (z, _, q) => (frac32 z, pub q)
      | none => (-1, 0)
    [pub c.cap, pub (2 * sqrt64 c.sig2 * 1000000), z, q, (c.refStamp.sec : Int), (b2n (!c.born) : Int)]

/-- Write the CAP record of a group (R270). -/
def State.writeCap (s : State) (g : Nat) : State := s.journal (0x0410 + g / 32) (s.capRecord (g / 32))

/-- The reference of a group takes a rest point, which the CAP record then holds, or the point waits for its learning event
(R260, R270). -/
def State.restReference (s : State) (g : Nat) (zr sr : Rat) : State :=
  let c := s.ctx g
  let take (t : State) : State :=
    (t.modCtx g fun x => { x with ref := some (zr, sr, x.qg), refStamp := s.tb.now }).writeCap g
  match c.ref with
  | none => take s
  | some (_, _, q) =>
    let span := mul64 (div64 (s.cfgGet 0x298B 4 : Rat) 1000) c.cap
    if span ≤ ratAbs (sub64 c.qg q) then s.modCtx g fun x => { x with learn := some (zr, sr, x.qg), learnStamp := s.tb.now }
    else if c.refStamp.epoch != s.tb.now.epoch || c.refStamp.sec + s.cfgGet 0x298B 5 < s.tb.now.sec then take s
    else s

/-- A valid rest point of a group (R257, R258, R260): it corrects the state, is marked, and serves the reference; with
half of the populated, non-stale groups RestAge starts again. -/
def State.restPoint (s : State) (g : Nat) (zr sr : Rat) : State :=
  let t := (s.restReference g zr sr).modCtx g fun c => { c.restCorrect zr sr with flags := setBit c.flags 5 true }
  let q := if t.ef.restQualified.contains g then t.ef.restQualified else g :: t.ef.restQualified
  let live := (t.populated.filter fun k => t.ageOf k < 4).length
  let u := t.modEf fun e => { e with restQualified := q }
  if live ≤ 2 * q.length then u.modEf fun e => { e with restAgePat := 0, lastRest := s.tb.now } else u

/-- The off time before a cast-on as a rest (R259), at a group's first fresh voltage: it runs from the newest SOC record,
in whose epoch the timebase is locked, and no main contactor has closed since the cast-on. -/
def State.offTimeRest (s : State) (g : Nat) (tw : Nat × Rat) (vg : Rat) : State :=
  let c := s.ctx g
  if !c.offTry then s
  else
    let t := s.modCtx g fun x => { x with offTry := false }
    let zr := s.ocvInverse tw (sub64 vg c.h)
    let sl := ratAbs (s.slopeAt tw zr)
    match s.ef.offFrom with
    | none => t
    | some p =>
      if s.tb.state == .locked && p.epoch == s.tb.now.epoch && !s.mainClosed &&
          2 * s.restSeconds c.tg * 1000000000 ≤ s.ns - stampNs p && decide (2 / 10 < sl) then
        t.restPoint g zr (div64 (div64 (s.cfgGet 0x298A 4 : Rat) 1000000) sl)
      else t

/-- One update of a group (R244 to R250). A group without learned state starts when its voltage, its temperature and
the current are valid; else it waits. -/
def State.groupUpdate (s : State) (g : Nat) : State :=
  let x := s.group g
  let tgo := tabGet none g s.tm.groupT
  let c0 := s.ctx g
  let c1 := { c0 with tg := tgo.getD c0.tg }
  let tw := s.tempWeight c1.tg
  let vg : Option Rat := if x.age == 0 then x.voltage.map fun v => div64 (v : Rat) 10000 else none
  let i0 : Option Rat := s.ef.headI0.map fun i => div64 (i : Rat) 1000
  let finish (t : State) (c : Ctx) (predicted : Bool) : State :=
    (t.modCtx g fun _ => { t.publishCtx c tw x.voltage predicted with
      hist := (s.patStart, c.z, c.tg) :: c.hist.take 31
      accIn := 0, accOut := 0, accNs := 0, done := true, noUpd := 0, everDone := true, catchNet := none }).modGroup g
      fun y => { y with bleedNow := 0 }
  if !c0.born then
    match vg, i0, tgo with
    | some v, some i, some t => finish s (s.ctxStart c1 t v (i * 1000)) false
    | _, _, _ => s.modCtx g fun c => { c with done := true, noUpd := 0 }
  else
    let d := s.driveOf c1 x.bleedNow
    let c2 := s.predict (s.fillP c1 tw) tw d
    let c3 := { c2 with qg := add64 c2.qg d.dq }
    match vg, i0, tgo with
    | some v, some i, some _ =>
      let (c4, ten) := s.correct c3 tw (s.modelAt tw c1.z c1.kr).rs v i
      let t := if ten then s.raiseEvent 0x0903 g else s
      (finish t c4 false).offTimeRest g tw v
    | some v, none, some _ => (finish s { c3 with flags := setBit c3.flags 2 false } true).offTimeRest g tw v
    | _, _, _ => finish s { c3 with flags := setBit c3.flags 2 false } true

/-! ### Head, tail, deadlines (R243, R251 to R253, R266 to R269, R557) -/

/-- The totals at a pattern start (R243). -/
def State.fabricSnap (s : State) : State :=
  s.modEf fun e => { e with
    snapIn := s.ss.chargeIn, snapOut := s.ss.chargeOut, snapNet := s.ss.charge, headRun := false, headDue := false, tailRun := false
    order := [], running := []
    ctx := e.ctx.map fun (g, c) => (g, { c with done := false }) }

/-- A D0 result centred at or before the pattern start that comes after it, before the head runs, is the one at which the
totals are taken (R125, R243). -/
def State.lateSnap (s : State) (stamp : Nat) : State :=
  if !s.ef.headRun && (s.rows.lastPat.map fun p => decide (s.centreOf stamp ≤ (p * 10000000 : Nat))).getD false then
    s.modEf fun e => { e with snapIn := s.ss.chargeIn, snapOut := s.ss.chargeOut, snapNet := s.ss.charge }
  else s

/-- The smoothed current (R268). -/
def State.smooth (s : State) (dt : Nat) : State :=
  match s.ss.current with
  | none => s
  | some i =>
    let x : Rat := i
    if s.ef.smoothFree || s.ef.iBar.isNone then s.modEf fun e => { e with iBar := some x, smoothFree := false }
    else
      let k := sub64 1 (expF ((dt : Rat) / ((s.cfgGet 0x298D 2 : Rat) * 1000000000)))
      s.modEf fun e => { e with iBar := e.iBar.map fun b => add64 b (mul64 k (sub64 x b)) }

/-- This pattern is a rest pattern (R255): |Current| below C/500, or the string open. -/
def State.restPattern (s : State) : Bool :=
  let lim : Rat := (s.cfgGet 0x2980 12 : Rat) / 1800000000
  s.provenOpen || (s.ss.current.map fun i => decide (((i.natAbs : Nat) : Rat) < lim)).getD false

/-- A group's rest clock in a pattern (R255 to R257). -/
def State.restClock (s : State) (rest : Bool) (g : Nat) : State :=
  let x := s.group g
  let tg := tabGet none g s.tm.groupT
  let stale := 4 ≤ x.age
  let bleeds := bit x.flags 1
  s.modCtx g fun c =>
    if !rest || bleeds || stale then
      { c with restPat := 0, restV := [], v1 := none, v2 := none, restTaken := false, restBad := false
               flags := setBit (setBit c.flags 3 false) 5 false }
    else
      let first := c.restPat == 0
      let t0 := if first then tg.getD c.tg else c.restTg
      { c with
        restPat := c.restPat + 1, restTg := t0
        restBad := (if first then tg.isNone else c.restBad) || decide (200 < (tg.getD c.tg - t0).natAbs)
        restV := (x.voltage.getD 0) :: c.restV.take 99, flags := setBit c.flags 3 true }

/-- The rest clocks of a pattern, once the thermal manager has assigned its temperatures (R255): while the fabric runs
(R254). A rest point of an earlier rest no longer counts once the rest has ended (R258). -/
def State.restClocks (s : State) : State :=
  if s.ef.state != 2 then s
  else
    let rest := s.restPattern
    s.populated.foldl (fun t g => t.restClock rest g) (if rest then s else s.modEf fun e => { e with restQualified := [] })

/-- Free lanes take the next groups of the order (R37, R251). -/
def Fabric.fill (e : Fabric) : Fabric :=
  let n := 16 - e.running.length
  { e with running := e.running ++ e.order.take n, order := e.order.drop n }

/-- A group is flagged for this pattern (R252). -/
def State.flaggedNow (s : State) (g : Nat) : Bool :=
  (s.ctx g).flagged || bit (s.ctx g).flags 4 || g == s.ef.weakest || g == s.ef.strongest

/-- The order in which the groups start (R251): the flagged ones, then the others from RoundRobinStart, wrapping. -/
def State.startOrder (s : State) : List Nat :=
  let rest := s.populated.filter fun g => !s.flaggedNow g
  (s.populated.filter s.flaggedNow) ++ (rest.filter fun g => decide (s.ef.rrStart ≤ g)) ++
    (rest.filter fun g => decide (g < s.ef.rrStart))

/-- The string head (R243, R251, R266, R268): the shared inputs, the sums of every group, the start order; the lanes take
their first groups. `dIn` and `dOut` are the charge totals' growth since the last head. -/
def State.stringHead (s : State) (dIn dOut : Int) : State :=
  let dt := match s.ef.patStamp with
    | some p => s.patStart - p
    | none => 0
  let known := s.ef.patStamp.isSome
  let gs := s.populated
  let order := if s.ef.state == 2 then s.startOrder else []
  let s0 := s.modEf fun e => { e with
    headRun := true, headDt := dt, headI0 := s.ss.currentAt, headIn := e.snapIn, headOut := e.snapOut
    patStamp := some s.patStart, restAgePat := e.restAgePat + 1, flagged := (gs.filter s.flaggedNow).length
    offFrom := if s.mainClosed then none else e.offFrom, order, running := []
    rrStart := if gs.isEmpty then 0 else (e.rrStart + 1) % gs.length }
  let s1 := gs.foldl (fun t g => t.modCtx g fun c =>
    if known then { c with accIn := c.accIn + dIn, accOut := c.accOut + dOut, accNs := c.accNs + dt } else c) s0
  (s1.smooth dt).modEf Fabric.fill

/-- The steep bands at a temperature (R266). -/
def State.steepBands (s : State) (t : Int) : Nat × Nat :=
  let tw := s.tempWeight t
  let steep (i : Nat) : Bool := decide (2 / 10 < ratAbs (s.segSlope tw i))
  let lowN := ((List.range 63).takeWhile steep).length
  let highN := ((List.range 63).reverse.takeWhile steep).length
  let code (k : Nat) : Nat := min 65535 (pub ((k : Rat) * 65536 / 63)).toNat
  (code lowN, if highN == 0 then 0xFFFF else code (63 - highN))

/-- The mean group temperature. -/
def State.meanTemp (s : State) : Int :=
  let ts := s.populated.filterMap fun g => tabGet none g s.tm.groupT
  match meanOf ts with
  | some m => ratTrunc m
  | none => 2500

/-- The window a rest request asks for, s (R266). -/
def State.restWindow (s : State) : Nat := max (s.cfgGet 0x298B 7) (s.restSeconds s.meanTemp + 600)

/-- The group of the least charge in a direction. -/
def State.leastOf (s : State) (f : Ctx → Rat) (gs : List Nat) : Option (Nat × Rat) :=
  gs.foldl (fun o g => match o with
    | none => some (g, f (s.ctx g))
    | some (k, v) => if f (s.ctx g) < v then some (g, f (s.ctx g)) else some (k, v)) none

/-- The dispatchable state of charge (R269): raw from the weakest and the strongest group, the output within the slew
limit, at once at 0 and 1 and in the first valid pattern. -/
def State.dispatchable (s : State) (dn up : Rat) : State :=
  let raw := if dn ≤ 0 then 0 else if up ≤ 0 then 1 else div64 dn (add64 dn up)
  let none' := decide (dn ≤ 0) && decide (up ≤ 0)
  let step := mul64 (div64 (s.cfgGet 0x298D 1 : Rat) 100000) (div64 (s.ef.headDt : Rat) 1000000000)
  let d := sub64 raw s.ef.dispSoc
  let jump := s.ef.outputFree || raw = 0 || raw = 1
  let out := if jump then raw else if ratAbs d ≤ step then raw else if 0 < d then add64 s.ef.dispSoc step
    else sub64 s.ef.dispSoc step
  (s.modEf fun e => { e with
    dispRaw := raw, dispSoc := out, outputFree := false
    flags := setBit (setBit e.flags 1 none') 2 (decide (out ≠ raw)) }).cond 0x090B none'

/-- The sums and extremes of the string tail (R275). -/
def State.tailFigures (s : State) (gs : List Nat) : State :=
  let soc (c : Ctx) : Nat := (clampInt 0 65535 (pub (c.z * 65536))).toNat
  let cs := gs.map s.ctx
  let capSum := sum64 (cs.map (·.cap))
  let ocv (c : Ctx) : Rat := add64 (s.ocvAt (s.tempWeight c.tg) c.z) c.h
  s.modEf fun e =>
    if cs.isEmpty then e
    else { e with
      minSoc := (cs.map soc).foldl min 65535, maxSoc := (cs.map soc).foldl max 0
      minConf := (cs.map (·.conf)).foldl min 1000
      minCap := some (pub ((cs.map (·.cap)).foldl ratMin (cs.headD {}).cap)).toNat
      maxRs := some ((cs.map (·.rs)).foldl max 0), rsSum := some (cs.map (·.rs)).sum
      ocvSum := some (pub (mul64 (sum64 (cs.map ocv)) 1000))
      meanSoc := if capSum = 0 then 0
        else (clampInt 0 65535 (pub (div64 (sum64 (cs.map fun c => mul64 c.z c.cap)) capSum * 65536))).toNat }

/-- The string tail (R251, R253, R266, R269, R557). -/
def State.stringTail (s : State) : State :=
  let gs := s.populated
  let s0 := gs.foldl (fun t g => if (t.ctx g).done then t else t.modCtx g fun c => { c with noUpd := c.noUpd + 1 }) s
  let born := gs.filter fun g => (s0.ctx g).born
  let valid := bit s0.ef.flags 0 || (!gs.isEmpty && gs.all fun g => (s0.ctx g).born && (s0.ctx g).everDone)
  let ns := s.ns - s.patStart - 1000000
  let (low, high) := s0.steepBands s0.meanTemp
  let ask := s0.cfgGet 0x298B 6 * 100 ≤ s0.ef.restAgePat
  let s1 := s0.modEf fun e => { e with
    tailRun := true, durationNs := ns, durationMax := max e.durationMax ns, steepLow := low, steepHigh := high
    flags := setBit (setBit e.flags 0 valid) 3 ask }
  let s2 := match s1.leastOf (·.qdn) born, s1.leastOf (·.qup) born with
    | some (w, dn), some (t, up) =>
      let u := s1.modEf fun e => { e with weakest := w, strongest := t, qdn := some dn, qup := some up }
      if valid then u.dispatchable dn up else u
    | _, _ => s1
  let warn := s.cfgGet 0x298A 6
  let late := gs.find? fun g => 10 ≤ (s2.ctx g).noUpd
  let unsure := born.find? fun g => warn != 0 && decide ((s2.ctx g).conf < warn)
  (((s2.tailFigures born).cond 0x0902 late.isSome (late.getD 0)).cond 0x0905 unsure.isSome (unsure.getD 0)).cond 0x0907
    (ask && low == 0 && high == 0xFFFF)

/-- Every group of the pattern has finished (R251): no lane works and none waits. -/
def Fabric.idle (e : Fabric) : Bool := e.order.isEmpty && e.running.isEmpty

/-- The lanes work on group contexts: between the string head and the string tail, while the fabric runs. -/
def Fabric.active (e : Fabric) : Bool := e.state == 2 && e.headRun && !e.tailRun

/-- GROUP_UPDATE_COMPLETE (R37, R245, R251): a lane completes its group and takes the next in the order; when every group
has finished the string tail runs. A group that no lane works on completes nothing. -/
def execGroupUpdateComplete (group : Nat) (s : State) : Host.Outcome State Fault Refusal :=
  .next (if !s.ef.active || !s.ef.running.contains group then s
    else
      let t := (s.groupUpdate group).modEf fun e => { e with running := e.running.filter (· != group) }.fill
      if t.ef.idle then t.stringTail else t)

/-- Groups are skipped or abandoned (R253), each with a raise of 0x0901. -/
def State.skipGroups (s : State) (gs : List Nat) : State :=
  let t := gs.foldl (fun u k => u.modCtx k fun c => { c with flags := setBit c.flags 4 true, flagged := true }) s
  gs.foldl (fun u k => u.raiseEvent 0x0901 k) (t.modEf fun e => { e with skipped := e.skipped + BitVec.ofNat 32 gs.length })

/-- FABRIC_SKIP_DEADLINE (R253): at 6.8 ms the groups that no lane has taken are skipped. The command brings nothing. -/
def execFabricSkipDeadline (_nothing : Unit) (s : State) : Host.Outcome State Fault Refusal :=
  let t := s.runTo (s.patStart + 6800000)
  .next (if !t.ef.active then t else (t.skipGroups t.ef.order).modEf fun e => { e with order := [] })

/-- FABRIC_ABANDON_DEADLINE (R253): at 6.9 ms a group still running, or not yet started, is abandoned, and the string tail
starts. -/
def execFabricAbandonDeadline (s : State) : Host.Outcome State Fault Refusal :=
  let t := s.runTo (s.patStart + 6900000)
  .next (if !t.ef.active then t
    else ((t.skipGroups (t.ef.running ++ t.ef.order)).modEf fun e => { e with running := [], order := [] }).stringTail)

/-! ### Learned-state records (R270, R543, R546) -/

/-- The content of a SOC record (R270). -/
def State.socRecord (s : State) (k : Nat) : List Int :=
  ((List.range 64).flatMap fun i =>
    let c := s.ctx (64 * k + i)
    [frac32 c.z, pub (sqrt64 (pAt c.p 0 0) * 100000), pub (c.h * 10000), pub c.qg, (b2n (!c.born) : Int)]) ++
  [s.ss.charge] ++ stampInts s.tb.now ++ [(s.ty.counter : Int)]

/-- The content of an IMP record (R270). -/
def State.impRecord (s : State) (k : Nat) : List Int :=
  (List.range 64).flatMap fun i =>
    let c := s.ctx (64 * k + i)
    [pub (c.kr * 10000), (c.z100.map pub).getD 0xFFFFFFFF, (b2n (!c.born) : Int)]

/-- The content of the STR record (R270). -/
def State.strRecord (s : State) : List Int :=
  [(s.ef.iBar.map pub).getD (-2147483648), pub (s.ef.dispSoc * 65536), ((s.ef.restAgePat / 100 : Nat) : Int)] ++
    stampInts s.ef.lastRest ++ [(s.cfgGet 0x2980 1 : Int), (s.id.learnedFormat : Int), (b2n s.ef.outputFree : Int)]

/-- Write the SOC records and the STR record (R270). -/
def State.writeSoc (s : State) : State :=
  ((List.range 8).foldl (fun t k => t.journal (0x0400 + k) (s.socRecord k)) s).journal 0x0430 s.strRecord

/-- Write the IMP records (R270). -/
def State.writeImp (s : State) : State :=
  ((List.range 8).foldl (fun t k => t.journal (0x0420 + k) (s.impRecord k)) s).modEf fun e => { e with impChanged := false }

/-- Write every learned-state record. -/
def State.writeLearned (s : State) : State :=
  ((List.range 16).foldl (fun t k => t.journal (0x0410 + k) (s.capRecord k)) s).writeSoc.writeImp

/-- LEARNED_STATE_WRITE (R270): every 60 s. -/
def execLearnedStateWrite (s : State) : Host.Outcome State Fault Refusal := .next s.writeSoc

/-- IMP_RECORD_WRITE (R270): every 10 min if any value changed. -/
def execImpRecordWrite (s : State) : Host.Outcome State Fault Refusal :=
  .next (if s.ef.impChanged then s.writeImp else s)

/-- LearnedStateDigest (R273): SHA-256 over the payloads of the SOC, CAP, IMP and STR records in order. -/
def State.learnedDigest (s : State) : Bytes :=
  let ids := (List.range 8).map (0x0400 + ·) ++ (List.range 16).map (0x0410 + ·) ++ (List.range 8).map (0x0420 + ·) ++ [0x0430]
  sha256 (ids.flatMap fun id => Config.recordBytes id ((s.recall id).getD []))

/-- A group's context from its records (R556, R272). A record without a copy, or a group marked never learned, gives the
start of R250. -/
def State.restoreCtx (s : State) (powerFail : Bool) (soc cap imp : Option (List Int)) (g : Nat) : Ctx :=
  let l := soc.getD []
  let at' (x : List Int) (k : Nat) : Int := x.getD k 0
  let i := 5 * (g % 64)
  if l.isEmpty || at' l (i + 4) == 1 then {}
  else
    let cl := cap.getD []
    let j := 6 * (g % 32)
    let noCap := cl.isEmpty || at' cl (j + 5) == 1
    let il := imp.getD []
    let m := 3 * (g % 64)
    let noImp := il.isEmpty || at' il (m + 2) == 1
    let capv : Rat := if noCap then (s.cfgGet 0x2980 12 : Rat) else (at' cl j : Rat)
    let sc : Rat := if noCap then 3 / 100 else (at' cl (j + 1) : Rat) / 2000000
    let sz : Rat := (at' l (i + 1) : Rat) / 100000
    let wide : Rat := if powerFail then sq64 (div64 2000000000 capv) else 0
    { born := true, z := rnd64 ((at' l i : Rat) / 4294967296), h := rnd32 ((at' l (i + 2) : Rat) / 10000)
      qg := (at' l (i + 3) : Rat), p := [add64 (sq64 sz) wide], cap := capv, sig2 := sq64 sc
      kr := if noImp then 1 else rnd32 ((at' il m : Rat) / 10000)
      z100 := if noImp || at' il (m + 1) == 0xFFFFFFFF then none else some (at' il (m + 1) : Rat)
      ref := if noCap || at' cl (j + 2) < 0 then none
        else some ((at' cl (j + 2) : Rat) / 4294967296, ((Config.free (s.freeCount + g) : Nat) : Rat) / 1000000, (at' cl (j + 3) : Rat))
      refStamp := { epoch := s.tb.now.epoch, sec := (at' cl (j + 4)).toNat }
      offTry := true
      catchNet := some (at' l 320)
      catchAt := { epoch := (at' l 321).toNat, sec := (at' l 322).toNat, ns := (at' l 323).toNat } }

/-- A learned-state format is this skein's or one that it converts (R272, R273, R527). -/
def State.formatKnown (s : State) (str : List Int) : Bool :=
  str.isEmpty || (decide ((s.id.convertFrom : Int) ≤ str.getD 7 0) && decide (str.getD 7 0 ≤ (s.id.learnedFormat : Int)))

/-- The newest stamp of the SOC records (R259). -/
def State.newestSoc (s : State) : Option Stamp :=
  ((List.range 8).filterMap fun k => (s.recall (0x0400 + k)).map fun l =>
    ({ epoch := (l.getD 321 0).toNat, sec := (l.getD 322 0).toNat, ns := (l.getD 323 0).toNat } : Stamp)).foldl
    (fun o x => match o with
      | none => some x
      | some y => some (if stampBefore y x then x else y)) none

/-- The learned state at a cast-on (R272, R556): from the journal, or defaults where the records' format differs; 0x090A
follows if no transfer comes. The rest reference's σ, which the CAP record does not hold, is free (assumption 4). -/
def State.restoreLearned (s : State) (powerFail : Bool) : State :=
  let str := (s.recall 0x0430).getD []
  let at' (k : Nat) : Int := str.getD k 0
  let never := str.isEmpty || at' 8 == 1
  let s0 := s.modEf fun e => { e with digestOn := true }
  if !s.formatKnown str then s0.modEf fun e => { e with ctx := [], learnedSource := 2, formatBad := true }
  else
    let ctx := (List.range 512).foldl (fun t g => tabPut {} g
      (s.restoreCtx powerFail (s.recall (0x0400 + g / 64)) (s.recall (0x0410 + g / 32)) (s.recall (0x0420 + g / 64)) g) t) []
    (s0.modEf fun e => { e with
      ctx, learnedSource := 0, formatBad := false, offFrom := s.newestSoc
      iBar := if never || at' 0 == -2147483648 then none else some (at' 0 : Rat)
      smoothFree := never || at' 0 == -2147483648, outputFree := never
      dispSoc := if never then 0 else (at' 1 : Rat) / 65536
      restAgePat := if never then 0 else (at' 2).toNat * 100
      lastRest := if never then {} else { epoch := (at' 3).toNat, sec := (at' 4).toNat, ns := (at' 5).toNat } }).modFreeCount (· + 512)

/-- No transfer has come for records of a differing format (R272): 0x090A. -/
def State.formatFault (s : State) : State :=
  if s.ef.formatBad then (s.modEf fun e => { e with formatBad := false }).raiseEvent 0x090A else s

/-- A write of LearnedStateReset (R254, R272, R274): while FabricStop is 1; it acts at the next pattern start. -/
def State.learnedResetAct (t : State) : Answer :=
  if t.cfgGet 0x2989 0 != 1 then no t 0x0B else ok (t.modEf fun e => { e with resetDue := true })

/-- LearnedStateReset acts (R272): every group takes the start of R250, and the records are rewritten with that state. -/
def State.learnedResetPattern (s : State) : State :=
  if !s.ef.resetDue then s
  else (s.modEf fun e => { e with
    resetDue := false, ctx := [], learnedSource := 2, iBar := none, smoothFree := true, outputFree := true, restQualified := [] }).writeLearned

/-- LEARNED_STATE_RESET (R254, R272, R274): acts at the next pattern start. -/
def execLearnedStateReset (r : Req) (s : State) : Host.Outcome State Fault Refusal :=
  .next (s.liveReq r false 0x298F 0 [0x5C] engineer (.learnedStateReset r) fun t _ => t.learnedResetAct)

/-! ### Rest samples and capacity learning (R256 to R262) -/

/-- The mean of a group's voltages over the last 100 patterns, V. -/
def Ctx.restMean (c : Ctx) : Rat := div64 ((c.restV.sum : Nat) : Rat) (10000 * (c.restV.length : Rat))

/-- The relaxed voltage (R256). -/
def relaxed (v1 v2 v3 : Rat) : Rat :=
  let d1 := sub64 v1 v2
  let d2 := sub64 v2 v3
  if 0 < d1 * d2 && ratAbs d2 < ratAbs d1 then sub64 v3 (div64 (sq64 d2) (sub64 d1 d2)) else v3

/-- The end of a rest at D (R256 to R258). -/
def State.restEnd (s : State) (g : Nat) (v1 v2 : Rat) : State :=
  let c := s.ctx g
  let v3 := c.restMean
  let vi := relaxed v1 v2 v3
  let tw := s.tempWeight c.tg
  let zr := s.ocvInverse tw (sub64 vi c.h)
  let sl := ratAbs (s.slopeAt tw zr)
  let t := s.modCtx g fun x => { x with restTaken := true, flags := setBit x.flags 6 (decide (sl ≤ 2 / 10)) }
  if ratAbs (sub64 vi v3) ≤ 1 / 100 && !c.restBad && decide (2 / 10 < sl) && c.born && c.p.length == 16 then
    t.restPoint g zr (div64 (div64 (s.cfgGet 0x298A 4 : Rat) 1000000) sl)
  else t

/-- REST_SAMPLE_TIME (R256, R257): V1 at 0.25 D, V2 at 0.625 D, V3 at D, by the group's rest clock. -/
def execRestSampleTime (group : Nat) (s : State) : Host.Outcome State Fault Refusal :=
  let c := s.ctx group
  let d := s.restSeconds c.restTg
  .next (if s.ef.state != 2 || c.restTaken || c.restV.isEmpty then s
    else match c.v1, c.v2 with
      | none, _ => if 25 * d ≤ c.restPat then s.modCtx group fun x => { x with v1 := some c.restMean } else s
      | some _, none => if 125 * d ≤ 2 * c.restPat then s.modCtx group fun x => { x with v2 := some c.restMean } else s
      | some a, some b => if 100 * d ≤ c.restPat then s.restEnd group a b else s)

/-- CAPACITY_LEARNING_EVENT (R254, R260 to R262): the group's waiting rest point against its reference. An accepted event
enters the context at the next pattern start; a rejected one makes the point the reference. -/
def execCapacityLearningEvent (group : Nat) (s : State) : Host.Outcome State Fault Refusal :=
  let c := s.ctx group
  .next (if s.ef.state != 2 || c.learned.isSome then s
    else match c.learn, c.ref with
    | some (zr, sr, q), some (z0, s0, q0) =>
      let dz := sub64 zr z0
      let cNew := div64 (sub64 q q0) dz
      let sn2 := add64 (div64 (add64 (sq64 sr) (sq64 s0)) (sq64 dz)) (rnd64 (1 / 100000000))
      let move := sub64 cNew c.cap
      if div64 c.cap 20 < ratAbs move then
        (((s.modCtx group fun x => { x with learn := none, ref := some (zr, sr, q), refStamp := c.learnStamp }).modEf fun e =>
          { e with capRejected := e.capRejected + 1, lastMeasured := some cNew }).writeCap group).raiseEvent 0x0906 group
      else
        let k := div64 c.sig2 (add64 c.sig2 sn2)
        let want := mul64 k move
        let lim := div64 c.cap 50
        let clamped := decide (lim < ratAbs want)
        let by' := if clamped then (if want < 0 then -lim else lim) else want
        let cap := add64 c.cap by'
        (s.modCtx group fun x => { x with
          learned := some (cap, if clamped then x.sig2 else div64 (mul64 x.sig2 sn2) (add64 x.sig2 sn2)) }).modEf fun e => { e with
            capEvents := e.capEvents + 1, lastGroup := group, lastLearn := s.tb.now, lastMeasured := some cNew
            lastResult := some cap }
    | _, _ => s)

/-- The results of learning events enter their contexts at a pattern start (R254, R260), and the CAP records (R270). -/
def State.learnedPattern (s : State) : State :=
  if s.ef.state != 2 then s
  else s.populated.foldl (fun t g => match (t.ctx g).learned with
    | none => t
    | some (cap, sig2) => (t.modCtx g fun x => { x with
        cap, sig2, learned := none, learn := none, ref := x.learn.or x.ref, refStamp := x.learnStamp }).writeCap g) s

/-! ### Impedance (R263 to R265) -/

/-- A D0 result joins the mean around its millisecond (R263). -/
def State.msSample (s : State) (i : Rat) (stamp : Nat) : State :=
  let m := (stampNs (s.fullStamp stamp) + 500000) / 1000000
  s.modEf fun e => { e with msHist := match e.msHist with
    | (k, v, n) :: t => if k == m then (k, v + i, n + 1) :: t else (m, i, 1) :: (k, v, n) :: t.take 448
    | [] => [(m, i, 1)] }

/-- I_j of a capture (R263). -/
def State.capCurrent (s : State) (j : Nat) : Option Rat :=
  let m := stampNs s.cl.stepTs / 1000000 + j - 50
  (s.ef.msHist.find? fun (k, _, _) => k == m).map fun (_, v, n) => v / (n : Rat)

/-- The mean of numbers over a range of capture indices. -/
def meanOver (f : Nat → Rat) (lo n : Nat) : Rat := div64 (sum64 ((List.range n).map fun k => f (lo + k))) (n : Rat)

/-- The spread of the currents over a range of capture indices. -/
def State.capSpread (s : State) (lo n : Nat) : Option Rat :=
  let is := (List.range n).map fun k => s.capCurrent (lo + k)
  if is.any Option.isNone then none
  else
    let vs := is.map fun o => o.getD 0
    some (vs.foldl ratMax (vs.headD 0) - vs.foldl ratMin (vs.headD 0))

/-- ΔI of a capture, when its current is steady enough to use (R264). -/
def State.capDelta (s : State) : Option Rat :=
  match s.capSpread 0 50, s.capSpread 52 148 with
  | some a, some b =>
    let i (j : Nat) : Rat := (s.capCurrent j).getD 0
    let d := meanOver i 52 3 - meanOver i 40 10
    if (s.cfgGet 0x298C 1 : Rat) ≤ ratAbs d && d ≠ 0 && 50 * ratMax a b ≤ ratAbs d then some d else none
  | _, _ => none

/-- The z and Tg of a group at an instant (R265): those of its latest update at or before it. -/
def Ctx.atStep (c : Ctx) (ns : Nat) : Rat × Int :=
  match c.hist.find? fun x => decide (x.1 ≤ ns) with
  | some (_, z, tg) => (z, tg)
  | none => (c.z, c.tg)

/-- A group's resistance and impedance from a capture (R263 to R265); whether it was used. -/
def State.capGroup (s : State) (d : Rat) (g : Nat) : State × Bool :=
  let v := tabGet [] g s.cl.stepData
  let c := s.ctx g
  if v.length != 200 || v.contains 0xFFFF || (tabGet none g s.tm.groupT).isNone || !c.born then (s, false)
  else
    let volt (lo n : Nat) : Rat := meanOver (fun k => div64 (v.getD k 0 : Rat) 10000) lo n
    let rsm := div64 (mul64 (sub64 (volt 52 3) (volt 40 10)) 1000000000) d
    let zm := rnd32 (div64 (mul64 (sub64 (volt 146 4) (volt 40 10)) 1000000000) d)
    let (z, tg) := c.atStep (stampNs s.cl.stepTs)
    let k := div64 rsm (s.paramAt 0x2982 4 (s.tempWeight tg) z)
    let gain := rnd32 ((s.cfgGet 0x298C 2 : Rat) / 1000)
    if k < 1 / 2 || 3 < k then (s.raiseEvent 0x090C g, true)
    else
      ((s.modCtx g fun x => { x with
        kr := add32 x.kr (mul32 gain (sub32 (rnd32 k) x.kr))
        z100 := some (match x.z100 with
          | some z => add32 z (mul32 gain (sub32 zm z))
          | none => zm) }).modEf fun e => { e with impChanged := true }, true)

/-- A complete capture acts on every group (R263, R264). -/
def State.captureDone (s : State) : State :=
  let (t, used) := match s.capDelta with
    | none => (s, false)
    | some d => s.populated.foldl (fun (u, any) g =>
        let (w, b) := u.capGroup d g
        (w, any || b)) (s, false)
  t.modEf fun e =>
    if used then { e with stepsUsed := e.stepsUsed + 1, lastStep := s.cl.stepTs, lastDelta := s.capDelta.map pub }
    else { e with stepsRejected := e.stepsRejected + 1 }

/-- STEP_DATA (R233, R265): one group of the capture; when every populated group has come the capture is complete, and a
complete one updates the resistances. -/
def execStepData (cmu ident group first : Nat) (samples : List Nat) (s : State) :
    Host.Outcome State Fault Refusal :=
  let g := s.firstGroup cmu + group
  let f := RingRx.stepData cmu ident group first samples
  .next (if ident != s.cl.stepId || (s.cl.stepState != 1 && s.cl.stepState != 2) || first != 0 ||
      s.groupsOf cmu ≤ group || s.groupCount ≤ g then s.repeatFrame f
    else
      let ts := stampNs s.cl.stepTs
      let held := (s.cmu cmu).holdHist.any fun p => decide (ts < p + 60000000) && decide (p ≤ ts + 149000000)
      let s := s.repeatFrame f
      let s0 := if s.ty.state == .member && (tabGet [] g s.cl.stepData).isEmpty then
          s.modTy fun y => { y with longDue := y.longDue ++ [.stepData cmu ident group first samples] }
        else s
      let t := s0.modCl fun l => { l with
        stepState := 2, stepData := tabPut [] g (samples.take 200) l.stepData, stepMarked := l.stepMarked || held }
      let n := t.cl.stepData.length
      let u := t.modCl fun l => { l with stepGroups := n }
      if n < s.groupCount then u
      else if u.cl.stepMarked then u.modCl fun l => { l with stepState := 4 }
      else
        let w := u.modCl fun l => { l with stepState := 3 }
        if w.ef.state == 2 then w.captureDone else w)

/-! ### Results (R125) -/

/-- A D0 result that the accumulator took joins the mean around its millisecond (R263). -/
def State.joinMs (s : State) (i : Rat) (stamp : Nat) : State := if s.ss.integrating then s.msSample i stamp else s

/-- RESULT_DELIVERED (R124, R125, R141, R155 to R165, R187, R554): the duty's filter gives the result of an input whose
levels over the window `levels` holds; it enters the store, and acts on the channel its duty serves. `input` is the
insulation monitor's choice where the duty is D5. -/
def execResultDelivered (duty : Nat) (levels : List (Nat × Int)) (stamp input : Nat) (s : State) :
    Host.Outcome State Fault Refusal :=
  if !s.ca.started || 8 ≤ duty || (s.duty duty).slice == 0xFF then .next s
  else
    let s0 := if duty == 5 then s.d5Input input else s
    let value := s0.filtered duty levels
    let u := s0.duty duty
    let settle := u.settle != 0
    let inp := s0.dutyInput duty
    let gain := s0.dutyGain duty
    let last := s0.seqEntry duty u.seqIdx / 256 ≤ u.dwell + 1
    let t := s0.storeResult duty value stamp
    let v := match duty with
      | 0 =>
        let (v, i, dt) := t.d0Result value settle stamp
        (v.modCl fun c => { c with localNow := if v.ss.integrating then i :: c.localNow else c.localNow }).prechargeHeat i dt |>.joinMs i stamp
      | 1 => t.d1Result value settle stamp
      | 5 => t
      | 6 | 7 => if settle then t else t.monitorResult inp gain value last
      | d => t.voltResult d value settle stamp
    .next (if duty == 0 then (v.lateMeans stamp).lateSnap stamp else v.lateMeans stamp)

end Sys2Proof.Machine
end

