-- ==== Sys2Proof/Machine/Thermal.lean ====
section
/-! DEFINITION. Thermal: the thermal manager (R286 to R302): temperatures, validity and substitution, thresholds,
throttling, cooling outputs, windows and the thermal shutdown. -/

namespace Sys2Proof.Machine

/-! ### Thresholds (R292, R293) -/

/-- A threshold: upper or lower, and its level in 0.01 °C. -/
structure Threshold where
  upper : Bool
  level : Int
  deriving DecidableEq, Repr

/-- A sample meets the condition of the pending change (R292). -/
def Threshold.turns (t : Threshold) (h temp : Int) (active : Bool) : Bool :=
  match t.upper, active with
  | true, false => decide (t.level < temp)
  | true, true => decide (temp < t.level - h)
  | false, false => decide (temp < t.level)
  | false, true => decide (t.level + h < temp)

/-- One sample of a threshold: whether it is active afterwards, and its run (R292). -/
def Threshold.sample (t : Threshold) (h : Int) (n : Nat) (temp : Int) (active : Bool) (run : Nat) : Bool × Nat :=
  if t.turns h temp active then if n ≤ run + 1 then (!active, 0) else (active, run + 1) else (active, 0)

/-- The distance to a threshold, or to its leaving edge while it is active (R293). -/
def Threshold.distance (t : Threshold) (h temp : Int) (active : Bool) : Nat :=
  (temp - (if !active then t.level else if t.upper then t.level - h else t.level + h)).natAbs

/-- The rate of a distance (R293): 2 10 ms, 1 100 ms, 0 1 s. -/
def rateOf (d : Nat) : Nat := if d ≤ 100 then 2 else if d ≤ 500 then 1 else 0

/-- Whether a sensor at a rate is evaluated in a pattern (R293); a sensor without a distance yet always is. -/
def evaluates (known : Bool) (rate pattern : Nat) : Bool :=
  !known || rate == 2 || (rate == 1 && pattern % 10 == 0) || (rate == 0 && pattern % 100 == 0)

/-- Hysteresis in 0.01 °C. -/
def State.hysteresis (s : State) : Int := s.cfgInt 0x2B81 1 16

/-- Dwell in samples. -/
def State.dwell (s : State) : Nat := s.cfgGet 0x2B81 2

/-- The thresholds of a cell sensor: throttle 1 to 4, window high, window low (R294, R298). -/
def State.cellThresholds (s : State) : List Threshold :=
  ((List.range 4).map fun k => { upper := true, level := s.cfgInt 0x2B80 (k + 1) 16 }) ++
    [{ upper := true, level := ofWord 16 (s.safeGet 0x2B98 2) }, { upper := false, level := ofWord 16 (s.safeGet 0x2B98 1) }]

/-- A list of thresholds takes a sample each: the bits active and the runs. -/
def sampleAll (ts : List Threshold) (h : Int) (n : Nat) (temp : Int) (act : Nat) (runs : Tab Nat) : Nat × Tab Nat :=
  ts.zipIdx.foldl (fun (a, r) (t, k) =>
    let (on, run) := t.sample h n temp (bit a k) (tabGet 0 k r)
    (setBit a k on, tabPut 0 k run r)) (act, runs)

/-- The smallest distance over thresholds. -/
def distanceAll (ts : List Threshold) (h temp : Int) (act : Nat) : Nat :=
  ts.zipIdx.foldl (fun d (t, k) => min d (t.distance h temp (bit act k))) 65535

/-! ### Validity and substitution (R289 to R291) -/

/-- A cell sensor is judged in this pattern (R289): it has given a reading since the cast-on, or step 6 has ended. -/
def State.judged (s : State) (x : Sensor) : Bool := x.read || s.pm.step6Done

/-- A cell sensor is invalid (R289). -/
def Sensor.invalid (x : Sensor) : Bool :=
  x.noVal || 4 ≤ x.age || (x.temp.map fun t => decide (t < -5500) || decide (15000 < t)).getD true

/-- A cell sensor is valid: judged and not invalid. -/
def State.sensorValid (s : State) (n : Nat) : Bool :=
  s.sensorList.contains n && s.judged (s.sensor n) && !(s.sensor n).invalid

/-- The enabled sensors of a sensor's CMU. -/
def State.mates (s : State) (n : Nat) : List Nat := s.sensorList.filter fun k => k / 8 == n / 8

/-- The neighbours of a sensor (R290). -/
def State.neighbours (s : State) (n : Nat) : List Nat :=
  let w := s.cfgGet (0x2B84 + n / 128) (n % 128 + 1)
  let es := (List.range 4).map fun k => w / 65536 ^ k % 65536
  if es.head? == some 0xFFFE then []
  else if es.all (· == 0xFFFF) then
    ((s.mates n).filter (· < n)).reverse.take 1 ++ ((s.mates n).filter (n < ·)).take 1
  else es.filter (· < 256)

/-- The substitute of an invalid sensor (R290): the highest reading of its valid neighbours plus SubstituteMargin. -/
def State.substitute (s : State) (n : Nat) : Option Int :=
  match ((s.neighbours n).filter s.sensorValid).filterMap fun k => (s.sensor k).temp with
  | [] => none
  | t :: ts => some (ts.foldl max t + (s.cfgGet 0x2B81 3 : Int))

/-- A sensor's used value, validity and state bits in this pattern (R289, R290, R295, R304). -/
def State.judgeSensor (s : State) (n : Nat) : Sensor :=
  let x := s.sensor n
  if !s.judged x then { x with used := none, validPat := 0, state := b2n x.freeze * 4 }
  else if !x.invalid then
    { x with used := x.temp, validPat := min 6553599 (x.validPat + 1), state := b2n x.freeze * 4 }
  else
    let hot := 1 ≤ s.tm.level && s.tm.hotSensor == n && !bit x.state 0
    let freeze := x.freeze || hot
    let sub := s.substitute n
    { x with used := sub, validPat := 0, freeze
             state := 1 + 2 * b2n sub.isSome + 4 * b2n freeze + 8 * b2n sub.isNone }

/-- Every sensor is judged, from the readings of this pattern; a freeze that begins is reported (R295). -/
def State.judgeSensors (s : State) : State :=
  let js := s.sensorList.map fun n => (n, s.judgeSensor n)
  let t := js.foldl (fun u (n, x) => u.modSensor n fun _ => x) s
  match js.find? fun (n, x) => x.freeze && !(s.sensor n).freeze with
  | none => t
  | some (n, _) =>
    (t.modTm fun m => { m with frozen := some (max (m.frozen.getD 0) m.level), recovering := false }).raiseEvent 0x0B0B n

/-- 0x0B01 and 0x0B02, and the request for a zero envelope (R290, R291). -/
def State.validityFaults (s : State) : State :=
  let ns := s.sensorList
  let sub := ns.filter fun n => bit (s.sensor n).state 1
  let lost := ns.filter fun n => bit (s.sensor n).state 3
  let all := ns.all fun n => (s.sensor n).used.isSome
  let zero := !lost.isEmpty || (s.tm.zeroEnvelope && !all)
  (((s.modTm fun m => { m with substituted := sub.length, zeroEnvelope := zero }).cond 0x0B01 (!sub.isEmpty)
    (sub.headD 0)).cond 0x0B02 (!lost.isEmpty) (lost.headD 0))

/-! ### Evaluation (R292 to R295, R298) -/

/-- One cell sensor is evaluated (R292, R293): its thresholds in its evaluation patterns, its distance and rate in
every pattern. Without a used value it stays as it is. -/
def State.evalSensor (s : State) (n : Nat) : State :=
  let x := s.sensor n
  match x.used with
  | none => s
  | some t =>
    let ts := s.cellThresholds
    let h := s.hysteresis
    let (act, runs) := if evaluates x.known x.rate s.patNo then sampleAll ts h s.dwell t x.act x.runs else (x.act, x.runs)
    s.modSensor n fun y => { y with act, runs, known := true, rate := rateOf (distanceAll ts h t act) }

/-- The hottest and the coldest sensor (R304), the lowest-numbered where several share the value. -/
def State.extremes (s : State) : State :=
  let vs := s.sensorList.filterMap fun n => (s.sensor n).used.map fun t => (n, t)
  match vs with
  | [] => s.modTm fun m => { m with hotSensor := 0xFFFF, hotTemp := none, coldSensor := 0xFFFF, coldTemp := none }
  | v :: rest =>
    let hot := rest.foldl (fun (a : Nat × Int) b => if a.2 < b.2 then b else a) v
    let cold := rest.foldl (fun (a : Nat × Int) b => if b.2 < a.2 then b else a) v
    s.modTm fun m => { m with
      hotSensor := hot.1, hotTemp := some hot.2, coldSensor := cold.1, coldTemp := some cold.2 }

/-- The throttle level of the sensors (R294): the highest threshold active on any. -/
def State.throttleNow (s : State) : Nat :=
  (s.sensorList.map fun n => ((List.range 4).filter fun k => bit (s.sensor n).act k).getLast?.map (· + 1)).foldl
    (fun a o => max a (o.getD 0)) 0

/-- ThrottleFactor of a level (R294). -/
def State.factorOf (s : State) (level : Nat) : Nat := if level == 0 then 100 else s.cfgGet 0x2B80 (4 + level)

/-- The throttle level, held up by a freeze (R294, R295). Entering level 1 or above is an occurrence. -/
def State.throttle (s : State) : State :=
  let level := max s.throttleNow (s.tm.frozen.getD 0)
  let t := s.modTm fun m => { m with
    level, factor := s.factorOf level, frozen := m.frozen.map fun _ => level
    recovering := m.frozen.isSome && s.sensorList.any fun n => (s.sensor n).freeze && (s.sensor n).validPat != 0 }
  if s.tm.level == 0 && level != 0 then t.raiseEvent 0x0B03 level else t

/-- THROTTLE_RECOVER_EXPIRY (R295): a failed sensor that has been valid for RecoverTime without a break no longer
freezes the throttle; with the last, the level is the computed one. -/
def execThrottleRecoverExpiry (s : State) : Host.Outcome State Fault Refusal :=
  let done := s.sensorList.filter fun n => (s.sensor n).freeze && s.cfgGet 0x2B81 4 * 100 ≤ (s.sensor n).validPat
  let t := done.foldl (fun u n => u.modSensor n fun x => { x with freeze := false, state := setBit x.state 2 false }) s
  .next (if done.isEmpty || t.sensorList.any fun n => (t.sensor n).freeze then t
    else (t.modTm fun m => { m with frozen := none, recovering := false }).throttle)

/-- The charge window (R298). -/
def State.chargeWindow (s : State) : State :=
  let closed := s.sensorList.any fun n => bit (s.sensor n).act 4 || bit (s.sensor n).act 5
  (s.modTm fun m => { m with windowClosed := closed }).cond 0x0B04 closed

/-- SF7's own charge window (R340): readings of valid sensors only, a hysteresis of 2.00 °C, a dwell of 3. -/
def State.ownWindow (s : State) : State :=
  let ts := [{ upper := true, level := ofWord 16 (s.safeGet 0x2B98 2) },
    { upper := false, level := ofWord 16 (s.safeGet 0x2B98 1) : Threshold }]
  let t := s.sensorList.foldl (fun u n =>
    if !u.sensorValid n then u
    else match (u.sensor n).temp with
      | none => u
      | some v =>
        let (act, runs) := sampleAll ts 200 3 v (u.sensor n).siAct (u.sensor n).siRuns
        u.modSensor n fun y => { y with siAct := act, siRuns := runs }) s
  t.modSi fun i => { i with windowClosed := t.sensorList.any fun n => (t.sensor n).siAct != 0 }

/-! ### Thermal shutdown (R301, R302) -/

/-- A case of the shutdown latches: stamp and sensor of the first trigger of either, FRAM record 0x0006. -/
def State.shutdown (s : State) (junction : Bool) (item : Nat) : State :=
  let first := !s.tm.cellLatch && !s.tm.junctionLatch
  let t := s.modTm fun m => { m with
    cellLatch := m.cellLatch || !junction, junctionLatch := m.junctionLatch || junction
    shutStamp := if first then s.tb.now else m.shutStamp, shutSensor := if first then item else m.shutSensor }
  let u := t.modSi fun i => { i with sf5Due := i.sf5Due || !junction, sf6Due := i.sf6Due || junction }
  (u.raiseCond (if junction then 0x0B08 else 0x0B07) item).journal6

/-- The cell case (R301): a valid reading at or above CellCriticalTemp in 3 consecutive patterns. -/
def State.cellCritical (s : State) : State :=
  let lim := ofWord 16 (s.safeGet 0x2B98 3)
  let t := s.sensorList.foldl (fun u n =>
    let hot := u.sensorValid n && ((u.sensor n).temp.map fun v => decide (lim ≤ v)).getD false
    u.modSensor n fun x => { x with critRun := if hot then min 255 (x.critRun + 1) else 0 }) s
  match t.sensorList.find? fun n => 3 ≤ (t.sensor n).critRun with
  | none => t
  | some n => if t.tm.cellLatch then t else t.shutdown false n

/-- JUNCTION_SAMPLE (R288, R301): at or above 125.00 °C in 3 consecutive samples latches the junction case. -/
def execJunctionSample (temp : Int) (s : State) : Host.Outcome State Fault Refusal :=
  let run := if 12500 ≤ temp then s.tm.junctionRun + 1 else 0
  let t := s.modTm fun m => { m with
    junction := some temp, junctionRun := min 255 run
    junctionMax := some (match m.junctionMax with
      | none => temp
      | some v => max v temp) }
  .next (if 3 ≤ run && !s.tm.junctionLatch then t.shutdown true 0xFFFE else t)

/-! ### Group temperatures (R286) -/

/-- Tg of a group: the used value of its sensor. -/
def State.groupTemp (s : State) (g : Nat) : Option Int :=
  let e := s.cfgGet (0x2B86 + g / 128) (g % 128 + 1)
  if e != 0xFFFF then if s.sensorList.contains e then (s.sensor e).used else none
  else
    let (c, l) := s.cmuOf g
    let n := 8 * (c - 1) + 8 * l / s.groupsOf c
    if s.sensorList.contains n then (s.sensor n).used
    else match s.mates n with
      | [] => none
      | k :: _ => (s.sensor k).used

/-- Tg of every populated group. -/
def State.groupTemps (s : State) : State :=
  s.populated.foldl (fun t g => t.modTm fun m => { m with groupT := tabPut none g (s.groupTemp g) m.groupT }) s

/-! ### Local and board sensors (R75, R287) -/

/-- The resistance of an NTC at a temperature above absolute zero, in ohm: 10,000 e^(B (1/T − 1/298.15)). -/
def ntcOhm (b : Nat) (c : Int) : Rat :=
  let e : Rat := (b : Rat) * (100 / ((c : Rat) + 27315) - 100 / 29815)
  if 0 ≤ e then (let d := expNeg e; if d = 0 then 1000000000000 else 10000 / d) else 10000 * expNeg (-e)

/-- The temperature of an NTC resistance in 0.01 °C: the greatest of a bracket at which it is at least this. -/
def ntcSearch (b : Nat) (r : Rat) : Nat → Int → Int
  | 0, lo => lo
  | k + 1, lo => if r ≤ ntcOhm b (lo + 2 ^ k) then ntcSearch b r k (lo + 2 ^ k) else ntcSearch b r k lo

/-- A resistance in milliohm as a temperature by LocalSensorType (R287); none for an unused input. With LocalNtcB 0 the
formula gives no value, and a free one stands for it (assumption 4). -/
def State.localTemp (s : State) (n : Nat) (mOhm : Rat) : Option Int × State :=
  match s.cfgGet 0x2B8A n with
  | 1 => (some (ptSearch ((mOhm * 100000000000).floor) 17 (-20000)), s)
  | 2 =>
    let b := s.cfgGet 0x2B8B n
    if b == 0 then (some (ofWord 16 s.freeNat), s.takeFree) else (some (ntcSearch b (mOhm / 1000) 16 (-20000)), s)
  | _ => (none, s)

/-- A local sensor of the table. -/
def State.localT (s : State) (n : Nat) : LocalT := tabGet {} n s.tm.locals

/-- A change to a local sensor. -/
def State.modLocal (s : State) (n : Nat) (f : LocalT → LocalT) : State :=
  s.modTm fun m => { m with locals := tabMod {} n f m.locals }

/-- LOCAL_SENSOR_SAMPLE (R75, R287, R288): resistances of TS1 to TS8 in milliohm, and the board temperature. -/
def execLocalSensorSample (ohms : List Nat) (board : Option Int) (s : State) : Host.Outcome State Fault Refusal :=
  let t := (List.range 8).foldl (fun u k =>
    let r := ohms.getD k 1000000000
    u.modLocal (k + 1) fun x => { x with
      sum := x.sum + r, n := x.n + 1, bad := x.bad || decide (200000000 < r) || decide (r < 50000) }) s
  .next (t.modTm fun m => { m with board := { m.board with
    sum := m.board.sum + board.getD 0, n := m.board.n + 1, bad := m.board.bad || board.isNone } })

/-- The value of a local input over the pattern just ended (R287). -/
def State.localPattern (s : State) (n : Nat) : State :=
  let x := s.localT n
  let (v, t) := if x.n == 0 || x.bad then (none, s) else s.localTemp n ((x.sum : Rat) / (x.n : Rat))
  t.modLocal n fun y => { y with value := v, sum := 0, n := 0, bad := false }

/-- The values of the local inputs and of the board sensor over the pattern just ended (R287). -/
def State.localsPattern (s : State) : State :=
  ((List.range 8).foldl (fun t k => t.localPattern (k + 1)) s).modTm fun m => { m with board := { m.board with
    value := if m.board.n == 0 || m.board.bad then none else some (ratTrunc ((m.board.sum : Rat) / (m.board.n : Rat)))
    sum := 0, n := 0, bad := false } }

/-- LocalLimit of a local sensor (R287, R292, R293). -/
def State.evalLocal (s : State) (n : Nat) : State :=
  let x := s.localT n
  match x.value with
  | none => s
  | some v =>
    let t : Threshold := { upper := true, level := s.cfgInt 0x2B8C n 16 }
    let (act, run) := if evaluates x.known x.rate s.patNo then t.sample s.hysteresis s.dwell v x.act x.run else (x.act, x.run)
    s.modLocal n fun y => { y with act, run, known := true, rate := rateOf (t.distance s.hysteresis v act) }

/-- The thermal manager at a cut-off (R286 to R298, R301, R340). -/
def State.thermalCutoff (s : State) : State :=
  let t := (s.judgeSensors.validityFaults).cellCritical
  let u := t.sensorList.foldl State.evalSensor t
  let v := ((u.extremes.throttle).chargeWindow).ownWindow
  let w := (List.range 8).foldl (fun x k => x.evalLocal (k + 1)) v
  let hot := (List.range 8).find? fun k => (w.localT (k + 1)).act
  (w.cond 0x0B0A hot.isSome (hot.getD 0 + 1)).groupTemps

/-! ### Cooling outputs (R296, R297) -/

/-- A point of a line from 0 % at `start` to 100 % at `full`, clamped, rounded down. -/
def lineDuty (start full t : Int) : Nat :=
  if full = start then 0 else (clampInt 0 100 (((t - start) * 100 : Int) / (full - start : Int) : Rat).floor).toNat

/-- The duty of an output's curve (R296). -/
def State.curveDuty (s : State) (k : Nat) : Nat :=
  let src := s.cfgGet 0x2B90 k
  let floor' := s.cfgGet 0x2B94 k
  let start := s.cfgInt 0x2B92 k 16
  let full := s.cfgInt 0x2B93 k 16
  let cool (o : Option Int) : Nat := max floor' ((o.map (lineDuty start full)).getD 100)
  match src with
  | 0 => 0
  | 1 => cool s.tm.hotTemp
  | 2 => (s.tm.coldTemp.map fun t => max floor' (lineDuty start full t)).getD 0
  | 11 => cool s.tm.board.value
  | 12 => floor'
  | n => cool (s.localT (n - 2)).value

/-- A PWM output. -/
def State.pwm (s : State) (k : Nat) : Pwm := tabGet {} k s.tm.pwm

/-- A change to a PWM output. -/
def State.modPwm (s : State) (k : Nat) (f : Pwm → Pwm) : State := s.modTm fun m => { m with pwm := tabMod {} k f m.pwm }

/-- The cooling outputs have supply and are enabled: after cast-on step 5, not on the hold-up store, and until step 6 of a
bind-off (R64, R89, R113). -/
def State.coolingOn (s : State) : Bool := 6 ≤ s.pm.step && !s.pm.onStore && s.pm.bindStep < 6

/-- One output's duty in a pattern: off in overcurrent and without supply; during a sag pause it does not rise (R96, R296,
R297). -/
def State.pwmPattern (s : State) (k : Nat) : State :=
  let d := s.curveDuty k
  s.modPwm k fun x => { x with
    duty := if x.off || !s.coolingOn then 0 else if s.pm.sagPaused then min x.duty d else d }

/-- The duty of the lowest-numbered output with a source code; 0 without one (R297). -/
def State.demandOf (s : State) (code : Nat) : Nat :=
  match [1, 2, 3, 4].find? fun k => s.cfgGet 0x2B90 k == code with
  | none => 0
  | some k => s.curveDuty k

/-- The cooling outputs in a pattern. -/
def State.coolingPattern (s : State) : State :=
  ([1, 2, 3, 4].foldl State.pwmPattern s).modTm fun m => { m with cooling := s.demandOf 1, heating := s.demandOf 2 }

/-- PWM_OVERCURRENT_OFF (R69, R297). -/
def execPwmOvercurrentOff (output : Nat) (s : State) : Host.Outcome State Fault Refusal :=
  .next ((s.modPwm output fun x => { x with duty := 0, off := true, offCount := min 255 (x.offCount + 1) }).raiseEvent
    0x0B09 output)

/-- PWM_RESTART (R297): not after the third turn-off since the reset. -/
def execPwmRestart (output : Nat) (s : State) : Host.Outcome State Fault Refusal :=
  .next (if (s.pwm output).offCount < 3 then s.modPwm output fun x => { x with off := false } else s)

/-! ### Nonvolatile write window (R299) -/

/-- The write window in a pattern: closed by a board temperature out of -25.00 to +90.00 °C or without a value; open
again after Dwell patterns inside the band; the held writes are then made. -/
def State.nvWindow (s : State) : State :=
  let h := s.hysteresis
  let inside := (s.tm.board.value.map fun t => decide (-2500 + h < t) && decide (t < 9000 - h)).getD false
  let out := (s.tm.board.value.map fun t => decide (t < -2500) || decide (9000 < t)).getD true
  let run := if inside then s.tm.nvRun + 1 else 0
  let closed := out || (s.tm.nvClosed && run < s.dwell)
  let t := s.modTm fun m => { m with nvClosed := closed, nvRun := min 255 run }
  (if closed then t else t.nvKick.progKick).cond 0x0B05 closed

/-- The thermal manager at a pattern start. -/
def State.thermalPattern (s : State) : State := (s.localsPattern.coolingPattern).nvWindow

end Sys2Proof.Machine
end

