-- ==== Sys2Proof/Machine/Balancing.lean ====
section
/-! DEFINITION. Balancing: the balancing scheduler (R276 to R285). -/

namespace Sys2Proof.Machine

/-! ### Needs (R276, R277) -/

/-- A group is a candidate (R277). -/
def State.candidate (s : State) (g : Nat) : Bool :=
  s.ageOf g ≤ 3 && (tabGet none g s.tm.groupT).isSome && s.cfgGet 0x2A80 5 ≤ (s.ctx g).conf && (s.ctx g).born

/-- Distance to full and span of a group at zero current (R276), uC. -/
def State.spanOf (s : State) (g : Nat) : Rat × Rat :=
  let c := s.ctx g
  let (_, _, dn, up) := (s.modEf fun e => { e with iBar := none }).endPoints c (s.tempWeight ((tabGet none g s.tm.groupT).getD c.tg))
  (up, dn + up)

/-- The reference group (R277, R284): of the candidates without a stuck switch, the one of the smallest span, the lowest
number where spans are equal. The list holds number, distance to full and span. -/
def smallestSpan : List (Nat × Rat × Rat) → Option (Nat × Rat × Rat)
  | [] => none
  | x :: t => match smallestSpan t with
    | none => some x
    | some y => if y.2.2 < x.2.2 then some y else some x

/-- The needs of the candidates (R277): number and need in uC. -/
def needsOf (cands : List (Nat × Rat × Rat)) (reference : Option (Nat × Rat × Rat)) : List (Nat × Rat) :=
  match reference with
  | none => cands.map fun (g, _, _) => (g, 0)
  | some w => cands.map fun (g, up, _) => (g, ratMax 0 (w.2.1 - up))

/-! ### Power and budgets (R281, R282) -/

/-- The mean bleed power of a group in mW (R281): v² / (1250 r) for v in 100 µV and r in 0.01 Ω. -/
def State.bleedPower (s : State) (g : Nat) : Rat :=
  let v : Rat := (s.group g).voltage.getD 0
  v * v / (1250 * (s.cfgGet 0x2A80 2 : Rat))

/-- A CMU's budget in mW (R282, R284). -/
def State.budgetOf (s : State) (c : Nat) : Nat :=
  let x := s.cmu c
  let most := s.cfgGet 0x2A80 7
  let start := s.cfgInt 0x2A80 8 16
  match x.dieTemp with
  | none => 0
  | some t =>
    if x.dieStop then 0
    else if t ≤ start then most
    else if 11000 ≤ t then 0
    else ((most : Rat) * (11000 - t : Int) / (11000 - start : Int)).floor.toNat

/-- Needs in descending order, the lowest group number first where they are equal. -/
def insertNeed (x : Nat × Rat) : List (Nat × Rat) → List (Nat × Rat)
  | [] => [x]
  | y :: t => if y.2 < x.2 || (y.2 = x.2 && x.1 < y.1) then x :: y :: t else y :: insertNeed x t

/-- The groups admitted to a budget, in their order, and the power they take (R281). -/
def admitAll (power : Nat → Rat) (budget : Rat) : List (Nat × Rat) → Rat → List Nat × Rat
  | [], p => ([], p)
  | (g, _) :: t, p =>
    if p + power g ≤ budget then
      let (gs, q) := admitAll power budget t (p + power g)
      (g :: gs, q)
    else admitAll power budget t p

/-! ### Conditions (R278 to R280) -/

/-- A thermal shutdown is latched (R279, R302). -/
def State.shutLatched (s : State) : Bool := s.tm.cellLatch || s.tm.junctionLatch

/-- Rest protection applies (R280): a rest of the string that has not lasted D + 60 s; of the groups' D the longest
counts. -/
def State.restProtected (s : State) : Bool :=
  let d := (s.populated.map fun g => s.restSeconds (s.ctx g).restTg).foldl max 0
  s.cfgGet 0x2A80 10 == 1 && s.bs.restPat != 0 && s.bs.restPat < 100 * (d + 60)

/-- What the whole string's conditions make of BalanceState before any group bleeds (R277, R279, R280, R304): none when
groups may bleed. -/
def State.balanceStop (s : State) (few : Bool) : Option Nat :=
  if s.cfgGet 0x2A80 1 != 1 then some 0
  else if s.ef.state != 2 || s.shutLatched then some 6
  else if 3 ≤ s.tm.level then some 5
  else if few then some 4
  else if s.restProtected then some 3
  else none

/-- A fraction of NominalCapacity in uC, in 0.01 %. -/
def State.bandOf (s : State) (sub : Nat) : Rat := (s.cfgGet 0x2980 12 : Rat) * (s.cfgGet 0x2A80 sub : Rat) / 10000

/-- A group is too hot to bleed (R279). -/
def State.tooHot (s : State) (g : Nat) : Bool :=
  ((tabGet none g s.tm.groupT).map fun t => decide (s.cfgInt 0x2A80 6 16 ≤ t)).getD true

/-- A group's voltage is too low to bleed (R279). -/
def State.tooLow (s : State) (g : Nat) : Bool :=
  (s.group g).voltage.getD 0 ≤ s.cfgGet 0x2980 11 + s.cfgGet 0x2A80 11

/-- A group bleeds by the bands (R278): at a band it goes on as it was. -/
def State.bandBleeds (s : State) (g : Nat) (need : Rat) : Bool :=
  if (s.group g).bleeding then decide (s.bandOf 4 ≤ need) else decide (s.bandOf 3 < need)

/-! ### Confirmation and bleed charge (R284, R285) -/

/-- One bleeding mask of a group's CMU against the group's command, `n` patterns after the frame with it was sent (R284), and
the bleed charge of the mask's pattern (R285). -/
def State.confirmMask (g n : Nat) (s : State) (mask : Nat) : State :=
  let (c, l) := s.cmuOf g
  let x := s.group g
  let on := bit mask l
  let stop := bit (s.cmu c).status 1
  let judged := 4 ≤ n
  let wrong := judged && (if x.cmdTime != 0 then !on && !stop else on)
  let run := if wrong then min 255 (x.confRun + 1) else 0
  let dq : Rat := if on then (x.voltage.getD 0 : Rat) * (s.ef.headDt : Rat) / (125000 * (s.cfgGet 0x2A80 2 : Rat)) else 0
  let bad := run == 3 && x.cmdTime != 0
  let t := s.modGroup g fun x => { x with
    confRun := run, bled := x.bled + dq, bleedNow := x.bleedNow + dq, stuck := x.stuck || (3 ≤ run && x.cmdTime == 0) }
  let u := t.modBs fun b => { b with bledCharge := b.bledCharge + dq, mismatches := if bad then b.mismatches + 1 else b.mismatches }
  if judged && x.cmdTime != 0 && stop then u.modCmu c fun z => { z with dieStop := true } else u

/-- The masks that a group's CMU has delivered since the last schedule, in time or late (R218, R284, R285). -/
def State.confirmGroup (s : State) (g : Nat) : State :=
  let y := s.cmu (s.cmuOf g).1
  let n := if y.sendNow then 0 else min 1000 ((s.group g).cmdPatterns + 1)
  y.masks.reverse.foldl (State.confirmMask g n) (s.modGroup g fun x => { x with cmdPatterns := n })

/-- The masks of every group, and the faults of R284. -/
def State.bleedConfirm (s : State) : State :=
  let t := s.populated.foldl State.confirmGroup s
  let u := (List.range s.cmuCount).foldl (fun v k => v.modCmu (k + 1) fun x => { x with
    dieStop := x.dieStop && bit x.status 1, masks := [] }) t
  let die := ((List.range s.cmuCount).map (· + 1)).find? fun c => (u.cmu c).dieStop
  let miss := u.populated.find? fun g => 3 ≤ (u.group g).confRun && (u.group g).cmdTime != 0
  let stuck := u.populated.find? fun g => (u.group g).stuck
  ((u.cond 0x0A02 die.isSome (die.getD 0)).cond 0x0A04 miss.isSome (miss.getD 0)).cond 0x0A05 stuck.isSome (stuck.getD 0)

/-! ### The schedule (R277 to R282) -/

/-- The groups that bleed in this pattern but for their CMU's budget (R278, R279). -/
def State.wanting (s : State) (needs : List (Nat × Rat)) : List (Nat × Rat) :=
  needs.filter fun (g, n) => s.bandBleeds g n && !s.tooHot g && !s.tooLow g

/-- One CMU's commands (R281 to R283): its admitted groups bleed, a change asks for a frame in the next pattern. -/
def State.commandCmu (s : State) (want : List (Nat × Rat)) (slice c : Nat) : State :=
  let mine := (want.filter fun (g, _) => (s.cmuOf g).1 == c).foldl (fun l x => insertNeed x l) []
  let budget := s.budgetOf c
  let (gs, p) := admitAll s.bleedPower budget mine 0
  let all := (List.range (s.groupsOf c)).map (s.firstGroup c + ·)
  let changed := all.any fun g => ((s.group g).cmdTime != 0) != gs.contains g
  let t := all.foldl (fun u g => u.modGroup g fun x =>
    let on := gs.contains g
    { x with cmdTime := if on then slice else 0, bleeding := mine.any fun m => m.1 == g
             cmdPatterns := if (x.cmdTime != 0) != on then 0 else x.cmdPatterns
             confRun := if (x.cmdTime != 0) != on then 0 else x.confRun }) s
  t.modCmu c fun x => { x with power := p.floor.toNat, budget, sendNow := x.sendNow || changed }

/-- The flags of a group (R304). -/
def State.balanceFlags (s : State) (cands : List Nat) (want : List (Nat × Rat)) (needs : List (Nat × Rat)) (g : Nat) : State :=
  let x := s.group g
  let (c, l) := s.cmuOf g
  let need : Rat := ((needs.find? fun m => m.1 == g).map (·.2)).getD 0
  let cand := cands.contains g
  let has := decide (0 < need)
  let on := x.cmdTime != 0
  let wait := !on && want.any fun m => m.1 == g
  let f := b2n cand + 2 * b2n on + 4 * b2n (on && bit (s.cmu c).bleedMask l) + 8 * b2n (has && s.tooHot g) +
    16 * b2n (has && s.tooLow g) + 32 * b2n (!cand) + 64 * b2n wait + 128 * b2n x.stuck
  s.modGroup g fun y => { y with need := need.floor.toNat, bflags := f }

/-- The balancing schedule of a pattern (R276 to R285). -/
def State.balance (s : State) : State :=
  let s0 := (s.modBs fun b => { b with restPat := if s.restPattern then b.restPat + 1 else 0 }).bleedConfirm
  let gs := s0.populated
  let cands := gs.filter s0.candidate
  let spans := cands.map fun g => let (up, sp) := s0.spanOf g; (g, up, sp)
  let ref := smallestSpan (spans.filter fun (g, _, _) => !(s0.group g).stuck)
  let needs := needsOf spans ref
  let few := 2 * cands.length < gs.length
  let stop := s0.balanceStop few
  let want := if stop.isSome then [] else s0.wanting needs
  let t := (List.range s0.cmuCount).foldl (fun u k => u.commandCmu want (s0.cfgGet 0x2A80 9) (k + 1)) s0
  let u := gs.foldl (fun v g => v.balanceFlags cands want needs g) t
  let n := (gs.filter fun g => (u.group g).cmdTime != 0).length
  (u.modBs fun b => { b with
    state := stop.getD (if n == 0 then 1 else 2), refGroup := (ref.map (·.1)).getD 0xFFFF, bleedingCount := n
    totalNeed := (needs.map fun m => m.2.floor.toNat).sum }).cond 0x0A01 few

/-! ### Frames (R283) -/

/-- BALANCE to a CMU (R283): the sequence byte, then the bleed times of its 24 places. -/
def State.sendBalance (s : State) (c : Nat) : State :=
  let g0 := s.firstGroup c
  let times := (List.range 24).map fun l => if l < s.groupsOf c then (s.group (g0 + l)).cmdTime else 0
  (s.ringSend 0x0B c ((s.cmu c).seqNo :: times)).modCmu c fun x => { x with seqNo := (x.seqNo + 1) % 256, sendNow := false }

/-- The BALANCE frames of a pattern start (R283). Both units keep the sequence; the ring driver sends. -/
def State.balancePattern (s : State) : State :=
  (s.enumerated.filter fun c => (s.cmu c).state == 3 && ((s.cmu c).sendNow || s.patNo % 100 == c)).foldl State.sendBalance s

/-- Every group is commanded to 0 (R279). -/
def State.stopBleeding (s : State) : State :=
  let t := (List.range s.cmuCount).foldl (fun u k => u.commandCmu [] 0 (k + 1)) s
  t.modBs fun b => { b with state := 0, bleedingCount := 0 }

/-- A write of BalanceEnable (R303): 0 commands every group to 0. -/
def State.balanceEnableAct (t : State) (value : Nat) : Answer :=
  if 1 < value then no t 0x0A
  else
    let u := t.cfgPut 0x2A80 1 value
    ok (if value == 0 then u.stopBleeding else u)

/-- BALANCE_ENABLE (R276, R303): acts at the next row. -/
def execBalanceEnable (r : Req) (value : Nat) (s : State) : Host.Outcome State Fault Refusal :=
  .next (s.liveReq r false 0x2A80 1 (leBytes 1 value) operator (.balanceEnable r value) fun t _ => t.balanceEnableAct value)

end Sys2Proof.Machine
end

