-- ==== Sys2Proof/Machine/Leases.lean ====
section
/-! DEFINITION. Leases: setpoint leases (R316 to R320), connect and disconnect commands (R321), ramp-downs (R323, R324)
and the answers to rest requests (R326 to R328). -/

namespace Sys2Proof.Machine

/-! ### The lease table (R316 to R319) -/

/-- The leases that act: those whose Ttl has not run out (R316). -/
def State.liveLeases (s : State) : List Lease := s.de.leases.filter (0 < ·.rows)

/-- The lowest class code of leases, the highest rank (R318). -/
def topClass (l : List Lease) : Nat := l.foldl (fun m x => min m x.cls) 255

/-- The answer of the highest-ranked leases with an answer: 1 or 2, 2 winning at equal rank; 0 without one (R317). -/
def decided (get : Lease → Nat) (l : List Lease) : Nat :=
  let with' := l.filter fun x => get x != 0
  ((with'.filter fun x => x.cls == topClass with').map get).foldl max 0

/-- The effective intent (R317). -/
def State.wantedIntent (s : State) : Nat := decided (·.intent) s.liveLeases

/-- The rest answer (R317). -/
def State.restAnswer (s : State) : Nat := decided (·.restAnswer) s.liveLeases

/-- The lease that decides the rest answer (R326). -/
def State.restDecider (s : State) : Option Lease :=
  let l := s.liveLeases.filter (·.restAnswer != 0)
  l.find? fun x => x.cls == topClass l && x.restAnswer == s.restAnswer

/-- The lease cap of a side (R317). -/
def State.leaseCap (s : State) (charge : Bool) : Nat :=
  (s.liveLeases.map fun l => if charge then l.chargeCap else l.dischargeCap).foldl min 0xFFFFFFFF

/-! ### Connect, disconnect and ramp-downs (R321, R323, R324) -/

/-- A ramp-down begins (R323): for a disconnect, or for a fault. -/
def State.startRamp (s : State) (fault : Bool) : State :=
  s.modDe fun d => { d with connect := if fault then 4 else 3, waitRows := 0, lowRows := 0 }

/-- ConnectArmed with SequenceState 0 starts the connect sequence (R179, R321). -/
def State.armedStart (s : State) : State := if s.de.armed && s.pc.seq == 0 then s.connectBegin else s

/-- Effective intent disconnect while connected or connecting (R321): a running connect sequence is aborted, otherwise a
ramp-down starts. -/
def State.disconnectHere (s : State) : State :=
  if s.de.intent == 2 && s.de.connect == 1 && s.pc.seq != 0 then s.abortSequence
  else if s.de.intent == 2 && s.de.connect == 2 then s.startRamp false
  else s

/-- No connect intent while connected (R321). -/
def State.noIntent (s : State) : State :=
  let action := s.cfgGet 0x2C83 1
  let here := s.de.intent == 0 && s.pc.seq == 6
  let t := s.modDe fun d => { d with noLease := here && action == 1 }
  let u := if here && action == 2 && t.de.connect == 2 then t.startRamp false else t
  u.cond 0x0C0A (here && action != 0)

/-- The effective intent acts (R321). -/
def State.intentUpdate (s : State) : State :=
  let new := s.wantedIntent
  let t := s.modDe fun d => { d with intent := new, armed := d.armed || (new == 1 && d.intent != 1) }
  let u :=
    if new == 1 && t.de.connect == 3 then t.modDe fun d => { d with connect := 2, waitRows := 0, lowRows := 0 }
    else t
  (u.noIntent.armedStart).disconnectHere

/-- A reaction state of OPEN or LATCH without a safety-island opening ramps the string down for a fault (R323). -/
def State.faultRamp (s : State) : State :=
  if 3 ≤ s.acting.code && 1 ≤ s.pc.seq && s.pc.seq ≤ 6 && 1 ≤ s.de.connect && s.de.connect ≤ 3 then s.startRamp true else s

/-- The current latched in a row during a ramp-down wait (R323): three rows in a row at or below OpenCurrentLimit. A
current without a value is none. -/
def State.rampRow (s : State) : State :=
  if s.de.connect == 3 || s.de.connect == 4 then
    let low := s.rows.latched.isSome && decide (s.latchedAbs ≤ (s.cfgGet 0x2C81 3 : Rat))
    s.modDe fun d => { d with waitRows := d.waitRows + 1, lowRows := if low then d.lowRows + 1 else 0 }
  else s

/-- The opening that follows a wait (R321, R324). A wait for a fault clears ConnectArmed. -/
def State.rampOpen (s : State) : State :=
  let fault := s.de.connect == 4
  (s.openSequenced).modDe fun d => { d with armed := d.armed && !fault }

/-- RAMP_DOWN_WAIT_END (R323, R324): by the current of the last row, an opening, an opening under load, or the
breaker. -/
def execRampDownWaitEnd (s : State) : Host.Outcome State Fault Refusal :=
  let waiting := s.de.connect == 3 || s.de.connect == 4
  .next (if !waiting || (s.de.lowRows < 3 && s.de.waitRows < 20000) then s
    else
      let (i, t) := match s.rows.latched with
        | some _ => (s.latchedAbs, s)
        | none => (((s.freeNat : Nat) : Rat), s.takeFree)
      if i ≤ (s.cfgGet 0x2C81 3 : Rat) then t.rampOpen
      else if i ≤ (s.cfgGet 0x2C81 4 : Rat) then
        (t.rampOpen.modDe fun d => { d with underLoad := d.underLoad + 1 }).raiseEvent 0x0C08
      else
        ((t.take .trip).modDe fun d => { d with connect := 6, armed := false, breakerTrips := d.breakerTrips + 1 }).raiseEvent
          0x0C09)

/-! ### Rest answers (R326 to R328) -/

/-- A rest window starts (R326). -/
def State.restStart (s : State) : State :=
  s.modDe fun d => { d with restState := 3, restEnd := stampAt s.tb.now.epoch (s.ns + d.restLength * 1000000000) }

/-- A grant acts (R326): at once where RestStart is all 0 or has passed. -/
def State.restGrant (s : State) (l : Lease) : State :=
  let t := s.modDe fun d => { d with restGrantor := some (l.cls, l.node) }
  let soon := (l.restStart == {}) || !stampBefore s.tb.now l.restStart
  if soon then t.restStart else t.modDe fun d => { d with restState := 2, restEnd := l.restStart }

/-- The lease that granted the window still does, and its answer still decides. -/
def State.grantStands (s : State) : Bool :=
  s.restAnswer == 1 && s.liveLeases.any fun l => s.de.restGrantor == some (l.cls, l.node) && l.restAnswer == 1

/-- The rest answer acts on the request (R326). -/
def State.restUpdate (s : State) : State :=
  match s.de.restState with
  | 1 => match s.restDecider with
    | none => s
    | some l => if s.restAnswer == 1 then s.restGrant l else s.modDe fun d => { d with restState := 4 }
  | 2 => if s.grantStands then s else s.modDe fun d => { d with restState := if s.restAnswer == 2 then 4 else 1 }
  | 3 => if s.grantStands then s else (s.modDe fun d => { d with restState := 5 }).raiseEvent 0x0C0B
  | _ => s

/-- What a change of the lease table does (R317, R321, R326). -/
def State.leasesActed (s : State) : State := s.intentUpdate.restUpdate

/-- REST_WINDOW_START (R326). -/
def execRestWindowStart (s : State) : Host.Outcome State Fault Refusal :=
  .next (if s.de.restState == 2 then s.restStart else s)

/-- REST_WINDOW_END (R328). -/
def execRestWindowEnd (s : State) : Host.Outcome State Fault Refusal :=
  .next (if s.de.restState == 3 then s.modDe fun d => { d with restState := 5 } else s)

/-- REST_RETRY_EXPIRY (R326): requested again if the fabric still asks for a rest. -/
def execRestRetryExpiry (s : State) : Host.Outcome State Fault Refusal :=
  .next (if s.de.restState != 4 then s
    else if bit s.ef.flags 3 then
      (s.modDe fun d => { d with restState := 1, restLength := s.restWindow }).restUpdate
    else s.modDe fun d => { d with restState := 0 })

/-! ### Lease writes (R316, R319, R320) -/

/-- The lease of a class and node, while it is held: a lease that ended or lapsed is not (R320). -/
def State.heldLease (s : State) (cls node : Nat) : Option Lease :=
  s.liveLeases.find? fun l => l.cls == cls && l.node == node

/-- A sequence rises (R316): a difference below 2^31, modulo 2^32. -/
def rises (old new : U32) : Bool := 0 < (new - old).toNat && (new - old).toNat < 2 ^ 31

/-- The 36 bytes of a lease's record (R316). -/
def Lease.bytes (l : Lease) : Bytes :=
  [l.cls, l.intent] ++ leBytes 2 l.ttl ++ leBytes 4 l.seq.toNat ++ leBytes 4 l.chargeCap ++ leBytes 4 l.dischargeCap ++
    leBytes 2 l.socMin ++ leBytes 2 l.socMax ++ [l.restAnswer, 0, 0, 0] ++ stampBytes l.restStart

/-- A lease from the bytes of its record (R316). -/
def leaseOf (b : Bytes) (node : Nat) (now : Stamp) : Lease :=
  let f (off n : Nat) : Nat := leNat ((b.drop off).take n)
  { cls := f 0 1, node, intent := f 1 1, ttl := f 2 2, rows := f 2 2 * 10000, seq := BitVec.ofNat 32 (f 4 4)
    chargeCap := f 8 4, dischargeCap := f 12 4, socMin := f 16 2, socMax := f 18 2, restAnswer := f 20 1
    restStart := { ns := f 24 4, sec := f 28 6, epoch := f 34 2 }, written := now }

/-- A record's fields are in range (R316). -/
def leaseInRange (b : Bytes) (l : Lease) : Bool :=
  b.length == 36 && 1 ≤ l.cls && l.cls ≤ 7 && l.intent ≤ 2 && l.ttl ≤ 600 && l.socMin < l.socMax && l.restAnswer ≤ 2 &&
    ((b.drop 21).take 3).all (· == 0) && l.restStart.ns < 1000000000

/-- The lease classes a role may write (R474). -/
def classPermitted (role cls : Nat) : Bool :=
  match role with
  | 2 => 4 ≤ cls && cls ≤ 7
  | 3 => cls == 1 || cls == 2
  | 4 | 5 | 6 => cls == 3
  | _ => false

/-- The lease of the lowest rank that expires first, of those that rank below a class (R319). -/
def lowestBelow (cls : Nat) (l : List Lease) : Option Lease :=
  let top := l.foldl (fun m x => max m x.cls) 0
  if top ≤ cls then none
  else (l.filter fun x => x.cls == top).foldl (fun o x => match o with
    | none => some x
    | some y => if x.rows < y.rows then some x else some y) none

/-- Two leases are of one holder. -/
def Lease.same (a b : Lease) : Bool := a.cls == b.cls && a.node == b.node

/-- An accepted lease record enters the table (R316, R319, R320). The answer says whether it stands. -/
def State.putLease (s : State) (l : Lease) : State × Bool :=
  let others := s.de.leases.filter fun x => !x.same l
  let set (ls : List Lease) (t : State) : State := (t.modDe fun d => { d with leases := ls }).leasesActed
  let counted := (s.modDe fun d => { d with leasesRefused := d.leasesRefused + 1 }).raiseEvent 0x0C07
  if l.ttl == 0 then (set others s, true)
  else if (s.heldLease l.cls l.node).isSome || others.length < 16 then (set (others ++ [l]) s, true)
  else match lowestBelow l.cls others with
    | some e => (set ((others.filter fun x => !x.same e) ++ [l]) counted, true)
    | none => (counted, false)

/-- A lease write against the held sequence (R316). -/
def State.sequenceOk (s : State) (l : Lease) : Bool := ((s.heldLease l.cls l.node).map fun h => rises h.seq l.seq).getD true

/-- A write of LeaseWrite (R316, R319, R492). A new lease that the full table refuses is answered 0x0B (assumption 17). -/
def State.leaseAct (t : State) (x : Session) (value : Bytes) : Answer :=
  let l := leaseOf value x.client t.tb.now
  if !classPermitted x.role l.cls then no t 0x06
  else if !leaseInRange value l || !t.sequenceOk l then no t 0x0A
  else
    let (u, good) := t.putLease l
    if good then ok u else no u 0x0B

/-- LEASE_WRITE (R316, R319, R321, R329): acts at the next row. -/
def execLeaseWrite (r : Req) (value : Bytes) (s : State) : Host.Outcome State Fault Refusal :=
  .next (s.liveReq r false 0x2C84 0 value anyRole (.leaseWrite r value) fun t x => t.leaseAct x value)

/-- The leases count a row down (R316); while the loader runs no row counts (R537). -/
def State.leaseRow (s : State) : State :=
  if s.loaderRuns then s else s.modDe fun d => { d with leases := d.leases.map fun l => { l with rows := l.rows - 1 } }

/-- LEASE_EXPIRY (R316): the leases whose Ttl has run out lapse. -/
def execLeaseExpiry (s : State) : Host.Outcome State Fault Refusal :=
  .next ((s.modDe fun d => { d with leases := d.leases.filter (0 < ·.rows) }).leasesActed)

end Sys2Proof.Machine
end

