-- ==== Sys2Proof/Machine/Can.lean ====
section
/-! DEFINITION. Can: the CAN controllers (R434 to R459): bit timing, filter lists, receive and transmit buffers, error
states, the fire panel and Syben over CAN. -/

namespace Sys2Proof.Machine

/-! ### Controllers and ownership (R434 to R437) -/

/-- A CAN controller: 1 or 2. -/
def State.ctl (s : State) (k : Nat) : CanCtl := if k == 1 then s.cn.c1 else s.cn.c2

/-- The host owns CAN2 (R437). -/
def State.hostCan2 (s : State) : Bool := s.cfgGet 0x328B 0 == 1

/-- The firmware owns a controller (R437). -/
def State.fwOwns (s : State) (k : Nat) : Bool := k == 1 || (k == 2 && !s.hostCan2)

/-- A bit rate in kbit/s has a prescaler (R435): a whole number of quanta from 8 to `most` at a prescaler from 1 to
32, off the 80 MHz clock. -/
def bitTimingOk (rate most : Nat) : Bool :=
  rate != 0 && (List.range 32).any fun k =>
    80000 % ((k + 1) * rate) == 0 && 8 ≤ 80000 / ((k + 1) * rate) && 80000 / ((k + 1) * rate) ≤ most

/-- Bits of CAN2_ALERT are set; only the host's controller has them (R452). -/
def State.alertBit (s : State) (k n : Nat) : State :=
  if k == 2 && s.hostCan2 then s.modCtl 2 fun c => { c with alert := setBit c.alert n true } else s

/-- A transmit buffer. -/
def CanCtl.txb (c : CanCtl) (n : Nat) : CanTx := tabGet {} n c.tx

/-- A change to a transmit buffer. -/
def CanCtl.modTx (c : CanCtl) (n : Nat) (f : CanTx → CanTx) : CanCtl := { c with tx := tabMod {} n f c.tx }

/-- A receive buffer. -/
def CanCtl.rxb (c : CanCtl) (n : Nat) : CanRx := tabGet {} n c.rx

/-- A change to a receive buffer. -/
def CanCtl.modRx (c : CanCtl) (n : Nat) (f : CanRx → CanRx) : CanCtl := { c with rx := tabMod {} n f c.rx }

/-- A state in which a buffer takes a request: FREE or finished (R445, R446). -/
def CanTx.open' (x : CanTx) : Bool := x.state != 1 && x.state != 2

/-- The buffer in transmission, if there is one. -/
def CanCtl.active (c : CanCtl) : Option Nat := (c.tx.find? fun (_, x) => x.state == 2).map (·.1)

/-- ErrorState from mode and counters (R449, R450, R459). -/
def CanCtl.errorNow (c : CanCtl) : Nat :=
  if c.mode == 0 then 3
  else if 255 < c.tec then (if c.recovering then 4 else 2)
  else if 127 < c.tec || 127 < c.recv then 1 else 0

/-- The error state follows the counters; a change sets its alert bit, entering error-passive or bus-off its fault
(R449, R450). -/
def State.errorUpdate (s : State) (k : Nat) : State :=
  let old := (s.ctl k).errState
  let new := (s.ctl k).errorNow
  let t := s.modCtl k fun c => { c with errState := new }
  let u := if old != new then t.alertBit k 2 else t
  let passive := [1, 2].filter fun j => (u.ctl j).errState == 1
  let off := [1, 2].filter fun j => (u.ctl j).errState == 2 || (u.ctl j).errState == 4
  (u.cond 0x1201 (!passive.isEmpty) (passive.headD 0)).cond 0x1202 (!off.isEmpty) (off.headD 0)

/-- A controller takes a mode (R434, R436): mode 0 at the end of the frame in progress, or at once. -/
def State.takeMode (s : State) (k mode : Nat) : State :=
  if mode == 0 && (s.ctl k).active.isSome then s.modCtl k fun c => { c with stopDue := true }
  else (s.modCtl k fun c => { c with mode, stopDue := false }).errorUpdate k

/-- The end of a frame in progress: a stop that waited acts (R436). -/
def State.frameEnd (s : State) (k : Nat) : State := if (s.ctl k).stopDue then s.takeMode k 0 else s

/-- A write of ControllerMode (R434, R436). -/
def State.controllerModeAct (t : State) (ctl value : Nat) : Answer :=
  if ctl == 0 || 2 < ctl then no t 0x08
  else if 3 < value then no t 0x0A
  else ok ((t.cfgPut 0x3280 ctl value).takeMode ctl value)

/-- CONTROLLER_MODE (R434, R436): acts at the next row. -/
def execControllerMode (r : Req) (ctl value : Nat) (s : State) : Host.Outcome State Fault Refusal :=
  .next (s.liveReq r false 0x3280 ctl (leBytes 1 value) operator (.controllerMode r ctl value) fun t _ =>
    t.controllerModeAct ctl value)

/-! ### Filter lists (R438 to R441) -/

/-- The key of a frame and whether it is of the 29-bit half (R438). -/
def frameKey (f : CanFrame) : Nat × Bool :=
  if f.fmt == 2 then if f.af / 2 ^ 29 == 0 then (f.af, true) else (f.id, false) else (f.id, f.ide)

/-- The words of a filter entry. -/
def CanCtl.entry (c : CanCtl) (e : Nat) : Nat × Nat × Nat :=
  (tabGet 0 (3 * e) c.filters, tabGet 0 (3 * e + 1) c.filters % 2 ^ 29, tabGet 0 (3 * e + 2) c.filters % 2 ^ 29)

/-- Whether an entry matches a key and a format (R439). -/
def entryMatches (w : Nat × Nat × Nat) (ring fmt key : Nat) : Bool :=
  let target := w.1 / 256 % 128
  (ring ≤ target || target == 0x7F) && bit w.1 (4 + fmt) &&
    match w.1 % 4 with
    | 1 => w.2.1 ≤ key && key ≤ w.2.2
    | 2 => key == w.2.1 || key == w.2.2
    | 3 => key &&& w.2.2 == w.2.1 &&& w.2.2
    | _ => false

/-- The entry that decides a frame (R440): the first of its half that matches. -/
def CanCtl.decide' (c : CanCtl) (ring : Nat) (f : CanFrame) : Option Nat :=
  let (key, ext) := frameKey f
  ((List.range 128).map fun k => if ext then 128 + k else k).find? fun e => entryMatches (c.entry e) ring f.fmt key

/-- A dual entry for one identifier of a module path, bit 31 for 29 bits. -/
def pathEntry (ident : Nat) : Nat × Nat × Nat × Nat :=
  (if bit ident 31 then 128 else 0, 2 + 4 + 16 * 7 + 0x7F00, ident % 2 ^ 29, ident % 2 ^ 29)

/-- The list of a controller that the firmware owns (R441, R453, R456): Syben requests to PairNodeId, to the own node ID
and to all nodes, and the fire panel; their order is the model's (assumption 18). -/
def State.firmwareList (s : State) (k : Nat) : Tab Nat :=
  let syben (node : Nat) : Nat × Nat × Nat := (3 + 4 + 16 * 6 + 0x7F00, node * 4096, 0x07FFF000)
  let es := if s.cfgGet 0x328C k == 1 then [syben s.pairNodeId, syben s.id.nodeId, syben 0x3FFF] else []
  let t0 := es.zipIdx.foldl (fun t (w, i) =>
    tabPut 0 (3 * (128 + i)) w.1 (tabPut 0 (3 * (128 + i) + 1) w.2.1 (tabPut 0 (3 * (128 + i) + 2) w.2.2 t))) []
  let fire := s.cfgGet 0x328F 1
  if fire != 0xFFFFFFFF && s.cfgGet 0x328F 2 == k then
    let (base, w0, w1, w2) := pathEntry fire
    let e := base + 3
    tabPut 0 (3 * e) w0 (tabPut 0 (3 * e + 1) w1 (tabPut 0 (3 * e + 2) w2 t0))
  else t0

/-- The firmware builds the lists of the controllers it owns (R441). -/
def State.buildLists (s : State) : State :=
  [1, 2].foldl (fun t k => if t.fwOwns k then t.modCtl k fun c => { c with filters := t.firmwareList k } else t) s

/-! ### Receive (R442 to R444) -/

/-- RxRingSize of a controller. -/
def State.ringSize (s : State) (k : Nat) : Nat := s.cfgGet 0x3289 k

/-- A frame enters a receive buffer (R443). -/
def CanRx.store (x : CanRx) (f : CanFrame) (entry sof eof : Nat) (isOver : Bool) : CanRx :=
  { x with nd := true, upd := (x.upd + 1) % 16, lost := x.lost || isOver, filter := entry, frame := f
           sof := BitVec.ofNat 32 sof, eof := BitVec.ofNat 32 eof }

/-- An accepted frame is stored in the ring or in its dedicated buffer (R442). The answer is the buffer it took. -/
def State.storeFrame (s : State) (k e sof : Nat) (f : CanFrame) : State × Option Nat :=
  let c := s.ctl k
  let target := (c.entry e).1 / 256 % 128
  let alert := bit (c.entry e).1 3
  let stored (t : State) : State := if alert then t.alertBit k 0 else t
  if target == 0x7F then
    let n := if s.ringSize k ≤ c.wr then 0 else c.wr
    if (c.rxb n).nd then
      (((s.modCtl k fun c => { c with notAccepted := c.notAccepted + 1 }).alertBit k 3).raiseEvent 0x1203 k, none)
    else
      (stored (s.modCtl k fun c => { c.modRx n (·.store f e sof s.short false) with
        wr := if s.ringSize k ≤ n + 1 then 0 else n + 1, rxFrames := c.rxFrames + 1 }), some n)
  else
    let isOver := (c.rxb target).nd
    (stored (s.modCtl k fun c => { c.modRx target (·.store f e sof s.short isOver) with
      rxFrames := c.rxFrames + 1, overwritten := if isOver then c.overwritten + 1 else c.overwritten }), some target)

/-- A buffer is acknowledged with the UPD that was read (R444). -/
def State.rxAck (s : State) (k n upd : Nat) : State :=
  if ((s.ctl k).rxb n).upd == upd then s.modCtl k fun c => c.modRx n fun x => { x with nd := false, lost := false } else s

/-- CAN2_RXACK (R444, R452). -/
def execCan2Rxack (buffer upd : Nat) (s : State) : Host.Outcome State Fault Refusal :=
  .next (if s.hostCan2 then s.rxAck 2 (buffer % 128) (upd % 16) else s)

/-! ### Alive checkers (R498) -/

/-- The result of an alive checker of a width and MaxSkip: code and n (R498). -/
def aliveCheck (last : Option Nat) (c width maxSkip : Nat) : Nat × Nat :=
  match last with
  | none => (0, 0)
  | some l =>
    let d := (c + 2 ^ width - l % 2 ^ width) % 2 ^ width
    if d == 1 then (0, 0) else if d == 0 then (1, 0) else if d ≤ maxSkip + 1 then (2, d - 1) else (3, 0)

/-! ### Fire panel (R456) -/

/-- The lease of a fire state (R456); none for another state. -/
def State.fireLease (s : State) (state counter : Nat) : Option Lease :=
  let base : Lease := { cls := 1, node := 0, seq := BitVec.ofNat 32 counter, written := s.tb.now }
  let cap := s.cfgGet 0x328F 4
  let ttl := (s.cfgGet 0x328F 3 + 999) / 1000
  match state with
  | 1 => some base
  | 2 => some { base with ttl, rows := ttl * 10000, chargeCap := cap, dischargeCap := cap }
  | 3 => some { base with ttl := 600, rows := 6000000, intent := 2, chargeCap := 0, dischargeCap := 0 }
  | _ => none

/-- The lease write that a fire panel frame becomes waits with the LIVE writes (R316, R456): of class FIRE from node 0, with
the counter as sequence. No session answers it. -/
def fireLive (seq : Nat) (record : Bytes) (theirs : Bool) : Live :=
  { cmd := .leaseWrite { seq } record, req := { seq }, sess := { role := 3 }, theirs }

/-- A fire panel frame (R456): a lease write that travels as a command record. -/
def State.fireFrame (s : State) (d : Bytes) : State :=
  let state := d.getD 0 0
  let counter := leNat ((d.drop 4).take 4)
  match s.fireLease state counter with
  | none => s
  | some l =>
    if s.cn.fireState != 0 && !rises s.cn.fireCounter (BitVec.ofNat 32 counter) then s
    else
      let (_, n) := aliveCheck s.cn.fireLast (counter % 256) 8 Config.fireMaxSkip
      let t := s.modCn fun x => { x with
        fireState := state, fireCounter := BitVec.ofNat 32 counter, fireLast := some (counter % 256)
        fireSkipped := x.fireSkipped + BitVec.ofNat 32 n }
      let u := (if state == 3 then t.raiseEvent 0x1207 else t).clearCond 0x1206
      (u.travel { node := 0, seq := counter, index := 0x2C84, value := l.bytes }).modSy fun y =>
        { y with live := y.live ++ [fireLive counter l.bytes false] }

/-- The twin's record of a fire panel frame (R377, R456): where this unit's copy of it waits they count once, and one whose
counter does not rise is discarded. -/
def State.fireRecord (s : State) (c : CmdRecord) : State :=
  let mine (l : Live) : Bool := !l.agreed && l.sess.client == 0 && l.req.seq == c.seq
  if s.sy.live.any mine then
    (s.modSy fun y => { y with live := y.live.map fun l => if mine l then { l with theirs := true } else l }).modTy fun y =>
      { y with cmdsDue := y.cmdsDue.filter fun x => !(x.node == 0 && x.seq == c.seq) }
  else if s.cn.fireState != 0 && !rises s.cn.fireCounter (BitVec.ofNat 32 c.seq) then s
  else
    let l := leaseOf c.value 0 s.tb.now
    (s.modCn fun x => { x with
      fireState := if l.ttl == 0 then 1 else if l.intent == 2 then 3 else 2
      fireCounter := BitVec.ofNat 32 c.seq }).modSy fun y => { y with live := y.live ++ [fireLive c.seq c.value true] }

/-- FIRE_TIMEOUT (R456): no valid frame for FireTimeout, where a fire panel is configured. -/
def execFireTimeout (s : State) : Host.Outcome State Fault Refusal :=
  .next (if s.cfgGet 0x328F 1 != 0xFFFFFFFF then s.raiseCond 0x1206 else s)

/-- FIRE_LEASE_RENEW (R456): the alarm lease is renewed at 600 s. -/
def execFireLeaseRenew (s : State) : Host.Outcome State Fault Refusal :=
  .next (if s.cn.fireState == 3 then
    match s.fireLease 3 s.cn.fireCounter.toNat with
    | some l => (s.putLease l).1
    | none => s
  else s)

/-! ### Syben reassembly (R453, R471, R472) -/

/-- A reassembly's place. -/
def CanReasm.here (x : CanReasm) (k channel node : Nat) : Bool := x.ctrl == k && x.channel == channel && x.node == node

/-- The reassemblies without one of a place. -/
def dropReasm (l : List CanReasm) (k channel node : Nat) : List CanReasm := l.filter fun x => !x.here k channel node

/-- The length of a message over CAN FD by its header, with its short MAC (R467, R468, R472). -/
def messageLength (b : Bytes) : Nat := 16 + leNat ((b.drop 4).take 2) + 8

/-- A Syben frame for this module (R453, R471, R472). A complete message is a request: its row carries it out
(assumption 19), and its reassembly ends. -/
def State.sybenFrame (s : State) (k ident : Nat) (xl : Bool) (d : Bytes) : State :=
  let node := ident / 4096 % 2 ^ 14
  let channel := ident / 16 % 256
  let seg := ident % 16
  let set (l : List CanReasm) : State := s.modCn fun n => { n with reasm := l }
  let rest := dropReasm s.cn.reasm k channel node
  if bit ident 26 || channel == 0 || channel == 255 || 4 ≤ seg || xl then s
  else if seg == 0 then s
  else if seg == 1 then
    set (if messageLength d < d.length then rest else rest ++ [{ ctrl := k, channel, node, next := 1, bytes := d }])
  else match s.cn.reasm.find? (·.here k channel node) with
    | none => s
    | some x =>
      let b := x.bytes ++ d.drop 1
      if d.headD 0 != x.next || (seg == 2 && messageLength x.bytes < b.length) || seg == 3 then set rest
      else set (rest ++ [{ x with next := (x.next + 1) % 256, bytes := b }])

/-- CAN_REASSEMBLY_TIMEOUT (R472): more than 50 ms between two frames. -/
def execCanReassemblyTimeout (ctl channel node : Nat) (s : State) : Host.Outcome State Fault Refusal :=
  .next (s.modCn fun n => { n with reasm := dropReasm n.reasm ctl channel node })

/-- What the firmware does with a frame that it has taken from a buffer of its own controllers. -/
def State.firmwareFrame (s : State) (k : Nat) (f : CanFrame) : State :=
  let fire := s.cfgGet 0x328F 1
  if fire != 0xFFFFFFFF && s.cfgGet 0x328F 2 == k && f.fmt == 0 && !f.rtr && f.data.length == 8 && f.ide == bit fire 31 &&
      f.id == fire % 2 ^ 29 then s.fireFrame f.data
  else if f.fmt == 1 && f.ide then s.sybenFrame k f.id false f.data
  else if f.fmt == 2 && f.af / 2 ^ 29 == 0 then s.sybenFrame k f.af true f.data
  else s

/-- REC after a frame received without error, by ISO 11898-1 (PRESUMED, assumption 20): one less, or from above 127 a
value of 119 to 127, which is free. -/
def State.goodRec (s : State) (k : Nat) : State :=
  if 127 < (s.ctl k).recv then (s.modCtl k fun c => { c with recv := 119 + s.freeNat % 9 }).takeFree
  else s.modCtl k fun c => { c with recv := c.recv - 1 }

/-- A valid frame is filtered and stored (R440 to R443); the firmware takes its own controllers' frames at once. -/
def State.receiveFrame (s : State) (k sof : Nat) (f : CanFrame) : State :=
  match (s.ctl k).decide' (s.ringSize k) f with
  | none => s
  | some e =>
    if !bit ((s.ctl k).entry e).1 2 then s
    else
      let (t, n) := s.storeFrame k e sof f
      match n with
      | none => t
      | some b => if t.fwOwns k then (t.rxAck k b ((t.ctl k).rxb b).upd).firmwareFrame k f else t

/-- A controller hears a frame of a format (R434): running, not in loopback, not bus-off, the format on. -/
def State.hears (s : State) (k fmt : Nat) : Bool :=
  let c := s.ctl k
  (c.mode == 1 || c.mode == 2) && c.errState ≤ 1 && (fmt == 0 || bit (s.cfgGet 0x3283 k) (fmt - 1))

/-- CAN_FRAME_RECEIVE (R440 to R443, R449, R453, R456): a valid frame, with the short stamp of its SOF. -/
def execCanFrameReceive (ctl : Nat) (frame : CanFrame) (sof : Nat) (s : State) : Host.Outcome State Fault Refusal :=
  .next (if (ctl != 1 && ctl != 2) || !s.coreUp || !s.hears ctl frame.fmt then s
    else ((s.goodRec ctl).receiveFrame ctl sof frame).errorUpdate ctl)

/-! ### Transmit (R445 to R448) -/

/-- A request is refused (R446). -/
def State.txRefused (s : State) (k : Nat) : State :=
  (s.modCtl k fun c => { c with txRefused := c.txRefused + 1 }).raiseEvent 0x1204 k

/-- The frame that the words of a transmit buffer spell (R443, R445): flags, identifier, length and data. -/
def frameOfWords (w : Tab Nat) : CanFrame :=
  let g (k : Nat) : Nat := tabGet 0 k w
  let w0 := g 0
  let w2 := g 2
  let xl := w0 / 2 ^ 23 % 4 == 2
  let most := if w0 / 2 ^ 23 % 4 == 0 then 8 else if xl then 2048 else 64
  let n := min most (w2 % 4096)
  { fmt := w0 / 2 ^ 23 % 4, ide := bit w0 22, rtr := bit w0 21, brs := bit w0 20, id := g 1 % 2 ^ 29
    sdt := if xl then w2 / 2 ^ 12 % 256 else 0, sec := xl && bit w2 20, vcid := if xl then w2 / 2 ^ 24 else 0
    af := if xl then g 3 else 0
    data := (List.range n).map fun i => g (8 + i / 4) / 256 ^ (i % 4) % 256 }

/-- A buffer takes the words of a host content: frame, ONESHOT and ALERT (R445). -/
def CanTx.load (x : CanTx) (w : Tab Nat) : CanTx :=
  { x with words := w, frame := frameOfWords w, oneshot := bit (tabGet 0 0 w) 27, alert := bit (tabGet 0 0 w) 26 }

/-- Request (R446): LATE and ATTEMPTS cleared; PENDING. -/
def CanTx.request (x : CanTx) : CanTx := { x with state := 1, late := false, attempts := 0, cancel := false }

/-- A buffer finishes in a state (R445): its alert, and the count of late cancels. -/
def State.txFinish (s : State) (k n state : Nat) (late : Bool) : State :=
  let x := (s.ctl k).txb n
  let t := s.modCtl k fun c => { c.modTx n (fun x => { x with state, late, cancel := false }) with
    lateCancels := if late then c.lateCancels + 1 else c.lateCancels
    txFrames := if state == 3 then c.txFrames + 1 else c.txFrames }
  let u := if x.alert then t.alertBit k 1 else t
  match x.replace with
  | none => u
  | some f =>
    u.modCtl k fun c =>
      let put (x : CanTx) : CanTx := if k == 2 && s.hostCan2 then x.load c.stageWords else { x with frame := f }
      { c.modTx n (fun x => { put x with replace := none }.request) with stageBusy := false }

/-- The firmware requests a frame in a buffer (R446): refused where the buffer cannot take it. -/
def State.fwSend (s : State) (k n : Nat) (f : CanFrame) : State :=
  if !s.fwOwns k then s
  else if ((s.ctl k).txb n).open' then s.modCtl k fun c => c.modTx n fun x => { x with frame := f }.request
  else s.txRefused k

/-- The firmware replaces a buffer's frame (R313, R446). -/
def State.fwReplace (s : State) (k n : Nat) (f : CanFrame) : State :=
  if !s.fwOwns k then s
  else if ((s.ctl k).txb n).state == 2 then s.modCtl k fun c => c.modTx n fun x => { x with cancel := true, replace := some f }
  else s.modCtl k fun c => c.modTx n fun x => { x with frame := f }.request

/-- The next frame of the Syben chain enters its buffer, the third, once that is open (R471, assumption 18). -/
def State.chainStep (s : State) (k : Nat) : State :=
  match (s.ctl k).chain with
  | [] => s
  | f :: rest =>
    if ((s.ctl k).txb 2).open' then (s.modCtl k fun c => { c with chain := rest }).fwSend k 2 f else s

/-- CAN_TX_REQUEST (R446, R452): a request of the host. -/
def execCanTxRequest (buffer : Nat) (s : State) : Host.Outcome State Fault Refusal :=
  .next (if !s.hostCan2 || 64 ≤ buffer then s
    else if ((s.ctl 2).txb buffer).open' then s.modCtl 2 fun c => c.modTx buffer fun x => (x.load x.words).request
    else s.txRefused 2)

/-- CAN_TX_CANCEL (R446, R448, R452). -/
def execCanTxCancel (buffer : Nat) (s : State) : Host.Outcome State Fault Refusal :=
  .next (if !s.hostCan2 || 64 ≤ buffer then s
    else match ((s.ctl 2).txb buffer).state with
      | 1 => s.txFinish 2 buffer 4 false
      | 2 => s.modCtl 2 fun c => c.modTx buffer fun x => { x with cancel := true }
      | _ => s)

/-- CAN_TX_REPLACE (R446, R452): the staging slot enters the buffer, at once or once the frame in flight finishes. -/
def execCanTxReplace (buffer : Nat) (s : State) : Host.Outcome State Fault Refusal :=
  .next (if !s.hostCan2 || 64 ≤ buffer then s
    else if ((s.ctl 2).txb buffer).state == 2 then
      s.modCtl 2 fun c => { c.modTx buffer (fun x => { x with cancel := true, replace := some (frameOfWords c.stageWords) }) with stageBusy := true }
    else s.modCtl 2 fun c => c.modTx buffer fun x =>
      (x.load c.stageWords).request)

/-- What decides arbitration (R447): the bits after SOF in their order, as a number; the lower wins. Base identifier, RTR
or SRR, IDE, then the rest. -/
def frameRank (f : CanFrame) : Nat :=
  let base := if f.ide && f.fmt != 2 then f.id / 2 ^ 18 % 2048 else f.id % 2048
  let ext := f.ide && f.fmt != 2
  let fd := b2n (f.fmt != 0)
  let rest := if ext then (f.id % 2 ^ 18 * 2 + b2n f.rtr) * 2 + fd else fd * 2 + b2n (f.fmt == 2)
  ((base * 2 + b2n (ext || f.rtr)) * 2 + b2n ext) * 2 ^ 20 + rest

/-- The PENDING buffer that would win arbitration, the lower number where two are equal (R447). -/
def CanCtl.winner (c : CanCtl) : Option Nat :=
  ((c.tx.filter fun (_, x) => x.state == 1).foldl (fun (o : Option (Nat × Nat)) (n, x) => match o with
    | none => some (n, frameRank x.frame)
    | some (m, v) => if frameRank x.frame < v then some (n, frameRank x.frame) else some (m, v)) none).map (·.1)

/-- CAN_TX_SELECT (R447): the bus is idle, the winning buffer drives SOF. -/
def execCanTxSelect (ctl : Nat) (s : State) : Host.Outcome State Fault Refusal :=
  let t := s.chainStep ctl
  let c := t.ctl ctl
  .next (if (ctl != 1 && ctl != 2) || !(c.mode == 1 || c.mode == 3) || 2 ≤ c.errState || c.active.isSome then s
    else match c.winner with
      | none => t
      | some n => t.modCtl ctl fun c => c.modTx n fun x => { x with
          state := 2, attempts := min 7 (x.attempts + 1), sof := BitVec.ofNat 32 s.short
          frame := { x.frame with esi := c.errState == 1 } })

/-- The envelope's frame has completed (R314). -/
def State.envelopeOnCan (s : State) (k n : Nat) : State :=
  if n == 0 && s.fwOwns k && s.cfgGet 0x2C82 3 == k then s.modDe fun d => { d with canNow := true, lastCan := s.tb.now } else s

/-- CAN_TX_COMPLETE (R314, R448, R449): DONE, LATE 1 where a cancel is pending; TEC falls by 1 (ISO 11898-1, assumption
20). In loopback the frame is received. -/
def execCanTxComplete (ctl : Nat) (s : State) : Host.Outcome State Fault Refusal :=
  .next (match (s.ctl ctl).active with
    | none => s
    | some n =>
      let x := (s.ctl ctl).txb n
      let t := s.modCtl ctl fun c => { c.modTx n (fun x => { x with eof := BitVec.ofNat 32 s.short }) with tec := c.tec - 1 }
      let u := (t.txFinish ctl n 3 x.cancel).envelopeOnCan ctl n
      let v := if (s.ctl ctl).mode == 3 then u.receiveFrame ctl x.sof.toNat x.frame else u
      (v.errorUpdate ctl).frameEnd ctl)

/-- The frame in flight ends without completing (R447, R448, R450): CANCELLED where a cancel is pending or the buffer is
one-shot, else PENDING again. -/
def State.frameFails (s : State) (k : Nat) : State :=
  match (s.ctl k).active with
  | none => s
  | some n =>
    let x := (s.ctl k).txb n
    if x.cancel || x.oneshot then s.txFinish k n 4 x.cancel else s.modCtl k fun c => c.modTx n fun x => { x with state := 1 }

/-- CAN_ARBITRATION_LOST (R447, R448). -/
def execCanArbitrationLost (ctl : Nat) (s : State) : Host.Outcome State Fault Refusal :=
  .next ((s.frameFails ctl).frameEnd ctl)

/-! ### Errors (R449 to R451) -/

/-- Every PENDING buffer is purged (R450). -/
def State.purge (s : State) (k : Nat) : State :=
  (((s.ctl k).tx.filter fun (_, x) => x.state == 1).map (·.1)).foldl (fun t n =>
    (t.txFinish k n 5 false).modCtl k fun c => { c with purged := c.purged + 1 }) s

/-- The Ethernet fallback begins (R314). -/
def State.fallbackBegin (s : State) : State :=
  if s.de.fallback then s else (s.modDe fun d => { d with fallback := true, canRun := 0 }).raiseEvent 0x0C05

/-- A controller enters bus-off (R450). -/
def State.busOff (s : State) (k : Nat) : State :=
  let opt := s.cfgGet 0x3288 k
  let t := s.modCtl k fun c => { c with busOffs := c.busOffs + 1, recovering := bit opt 0 }
  let u := if bit opt 1 then t.purge k else t
  if s.fwOwns k && s.cfgGet 0x2C82 3 == k then u.fallbackBegin else u

/-- CAN_BUS_ERROR (R449, R450): an error of a code; `add` is what ISO 11898-1 adds to TEC while transmitting, else to
REC. -/
def execCanBusError (ctl code add : Nat) (transmitting : Bool) (s : State) : Host.Outcome State Fault Refusal :=
  let c := s.ctl ctl
  .next (if (ctl != 1 && ctl != 2) || c.mode == 0 || 2 ≤ c.errState then s
    else
      let t := s.modCtl ctl fun c => { c with
        lastErr := code % 8, tec := if transmitting then c.tec + add else c.tec
        recv := if transmitting then c.recv else min 65535 (c.recv + add) }
      let u := if transmitting then t.frameFails ctl else t
      ((if 255 < (u.ctl ctl).tec then u.busOff ctl else u).errorUpdate ctl).frameEnd ctl)

/-- BUS_OFF_RECOVERY_COMPLETE (R450). -/
def execBusOffRecoveryComplete (ctl : Nat) (s : State) : Host.Outcome State Fault Refusal :=
  .next (if (s.ctl ctl).recovering then
    (s.modCtl ctl fun c => { c with tec := 0, recv := 0, recovering := false }).errorUpdate ctl
  else s)

/-- A write of RecoverRequest (R450). -/
def State.recoverAct (t : State) (ctl value : Nat) : Answer :=
  if ctl == 0 || 2 < ctl then no t 0x08
  else if value != 1 then no t 0x0A
  else if (t.ctl ctl).tec ≤ 255 then no t 0x0B
  else ok ((t.modCtl ctl fun c => { c with recovering := true }).errorUpdate ctl)

/-- RECOVER_REQUEST (R450, R458): acts at the next row. -/
def execRecoverRequest (r : Req) (ctl value : Nat) (s : State) : Host.Outcome State Fault Refusal :=
  .next (s.liveReq r false 0x328A ctl (leBytes 1 value) operator (.recoverRequest r ctl value) fun t _ =>
    t.recoverAct ctl value)

/-- CAN_TRANSCEIVER_FAULT (R451). -/
def execCanTransceiverFault (ctl : Nat) (s : State) : Host.Outcome State Fault Refusal := .next (s.raiseEvent 0x1205 ctl)

/-! ### Host window for CAN2 (R452) -/

/-- CAN2_TXFIN (R445, R452): finished buffers return to FREE. -/
def execCan2Txfin (buffers : Nat) (s : State) : Host.Outcome State Fault Refusal :=
  let free (n : Nat) (x : CanTx) : CanTx :=
    if bit buffers n && 3 ≤ x.state then { x with state := 0, late := false, attempts := 0 } else x
  .next (if s.hostCan2 then s.modCtl 2 fun c => { c with tx := tabEach {} (List.range 64) free c.tx } else s)

/-- CAN2_ALERT (R452): write 1 to clear. -/
def execCan2Alert (bits : Nat) (s : State) : Host.Outcome State Fault Refusal :=
  let clear (v : Nat) : Nat := [0, 1, 2, 3].foldl (fun v n => if bit bits n then setBit v n false else v) v
  .next (if s.hostCan2 then s.modCtl 2 fun c => { c with alert := clear c.alert } else s)

/-! ### HVAC (R455) -/

/-- A CAN FD frame with an identifier of a path object. -/
def State.pathFrame (s : State) (k ident : Nat) (data : Bytes) : CanFrame :=
  { fmt := 1, ide := bit ident 31, brs := s.cfgGet 0x3284 k != 0, id := ident % 2 ^ 29, data }

/-- A temperature as a 16-bit word; 0x8000 without a value (R505). -/
def tempWord (o : Option Int) : Nat := toWord 16 (o.getD (-32768))

/-- The HVAC frame of every 100th pattern (R455). -/
def State.hvacPattern (s : State) : State :=
  let ident := s.cfgGet 0x328E 1
  let k := s.cfgGet 0x328E 2
  if s.patNo % 100 != 0 || ident == 0xFFFFFFFF || !s.fwOwns k then s
  else
    let (n, t) := s.numberMsg false
    t.fwSend k 1 (t.pathFrame k ident ([s.tm.cooling, s.tm.heating] ++ leBytes 2 (tempWord s.tm.hotTemp) ++
      leBytes 2 (tempWord s.tm.coldTemp) ++ [s.tm.level, b2n s.tm.windowClosed + 2 * b2n s.shutLatched] ++ leBytes 4 n))

end Sys2Proof.Machine
end

