-- ==== Sys2Proof/Machine/Envelope.lean ====
section
/-! DEFINITION. Envelope: the dispatch envelope (R305 to R315), its enforcement (R322, R323) and rest requests (R325 to
R328). -/

namespace Sys2Proof.Machine

/-! ### Computed limits (R307, R308) -/

/-- e^(−t/τ) in binary64, t in s and τ in ms; 0 for a time constant of 0. -/
def decay64 (t : Nat) (tau : Rat) : Rat := if tau ≤ 0 then 0 else rnd64 (expNeg ((t : Rat) * 1000 / tau))

/-- A group's limits in A for a horizon in s (R307): charge, discharge. `lo` and `hi` are its end points at zero
current. -/
def State.groupLimit (s : State) (c : Ctx) (tw : Nat × Rat) (m : Model) (lo hi : Rat) (t : Nat) : Rat × Rat :=
  let ea := decay64 t m.taua
  let eb := decay64 t m.taub
  let cg := div64 c.cap 1000000
  let v0 := add64 (add64 (add64 (s.ocvAt tw c.z) c.h) (mul64 c.va ea)) (mul64 c.vb eb)
  let rh := add64 (add64 (add64 m.rs (mul64 m.ra (sub64 1 ea))) (mul64 m.rb (sub64 1 eb)))
    (div64 (mul64 (s.slopeAt tw c.z) (t : Rat)) cg)
  let top := div64 (s.cfgGet 0x2980 10 : Rat) 10000
  let bottom := div64 (s.cfgGet 0x2980 11 : Rat) 10000
  (ratMax 0 (ratMin (div64 (sub64 top v0) rh) (div64 (mul64 (sub64 hi c.z) cg) (t : Rat))),
   ratMax 0 (ratMin (div64 (sub64 v0 bottom) rh) (div64 (mul64 (sub64 c.z lo) cg) (t : Rat))))

/-- A group's six limits in A: charge for 2, 10 and 60 s, then discharge. -/
def State.groupLimits (s : State) (g : Nat) : List Rat :=
  let c := s.ctx g
  let tw := s.tempWeight c.tg
  let m := s.modelAt tw c.z c.kr
  let (lo, hi, _, _) := (s.modEf fun e => { e with iBar := none }).endPoints c tw
  let l := [2, 10, 60].map fun t => s.groupLimit c tw m lo hi t
  l.map (·.1) ++ l.map (·.2)

/-- The least of a limit over groups, with the lowest group that gives it. -/
def leastLimit (k : Nat) (l : List (Nat × List Rat)) : Option (Nat × Rat) :=
  l.foldl (fun o (g, v) => match o with
    | none => some (g, v.getD k 0)
    | some (h, w) => if v.getD k 0 < w then some (g, v.getD k 0) else some (h, w)) none

/-- A limit in mA, rounded toward zero. -/
def wholeMa (x : Rat) : Nat := min 0xFFFFFFFF x.floor.toNat

/-! ### Caps, factors and zero rules (R310, R311) -/

/-- The conditions of R311 on a side, with their LimitCause bits. -/
def State.zeroBits (s : State) (charge : Bool) : List Nat :=
  let soc := (clampInt 0 65535 (pub (s.ef.dispSoc * 65536))).toNat
  let f (b : Bool) (n : Nat) : List Nat := if b then [n] else []
  f (charge && s.tm.windowClosed) 5 ++
  f (s.liveLeases.any fun l => if charge then l.socMax != 0xFFFF && l.socMax ≤ soc else l.socMin != 0 && soc ≤ l.socMin) 6 ++
  f (3 ≤ s.acting.code) 7 ++ f (s.ef.state != 2 || !bit s.ef.flags 0) 8 ++ f s.cl.dataLost 9 ++ f s.tm.zeroEnvelope 10 ++
  f (s.pc.seq != 6) 11 ++ f (s.de.connect == 3 || s.de.connect == 4) 12

/-- I_rest / 2 in mA, rounded toward zero (R255, R328). -/
def State.restCap (s : State) : Nat := s.cfgGet 0x2980 12 / 3600000000

/-- A step of R310 on a value and its LimitCause: the bit is set where the value falls. -/
def capStep (x : Rat × Nat) (b : Nat) (new : Rat) : Rat × Nat := (new, if new < x.1 then setBit x.2 b true else x.2)

/-- One limit of a side through steps 1 to 7 of R310: in mA, with its LimitCause. -/
def State.formLimit (s : State) (charge : Bool) (computed : Option Rat) : Rat × Nat :=
  let cap : Rat := s.cfgGet 0x2C80 (if charge then 1 else 2)
  let x1 : Rat × Nat := match computed with
    | none => (cap, 0)
    | some v => (v, 1)
  let x2 := capStep x1 1 (ratMin x1.1 cap)
  let x3 := if s.acting == .derate then capStep x2 2 (mul64 x2.1 (div64 (s.cfgGet 0x1A02 0 : Rat) 100)) else x2
  let x4 := capStep x3 3 (mul64 x3.1 (div64 (s.tm.factor : Rat) 100))
  let x5 := capStep x4 4 (if s.de.noLease then 0 else ratMin x4.1 (s.leaseCap charge : Rat))
  let x6 := if s.de.restState == 3 then capStep x5 13 (ratMin x5.1 (s.restCap : Rat)) else x5
  let bits := s.zeroBits charge
  if bits.isEmpty then x6
  else (0, (if 0 < x6.1 then bits else bits.filter (· == 12)).foldl (fun c b => setBit c b true) x6.2)

/-- The three published limits of a side and the LimitCause of its 2 s limit (R310). -/
def State.formSide (s : State) (charge : Bool) (computed : Nat → Option Rat) : List Nat × Nat :=
  let (a, cause) := s.formLimit charge (computed 0)
  let b := ratMin (s.formLimit charge (computed 1)).1 a
  let c := ratMin (s.formLimit charge (computed 2)).1 b
  ([wholeMa a, wholeMa b, wholeMa c], cause)

/-! ### The record (R306, R309) -/

/-- Flags of the envelope (R306). -/
def State.envelopeFlags (s : State) : Nat :=
  let valid := s.pc.seq == 6 && s.ef.state == 2 && bit s.ef.flags 0
  b2n valid + 2 * b2n (s.de.connect == 3 || s.de.connect == 4) + 4 * b2n (bit s.ef.flags 3) + 8 * b2n (s.de.restState == 3) +
    16 * b2n (s.acting == .derate) + 32 * b2n (0 < s.tm.level) + 64 * b2n (s.pc.seq == 6) + 128 * b2n s.de.fallback

/-- The 64 bytes of an envelope record (R306). -/
def Envelope.bytes (e : Envelope) : Bytes :=
  let b := [e.version, e.flags] ++ leBytes 2 e.node ++ leBytes 4 e.pattern.toNat ++ leBytes 4 e.charge2 ++ leBytes 4 e.charge10 ++
    leBytes 4 e.charge60 ++ leBytes 4 e.dis2 ++ leBytes 4 e.dis10 ++ leBytes 4 e.dis60 ++ leBytes 4 e.upper ++ leBytes 4 e.lower ++
    leBytes 4 (toWord 32 (e.current.getD (-2147483648))) ++ leBytes 2 e.soc ++ leBytes 2 e.cause ++
    [e.reaction, e.throttle, e.rest, 0] ++ leBytes 4 e.apply.toNat ++ leBytes 4 e.pairSeq.toNat
  b ++ leBytes 4 (crc32c b)

/-- The window ends when the fabric has reset RestAge (R328). -/
def State.restAgeEnd (s : State) : State :=
  if s.de.restState == 3 && !bit s.ef.flags 3 then s.modDe fun d => { d with restState := 5 } else s

/-- The envelope of the next pattern (R306 to R311). -/
def State.computeEnvelope (s : State) : State :=
  let born := s.populated.filter fun g => (s.ctx g).born
  let ls := if s.ef.state == 2 then born.map fun g => (g, s.groupLimits g) else []
  let best (k : Nat) : Option Rat := (leastLimit k ls).map fun (_, v) => mul64 v 1000
  let (ch, cc) := s.formSide true best
  let (di, cd) := s.formSide false fun k => best (k + 3)
  let flags := s.envelopeFlags
  let lim (l : List Nat) (k : Nat) : Nat := if bit flags 0 then l.getD k 0 else 0
  let n := s.groupCount
  s.modDe fun d => { d with
    lim := (List.range 6).map fun k => wholeMa ((best k).getD 0)
    limGroupC := ((leastLimit 0 ls).map (·.1)).getD 0xFFFF, limGroupD := ((leastLimit 3 ls).map (·.1)).getD 0xFFFF
    computed := {
      version := 1, flags, node := s.pairNodeId, pattern := BitVec.ofNat 32 (s.patNo + 1)
      charge2 := lim ch 0, charge10 := lim ch 1, charge60 := lim ch 2, dis2 := lim di 0, dis10 := lim di 1, dis60 := lim di 2
      upper := min (s.cfgGet 0x2C80 5) (n * s.cfgGet 0x2980 10 / 10)
      lower := max (s.cfgGet 0x2C80 6) (n * s.cfgGet 0x2980 11 / 10)
      current := s.ss.current, soc := (clampInt 0 65535 (pub (s.ef.dispSoc * 65536))).toNat, cause := cc ||| cd
      reaction := s.acting.code, throttle := s.tm.level, rest := s.de.restState
      apply := BitVec.ofNat 32 (s.patStart + 10000000) } }

/-- ENVELOPE_COMPUTE (R307, R312, R328): from 7.0 ms of the pattern. -/
def execEnvelopeCompute (s : State) : Host.Outcome State Fault Refusal :=
  .next (((s.runTo (s.patStart + 7000000)).restAgeEnd).computeEnvelope)

/-- The envelope's paths (R312, R313, R454). -/
def State.sendEnvelope (s : State) : State :=
  let paths := s.cfgGet 0x2C82 1
  let k := s.cfgGet 0x2C82 3
  let target := s.cfgGet 0x2C82 4
  let b := s.de.next.bytes
  let t := if bit paths 0 then s.fwReplace k 0 (s.pathFrame k (s.cfgGet 0x2C82 2) b) else s
  if (bit paths 1 || (bit paths 2 && s.de.fallback)) && target != 0 then t.emit (.envelopeEth target b) else t

/-- ENVELOPE_PUBLISH (R305, R312): at 8.5 ms, with its pair sequence. -/
def execEnvelopePublish (s : State) : Host.Outcome State Fault Refusal :=
  let t := s.runTo (s.patStart + 8500000)
  let (n, u) := t.numberMsg false
  .next ((u.modDe fun d => { d with next := { d.computed with pairSeq := BitVec.ofNat 32 n } }).sendEnvelope)

/-- ENVELOPE_ACK (R314): from EnvelopeEthTarget within 100 ms of sending. -/
def execEnvelopeAck (node afterMs : Nat) (s : State) : Host.Outcome State Fault Refusal :=
  .next (if node == s.cfgGet 0x2C82 4 && node != 0 && afterMs ≤ 100 then
    s.modDe fun d => { d with ethNow := true, lastEth := s.tb.now }
  else s)

/-! ### Delivery (R314, R315) -/

/-- The delivery flags of a pattern (R314, R315), once envelopes are published; while the string is open a pattern without
delivery counts only in DeliveryGaps. -/
def State.deliveryPattern (s : State) : State :=
  if s.de.next.version == 0 then s
  else
    let can := s.de.canNow || s.de.twinCan
    let any := can || s.de.ethNow || s.de.twinEth
    let joined := 1 ≤ s.pc.seq && s.pc.seq ≤ 6
    let t := s.modDe fun d => { d with
      noCan := if can then 0 else min 255 (d.noCan + 1), canRun := if can then min 255 (d.canRun + 1) else 0
      noneRun := if any || !joined then 0 else min 255 (d.noneRun + 1)
      gaps := if !any && !joined then d.gaps + 1 else d.gaps
      canNow := false, ethNow := false, twinCan := false, twinEth := false }
    let u := if 3 ≤ t.de.noCan then t.fallbackBegin
      else if t.de.fallback && 100 ≤ t.de.canRun then t.modDe fun d => { d with fallback := false } else t
    u.cond 0x0C06 (joined && 100 ≤ u.de.noneRun)

/-! ### Enforcement (R322, R323) -/

/-- The largest limit of the envelopes of ResponseTime (R322). -/
def State.limitUsed (s : State) (f : Envelope → Nat) : Nat :=
  ((s.de.published.take (s.cfgGet 0x2C81 2 / 10 + 1)).map f).foldl max 0

/-- The checks of a pattern (R322): pairs of side current and limit, means as fractions. -/
def checksOf (h : List Past) : List (Rat × Rat) :=
  let mean (n : Nat) (f : Past → Rat) : Rat := (ratMean ((h.take n).map f)).getD 0
  [(mean 1 fun p => p.ic, mean 1 fun p => p.c2), (mean 1 fun p => p.id, mean 1 fun p => p.d2),
   (mean 1000 fun p => p.ic, mean 1000 fun p => p.c10), (mean 1000 fun p => p.id, mean 1000 fun p => p.d10),
   (mean 6000 fun p => p.ic, mean 6000 fun p => p.c60), (mean 6000 fun p => p.id, mean 6000 fun p => p.d60)]

/-- A check exceeds a factor in percent: greater than f × limit + EnforceAbsMargin (R322). -/
def exceeds (margin percent : Nat) (x : Rat × Rat) : Bool := decide ((percent : Rat) * x.2 / 100 + (margin : Rat) < x.1)

/-- The excess of a check over limit and margin, 0.1 % of the limit (R330); at a limit of 0 it saturates. -/
def excessOf (margin : Nat) (x : Rat × Rat) : Int :=
  let d := x.1 - (margin : Rat) - x.2
  if x.2 = 0 then (if 0 < d then 32767 else -32767) else clampInt (-32767) 32767 (ratTrunc (d * 1000 / x.2))

/-- The enforcement checks of the pattern that has ended (R322, R323). A pattern without a current is not checked. -/
def State.enforcePattern (s : State) : State :=
  match s.ss.current with
  | none => s.modDe fun d => { d with warnRun := 0, openRun := 0, hardRun := 0 }
  | some i =>
    let p : Past := {
      c2 := s.limitUsed (·.charge2), c10 := s.limitUsed (·.charge10), c60 := s.limitUsed (·.charge60)
      d2 := s.limitUsed (·.dis2), d10 := s.limitUsed (·.dis10), d60 := s.limitUsed (·.dis60)
      ic := max i 0, id := max (-i) 0 }
    let h := p :: s.de.history.take 5999
    let cs := checksOf h
    let margin := s.cfgGet 0x2C81 1
    let run (n : Nat) (b : Bool) : Nat := if b then min 255 (n + 1) else 0
    let t := s.modDe fun d => { d with
      history := h, warnRun := run d.warnRun (cs.any (exceeds margin 103)), openRun := run d.openRun (cs.any (exceeds margin 110))
      hardRun := run d.hardRun (decide ((s.cfgGet 0x2C80 3 : Int) < i.natAbs))
      excess := (cs.map (excessOf margin)).foldl max (-32767) }
    (t.cond 0x0C01 (50 ≤ t.de.warnRun)).cond 0x0C02 (20 ≤ t.de.openRun)

/-- A hard limit is reached (R323). -/
def State.hardFault (s : State) : State :=
  s.cond 0x0C03 (3 ≤ s.de.hardRun || s.cl.groups.any fun (_, x) => 2 ≤ x.hiRun || 2 ≤ x.loRun)

/-- Fresh group voltages against the hard cell limits, at a cut-off (R323). -/
def State.hardCutoff (s : State) : State :=
  let m := s.cfgGet 0x2C80 4
  let hi := s.cfgGet 0x2980 10 + m
  let lo := s.cfgGet 0x2980 11
  let t := s.populated.foldl (fun u g => u.modGroup g fun x =>
    let fresh (p : Nat → Bool) : Bool := x.age == 0 && x.voltage.any p
    { x with hiRun := if fresh (hi < ·) then min 255 (x.hiRun + 1) else 0
             loRun := if fresh (fun v => v + m < lo) then min 255 (x.loRun + 1) else 0 }) s
  t.hardFault

/-! ### Pattern start -/

/-- The fabric's rest request (R325, R326, R328): requested while StringFlags bit 3 stands, with the window it asks for; an
ended one clears when it does not. A refusal holds until REST_RETRY_EXPIRY. -/
def State.restPatternStart (s : State) : State :=
  let asks := bit s.ef.flags 3
  let t := s.cond 0x0C04 asks
  let u := match t.de.restState with
    | 0 | 1 => if asks then t.modDe fun d => { d with restState := 1, restLength := s.restWindow }
      else t.modDe fun d => { d with restState := 0 }
    | 3 | 4 => t
    | _ => if asks then t else t.modDe fun d => { d with restState := 0 }
  u.restUpdate

/-- The dispatch engine at a pattern start: the published envelope applies, and the mean current of the pattern that has
ended is checked against the limits used, the present ones among them (R305, R314, R315, R321 to R325). -/
def State.dispatchPattern (s : State) : State :=
  let t := s.modDe fun d => { d with envelope := d.next, published := (d.next :: d.published).take 201 }
  let u := ((t.enforcePattern.hardFault).deliveryPattern).restPatternStart
  ((u.noIntent.armedStart).disconnectHere).faultRamp

end Sys2Proof.Machine
end

