-- ==== Sys2Proof/Machine/Clock.lean ====
section
/-! DEFINITION. Clock: the increment register, PTP, the servo, the jump guard and time steps, the transmit stamp queues
and the host's time window (R409 to R433). -/

namespace Sys2Proof.Machine

/-! ### Increment (R409, R410) -/

/-- An increment within 5.0 ns and 1,000 ppm of it (R409). -/
def incrementOk (v : Nat) : Bool := 0x00000004FEB851EB ≤ v && v ≤ 0x000000050147AE14

/-- The increment of a frequency in ppb, rounded to 2^-32 ns (R422). -/
def incrementOf (ppb : Rat) : Nat := (roundEven (5 * (1 + ppb / 1000000000) * 4294967296)).toNat

/-! ### PTP: ports, identities and stamps (R412, R417) -/

/-- The clockIdentity of the ordinary clock: the EUI-64 of the MAC address (assumption 21). -/
def State.clockId (s : State) : Nat := s.id.mac / 2 ^ 24 * 2 ^ 40 + 0xFFFE * 2 ^ 24 + s.id.mac % 2 ^ 24

/-- The PTP engine runs: enabled, and not stopped in favour of the host's stack (R421, R432). -/
def State.ptpOn (s : State) : Bool := s.coreUp && s.cfgGet 0x3080 1 == 1 && s.cfgGet 0x3084 0 != 2

/-- The power utility profile (R417). -/
def State.peerDelay (s : State) : Bool := s.cfgGet 0x3080 2 == 1

/-- A message of the supported versions, of the domain and of the transport in force, from another clock (R417). -/
def State.ptpTakes (s : State) (m : PtpMsg) : Bool :=
  m.version == 2 && m.minor ≤ 1 && m.domain == s.cfgGet 0x3080 4 && m.udp == (s.cfgGet 0x3080 3 == 1) &&
    m.source != s.clockId && (m.port == 1 || m.port == 2)

/-- A stamp in ns: the tick's plant time plus the converter's bin, cut to 1 ns (R412). -/
def State.tdc (s : State) (bin : Nat) : Nat := (s.tb.fine + bin % 5 * s.tb.incr.toNat / 5) / 2 ^ 32

/-- A receive stamp of a port, less its IngressLatency (R412). -/
def State.ingress (s : State) (port bin : Nat) : Int := (s.tdc bin : Int) - s.cfgGet 0x3081 port

/-- A transmit stamp of a port, with its EgressLatency (R412). -/
def State.egress (s : State) (port bin : Nat) : Int := (s.tdc bin : Int) + s.cfgGet 0x3081 (port + 2)

/-- A PTP message leaves by a port (R417, R518). -/
def State.sendPtp (s : State) (port : Nat) (m : PtpMsg) : State :=
  (s.frameOut port).emit
    (.ptp port { m with port, source := s.clockId, sourcePort := 1, domain := s.cfgGet 0x3080 4,
                        udp := s.cfgGet 0x3080 3 == 1, vlan := s.cfgGet 0x3080 11 })

/-! ### Transmit stamp queues (R428, R429) -/

/-- The egress stamp of an event message enters the queue of its port; a full queue drops it (R428). -/
def State.stampTx (s : State) (port kind seq : Nat) (stamp : Int) : State :=
  let x : TxStamp := { ident := kind % 16 * 4096 + seq % 4096, port, stamp := BitVec.ofInt 32 stamp }
  let q := if port == 1 then s.tb.tx1 else s.tb.tx2
  if q.length < 16 then
    s.modTb fun t => if port == 1 then { t with tx1 := t.tx1 ++ [x] } else { t with tx2 := t.tx2 ++ [x] }
  else
    (s.modTb fun t =>
      if port == 1 then { t with txOver1 := t.txOver1 + 1, txFlag1 := true }
      else { t with txOver2 := t.txOver2 + 1, txFlag2 := true }).raiseEvent 0x1005 port

/-- The firmware takes a sent message's stamp for its own use: under ServoOwner 0 and 1 it owns the queues and empties
them (R429, assumption 22). -/
def State.drainTx (s : State) (port : Nat) : State :=
  if s.cfgGet 0x3084 0 == 2 then s
  else s.modTb fun t => if port == 1 then { t with tx1 := t.tx1.drop 1 } else { t with tx2 := t.tx2.drop 1 }

/-- An event message leaves by a port, and its stamp is queued (R428). -/
def State.sendEventMsg (s : State) (port : Nat) (m : PtpMsg) (stamp : Int) : State :=
  ((s.sendPtp port m).stampTx port m.kind m.seq stamp).drainTx port

/-! ### Raw frames (R490) -/

/-- Under ServoOwner 2 a received PTP frame goes to the host's session in a receive slot, or is dropped (R490). Before
the first RAW_SEND no session receives any (assumption 23). -/
def State.rawReceive (s : State) (m : PtpMsg) : State :=
  match s.session s.sy.rawSession with
  | none => s
  | some x =>
    if s.sy.receive.isEmpty then
      s.modSy fun y => { y with rawAlert := true, rawDropped := y.rawDropped + 1 }
    else
      let (b, t) := s.originate x 0x51
        ([m.port, 0, 0, 0] ++ leBytes 4 ((s.ingress m.port 0) % 2 ^ 32).toNat ++ m.raw)
      (t.toReceiveSlot b).getD t

/-! ### Time steps (R36, R425 to R427) -/

/-- A stamp moved with plant time, so that the time elapsed since it stays. -/
def shiftStamp (epoch : Nat) (d : Int) (t : Stamp) : Stamp := stampAt epoch ((stampNs t : Int) + d).toNat

/-- Plant nanoseconds after a step; a sum outside the 48-bit seconds is a value the spec does not state, and is free
(R409, assumption 4). -/
def State.stepped (s : State) (d : Int) : Nat × State :=
  let n := (s.ns : Int) + d
  let most : Nat := 2 ^ 48 * 1000000000
  if 0 ≤ n ∧ n < (most : Int) then (n.toNat, s) else (s.freeNat % most, s.takeFree)

/-- The content of record 0x0005 (R546): epoch, LastStepStamp, LastStepSize and yf. -/
def State.record5 (s : State) : List Int :=
  [(s.tb.now.epoch : Int)] ++ stampInts s.tb.lastStep ++ [s.tb.lastSize, s.tb.yf.num, s.tb.yf.den]

/-- What the converter array keeps of instants before a step moves with it (R36): calibration ages and the last Tsw. An open
window whose centre the step passes is centred at the step (R136). -/
def Converter.shift (epoch : Nat) (moved : Int) (now : Nat) (c : Converter) : Converter :=
  { c with
    slices := c.slices.map fun (k, x) => (k, { x with calAt := x.calAt.map (shiftStamp epoch moved) })
    swAt := c.swAt.map fun t => ((t : Int) + moved).toNat
    duties := c.duties.map fun (k, u) => (k, { u with capAt := if 0 < moved then max now u.capAt else u.capAt }) }

/-- The short stamps that later results are held against move with a step, so that a seam row is covered without error
(R36, R163). -/
def Sensing.shift (moved : Int) (x : Sensing) : Sensing :=
  let m (t : Nat) : Nat := (((t : Int) + moved) % 2 ^ 32).toNat
  { x with lastD0 := x.lastD0.map m, ihHist := x.ihHist.map fun (t, i) => (m t, i) }

/-- A step moves plant time (R36, R425): the next row starts at the first multiple of 100 us of the new time at least
50 us later; a backward step raises the epoch; CMUs follow at the next pattern (R217). -/
def State.applyStep (s : State) (d : Int) : State :=
  let epoch := if d < 0 then s.tb.now.epoch + 1 else s.tb.now.epoch
  let (n, s1) := s.stepped d
  let moved : Int := (n : Int) - s.ns
  let seam := (n + 50000 + 99999) / 100000
  let now := stampAt epoch n
  let s2 := s1.modTb fun t =>
    { t with now, stepCount := t.stepCount + 1, lastStep := now, lastSize := d, pendingOff := 0, pendingCount := 0,
             firstRefused := 0, lockRun := 0, firstDone := true,
             stepDue := none, stepAgreed := none
             state := if t.state == .free && t.master.isNone then .free else .acquiring }
  let s3 := s2.modRows fun r =>
    { r with seamAt := some (seam * 100000), seamCount := r.seamCount + 1, seamPattern := true,
             lastRow := some (seam - 1), lastPat := some ((seam * 100000 - 1) / 10000000) }
  let s4 := ((((s3.modCl fun l => { l with stepFlag := true }).modEf fun e =>
    { e with
      patStamp := e.patStamp.map fun x => ((x : Int) + moved).toNat
      ctx := e.ctx.map fun (g, c) => (g, { c with hist := c.hist.map fun (p, x) => (((p : Int) + moved).toNat, x) }) }).modPm fun p =>
    { p with lastPullIn := p.lastPullIn.map (shiftStamp epoch moved), resumeFrom := p.resumeFrom.map (shiftStamp epoch moved)
             castOnStart := shiftStamp epoch moved p.castOnStart }).modOs
    fun o => { o with lastTrip := o.lastTrip.map (shiftStamp epoch moved) }).modSy fun y =>
    { y with sessions := y.sessions.map fun x => { x with idleFrom := shiftStamp epoch moved x.idleFrom } }
  let up (p : Sfp) : Sfp := { p with upSince := p.upSince.map (shiftStamp epoch moved) }
  let s5 := ((s4.modEn fun e => { e with p1 := up e.p1, p2 := up e.p2 }).modCa (Converter.shift epoch moved n)).modSs
    (Sensing.shift moved)
  let us := ratTrunc ((d : Rat) / 1000)
  let detail : Int := if us < -2147483648 then -2147483648 else if 2147483647 < us then 2147483647 else us
  (((s5.journal 0x0005 s5.record5).clearCond 0x1002).raiseEvent 0x1003).logKind 5 (detail % 2 ^ 32).toNat

/-- A step is accepted (R425, R427, R430): a backward one in epoch 65,535 is refused for good. A MEMBER's step travels as a
command record, StepAccept with the step itself as its value, and both units apply it in the row in which the record is
agreed. -/
def State.acceptStep (s : State) (d : Int) : State :=
  if d < 0 && s.tb.now.epoch == 65535 then
    (s.modTb fun t => { t with state := .stepPending, pendingOff := -d, firstDone := true }).raiseCond 0x1006
  else if s.ty.state == .member then
    (s.modTy fun y => { y with cmdsDue := y.cmdsDue ++ [{ node := s.id.nodeId, index := 0x3083, value := leInt 8 d }] }).modTb
      fun t => { t with stepDue := some d }
  else s.applyStep d

/-- The step that a row's agreed input set holds is applied in that row (R36, R430): the twin's by its record, the own one
once its record has been sent; a unit that is no MEMBER any more applies its own alone. -/
def State.agreedStep (s : State) : State :=
  let sent := s.ty.ownIn.cmds.any fun c => c.index == 0x3083 && c.value.length == 8
  match s.tb.stepAgreed with
  | some d => s.applyStep d
  | none => match s.tb.stepDue with
    | some d => if sent || !(s.ty.state == .member) then s.applyStep d else s
    | none => s

/-- A unit that follows the holder's steps (R430): MEMBER without the claim. -/
def State.followsSteps (s : State) : Bool := s.ty.state == .member && !s.os.gate

/-! ### Servo (R422) -/

/-- Magnitude limit of a correction. -/
def clampTo (m x : Rat) : Rat := if x < -m then -m else if m < x then m else x

/-- One firmware servo update (R422): an offset in ns over a sync interval in s. 0x1008 holds while the correction is
at its limit. -/
def State.servo (s : State) (e delta : Rat) : State :=
  let tau : Rat := s.cfgGet 0x3082 5
  let yf := s.tb.yf - e * delta / (tau * tau)
  let phase := clampTo (s.cfgGet 0x3082 3 * 1000 : Nat) (-e / tau)
  let applied := clampTo 1000000 (yf + phase)
  (s.modTb fun t => { t with yf, incr := BitVec.ofNat 64 (incrementOf applied) }).cond 0x1008
    (decide (applied ≤ -1000000) || decide (1000000 ≤ applied))

/-- The sync interval in s: 2^LogSyncInterval (R418). -/
def State.syncInterval (s : State) : Rat := pow2 (s.cfgInt 0x3080 8 8)

/-- HOLDOVER runs on yf (R422). -/
def State.holdIncrement (s : State) : State :=
  s.modTb fun t => { t with incr := BitVec.ofNat 64 (incrementOf (clampTo 1000000 t.yf)) }

/-! ### Jump guard (R423 to R426) -/

/-- A refused offset (R423, R424): the increment stays; the count goes on while the offset agrees with the first one
refused and no Sync was missing; AutoAccept applies the sixteenth. -/
def State.refuseOffset (s : State) (e : Int) (gap : Bool) : State :=
  let thr : Int := s.cfgGet 0x3082 1
  let f := s.tb.firstRefused
  let on := !gap && s.tb.pendingCount != 0 && decide ((f < 0) = (e < 0)) && decide ((e - f).natAbs ≤ thr.toNat)
  let t := (s.modTb fun t =>
    { t with state := .stepPending, pendingOff := e, pendingCount := if on then min 16 (t.pendingCount + 1) else 1,
             firstRefused := if on then f else e, lockRun := 0, stepsRefused := t.stepsRefused + 1 }).raiseCond 0x1002
  if s.cfgGet 0x3082 2 == 1 && t.tb.pendingCount == 16 && !s.followsSteps then t.acceptStep (-e) else t

/-- An offset below the threshold (R422, R423): the pending offset clears, the run below LockThreshold counts toward
LOCKED, and the firmware servo acts where it owns the increment. A unit steered by its twin leaves the servo to R430
until it locks. -/
def State.slew (s : State) (e : Int) (delta : Rat) : State :=
  let run := if e.natAbs < s.cfgGet 0x3082 4 then min 8 (s.tb.lockRun + 1) else 0
  let t := ((s.modTb fun t =>
    { t with pendingOff := 0, pendingCount := 0, firstRefused := 0, lockRun := run, firstDone := true,
             state := if run == 8 then .locked else if t.state == .stepPending then .acquiring else t.state
             wasLocked := t.wasLocked || run == 8 }).clearCond 0x1002).clearCond 0x1006
  if s.cfgGet 0x3084 0 == 0 && !(t.tb.state == .twin) then t.servo e delta else t

/-- Every offset passes here (R423, R426): the first one after cast-on is applied as a step; later ones meet the
guard. -/
def State.offsetMeasured (s : State) (e : Int) (delta : Rat) (gap : Bool) : State :=
  if !s.tb.firstDone && (s.tb.state == .free || s.tb.state == .acquiring) && !s.followsSteps then s.acceptStep (-e)
  else if e.natAbs < s.cfgGet 0x3082 1 then s.slew e delta
  else s.refuseOffset e gap

/-! ### Best master (R417, R418, R420) -/

/-- Lexical order of lists of numbers, the lower one better. -/
def better : List Nat → List Nat → Bool
  | [], _ => false
  | _, [] => false
  | a :: t, b :: u => a < b || (a == b && better t u)

/-- The data set of a clock, as the default algorithm compares it (assumption 21). -/
def Master.rank (m : Master) : List Nat :=
  [m.priority1, m.clockClass, m.accuracy, m.variance, m.priority2, m.gm, m.steps, m.source, m.sourcePort, m.port]

/-- The data set of the own clock (R417). -/
def State.ownClock (s : State) : Master :=
  { priority1 := s.cfgGet 0x3080 6, clockClass := if s.cfgGet 0x3080 5 == 1 then 248 else 255, accuracy := 0xFE,
    variance := 0xFFFF, priority2 := s.cfgGet 0x3080 7, gm := s.clockId, steps := 0, source := s.clockId,
    sourcePort := 1, port := 0 }

/-- The announce interval in ns (R418). -/
def State.announceNs (s : State) : Rat := pow2 (s.cfgInt 0x3080 9 8) * 1000000000

/-- A foreign master is qualified: two Announces within four announce intervals (assumption 21). -/
def State.qualified (s : State) (f : Foreign) : Bool :=
  match f.prev with
  | none => false
  | some p => p.epoch == f.last.epoch && decide (((stampNs f.last - stampNs p : Nat) : Rat) ≤ 4 * s.announceNs)

/-- The best of the qualified foreign masters. -/
def State.bestForeign (s : State) : Option Master :=
  ((s.tb.foreign.filter s.qualified).map (·.m)).foldl (fun b m =>
    match b with
    | none => some m
    | some x => if better m.rank x.rank then some m else some x) none

/-- The parent is lost (R418, R431): HOLDOVER on yf with 0x1004 once the unit has been LOCKED, FREE otherwise. -/
def State.parentLost (s : State) : State :=
  let t := (s.modTb fun t =>
    { t with master := none, syncRx := none, syncT := none, dreqTx := none, lastSeq := none, pathDelay := none,
             offset := none, gm := 0, parent := 0, parentPort := 0, activePort := 0, lockRun := 0, pendingOff := 0,
             pendingCount := 0, firstRefused := 0, state := if t.wasLocked then .holdover else .free }).clearCond 0x1002
  if t.tb.state == .holdover then
    (if s.cfgGet 0x3084 0 == 0 then t.holdIncrement else t).raiseCond 0x1004
  else t

/-- A parent is found, or moves to the other port, which is no step (R420, R431). -/
def State.adopt (s : State) (m : Master) : State :=
  let same := (s.tb.master.map fun x => (x.source, x.sourcePort)) == some (m.source, m.sourcePort)
  let t := s.modTb fun t =>
    { t with master := some m, gm := m.gm, parent := m.source, parentPort := m.sourcePort, activePort := m.port,
             portState := if same then t.portState else 8,
             syncRx := if same && t.activePort == m.port then t.syncRx else none,
             pathDelay := if same then t.pathDelay else none,
             lastSeq := if same then t.lastSeq else none,
             state := if t.state == .free || t.state == .holdover then .acquiring else t.state }
  t.clearCond 0x1004

/-- The state decision (R417): the best qualified foreign master becomes the parent; a master-capable clock that is
better than it, or has none, is MASTER; a slave-only clock without one listens. -/
def State.decideMaster (s : State) : State :=
  let own := s.ownClock
  let capable := s.cfgGet 0x3080 5 == 1
  let orphan (p : Nat) : State :=
    let t := if s.tb.master.isSome then s.parentLost else s
    t.modTb fun x => { x with portState := p }
  match s.bestForeign with
  | none => orphan (if capable && (s.tb.portState == 6 || s.tb.master.isSome) then 6 else 4)
  | some m => if capable && better own.rank m.rank then orphan 6 else s.adopt m

/-- The grandmaster is declared lost (R418): its record goes, and the decision is made again. Without any parent, a
master-capable clock becomes MASTER. -/
def State.grandmasterLost (s : State) : State :=
  match s.tb.master with
  | none => if s.cfgGet 0x3080 5 == 1 then s.modTb fun t => { t with portState := 6 } else s
  | some p =>
    (s.modTb fun t => { t with foreign := t.foreign.filter fun f =>
      !(f.m.source == p.source && f.m.sourcePort == p.sourcePort && f.m.port == p.port) }).decideMaster

/-- The PTP engine starts or stops (R421, R432): LISTENING, or DISABLED with time running free or holding over. -/
def State.ptpStartStop (s : State) : State :=
  if s.cfgGet 0x3080 1 == 1 && s.cfgGet 0x3084 0 != 2 then
    if s.tb.portState == 1 || s.tb.portState == 3 then s.modTb fun t => { t with portState := 4 } else s
  else
    let t := if s.tb.master.isSome then s.parentLost else s
    t.modTb fun x => { x with portState := 3, foreign := [] }

/-! ### Offset measurement (R417, R422) -/

/-- The delay the offset is corrected by: the peer delay of the port, or the mean path delay; 0 until one has been
measured (assumption 21). -/
def State.delayNow (s : State) (port : Nat) : Nat :=
  if s.peerDelay then ((if port == 1 then s.tb.peer1 else s.tb.peer2)).getD 0 else s.tb.pathDelay.getD 0

/-- Saturation of OffsetFromMaster to 32 bits, 0x8000_0000 standing for none (R433). -/
def saturate32 (e : Int) : Int := if e < -2147483647 then -2147483647 else if 2147483647 < e then 2147483647 else e

/-- A Sync measurement is complete (R422): t1 with its corrections, t2, and the sequenceId. -/
def State.syncDone (s : State) (port seq : Nat) (t1 t2 : Int) : State :=
  let e := t2 - t1 - s.delayNow port
  let gap := match s.tb.lastSeq with
    | none => false
    | some q => (q + 1) % 65536 != seq % 65536
  let t := s.modTb fun t =>
    { t with offset := some (saturate32 e), lastSeq := some seq, syncRx := none, syncT := some (t1, t2), portState := 9 }
  t.offsetMeasured e s.syncInterval gap

/-- A message of the present parent on the port that is active (R420). -/
def State.fromParent (s : State) (m : PtpMsg) : Bool :=
  s.tb.master.isSome && s.tb.parent == m.source && s.tb.parentPort == m.sourcePort && s.tb.activePort == m.port

/-- What every received PTP message meets first: the frame counts, the host's stack takes it under ServoOwner 2, and a
message the clock does not support is discarded (R417, R421, R490, R518). -/
def State.ptpReceive (s : State) (m : PtpMsg) (act : State → State) : State :=
  if !s.coreUp then s
  else
    let t := s.frameIn m.port
    if s.cfgGet 0x3084 0 == 2 then t.rawReceive m
    else if t.ptpOn && t.ptpTakes m then act t
    else t

/-- SYNC (R422): a one-step Sync of the parent completes a measurement; a two-step one waits for its Follow_Up. -/
def execSyncFrame (m : PtpMsg) (bin : Nat) (s : State) : Host.Outcome State Fault Refusal :=
  .next (s.ptpReceive m fun t =>
    if !t.fromParent m then t
    else
      let t2 := t.ingress m.port bin
      if m.twoStep then t.modTb fun x => { x with syncRx := some (m.seq, t2, m.correction) }
      else t.syncDone m.port m.seq (m.time + m.correction / 65536) t2)

/-- FOLLOW_UP (R422): completes the measurement of the Sync with its sequenceId. -/
def execFollowUp (m : PtpMsg) (s : State) : Host.Outcome State Fault Refusal :=
  .next (s.ptpReceive m fun t =>
    match t.tb.syncRx with
    | none => t
    | some (q, t2, c) =>
      if t.fromParent m && q == m.seq then t.syncDone m.port q (m.time + (c + m.correction) / 65536) t2 else t)

/-- ANNOUNCE (R417, R418): the foreign master's record, then the state decision. -/
def execAnnounce (m : PtpMsg) (s : State) : Host.Outcome State Fault Refusal :=
  .next (s.ptpReceive m fun t =>
    if 255 ≤ m.steps then t
    else
      let x : Master :=
        { priority1 := m.priority1, clockClass := m.clockClass, accuracy := m.accuracy, variance := m.variance,
          priority2 := m.priority2, gm := m.gm, steps := m.steps, source := m.source, sourcePort := m.sourcePort,
          port := m.port }
      let here (f : Foreign) : Bool := f.m.source == m.source && f.m.sourcePort == m.sourcePort && f.m.port == m.port
      let old := (t.tb.foreign.find? here).map (·.last)
      let rest := t.tb.foreign.filter fun f => !here f
      (t.modTb fun b => { b with foreign := rest ++ [{ m := x, last := b.now, prev := old }] }).decideMaster)

/-- DELAY_REQ (R417): a MASTER of the default profile answers with the receive stamp. -/
def execDelayReq (m : PtpMsg) (bin : Nat) (s : State) : Host.Outcome State Fault Refusal :=
  .next (s.ptpReceive m fun t =>
    if t.tb.portState == 6 && !t.peerDelay then
      t.sendPtp m.port { kind := 9, seq := m.seq, correction := m.correction, time := t.ingress m.port bin,
                         target := m.source, targetPort := m.sourcePort }
    else t)

/-- A delay as a 32-bit number of ns; one outside it is a value the spec does not state, and is free (R433). -/
def State.delayValue (s : State) (d : Int) : Nat × State :=
  if 0 ≤ d ∧ d < 4294967295 then (d.toNat, s) else (s.freeNat % 4294967295, s.takeFree)

/-- DELAY_RESP (R417): the mean path delay from the last Sync and this exchange. -/
def execDelayResp (m : PtpMsg) (s : State) : Host.Outcome State Fault Refusal :=
  .next (s.ptpReceive m fun t =>
    match t.tb.dreqTx, t.tb.syncT with
    | some (q, t3), some (t1, t2) =>
      if t.fromParent m && !t.peerDelay && q == m.seq && m.target == t.clockId && m.targetPort == 1 then
        let d := ((t2 - t1) + (m.time - t3) - m.correction / 65536) / 2
        let (v, u) := t.delayValue d
        u.modTb fun b => { b with pathDelay := some v, dreqTx := none }
      else t
    | _, _ => t)

/-- PDELAY_REQ (R417): under the power utility profile the port answers with Pdelay_Resp, which is stamped and queued
(R428), and its follow-up. `after` is the time in ns from the request's stamp to the response's. -/
def execPdelayReq (m : PtpMsg) (bin after : Nat) (s : State) : Host.Outcome State Fault Refusal :=
  .next (s.ptpReceive m fun t =>
    if !t.peerDelay then t
    else
      let t2 := t.ingress m.port bin
      let t3 := t.egress m.port bin + after
      let u := t.sendEventMsg m.port { kind := 3, seq := m.seq, time := t2, target := m.source,
                                       targetPort := m.sourcePort } t3
      u.sendPtp m.port { kind := 10, seq := m.seq, correction := m.correction, time := t3, target := m.source,
                         targetPort := m.sourcePort })

/-- PDELAY_RESP (R417): the peer delay of the port, with the response's follow-up in `time2`. -/
def execPdelayResp (m : PtpMsg) (bin : Nat) (s : State) : Host.Outcome State Fault Refusal :=
  .next (s.ptpReceive m fun t =>
    match (if m.port == 1 then t.tb.preq1 else t.tb.preq2) with
    | none => t
    | some (q, t1) =>
      if t.peerDelay && q == m.seq && m.target == t.clockId then
        let d := ((t.ingress m.port bin - t1) - (m.time2 - m.time) - m.correction / 65536) / 2
        let (v, u) := t.delayValue d
        u.modTb fun b =>
          if m.port == 1 then { b with peer1 := some v, preq1 := none } else { b with peer2 := some v, preq2 := none }
      else t)

/-! ### Transparent clock (R419) -/

/-- The residence time held for a message, 0 with none. -/
def heldFor (k c p q : Nat) (l : List TcHeld) : Int :=
  ((l.find? fun h => h.kind == k && h.clock == c && h.port == p && h.seq == q).map (·.held)).getD 0

/-- The residence times but for one message's. -/
def dropHeld (k c p q : Nat) (l : List TcHeld) : List TcHeld :=
  l.filter fun h => !(h.kind == k && h.clock == c && h.port == p && h.seq == q)

/-- TRANSPARENT_CLOCK_FORWARD (R419): a message that passes from one SFP port to the other. An event message's
residence, with the ingress port's peer delay in the power utility profile, goes into the correctionField of the
general message that follows it; a one-step Sync leaves as a two-step one with a Follow_Up. The stamp queues are not
used. -/
def execTransparentClockForward (m : PtpMsg) (residence : Nat) (s : State) : Host.Outcome State Fault Refusal :=
  .next (if !s.coreUp then s
    else
      let out := if m.port == 1 then 2 else 1
      let extra : Nat := if s.peerDelay then (if m.port == 1 then s.tb.peer1 else s.tb.peer2).getD 0 else 0
      let add : Int := ((residence + extra : Nat) : Int) * 65536
      let s1 := s.frameIn m.port
      let send (t : State) (x : PtpMsg) : State :=
        (t.frameOut out).emit (.ptp out { x with port := out })
      let most (t : State) : State := t.modTb fun b =>
        if out == 1 then { b with tcMax1 := max b.tcMax1 residence } else { b with tcMax2 := max b.tcMax2 residence }
      let hold (t : State) (k c p : Nat) : State := t.modTb fun b =>
        { b with tcHeld := { kind := k, clock := c, port := p, seq := m.seq, held := add + heldFor k c p m.seq b.tcHeld } ::
                           dropHeld k c p m.seq b.tcHeld }
      let pay (k c p : Nat) : State :=
        send (s1.modTb fun b => { b with tcHeld := dropHeld k c p m.seq b.tcHeld })
          { m with correction := m.correction + heldFor k c p m.seq s.tb.tcHeld }
      match m.kind with
      | 0 =>
        if m.twoStep then send (most (hold s1 8 m.source m.sourcePort)) m
        else
          let t := send (most s1) { m with twoStep := true }
          send t { m with kind := 8, twoStep := true, correction := m.correction + add }
      | 1 => send (most (hold s1 9 m.source m.sourcePort)) m
      | 2 => send (most (hold s1 10 m.source m.sourcePort)) m
      | 3 => send (most (hold s1 10 m.target m.targetPort)) m
      | 8 => pay 8 m.source m.sourcePort
      | 9 => pay 9 m.target m.targetPort
      | 10 => pay 10 m.target m.targetPort
      | _ => send s1 m)

/-! ### Timeouts and sends (R418, R428) -/

/-- ANNOUNCE_RECEIPT_TIMEOUT (R418). -/
def execAnnounceReceiptTimeout (s : State) : Host.Outcome State Fault Refusal :=
  .next (if s.ptpOn then s.grandmasterLost else s)

/-- SYNC_RECEIPT_TIMEOUT (R418): three sync intervals without a Sync. -/
def execSyncReceiptTimeout (s : State) : Host.Outcome State Fault Refusal :=
  .next (if s.ptpOn && s.tb.master.isSome then s.grandmasterLost else s)

/-- SYNC_INTERVAL_SEND (R418): a MASTER sends Sync and Follow_Up from both ports, stamped in the given bins. -/
def execSyncIntervalSend (bin1 bin2 : Nat) (s : State) : Host.Outcome State Fault Refusal :=
  .next (if s.ptpOn && s.tb.portState == 6 then
      let q := s.tb.syncSeq
      let one (t : State) (port bin : Nat) : State :=
        let e := t.egress port bin
        (t.sendEventMsg port { kind := 0, seq := q, time := 0 } e).sendPtp port { kind := 8, seq := q, time := e }
      (one (one s 1 bin1) 2 bin2).modTb fun t => { t with syncSeq := (q + 1) % 65536 }
    else s)

/-- ANNOUNCE_INTERVAL_SEND (R418): a MASTER sends Announce from both ports. -/
def execAnnounceIntervalSend (s : State) : Host.Outcome State Fault Refusal :=
  .next (if s.ptpOn && s.tb.portState == 6 then
      let o := s.ownClock
      let m : PtpMsg := { kind := 11, seq := s.tb.annSeq, priority1 := o.priority1, clockClass := o.clockClass,
                          accuracy := o.accuracy, variance := o.variance, priority2 := o.priority2, gm := o.gm }
      ((s.sendPtp 1 m).sendPtp 2 m).modTb fun t => { t with annSeq := (t.annSeq + 1) % 65536 }
    else s)

/-- DELAY_REQ_SEND (R417, R428): a Delay_Req to the parent by the active port, or under the power utility profile a
Pdelay_Req by the port named; its stamp enters the queue. -/
def execDelayReqSend (port bin : Nat) (s : State) : Host.Outcome State Fault Refusal :=
  .next (if !s.ptpOn || !(port == 1 || port == 2) then s
    else
      let q := s.tb.dreqSeq
      let e := s.egress port bin
      let next (t : State) : State := t.modTb fun b => { b with dreqSeq := (q + 1) % 65536 }
      if s.peerDelay then
        next ((s.sendEventMsg port { kind := 2, seq := q } e).modTb fun b =>
          if port == 1 then { b with preq1 := some (q, e) } else { b with preq2 := some (q, e) })
      else if s.tb.master.isSome && s.tb.activePort == port then
        next ((s.sendEventMsg port { kind := 1, seq := q } e).modTb fun b => { b with dreqTx := some (q, e) })
      else s)

/-! ### Requests (R409, R425, R421) -/

/-- A write of StepAccept (R425, R430, R492): 1 applies the newest refused offset; refused unless one is pending. In a
MEMBER that follows its holder the write is the holder's to act on. -/
def State.stepAcceptAct (t : State) (value : Nat) : Answer :=
  if value % 256 != 1 then no t 0x0A
  else if t.followsSteps then ok t
  else if !(t.tb.state == .stepPending) then no t 0x0B
  else ok (t.acceptStep (-t.tb.pendingOff))

/-- STEP_ACCEPT (R425, R432): acts at the next row. -/
def execStepAccept (r : Req) (value : Nat) (s : State) : Host.Outcome State Fault Refusal :=
  .next (s.liveReq r false 0x3083 0 (leBytes 1 value) operator (.stepAccept r value) fun t _ => t.stepAcceptAct value)

/-- A write of the time StepRequest (R421, R423, R426): an offset from the host passes the jump guard; in FREE it is
applied at once. -/
def State.timeStepAct (t : State) (offset : Int) : Answer :=
  let e := ofWord 64 (toWord 64 offset)
  if t.tb.state == .free && !t.followsSteps then ok (t.acceptStep (-e))
  else if e.natAbs < t.cfgGet 0x3082 1 then ok (t.slew e t.syncInterval)
  else ok (t.refuseOffset e false)

/-- TIME_STEP_REQUEST (R421, R432): acts at the next row. -/
def execTimeStepRequest (r : Req) (offset : Int) (s : State) : Host.Outcome State Fault Refusal :=
  .next (s.liveReq r false 0x3087 0 (leInt 8 offset) operator (.timeStepRequest r offset) fun t _ => t.timeStepAct offset)

/-- A write of Increment (R409, R421, R432): the increment of a host servo. -/
def State.incrementAct (t : State) (value : Nat) : Answer :=
  let owner := t.cfgGet 0x3084 0
  if !(owner == 1 || owner == 2) then no t 0x0B
  else if !incrementOk (value % 2 ^ 64) then no t 0x0A
  else ok (t.modTb fun b => { b with incr := BitVec.ofNat 64 value })

/-- INCREMENT_WRITE (R409, R432): on one unit only, at the next row. -/
def execIncrementWrite (r : Req) (value : Nat) (s : State) : Host.Outcome State Fault Refusal :=
  .next (s.liveReq r true 0x3086 0 (leBytes 8 value) operator (.incrementWrite r value) fun t _ => t.incrementAct value)

/-! ### Host time window (R414, R415, R429) -/

/-- INCREMENT_HI (R414): both words commit under ServoOwner 1 or 2 within the range; otherwise TIME_STATUS bit 5. -/
def execIncrementHi (word : Nat) (s : State) : Host.Outcome State Fault Refusal :=
  .next (if !s.coreUp then s
    else
      let owner := s.cfgGet 0x3084 0
      let v := word % 2 ^ 32 * 2 ^ 32 + s.tb.incLo
      if (owner == 1 || owner == 2) && incrementOk v then
        s.modTb fun t => { t with incr := BitVec.ofNat 64 v, incRefused := false }
      else s.modTb fun t => { t with incRefused := true })

/-- TIME_SECHI: epoch and seconds 47:32 (R414). -/
def Stamp.secHi (t : Stamp) : Nat := t.epoch % 65536 * 65536 + t.sec / 2 ^ 32 % 65536

/-- TIME_SHORT (R414, R415): the short stamp, and the snapshot of the same tick. -/
def execTimeShort (s : State) : Host.Outcome State Fault Refusal :=
  .next (if !s.coreUp then s
    else (s.modTb fun t =>
      { t with shNs := some t.now.ns, shLo := some (t.now.sec % 2 ^ 32), shHi := some (Stamp.secHi t.now) }).hostWord
        s.short)

/-- TIME_SHADOW_READ (R414): TIME_NS (0), TIME_SECLO (1) or TIME_SECHI (2): the shadow once, then the live value. -/
def execTimeShadowRead (field : Nat) (s : State) : Host.Outcome State Fault Refusal :=
  .next (if !s.coreUp then s
    else match field with
      | 0 => (s.modTb fun t => { t with shNs := none }).hostWord (s.tb.shNs.getD s.tb.now.ns)
      | 1 => (s.modTb fun t => { t with shLo := none }).hostWord (s.tb.shLo.getD (s.tb.now.sec % 2 ^ 32))
      | _ => (s.modTb fun t => { t with shHi := none }).hostWord (s.tb.shHi.getD (Stamp.secHi s.tb.now)))

/-- QENTRY (R429): under ServoOwner 2 the oldest entry of a port's queue is popped, and its stamp goes to QSTAMP. -/
def execQentry (port : Nat) (s : State) : Host.Outcome State Fault Refusal :=
  .next (if !s.coreUp then s
    else if s.cfgGet 0x3084 0 != 2 then s.hostWord 0
    else match (if port == 1 then s.tb.tx1 else s.tb.tx2) with
      | [] => s.hostWord 0
      | x :: rest =>
        (s.modTb fun t =>
          if port == 1 then { t with tx1 := rest, qstamp1 := x.stamp }
          else { t with tx2 := rest, qstamp2 := x.stamp }).hostWord (2 ^ 31 + x.port % 4 * 65536 + x.ident))

/-- QSTATUS (R429): a write with bit 8 set clears the overflow flag, under ServoOwner 2. -/
def execQstatus (port word : Nat) (s : State) : Host.Outcome State Fault Refusal :=
  .next (if !s.coreUp || s.cfgGet 0x3084 0 != 2 || !bit word 8 then s
    else s.modTb fun t => if port == 1 then { t with txFlag1 := false } else { t with txFlag2 := false })

end Sys2Proof.Machine
end

