-- ==== Sys2Proof/Machine/Status.lean ====
section
/-! DEFINITION. Status: the bytes of every object as READ returns them (R503 to R506): the status objects of the
chapters' tables, and the configuration objects' values in force. -/

namespace Sys2Proof.Machine

/-! ### Encodings (R505) -/

/-- The word that stands for no signed value of a width in bytes: the most negative number (R10, R505). -/
def noVal (n : Nat) : Nat := 2 ^ (8 * n - 1)

/-- A value, or the word that stands for none; a value is held to the valid codes (R10): signed beside the most negative
number, unsigned beside the greatest. -/
def leOpt (n : Nat) (none' : Nat) (o : Option Int) : Bytes :=
  match o with
  | none => leBytes n none'
  | some v => if none' == noVal n then leInt n (clampInt (1 - (none' : Int)) ((none' : Int) - 1) v)
    else leInt n (clampInt 0 ((none' : Int) - 1) v)

/-- An unsigned value held to the valid codes (R10), or the word that stands for none. -/
def leOptN (n : Nat) (none' : Nat) (o : Option Nat) : Bytes := leBytes n ((o.map (min (none' - 1))).getD none')

/-- Bits of flags, bit 0 first. -/
def flagsOf (l : List Bool) : Nat := l.foldr (fun b n => b2n b + 2 * n) 0

/-! ### Key store (R475, R478) -/

/-- Bit n - 1 for each slot that holds a key (R488, R501). -/
def State.keySlotsSet (s : State) : Nat := flagsOf ((List.range 7).map fun i => !(s.keySlot (i + 1)).key.isEmpty)

/-- KeyStoreDigest (R478). -/
def State.keyDigest (s : State) : Bytes :=
  hmac Config.familyKey ((List.range 7).flatMap fun i =>
    let k := s.keySlot (i + 1)
    if k.key.isEmpty then List.replicate 48 0 else padBytes 16 k.salt ++ padBytes 32 k.key)

/-! ### Common values -/

/-- SafetyState (R364), the first that applies: self-test, latched, demand, restart blocked, unconfirmed, ready
(assumption 24). -/
def State.safetyState (s : State) : Nat :=
  if !s.si.selfTested then 0
  else if s.acting == .latch then 5
  else if s.demands != 0 then 3
  else if s.restartBlocked then 4
  else if !s.setsConfirmed then 1
  else 2

/-- ModuleStatus (R517). -/
def State.moduleStatus (s : State) : Nat :=
  s.pm.state.code + 8 * s.acting.code + 64 * s.ty.state.code + 512 * b2n s.os.gate + 1024 * s.tb.state.code +
    8192 * flagsOf [s.pc.seq == 6, bit s.de.envelope.flags 0, s.si.setConfirmed, s.ca.precisionHeld, s.cl.dataLost,
      0 < s.tm.level, s.tm.windowClosed, s.tm.cellLatch || s.tm.junctionLatch, bit s.ef.flags 3, s.tm.nvClosed,
      s.ef.state == 2, s.cl.ring == .closed, s.de.fallback, s.si.proofDue == 0, s.sy.sessions.any (·.role == 6)]

/-- Seconds from a stamp to now. -/
def State.secondsSince (s : State) (t : Stamp) : Nat :=
  if t.epoch == s.tb.now.epoch then (s.ns - stampNs t) / 1000000000 else s.tb.now.sec

/-- Holder (R408): this unit, the twin by its claim class, or none. -/
def State.holder (s : State) : Nat := if s.os.gate then 0 else if s.ty.wordTwin / 4096 == 4 then 1 else 0xFF

/-- One SessionEntry (R501). -/
def State.sessionEntry (s : State) (n : Nat) : Bytes :=
  match s.session n with
  | none => List.replicate 16 0
  | some x =>
    let (t, src) : Nat × Bytes := match x.source with
      | .udp a p => (1, leBytes 4 a ++ leBytes 2 p)
      | .can k c => (1 + k, [c, 0, 0, 0, 0, 0])
      | .spi | .twinSpi => (4, [0, 0, 0, 0, 0, 0])
    [x.role, t] ++ leBytes 2 x.client ++ leBytes 2 (min 65535 (s.secondsSince x.idleFrom)) ++ leBytes 4 x.high ++ src

/-- A result record as an object (R141, R154). -/
def Result.bytes (r : Result) : Bytes := leBytes 4 r.stamp.toNat ++ leBytes 4 r.word1 ++ leBytes 4 r.word2

/-! ### Status objects (R503) -/

/-- Highest subindex of each status index; 0 where the index has none (R504). -/
def statusHigh : List (Nat × Nat) :=
  [(0x1000, 0), (0x1008, 7), (0x1009, 0x0D), (0x100A, 2), (0x1100, 3), (0x1A00, 7), (0x1A10, 0x40), (0x1B00, 4), (0x1C00, 3),
   (0x2100, 8), (0x2101, 6), (0x2110, 6), (0x2120, 0x80), (0x2121, 0x80), (0x2200, 0x11), (0x2300, 0x0A), (0x2301, 8),
   (0x2302, 9), (0x2303, 9), (0x2304, 9), (0x2310, 0x18), (0x2320, 0x18), (0x2400, 2), (0x2401, 2), (0x2402, 6), (0x2403, 4),
   (0x2404, 2), (0x2405, 2), (0x2410, 0), (0x2411, 0), (0x2500, 0x0C), (0x2501, 4), (0x2502, 5), (0x2600, 0x0A), (0x2700, 6)] ++
  [(0x2800, 0x0E), (0x2801, 0x20), (0x2802, 0x20), (0x2803, 0x20), (0x2804, 0x20), (0x2805, 0x20), (0x2806, 0), (0x2810, 0x80),
   (0x2811, 0x80), (0x2812, 0x80), (0x2813, 0x80), (0x2818, 0x80), (0x2819, 0x80), (0x2820, 5), (0x2822, 4), (0x2900, 0x0D),
   (0x2901, 0x10), (0x2910, 0x80), (0x2911, 0x80), (0x2912, 0x80), (0x2913, 0x80), (0x2918, 0x80), (0x2919, 0x80),
   (0x291A, 0x80), (0x291B, 0x80), (0x2920, 6), (0x2921, 4), (0x2A00, 6), (0x2A10, 0x80), (0x2A11, 0x80), (0x2A12, 0x80),
   (0x2A13, 0x80), (0x2A20, 0x20), (0x2A21, 0x20), (0x2B00, 0x12), (0x2B10, 0x80), (0x2B11, 0x80), (0x2B18, 0x80)] ++
  [(0x2B19, 0x80), (0x2B1A, 0x80), (0x2B1B, 0x80), (0x2B20, 8), (0x2B21, 4), (0x2B22, 4), (0x2C00, 0x10), (0x2C01, 0),
   (0x2C02, 6), (0x2C03, 2), (0x2C10, 0x10), (0x2D00, 0x0F), (0x2D10, 8), (0x2D11, 8), (0x2E00, 8), (0x2F00, 0x19),
   (0x3000, 0x11), (0x3001, 6), (0x3100, 2), (0x3101, 2), (0x3102, 2), (0x3103, 2), (0x3104, 2), (0x3105, 0), (0x3200, 2),
   (0x3201, 2), (0x3202, 2), (0x3203, 2), (0x3204, 2), (0x3205, 2), (0x3206, 2), (0x3207, 2), (0x3208, 2), (0x3209, 2),
   (0x320A, 2), (0x320B, 2), (0x320C, 2), (0x320D, 3), (0x3300, 8), (0x3400, 0x0D)]

/-- Identity (R514). -/
def State.identObj (s : State) (index sub : Nat) : Bytes :=
  let name (t : String) : Bytes := padBytes 16 (ascii t)
  match index, sub with
  | 0x1000, _ => leBytes 4 0x8100
  | 0x1008, 1 => name (if s.id.variant == 10 then "ZB-8100-10" else "ZB-8100-15")
  | 0x1008, 2 => [s.id.variant]
  | 0x1008, 3 => leBytes 2 s.id.hwRev
  | 0x1008, 4 => leBytes 4 s.id.serial
  | 0x1008, 5 => stampBytes s.id.made
  | 0x1008, 6 => name "Nalnas"
  | 0x1008, _ => leBytes 8 s.id.mac
  | 0x1009, 1 => leBytes 4 s.id.firmware
  | 0x1009, 2 => leBytes 2 s.id.stepNo
  | 0x1009, 3 => leBytes 2 s.id.settingsFormat
  | 0x1009, 4 => leBytes 2 s.id.learnedFormat
  | 0x1009, 5 => leBytes 2 s.id.safetyFormat
  | 0x1009, 6 => leBytes 2 0x1010
  | 0x1009, 7 => leBytes 2 0x0201
  | 0x1009, 8 => leBytes 2 0x0201
  | 0x1009, 9 => leBytes 4 s.id.cmuImage
  | 0x1009, 10 => leBytes 4 s.id.loaderVer
  | 0x1009, 11 => leBytes 4 s.id.romVer
  | 0x1009, 12 => leBytes 4 s.ld.antiRollback
  | 0x1009, _ => padBytes 32 s.id.skeinDigest
  | 0x100A, 1 => leBytes 4 s.id.hours.toNat
  | _, _ => leBytes 4 s.id.castOns.toNat

/-- Whole seconds since cast-on began (R517). -/
def State.sinceCastOn (s : State) : Nat :=
  (s.pm.castOnLead + (if s.pm.castOnStart.epoch == s.tb.now.epoch then s.ns - stampNs s.pm.castOnStart else s.ns) / 1000000) / 1000

/-- Common status, fault manager, rows and event log (R46, R517, R523). -/
def State.commonObj (s : State) (index sub : Nat) : Bytes :=
  match index, sub with
  | 0x1100, 1 => leBytes 4 s.moduleStatus
  | 0x1100, 2 => leBytes 4 s.sinceCastOn
  | 0x1100, _ => leBytes 4 s.fm.raised.toNat
  | 0x1A00, 1 => [s.acting.code]
  | 0x1A00, 2 => [s.fm.pending.length]
  | 0x1A00, 3 => leBytes 4 s.fm.overflowCount.toNat
  | 0x1A00, 4 => leBytes 2 ((s.fm.pending.head?.map (·.code)).getD 0)
  | 0x1A00, 5 => leBytes 2 (s.fm.handling.getD 0)
  | 0x1A00, 6 => stampBytes s.fm.lastAck
  | 0x1A00, _ => [min 255 s.fm.active.length]
  | 0x1A10, n =>
    match s.fm.pending[n - 1]? with
    | none => List.replicate 16 0
    | some p => leBytes 2 p.code ++ [p.severity, min 255 p.count] ++ stampBytes p.stamp
  | 0x1B00, 1 => leBytes 4 s.rows.patternNo.toNat
  | 0x1B00, 2 => [s.rows.rowNo]
  | 0x1B00, 3 => leBytes 4 s.rows.seamCount.toNat
  | 0x1B00, _ => leBytes 4 s.rows.overrunCount.toNat
  | _, 1 => leBytes 4 s.lg.newest.toNat
  | _, 2 => leBytes 4 ((s.lg.records.getLast?.map (·.number)).getD s.lg.newest.toNat)
  | _, _ => leBytes 4 s.lg.lost.toNat

/-- Syben, core supply and check engines (R46, R501). -/
def State.sybenObj (s : State) (index sub : Nat) : Bytes :=
  match index, sub with
  | 0x2100, 1 => leBytes 2 s.sy.sessions.length
  | 0x2100, 2 => leBytes 4 s.sy.authFailures.toNat
  | 0x2100, 3 => leBytes 4 s.sy.lockoutsImposed.toNat
  | 0x2100, 4 => [(s.sy.lockouts.filter fun l => l.blocked && l.source.isSome).length]
  | 0x2100, 5 => [s.keySlotsSet]
  | 0x2100, 6 => s.keyDigest
  | 0x2100, 7 => leBytes 4 s.sy.mailboxErrors.toNat
  | 0x2100, _ => leBytes 4 s.sy.rawDropped.toNat
  | 0x2101, n => leBytes 2 (s.sy.sessions.filter (·.role == n)).length
  | 0x2110, 1 => leBytes 2 s.rows.siRow
  | 0x2110, 2 => leBytes 2 s.rows.siPatMin
  | 0x2110, 3 => leBytes 2 s.rows.siMin
  | 0x2110, 4 => leBytes 2 s.rows.vcore
  | 0x2110, 5 => leBytes 2 s.rows.marginFabric
  | 0x2110, _ => leBytes 2 s.rows.marginRow
  | 0x2120, n => s.sessionEntry n
  | 0x2121, n => s.sessionEntry (128 + n)
  | _, n => [if n ≤ 6 then 0 else if (tabGet {} (n - 1) s.ck).owner == 1 then 1 else 2]

/-- Power (R119). -/
def State.powerObj (s : State) (sub : Nat) : Bytes :=
  let p := s.pm
  match sub with
  | 1 => [p.state.code]
  | 2 => [p.step]
  | 3 => leBytes 2 p.auxMv
  | 4 => leBytes 2 p.auxMa
  | 5 => leBytes 2 p.vholdMv
  | 6 => leBytes 2 p.capUf
  | 7 => [flagsOf [holdUpPasses p.capUf p.vholdMv, p.sagPaused, p.resetLow, p.resetIgnored, p.pullIn != 0]]
  | 8 => [p.startSlot]
  | 9 => [p.sagThisStart]
  | 10 => leBytes 4 p.sagTotal.toNat
  | 11 => [p.resetKind]
  | 12 => [b2n p.offLong]
  | 13 => [p.wakeSource]
  | 14 => [p.bindReason]
  | 15 => leBytes 4 p.castOnMs
  | 16 => stampBytes p.readyStamp
  | _ => [p.queue.length]

/-- Converter array and fast pairs (R154). -/
def State.converterObj (s : State) (index sub : Nat) : Bytes :=
  let c := s.ca
  match index, sub with
  | 0x2300, 1 => [c.spare]
  | 0x2300, 2 => [c.rotStep]
  | 0x2300, 3 => leBytes 2 (flagsOf ((List.range 9).map fun n => (s.slice n).retired))
  | 0x2300, 4 => [c.rotMode]
  | 0x2300, 5 => leBytes 4 c.handOvers.toNat
  | 0x2300, 6 => leBytes 4 c.mismatches.toNat
  | 0x2300, 7 => leInt 2 c.refCheck
  | 0x2300, 8 => [b2n c.precisionHeld]
  | 0x2300, 9 => leBytes 4 c.deferrals.toNat
  | 0x2300, _ => leBytes 4 c.capDropped.toNat
  | 0x2301, n => [(s.duty (n - 1)).slice]
  | 0x2302, n => leOptN 4 0xFFFFFFFF ((s.calAge (n - 1)).map (min 0xFFFFFFFE))
  | 0x2303, n => leInt 2 (tabGet 0 0 (s.slice (n - 1)).gains)
  | 0x2304, n => leInt 4 (tabGet 0 0 (s.slice (n - 1)).offsets)
  | 0x2310, n => (tabGet {} (n - 1) c.results).bytes
  | 0x2320, n => (tabGet {} (n - 1) c.captures).bytes
  | 0x2400, n => leInt 2 (s.pair (n - 1)).code
  | 0x2401, n => [(s.pair (n - 1)).cmp]
  | 0x2402, n =>
    let p := s.pair ((n - 1) / 3)
    leInt 2 (match (n - 1) % 3 with
      | 0 => p.residOffset
      | 1 => p.residGain
      | _ => p.residSkew)
  | 0x2403, n => if n ≤ 2 then [b2n (s.pair (n - 1)).frozen] else leBytes 4 (s.pair (n - 3)).lost.toNat
  | 0x2404, n => stampBytes (s.pair (n - 1)).trigStamp
  | 0x2405, n => leBytes 2 (s.pair (n - 1)).trigIdx
  | i, _ => (List.range 4096).flatMap fun k => leInt 2 ((s.pair (i - 0x2410)).ring.getD k 0)

/-- String sensing, insulation and contactor supervision (R193). -/
def State.sensingObj (s : State) (index sub : Nat) : Bytes :=
  let x := s.ss
  match index, sub with
  | 0x2500, 1 => leOpt 4 (noVal 4) x.current
  | 0x2500, 2 => leOpt 4 (noVal 4) x.hall
  | 0x2500, 3 => [x.source]
  | 0x2500, 4 => leOpt 4 (noVal 4) x.vStr
  | 0x2500, 5 => leOpt 4 (noVal 4) s.vBus
  | 0x2500, 6 => leOpt 4 (noVal 4) x.busP
  | 0x2500, 7 => leOpt 4 (noVal 4) x.busN
  | 0x2500, 8 => leOpt 2 (noVal 2) x.shuntT
  | 0x2500, 9 => leOptN 4 0xFFFFFFFF x.rSh
  | 0x2500, 11 => [flagsOf [x.shTempBad, x.hallInvalid, x.crossFail, x.d0Over, x.blind]]
  | 0x2500, _ => leOpt 4 (noVal 4) x.currentAt
  | 0x2501, 1 => leInt 8 x.charge
  | 0x2501, 2 => leInt 8 x.chargeIn
  | 0x2501, 3 => leInt 8 x.chargeOut
  | 0x2501, _ => stampBytes x.chargeStamp
  | 0x2502, 1 => leBytes 4 x.gapCount.toNat
  | 0x2502, 2 => leBytes 4 x.gapResults.toNat
  | 0x2502, 3 => leBytes 4 x.longestGap
  | 0x2502, 4 => leBytes 4 x.blindResults.toNat
  | 0x2502, _ => leInt 8 (ratTrunc x.gapCharge)
  | 0x2600, 1 => leOptN 4 0xFFFFFFFF s.im.riso
  | 0x2600, 2 => leOptN 4 0xFFFFFFFF s.im.rp
  | 0x2600, 3 => leOptN 4 0xFFFFFFFF s.im.rn
  | 0x2600, 4 => leOptN 4 0xFFFFFFFF s.im.ce
  | 0x2600, 5 => stampBytes s.im.stamp
  | 0x2600, 6 => leBytes 2 s.im.source
  | 0x2600, 7 => [s.im.tokenState]
  | 0x2600, 8 => [flagsOf [s.im.belowRange, s.im.aboveRange, s.im.earthBad, s.im.cycleVoid, s.im.busResult]]
  | 0x2600, 9 => leBytes 2 s.im.holder
  | 0x2600, _ => leBytes 4 s.im.sequence.toNat
  | _, 1 => [s.pc.seq]
  | _, 2 => leBytes 4 s.pc.preMs
  | _, 3 => leInt 4 (ratTrunc s.pc.energy)
  | _, 4 => leOptN 4 0xFFFFFFFF s.pc.estimate
  | _, 5 => leBytes 4 s.pc.wait
  | _, _ => [s.pc.skipped]

/-- Cell link (R237). -/
def State.cellObj (s : State) (index sub : Nat) : Bytes :=
  let l := s.cl
  match index, sub with
  | 0x2800, 1 => [l.ring.code]
  | 0x2800, 2 => [l.found]
  | 0x2800, 3 => [l.breakAfter]
  | 0x2800, 4 => [l.breakBefore]
  | 0x2800, 5 => [b2n l.driver]
  | 0x2800, 6 => leBytes 4 l.discarded.toNat
  | 0x2800, 7 => leBytes 4 l.late.toNat
  | 0x2800, 8 => leBytes 4 l.mismatches.toNat
  | 0x2800, 9 => leBytes 4 l.renewals.toNat
  | 0x2800, 10 => leBytes 2 l.stale
  | 0x2800, 11 => [b2n l.dataLost]
  | 0x2800, 12 => [l.loaderVersion]
  | 0x2800, 13 => leBytes 4 l.urgentReceived.toNat
  | 0x2800, _ => leBytes 4 l.urgentIgnored.toNat
  | 0x2801, n => let c := s.cmu n; [c.state, c.lowVer % 16 + 16 * (c.highVer % 16), c.status, c.link % 4 + 4 * (c.rounds % 4)]
  | 0x2802, n => leOptN 2 0xFFFF (s.cmu n).delayA
  | 0x2803, n => leOptN 2 0xFFFF (s.cmu n).delayB
  | 0x2804, n => leBytes 4 (s.cmu n).serial
  | 0x2805, n => leOpt 2 (noVal 2) (s.cmu n).dieTemp
  | 0x2806, _ => padBytes 32 l.imageDigest
  | 0x2820, 1 => [l.stepState]
  | 0x2820, 2 => [l.stepId]
  | 0x2820, 3 => stampBytes l.stepTs
  | 0x2820, 4 => leBytes 2 l.stepGroups
  | 0x2820, _ => leBytes 4 l.stepRefused.toNat
  | 0x2822, n => (List.range 128).flatMap fun g =>
      let d := tabGet [] (128 * (n - 1) + g) l.stepData
      (List.range 200).flatMap fun k => leBytes 2 (d.getD k 0xFFFF)
  | i, n =>
    if i < 0x2818 then
      let g := s.group (128 * (i - 0x2810) + n - 1)
      leOptN 2 0xFFFF g.voltage ++ [g.age, g.flags] ++ leBytes 4 g.stamp.toNat
    else
      let k := 128 * (i - 0x2818) + n - 1
      let x := s.sensor k
      leOpt 2 (noVal 2) x.temp ++ [x.age, flagsOf [4 ≤ x.age, !s.sensorList.contains k]]

/-- Estimation fabric (R275). -/
def State.fabricObj (s : State) (index sub : Nat) : Bytes :=
  let e := s.ef
  let wide (o : Option Rat) : Bytes := leOpt 8 (noVal 8) (o.map pub)
  match index, sub with
  | 0x2900, 1 => [e.state]
  | 0x2900, 2 => leBytes 4 e.skipped.toNat
  | 0x2900, 3 => leBytes 4 e.durationNs
  | 0x2900, 4 => leBytes 4 e.durationMax
  | 0x2900, 5 => leBytes 2 e.rrStart
  | 0x2900, 6 => leBytes 2 e.flagged
  | 0x2900, 7 => leBytes 4 (e.restAgePat / 100)
  | 0x2900, 8 => stampBytes e.lastRest
  | 0x2900, 9 => leBytes 2 e.steepLow
  | 0x2900, 10 => leBytes 2 e.steepHigh
  | 0x2900, 11 => [e.learnedSource]
  | 0x2900, 12 => leBytes 4 e.modelCheck
  | 0x2900, _ => padBytes 32 (if e.digestOn then s.learnedDigest else [])
  | 0x2901, 1 => leBytes 2 (clampInt 0 65535 (pub (e.dispSoc * 65536))).toNat
  | 0x2901, 2 => leBytes 2 (clampInt 0 65535 (pub (e.dispRaw * 65536))).toNat
  | 0x2901, 3 => wide e.qdn
  | 0x2901, 4 => wide e.qup
  | 0x2901, 5 => leBytes 2 e.weakest
  | 0x2901, 6 => leBytes 2 e.strongest
  | 0x2901, 7 => leOpt 4 (noVal 4) (e.iBar.map pub)
  | 0x2901, 8 => leBytes 2 e.minSoc
  | 0x2901, 9 => leBytes 2 e.maxSoc
  | 0x2901, 10 => leBytes 2 e.minConf
  | 0x2901, 11 => leOptN 8 (noVal 8) e.minCap
  | 0x2901, 12 => leOptN 4 0xFFFFFFFF e.maxRs
  | 0x2901, 13 => leOpt 4 (noVal 4) e.ocvSum
  | 0x2901, 14 => leOptN 4 0xFFFFFFFF e.rsSum
  | 0x2901, 15 => leBytes 2 e.meanSoc
  | 0x2901, _ => [e.flags]
  | 0x2920, 1 => leBytes 2 e.lastGroup
  | 0x2920, 2 => stampBytes e.lastLearn
  | 0x2920, 3 => wide e.lastMeasured
  | 0x2920, 4 => wide e.lastResult
  | 0x2920, 5 => leBytes 4 e.capEvents.toNat
  | 0x2920, _ => leBytes 4 e.capRejected.toNat
  | 0x2921, 1 => leBytes 4 e.stepsUsed.toNat
  | 0x2921, 2 => leBytes 4 e.stepsRejected.toNat
  | 0x2921, 3 => stampBytes e.lastStep
  | 0x2921, _ => leOpt 4 (noVal 4) e.lastDelta
  | i, n =>
    if i < 0x2918 then
      let g := 128 * (i - 0x2910) + n - 1
      let c : Ctx := if s.groupCount ≤ g then { flags := 0x81 } else s.ctx g
      leBytes 2 (clampInt 0 65535 (pub (c.z * 65536))).toNat ++ leBytes 2 c.sigma2 ++ leBytes 2 c.conf ++ leBytes 2 c.flags ++
        leBytes 4 c.rs ++ leInt 2 (clampInt (-32767) 32767 (pub (mul64 c.h 10000))) ++
        leInt 2 (clampInt (-32767) 32767 (pub (mul64 (add64 c.va c.vb) 10000)))
    else
      let c := s.ctx (128 * (i - 0x2918) + n - 1)
      leInt 8 (pub c.cap) ++ leInt 2 (clampInt 0 65535 (pub (2 * sqrt64 c.sig2 * 1000000))) ++
        leInt 2 (clampInt 0 65535 (pub (c.kr * 10000))) ++ leOpt 4 0xFFFFFFFF (c.z100.map pub)

/-- Balancing and thermal management (R304). -/
def State.thermalObj (s : State) (index sub : Nat) : Bytes :=
  let b := s.bs
  let m := s.tm
  match index, sub with
  | 0x2A00, 1 => [b.state]
  | 0x2A00, 2 => leBytes 2 b.refGroup
  | 0x2A00, 3 => leBytes 2 b.bleedingCount
  | 0x2A00, 4 => leBytes 8 b.totalNeed
  | 0x2A00, 5 => leInt 8 (ratTrunc b.bledCharge)
  | 0x2A00, _ => leBytes 4 b.mismatches.toNat
  | 0x2A20, n => leBytes 2 (s.cmu n).power
  | 0x2A21, n => leBytes 2 (s.cmu n).budget
  | 0x2B00, 1 => [m.level]
  | 0x2B00, 2 => [m.factor]
  | 0x2B00, 3 => leBytes 2 m.hotSensor
  | 0x2B00, 4 => leOpt 2 (noVal 2) m.hotTemp
  | 0x2B00, 5 => leBytes 2 m.coldSensor
  | 0x2B00, 6 => leOpt 2 (noVal 2) m.coldTemp
  | 0x2B00, 7 => leBytes 2 (flagsOf [m.frozen.isSome, m.windowClosed, m.nvClosed, m.zeroEnvelope, m.cellLatch,
      m.junctionLatch, m.substituted != 0])
  | 0x2B00, 8 => leBytes 2 m.substituted
  | 0x2B00, 9 => leOpt 2 (noVal 2) m.board.value
  | 0x2B00, 10 => leOpt 2 (noVal 2) m.junction
  | 0x2B00, 11 => leOpt 2 (noVal 2) m.junctionMax
  | 0x2B00, 12 => [s.nv.held.length]
  | 0x2B00, 13 => leBytes 4 s.nv.logDropped.toNat
  | 0x2B00, 14 => leBytes 4 s.nv.settingsRefused.toNat
  | 0x2B00, 15 => [m.cooling]
  | 0x2B00, 16 => [m.heating]
  | 0x2B00, 17 => stampBytes m.shutStamp
  | 0x2B00, _ => leBytes 2 m.shutSensor
  | 0x2B20, n => leOpt 2 (noVal 2) (tabGet {} n m.locals).value
  | 0x2B21, n => [(tabGet {} n m.pwm).duty]
  | 0x2B22, n => [(tabGet {} n m.pwm).offCount]
  | i, n =>
    if i < 0x2B00 then
      let g := s.group (128 * (i - 0x2A10) + n - 1)
      leBytes 4 (min 0xFFFFFFFF (g.need / 1000)) ++ leBytes 4 (min 0xFFFFFFFF (ratTrunc (g.bled / 1000)).toNat) ++ [g.cmdTime, g.bflags, 0, 0]
    else if i < 0x2B18 then
      let k := 128 * (i - 0x2B10) + n - 1
      let x : Sensor := if bit (s.cfgGet 0x2882 (k / 8 + 1)) (k % 8) then s.sensor k else { state := 16 }
      leOpt 2 (noVal 2) x.used ++ [x.rate, x.state] ++ leBytes 2 (min 65535 (x.validPat / 100)) ++ [x.act, 0]
    else leOpt 2 (noVal 2) (tabGet none (128 * (i - 0x2B18) + n - 1) m.groupT)

/-- Dispatch (R330). -/
def State.dispatchObj (s : State) (index sub : Nat) : Bytes :=
  let d := s.de
  match index, sub with
  | 0x2C00, 1 => [d.connect]
  | 0x2C00, 2 => [d.intent]
  | 0x2C00, 3 => [b2n d.armed]
  | 0x2C00, 4 => [d.refusal]
  | 0x2C00, 5 => leBytes 2 (d.waitRows / 10)
  | 0x2C00, 6 => leBytes 4 d.underLoad.toNat
  | 0x2C00, 7 => leBytes 4 d.breakerTrips.toNat
  | 0x2C00, 8 => leInt 2 (clampInt (-32767) 32767 d.excess)
  | 0x2C00, 9 => [d.restState]
  | 0x2C00, 10 => leBytes 4 d.restLength
  | 0x2C00, 11 => stampBytes d.restEnd
  | 0x2C00, 12 => stampBytes d.lastCan
  | 0x2C00, 13 => stampBytes d.lastEth
  | 0x2C00, 14 => leBytes 4 d.gaps.toNat
  | 0x2C00, 15 => [d.leases.length]
  | 0x2C00, _ => leBytes 4 d.leasesRefused.toNat
  | 0x2C01, _ => if d.envelope.version == 0 then List.replicate 64 0 else d.envelope.bytes
  | 0x2C02, n => leBytes 4 (d.lim.getD (n - 1) 0)
  | 0x2C03, n => leBytes 2 (if n == 1 then d.limGroupC else d.limGroupD)
  | _, n =>
    match d.leases[n - 1]? with
    | none => List.replicate 54 0
    | some l => l.bytes ++ leBytes 2 l.node ++ leBytes 4 l.rows ++ stampBytes l.written

/-- Safety island and output stages (R364). -/
def State.safetyObj (s : State) (index sub : Nat) : Bytes :=
  let i := s.si
  match index, sub with
  | 0x2D00, 1 => [s.safetyState]
  | 0x2D00, 2 => leBytes 2 i.functions
  | 0x2D00, 3 => [b2n i.setConfirmed]
  | 0x2D00, 4 => leBytes 4 i.checkComputed
  | 0x2D00, 5 => leBytes 4 i.checkConfirmed
  | 0x2D00, 6 => stampBytes i.confirmStamp
  | 0x2D00, 7 => [i.lastReaction]
  | 0x2D00, 8 => stampBytes i.lastReactionStamp
  | 0x2D00, 9 => leBytes 4 i.mismatches.toNat
  | 0x2D00, 10 => [flagsOf [i.xtripIn, i.xtripOut]]
  | 0x2D00, 11 => [i.proofState]
  | 0x2D00, 12 => stampBytes i.proofStamp
  | 0x2D00, 13 => leBytes 4 i.proofDue
  | 0x2D00, 14 => leBytes 4 i.tripPulses.toNat
  | 0x2D00, _ => [i.closeRefusal]
  | 0x2D10, n =>
    let x := s.sin n
    leBytes 2 (flagsOf [x.a.raw, x.b.raw, x.a.filt, x.b.filt, x.demand, x.discBlock, x.restartBlock, x.a.fault, x.b.fault,
      x.crossShort])
  | 0x2D11, n => leBytes 2 (s.sin n).discMax
  | _, 5 => [flagsOf [s.os.tripActive, s.os.tripCont, s.os.trip1, s.os.trip2]]
  | _, 6 => [flagsOf [s.os.uvrOn, s.os.uvr1, s.os.uvr2]]
  | _, 7 => leBytes 4 s.os.offPulses.toNat
  | _, 8 => stampBytes s.os.lastFault
  | _, n =>
    let c := s.coil n
    [flagsOf [c.cmd, s.os.gate, c.hsRead, c.lsRead] + 16 * (c.phase % 4), c.faults] ++ leBytes 2 c.ma

/-- Twin (R408). -/
def State.twinObj (s : State) (sub : Nat) : Bytes :=
  let t := s.ty
  match sub with
  | 1 => [t.state.code]
  | 2 => [b2n t.sideB]
  | 3 => [t.version]
  | 4 => leBytes 2 s.id.stepNo
  | 5 => leBytes 2 ((t.hello.map (·.stepNo)).getD 0)
  | 6 => leBytes 2 t.wordOwn
  | 7 => leBytes 2 t.wordTwin
  | 8 => [s.holder]
  | 9 => leBytes 4 t.stitches.toNat
  | 10 => leBytes 2 t.window.length
  | 11 => [t.missing]
  | 12 => leBytes 4 t.switchovers.toNat
  | 13 => stampBytes t.lastSwitch
  | 14 => [t.lastKind]
  | 15 => leBytes 2 s.pairNodeId
  | 16 => leBytes 2 ((t.hello.map (·.node)).getD 0)
  | 17 => leBytes 4 ((t.hello.map (·.serial)).getD 0)
  | 18 => leBytes 4 (t.origin * 2 ^ 30 + (t.counter + 1) % 2 ^ 30)
  | 19 => [t.joinState]
  | 20 => [t.joinFails]
  | 21 => leOpt 4 (noVal 4) t.iDiff
  | 22 => leOpt 4 (noVal 4) t.vDiff
  | 23 => [t.refusal]
  | 24 => stampBytes t.lockstepStamp
  | _ => leBytes 4 t.deferred.toNat

/-- Timebase and Ethernet (R433, R518). -/
def State.clockObj (s : State) (index sub : Nat) : Bytes :=
  let t := s.tb
  let port (n : Nat) : Sfp := if n == 1 then s.en.p1 else s.en.p2
  match index, sub with
  | 0x3000, 1 => [t.state.code]
  | 0x3000, 2 => leBytes 2 t.now.epoch
  | 0x3000, 3 => leBytes 4 t.stepCount.toNat
  | 0x3000, 4 => stampBytes t.lastStep
  | 0x3000, 5 => leInt 8 t.lastSize
  | 0x3000, 6 => leInt 8 t.pendingOff
  | 0x3000, 7 => [t.pendingCount]
  | 0x3000, 8 => leOpt 4 (noVal 4) t.offset
  | 0x3000, 9 => leOptN 4 0xFFFFFFFF (if s.peerDelay then (if t.activePort == 2 then t.peer2 else t.peer1) else t.pathDelay)
  | 0x3000, 10 => leBytes 8 t.incr.toNat
  | 0x3000, 11 => leInt 4 (ratTrunc t.yf)
  | 0x3000, 12 => leBytes 8 t.gm
  | 0x3000, 13 => leBytes 8 t.parent ++ leBytes 2 t.parentPort
  | 0x3000, 14 => [t.portState]
  | 0x3000, 15 => [t.activePort]
  | 0x3000, 16 => leOpt 4 (noVal 4) t.twinOffset
  | 0x3000, _ => leBytes 4 t.stepsRefused.toNat
  | 0x3001, 1 => [t.tx1.length]
  | 0x3001, 2 => [t.tx2.length]
  | 0x3001, 3 => leBytes 4 t.txOver1.toNat
  | 0x3001, 4 => leBytes 4 t.txOver2.toNat
  | 0x3001, 5 => leBytes 4 t.tcMax1
  | 0x3001, _ => leBytes 4 t.tcMax2
  | 0x3100, n => [(port n).link]
  | 0x3101, n => leBytes 2 (port n).compliance
  | 0x3102, n => leBytes 4 (port n).rx.toNat
  | 0x3103, n => leBytes 4 (port n).tx.toNat
  | 0x3104, n => leBytes 4 (port n).discarded.toNat
  | _, _ => leBytes 4 s.en.conflicts.toNat

/-- CAN (R459). -/
def State.canObj (s : State) (index sub : Nat) : Bytes :=
  let c := s.ctl sub
  match index, sub with
  | 0x3200, _ => [c.errState]
  | 0x3201, _ => leBytes 2 c.tec
  | 0x3202, _ => leBytes 2 c.recv
  | 0x3203, _ => leBytes 4 c.busOffs.toNat
  | 0x3204, _ => [c.lastErr]
  | 0x3205, _ => leBytes 4 c.rxFrames.toNat
  | 0x3206, _ => leBytes 4 c.notAccepted.toNat
  | 0x3207, _ => leBytes 4 c.overwritten.toNat
  | 0x3208, _ => leBytes 4 c.txFrames.toNat
  | 0x3209, _ => leBytes 4 c.txRefused.toNat
  | 0x320A, _ => leBytes 4 c.lateCancels.toNat
  | 0x320B, _ => leBytes 4 c.purged.toNat
  | 0x320C, _ => (List.range 768).flatMap fun k => leBytes 4 (tabGet 0 k c.filters)
  | _, 1 => [s.cn.fireState]
  | _, 2 => leBytes 4 s.cn.fireCounter.toNat
  | _, _ => leBytes 4 s.cn.fireSkipped.toNat

/-- Loader and nonvolatile store (R550). -/
def State.loaderObj (s : State) (sub : Nat) : Bytes :=
  let l := s.ld
  match sub with
  | 1 => [l.state]
  | 2 => leBytes 4 l.next
  | 3 => leBytes 4 l.total
  | 4 => [l.refusal]
  | 5 => stampBytes l.installStamp
  | 6 => leBytes 4 l.installs.toNat
  | 7 => [l.recoveryReason]
  | 8 => [l.sections]
  | 9 => leBytes 4 l.oneCopy.toNat
  | 10 => leBytes 4 l.verifyFails.toNat
  | 11 => leBytes 4 l.flashFails.toNat
  | 12 => leBytes 4 l.writes.toNat
  | _ => [l.fuses]

/-- The value of a status object that exists (R503). -/
def State.statusValue (s : State) (index sub : Nat) : Bytes :=
  if index < 0x1100 then s.identObj index sub
  else if index < 0x2100 then s.commonObj index sub
  else if index < 0x2200 || index == 0x3300 then s.sybenObj index sub
  else if index < 0x2300 then s.powerObj sub
  else if index < 0x2500 then s.converterObj index sub
  else if index < 0x2800 then s.sensingObj index sub
  else if index < 0x2900 then s.cellObj index sub
  else if index < 0x2A00 then s.fabricObj index sub
  else if index < 0x2C00 then s.thermalObj index sub
  else if index < 0x2D00 then s.dispatchObj index sub
  else if index < 0x2F00 then s.safetyObj index sub
  else if index < 0x3000 then s.twinObj sub
  else if index < 0x3200 then s.clockObj index sub
  else if index < 0x3400 then s.canObj index sub
  else s.loaderObj sub

/-- A status object's bytes (R503, R504); none where there is no such object. -/
def State.readStatus (s : State) (index sub : Nat) : Option Bytes :=
  match lookupKey index statusHigh with
  | none => none
  | some 0 => if sub == 0 then some (s.statusValue index 0) else none
  | some h =>
    if sub == 0 then some [h]
    else if sub ≤ h && !(index == 0x2500 && sub == 10) then some (s.statusValue index sub)
    else none

/-! ### Configuration objects (R503, R507) -/

/-- Length of a cell model table (R274). -/
def modelLength (index : Nat) : Option Nat :=
  if index == 0x2981 || index == 0x2987 || index == 0x2988 then some 1024
  else if 0x2982 ≤ index && index ≤ 0x2986 then some 2048
  else none

/-- Highest subindex of a configuration index; 0 where it has none. -/
def configHigh (index : Nat) : Option Nat :=
  if (modelLength index).isSome || index == 0x2C84 || index == 0x2886 then some 0
  else
    let os := objTable.filter (·.index == index)
    if os.isEmpty then none else some ((os.map (·.hi)).foldl max 0)

/-- A configuration object's value in force (R507, R510): SAFE objects from the active safety set (R358), the model
tables from their bytes. StepRequest and LeaseWrite read all 0. -/
def State.configValue (s : State) (index sub : Nat) : Option Bytes :=
  match modelLength index with
  | some n => if sub == 0 then some (memReadAll s.bytes (index * 65536) n) else none
  | none =>
    if index == 0x2C84 then (if sub == 0 then some (List.replicate 36 0) else none)
    else if index == 0x2886 then (if sub == 0 then some (List.replicate 12 0) else none)
    else if index == 0x2381 && 6 ≤ sub && sub ≤ 8 then
      some (leBytes 4 (s.cfgGet index sub % 2 ^ 20 + s.dutyInput (sub - 1) * 2 ^ 20))
    else if index == 0x3380 then (if sub == 1 || sub == 2 then some [if (tabGet {} (sub + 5) s.ck).owner == 1 then 1 else 0] else none)
    else if index == 0x3086 then (if sub == 0 then some (leBytes 8 s.tb.incr.toNat) else none)
    else (findObj index sub).map fun o =>
      leBytes o.bytes (if o.access = .safe then s.safeGet index sub else s.cfgGet index sub)

/-- Any object's bytes (R502 to R506); none where there is no such object. -/
def State.readObj (s : State) (index sub : Nat) : Option Bytes :=
  match s.readStatus index sub with
  | some b => some b
  | none =>
    match configHigh index with
    | none => none
    | some 0 => s.configValue index sub
    | some h => if sub == 0 then some [h] else s.configValue index sub

end Sys2Proof.Machine
end

