-- ==== Sys2Proof/Machine/HostWindow.lean ====
section
/-! DEFINITION. HostWindow: the mailbox registers and slots, the check engines, and host writes into the window (R462
to R466, R495 to R499). -/

namespace Sys2Proof.Machine

/-- The state an outcome answers; the state before it where it answers none. -/
def outcomeState (s : State) : Host.Outcome State Fault Refusal → State
  | .next t => t
  | _ => s

/-! ### Mailbox (R464, R465) -/

/-- A post or a slot write that R465 ignores: MB_ERRORS and 0x0109. -/
def State.mailboxError (s : State) : State :=
  (s.modSy fun y => { y with mailboxErrors := y.mailboxErrors + 1 }).raiseEvent 0x0109

/-- Held messages for the host go into receive slots, oldest first (R465). -/
def State.flushHeld (s : State) : Nat → State
  | 0 => s
  | k + 1 =>
    match s.sy.heldEvents with
    | [] => s
    | b :: rest =>
      match s.toReceiveSlot b with
      | none => s
      | some t => State.flushHeld (t.modSy fun y => { y with heldEvents := rest }) k

/-- The opcodes of requests (R488). -/
def requestOpcodes : List Nat :=
  [0x01, 0x02, 0x03, 0x04, 0x05, 0x10, 0x11, 0x12, 0x13, 0x14, 0x20, 0x40, 0x50, 0x60, 0x61, 0x62, 0x70]

/-- What the header of a posted message settles by itself: a Length above what a slot holds discards the message, and
an unknown opcode is refused with 0x01 (R467, R488). Any other request waits in its slot for its own row. -/
def State.slotHeader (s : State) (n : Nat) : State :=
  let b := padBytes 2048 (tabGet {} n s.sy.slots).bytes
  let len := leNat ((b.drop 4).take 2)
  let op := b.getD 2 0
  if 2016 < len then s.returnSlot n (0 :: b.drop 1)
  else if requestOpcodes.contains op then s.modSy fun y => { y with queue := y.queue ++ [n] }
  else
    let r : Req := { source := .spi, version := b.getD 0 0, session := leNat ((b.drop 6).take 2),
                     seq := leNat ((b.drop 8).take 4), mac := (b.drop (16 + len)).take 16 }
    let t := (s.modSy fun y => { y with queue := n :: y.queue }).request r false op ((b.drop 16).take len) 0 anyRole
      fun u _ => no u 0x01
    t

/-- One slot is handed to the module (R465). -/
def State.postSlot (s : State) (n : Nat) : State :=
  let x : Slot := tabGet {} n s.sy.slots
  if x.module then s.mailboxError
  else
    let rcv := x.bytes.getD 0 0 == 0
    let t := s.modSy fun y => { y with slots := tabMod {} n (fun x => { x with module := true, receive := rcv }) y.slots }
    if rcv then (t.modSy fun y => { y with receive := y.receive ++ [n] }).flushHeld 16
    else t.slotHeader n

/-- A write to MB_POST (R464, R465): its bits in ascending slot order. -/
def State.mbPost (s : State) (bits : Nat) : State :=
  (List.range 16).foldl (fun t n => if bit bits n then t.postSlot n else t) s

/-- MB_POST (R465). -/
def execMbPost (bits : Nat) (s : State) : Host.Outcome State Fault Refusal :=
  .next (if s.coreUp then s.mbPost bits else s)

/-- A number with the bits of another cleared, among its low 16. -/
def clearBits (v bits : Nat) : Nat := (List.range 16).foldl (fun v n => if bit bits n then setBit v n false else v) v

/-- MB_DONE (R464): write 1 to clear. -/
def execMbDone (bits : Nat) (s : State) : Host.Outcome State Fault Refusal :=
  .next (if s.coreUp then s.modSy fun y => { y with done := clearBits y.done bits } else s)

/-- MB_RESET (R464, R465): 0x0000_A55A returns every slot that the module owns. A request already carried out keeps no slot,
and its response is discarded. -/
def execMbReset (value : Nat) (s : State) : Host.Outcome State Fault Refusal :=
  .next (if !s.coreUp || value != 0xA55A then s
    else
      let t := (List.range 16).foldl (fun t n =>
        let x : Slot := tabGet {} n t.sy.slots
        if x.module then t.returnSlot n x.bytes else t) s
      ((t.modSy fun y => { y with
        queue := [], receive := [], live := y.live.map fun l => { l with slot := none }
        commits := y.commits.map fun c => { c with slot := none } }).modLd fun l => { l with slot := none }).modTy fun y =>
        { y with passed := y.passed.map fun p => (p.1, none) })

/-- MB_ALERT (R464): a write of 1 to bit 2 clears the raw frame drop flag. -/
def execMbAlert (bits : Nat) (s : State) : Host.Outcome State Fault Refusal :=
  .next (if s.coreUp && bit bits 2 then s.modSy fun y => { y with rawAlert := false } else s)

/-- A list of bytes with four of them written at an offset. -/
def writeBytes (b : Bytes) (off : Nat) (w : Bytes) : Bytes :=
  let p := padBytes (max b.length (off + w.length)) b
  p.take off ++ w ++ p.drop (off + w.length)

/-- A host write into a slot (R465). -/
def State.slotWrite (s : State) (n off word : Nat) : State :=
  if (tabGet {} n s.sy.slots).module then s.mailboxError
  else s.modSy fun y =>
    { y with slots := tabMod {} n (fun x => { x with bytes := writeBytes x.bytes off (leBytes 4 word) }) y.slots }

/-! ### Check engines (R495 to R499) -/

/-- A check engine the host has claimed (R495, R496). -/
def State.hostEngine (s : State) (k : Nat) : Bool :=
  s.coreUp && (k == 6 || k == 7) && (tabGet {} k s.ck).owner == 1

/-- A change to a check engine. -/
def State.modEngine (s : State) (k : Nat) (f : Engine → Engine) : State := s.modCk fun c => tabMod {} k f c

/-- WIDTH (R496). -/
def Engine.width (e : Engine) : Nat := e.ctrl % 128

/-- A number cut to WIDTH: bits above it are written and read as 0 (R496). -/
def Engine.cut (e : Engine) (v : Nat) : Nat := v % 2 ^ (min 64 e.width)

/-- RESULT (R496). -/
def Engine.resultNow (e : Engine) : Nat :=
  let r := e.cut e.running
  e.cut ((if bit e.ctrl 9 then reflect (min 64 e.width) r else r) ^^^ e.cut e.xorout)

/-- Bytes enter an engine (R496). A WIDTH outside 3 to 64 is no width the spec gives a result for: RUNNING is then
free (assumption 4). -/
def State.feed (s : State) (k : Nat) (bs : Bytes) : State :=
  let e : Engine := tabGet {} k s.ck
  if 3 ≤ e.width && e.width ≤ 64 then
    s.modEngine k fun e => { e with running := crcRun e.width (e.cut e.poly) (bit e.ctrl 8) (e.cut e.running) bs }
  else (s.modEngine k fun e => { e with running := s.freeNat % 2 ^ 64 }).takeFree

/-- DATA8 (R496): one byte. -/
def execData8 (engine byte : Nat) (s : State) : Host.Outcome State Fault Refusal :=
  .next (if s.hostEngine engine then s.feed engine [byte % 256] else s)

/-- DATA32 (R496): four bytes, bits 7:0 first. -/
def execData32 (engine word : Nat) (s : State) : Host.Outcome State Fault Refusal :=
  .next (if s.hostEngine engine then s.feed engine (leBytes 4 word) else s)

/-- A write to CE_CTRL (R496): the settings, and with bit 31 RUNNING from INIT. -/
def State.ceCtrl (s : State) (k word : Nat) : State :=
  s.modEngine k fun e =>
    let f := { e with ctrl := word % 128 + 256 * (word / 256 % 4) }
    if bit word 31 then { f with running := f.cut f.init } else f

/-- CE_CTRL_LOAD_INIT (R496): a write to CE_CTRL with bit 31 set. -/
def execCeCtrlLoadInit (engine word : Nat) (s : State) : Host.Outcome State Fault Refusal :=
  .next (if s.hostEngine engine then s.ceCtrl engine (word % 2 ^ 31 + 2 ^ 31) else s)

/-- The write of a high word commits both words of POLY, INIT, XOROUT or RUNNING (R496). -/
def State.ceHigh (s : State) (k off word : Nat) : State :=
  s.modEngine k fun e =>
    let both (low : Nat) : Nat := e.cut (word % 2 ^ 32 * 2 ^ 32 + low)
    match off with
    | 0x0C => { e with poly := both e.lowPoly }
    | 0x14 => { e with init := both e.lowInit }
    | 0x1C => { e with xorout := both e.lowXor }
    | 0x24 => { e with running := both e.lowRun }
    | _ => e

/-- CE_HIGH_WORD_COMMIT (R496): the register is named by its high word's offset. -/
def execCeHighWordCommit (engine offset word : Nat) (s : State) : Host.Outcome State Fault Refusal :=
  .next (if s.hostEngine engine then s.ceHigh engine offset word else s)

/-- CE_LOW_WORD_READ (R496): RUNNING (0x20) or RESULT (0x28); the high word goes into the shadow. -/
def execCeLowWordRead (engine offset : Nat) (s : State) : Host.Outcome State Fault Refusal :=
  let e : Engine := tabGet {} engine s.ck
  .next (if !s.coreUp then s
    else if !s.hostEngine engine then s.hostWord 0
    else if offset == 0x20 then
      (s.modEngine engine fun e => { e with shRun := some (e.cut e.running / 2 ^ 32) }).hostWord (e.cut e.running % 2 ^ 32)
    else
      (s.modEngine engine fun e => { e with shRes := some (e.resultNow / 2 ^ 32) }).hostWord (e.resultNow % 2 ^ 32))

/-- CE_HIGH_WORD_READ (R496): the shadow once, then the live high word, of RUNNING (0x24) or RESULT (0x2C). -/
def execCeHighWordRead (engine offset : Nat) (s : State) : Host.Outcome State Fault Refusal :=
  let e : Engine := tabGet {} engine s.ck
  .next (if !s.coreUp then s
    else if !s.hostEngine engine then s.hostWord 0
    else if offset == 0x24 then
      (s.modEngine engine fun e => { e with shRun := none }).hostWord (e.shRun.getD (e.cut e.running / 2 ^ 32))
    else
      (s.modEngine engine fun e => { e with shRes := none }).hostWord (e.shRes.getD (e.resultNow / 2 ^ 32)))

/-- A write to ALIVE (R496, R498). -/
def State.aliveWrite (s : State) (k word : Nat) : State :=
  s.modEngine k fun e =>
    let w := if bit e.aliveCfg 0 then 8 else 4
    let c := word / 2 ^ (e.aliveCfg / 256 % 32) % 2 ^ w
    let (code, n) := aliveCheck e.last c w (e.aliveCfg / 2 ^ 16 % 16)
    { e with last := some c, result := code, skipped := n }

/-- ALIVE (R498). -/
def execAlive (engine word : Nat) (s : State) : Host.Outcome State Fault Refusal :=
  .next (if s.hostEngine engine then s.aliveWrite engine word else s)

/-- A write to ALIVE_CFG (R496); bit 31 makes the checker forget its last counter. -/
def State.aliveCfgWrite (s : State) (k word : Nat) : State :=
  s.modEngine k fun e =>
    let f := { e with aliveCfg := word % 2 + 256 * (word / 256 % 32) + 2 ^ 16 * (word / 2 ^ 16 % 16) }
    if bit word 31 then { f with last := none } else f

/-- ALIVE_CFG_FORGET (R496): a write to ALIVE_CFG with bit 31 set. -/
def execAliveCfgForget (engine word : Nat) (s : State) : Host.Outcome State Fault Refusal :=
  .next (if s.hostEngine engine then s.aliveCfgWrite engine (word % 2 ^ 31 + 2 ^ 31) else s)

/-- A write of 1 to HostEngineClaim (R499). -/
def State.engineClaimAct (t : State) (x : Session) (engine : Nat) : Answer :=
  if !(engine == 6 || engine == 7) then no t 0x08
  else if x.source ≠ .spi then no t 0x0B
  else if (tabGet {} engine t.ck).owner == 1 then no t 0x13
  else ok (t.modEngine engine fun _ => { owner := 1, claimant := x.num })

/-- HOST_ENGINE_CLAIM (R499, R501): over the host SPI port, at the next row; the engine is cleared. -/
def execHostEngineClaim (r : Req) (engine : Nat) (s : State) : Host.Outcome State Fault Refusal :=
  .next (s.liveReq r true 0x3380 (engine - 5) [1] operator (.hostEngineClaim r engine) fun t x => t.engineClaimAct x engine)

/-- A write of 0 to HostEngineClaim (R499): the engine is released and its registers cleared. -/
def State.engineReleaseAct (t : State) (x : Session) (engine : Nat) : Answer :=
  if !(engine == 6 || engine == 7) then no t 0x08
  else if x.source ≠ .spi then no t 0x0B
  else ok (t.modEngine engine fun _ => {})

/-- HOST_ENGINE_RELEASE (R499, R501): over the host SPI port, at the next row. -/
def execHostEngineRelease (r : Req) (engine : Nat) (s : State) : Host.Outcome State Fault Refusal :=
  .next (s.liveReq r true 0x3380 (engine - 5) [0] operator (.hostEngineRelease r engine) fun t x =>
    t.engineReleaseAct x engine)

/-- A host write into an engine's block (R496); only a claimed engine takes it. -/
def State.ceWrite (s : State) (k off word : Nat) : State :=
  if !s.hostEngine k then s
  else match off with
    | 0x00 => s.ceCtrl k word
    | 0x08 => s.modEngine k fun e => { e with lowPoly := word % 2 ^ 32 }
    | 0x10 => s.modEngine k fun e => { e with lowInit := word % 2 ^ 32 }
    | 0x18 => s.modEngine k fun e => { e with lowXor := word % 2 ^ 32 }
    | 0x20 => s.modEngine k fun e => { e with lowRun := word % 2 ^ 32 }
    | 0x0C => s.ceHigh k off word
    | 0x14 => s.ceHigh k off word
    | 0x1C => s.ceHigh k off word
    | 0x24 => s.ceHigh k off word
    | 0x30 => s.feed k [word % 256]
    | 0x34 => s.feed k (leBytes 4 word)
    | 0x38 => s.aliveCfgWrite k word
    | 0x3C => s.aliveWrite k word
    | _ => s

/-! ### CAN2 region (R452) -/

/-- A host write into the CAN2 region (R439, R445, R452); only while the host owns CAN2. -/
def State.can2Write (s : State) (off word : Nat) : State :=
  if !s.hostCan2 then s
  else if off == 0x100018 then outcomeState s (execCan2Rxack (word % 128) (word / 256 % 16) s)
  else if off == 0x10001C then
    match word / 256 % 4 with
    | 1 => outcomeState s (execCanTxRequest (word % 64) s)
    | 2 => outcomeState s (execCanTxCancel (word % 64) s)
    | 3 => outcomeState s (execCanTxReplace (word % 64) s)
    | _ => s
  else if off == 0x100028 then outcomeState s (execCan2Txfin (word % 2 ^ 32) s)
  else if off == 0x10002C then outcomeState s (execCan2Txfin (word % 2 ^ 32 * 2 ^ 32) s)
  else if off == 0x100030 then outcomeState s (execCan2Alert word s)
  else if off == 0x100034 then s.modCtl 2 fun c => { c with alertEn := word % 16 }
  else if 0x100100 ≤ off && off < 0x100D00 then
    let k := (off - 0x100100) / 4
    let v := if k % 3 == 0 then word % 2 ^ 15 - (if bit word 7 then 128 else 0) else word % 2 ^ 29
    s.modCtl 2 fun c => { c with filters := tabPut 0 k v c.filters }
  else if 0x142000 ≤ off && off < 0x162800 then
    let n := (off - 0x142000) / 0x820
    let k := (off - 0x142000) % 0x820 / 4
    if ((s.ctl 2).txb n).open' then
      s.modCtl 2 fun c => c.modTx n fun x => { x with words := tabPut 0 k (word % 2 ^ 32) x.words }
    else s
  else if 0x162800 ≤ off && off < 0x163020 then
    s.modCtl 2 fun c => { c with stageWords := tabPut 0 ((off - 0x162800) / 4) (word % 2 ^ 32) c.stageWords }
  else s

/-! ### Host reads (R462 to R466) -/

/-- Bits at their places in a word. -/
def wordOf (l : List (Nat × Nat)) : Nat := (l.map fun p => p.1 * 2 ^ p.2).foldl (· + ·) 0

/-- MB_ALERT (R464). -/
def State.mbAlert (s : State) : Nat :=
  flagsOf [s.sy.done &&& s.sy.doneEn != 0, (s.ctl 2).alert &&& (s.ctl 2).alertEn != 0, s.sy.rawAlert]

/-- ALERT_N is asserted while bit 0 or bit 1 of MB_ALERT is set (R452, R466). -/
def State.alertAsserted (s : State) : Bool := bit s.mbAlert 0 || bit s.mbAlert 1

/-- A mailbox register (R464). -/
def State.mailboxWord (s : State) (off : Nat) : Nat :=
  let owned (n : Nat) : Bool := (tabGet {} n s.sy.slots).module
  match off with
  | 0x00 => 0x81005942
  | 0x04 => flagsOf ((List.range 16).map owned) + 65536
  | 0x0C => s.sy.done
  | 0x10 => s.sy.doneEn
  | 0x14 => s.mbAlert
  | 0x1C => s.sy.mailboxErrors.toNat
  | _ => 0

/-- A word of a mailbox slot; 0 while the module owns it (R465). -/
def State.slotWord (s : State) (n off : Nat) : Nat :=
  let x : Slot := tabGet {} n s.sy.slots
  if x.module then 0 else leNat (padBytes 4 ((x.bytes.drop off).take 4))

/-- A word of the time region, live (R414), or of a port's stamp queue, which reads 0 unless the host owns it (R429). -/
def State.timeWord (s : State) (off : Nat) : Nat :=
  let t := s.tb
  let queue (w : Nat) : Nat := if s.cfgGet 0x3084 0 == 2 then w else 0
  let entry (l : List TxStamp) : Nat := match l with
    | [] => 0
    | x :: _ => 2 ^ 31 + x.port % 4 * 65536 + x.ident % 65536
  match off with
  | 0x00 => s.short
  | 0x04 => t.now.ns
  | 0x08 => t.now.sec % 2 ^ 32
  | 0x0C => Stamp.secHi t.now
  | 0x10 => t.incr.toNat % 2 ^ 32
  | 0x14 => t.incr.toNat / 2 ^ 32
  | 0x18 => t.state.code + 8 * b2n (t.state == .locked) + 16 * b2n (t.pendingCount != 0) + 32 * b2n t.incRefused +
      65536 * (t.stepCount.toNat % 65536)
  | 0x40 => queue (t.tx1.length + 256 * b2n t.txFlag1)
  | 0x44 => queue (entry t.tx1)
  | 0x48 => queue t.qstamp1.toNat
  | 0x50 => queue (t.tx2.length + 256 * b2n t.txFlag2)
  | 0x54 => queue (entry t.tx2)
  | 0x58 => queue t.qstamp2.toNat
  | _ => 0

/-- A word of a check engine's block, live; 0 unless the host has claimed the engine (R496). -/
def State.engineWord (s : State) (k off : Nat) : Nat :=
  let e : Engine := tabGet {} k s.ck
  let half (v : Nat) : Nat := if off % 8 == 0 then e.cut v % 2 ^ 32 else e.cut v / 2 ^ 32
  if !s.hostEngine k then 0
  else match off / 8 with
    | 0 => if off == 0 then e.ctrl else 0
    | 1 => half e.poly
    | 2 => half e.init
    | 3 => half e.xorout
    | 4 => half e.running
    | 5 => half e.resultNow
    | 7 => if off == 0x38 then e.aliveCfg
      else e.result + 256 * e.skipped + 65536 * e.last.getD 0 + 2 ^ 31 * b2n e.last.isSome
    | _ => 0

/-- The bits of word 0 that a frame gives (R443). -/
def frameBits (f : CanFrame) : List (Nat × Nat) :=
  [(f.fmt % 4, 23), (b2n f.ide, 22), (b2n f.rtr, 21), (b2n f.brs, 20), (b2n f.esi, 19)]

/-- A word of a frame's buffer from word 1 on (R443). -/
def frameWord (f : CanFrame) (sof eof k : Nat) : Nat :=
  match k with
  | 1 => f.id
  | 2 => wordOf [(f.data.length, 0), (f.sdt, 12), (b2n f.sec, 20), (f.vcid, 24)]
  | 3 => f.af
  | 4 => sof
  | 5 => eof
  | 6 => 0
  | 7 => 0
  | k => leNat ((f.data.drop (4 * (k - 8))).take 4)

/-- A word of a receive buffer (R443). -/
def CanRx.word (x : CanRx) (k : Nat) : Nat :=
  if k == 0 then wordOf (frameBits x.frame ++ [(b2n x.nd, 31), (x.upd % 16, 26), (b2n x.lost, 25), (x.filter, 11)])
  else frameWord x.frame x.sof.toNat x.eof.toNat k

/-- A word of a transmit buffer (R445): what the host wrote, with the bits and stamps that the controller sets. -/
def CanTx.word (x : CanTx) (k : Nat) : Nat :=
  let w := tabGet 0 k x.words
  match k with
  | 0 => wordOf [(x.state, 29), (b2n x.late, 28), (b2n (bit w 27), 27), (b2n (bit w 26), 26), (w / 2 ^ 20 % 32, 20), (b2n x.frame.esi, 19), (x.attempts, 16)]
  | 4 => x.sof.toNat
  | 5 => x.eof.toNat
  | _ => w

/-- A word of the CAN2 region; 0 unless the host owns CAN2 (R437, R452). -/
def State.can2Word (s : State) (off : Nat) : Nat :=
  let c := s.ctl 2
  let marks (base : Nat) (p : Nat → Bool) : Nat := flagsOf ((List.range 32).map fun n => p (base + n))
  let busy (n : Nat) : Bool := (c.txb n).state == 1 || (c.txb n).state == 2
  if !s.hostCan2 then 0
  else if off == 0x100000 then wordOf [(c.errState, 0), (min 255 c.recv, 8), (min 511 c.tec, 16), (c.lastErr, 25)]
  else if off == 0x100004 then
    wordOf [(c.wr % 128, 0), (((List.range (s.ringSize 2)).filter fun n => (c.rxb n).nd).length, 8)]
  else if 0x100008 ≤ off && off < 0x100018 then marks ((off - 0x100008) / 4 * 32) fun n => (c.rxb n).nd
  else if off == 0x10001C then 2 ^ 31 * b2n c.stageBusy
  else if off == 0x100020 || off == 0x100024 then marks ((off - 0x100020) / 4 * 32) busy
  else if off == 0x100028 || off == 0x10002C then marks ((off - 0x100028) / 4 * 32) fun n => 3 ≤ (c.txb n).state
  else if off == 0x100030 then c.alert
  else if off == 0x100034 then c.alertEn
  else if 0x100100 ≤ off && off < 0x100D00 then tabGet 0 ((off - 0x100100) / 4) c.filters
  else if 0x101000 ≤ off && off < 0x142000 then (c.rxb ((off - 0x101000) / 0x820)).word ((off - 0x101000) % 0x820 / 4)
  else if 0x142000 ≤ off && off < 0x162800 then (c.txb ((off - 0x142000) / 0x820)).word ((off - 0x142000) % 0x820 / 4)
  else if 0x162800 ≤ off && off < 0x163020 then tabGet 0 ((off - 0x162800) / 4) c.stageWords
  else 0

/-- The live word that a read of the host window returns (R462, R463); the reads that have an effect have rows of their own.
An offset outside the regions reads 0. -/
def State.windowWord (s : State) (offset : Nat) : Nat :=
  let off := offset / 4 * 4
  if !s.coreUp then 0
  else if off < 0x20 then s.mailboxWord off
  else if 0x8000 ≤ off && off < 0x10000 then s.slotWord ((off - 0x8000) / 0x800) ((off - 0x8000) % 0x800)
  else if 0x10000 ≤ off && off < 0x10210 then
    let w := s.slotWords ((off - 0x10000) / 8)
    if off % 8 == 0 then w.1 else w.2
  else if 0x20000 ≤ off && off < 0x20060 then s.timeWord (off - 0x20000)
  else if 0x30000 ≤ off && off < 0x30200 then s.engineWord ((off - 0x30000) / 0x40) ((off - 0x30000) % 0x40)
  else if 0x100000 ≤ off then s.can2Word off
  else 0

/-! ### Host writes (R462, R463) -/

/-- A word written at an offset of the host window, its bits 1:0 cleared (R462, R463). An offset outside the regions,
and a register that is not written, changes nothing. -/
def State.windowWrite (s : State) (offset word : Nat) : State :=
  let off := offset / 4 * 4
  if off == 0x08 then s.mbPost (word % 65536)
  else if off == 0x0C then outcomeState s (execMbDone word s)
  else if off == 0x10 then s.modSy fun y => { y with doneEn := word % 65536 }
  else if off == 0x14 then outcomeState s (execMbAlert word s)
  else if off == 0x18 then outcomeState s (execMbReset word s)
  else if 0x8000 ≤ off && off < 0x10000 then s.slotWrite ((off - 0x8000) / 0x800) ((off - 0x8000) % 0x800) word
  else if off == 0x20010 then s.modTb fun t => { t with incLo := word % 2 ^ 32 }
  else if off == 0x20014 then outcomeState s (execIncrementHi word s)
  else if off == 0x20040 then outcomeState s (execQstatus 1 word s)
  else if off == 0x20050 then outcomeState s (execQstatus 2 word s)
  else if 0x30000 ≤ off && off < 0x30200 then s.ceWrite ((off - 0x30000) / 0x40) ((off - 0x30000) % 0x40) word
  else if 0x100000 ≤ off then s.can2Write off word
  else s

/-- HOST_WINDOW_WRITE (R463): one complete word takes effect. -/
def execHostWindowWrite (offset word : Nat) (s : State) : Host.Outcome State Fault Refusal :=
  .next (if s.coreUp then s.windowWrite offset word else s)

end Sys2Proof.Machine
end

