-- ==== Sys2Proof/Machine/Syben.lean ====
section
/-! DEFINITION. Syben: HELLO, the opening and closing of sessions, lockout, reads, the event log, telemetry, raw frames
and keys (R460, R473 to R494). -/

namespace Sys2Proof.Machine

/-! ### Requests outside a session (R468, R479) -/

/-- The answer to HELLO, OPEN and PROOF (R468): a MAC of all 0. -/
def State.plainAnswer (s : State) (r : Req) (unit : Bool) (opcode status : Nat) (body : Bytes) : State :=
  let (m, t) := s.formMsg r unit none opcode status body
  t.deliver r { m with mac := some (zeroMac r.shortMac) }

/-- A request outside a session arrives (R467 to R469): a length that disagrees and a MAC that is not all 0 discard it;
a payload short of its fixed part or a non-zero reserved byte is refused with 0x02. While the control processor restarts nothing
is served (R27). -/
def State.plainRequest (s0 : State) (r : Req) (unit : Bool) (opcode : Nat) (payload : Bytes) (fixed : Nat)
    (act : State → State) : State :=
  let s := match r.source with
    | .udp _ _ => s0.frameIn r.sfp
    | _ => s0
  let p := reqArrived r payload
  if !s.coreUp || s.rows.cpRestarting then s0
  else if !s.serves r.source then s
  else if r.length.getD p.length != p.length then s.answerSlot r.source none
  else if !r.mac.all (· == 0) then
    (s.modSy fun y => { y with authFailures := y.authFailures + 1 }).answerSlot r.source none
  else if p.length < fixed || r.reserved != 0 then s.plainAnswer r unit opcode 0x02 []
  else act s

/-- The payload of a HELLO response (R488). -/
def State.helloBytes (s : State) : Bytes :=
  leBytes 2 0x8100 ++ [s.id.variant % 256, b2n s.ty.sideB] ++ leBytes 4 s.id.serial ++ leBytes 2 s.id.nodeId ++
    leBytes 2 s.pairNodeId ++ [0x10, 0x10, s.ty.state.code, s.keySlotsSet]

/-- HELLO (R488): the device identity, as a unit message. -/
def execHello (r : Req) (s : State) : Host.Outcome State Fault Refusal :=
  .next (s.plainRequest r true 0x01 [] 0 fun t => t.plainAnswer r true 0x01 0x00 t.helloBytes)

/-! ### Lockout (R486) -/

/-- The lockout entry that a source uses: its own; without one, the shared entry while all 64 are blocked. -/
def State.lockoutOf (s : State) (src : Source) : Option Lockout :=
  match s.sy.lockouts.find? fun l => l.source = some src with
  | some l => some l
  | none => s.sy.lockouts.find? fun l => l.source = none

/-- A source is blocked (R486). The shared entry blocks the untracked sources. -/
def State.blocked (s : State) (src : Source) : Bool := (s.lockoutOf src).any (·.blocked)

/-- The key of the tracked entries. -/
def Lockout.tracked (l : Lockout) : Bool := l.source.isSome

/-- The unblocked tracked entry whose last failure is oldest. -/
def oldestUnblocked : List Lockout → Option Lockout
  | [] => none
  | l :: t =>
    match oldestUnblocked t with
    | none => if l.tracked && !l.blocked then some l else none
    | some m =>
      if l.tracked && !l.blocked && !stampBefore (m.fails.headD {}) (l.fails.headD {}) then some l else some m

/-- An entry takes a failure (R486): the last five, newest first, and a block when the fifth lies within 60 s of the
first of them. -/
def Lockout.fail (l : Lockout) (now : Stamp) : Lockout :=
  let fs := (now :: l.fails).take 5
  let first := fs.getD 4 {}
  { l with fails := fs
           blocked := l.blocked || (fs.length == 5 && first.epoch == now.epoch && stampNs now ≤ stampNs first + 60000000000) }

/-- The entries with a place for a source (R486): its own, a new one, the one it replaces, or the shared one. -/
def placeFor (src : Source) (ls : List Lockout) : List Lockout × Option Source :=
  if ls.any fun l => l.source = some src then (ls, some src)
  else if (ls.filter Lockout.tracked).length < 64 then (ls ++ [{ source := some src }], some src)
  else match oldestUnblocked ls with
    | some o => (ls.filter (fun l => l.source ≠ o.source) ++ [{ source := some src }], some src)
    | none => (if ls.any fun l => l.source = none then ls else ls ++ [{}], none)

/-- A failed proof is counted, and blocks its source when R486 says so. -/
def State.proofFailed (s : State) (src : Source) : State :=
  let (ls, key) := placeFor src s.sy.lockouts
  let was := (ls.find? fun l => l.source = key).any (·.blocked)
  let ls' := ls.map fun l => if l.source = key then l.fail s.tb.now else l
  let t := s.modSy fun y => { y with lockouts := ls', authFailures := y.authFailures + 1 }
  if !was && (ls'.find? fun l => l.source = key).any (·.blocked) then
    (t.modSy fun y => { y with lockoutsImposed := y.lockoutsImposed + 1 }).raiseEvent 0x0106
  else t

/-- LOCKOUT_EXPIRY (R486): the block of a source, or of the shared entry, ends; the shared entry leaves with it. -/
def execLockoutExpiry (source : Option Source) (s : State) : Host.Outcome State Fault Refusal :=
  .next (s.modSy fun y => { y with lockouts :=
    (y.lockouts.map fun l => if l.source = source then { l with blocked := false } else l).filter fun l =>
      l.tracked || l.blocked })

/-! ### Opening (R473, R475, R479 to R482, R485, R487) -/

/-- Each role's quota of contexts (R474). -/
def roleQuota : Nat → Nat
  | 1 => 120 | 2 => 64 | 3 => 16 | 4 => 32 | 5 => 16 | 6 => 8 | _ => 0

/-- A role has a context free for a ClientNode: the session that R482 would close counts as free (R485). -/
def State.contextFree (s : State) (role client : Nat) : Bool :=
  (s.sy.sessions.filter fun x => x.role == role && x.client != client).length < roleQuota role

/-- A number for a session, 1 to 256, that is free. -/
def State.freeSession (s : State) : Option Nat := ((List.range 256).map (· + 1)).find? fun n => (s.session n).isNone

/-- A member that does not hold the claim passes an OPEN or PROOF on as a command record (R487); its mailbox slot waits. -/
def State.passOn (s : State) (r : Req) (opcode : Nat) (payload : Bytes) : State :=
  let (slot, t) := s.popSlot r
  (t.emit (.passedOn r opcode payload)).modTy fun x => { x with
    passed := x.passed ++ [(r, slot)]
    cmdsDue := x.cmdsDue ++ [{ node := 0xFFFF, seq := r.seq, sub := opcode, value := payload, via := some r }] }

/-- This unit decides sessions: it holds the claim, or is no member of a lockstep pair (R487). -/
def State.decides (s : State) : Bool := s.ty.state != .member || s.os.gate

/-- A pending open joins the table; a full table loses its oldest (R481). -/
def State.addOpen (s : State) (o : PendingOpen) : State :=
  s.modSy fun y => { y with opens := (if 32 ≤ y.opens.length then y.opens.drop 1 else y.opens) ++ [o] }

/-- The OPEN response (R479). -/
def State.openBody (s : State) (role version : Nat) (nm : Bytes) : Bytes :=
  padBytes 16 (s.keySlot role).salt ++ leBytes 4 100000 ++ padBytes 16 nm ++ [version, 0, 0, 0]

/-- A module nonce: 16 free bytes (R479). -/
def State.nonce (s : State) : Bytes × State := (leBytes 16 s.freeNat, s.takeFree)

/-- A long command leaves for the twin (R380, R487). -/
def State.sendLong (s : State) (c : LongCommand) : State :=
  if s.ty.state == .member then s.modTy fun t => { t with longDue := t.longDue ++ [.command c] } else s

/-- The refusal of an OPEN, in the model's order (assumption 9): malformed, version, lockout, role, key, quota. -/
def State.openRefusal (s : State) (r : Req) (role client version : Nat) : Option Nat :=
  if client == 0 || client == 0xFFFF then some 0x02
  else if version / 16 < 1 then some 0x03
  else if s.blocked (sourceKey r.source) then some 0x0E
  else if !(1 ≤ role && role ≤ 6) then some 0x0A
  else if (s.keySlot role).key.isEmpty then some 0x12
  else if !s.contextFree role client then some 0x0D
  else if s.ty.state == .member && !r.longOk then some 0x10
  else none

/-- Where a request of the other unit counts as coming from: its host SPI port is the twin's (R487). -/
def atTwin (own : Bool) (x : Source) : Source := if !own && x = .spi then .twinSpi else x

/-- A request as the unit that decides takes it: `twin` where it came in at the twin. -/
def atHolder (r : Req) (twin : Bool) : Req := { r with source := atTwin (!twin) r.source }

/-- The holder refuses an OPEN or PROOF; the twin refuses with it (R470, R487). -/
def State.decline (s : State) (twin : Bool) (r : Req) (opcode status : Nat) : State :=
  (s.sendLong (.declined twin r opcode status)).plainAnswer (atHolder r twin) false opcode status []

/-- OPEN at the unit that decides (R479, R481); `twin` where the request came in at the twin. -/
def State.openHere (s : State) (twin : Bool) (r : Req) (role options client version : Nat) (nc : Bytes) : State :=
  match s.openRefusal (atHolder r twin) role client version with
  | some status => s.decline twin r 0x02 status
  | none =>
    let (nm, t) := s.nonce
    let v := min version 0x10
    let u := t.addOpen
      { nc, source := sourceKey (atHolder r twin).source, role, client, events := bit options 0, version := v, nm }
    (u.sendLong (.challenge twin r role options client v nc nm)).plainAnswer (atHolder r twin) false 0x02 0x00
      (u.openBody role v nm)

/-- OPEN (R479, R481, R485, R487). -/
def execOpenRequest (r : Req) (role options client version : Nat) (nc : Bytes) (s : State) :
    Host.Outcome State Fault Refusal :=
  let payload := [role % 256, options % 256] ++ leBytes 2 client ++ [version % 256, r.reserved, 0, 0] ++ nc
  .next (s.plainRequest r false 0x02 payload 24 fun t =>
    if t.decides then t.openHere false r role options client version (nc.take 16) else t.passOn r 0x02 payload)

/-- The transcript t of R480. -/
def transcript (o : PendingOpen) : Bytes :=
  ascii "SYBEN1" ++ [o.role] ++ leBytes 2 o.client ++ [o.version] ++ o.nc ++ o.nm

/-- Proof_c (R480). -/
def proofC (k : Bytes) (o : PendingOpen) : Bytes := hmac k (ascii "C" ++ transcript o)

/-- Proof_m (R480). -/
def proofM (k : Bytes) (o : PendingOpen) (num : Nat) : Bytes := hmac k (ascii "M" ++ transcript o ++ leBytes 2 num)

/-- The session that an accepted PROOF opens, with its keys (R480). -/
def sessionOf (k : Bytes) (o : PendingOpen) (num : Nat) (r : Req) (source : Source) (now : Stamp) : Session :=
  let prk := hkdfExtract (o.nc ++ o.nm) k
  let okm := hkdfExpand prk (ascii "Syben session" ++ [o.role] ++ leBytes 2 o.client ++ leBytes 2 num) 64
  { num, role := o.role, source, client := o.client, events := o.events, version := o.version,
    c2m := okm.take 32, m2c := okm.drop 32, prk, prio := r.prio, xl := r.xl, sfp := r.sfp, idleFrom := now }

/-- A session opens (R480, R482): the older one of its ClientNode closes, and the pending open is used up. -/
def State.openSession (s : State) (o : PendingOpen) (num : Nat) (r : Req) (source : Source) : State :=
  let t := match s.sy.sessions.find? (·.client == o.client) with
    | some x => s.closeSession x.num
    | none => s
  t.modSy fun y =>
    { y with sessions := y.sessions ++ [sessionOf (t.keySlot o.role).key o num r source t.tb.now]
             opens := y.opens.filter (· != o) }

/-- The PROOF response (R479). -/
def State.proofBody (s : State) (o : PendingOpen) (num : Nat) : Bytes :=
  leBytes 2 num ++ leBytes 2 (s.cfgGet 0x2180 1) ++ [0, 0, 0, 0] ++ proofM (s.keySlot o.role).key o num

/-- The number an opening session takes: the lowest free once the older session of its ClientNode has closed (R480,
R482). -/
def State.numberFor (s : State) (o : PendingOpen) : Nat :=
  let t := match s.sy.sessions.find? (·.client == o.client) with
    | some x => s.modSy fun y => { y with sessions := y.sessions.filter (·.num != x.num) }
    | none => s
  t.freeSession.getD 256

/-- PROOF at the unit that decides (R480, R481, R485, R486); `twin` where the request came in at the twin. -/
def State.proofHere (s : State) (twin : Bool) (r : Req) (nc proof : Bytes) : State :=
  let q := atHolder r twin
  let src := sourceKey q.source
  if s.blocked src then s.decline twin r 0x03 0x0E
  else match s.sy.opens.find? fun o => o.nc == nc && o.source == src with
    | none => s.decline twin r 0x03 0x05
    | some o =>
      if proof != proofC (s.keySlot o.role).key o then (s.proofFailed src).decline twin r 0x03 0x04
      else if !s.contextFree o.role o.client then s.decline twin r 0x03 0x0D
      else if s.ty.state == .member && !r.longOk then s.plainAnswer q false 0x03 0x10 []
      else
        let num := s.numberFor o
        let t := (s.openSession o num q q.source).sendLong (.acceptance twin r nc num)
        t.plainAnswer q false 0x03 0x00 (s.proofBody o num)

/-- PROOF (R480). -/
def execProof (r : Req) (nc proof : Bytes) (s : State) : Host.Outcome State Fault Refusal :=
  .next (s.plainRequest r false 0x03 (nc ++ proof) 48 fun t =>
    if t.decides then t.proofHere false r (nc.take 16) ((nc ++ proof).drop 16) else t.passOn r 0x03 (nc ++ proof))

/-- PENDING_OPEN_EXPIRY (R481): the oldest pending open has waited 2 s. -/
def execPendingOpenExpiry (s : State) : Host.Outcome State Fault Refusal :=
  .next (s.modSy fun y => { y with opens := y.opens.drop 1 })

/-- The response of the other unit's decision leaves here for a request that came in at this unit (R470, R487). -/
def State.answerPassed (s : State) (own : Bool) (r : Req) (opcode status : Nat) (body : Bytes) : State :=
  match s.ty.passed.find? fun p => p.1 == r with
  | some p =>
    ((s.modTy fun t => { t with passed := t.passed.filter (· != p) }).pushSlot p.2).plainAnswer (inSlot r p.2) false opcode
      status body
  | none => s.plainAnswer (atHolder r (!own)) false opcode status body

/-- An OPEN or PROOF that the twin passes on reaches the holder (R487). One over CAN that both units heard counts once: the
holder has answered it already. -/
def State.takePassed (s : State) (r : Req) (opcode : Nat) (p : Bytes) : State :=
  let has (nc : Bytes) : Bool := s.sy.opens.any fun o => o.nc == nc && o.source == sourceKey (atHolder r true).source
  let onBus : Bool := match r.source with
    | .can _ _ => true
    | _ => false
  if opcode == 0x02 then
    if onBus && has ((p.drop 8).take 16) then s
    else s.openHere true r (p.getD 0 0) (p.getD 1 0) (leNat ((p.drop 2).take 2)) (p.getD 4 0) ((p.drop 8).take 16)
  else if onBus && !has (p.take 16) then s
  else s.proofHere true r (p.take 16) (p.drop 16)

/-- The holder's refusal reaches the twin (R486, R487): lockout counts stay equal, and both units answer. -/
def State.takeDeclined (s : State) (own : Bool) (r : Req) (opcode status : Nat) : State :=
  let t := if status == 0x04 then s.proofFailed (sourceKey (atTwin own r.source)) else s
  t.answerPassed own r opcode status []

/-- The holder's challenge reaches the twin (R487): the pending open is pair state, and both units answer. -/
def State.takeChallenge (s : State) (own : Bool) (r : Req) (role options client version : Nat) (nc nm : Bytes) : State :=
  let t := s.addOpen { nc, source := atTwin own (sourceKey r.source), role, client, events := bit options 0, version, nm }
  t.answerPassed own r 0x02 0x00 (t.openBody role version nm)

/-- The holder's acceptance reaches the twin (R487): the session opens here too, and both units answer. -/
def State.takeAcceptance (s : State) (own : Bool) (r : Req) (nc : Bytes) (num : Nat) : State :=
  let src := atTwin own (sourceKey r.source)
  match s.sy.opens.find? fun o => o.nc == nc && o.source == src with
  | none => s
  | some o => (s.openSession o num r (atTwin own r.source)).answerPassed own r 0x03 0x00 (s.proofBody o num)

/-! ### Closing (R484, R488) -/

/-- CLOSE (R484, R488): the response leaves, then the session is gone. -/
def execCloseRequest (r : Req) (s : State) : Host.Outcome State Fault Refusal :=
  match s.enter r false 0x04 [] 0 anyRole with
  | .isOver t => .next t
  | .on s1 x (some status) => .next (s1.finish r false x 0x04 status [])
  | .on s1 x none => .next ((s1.finish r false x 0x04 0x00 []).closeSession x.num)

/-- KEEPALIVE (R488): the idle timer starts again, as with every valid request. -/
def execKeepalive (r : Req) (s : State) : Host.Outcome State Fault Refusal :=
  .next (s.request r false 0x05 [] 0 anyRole fun t _ => (t, 0x00, leBytes 2 (t.cfgGet 0x2180 1)))

/-- SESSION_IDLE_TIMEOUT (R484): no valid request for SessionIdleTimeout. -/
def execSessionIdleTimeout (session : Nat) (s : State) : Host.Outcome State Fault Refusal :=
  .next (s.closeSession session)

/-! ### Reads (R488, R504 to R506, R523) -/

/-- A read of ComparatorState clears its held bit (R154). -/
def State.readEffect (s : State) (index sub : Nat) : State :=
  if index == 0x2401 && sub == 1 then s.modCa fun c => { c with fa := { c.fa with cmp := c.fa.cmp % 4 } }
  else if index == 0x2401 && sub == 2 then s.modCa fun c => { c with fb := { c.fb with cmp := c.fb.cmp % 4 } }
  else s

/-- READ (R488, R506): the object's length, then its bytes from an offset; 0 asks for as many as fit. -/
def State.readPart (s : State) (index sub offset length : Nat) : Answer :=
  match s.readObj index sub with
  | none => no s 0x08
  | some b =>
    if 2012 < length then no s 0x11
    else if b.length < offset || b.length < offset + length then no s 0x0A
    else
      let n := if length == 0 then min 2012 (b.length - offset) else length
      (s.readEffect index sub, 0x00, leBytes 4 b.length ++ (b.drop offset).take n)

/-- READ (R506): taken at the next row latch. -/
def execRead (r : Req) (index sub offset length : Nat) (s : State) : Host.Outcome State Fault Refusal :=
  .next (s.latchReq r 0x10 (leBytes 2 index ++ [sub, r.reserved] ++ leBytes 4 offset ++ leBytes 2 length) 10
    (.read r index sub offset length) fun t => t.readPart index sub offset length)

/-- One item of READ_LIST (R488): status, length, value. -/
def State.listItem (s : State) (item : Nat × Nat) : Bytes :=
  match s.readObj item.1 item.2 with
  | none => [0x08, 0]
  | some b => if 255 < b.length then [0x11, 0] else [0x00, b.length] ++ b

/-- The items of a READ_LIST (R488): 1 to 64, all of one latch. -/
def State.readItems (t : State) (count : Nat) (items : List (Nat × Nat)) : Answer :=
  if count == 0 || 64 < count then no t 0x0A
  else
    let asked := items.take count
    let body := asked.flatMap t.listItem
    if 2016 < body.length then no t 0x11
    else (asked.foldl (fun u i => u.readEffect i.1 i.2) t, 0x00, body)

/-- READ_LIST (R488, R506): taken at the next row latch. -/
def execReadList (r : Req) (count : Nat) (items : List (Nat × Nat)) (s : State) : Host.Outcome State Fault Refusal :=
  let payload := [count, r.reserved] ++ items.flatMap fun i => leBytes 2 i.1 ++ [i.2, 0]
  .next (s.latchReq r 0x12 payload (2 + 4 * count) (.readList r count items) fun t => t.readItems count items)

/-- The records that LOG_READ returns (R523): ascending from the first entry asked for that is kept, at most 63. -/
def State.logPart (s : State) (first count : Nat) : List LogRec :=
  let kept := s.lg.records.reverse
  if kept.isEmpty then []
  else
    let ahead := (s.lg.newest.toNat + 2 ^ 32 - first % 2 ^ 32) % 2 ^ 32
    let from' := if ahead < kept.length then kept.length - 1 - ahead
      else if shortDiff s.lg.newest.toNat first < 0 then kept.length else 0
    let n := if count == 0 then 63 else min 63 count
    (kept.drop from').take n

/-- LOG_READ (R523). -/
def execLogRead (r : Req) (first count : Nat) (s : State) : Host.Outcome State Fault Refusal :=
  .next (s.request r true 0x20 (leBytes 4 first ++ leBytes 2 count) 6 anyRole fun t _ =>
    (t, 0x00, (t.logPart first count).flatMap logBytes))

/-! ### Step announcements and telemetry (R231, R406, R493) -/

/-- STEP_ANNOUNCE (R231, R488). A request that R232 refuses, or whose source is disabled, is answered 0x0B
(assumption 16). -/
def execStepAnnounce (r : Req) (ts : Stamp) (s : State) : Host.Outcome State Fault Refusal :=
  .next (s.request r false 0x40 (stampBytes ts) 12 announcer fun t _ =>
    if !bit (t.cfgGet 0x2885 2) 1 then no t 0x0B
    else
      let (u, good) := t.requestStep ts
      if good then ok u else no u 0x0B)

/-- The record a receiver keeps takes a counter (R406), or discards the message. -/
def Receiver.take (v : Receiver) (c : Nat) : Option Receiver :=
  let ahead := (c + 2 ^ 30 - v.high % 2 ^ 30) % 2 ^ 30
  let back := (v.high + 2 ^ 30 - c % 2 ^ 30) % 2 ^ 30
  if 1 ≤ ahead && ahead < 2 ^ 29 then
    some { v with high := c, seen := if 64 ≤ ahead then 1 else (v.seen * 2 ^ ahead + 1) % 2 ^ 64 }
  else if back < 64 && !bit v.seen back then some { v with seen := setBit v.seen back true }
  else none

/-- A pair message from a node is accepted once (R406). -/
def State.acceptPair (s : State) (node pairSeq : Nat) : Option State :=
  let o := pairSeq / 2 ^ 30 % 4
  let c := pairSeq % 2 ^ 30
  match s.ty.receivers.find? fun v => v.node == node && v.origin == o with
  | none => some (s.modTy fun t => { t with receivers := t.receivers ++ [{ node, origin := o, high := c, seen := 1 }] })
  | some v => (v.take c).map fun w =>
    s.modTy fun t => { t with receivers := t.receivers.map fun x => if x == v then w else x }

/-- The insulation token message of a kind 1 payload (R174): its type and fields. -/
def tokenOf (p : Bytes) : Nat × TokenMsg :=
  let w (o n : Nat) : Nat := leNat ((p.drop (4 + o)).take n)
  (w 0 1, { bus := w 2 2, sender := w 4 2, target := w 6 2, seq := w 8 4, riso := w 12 4, rp := w 16 4, rn := w 20 4,
            ce := w 24 4, stamp := stampOf ((p.drop 32).take 12) })

/-- A valid telemetry message acts by its kind (R493, R494): 1 a token message, 3 a step announcement. A token message
from another sender that carries this module's node ID is an address conflict (R519). -/
def State.telemetryAct (s : State) (port : Nat) (p : Bytes) : State :=
  match p.headD 0 with
  | 1 =>
    let (kind, m) := tokenOf p
    if m.sender == s.id.nodeId then
      (s.modEn fun e => { e with conflicts := e.conflicts + 1 }).raiseEvent 0x1104 port
    else s.tokenReceived kind m
  | 3 => if bit (s.cfgGet 0x2885 2) 1 then (s.requestStep (stampOf ((p.drop 4).take 12))).1 else s
  | _ => s

/-- TELEMETRY (R493, R494): only from this module's group, with a valid MAC; a pair message's second copy goes. -/
def execTelemetry (m : TelemetryMsg) (s : State) : Host.Outcome State Fault Refusal :=
  let t := s.frameIn m.port
  .next (if !s.coreUp then s
    else if s.cfgGet 0x3180 1 == 0 || m.group != s.cfgGet 0x2182 1 || !bit m.flags 4 ||
      m.mac != t.telemetryMac (headerBytes 0x10 m.flags 0x30 0 m.payload.length 0 0 m.pairSeq ++ m.payload) then t
    else if bit m.flags 1 then t.telemetryAct m.port m.payload
    else match t.acceptPair (leNat ((m.payload.drop 2).take 2)) m.pairSeq with
      | none => t
      | some u => u.telemetryAct m.port m.payload)

/-- The object set (R494): the items of TelemetryList in subindex order. -/
def State.telemetryItems (s : State) : List (Nat × Nat) :=
  ((List.range 32).map fun k => s.cfgGet 0x2183 (k + 1)).filterMap fun w =>
    if w == 0 then none else some (w % 65536, w / 65536 % 256)

/-- The payload of the object set (R493). An item that does not exist has length 0. -/
def State.telemetryBody (s : State) : Bytes :=
  let items := s.telemetryItems
  [2, 0] ++ leBytes 2 s.id.nodeId ++ leBytes 2 items.length ++ items.flatMap fun (i, j) =>
    let b := (s.readObj i j).getD []
    leBytes 2 i ++ [j, b.length] ++ b

/-- The claim holder, or a SOLO or ALONE unit, sends the object set in its pattern (R494). -/
def State.telemetryPattern (s : State) : State :=
  let period := max 1 (s.cfgGet 0x2182 2)
  if (s.os.gate || s.ty.state == .solo || s.ty.state == .alone) && s.patNo % period == s.pairNodeId % period then
    s.sendTelemetry s.telemetryBody
  else s

/-! ### Raw frames (R490) -/

/-- Where a PTP message starts in an Ethernet frame, by its EtherType or as UDP to the event port, with or without a
tag. -/
def ptpStart (f : Bytes) : Option Nat :=
  let at' (i : Nat) : Nat := f.getD i 0 * 256 + f.getD (i + 1) 0
  let o := if at' 12 == 0x8100 then 16 else 12
  if at' o == 0x88F7 then some (o + 2)
  else if at' o == 0x0800 && f.getD (o + 11) 0 == 17 && at' (o + 2 + 22) == 319 then some (o + 2 + 28)
  else none

/-- A PTP event frame that leaves by RAW_SEND puts its egress stamp into the port's queue (R428, R490). -/
def State.rawStamp (s : State) (port bin : Nat) (f : Bytes) : State :=
  match ptpStart f with
  | none => s
  | some o =>
    let kind := f.getD o 0 % 16
    if kind < 4 then s.stampTx port kind (f.getD (o + 30) 0 * 256 + f.getD (o + 31) 0) (s.egress port bin) else s

/-- RAW_SEND (R490): only under ServoOwner 2, and only from the session over the host SPI port that sent the first
one. -/
def execRawSend (r : Req) (port : Nat) (frame : Bytes) (bin : Nat) (s : State) : Host.Outcome State Fault Refusal :=
  .next (s.request r false 0x50 ([port % 256, r.reserved, 0, 0] ++ frame) 18 operator fun t x =>
    if 1518 < frame.length then no t 0x02
    else if !(port == 1 || port == 2) then no t 0x0A
    else if x.source ≠ .spi || t.cfgGet 0x3084 0 != 2 || (t.sy.rawSession != 0 && t.sy.rawSession != x.num) then no t 0x0B
    else
      let u := (t.modSy fun y => { y with rawSession := x.num }).emit (.rawFrame port frame)
      ok ((u.frameOut port).rawStamp port bin frame))

/-! ### Keys (R475 to R478) -/

/-- The content of record 0x0002 (R475): each slot's key length, salt and key, encrypted under the unit's own key. -/
def State.record2 (s : State) : List Int :=
  (sealBytes (Config.unitKey s.id.serial) ((List.range 7).flatMap fun i =>
    let k := s.keySlot (i + 1)
    (k.key.length :: padBytes 16 k.salt) ++ padBytes 32 k.key)).map Int.ofNat

/-- What record 0x0002 holds, deciphered (R475). -/
def State.openRecord2 (s : State) (l : List Int) : List Int :=
  (sealBytes (Config.unitKey s.id.serial) (l.map Int.toNat)).map Int.ofNat

/-- A slot takes a salt and a key, in FRAM record 0x0002 (R475, R546). -/
def State.putKey (s : State) (slot : Nat) (salt key : Bytes) : State :=
  let t := s.modSy fun y => { y with keys := tabPut {} slot { salt := padBytes 16 salt, key } y.keys }
  t.journal 0x0002 t.record2

/-- XOR of two byte strings. -/
def xorBytes : Bytes → Bytes → Bytes
  | a :: x, b :: y => (a ^^^ b) :: xorBytes x y
  | _, _ => []

/-- The key that a KEY_SET carries (R477). -/
def unwrapKey (prk : Bytes) (seq : Nat) (wrapped : Bytes) : Bytes :=
  xorBytes (wrapped.take 32) (hkdfExpand prk (ascii "Syben key set" ++ leBytes 4 seq) 32)

/-- KEY_SET (R477, R478): the slot takes the key, here and at the twin; slot 6 ends the session after its response. -/
def execKeySet (r : Req) (slot : Nat) (salt wrapped : Bytes) (s : State) : Host.Outcome State Fault Refusal :=
  match s.enter r false 0x70 ([slot % 256, r.reserved, 0, 0] ++ salt ++ wrapped) 52 commissioning with
  | .isOver t => .next t
  | .on s1 x (some status) => .next (s1.finish r false x 0x70 status [])
  | .on s1 x none =>
    if !(1 ≤ slot && slot ≤ 7) then .next (s1.finish r false x 0x70 0x0A [])
    else if s1.notAgreed r 153 then .next (s1.finish r false x 0x70 0x10 [])
    else
      let p := salt ++ wrapped
      let key := unwrapKey x.prk r.seq (p.drop 16)
      let t := (s1.putKey slot (p.take 16) key).sendLong (.keySet x.client r.seq slot (p.take 16) key)
      let u := t.finish r false x 0x70 0x00 []
      .next (if slot == 6 then u.closeSession x.num else u)

/-- A key store arrives from the twin and is adopted (R478). -/
def State.adoptKeys (s : State) (slots : List (Bytes × Bytes)) : State :=
  let t := (List.range 7).foldl (fun u i =>
    let (salt, key) := slots.getD i ([], [])
    u.modSy fun y => { y with keys := tabPut {} (i + 1) { salt := padBytes 16 salt, key } y.keys }) s
  let k := t.keySlot 1
  (t.putKey 1 k.salt k.key).raiseEvent 0x0107

end Sys2Proof.Machine
end

