-- ==== Sys2Proof/Machine/Nonvolatile.lean ====
section
/-! DEFINITION. Nonvolatile: the contents of the journal records, their two copies, and what a cast-on restores from
them (R413, R509, R543 to R548). -/

namespace Sys2Proof.Machine

/-! ### Record contents (R546) -/

/-- The record that holds an object's stored value (R546). -/
def settingsId (index : Nat) : Nat :=
  if index == 0x1010 || index == 0x3180 then 0x0001
  else if index == 0x1A02 then 0x0201
  else if index == 0x2980 || index == 0x2981 || index == 0x2987 || index == 0x2988 then 0x0300
  else if 0x2982 ≤ index && index ≤ 0x2984 then 0x0301
  else if index == 0x2985 || index == 0x2986 then 0x0302
  else 0x0200 + (index / 256 - 0x20)

/-- An object whose values are stored: STAGED or STOP (R509). -/
def storedObj (index sub : Nat) : Bool :=
  match findObj index sub with
  | none => (modelLength index).isSome
  | some o => o.access = .staged || o.access = .stop

/-- The values of a settings record as they would be restored: those in force, with the STOP values that wait (R509). -/
def State.settingsBody (s : State) (id : Nat) : List Int :=
  let mine (k : Nat) : Bool := settingsId (k / 256) == id && storedObj (k / 256) (k % 256)
  let words := (s.stopWait.filter fun p => mine p.1).foldl
    (fun t p => tabPut (objReset s.id.variant (p.1 / 256) (p.1 % 256)) p.1 p.2 t) (s.cfg.filter fun p => mine p.1)
  let cells := (s.bytesWait.filter fun p => settingsId (p.1 / 65536) == id).foldl
    (fun m p => memWrite m p.1 (BitVec.ofNat 8 (p.2 - 1))) (s.bytes.filter fun p => settingsId (p.1 / 65536) == id)
  (if id == 0x0001 then [(s.ty.pairNode : Int)] else []) ++
    (words.flatMap fun p => [(p.1 : Int), (p.2 : Int)]) ++ cells.flatMap fun p => [(p.1 : Int), (p.2.toNat : Int)]

/-- The content of record 0x0003 (R531, R532). -/
def State.record3 (s : State) : List Int := [(s.ld.antiRollback : Int), (s.ld.fuses : Int)]

/-- The content of record 0x0004: the lifetime counters (R546). -/
def State.record4 (s : State) : List Int :=
  [s.id.hours.toNat, s.id.castOns.toNat, s.pm.sagTotal.toNat, s.de.underLoad.toNat, s.de.breakerTrips.toNat,
   s.si.tripPulses.toNat, s.tb.stepCount.toNat].map Int.ofNat

/-- The format a record is written in (R546). -/
def State.recordFormat (s : State) (id : Nat) : Nat :=
  if id == 0x0100 then s.id.safetyFormat
  else if settingsRecord id then s.id.settingsFormat
  else if 0x0400 ≤ id then s.id.learnedFormat
  else 1

/-- The learned-state records (R270). -/
def learnedIds : List Nat :=
  (List.range 8).map (0x0400 + ·) ++ (List.range 16).map (0x0410 + ·) ++ (List.range 8).map (0x0420 + ·) ++ [0x0430]

/-- The settings records (R546). -/
def settingsIds : List Nat := (List.range 20).map (0x0201 + ·) ++ [0x0300, 0x0301, 0x0302]

/-- Every record of R546. -/
def recordIds : List Nat := (List.range 9).map (1 + ·) ++ [0x0100] ++ settingsIds ++ learnedIds

/-! ### Copies (R543 to R545) -/

/-- Slot B holds the newest valid copy; equal sequences count slot A as newest (R544). -/
def Record.newestB (r : Record) : Bool := r.b.valid && (!r.a.valid || newerSeq r.b.seq r.a.seq)

/-- The newest valid copy (R544). -/
def Record.newest (r : Record) : Option Copy :=
  if r.newestB then some r.b else if r.a.valid then some r.a else none

/-- A copy is written (R545): to the slot that does not hold the newest valid copy, with the next sequence. `good` says
that it reads back as written. -/
def Record.write (r : Record) (format : Nat) (payload : List Int) (good : Bool) : Record :=
  let c : Copy := { valid := good, seq := (r.newest.map fun n => n.seq + 1).getD 1, format, payload }
  if r.newestB || r.newest.isNone then { r with a := c } else { r with b := c }

/-- A journal record's copy is written, and counted (R545, R550). -/
def State.writeCopy (s : State) (id : Nat) (payload : List Int) (good : Bool) : State :=
  (s.modNv fun n =>
    { n with records := tabPut {} id ((tabGet {} id n.records).write (s.recordFormat id) payload good) n.records }).modLd
      fun l => { l with writes := l.writes + 1 }

/-- Held journal writes are made (R537) where a write may begin (R101); else they stay held. -/
def State.flushJournal (s : State) : State :=
  if !s.nvOpen then s else
  let t := (s.nv.held.filter fun h => !h.isLog).foldl (fun t h => t.writeCopy h.id h.payload true) s
  t.modNv fun n => { n with held := n.held.filter (·.isLog), retrying := false }

/-- The last content handed over for a record: held, or stored. -/
def State.latest (s : State) (id : Nat) : List Int :=
  match (s.nv.held.filter fun h => !h.isLog && h.id == id).getLast? with
  | some h => h.payload
  | none => (s.recall id).getD []

/-- LIFETIME_COUNTER_WRITE (R546): record 0x0004, where a counter has changed since it was last written. Its delivered
content is all 0 (R558). -/
def execLifetimeCounterWrite (s : State) : Host.Outcome State Fault Refusal :=
  let old := s.latest 0x0004
  .next (if s.coreUp && s.record4 != (if old.isEmpty then [0, 0, 0, 0, 0, 0, 0] else old) then
    s.journal 0x0004 s.record4 else s)

/-- FREQUENCY_RECORD_WRITE (R546): record 0x0005 with yf, every 10 min. -/
def execFrequencyRecordWrite (s : State) : Host.Outcome State Fault Refusal :=
  .next (if s.coreUp then s.journal 0x0005 s.record5 else s)

/-! ### Event log (R520) -/

/-- A record reaches the log: numbered, newest first, the oldest beyond 32,768 gone (R520). -/
def State.logAppend (s : State) (r : LogRec) : State :=
  s.modLg fun l => { l with newest := l.newest + 1
                            records := ({ r with number := (l.newest + 1).toNat } :: l.records).take 32768 }

/-- A record is programmed; the first after a loss is preceded by a record of kind 9 (R520). -/
def State.logWrite (s : State) (r : LogRec) : State :=
  let t := if s.lg.lostDue then
      (s.logAppend { stamp := s.tb.now, kind := 9, reaction := s.fm.reaction.code, flags := b2n s.ty.sideB, row := s.rowIn,
                     detail := s.lg.lostSince }).modLg fun l => { l with lostDue := false, lostSince := 0 }
    else s
  t.logAppend r

/-- The writes that have begun complete whatever happens to the supply (R101); the others are gone with the RAM. -/
def State.landBegun (s : State) : State :=
  (s.nv.held.filter (·.begun)).foldl
    (fun t h => if h.isLog then t.logWrite h.log else t.writeCopy h.id h.payload true) s

/-! ### What a cast-on restores (R413, R509, R547, R548) -/

/-- A stamp of a record's content from its place on. -/
def stampAtPlace (l : List Int) (k : Nat) : Stamp :=
  { epoch := (l.getD k 0).toNat, sec := (l.getD (k + 1) 0).toNat, ns := (l.getD (k + 2) 0).toNat }

/-- The later of two stamps of one epoch. -/
def laterStamp (a b : Stamp) : Stamp := if stampBefore a b then b else a

/-- The epoch at cast-on (R413, R547), and whether it is the last there is (0x1006). -/
def State.castOnEpoch (s : State) : Nat × Bool :=
  match s.recall 0x0005 with
  | some l => ((l.getD 0 0).toNat, false)
  | none =>
    let charge := match s.recall 0x0007 with
      | some (x :: l) => [(stampAtPlace (x :: l) 3).epoch]
      | _ => []
    match charge ++ s.lg.records.map (·.stamp.epoch) with
    | [] => (0, false)
    | e :: es =>
      let m := es.foldl max e
      if 65535 ≤ m then (65535, true) else (m + 1, false)

/-- Plant time starts (R413): 2 s after the newest stamp kept in the epoch, or at 0 s. -/
def State.restoreTime (s : State) : State :=
  let (epoch, last) := s.castOnEpoch
  let r5 := (s.recall 0x0005).getD []
  let step := stampAtPlace r5 1
  let kept := (match s.recall 0x0007 with
    | some (x :: l) => [stampAtPlace (x :: l) 3]
    | _ => []) ++ (if step = {} then [] else [step]) ++ s.lg.records.map (·.stamp)
  let now : Stamp := match kept.filter (·.epoch == epoch) with
    | [] => { epoch }
    | t :: ts => { epoch, sec := (ts.foldl laterStamp t).sec + 2 }
  let den := (r5.getD 6 1).toNat
  let yf : Rat := ((r5.getD 5 0 : Int) : Rat) / ((if den == 0 then 1 else den : Nat) : Rat)
  let t := s.modTb fun t => { t with
    running := true, now, frac := 0, lastStep := step, lastSize := r5.getD 4 0, yf, incr := BitVec.ofNat 64 (incrementOf yf)
    state := .free }
  if last then t.raiseEvent 0x1006 else t

/-- The condition of each record's copies (R544, R547). -/
def State.copyFaults (s : State) : State :=
  recordIds.foldl (fun t id =>
    let r := tabGet {} id t.nv.records
    if r.a.valid && r.b.valid then t
    else if r.a.valid || r.b.valid then
      (t.modLd fun l => { l with oneCopy := l.oneCopy + 1 }).raiseEvent 0x1401 id
    else if id == 0x0002 then t.raiseEvent 0x0108
    else t.raiseEvent 0x1402 id) s

/-- Pairs of a flat list. -/
def pairsOf : List Int → List (Nat × Nat)
  | a :: b :: t => (a.toNat, b.toNat) :: pairsOf t
  | _ => []

/-- A stored value acts: an object's word, or a byte of the model tables. -/
def State.putStored (s : State) (p : Nat × Nat) : State :=
  if p.1 < 2 ^ 24 then s.cfgPut (p.1 / 256) (p.1 % 256) p.2
  else s.modBytes fun m => memWrite m p.1 (BitVec.ofNat 8 p.2)

/-- A settings record is restored (R509); in another format its objects keep their Reset values, it is rewritten, and
the safety set counts as unconfirmed (R548). -/
def State.restoreSettings (s : State) (id : Nat) : State :=
  match (tabGet {} id s.nv.records).newest with
  | none => s
  | some c =>
    if c.format != s.id.settingsFormat then
      ((s.journal id []).raiseEvent 0x1403 id).modSi fun i => { i with setConfirmed := false, formatLost := true }
    else (pairsOf c.payload).foldl State.putStored s

/-- Node IDs, addresses and PairNodeId (R374, R515, R547). -/
def State.restoreIds (s : State) : State :=
  match (s.recall 0x0001).getD [] with
  | [] => s.modTy fun t => { t with pairNode := 0 }
  | p :: l =>
    let t := (pairsOf l).foldl State.putStored s
    t.modTy fun y => { y with pairNode := p.toNat }

/-- The node ID in force from this cast-on (R515). -/
def State.nodeFromCfg (s : State) : State :=
  s.modId fun i => { i with nodeId := s.cfgGet 0x1010 (if s.ty.sideB then 2 else 1) }

/-- One slot of record 0x0002. -/
def keyAt (l : List Int) (i : Nat) : KeySlot :=
  let p := (l.drop (49 * i)).take 49
  { salt := ((p.drop 1).take 16).map Int.toNat, key := ((p.drop 17).take (p.headD 0).toNat).map Int.toNat }

/-- The key store (R475, R478): without a valid copy every slot is empty but slot 6. -/
def State.restoreKeys (s : State) : State :=
  let l := s.openRecord2 ((s.recall 0x0002).getD [])
  s.modSy fun y => { y with keys := if l.isEmpty then []
    else (List.range 7).foldl (fun t i => tabPut {} (i + 1) (keyAt l i) t) [] }

/-- The counters and marks of records 0x0003, 0x0004, 0x0008 and 0x0009 (R547, R558). -/
def State.restoreCounters (s : State) : State :=
  let w (l : List Int) (k : Nat) : U32 := BitVec.ofNat 32 (l.getD k 0).toNat
  let r4 := (s.recall 0x0004).getD []
  let t := (((s.modId fun i => { i with hours := w r4 0, castOns := w r4 1 }).modDe fun d => { d with underLoad := w r4 3, breakerTrips := w r4 4 }).modSi fun i =>
    { i with tripPulses := w r4 5 }).modTb fun b => { b with stepCount := w r4 6 }
  let t3 := t.modLd fun l => match s.recall 0x0003 with
    | none => { l with antiRollback := l.skeinSecurity }
    | some [] => { l with antiRollback := 0, fuses := 0 }
    | some (a :: r) => { l with antiRollback := a.toNat, fuses := (r.headD 0).toNat }
  let t8 := t3.modPc fun c => { c with energy := match s.recall 0x0008 with
    | none => (s.cfgGet 0x2780 6 : Rat)
    | some (n :: d :: _) => (n : Rat) / (d : Rat)
    | some _ => 0 }
  t8.modSi fun i => match s.recall 0x0009 with
    | none => { i with proofState := 0, proofDue := 0, proofStamp := {} }
    | some (a :: b :: l) => { i with proofState := a.toNat, proofDue := b.toNat, proofStamp := stampAtPlace l 0 }
    | some _ => { i with proofState := 0, proofDue := s.safeGet 0x2D86 5, proofStamp := {} }

/-- The latches of record 0x0006 (R110, R302, R547). `release` says that this cast-on is a power-on with a long off-time
(R104): both thermal cases clear, and LATCH stays. A case still latched raises its fault again. -/
def State.restoreLatches (s : State) (release : Bool) : State :=
  let l := match s.recall 0x0006 with
    | none => [1]
    | some l => l
  let on (k : Nat) : Bool := l.getD k 0 == 1
  let t := (((s.modFm fun m => { m with latchKept := on 0, reaction := if on 0 then .latch else m.reaction
                                        pairOwn := if on 0 then .latch else m.pairOwn }).modTm fun m =>
    { m with cellLatch := on 1 && !release, junctionLatch := on 2 && !release
             shutSensor := if l.length ≤ 3 then 0xFFFF else (l.getD 3 0).toNat, shutStamp := stampAtPlace l 5 }).modPm fun p =>
    { p with holdFlag := false })
  let u := if (on 1 || on 2) && release || on 4 then t.journal6 else t
  let v := if u.tm.cellLatch then u.raiseCond 0x0B07 u.tm.shutSensor else u
  if v.tm.junctionLatch then v.raiseCond 0x0B08 0xFFFE else v

/-- The charge totals (R166, R547). -/
def State.restoreCharge (s : State) : State :=
  let l := (s.recall 0x0007).getD []
  s.modSs fun x => { x with charge := l.getD 0 0, chargeIn := l.getD 1 0, chargeOut := l.getD 2 0,
                            chargeStamp := stampAtPlace l 3 }

/-- The safety set (R358, R359, R547, R548): stored and confirmed, or the defaults, unconfirmed. -/
def State.restoreSafetySet (s : State) : State :=
  let r := tabGet {} 0x0100 s.nv.records
  let good : Option (List Int) := match r.newest with
    | some c => if c.format == s.id.safetyFormat && c.payload.headD 0 == 1 then some c.payload else none
    | none => none
  let t := s.modSi fun i => match good with
    | none => { i with active := [], shadow := [], setConfirmed := false, everConfirmed := false, checkConfirmed := 0,
                       confirmStamp := {} }
    | some l =>
      let set : Tab Nat := pairsOf (l.drop 5)
      { i with active := set, shadow := set, setConfirmed := !i.formatLost, everConfirmed := !i.formatLost,
               checkConfirmed := (l.getD 1 0).toNat, confirmStamp := stampAtPlace l 2 }
  t.modSi fun i => { i with checkComputed := t.checkOfShadow }

/-- The pair sequence's counter (R405): an unpaired unit that casts on goes on 2^24 above its journaled counter. -/
def State.restoreCounter (s : State) : State :=
  let l := (s.recall 0x0400).getD []
  let c := if l.isEmpty then 0 else (l.getLastD 0).toNat
  s.modTy fun t => { t with counter := (c + 2 ^ 24) % 2 ^ 30, origin := 0, journaled := c }

/-- 0x0908 for each learned-state record without a valid copy (R272). -/
def State.recordFaults (s : State) : State :=
  learnedIds.foldl (fun t id => if (t.recall id).isNone then t.raiseEvent 0x0908 id else t) s

/-- Everything that a cast-on restores from the journal, once firmware runs. -/
def State.restoreAll (s : State) (release powerFail : Bool) : State :=
  let t := s.restoreTime.copyFaults.restoreIds
  let u := settingsIds.foldl State.restoreSettings t
  let v := u.nodeFromCfg.restoreKeys.restoreSafetySet
  let w := ((v.restoreCounters.restoreLatches release).restoreCharge).restoreCounter
  w.recordFaults.restoreLearned powerFail

end Sys2Proof.Machine
end

