-- ==== Sys2Proof/Machine/Network.lean ====
section
/-! DEFINITION. Network: ARP, ICMP and IPv4 fragments, and the SFP ports (R81, R461, R518, R519). -/

namespace Sys2Proof.Machine

/-- This module's IPv4 address is the target of a frame; address 0 answers nothing (R461, R500). -/
def State.isUs (s : State) (address : Nat) : Bool := s.coreUp && s.cfgGet 0x3180 1 != 0 && address == s.cfgGet 0x3180 1

/-- Frames discarded at a port (R518). -/
def State.discardAt (s : State) (port n : Nat) : State :=
  s.modSfp port fun p => { p with discarded := p.discarded + BitVec.ofNat 32 n }

/-- ARP_REQUEST (R461, R519): an ARP message with its sender's Ethernet and IPv4 addresses and its target. Another
sender that claims this address is a conflict; a request for this address is answered. -/
def execArpRequest (port mac sender target : Nat) (s : State) : Host.Outcome State Fault Refusal :=
  if !s.coreUp then .next s
  else
    let t := s.frameIn port
    let u := if t.isUs sender && mac != t.id.mac then
        (t.modEn fun e => { e with conflicts := e.conflicts + 1 }).raiseEvent 0x1104 port
      else t
    .next (if u.isUs target then (u.emit (.arpReply port sender)).frameOut port else u)

/-- ICMP_ECHO (R461): an echo request of up to 1,472 data bytes is answered. -/
def execIcmpEcho (port sender target ident seq : Nat) (data : Bytes) (s : State) : Host.Outcome State Fault Refusal :=
  if !s.coreUp then .next s
  else
    let t := s.frameIn port
    .next (if t.isUs target && data.length ≤ 1472 then (t.emit (.echoReply port sender ident seq data)).frameOut port
      else t.discardAt port 1)

/-- How far a datagram is there from its start without a gap. -/
def reachOf (parts : List (Nat × List Nat)) : Nat → Nat → Nat
  | 0, n => n
  | k + 1, n =>
    match parts.find? fun p => p.1 ≤ n && n < p.1 + p.2.length with
    | none => n
    | some p => reachOf parts k (p.1 + p.2.length)

/-- A reassembly is complete (R461): its last fragment is there, and no gap before it. -/
def IpReasm.complete (m : IpReasm) : Bool :=
  match m.total with
  | none => false
  | some n => n ≤ reachOf m.parts m.parts.length 0

/-- The reassembly of a source and identification. -/
def State.ipReasm (s : State) (source ident : Nat) : Option IpReasm :=
  s.en.reasm.find? fun m => m.src == source && m.ident == ident

/-- The reassemblies but one. -/
def dropIp (ms : List IpReasm) (source ident : Nat) : List IpReasm :=
  ms.filter fun m => !(m.src == source && m.ident == ident)

/-- IPV4_FRAGMENT (R461): a fragment with its offset in bytes starts a reassembly, joins one or completes it. At most 8
run at once, and a datagram of more than 2,076 bytes with its header is discarded. The message in a complete datagram
is carried out by its own row (assumption 19). -/
def execIpv4Fragment (port source ident offset : Nat) (more : Bool) (data : Bytes) (s : State) :
    Host.Outcome State Fault Refusal :=
  if !s.coreUp then .next s
  else
    let t := s.frameIn port
    if s.cfgGet 0x3180 1 == 0 then .next (t.discardAt port 1)
    else
      let old := t.ipReasm source ident
      if old.isNone && 8 ≤ t.en.reasm.length then .next (t.discardAt port 1)
      else
        let m : IpReasm := old.getD { port, src := source, ident }
        let m' := { m with parts := m.parts ++ [(offset, data)]
                           total := if more then m.total else some (offset + data.length) }
        let rest := dropIp t.en.reasm source ident
        if 2056 < offset + data.length then
          .next ((t.discardAt port m'.parts.length).modEn fun e => { e with reasm := rest })
        else .next (t.modEn fun e => { e with reasm := if m'.complete then rest else rest ++ [m'] })

/-- IP_REASSEMBLY_TIMEOUT (R461): not complete within 500 ms. -/
def execIpReassemblyTimeout (source ident : Nat) (s : State) : Host.Outcome State Fault Refusal :=
  .next (match s.ipReasm source ident with
    | none => s
    | some m => (s.discardAt m.port m.parts.length).modEn fun e => { e with reasm := dropIp e.reasm source ident })

/-! ### SFP ports (R81, R518, R519) -/

/-- An SFP port. -/
def State.sfp (s : State) (port : Nat) : Sfp := if port == 1 then s.en.p1 else s.en.p2

/-- The rate that an SFP's compliance enables in Mbit/s (R81): byte 6 bit 0 or 1 is 1000BASE-SX or LX, bit 5 100BASE-FX
(SFF-8472, PRESUMED, assumption 25); 0 for any other SFP. -/
def sfpRate (compliance : Nat) : Nat :=
  if bit compliance 0 || bit compliance 1 then 1000 else if bit compliance 5 then 100 else 0

/-- The SFP faults that hold while a port is in their state (R81): 0x1101 held, 0x1102 supply off. -/
def State.sfpFaults (s : State) : State :=
  let at' (n : Nat) : List Nat := [1, 2].filter fun p => (s.sfp p).link == n
  (s.cond 0x1101 (!(at' 1).isEmpty) ((at' 1).headD 0)).cond 0x1102 (!(at' 2).isEmpty) ((at' 2).headD 0)

/-- The identity of an inserted SFP is read and the port enabled or held (R81); a cage without supply reads nothing. -/
def State.identifySfp (s : State) (port : Nat) : State :=
  (s.modSfp port fun p =>
    if !p.inserted || !p.cageOn then p
    else if sfpRate p.fitted == 0 then { p with compliance := p.fitted, link := 1, txDisable := true, upSince := none }
    else { p with compliance := p.fitted, link := 3, txDisable := false, upSince := none }).sfpFaults

/-- A port goes down (R519): 0x1103 when it had been up for 1 s. -/
def State.portDown (s : State) (port link : Nat) : State :=
  let p := s.sfp port
  let t := (s.modSfp port fun p => { p with link, upSince := none }).sfpFaults
  match p.upSince with
  | none => t
  | some u =>
    if 4 ≤ p.link && (u.epoch != s.tb.now.epoch || stampNs u + 1000000000 ≤ s.ns) then t.raiseEvent 0x1103 port else t

/-- SFP_INSERTION (R81): the compliance bytes 6 and 3 are read and the SFP enabled or held with TX_DISABLE. -/
def execSfpInsertion (port byte6 byte3 : Nat) (s : State) : Host.Outcome State Fault Refusal :=
  .next ((s.modSfp port fun p =>
    { p with inserted := true, fitted := byte6 % 256 + 256 * (byte3 % 256) }).identifySfp port)

/-- SFP_REMOVAL (R518): the port is down and without an SFP. -/
def execSfpRemoval (port : Nat) (s : State) : Host.Outcome State Fault Refusal :=
  .next ((s.portDown port (if (s.sfp port).link == 2 then 2 else 0)).modSfp port fun p =>
    { p with inserted := false, fitted := 0, compliance := 0 })

/-- SFP_OVERCURRENT (R81): the cage's supply is switched off. -/
def execSfpOvercurrent (port : Nat) (s : State) : Host.Outcome State Fault Refusal :=
  .next ((s.modSfp port fun p => { p with cageOn := false }).portDown port 2)

/-- SFP_LINK_UP (R518): at the rate that the SFP enables. -/
def execSfpLinkUp (port : Nat) (s : State) : Host.Outcome State Fault Refusal :=
  .next (if (s.sfp port).link == 3 then s.modSfp port fun p =>
      { p with link := if sfpRate p.compliance == 1000 then 5 else 4, upSince := some s.tb.now }
    else s)

/-- The cages lose their supply with AUX_24V (R64): a port that was up goes down. -/
def State.cagesOff (s : State) : State :=
  let off (p : Sfp) : Sfp := { p with cageOn := false, cageBack := p.cageOn, link := if p.link == 2 then 2 else 0, upSince := none }
  let t := [1, 2].foldl (fun u k => if 4 ≤ (u.sfp k).link then u.portDown k 3 else u) s
  (t.modEn fun e => { e with p1 := off e.p1, p2 := off e.p2 }).sfpFaults

/-- The cages that lost their supply take it again, and their SFPs are identified (R81); not on the hold-up store, and not in a
sag pause (R64, R96). -/
def State.cagesBack (s : State) : State :=
  if s.pm.onStore || s.pm.sagPaused then s
  else [1, 2].foldl (fun t k =>
    if (t.sfp k).cageBack then (t.modSfp k fun p => { p with cageOn := true, cageBack := false }).identifySfp k else t) s

/-- LINK_DOWN (R519). -/
def execLinkDown (port : Nat) (s : State) : Host.Outcome State Fault Refusal :=
  .next (if 4 ≤ (s.sfp port).link then s.portDown port 3 else s)

end Sys2Proof.Machine
end

