-- ==== Sys2Proof/Machine/Power.lean ====
section
/-! DEFINITION. Power: cast-on, pull-ins, sag pauses, hold-up, resets, bind-off and transport hold (R62, R86 to R119),
and the journal writes (R545). -/

namespace Sys2Proof.Machine

/-! ### What a reset leaves (R109, R110) -/

/-- BYE to the twin (R368). -/
def State.sayBye (s : State) (reason : Nat) : State := if s.ty.paired then s.toTwin (.bye reason) else s

/-- A cast-on that ends a bind-off before step 7 is marked (R115). -/
def State.bindInterrupted (s : State) : Bool := s.pm.prevBindOff || s.pm.bindStep != 0

/-- SagPausesTotal after the RAM is cleared (R98): the power manager counts on; after a loss of its own supply the count
is FRAM's. -/
def State.sagKept (s : State) (state : PowerState) : U32 :=
  if state == .off || state == .hold then BitVec.ofNat 32 (((s.recall 0x0004).getD []).getD 2 0).toNat else s.pm.sagTotal

/-- The RAM is cleared (R109): what stays is in FRAM, in flash, in the power manager or outside the module. Writes that
have begun complete (R101). The level of RESET_N that is recognised and whether it is ignored stay with the power manager
through OFF too, which R105 and R108 leave open (DESIGN CHOICE, assumption 135). -/
def State.clearRam (s : State) (state : PowerState) : State :=
  let t := s.landBegun
  let b := State.reset
  let cage (p : Sfp) : Sfp := { inserted := p.inserted, fitted := p.fitted }
  { b with
    nv := { records := t.nv.records }
    lg := { records := t.lg.records, newest := t.lg.newest }
    id := t.id, out := t.out, pending := t.pending, freeCount := t.freeCount
    en := { p1 := cage t.en.p1, p2 := cage t.en.p2 }
    ty := { sideB := t.ty.sideB }
    si := { xtripIn := t.si.xtripIn }
    ld := {
      installStamp := t.ld.installStamp, installs := t.ld.installs, recoveryReason := t.ld.recoveryReason
      fuses := t.ld.fuses, antiRollback := t.ld.antiRollback, header := t.ld.header, skeinValid := t.ld.skeinValid
      newSkein := t.ld.newSkein, firstReady := t.ld.firstReady, skeinRevoke := t.ld.skeinRevoke
      skeinSecurity := t.ld.skeinSecurity, imageInvalid := t.ld.imageInvalid, rcvyLow := t.ld.rcvyLow }
    pm := {
      state, auxMv := t.pm.auxMv, auxMa := t.pm.auxMa, vholdMv := t.pm.vholdMv, startSlot := t.pm.startSlot
      sagPaused := t.pm.sagPaused, resumeTimer := t.pm.resumeTimer, sagTotal := t.sagKept state
      onStore := t.pm.onStore, resetLow := t.pm.resetLow
      resetIgnored := t.pm.resetIgnored, resetPin := t.pm.resetPin, resetTimer := t.pm.resetTimer
      resetKind := t.pm.resetKind, offLong := t.pm.offLong, wakeSource := t.pm.wakeSource, wakeWait := t.pm.wakeWait
      holdRelay := t.pm.holdRelay, prevPowerFail := t.pm.prevPowerFail, prevOverVolt := t.pm.prevOverVolt
      prevRefLost := t.pm.prevRefLost, prevBindOff := t.bindInterrupted, disconnected := t.pm.disconnected
      recoveryWanted := t.pm.recoveryWanted } }

/-- The node ID that the coming cast-on takes into force (R88, R515). -/
def State.comingNode (s : State) : Nat := s.restoreIds.nodeFromCfg.id.nodeId

/-- A cast-on step begins; during a sag pause it waits (R89, R96). -/
def State.beginStep (s : State) (k : Nat) : State :=
  if s.pm.sagPaused then s.modPm fun p => { p with stepWait := k }
  else
    let t := s.modPm fun p => { p with step := k, stepWait := 0 }
    if k == 6 then
      let u := if bit s.ld.sections 4 then t.ringStart else t.modPm fun p => { p with step6Done := true }
      if u.cfgGet 0x2F80 1 == 0 then (u.modTy fun y => { y with state := .alone }).modPm fun p => { p with step7Done := true }
      else u.modTy fun y => { y with state := .pairing }
    else t

/-- A reset of a kind (R109): RAM cleared, the off-time classed (R104), and cast-on, after the start slot for the kinds
that wait for it (R88); on the hold-up store in POWER_FAIL. StartSlot takes the slot of the node ID for every kind: R119 does
not say what it reads after a cast-on without a slot wait (DESIGN CHOICE, assumption 136). -/
def State.resetTo (s : State) (kind : Nat) (offLong : Bool) : State :=
  let t := s.clearRam .castOn
  let waits := kind == 1 || kind == 2 || kind == 6
  let target : PowerState := if waits then .slot else .castOn
  let u := t.modPm fun p => { p with
    state := if !waits && p.onStore then .powerFail else target, failFrom := target, onStore := !waits && p.onStore
    resetKind := kind, offLong, startSlot := t.comingNode % 32
    wakeSource := if kind == 6 then p.wakeSource else 0, wakeWait := false
    sagPaused := if waits then false else p.sagPaused, resumeTimer := if waits then false else p.resumeTimer }
  if waits then u else u.beginStep 1

/-! ### Cast-on (R87 to R92) -/

/-- AUX_POWER_RISE (R87, R104): the supply rises through 17.5 V; in transport hold it changes nothing. -/
def execAuxPowerRise (offLong : Bool) (s : State) : Host.Outcome State Fault Refusal :=
  .next (if s.pm.state == .off && s.pm.holdRelay && !s.pm.wakeWait && !s.pm.disconnected then s.resetTo 1 offLong else s)

/-- START_SLOT_EXPIRY (R88). -/
def execStartSlotExpiry (s : State) : Host.Outcome State Fault Refusal :=
  .next (if s.pm.state == .slot then (s.modPm fun p => { p with state := .castOn }).beginStep 1
    else if s.pm.state == .powerFail && s.pm.failFrom == .slot then (s.modPm fun p => { p with failFrom := .castOn }).beginStep 1
    else s)

/-- Step 1 ends (R89, R100): the store is charged and measured. Here the model samples TWIN_SIDE (R52, assumption 137). -/
def State.step1End (s : State) (c : CastOnInp) : State :=
  let t := (s.modPm fun p => { p with capUf := c.capUf, vholdMv := c.vholdMv }).modTy fun y => { y with sideB := c.sideB }
  (if c.capUf < 600 then t.raiseCond 0x0202 else t).beginStep 2

/-- The reason for ROM recovery at step 2 (R533, R541); 0 none. The ROM samples RCVY_N and checks the loader before the
loader checks the skein. -/
def State.recoveryCause (s : State) (c : CastOnInp) : Nat :=
  if c.rcvyLow then 1
  else if !c.loaderOk then 3
  else if s.pm.recoveryWanted then 4
  else if !s.ld.skeinValid || c.skeinReason != 0 || s.ld.skeinSecurity < s.ld.antiRollback ||
    (!s.ld.header.isEmpty && bit s.ld.fuses (s.ld.header.getD 11 0)) || !bit c.sections 0 then 2
  else 0

/-- The ROM enters recovery (R541): no section runs. -/
def State.enterRecovery (s : State) (reason : Nat) (c : CastOnInp) : State :=
  (s.modLd fun l => { l with
    recovery := true, recoveryReason := reason, probed := false, recSeq := none, recCached := [], recBegun := false
    rcvyLow := c.rcvyLow, loaderDamaged := !c.loaderOk, imageInvalid := l.imageInvalid || reason == 2 }).modPm fun p =>
      { p with recoveryWanted := false }

/-- The events of the run before and of this reset (R30, R62, R102, R107, R108, R115, R540): raised at the cast-on. -/
def State.startFaults (s : State) : State :=
  let say (b : Bool) (code : Nat) (t : State) : State := if b then t.raiseEvent code else t
  let t := say s.ld.imageInvalid 0x1409 (say s.pm.prevBindOff 0x0209 (say s.pm.prevRefLost 0x1001
    (say s.pm.prevOverVolt 0x0207 (say s.pm.prevPowerFail 0x0205
      (say (s.pm.resetKind == 4) 0x0211 (say (s.pm.resetKind == 3) 0x0212 s))))))
  (t.modPm fun p => { p with prevPowerFail := false, prevOverVolt := false, prevRefLost := false, prevBindOff := false }).modLd
    fun l => { l with imageInvalid := false }

/-- The first cast-on of a newly installed skein (R535). -/
def State.installed (s : State) : State :=
  if s.ld.newSkein then
    (((s.modLd fun l => { l with newSkein := false, installs := l.installs + 1, installStamp := s.tb.now }).raiseEvent
      0x1406).logKind 8 s.id.firmware)
  else s

/-- A little-endian field of a header. -/
def fieldAt (h : Bytes) (off n : Nat) : Nat := leNat ((h.drop off).take n)

/-- An entry of the section table (R528). -/
def sectionAt (h : Bytes) (i : Nat) : Section :=
  let e := (h.drop (64 + 48 * i)).take 48
  { kind := fieldAt e 0 1, offset := fieldAt e 4 4, length := fieldAt e 8 4, version := fieldAt e 12 4, digest := e.drop 16 }

/-- The six sections in the order of the table. -/
def sectionsOf (h : Bytes) : List Section := (List.range 6).map (sectionAt h)

/-- The CMU image of the skein region (R211, R528, R533): section 6, or that of the skein delivered. -/
def State.skeinImage (s : State) : Bytes :=
  match (sectionsOf s.ld.header).find? (·.kind == 6) with
  | some e => (s.ld.bytes.drop (e.offset - 4096)).take e.length
  | none => Config.deliveredImage

/-- The loaded sections act (R533, R534): a missing one leaves its subsystem stopped, with 0x140A. -/
def State.loadSections (s : State) (mask : Nat) : State :=
  let t := s.modLd fun l => { l with sections := mask % 64, islandStopped := !(bit mask 1 && bit mask 2) }
  let u := ([2, 3, 4, 5, 6].filter fun k => !bit mask (k - 1)).foldl (fun t k => t.raiseCond 0x140A k) t
  let v := if bit mask 5 then u.modCl fun l => { l with imageDigest := s.id.cmuDigest, image := s.skeinImage } else u
  if !bit mask 3 then v.modEf fun e => { e with state := 1 }
  else if v.cfgGet 0x2989 0 == 1 then v.modEf fun e => { e with state := 0 }
  else v.fabricStart

/-- Step 2 ends (R533): recovery, or the firmware runs on what the journal restores. -/
def State.step2End (s : State) (c : CastOnInp) : State :=
  let k := s.recoveryCause c
  if k != 0 then s.enterRecovery k c
  else
    let t := s.restoreAll (s.pm.resetKind == 1 && s.pm.offLong) s.pm.prevPowerFail
    let u := ((t.loadSections c.sections).modId fun i => { i with castOns := i.castOns + 1 }).modPm fun p =>
      { p with castOnStart := t.tb.now, castOnLead := c.ms, afterFail := s.pm.prevPowerFail }
    ((u.logKind 4 s.pm.resetKind).startFaults.installed).beginStep 3

/-- Step 3 ends (R89, R92): the HV_STR relays are closed and the array runs; where a supply is not within tolerance the
modulators stay stopped. -/
def State.step3End (s : State) (c : CastOnInp) : State :=
  let t := s.modPm fun p => { p with hvRelays := true }
  (if c.fault == 0 then t.startModulators else t.raiseCond c.fault).beginStep 4

/-- Step 4 ends (R81, R89): transceivers and cages have supply, and the cages' SFPs are identified. A cage in a module that
the hold-up store feeds waits for AUX_24V (R64, R92). -/
def State.step4End (s : State) (c : CastOnInp) : State :=
  let s0 := if c.fault == 0 then s else s.raiseCond c.fault
  let t := ((s0.takeMode 1 (s.cfgGet 0x3280 1)).takeMode 2 (s.cfgGet 0x3280 2)).buildLists
  let on (p : Sfp) : Sfp := { p with cageOn := !s.pm.onStore, cageBack := s.pm.onStore }
  let u := t.modEn fun e => { e with p1 := on e.p1, p2 := on e.p2 }
  ((u.identifySfp 1).identifySfp 2).ptpStartStop.beginStep 5

/-- READY is entered (R90, R91, R92, R359, R531, R532): the safety set's check decides its confirmation, a self-test that
failed raises its fault, and UVR_HOLD comes on unless a function demands the safe state, with which it stays off. The first
READY of a skein raises AntiRollback and blows fuses. -/
def State.enterReady (s : State) (c : CastOnInp) : State :=
  let s0 := if c.fault == 0 then s else s.raiseCond c.fault
  let t := s0.modSi fun i => { i with setConfirmed := i.setConfirmed && c.setOk && !s.ld.islandStopped, selfTested := true }
  let u := t.cond 0x0D0C (!t.si.setConfirmed)
  let demand := u.ownDemands != 0 || u.demands != 0 || u.ld.islandStopped
  let hold := demand || u.pm.onStore || u.pm.safeUntilConnect
  let v := (u.modOs fun o => { o with uvr := !hold, uvrDrop := hold, uvrStays := demand }).modPm fun p =>
    { p with state := if p.state == .powerFail then p.state else .ready
             failFrom := if p.state == .powerFail then .ready else p.failFrom
             step := 9, readyStamp := u.tb.now
             castOnMs := p.castOnLead + (stampNs u.tb.now - stampNs p.castOnStart) / 1000000 }
  let w := if v.si.proofDue == 0 then v.raiseCond 0x0D0E else v
  if w.ld.firstReady then
    let x := w.modLd fun l => { l with
      firstReady := false, antiRollback := max l.antiRollback l.skeinSecurity
      fuses := [0, 1, 2, 3].foldl (fun f k => if bit l.skeinRevoke k then setBit f k true else f) l.fuses }
    x.journal 0x0003 x.record3
  else w

/-- A cast-on step runs: in CAST_ON, or on the store in a POWER_FAIL that came in CAST_ON, where a step that has begun
runs to its end (R96, R102). -/
def State.castingOn (s : State) : Bool :=
  s.pm.state == .castOn || (s.pm.state == .powerFail && s.pm.failFrom == .castOn)

/-- CAST_ON_STEP_END (R89): the step that runs ends and the next begins. Steps 6 and 7 run together, and step 8 begins
once both have ended. -/
def execCastOnStepEnd (step : Nat) (c : CastOnInp) (s : State) : Host.Outcome State Fault Refusal :=
  .next (
    if !s.castingOn || s.pm.stepWait != 0 || s.ld.recovery then s
    else if step == 6 || step == 7 then
      if s.pm.step != 6 && s.pm.step != 7 then s
      else if s.pm.step6Done && s.pm.step7Done then s.formatFault.beginStep 8
      else if s.pm.step6Done then s.modPm fun p => { p with step := 7 }
      else s
    else if step != s.pm.step then s
    else match step with
      | 1 => s.step1End c
      | 2 => s.step2End c
      | 3 => s.step3End c
      | 4 => s.step4End c
      | 5 => s.beginStep 6
      | 8 => s.enterReady c
      | _ => s)

/-- HOLDUP_CHARGE_TIMEOUT (R92): step 1 ends with 0x0202. -/
def execHoldupChargeTimeout (capUf : Nat) (s : State) : Host.Outcome State Fault Refusal :=
  .next (if s.castingOn && s.pm.step == 1 && s.pm.stepWait == 0 then
    ((s.modPm fun p => { p with capUf }).raiseCond 0x0202).beginStep 2
  else s)

/-- START_PERIOD_END (R98): the start is over. -/
def execStartPeriodEnd (s : State) : Host.Outcome State Fault Refusal :=
  .next (if s.pm.step == 9 then s.modPm fun p => { p with startOpen := false } else s)

/-! ### Sag pauses (R96 to R98) -/

/-- The power manager works: AUX_24V or the store feeds the core. -/
def State.powered (s : State) : Bool := s.pm.state != .off && s.pm.state != .hold

/-- The start runs: from cast-on step 1 (R98). -/
def State.inStart (s : State) : Bool := s.pm.startOpen && s.pm.state != .slot && s.pm.state != .reset

/-- SAG_PAUSE_BEGIN (R96 to R98): in a pause the resume timer stops; the tenth pause of a start raises 0x0203, empties the
queue and refuses closing. -/
def execSagPauseBegin (s : State) : Host.Outcome State Fault Refusal :=
  .next (if !s.powered then s
    else if s.pm.sagPaused then s.modPm fun p => { p with resumeTimer := false }
    else
      let n := if s.inStart then s.pm.sagThisStart + 1 else s.pm.sagThisStart
      let t := (s.modPm fun p => { p with sagPaused := true, resumeTimer := false, sagTotal := p.sagTotal + 1
                                          sagThisStart := min 255 n }).raiseEvent 0x0204
      if s.inStart && n == 10 then
        (t.raiseCond 0x0203).modPm fun p => { p with queue := [], closingRefused := true }
      else t)

/-- AUX_ABOVE_RESUME_THRESHOLD (R97): the 50 ms begin anew. -/
def execAuxAboveResumeThreshold (s : State) : Host.Outcome State Fault Refusal :=
  .next (if s.pm.sagPaused then s.modPm fun p =>
    { p with resumeTimer := true, resumeFrom := if s.tb.running then some s.tb.now else none } else s)

/-- SAG_PAUSE_END (R97): 50 ms above 20.5 V; a cast-on step that waited begins, and the cages take their supply again. -/
def execSagPauseEnd (s : State) : Host.Outcome State Fault Refusal :=
  .next (if s.pm.sagPaused && s.pm.resumeTimer then
    let t := ((s.runPast s.pm.resumeFrom 50000000).modPm fun p => { p with sagPaused := false, resumeTimer := false }).cagesBack
    if t.pm.stepWait != 0 then t.beginStep t.pm.stepWait else t
  else s)

/-- AUX_UNDERVOLTAGE_TIMEOUT (R524): 0x0201, until a row latches AUX_24V at 18.0 V or more. -/
def execAuxUndervoltageTimeout (s : State) : Host.Outcome State Fault Refusal :=
  .next (if s.coreUp then s.raiseCond 0x0201 else s)

/-! ### Pull-ins (R65, R93 to R95) -/

/-- A pull-in cannot begin yet: in a sag pause (R96), while another runs (R93), before READY (R90), on the hold-up store
(R64), after a ride-through until a new connect command (R103; the requests wait, assumption 138), and in lockstep at the
unit without the claim, whose pull-ins are the holder's (R178, R377). -/
def State.pullInHeld (s : State) : Bool :=
  s.pm.sagPaused || s.pm.pullIn != 0 || s.pm.onStore || s.pm.safeUntilConnect || s.pm.state == .castOn || s.pm.state == .slot ||
    (s.ty.state == .member && !s.os.gate)

/-- PULL_IN_START (R33, R93, R96, R334): the next queued pull-in starts at the coming output commit, PullInSpacing after the one
before it; a request that the safety island refuses leaves the queue, with its reason in CloseRefusal, and so does one
while closing is refused (R98, R113). -/
def execPullInStart (s : State) : Host.Outcome State Fault Refusal :=
  .next (match s.pm.queue with
    | [] => s
    | (n, _) :: rest =>
      if s.pullInHeld || !s.coreUp then s
      else
        let t := (s.runPast s.pm.lastPullIn (s.cfgGet 0x2280 4 * 1000000)).modPm fun p => { p with queue := rest }
        let k := t.closeRefusal
        let u := t.modSi fun i => { i with closeRefusal := k }
        if k != 0 || s.pm.closingRefused || s.pm.state == .bindOff then u
        else (u.modCoil n Coil.on).modPm fun p => { p with pullIn := n, lastPullIn := some t.tb.now })

/-- PULL_IN_END (R65): 100 ms after its start the coil goes to economised hold, and the sequence goes on (R179). -/
def execPullInEnd (s : State) : Host.Outcome State Fault Refusal :=
  .next (if s.pm.pullIn == 0 || !(s.coil s.pm.pullIn).drive then s
    else
      let n := s.pm.pullIn
      let t := (s.runPast s.pm.lastPullIn 100000000).modPm fun p => { p with pullIn := 0 }
      (t.modCoil n fun c => { c with phase := if c.cmd then 2 else 0 }).pullInEnded n)

/-! ### Hold-up and over-voltage (R62, R99 to R103) -/

/-- Every output takes its safe command, and the loads that AUX_24V feeds have no supply: coils, trip, UVR_HOLD, cooling
outputs and cages (R33, R64, R102, R348). -/
def State.supplyLost (s : State) : State :=
  let t := (s.dropCoils.dropUvr.modOs fun o => { o with tripActive := false, tripDue := false }).modSi fun i =>
    { i with xtripOut := false }
  let u := (t.cutOutputs.cagesOff).modTm fun m => { m with pwm := m.pwm.map fun (k, x) => (k, { x with duty := 0 }) }
  u.modPm fun p => { p with state := .powerFail, failFrom := s.pm.state, onStore := true, queue := [], safeUntilConnect := true }

/-- What is written at entry to POWER_FAIL while the hold-up check passes (R166, R270): the charge totals and the learned
state. -/
def State.failRecords (s : State) : State :=
  if s.coreUp && holdUpPasses s.pm.capUf s.pm.vholdMv then (s.journal 0x0007 s.record7).writeSoc else s

/-- POWER_FAIL_ENTRY (R102). -/
def execPowerFailEntry (s : State) : Host.Outcome State Fault Refusal :=
  .next (if s.powered && !s.pm.onStore then s.supplyLost.failRecords else s)

/-- STORE_LOW (R102): the claim word shows health 0, BYE leaves, reset is asserted. -/
def execStoreLow (s : State) : Host.Outcome State Fault Refusal :=
  .next (if s.pm.onStore then
    ((s.sayBye 4).clearRam .off).modPm fun p =>
      { p with onStore := false, prevPowerFail := true, sagPaused := false, resumeTimer := false }
  else s)

/-- POWER_FAIL_RIDE_THROUGH (R103): outputs stay safe until a new connect command. A module held in RESET stays there. -/
def execPowerFailRideThrough (s : State) : Host.Outcome State Fault Refusal :=
  .next (if s.pm.state == .powerFail && !s.pm.disconnected then
    let t := (s.modPm fun p => { p with
      state := p.failFrom, onStore := false
      readyStamp := if p.failFrom == .ready then s.tb.now else p.readyStamp }).cagesBack
    if t.coreUp then t.raiseEvent 0x0206 else t
  else s)

/-- OVERVOLTAGE_DISCONNECT (R62): the input is cut off, so the store takes over (R102). -/
def execOvervoltageDisconnect (s : State) : Host.Outcome State Fault Refusal :=
  .next (if s.powered && !s.pm.disconnected then
    (if s.pm.onStore then s else s.supplyLost.failRecords).modPm fun p => { p with disconnected := true, prevOverVolt := true }
  else s)

/-- OVERVOLTAGE_RESTART (R62): cast-on with kind 0x02 once the input is below 35.0 V. -/
def execOvervoltageRestart (offLong : Bool) (s : State) : Host.Outcome State Fault Refusal :=
  .next (if s.pm.disconnected then (s.modPm fun p => { p with disconnected := false }).resetTo 2 offLong else s)

/-! ### Resets (R105 to R111) -/

/-- The holder yields the claim to a healthy twin (R394); whether it does. -/
def State.yieldStart (s : State) : Bool × State :=
  if s.os.gate && s.twinHealthy then (true, s.modTy fun y => { y with yielding := 1 }) else (false, s)

/-- RESET_N_CHANGE (R105): the 10 ms recognition time starts anew. -/
def execResetNChange (low : Bool) (s : State) : Host.Outcome State Fault Refusal :=
  .next (s.modPm fun p => { p with resetPin := low, resetTimer := true })

/-- RESET_N_ASSERT_RECOGNISED (R105, R106): RESET is due, after an orderly hand-over if this unit holds the claim. -/
def execResetNAssertRecognised (s : State) : Host.Outcome State Fault Refusal :=
  .next (if s.powered && s.pm.resetPin && !s.pm.resetIgnored && !s.pm.resetLow then
    (s.modPm fun p => { p with resetLow := true, resetTimer := false, resetEntryDue := true }).yieldStart.2
  else s)

/-- RESET_ENTRY (R106, R107): every output off, the claim word 0. On the hold-up store the state stays POWER_FAIL. -/
def execResetEntry (s : State) : Host.Outcome State Fault Refusal :=
  .next (if s.pm.resetEntryDue then
    ((s.sayBye 1).clearRam .reset).modPm fun p =>
      { p with state := if p.onStore then .powerFail else .reset, failFrom := .reset }
  else s)

/-- The module is held in RESET, with AUX_24V or on the hold-up store. -/
def State.inReset (s : State) : Bool := s.pm.state == .reset || (s.pm.state == .powerFail && s.pm.failFrom == .reset)

/-- RESET_N_RELEASE_RECOGNISED (R107): cast-on with kind 0x03. -/
def execResetNReleaseRecognised (s : State) : Host.Outcome State Fault Refusal :=
  .next (if s.pm.resetPin || s.pm.resetIgnored || !s.pm.resetLow then s
    else
      let t := s.modPm fun p => { p with resetLow := false, resetTimer := false }
      if s.inReset then t.resetTo 3 false else t)

/-- STUCK_RESET (R108): the module leaves RESET and ignores the input; 0x0211 follows at the cast-on. -/
def execStuckReset (s : State) : Host.Outcome State Fault Refusal :=
  .next (if s.inReset && s.pm.resetPin then
    (s.modPm fun p => { p with resetIgnored := true }).resetTo 4 false
  else s)

/-- RESET_N_REARM (R108). -/
def execResetNRearm (s : State) : Host.Outcome State Fault Refusal :=
  .next (if s.pm.resetIgnored && !s.pm.resetPin then
    s.modPm fun p => { p with resetIgnored := false, resetLow := false, resetTimer := false }
  else s)

/-- A reset on command is refused while a coil is energised and no healthy twin can take the claim (R111). -/
def State.resetRefused (s : State) : Bool := s.anyCoil && !s.twinHealthy

/-- The reset that `softDue` names comes about (R111, R549), after the response of the write that asked for it (R489). -/
def State.softReset (s : State) : State :=
  if s.pm.softDue != 1 && s.pm.softDue != 2 then s
  else ((s.liveAnswers.modPm fun p => { p with recoveryWanted := p.recoveryWanted || p.softDue == 2 }).sayBye 1).resetTo 5 false

/-- A write that resets the module (R111, R549): its one value, the refusals of R111; the reset is due at the output commit of
the row, and a holder with a healthy twin yields the claim before it (R106). -/
def State.resetAct (t : State) (value good kind : Nat) : Answer :=
  if value != good then no t 0x0A
  else if t.resetRefused then no t 0x0B
  else ok (t.modPm fun p => { p with softDue := kind }).yieldStart.2

/-- SOFTWARE_RESET (R111, R118): acts at the next row. -/
def execSoftwareReset (r : Req) (value : Nat) (s : State) : Host.Outcome State Fault Refusal :=
  .next (s.liveReq r true 0x2280 1 (leBytes 1 value) engineer (.softwareReset r value) fun t _ => t.resetAct value 0xA5 1)

/-- RECOVERY_REQUEST (R549): as SOFTWARE_RESET; the reset leads into ROM recovery with reason 4. -/
def execRecoveryRequest (r : Req) (value : Nat) (s : State) : Host.Outcome State Fault Refusal :=
  .next (s.liveReq r true 0x3481 0 (leBytes 1 value) engineer (.recoveryRequest r value) fun t _ => t.resetAct value 0x5A 2)

/-! ### Bind-off and transport hold (R112 to R117, R235) -/

/-- The first unmet condition of a bind-off (R112), 0 when all hold. A bus voltage without a value does not count as below 60 V
(DESIGN CHOICE, assumption 139). A unit that runs solo asks no twin (R113). -/
def State.bindRefusal (s : State) (wakeLow twinAccepts : Bool) : Nat :=
  if s.anyCoil || !s.provenOpen then 1
  else if !s.busDead then 2
  else if wakeLow then 3
  else if s.tm.nvClosed then 4
  else if !holdUpPasses s.pm.capUf s.pm.vholdMv then 5
  else if s.ty.paired && s.ty.state != .solo && !twinAccepts then 6
  else 0

/-- Steps 4 and 5 (R113): the relays open, domain M is off, and the transport-hold flag goes to the journal. -/
def State.bindOpen (s : State) : State :=
  let t := ((s.modCl fun l => { l with driver := false, ring := .hold, proc := 0, txWait := [] }).modCa fun c => { c with started := false }).modPm
    fun p => { p with hvRelays := false, holdFlag := true, bindStep := 5 }
  t.journal6

/-- Step 6 (R113), once the flag is written: claim word 0, SFPs, CAN transceivers and cooling outputs off. -/
def State.bindWritten (s : State) : State :=
  if s.pm.bindStep == 5 && s.nv.held.isEmpty then
    let u := ((s.modPm fun p => { p with bindStep := 6 }).modOs fun o => { o with gate := false, uvr := false, uvrDrop := true }).modTy
      fun y => { y with wordOwn := 0 }
    let off (p : Sfp) : Sfp := { p with cageOn := false, cageBack := false, link := 0, upSince := none }
    let v := ((u.takeMode 1 0).takeMode 2 0).modEn fun e => { e with p1 := off e.p1, p2 := off e.p2 }
    (v.sayBye 2).modTm fun m => { m with pwm := m.pwm.map fun (k, x) => (k, { x with duty := 0 }) }
  else s

/-- Step 3 goes on once every CMU has acknowledged its hold command (R113, R235). -/
def State.bindHeld (s : State) : State :=
  if s.pm.bindStep == 3 && (!s.cl.driver || s.enumerated.all fun c => (s.cmu c).held) then s.bindOpen.bindWritten else s

/-- Step 2 ends when nothing is held any more (R113): HOLD from every port that reaches CMUs (R235). -/
def State.bindFlushed (s : State) : State :=
  if s.pm.bindStep == 2 && s.nv.held.isEmpty then
    ((s.modPm fun p => { p with bindStep := 3 }).ringSend 0x0C 0xFF [0xB0]).bindHeld
  else s

/-- A write of the journal or of the log has ended: the steps that wait for it (R113). -/
def State.bindOn (s : State) : State := s.bindFlushed.bindWritten

/-- Learned state, settings and every other record of changing content go to the journal (R113). -/
def State.flushAll (s : State) : State :=
  let t := settingsIds.foldl (fun t id =>
    if t.settingsBody id == t.latest id then t else t.journal id (t.settingsBody id)) s.writeLearned
  ((((t.journal 0x0005 t.record5).journal 0x0007 t.record7).journal 0x0004 t.record4).journal9).journal6

/-- The bind-off begins on this unit (R113): state BIND_OFF, closing refused, everything flushed. -/
def State.bindStart (s : State) : State :=
  ((s.modPm fun p => { p with
    state := if p.onStore then p.state else .bindOff, failFrom := if p.onStore then .bindOff else p.failFrom
    bindStep := 2, queue := [], bindReason := 0 }).flushAll).bindFlushed

/-- A bind-off is refused or aborted with a reason (R112, R114). -/
def State.bindRefuse (s : State) (k : Nat) : State :=
  (s.modPm fun p => { p with bindReason := k }).raiseEvent 0x0208

/-- A write of BindOff (R112, R113). While a bind-off runs another one is accepted and changes nothing (DESIGN CHOICE,
assumption 140). -/
def State.bindAct (t : State) (value : Nat) (wakeLow twinAccepts : Bool) : Answer :=
  if value != 1 then no t 0x0A
  else if t.pm.bindStep != 0 then ok t
  else
    let k := t.bindRefusal wakeLow twinAccepts
    if k != 0 then no (t.bindRefuse k) 0x0B else ok t.bindStart

/-- BIND_OFF (R112, R113, R118): acts at the next row. -/
def execBindOff (r : Req) (value : Nat) (wakeLow twinAccepts : Bool) (s : State) : Host.Outcome State Fault Refusal :=
  .next (s.liveReq r false 0x2280 2 (leBytes 1 value) engineer (.bindOff r value wakeLow twinAccepts) fun t _ =>
    t.bindAct value wakeLow twinAccepts)

/-- HOLD_RESPONSE (R235). -/
def execHoldResponse (cmu : Nat) (s : State) : Host.Outcome State Fault Refusal :=
  let s0 := s.repeatFrame (.hold cmu)
  .next (if s.pm.bindStep == 3 then (s0.modCmu cmu fun c => { c with held := true }).bindHeld else s0)

/-- CMU_HOLD_TIMEOUT (R114, R235): the bind-off is aborted, the unit is READY again, the CMUs are woken, and the ring is
renewed. -/
def execCmuHoldTimeout (s : State) : Host.Outcome State Fault Refusal :=
  .next (if s.pm.bindStep == 3 then
    ((s.modPm fun p => { p with
      state := if p.onStore then p.state else .ready, failFrom := if p.onStore then .ready else p.failFrom
      readyStamp := if p.onStore then p.readyStamp else s.tb.now, bindStep := 0 }).wakeHeld).bindRefuse 7
  else s)

/-- HOLD_RELAY_RELEASE (R113, R116): step 7; the unit is in transport hold. -/
def execHoldRelayRelease (s : State) : Host.Outcome State Fault Refusal :=
  .next (if s.pm.bindStep == 5 || s.pm.bindStep == 6 then
    ((s.modPm fun p => { p with bindStep := 0 }).clearRam .hold).modPm fun p =>
      { p with holdRelay := false, onStore := false, sagPaused := false, resumeTimer := false, wakeSource := 0 }
  else s)

/-- A wake sets the hold relay (R117): cast-on with kind 0x06 where AUX_24V is present, else once it is applied. -/
def State.wake (s : State) (source : Nat) (aux offLong : Bool) : State :=
  let t := s.modPm fun p => { p with wakeSource := p.wakeSource ||| source, holdRelay := true }
  if s.pm.state != .hold then t
  else if aux then t.resetTo 6 offLong
  else t.modPm fun p => { p with state := .off, wakeWait := true }

/-- A wake can still be counted: in transport hold, or while a wake has not got beyond its start slot (R117). -/
def State.canWake (s : State) : Bool :=
  s.pm.state == .hold || s.pm.wakeWait || (s.pm.state == .slot && s.pm.resetKind == 6)

/-- BUS_WAKE (R117). -/
def execBusWake (aux offLong : Bool) (s : State) : Host.Outcome State Fault Refusal :=
  .next (if s.canWake then s.wake 1 aux offLong else s)

/-- WAKE_N_WAKE (R117). -/
def execWakeNWake (offLong : Bool) (s : State) : Host.Outcome State Fault Refusal :=
  .next (if s.canWake then s.wake 2 true offLong else s)

/-- AUX_APPLIED_AFTER_WAKE (R117). -/
def execAuxAppliedAfterWake (offLong : Bool) (s : State) : Host.Outcome State Fault Refusal :=
  .next (if s.pm.wakeWait && s.pm.state == .off then s.resetTo 6 offLong else s)

/-! ### Operating hours (R360, R546) -/

/-- OPERATING_HOUR_TICK (R360): 0x0D0E at the end of the proof test interval. -/
def execOperatingHourTick (s : State) : Host.Outcome State Fault Refusal :=
  .next (if s.pm.state == .ready then
    let t := ((s.modId fun i => { i with hours := i.hours + 1 }).modSi fun i =>
      { i with proofDue := i.proofDue - 1 }).journal9
    if t.si.proofDue == 0 then t.raiseCond 0x0D0E else t
  else s)

/-! ### Completed writes (R520, R545) -/

/-- JOURNAL_WRITE_COMPLETE (R545): the copy is read back; on a mismatch 0x1404 is raised and the slot is written once
more, and a record that fails twice keeps its older copy. A bind-off goes on when nothing is held. -/
def execJournalWriteComplete (good : Bool) (s : State) : Host.Outcome State Fault Refusal :=
  match s.nv.held.find? fun h => !h.isLog && h.begun with
  | none => .next s
  | some h =>
    let t := s.writeCopy h.id h.payload good
    let u := if good then t
      else (t.modLd fun l => { l with verifyFails := l.verifyFails + 1 }).raiseEvent 0x1404 h.id
    .next (if good || s.nv.retrying then
      ((u.modNv fun n => { n with held := n.held.erase h, retrying := false }).nvKick).bindOn
    else u.modNv fun n => { n with retrying := true })

/-- EVENT_LOG_WRITE_COMPLETE (R520): the program under way completes, or fails with 0x1405; its entry is free either
way. -/
def execEventLogWriteComplete (good : Bool) (s : State) : Host.Outcome State Fault Refusal :=
  match s.nv.held.find? fun h => h.isLog && h.begun with
  | none => .next s
  | some h =>
    let t := s.modNv fun n => { n with held := n.held.erase h }
    .next (if good then (t.logWrite h.log).nvKick.bindOn
      else ((t.modLd fun l => { l with flashFails := l.flashFails + 1 }).raiseEvent 0x1405).nvKick.bindOn)

end Sys2Proof.Machine
end

