-- ==== Sys2Proof/Machine/Loader.lean ====
section
/-! DEFINITION. Loader: the skein's checks, the resident loader, and ROM recovery (R526 to R542). -/

namespace Sys2Proof.Machine

/-! ### The skein header (R527 to R530) -/

/-- The largest length of a section type (R528); 0 for a type that does not exist. -/
def sectionLimit : Nat → Nat
  | 1 => 3145728 | 2 => 131072 | 3 => 131072 | 4 => 65536 | 5 => 65536 | 6 => 131072 | _ => 0

/-- The sections ascend from an offset on 256-byte boundaries, none overlaps, and the last ends at the total length
(R528). -/
def sectionsAscend (start total : Nat) : List Section → Bool
  | [] => start == total
  | e :: t => decide (start ≤ e.offset) && e.offset % 256 == 0 && decide (1 ≤ sectionLimit e.kind) &&
      decide (e.length ≤ sectionLimit e.kind) && sectionsAscend (e.offset + e.length) total t

/-- Some byte of a stretch is not 0. -/
def notZero (h : Bytes) (off n : Nat) : Bool := ((h.drop off).take n).any (· != 0)

/-- Check 1 of R529: the layout of R527 and R528. -/
def headerLayout (h : Bytes) (total : Nat) : Bool :=
  h.length == 1088 && h.take 4 == ascii "ZSKN" && fieldAt h 4 2 == 1 && fieldAt h 6 2 == 1088 && fieldAt h 40 2 == 6 &&
  fieldAt h 44 4 == total && decide (total ≤ 4194304) && !notZero h 60 4 && !notZero h 352 480 &&
  !((List.range 6).any fun i => notZero h (65 + 48 * i) 3) && decide (fieldAt h 11 1 < 4) &&
  decide (fieldAt h 10 1 < 4) && decide (fieldAt h 43 1 ≤ 32) &&
  !notZero h (832 + 4 * fieldAt h 43 1) (128 - 4 * fieldAt h 43 1) &&
  ([1, 2, 3, 4, 5, 6].all fun k => (sectionsOf h).any (·.kind == k)) && sectionsAscend 4096 total (sectionsOf h) &&
  !bit (fieldAt h 42 1) (fieldAt h 11 1)

/-- Check 2: device, variant and hardware revision. -/
def State.headerUnit (s : State) (h : Bytes) : Bool :=
  fieldAt h 8 2 == 0x8100 && bit (fieldAt h 10 1) (if s.id.variant == 15 then 0 else 1) &&
    decide (fieldAt h 12 2 ≤ s.id.hwRev) && decide (s.id.hwRev ≤ fieldAt h 14 2)

/-- Check 3: the unit's serial. -/
def State.headerSerial (s : State) (h : Bytes) : Bool :=
  fieldAt h 43 1 == 0 || (List.range (fieldAt h 43 1)).any fun i => fieldAt h (832 + 4 * i) 4 == s.id.serial

/-- Check 4: the public key is the ROM's, and not revoked. -/
def State.headerKey (s : State) (h : Bytes) : Bool :=
  sha256 ((h.drop 960).take 64) == Config.romKeyDigest (fieldAt h 11 1) && !bit s.ld.fuses (fieldAt h 11 1)

/-- Check 5: the signature (R530). -/
def headerSigned (h : Bytes) : Bool :=
  Config.signatureHolds ((h.drop 960).take 64) (sha256 (h.take 1024)) ((h.drop 1024).take 64)

/-- The number of the first of the header's checks 1 to 6 that fails (R529); 0 none. -/
def State.headerReason (s : State) (h : Bytes) (total : Nat) : Nat :=
  if !headerLayout h total then 1
  else if !s.headerUnit h then 2
  else if !s.headerSerial h then 3
  else if !s.headerKey h then 4
  else if !headerSigned h then 5
  else if fieldAt h 20 4 < s.ld.antiRollback then 6
  else 0

/-- Check 11: every section that was programmed has its digest (R529, R539). -/
def sectionsGood (h bytes : Bytes) : Bool :=
  (sectionsOf h).all fun e => sha256 ((bytes.drop (e.offset - 4096)).take e.length) == e.digest

/-- SkeinDigest of a skein that was programmed (R528). -/
def skeinDigest (h bytes : Bytes) : Bytes := sha256 (h ++ List.replicate (4096 - 1088) 0 ++ bytes)

/-- The header is written (R539): the region holds a valid, newly installed skein. -/
def State.writeHeader (s : State) : State :=
  let h := s.ld.header
  (s.modLd fun l => { l with
    state := 4, skeinValid := true, newSkein := true, firstReady := true, skeinRevoke := fieldAt h 42 1
    skeinSecurity := fieldAt h 20 4 }).modId fun i => { i with
    firmware := fieldAt h 16 4, stepNo := fieldAt h 24 2, settingsFormat := fieldAt h 26 2, learnedFormat := fieldAt h 28 2
    convertFrom := fieldAt h 30 2, safetyFormat := fieldAt h 32 2, skeinDigest := skeinDigest h s.ld.bytes
    cmuImage := (((sectionsOf h).find? (·.kind == 6)).map (·.version)).getD 0
    cmuDigest := (((sectionsOf h).find? (·.kind == 6)).map (·.digest)).getD [] }

/-! ### Loading (R536 to R540) -/

/-- The first start condition that fails (R536), 7 to 10; 0 none. After an abort condition 7 is not asked again (R540). -/
def State.loadCondition (s : State) (r : Req) : Nat :=
  if s.ld.state == 0 && (s.anyCoil || !s.provenOpen) && !s.twinHealthy then 7
  else if 1 ≤ s.ld.state && s.ld.state ≤ 4 then 8
  else if !s.nvOpen then 9
  else match r.source with
    | .can _ _ => 10
    | _ => 0

/-- LoadRefusal and the fault of a refused load (R536). -/
def State.loadRefuse (s : State) (k : Nat) : State :=
  (s.modLd fun l => { l with refusal := k }).raiseEvent (if k ≤ 6 || k == 11 then 0x1407 else 0x1408) k

/-- The response payload of LOAD_BEGIN (R536). -/
def loadBody (k : Nat) : Bytes := leBytes 4 k ++ leBytes 4 4096

/-- The status of a refused LOAD_BEGIN (R536). -/
def loadStatus (k : Nat) : Nat := if k ≤ 6 then 0x0A else if k == 7 then 0x0C else 0x0B

/-- The loader takes over (R537): held journal writes made, BYE, other sessions closed, every output safe, class 0. -/
def State.loaderStart (s : State) (session : Nat) : State :=
  let t := s.flushJournal.sayBye 3
  let u := (t.sy.sessions.filter (·.num != session)).foldl (fun v x => v.closeSession x.num) t
  ((u.allSafe.modOs fun o => { o with gate := false }).modTy fun y =>
    { y with state := if y.state == .alone then .alone else .solo, paired := false, yielding := 0 }).modLd fun l =>
    { l with state := 2, next := 4096, refusal := 0, loadSession := session, bytes := [], chunk := [], skeinValid := false
             req := none, slot := none }

/-- The request that waited is answered in its session (R537, R538); without the session its slot is given back. -/
def State.answerWaiting (s : State) (r : Req) (slot : Option Nat) (opcode status : Nat) (body : Bytes) : State :=
  let t := s.pushSlot slot
  let q := inSlot r slot
  match t.session r.session with
  | some x => t.finish q false x opcode status body
  | none => t.answerSlot q.source none

/-- The hand-over for a loader start has ended (R394, R536, R537): the twin holds the claim, or it has not taken it. -/
def State.loadHandedOver (s : State) (taken : Bool) : State :=
  match s.ld.req with
  | none => s
  | some r =>
    if taken || (!s.anyCoil && s.provenOpen) then (s.loaderStart r.session).answerWaiting r s.ld.slot 0x60 0x00 (loadBody 0)
    else
      ((s.modLd fun l => { l with state := 0, req := none, slot := none }).loadRefuse 7).answerWaiting r s.ld.slot 0x60 0x0C
        (loadBody 7)

/-- LOAD_BEGIN (R536, R537): the header's checks, the start conditions; a holder with a healthy twin hands over first. -/
def execLoadBegin (r : Req) (total : Nat) (header : Bytes) (s : State) : Host.Outcome State Fault Refusal :=
  match s.enter r false 0x60 (leBytes 4 total ++ header) 1092 engineer with
  | .isOver t => .next t
  | .on s1 x (some status) => .next (s1.finish r false x 0x60 status [])
  | .on s1 x none =>
    let k := s1.headerReason header total
    let k' := if k != 0 then k else s1.loadCondition r
    if k' != 0 then .next ((s1.loadRefuse k').finish r false x 0x60 (loadStatus k') (loadBody k'))
    else
      let t := s1.modLd fun l => { l with header, total }
      if t.ld.state == 0 && t.os.gate && t.twinHealthy then
        let (slot, u) := t.popSlot r
        .next ((u.modLd fun l => { l with state := 1, req := some r, slot }).yieldStart.2.modPm fun p => { p with softDue := 3 })
      else .next ((t.loaderStart x.num).finish r false x 0x60 0x00 (loadBody 0))

/-- LOAD_DATA (R536, R538): the chunk at the next offset expected is programmed; its response leaves once it has been
read back. -/
def execLoadData (r : Req) (offset : Nat) (chunk : Bytes) (s : State) : Host.Outcome State Fault Refusal :=
  match s.enter r false 0x61 (leBytes 4 offset ++ chunk) 5 engineer with
  | .isOver t => .next t
  | .on s1 x (some status) => .next (s1.finish r false x 0x61 status [])
  | .on s1 x none =>
    if 2008 < chunk.length then .next (s1.finish r false x 0x61 0x02 [])
    else if s1.ld.state != 2 || s1.ld.loadSession != x.num || s1.ld.req.isSome then .next (s1.finish r false x 0x61 0x0B [])
    else if offset != s1.ld.next || s1.ld.total < offset + chunk.length then
      .next (s1.finish r false x 0x61 0x0A (leBytes 4 s1.ld.next))
    else
      let (slot, t) := s1.popSlot r
      .next ((t.modLd fun l => { l with chunk, begun := false, req := some r, slot }).progKick)

/-- LOAD_DATA_PROGRAMMED (R538): read back correctly, its response leaves; a failure raises 0x1405 and aborts the load, and
no response leaves. -/
def execLoadDataProgrammed (good : Bool) (s : State) : Host.Outcome State Fault Refusal :=
  match s.ld.req with
  | none => .next s
  | some r =>
    if s.ld.state != 2 || !s.ld.begun then .next s
    else if good then
      let t := s.modLd fun l => { l with
        next := l.next + l.chunk.length, bytes := l.bytes ++ l.chunk, chunk := [], begun := false, req := none, slot := none }
      .next (t.answerWaiting r s.ld.slot 0x61 0x00 (leBytes 4 t.ld.next))
    else
      let t := ((s.pushSlot s.ld.slot).answerSlot (inSlot r s.ld.slot).source none).modLd fun l => { l with flashFails := l.flashFails + 1 }
      .next ((t.raiseEvent 0x1405).loadAbort)

/-- LOAD_END (R539): every section's digest is checked from the flash; the header is written last, and the module resets
into the new skein. -/
def execLoadEnd (r : Req) (s : State) : Host.Outcome State Fault Refusal :=
  match s.enter r false 0x62 [] 0 engineer with
  | .isOver t => .next t
  | .on s1 x (some status) => .next (s1.finish r false x 0x62 status [])
  | .on s1 x none =>
    let l := s1.ld
    if l.state != 2 || l.loadSession != x.num || l.next != l.total || l.req.isSome then
      .next (s1.finish r false x 0x62 0x0B [])
    else if !sectionsGood l.header l.bytes then
      .next ((s1.loadRefuse 11).finish r false x 0x62 0x0A []).loadAbort
    else
      let t := s1.writeHeader
      .next ((t.finish r false x 0x62 0x00 t.id.skeinDigest).resetTo 5 false)

/-- LOAD_IDLE_TIMEOUT (R540). -/
def execLoadIdleTimeout (s : State) : Host.Outcome State Fault Refusal := .next (if s.ld.state == 2 then s.loadAbort else s)

/-! ### ROM recovery (R541, R542) -/

/-- The IDENT payload (R542). -/
def State.recoveryIdent (s : State) : Bytes :=
  leBytes 2 0x8100 ++ [s.id.variant, 0] ++ leBytes 2 s.id.hwRev ++ [0, 0] ++ leBytes 4 s.id.serial ++
    leBytes 4 s.id.romVer ++ leBytes 4 s.ld.antiRollback ++ [s.ld.recoveryReason, 0] ++ leBytes 2 1024

/-- Bytes with 0x7E and 0x7D stuffed (R542). -/
def stuffed (b : Bytes) : Bytes := b.flatMap fun x => if x == 0x7E || x == 0x7D then [0x7D, x ^^^ 0x20] else [x]

/-- A recovery frame's bytes (R542): type, sequence, length, payload and CRC-32C, stuffed between two flags. -/
def recoveryBytes (kind seq : Nat) (p : Bytes) : Bytes :=
  let b := [kind, seq % 256] ++ leBytes 2 p.length ++ p
  [0x7E] ++ stuffed (b ++ leBytes 4 (crc32c b)) ++ [0x7E]

/-- A recovery frame leaves by the UART of J14 (R542). -/
def State.sendRecovery (s : State) (seq kind : Nat) (p : Bytes) : State :=
  s.emit (.recovery kind p (recoveryBytes kind seq p))

/-- A recovery request (R542): the previous Seq again gets the cached response; with a damaged loader only PROBE and LOG
are answered. An action answers the response's payload, or none where no response leaves. -/
def State.recoveryRequest (s : State) (seq kind : Nat) (act : State → State × Option Bytes) : State :=
  if !s.ld.recovery || (s.ld.recoveryReason == 3 && kind != 0x01 && kind != 0x06) then s
  else if s.ld.recSeq == some seq then
    match s.ld.recCached with
    | [] => s
    | k :: b => s.sendRecovery seq k b
  else
    let (t, b) := act (s.modLd fun l => { l with recSeq := some seq, recCached := [] })
    match b with
    | none => t
    | some p => (t.sendRecovery seq (kind + 0x80) p).modLd fun l => { l with recCached := (kind + 0x80) :: p }

/-- RECOVERY_IDENT_SEND (R542): every 1 s until the first PROBE. The spec states no Seq for it: a free one (assumption 4). -/
def execRecoveryIdentSend (s : State) : Host.Outcome State Fault Refusal :=
  .next (if s.ld.recovery && !s.ld.probed then s.takeFree.sendRecovery s.freeNat 0x81 s.recoveryIdent else s)

/-- PROBE (R542). -/
def execProbe (seq : Nat) (s : State) : Host.Outcome State Fault Refusal :=
  .next (s.recoveryRequest seq 0x01 fun t => (t.modLd fun l => { l with probed := true }, some t.recoveryIdent))

/-- RECOVERY_BEGIN (R542): the header's checks of R529. -/
def execRecoveryBegin (seq : Nat) (payload : Bytes) (s : State) : Host.Outcome State Fault Refusal :=
  .next (s.recoveryRequest seq 0x02 fun t =>
    if payload.length != 1092 then (t, some ([0x02, 0] ++ leBytes 4 4096))
    else
      let h := payload.drop 4
      let total := fieldAt payload 0 4
      let k := t.headerReason h total
      if k != 0 then (t, some ([0x0A, k] ++ leBytes 4 4096))
      else (t.modLd fun l => { l with recBegun := true, header := h, total, next := 4096, bytes := [], skeinValid := false },
        some ([0x00, 0] ++ leBytes 4 4096)))

/-- RECOVERY_DATA (R538, R542): a chunk of 1 to 1,024 bytes at the next offset expected; a programming failure ends the
transfer without a response. -/
def execRecoveryData (seq : Nat) (payload : Bytes) (good : Bool) (s : State) : Host.Outcome State Fault Refusal :=
  .next (s.recoveryRequest seq 0x03 fun t =>
    let b := payload.drop 4
    let off := fieldAt payload 0 4
    if b.isEmpty || 1024 < b.length then (t, some (0x02 :: leBytes 4 t.ld.next))
    else if !t.ld.recBegun then (t, some (0x0B :: leBytes 4 t.ld.next))
    else if off != t.ld.next || t.ld.total < off + b.length then (t, some (0x0A :: leBytes 4 t.ld.next))
    else if !good then (t.modLd fun l => { l with recBegun := false, flashFails := l.flashFails + 1 }, none)
    else
      let u := t.modLd fun l => { l with next := l.next + b.length, bytes := l.bytes ++ b }
      (u, some (0x00 :: leBytes 4 u.ld.next)))

/-- RECOVERY_END (R539, R542). -/
def execRecoveryEnd (seq : Nat) (s : State) : Host.Outcome State Fault Refusal :=
  .next (s.recoveryRequest seq 0x04 fun t =>
    let zero := List.replicate 32 0
    if !t.ld.recBegun || t.ld.next != t.ld.total then (t, some ([0x0B, 0] ++ zero))
    else if !sectionsGood t.ld.header t.ld.bytes then
      (t.modLd fun l => { l with recBegun := false }, some ([0x0A, 11] ++ zero))
    else
      let u := t.writeHeader.modLd fun l => { l with recBegun := false, state := 0 }
      (u, some ([0x00, 0] ++ padBytes 32 u.id.skeinDigest)))

/-- BOOT (R542): only into a valid skein, and with reason 1 only after RCVY_N has been released; the reset follows the
response. -/
def execBoot (seq : Nat) (rcvyLow : Bool) (s : State) : Host.Outcome State Fault Refusal :=
  let good := s.ld.skeinValid && s.ld.antiRollback ≤ s.ld.skeinSecurity && !(s.ld.recoveryReason == 1 && rcvyLow)
  let t := s.recoveryRequest seq 0x05 fun t => (t, some [if good then 0x00 else 0x0B])
  .next (if s.ld.recovery && s.ld.recoveryReason != 3 && s.ld.recSeq != some seq && good then t.resetTo 5 false else t)

/-- RECOVERY_LOG (R523, R542): 1 to 31 records; any other count gives none. -/
def execRecoveryLog (seq : Nat) (payload : Bytes) (s : State) : Host.Outcome State Fault Refusal :=
  .next (s.recoveryRequest seq 0x06 fun t =>
    let n := fieldAt payload 4 1
    let rs := if payload.length == 5 && 1 ≤ n && n ≤ 31 then t.logPart (fieldAt payload 0 4) n else []
    (t, some (rs.flatMap logBytes)))

end Sys2Proof.Machine
end

