-- ==== Sys2Proof/Machine/Claim.lean ====
section
/-! DEFINITION. Claim: the claim word with its class and health, the gate's condition, claim frames, and the orderly
hand-over on request (R386 to R394, R400 to R402). -/

namespace Sys2Proof.Machine

/-! ### Claim words (R386 to R388) -/

/-- The tie-break of a unit's word: its serial modulo 128, and its side (R386). -/
def State.claimTie (s : State) : Nat := s.id.serial % 128 * 2 + b2n s.ty.sideB

/-- A claim word of a class and a health score (R386). -/
def State.claimWord (s : State) (cls health : Nat) : Nat := cls * 4096 + health * 256 + s.claimTie

/-- A unit fault of severity open or latch stands (R381, R387). -/
def State.unitFaultOpen (s : State) : Bool := s.fm.active.any fun c => unitFault c && 3 ≤ faultSeverity c

/-- The class that a unit drives: the first entry that applies (R387). -/
def State.claimClass (s : State) : Nat :=
  if !s.wasReady || !s.si.setConfirmed || s.ld.islandStopped || (s.unitFaultOpen && s.twinHealthy) || s.outputFault ||
     s.loaderRuns || s.ty.state == .refused then 0
  else if s.ty.yielding != 0 then 1
  else if s.os.gate then 4
  else if s.ty.state == .joining || s.ty.state == .observer then 2
  else 3

/-- No SFP link is up and the controller that sends the envelope is bus-off (R388). -/
def State.noEnvelopePath (s : State) : Bool :=
  s.en.p1.link < 4 && s.en.p2.link < 4 && (s.ctl (s.cfgGet 0x2C82 3)).errState == 2

/-- What is taken off the health score of 15 (R388). -/
def State.healthLoss (s : State) : Nat :=
  let has (c : Nat) : Bool := s.fm.active.contains c
  8 * b2n (has 0x0402 || has 0x0405) + 4 * b2n (has 0x0E03 || has 0x0E05 || has 0x0E06 || has 0x0E08) +
  3 * b2n (has 0x0102) + 2 * b2n (!s.ca.precisionHeld) + 2 * b2n s.ss.hallInvalid + 2 * b2n (s.cl.ring == .lost) +
  2 * b2n s.noEnvelopePath

/-- The health score (R388): 0 in a row with late logic or a core mismatch, while the control processor restarts, with the
supply lost, with 0x0E01 or the junction case of R301; else 15 less the deductions, at least 1. -/
def State.health (s : State) (failed : Bool) : Nat :=
  if failed || s.rows.cpRestarting || s.pm.onStore || !s.coreUp || s.fm.active.contains 0x0E01 ||
     s.os.stuckAny || s.tm.junctionLatch then 0
  else max 1 (15 - s.healthLoss)

/-- The twin is the source unit of the row: its word at the previous commit was the greater (R376). -/
def State.twinSource (s : State) : Bool :=
  s.ty.wordSeen && decide (wordValue s.ty.wordOwn < wordValue s.ty.wordTwin)

/-- The unit ignores J9 (R366). -/
def State.deaf (s : State) : Bool := s.cfgGet 0x2F80 1 == 0 || !s.coreUp

/-- CLAIM_FRAME (R389, R390): a frame with a valid CRC, the row's byte and a class of 4 or less gives the twin's word of
the next row. -/
def execClaimFrame (word row : Nat) (crcOk : Bool) (s : State) : Host.Outcome State Fault Refusal :=
  .next (if s.deaf || !crcOk || row != s.rowCount % 256 || 4 < word / 4096 then s
    else s.modTy fun y => { y with claimRx := some word })

/-! ### Orderly hand-over (R394) -/

/-- A write of HandOverRequest (R394, R407): refused unless the unit holds the claim and the twin is healthy. -/
def State.handOverAct (t : State) (value : Nat) : Answer :=
  if value != 1 then no t 0x0A
  else
    let (yields, u) := t.yieldStart
    if yields then ok u else no t 0x0B

/-- HAND_OVER_REQUEST (R394, R407): acts at the next row. -/
def execHandOverRequest (r : Req) (value : Nat) (s : State) : Host.Outcome State Fault Refusal :=
  .next (s.liveReq r true 0x2F81 0 (leBytes 1 value) operator (.handOverRequest r value) fun t _ => t.handOverAct value)

/-- The yield ends: what waited for it follows (R106, R111, R394, R537). -/
def State.yieldEnd (s : State) (taken : Bool) : State :=
  let due := s.pm.softDue
  let t := s.modTy fun y => { y with yielding := 0 }
  if due == 1 || due == 2 then t.softReset
  else if due == 3 then (t.modPm fun p => { p with softDue := 0 }).loadHandedOver taken
  else t

/-- YIELD_TIMEOUT (R394): the twin has not taken the claim; the unit drives class 3 again. -/
def execYieldTimeout (s : State) : Host.Outcome State Fault Refusal :=
  .next (if s.ty.yielding == 0 || s.ty.wordTwin / 4096 == 4 then s else s.yieldEnd false)

/-! ### The start of a join (R401, R402) -/

/-- A join starts with JOIN 1, at version 2 and with equal step-compatibility numbers (R401). -/
def State.joinStart (s : State) : State :=
  if 2 ≤ s.ty.version && (s.ty.hello.map (·.stepNo)) == some s.id.stepNo then
    (s.modTy fun y => { y with state := .joining, joinState := 1, joinRetry := false }).toTwin (.join 1 0)
  else s

/-- A write of RejoinRequest (R402, R407). -/
def State.rejoinAct (t : State) (value : Nat) : Answer :=
  if value != 1 then no t 0x0A
  else if t.ty.state != .observer then no t 0x0B
  else ok (t.modTy fun y => { y with joinFails := 0, joinStamps := [] }).joinStart

/-- REJOIN_REQUEST (R402, R407): acts at the next row. -/
def execRejoinRequest (r : Req) (value : Nat) (s : State) : Host.Outcome State Fault Refusal :=
  .next (s.liveReq r true 0x2F82 0 (leBytes 1 value) operator (.rejoinRequest r value) fun t _ => t.rejoinAct value)

end Sys2Proof.Machine
end

