-- ==== Sys2Proof/Machine/Faults.lean ====
section
/-! DEFINITION. Faults: the handlers of the pending faults and the acknowledge (R42 to R45, R520, R551). -/

namespace Sys2Proof.Machine

/-- The pending entry of a code. -/
def FaultMgr.entry (m : FaultMgr) (code : Nat) : Option Pending := m.pending.find? (·.code == code)

/-- The event log record of a pending fault (R520 to R522): kind 1 carries the stamp and row of the raise, kind 2
those of its leaving the queue; both carry the count reached. -/
def State.faultRec (s : State) (p : Pending) (kind : Nat) : LogRec :=
  let stamp := if kind == 1 then p.stamp else s.tb.now
  { stamp, code := p.code, kind, severity := p.severity, reaction := s.fm.reaction.code
    flags := b2n s.ty.sideB + 2 * b2n (s.inPair p.code) + 4 * b2n (255 < p.count)
    count := min 255 p.count, row := stampNs stamp / 100000 % 100, detail := p.item }

/-- The handler of a pending fault starts (R42): the running one is suspended, the kind 1 record goes to the pool, and
a LATCH reaction state is kept in FRAM (R110). -/
def State.startHandler (s : State) (p : Pending) : State :=
  let t := s.modFm fun m => { m with
    handling := some p.code, suspended := m.handling.toList ++ m.suspended
    pending := m.pending.map fun q => if q.code == p.code then { q with started := true } else q }
  let u := t.logAdmit (t.faultRec p 1)
  if p.severity == 4 then u.journal6 else u

/-- FAULT_HANDLER_START (R42): the most severe pending fault's handler starts, over a running one only if it is more
severe. -/
def execFaultHandlerStart (s : State) : Host.Outcome State Fault Refusal :=
  .next (if !s.coreUp then s else match s.fm.pending.find? fun p => !p.started with
    | none => s
    | some p => match s.fm.handling with
      | none => s.startHandler p
      | some c =>
        if ((s.fm.entry c).map (·.severity)).getD 0 < p.severity then s.startHandler p else s)

/-- The entry of a code leaves the queue because its handler has completed (R43, R551): an event fault's condition
ends; a condition that still holds absorbs its later raises. -/
def FaultMgr.complete (m : FaultMgr) (p : Pending) : FaultMgr :=
  let n := { m with pending := m.pending.filter (·.code != p.code) }
  if p.event then n.deactivate p.code
  else if n.active.contains p.code then { n with handled := p.code :: n.handled.filter (· != p.code) }
  else n

/-- FAULT_HANDLER_COMPLETE (R42, R43): the running handler completes; its entry leaves the queue with a kind 2 record,
and the handler suspended last resumes. An entry that the queue dropped meanwhile has no record. The condition of 0x0105
ends when the queue holds fewer than 64 entries (R41). A latch fault raised again since its handler started has its
LATCH kept in FRAM (R110, R546). -/
def execFaultHandlerComplete (s : State) : Host.Outcome State Fault Refusal :=
  .next (if !s.coreUp then s else match s.fm.handling with
    | none => s
    | some c =>
      let resume (t : State) : State := t.modFm fun m =>
        { m with handling := m.suspended.head?, suspended := m.suspended.drop 1 }
      match s.fm.entry c with
      | none => resume s
      | some p =>
        let t0 := s.modFm fun m => m.complete p
        let t := if p.severity == 4 && 1 < p.count then t0.journal6 else t0
        let u := resume (t.logAdmit (t.faultRec p 2))
        if u.fm.pending.length < 64 then u.clearCond 0x0105 else u)

/-- The level of the most severe of a list of active codes, NORMAL without one (R44). -/
def levelOf (codes : List Nat) : Reaction :=
  codes.foldl (fun m c => m.max (Reaction.ofCode (faultSeverity c))) .normal

/-- An accepted acknowledge (R44): the reaction states of the unit and of the pair's share fall to the most severe fault
still active; a released LATCH releases a weld (R191); kind 3 record. -/
def State.acknowledge (s : State) (value : Nat) : State :=
  let level := levelOf s.fm.active
  let t := s.modFm fun m => { m with
    reaction := level, pairOwn := levelOf (m.active.filter s.inPair), lastAck := s.tb.now
    latchKept := level == .latch }
  let u := if value == 4 && level != .latch then t.modPc fun c => { c with weld := 0 } else t
  ((if s.fm.latchKept != u.fm.latchKept then u.journal6 else u).logKind 3 value).unblock

/-- A write of FaultAcknowledge (R44): the value must equal the present reaction state code; LATCH needs a role that may
release latches, and a latched thermal shutdown cannot be acknowledged. -/
def State.ackAct (t : State) (x : Session) (value : Nat) : Answer :=
  if value != t.acting.code then no t 0x0B
  else if value == 4 && !engineer x.role then no t 0x06
  else if value == 4 && (t.tm.cellLatch || t.tm.junctionLatch) then no t 0x0B
  else ok (t.acknowledge value)

/-- FAULT_ACKNOWLEDGE (R44, R45): acts at the next row. -/
def execFaultAcknowledge (r : Req) (value : Nat) (s : State) : Host.Outcome State Fault Refusal :=
  .next (s.liveReq r false 0x1A01 0 (leBytes 1 value) operator (.faultAcknowledge r value) fun t x => t.ackAct x value)

end Sys2Proof.Machine
end

