-- ==== Sys2Proof/Machine/Settings.lean ====
section
/-! DEFINITION. Settings: the ranges of configuration values, the rules that join several of them, their place in the
held-write pool, and staged writes with their commits (R300, R505 to R513). -/

namespace Sys2Proof.Machine

/-! ### A value's own range (R505, R507, R510) -/

/-- A mask of 32 bits with its ones above its zeros. -/
def contiguousMask (v : Nat) : Bool := (List.range 33).any fun k => v == 2 ^ 32 - 2 ^ k

/-- A CAN identifier in 28:0 with bit 31 for 29 bits (R329, R458). -/
def canIdOk (v : Nat) : Bool := v / 2 ^ 29 % 4 == 0

/-- The input field of a DutyConfig word (R153). -/
def dutyField (w : Nat) : Nat := w / 2 ^ 20 % 32

/-- The part of a value's range that is no interval (R138, R153, R192, R303, R329, R458). -/
def valueForm (variant index sub v : Nat) : Bool :=
  match index with
  | 0x2381 => 20 ≤ v % 65536 && v / 65536 % 4 != 3 &&
      (5 < sub || dutyField v == dutyField (objReset variant index sub))
  | 0x2383 => v % 5 == 0
  | 0x2385 => v == 0 || 100000 ≤ v
  | 0x2388 => v == 0 || (8 ≤ v / 256 && v % 32 < 20)
  | 0x2389 => v == 0 || (8 ≤ v / 256 && v % 32 < 20)
  | 0x2581 => sub != 1 || v != 0
  | 0x2B86 => v ≤ 255 || v == 0xFFFF
  | 0x2B87 => v ≤ 255 || v == 0xFFFF
  | 0x2B88 => v ≤ 255 || v == 0xFFFF
  | 0x2B89 => v ≤ 255 || v == 0xFFFF
  | 0x2C81 => sub != 2 || v % 10 == 0
  | 0x2C82 => sub != 2 || canIdOk v
  | 0x3180 => sub != 2 || contiguousMask v
  | 0x3281 => [125, 250, 500, 1000].contains v && bitTimingOk v 400
  | 0x3284 => v == 0 || (1000 ≤ v && bitTimingOk v 80)
  | 0x3286 => bitTimingOk v 80
  | 0x328E => sub != 1 || v == 0xFFFFFFFF || canIdOk v
  | 0x328F => sub != 1 || v == 0xFFFFFFFF || canIdOk v
  | _ => true

/-- A value lies in its own range (R507, R510). -/
def valueOk (variant : Nat) (o : Obj) (sub v : Nat) : Bool := objInRange o v && valueForm variant o.index sub v

/-- The value that is taken (R153): for D5 to D7 the input field of a DutyConfig write is ignored. -/
def State.valueTaken (s : State) (index sub v : Nat) : Nat :=
  if index == 0x2381 && 6 ≤ sub then v % 2 ^ 20 + dutyField (s.cfgGet index sub) * 2 ^ 20 else v

/-! ### Rules that join values (R511) -/

/-- A delay can be met (R138): for a trigger that is not known in advance it is at least half the window less
204.8 us. -/
def State.captureOk (s : State) (d : Nat) : Bool :=
  let src := s.cfgGet 0x2382 (d + 1)
  let line := s.cfgGet 0x2386 (src - 2)
  if 3 ≤ src && 3 ≤ line then
    settleN (s.dutyWord d / 65536 % 4) * (s.dutyWord d % 65536) * 25 ≤ s.cfgGet 0x2383 (d + 1) + 204800
  else true

/-- The temperatures of a cooling output fit its source (R296). -/
def State.pwmOk (s : State) (n : Nat) : Bool :=
  let a := s.cfgInt 0x2B92 n 16
  let b := s.cfgInt 0x2B93 n 16
  match s.cfgGet 0x2B90 n with
  | 0 => true
  | 2 => b < a
  | 12 => true
  | _ => a < b

/-- The throttle thresholds ascend below CellCriticalTemp, and the factors do not rise (R303). -/
def State.throttleOk (s : State) : Bool :=
  let t (k : Nat) : Int := s.cfgInt 0x2B80 k 16
  let f (k : Nat) : Nat := s.cfgGet 0x2B80 k
  t 1 < t 2 && t 2 < t 3 && t 3 < t 4 && t 4 < ofWord 16 (s.safeGet 0x2B98 3) &&
    f 6 ≤ f 5 && f 7 ≤ f 6 && f 8 ≤ f 7

/-- The telemetry list fits its message, and names no object longer than 255 bytes (R494). -/
def State.telemetryOk (s : State) : Bool :=
  s.telemetryBody.length ≤ 2016 && s.telemetryItems.all fun (i, j) => ((s.readObj i j).getD []).length ≤ 255

/-- Names of controller 2 stand in a path of the module while the host owns it (R437). -/
def State.can2Named (s : State) : Bool :=
  s.cfgGet 0x2C82 3 == 2 || s.cfgGet 0x328E 2 == 2 || s.cfgGet 0x328F 2 == 2

/-- The sum of GroupsPerCmu over the CMUs expected, with the values most recently accepted (R236). -/
def State.groupSum (s : State) : Nat :=
  let get (index sub : Nat) : Nat := (lookupKey (objKey index sub) s.stopWait).getD (s.cfgGet index sub)
  ((List.range (get 0x2880 0)).map fun k => get 0x2881 (k + 1)).foldl (· + ·) 0

/-- The rules that join several values, each by the indices it concerns; the status of the first that the values in
force break (R492). -/
def State.rulesStatus (s : State) (touched : List Nat) : Nat :=
  let on (l : List Nat) : Bool := l.any touched.contains
  let duties := [0, 1, 2, 3, 4, 5, 6, 7]
  if on [0x328E, 0x328F, 0x2C82] && s.cfgGet 0x328B 0 == 1 && s.can2Named then 0x13
  else if on [0x2381, 0x2382, 0x2383, 0x2386] && !duties.all s.captureOk then 0x0A
  else if on [0x2B90, 0x2B92, 0x2B93] && !([1, 2, 3, 4].all s.pwmOk) then 0x0A
  else if on [0x2A80] && !(s.cfgGet 0x2A80 4 < s.cfgGet 0x2A80 3) then 0x0A
  else if on [0x2A80, 0x2980] && !(s.cfgGet 0x2980 10 ≤ 30 * s.cfgGet 0x2A80 2) then 0x0A
  else if on [0x2B80] && !s.throttleOk then 0x0A
  else if on [0x2C80] && !(s.cfgGet 0x2C80 1 < s.cfgGet 0x2C80 3 && s.cfgGet 0x2C80 2 < s.cfgGet 0x2C80 3) then 0x0A
  else if on [0x2C80] && !(s.cfgGet 0x2C80 6 < s.cfgGet 0x2C80 5) then 0x0A
  else if on [0x2680] && !(s.cfgGet 0x2680 3 ≤ s.cfgGet 0x2680 2) then 0x0A
  else if on [0x298B] && !(s.cfgGet 0x298B 1 ≤ s.cfgGet 0x298B 2) then 0x0A
  else if on [0x2780] && !(s.cfgGet 0x2780 8 + 5 < s.cfgGet 0x2780 9 && s.cfgGet 0x2780 2 ≤ s.cfgGet 0x2780 3) then 0x0A
  else if on [0x3080] && s.cfgGet 0x3080 2 == 1 && s.cfgGet 0x3080 3 == 1 then 0x0A
  else if on [0x1010] && s.ty.paired && s.cfgGet 0x1010 1 != 0 && s.cfgGet 0x1010 1 == s.cfgGet 0x1010 2 then 0x0A
  else if on [0x2183] && !s.telemetryOk then 0x0A
  else 0

/-! ### The held-write pool (R300) -/

/-- A settings record is held and its write has not begun. -/
def heldSettings (hs : List Held) (id : Nat) : Bool := hs.any fun h => !h.isLog && h.id == id && !h.begun

/-- Held log entries are dropped, oldest first, until a number of shared entries is free (R300). -/
def State.dropLogs (s : State) (need : Nat) : Nat → State
  | 0 => s
  | k + 1 =>
    if sharedCount s.nv.held + need ≤ 21 then s
    else match dropOldestLog s.nv.held with
      | none => s
      | some (d, hs) => State.dropLogs ((s.modNv fun n => { n with held := hs }).logDropped d.log) need k

/-- A settings write is tested against the pool and handed to it (R300): `t` holds the new values, `s` the old ones. The
answer is none where an entry for some changed record cannot be held. -/
def State.storeSettings (s t : State) (indices : List Nat) : Option State :=
  let changed := ((indices.map settingsId).eraseDups).filter fun id => t.settingsBody id != s.settingsBody id
  let need := (changed.filter fun id => settingsRecord id && !heldSettings s.nv.held id).length
  let free := (s.nv.held.filter fun h => h.isLog && !h.begun).length
  if 21 + free < sharedCount s.nv.held + need then none
  else some (changed.foldl (fun u id => u.journal id (u.settingsBody id)) (t.dropLogs need 64))

/-- A settings write that the pool cannot hold is counted (R300). -/
def State.settingsRefused (s : State) : State := s.modNv fun n => { n with settingsRefused := n.settingsRefused + 1 }

/-! ### Values that act (R142, R421, R441, R508) -/

/-- The results of a duty that settle after its gain, mode, decimation or input changed (R142). A sequence that changes goes
on at its present entry and dwell (assumption 149). -/
def State.settleChange (s t : State) (d : Nat) : State :=
  let n := t.dutyN d
  if s.dutyWord d % 2 ^ 18 != t.dutyWord d % 2 ^ 18 || s.dutyGain d != t.dutyGain d then
    t.modDuty d fun u => u.change (n + 1)
  else if s.dutyInput d != t.dutyInput d then t.modDuty d fun u => u.change n
  else t

/-- The configuration of a duty changes (R134): its DutyConfig word, or the sequence of D6 or D7. -/
def State.dutyChanged (s t : State) (d : Nat) : Bool :=
  s.dutyWord d != t.dutyWord d ||
    ((d == 6 || d == 7) && (List.range 16).any fun k => s.seqEntry d k != t.seqEntry d k)

/-- What follows from values that act, where `s` is the state before (R134, R142, R421, R441). -/
def State.valuesActed (s t : State) (indices : List Nat) : State :=
  let on (l : List Nat) : Bool := l.any indices.contains
  let duties := [0, 1, 2, 3, 4, 5, 6, 7]
  let t1 := if on [0x2381, 0x2388, 0x2389] then
      duties.foldl (fun u d => if State.dutyChanged s u d then u.deferHandOver d else u)
        (duties.foldl (fun u d => State.settleChange s u d) t)
    else t
  let t2 := if on [0x1010, 0x328C, 0x328E, 0x328F, 0x2C82, 0x328B, 0x3283, 0x3289] then t1.buildLists else t1
  if on [0x3080, 0x3084] then t2.ptpStartStop else t2

/-! ### Commits (R510 to R512) -/

/-- The staged values of a shadow in force. -/
def State.putWrites (s : State) (ws : List (Nat × Nat × Bytes)) : State :=
  ws.foldl (fun t (k, _, b) => t.cfgPut (k / 256) (k % 256) (leNat b)) s

/-- A commit is agreed in this row (R511). -/
def State.agreeCommit (s : State) (c : Commit) : State :=
  s.modSy fun y => { y with commits := y.commits ++ [{ c with pattern := s.ns / 10000000, seq := c.req.seq }] }

/-- COMMIT (R489, R511): agreed in this row; its response leaves after the boundary. -/
def execCommit (r : Req) (s : State) : Host.Outcome State Fault Refusal :=
  match s.enter r false 0x13 [] 0 operator with
  | .isOver t => .next t
  | .on s1 x (some status) => .next (s1.finish r false x 0x13 status [])
  | .on s1 x none =>
    let (slot, t) := s1.popSlot r
    .next (t.agreeCommit { slot, req := r, session := x.num })

/-- DISCARD (R510): the session's shadow is empty. -/
def execDiscard (r : Req) (s : State) : Host.Outcome State Fault Refusal :=
  .next (s.request r false 0x14 [] 0 operator fun t x =>
    ok (t.modSession x.num fun y => { y with shadow := [] }))

/-- The response of a commit leaves for the session that sent it (R489); a closed session gets none, and its mailbox slot
goes back (R465). -/
def State.commitAnswer (s : State) (c : Commit) (status : Nat) (body : Bytes) : State :=
  let t := s.pushSlot c.slot
  match if c.closed then none else t.session c.session with
  | none => if c.slot.isSome then t.answerSlot .spi none else t
  | some x => t.finish (inSlot c.req c.slot) false x 0x13 status body

/-- A commit takes its place at the boundary (R300, R511): the joined rules, the pool, then every value together. -/
def State.applyCommit (s : State) (c : Commit) : State :=
  let ws := if c.closed then c.writes else ((s.session c.session).map (·.shadow)).getD []
  let indices := (ws.map fun w => w.1 / 256).eraseDups
  let t := s.putWrites ws
  let status := t.rulesStatus indices
  if status != 0 then s.commitAnswer c status []
  else match s.storeSettings t indices with
    | none => s.settingsRefused.commitAnswer c 0x0F []
    | some u =>
      let v := (State.valuesActed s u indices).modSession (if c.closed then 0 else c.session) fun y => { y with shadow := [] }
      (v.logKind 6 (c.session % 65536 + 65536 * ws.length)).commitAnswer c 0x00 (leBytes 4 s.patNo)

/-- COMMIT_APPLY (R511, R512): the commit agreed first is applied at the pattern start that follows its agreement. -/
def execCommitApply (s : State) : Host.Outcome State Fault Refusal :=
  .next (match s.sy.commits with
    | [] => s
    | c :: rest =>
      let t := if c.pattern < s.ns / 10000000 then s else s.runTo ((s.ns / 10000000 + 1) * 10000000)
      (t.modSy fun y => { y with commits := rest }).applyCommit c)

end Sys2Proof.Machine
end

