-- ==== Sys2Proof/Machine/Writes.lean ====
section
/-! DEFINITION. Writes: a Syben WRITE to any object, and the command records of the twin (R377, R487 to R489, R502 to
R510). -/

namespace Sys2Proof.Machine

/-! ### Objects (R377, R474) -/

/-- A write that acts on the unit written only, and does not travel (R377). -/
def unitObject (index sub : Nat) : Bool :=
  (index == 0x2280 && sub == 1) || index == 0x3481 || (0x2F80 ≤ index && index ≤ 0x2FFF) || index == 0x3081 ||
    index == 0x3084 || index == 0x3086 || index == 0x328B || index == 0x3380

/-- The objects whose writes need ENGINEER (R474, R549). -/
def engineerObject (index sub : Nat) : Bool :=
  (index == 0x2280 && sub ≤ 2) || [0x2889, 0x2989, 0x298F, 0x2D8D, 0x328B, 0x3084, 0x3481].contains index

/-- The roles that may write an object (R474). SAFE objects answer other sessions with 0x09 instead (R356). -/
def writeRole (index sub role : Nat) : Bool :=
  if index == 0x2C84 then anyRole role
  else if index == 0x2D8B || index == 0x2D8C then commissioning role
  else if engineerObject index sub then engineer role
  else match findObj index sub with
    | some o => if o.access = .safe then anyRole role else operator role
    | none => operator role

/-- The newest of the values that LIVE writes before this one have put, else the value in force (R513). -/
def State.ahead (s : State) (pick : Instr → Option Nat) (value : Nat) : Nat :=
  ((s.sy.live.filterMap fun l => if l.answer.isNone then pick l.cmd else none).getLast?).getD value

/-- The subsystem that owns a STOP object is stopped (R178, R236, R254, R303, R329, R407, R432, R436, R515), where the
records that act before this one have acted (R513). -/
def State.stopped (s : State) (index sub : Nat) : Bool :=
  match index / 256 with
  | 0x25 => s.provenOpen
  | 0x26 => s.provenOpen
  | 0x27 => s.provenOpen
  | 0x28 => s.provenOpen
  | 0x29 => s.ahead (fun c => match c with | .fabricStop _ v => some v | _ => none) (s.cfgGet 0x2989 0) == 1
  | 0x2A => s.ahead (fun c => match c with | .balanceEnable _ v => some v | _ => none) (s.cfgGet 0x2A80 1) == 0
  | 0x2C => s.pc.seq == 0
  | 0x30 => s.cfgGet 0x3080 1 == 0
  | 0x32 =>
    let k := if index == 0x328B then 2 else sub
    s.ahead (fun c => match c with | .controllerMode _ n v => if n == k then some v else none | _ => none) (s.ctl k).mode == 0
  | _ => s.provenOpen

/-! ### Values of the classes (R507 to R510) -/

/-- A staged value enters the session's shadow, in place of an earlier one for the object (R510). -/
def stage (shadow : List (Nat × Nat × Bytes)) (key : Nat) (b : Bytes) : List (Nat × Nat × Bytes) :=
  (shadow.filter fun w => w.1 != key) ++ [(key, 0, b)]

/-- The bytes a shadow holds. -/
def shadowSize (shadow : List (Nat × Nat × Bytes)) : Nat := (shadow.map fun w => w.2.2.length).foldl (· + ·) 0

/-- A write to a STAGED object (R510). -/
def State.writeStaged (s : State) (x : Session) (o : Obj) (sub v : Nat) : Answer :=
  if !valueOk s.id.variant o sub v then no s 0x0A
  else
    let now := ((s.session x.num).map (·.shadow)).getD []
    let next := stage now (objKey o.index sub) (leBytes o.bytes (s.valueTaken o.index sub v))
    if 4096 < shadowSize next then no s 0x11
    else ok (s.modSession x.num fun y => { y with shadow := next })

/-- A STOP value waits for its Takes effect entry, in place of an earlier one for the object (R508). -/
def waitPut (w : Tab Nat) (key v : Nat) : Tab Nat :=
  (w.filter fun p => p.1 < key) ++ (key, v) :: w.filter fun p => key < p.1

/-- The rules that refuse one STOP value (R181, R236, R437, R454, R511, R515): the status of the first that it breaks, with
the node IDs most recently accepted. -/
def State.stopStatus (s : State) (o : Obj) (sub v : Nat) : Nat :=
  let t := (s.stopWait.filter fun p => o.index == 0x1010 && p.1 / 256 == 0x1010).foldl
    (fun u p => u.cfgPut 0x1010 (p.1 % 256) p.2) s |>.cfgPut o.index sub v
  let waits := s.modStopWait fun w => waitPut w (objKey o.index sub) v
  if o.index == 0x328B && v == 1 && s.can2Named then 0x13
  else if (o.index == 0x2880 || o.index == 0x2881) && 512 < waits.groupSum then 0x0A
  else if o.index == 0x2C82 && sub == 3 && !bit (s.cfgGet 0x3283 v) 0 then 0x0A
  else t.rulesStatus [o.index]

/-- A write to a STOP object (R507, R509): refused while its subsystem runs; stored once accepted; it acts at once, or
waits for its Takes effect entry. -/
def State.writeStop (s : State) (o : Obj) (sub v : Nat) : Answer :=
  if !valueOk s.id.variant o sub v then no s 0x0A
  else if !s.stopped o.index sub then no s 0x0C
  else
    let k := s.stopStatus o sub v
    if k != 0 then no s k
    else
      let t := if o.effect = .row then s.cfgPut o.index sub v
        else s.modStopWait fun w => waitPut w (objKey o.index sub) v
      match s.storeSettings t [o.index] with
      | none => no s.settingsRefused 0x0F
      | some u => ok (if o.effect = .row then State.valuesActed s u [o.index] else u)

/-- A write into a table of the cell model (R240, R254, R506): it waits for the next fabric start. -/
def State.writeModel (s : State) (index offset n : Nat) (value : Bytes) : Answer :=
  if n < offset + value.length then no s 0x0A
  else if !s.stopped index 0 then no s 0x0C
  else
    let puts (w : Tab Nat) : Tab Nat :=
      ((List.range value.length).foldl (fun t k => tabPut 0 (index * 65536 + offset + k) (value.getD k 0 + 1) t) w)
    match s.storeSettings (s.modBytesWait puts) [index] with
    | none => no s.settingsRefused 0x0F
    | some u => ok u

/-- A write to a LIVE object without a row of its own (R507): RingPreTrigger and ErrorOptions. Every other LIVE object has
its row, which takes the values that it names; any other value is refused. -/
def State.writeLive (s : State) (o : Obj) (sub v : Nat) : Answer :=
  if valueOk s.id.variant o sub v && ((o.index == 0x2481 && sub ≤ 2) || o.index == 0x3288) then
    ok (s.cfgPut o.index sub v)
  else no s 0x0A

/-- What a WRITE does to the object it names, by its access class (R502 to R507). -/
def State.writeObject (s : State) (x : Session) (index sub offset : Nat) (value : Bytes) : Answer :=
  match modelLength index with
  | some n => if sub == 0 then s.writeModel index offset n value else no s 0x08
  | none => match findObj index sub with
    | none => no s (if (s.readObj index sub).isSome then (if index == 0x2C84 || index == 0x2886 || index == 0x3380 then 0x0A else 0x09) else 0x08)
    | some o =>
      if o.access = .safe && !commissioning x.role then no s 0x09
      else if offset != 0 || value.length != o.bytes then no s 0x0A
      else match o.access with
        | .live => s.writeLive o sub (leNat value)
        | .staged => s.writeStaged x o sub (leNat value)
        | .stop => s.writeStop o sub (leNat value)
        | .safe => no s 0x0A

/-! ### Objects with a row of their own -/

/-- The next free value as a bit: what a write cannot know of the world outside the module (assumption 4). -/
def State.freeBit (s : State) : Bool := s.freeNat % 2 == 1

/-- The content of a sample ring, which a write does not carry (assumption 4). -/
def State.freeRing (s : State) : List Int := (List.range 4096).map fun k => ofWord 16 (Config.free (s.freeCount + k))

/-- The command that a whole write to an object with a row of its own is (R507); none where no row takes the value. -/
def State.ownRow (s : State) (r : Req) (index sub : Nat) (value : Bytes) : Option (Host.Outcome State Fault Refusal) :=
  let v := leNat value
  let free := s.freeBit
  let t := s.takeFree
  let agrees := s.ty.state != .member || free
  match index, sub with
  | 0x1A01, 0 => if value.length == 1 then some (execFaultAcknowledge r v s) else none
  | 0x2280, 1 => if value.length == 1 then some (execSoftwareReset r v s) else none
  | 0x2280, 2 => if value.length == 1 then some (execBindOff r v free agrees t) else none
  | 0x2387, 0 => if value.length == 1 then some (execSoftwareTrigger r v s) else none
  | 0x2481, 3 => if value == [1] then some (execRingArm r 0 s)
      else if value == [2] then some (execRingSoftwareTrigger r 0 s.freeRing (s.modFreeCount (· + 4096))) else none
  | 0x2481, 4 => if value == [1] then some (execRingArm r 1 s)
      else if value == [2] then some (execRingSoftwareTrigger r 1 s.freeRing (s.modFreeCount (· + 4096))) else none
  | 0x2781, 0 => if value.length == 1 then some (execAuxCoilCommand r v s) else none
  | 0x2886, 0 => if value.length == 12 then some (execStepRequest r (stampOf value) s) else none
  | 0x2889, 0 => if value == [1] then some (execRenewRing r s) else none
  | 0x2989, 0 => if value.length == 1 then some (execFabricStop r v s) else none
  | 0x298F, 0 => if value == [0x5C] then some (execLearnedStateReset r s) else none
  | 0x2A80, 1 => if value.length == 1 then some (execBalanceEnable r v s) else none
  | 0x2C84, 0 => if value.length == 36 then some (execLeaseWrite r value s) else none
  | 0x2D8A, 0 => if value.length == 1 then some (execSafetyInputReset r v s) else none
  | 0x2D8B, 0 => if value.length == 4 then some (execSafetySetConfirm r v agrees t) else none
  | 0x2D8C, 0 => if value == [1] then some (execSafetySetRevert r s) else none
  | 0x2D8D, 0 =>
    if value == [1] then some (execProofTestAutomated r (if free then none else some (t.freeNat % 16)) t.takeFree)
    else if value == [2] then some (execProofTestRecord r s)
    else if value == [3] then some (execProofTestTrip r s)
    else if value == [4] then some (execProofTestUvrDrop r s) else none
  | 0x2F81, 0 => if value.length == 1 then some (execHandOverRequest r v s) else none
  | 0x2F82, 0 => if value.length == 1 then some (execRejoinRequest r v s) else none
  | 0x3083, 0 => if value.length == 1 then some (execStepAccept r v s) else none
  | 0x3086, 0 => if value.length == 8 then some (execIncrementWrite r v s) else none
  | 0x3087, 0 => if value.length == 8 then some (execTimeStepRequest r (ofWord 64 v) s) else none
  | 0x3280, k => if value.length == 1 && (k == 1 || k == 2) then some (execControllerMode r k v s) else none
  | 0x328A, k => if value.length == 1 && (k == 1 || k == 2) then some (execRecoverRequest r k v s) else none
  | 0x3380, k => if !(k == 1 || k == 2) then none
      else if value == [1] then some (execHostEngineClaim r (k + 5) s)
      else if value == [0] then some (execHostEngineRelease r (k + 5) s) else none
  | 0x3481, 0 => if value.length == 1 then some (execRecoveryRequest r v s) else none
  | _, _ => match findObj index sub with
    | some o => if o.access = .safe && value.length == o.bytes then some (execSafeObjectWrite r index sub value free t) else none
    | none => none

/-- A write that takes effect at the next row without a row of its own (R507, R508): a LIVE object, or a STOP object whose
Takes effect entry is the next row. -/
def nextRowWrite (index sub offset : Nat) : Bool :=
  offset == 0 && (findObj index sub).any fun o => o.access = .live || (o.access = .stop && o.effect = .row)

/-- A WRITE to any object: the command of its own row, or its class's rule (R507). -/
def State.writeAny (s : State) (r : Req) (index sub offset : Nat) (value : Bytes) : State :=
  match if offset == 0 then s.ownRow r index sub value else none with
  | some o => outcomeState s o
  | none =>
    if nextRowWrite index sub offset then
      s.liveReq r (unitObject index sub) index sub value (writeRole index sub) (.write r index sub offset value) fun t x =>
        t.writeObject x index sub offset value
    else s.writeAt r (unitObject index sub) index sub offset value (writeRole index sub) fun t x =>
      t.writeObject x index sub offset value

/-- WRITE (R488, R489, R507). -/
def execWrite (r : Req) (index sub offset : Nat) (value : Bytes) (s : State) : Host.Outcome State Fault Refusal :=
  .next (s.writeAny r index sub offset value)

/-! ### Command records of the twin (R377, R380, R487) -/

/-- The request that a command record stands for in its session, with the MAC the session's client would form. -/
def recordReq (x : Session) (c : CmdRecord) : Req :=
  let r : Req := { source := .twinSpi, version := x.version, session := x.num, seq := c.seq }
  { r with mac := macOf x.c2m false (reqCovered r 0x11 (writePayload r c.index c.sub c.offset c.value)) }

/-- LIVE writes that a command record has brought are the twin's, and answer the session's client from here as from there
(R377, R470). -/
def Live.fromTwin (x : Session) (l : Live) : Live :=
  { l with
    theirs := true, sess := { l.sess with source := x.source }
    req := { l.req with
      source := if x.source = .spi then .twinSpi else x.source, prio := x.prio, xl := x.xl, sfp := x.sfp } }

/-- A write of the twin's acts here as it acted there, and this unit releases the same response to the session's source
(R377, R470); nothing of it travels back. -/
def State.applyWrite (s : State) (x : Session) (c : CmdRecord) : State :=
  let as' (src : Source) (t : State) : State := t.modSession x.num fun y => { y with source := src }
  let t := as' x.source ((as' .twinSpi s).writeAny (recordReq x c) c.index c.sub c.offset c.value)
  let n := s.sy.live.length
  let u := (t.modTy fun y => { y with cmdsDue := s.ty.cmdsDue, longDue := s.ty.longDue }).modSy fun y =>
    { y with live := y.live.take n ++ (y.live.drop n).map (Live.fromTwin x) }
  match (u.session x.num).bind (·.cached) with
  | none => u
  | some m =>
    if x.source = .spi then u
    else u.deliver { source := x.source, session := x.num, prio := x.prio, xl := x.xl, sfp := x.sfp } m

/-- Another request of the twin's in a session acts here (R487): the session's sequence and idle timer, a commit, an
emptied shadow, a closed session, a step announcement. -/
def State.applyRequest (s : State) (x : Session) (c : CmdRecord) : State :=
  let t := s.modSession x.num fun y => { y with high := c.seq, idleFrom := s.tb.now, cached := none }
  match c.sub with
  | 0x04 => t.closeSession x.num
  | 0x13 => if operator x.role then
      t.agreeCommit { req := { source := if x.source = .spi then .twinSpi else x.source, version := x.version
                               session := x.num, seq := c.seq, prio := x.prio, xl := x.xl, sfp := x.sfp }
                      session := x.num }
    else t
  | 0x14 => if operator x.role then t.modSession x.num fun y => { y with shadow := [] } else t
  | 0x40 => if announcer x.role && bit (t.cfgGet 0x2885 2) 1 then (t.requestStep (stampOf c.value)).1 else t
  | _ => t

/-- A command record of the agreed input set acts (R377, R487): for the session of its client, once by its sequence; the
holder's time step acts on a MEMBER (R430). -/
def State.applyRecord (s : State) (c : CmdRecord) : State :=
  if c.index == 0x3083 && c.value.length == 8 then (if s.followsSteps then s.modTb fun t => { t with stepAgreed := some (ofWord 64 (leNat c.value)) } else s)
  else if c.index == 0x2C84 && c.node == 0 then s.fireRecord c
  else if c.via.isSome then (match c.via with | some r => if s.decides then s.takePassed r c.sub c.value else s | none => s)
  else match s.sy.sessions.find? fun x => x.client == c.node && x.high < c.seq with
  | none => s
  | some x => if c.index == 0 then s.applyRequest x c else s.applyWrite x c

end Sys2Proof.Machine
end

