-- ==== Sys2Proof/Machine/Twin.lean ====
section
/-! DEFINITION. Twin: pairing and its relation, LOCK, the frames of Twin Yarn, cell data agreement, joins and the
switch-over (R365 to R385, R394 to R405). What a row or a pattern does with them stands in Rows. -/

namespace Sys2Proof.Machine

/-! ### HELLO (R369, R370) -/

/-- The newest rest-reference stamp of the contexts (R273, R369). -/
def State.restRef (s : State) : Stamp :=
  s.ef.ctx.foldl (fun m p => if stampBefore m p.2.refStamp then p.2.refStamp else m) {}

/-- SetCheckConfirmed, 0 if none (R369). -/
def State.ownCheck (s : State) : Nat := if s.si.setConfirmed then s.si.checkConfirmed else 0

/-- The unit runs as MEMBER, or holds the claim as SOLO or ALONE (R369). -/
def State.runs (s : State) : Bool :=
  s.ty.state == .member || (s.os.gate && (s.ty.state == .solo || s.ty.state == .alone))

/-- This unit's HELLO (R369). -/
def State.ownHello (s : State) : Hello :=
  { variant := s.id.variant, side := b2n s.ty.sideB, serial := s.id.serial, node := s.id.nodeId, stepNo := s.id.stepNo
    learnedFormat := s.id.learnedFormat, setCheck := s.ownCheck
    flags := b2n s.ty.hello.isSome + 2 * b2n (s.pm.state == .ready) + 4 * b2n s.runs + 8 * b2n s.si.setConfirmed +
      16 * b2n s.os.gate
    pairNode := s.pairNodeId, pairSeq := s.ty.journaled, restRef := s.restRef, digest := s.learnedDigest }

/-- HELLO_SEND (R370): every 1 ms from cast-on step 7 while the unit is not paired. -/
def execHelloSend (s : State) : Host.Outcome State Fault Refusal :=
  .next (if s.deaf || s.ty.paired || s.pm.step < 6 then s else s.toTwin (.hello s.ownHello))

/-! ### The relation of a pair (R366, R372 to R374, R400) -/

/-- The unit becomes a standby observer (R372, R399, R400); step 7 ends (R366). -/
def State.observe (s : State) (reason : Nat) : State :=
  (s.modTy fun y => { y with state := .observer, joinState := 0, refusal := if reason == 0 then y.refusal else reason }).modPm
    fun p => { p with step7Done := true }

/-- The unit runs the string alone (R398); step 7 ends. It is no standby observer: 0x0F08 ends. -/
def State.goSolo (s : State) : State :=
  ((s.clearCond 0x0F08).modTy fun y => { y with state := .solo, joinState := 0, transferDue := false, lockPl := none, memberDue := false }).modPm
    fun p => { p with step7Done := true }

/-- This unit is the active one of a pair whose step numbers differ (R372): the claim holder; else the one with a
confirmed set; else the higher step number; else side A. -/
def State.activeOf (s : State) (h : Hello) : Bool :=
  if s.os.gate || bit h.flags 4 then s.os.gate
  else if s.si.setConfirmed != bit h.flags 3 then s.si.setConfirmed
  else if s.id.stepNo != h.stepNo then h.stepNo < s.id.stepNo
  else !s.ty.sideB

/-- The source of the learned state (R273, R373): 0 none, 1 side A, 2 side B. Here neither unit holds the claim. -/
def State.learnedFrom (s : State) (h : Hello) : Nat :=
  if h.digest == s.learnedDigest then 0
  else
    let ownLater := stampBefore h.restRef s.restRef
    let twinLater := stampBefore s.restRef h.restRef
    let aLater := if s.ty.sideB then twinLater else ownLater
    let bLater := if s.ty.sideB then ownLater else twinLater
    if aLater then 1 else if bLater then 2 else 1

/-- The pattern that starts at least 20 ms from now (R373, R401). -/
def State.patternAhead (s : State) : Nat := (s.ns + 20000000 + 9999999) / 10000000 % 2 ^ 32

/-- Both units are casting on (R373): side A sends LOCK. At version 1 with differing digests side B observes. -/
def State.lockSend (s : State) (h : Hello) : State :=
  let src := s.learnedFrom h
  if s.ty.version < 2 && src != 0 then if s.ty.sideB then (s.observe 4).raiseCond 0x0F08 else s.goSolo
  else if s.ty.sideB then s
  else
    let pl := s.patternAhead
    let seq := (max s.ty.journaled h.pairSeq + 2 ^ 24) % 2 ^ 30
    (s.modTy fun y => { y with lockPl := some (BitVec.ofNat 32 pl), lockSource := src, lockSeq := seq }).toTwin
      (.lock pl src seq)

/-- The units' sets do not confirm each other (R372): the unit that does not hold the claim treats its set as unconfirmed,
and lockstep proceeds. -/
def State.setsDisagree (s : State) (h : Hello) : State :=
  if s.ownCheck == h.setCheck && s.si.setConfirmed && bit h.flags 3 then s
  else
    let t := (s.modTy fun y => { y with refusal := 5 }).raiseEvent 0x0F0D
    if s.os.gate then t else (t.modSi fun i => { i with setConfirmed := false }).raiseCond 0x0D0C

/-- The learned-state records as they stand (R270, R273). -/
def State.learnedRecords (s : State) : List (Nat × List Int) := learnedIds.map fun id => (id, (s.recall id).getD [])

/-- The slots of the key store (R475, R478). -/
def State.keyStoreItem (s : State) : List (Bytes × Bytes) :=
  (List.range 7).map fun i => ((s.keySlot (i + 1)).salt, (s.keySlot (i + 1)).key)

/-- The key under which this unit and its twin exchange their key stores (R478). -/
def State.transferKey (s : State) : Bytes :=
  let twin := (s.ty.hello.map (·.serial)).getD 0
  if s.ty.sideB then Config.transferKey twin s.id.serial else Config.transferKey s.id.serial twin

/-- A slot wrapped under the transfer key, or unwrapped (R478). -/
def wrapSlot (key : Bytes) (p : Bytes × Bytes) : Bytes × Bytes :=
  let b := sealBytes key (padBytes 16 p.1 ++ padBytes 32 p.2)
  (b.take 16, b.drop 16)

/-- The key store as it travels (R478). -/
def State.wrappedStore (s : State) : List (Bytes × Bytes) := s.keyStoreItem.map (wrapSlot s.transferKey)

/-- A unit sends its key store and, as the source, its learned state (R273, R478). -/
def State.sendTransfers (s : State) (keys learned : Bool) : State :=
  s.modTy fun y => { y with longDue := y.longDue ++
    (if keys then [.command (.keyStore s.wrappedStore)] else []) ++ if learned then [.records s.learnedRecords] else [] }

/-- The pair's relation once pairing is complete (R372). -/
def State.relate (s : State) (h : Hello) : State :=
  let t := s.setsDisagree h
  if t.id.stepNo != h.stepNo then
    if t.activeOf h then t.goSolo.sendTransfers false (2 ≤ t.ty.version && h.digest != t.learnedDigest)
    else (t.observe 3).raiseCond 0x0F08
  else if bit h.flags 2 && !t.os.gate then
    if 2 ≤ t.ty.version then ((t.modPm fun p => { p with step7Done := true }).modTy fun y => { y with state := .observer }).joinStart
    else (t.observe 4).raiseCond 0x0F08
  else if t.runs then t
  else (t.modTy fun y => { y with state := .pairing }).lockSend h

/-- Pairing is complete (R370, R371, R374): the version, PairNodeId, then the relation; 0x0F01 and 0x0F04 end. The HELLO that shows the twin its
own reception leaves before the unit stops sending. -/
def State.pairUp (s : State) (h : Hello) : State :=
  let t := (s.modTy fun y => { y with
    paired := true, version := min 2 h.tyHigh, pairNode := if y.sideB then h.node else s.id.nodeId
    refusal := 0, segments := [], absentRun := 0, split := false, delay := h.roundTrip / 2 }).toTwin (.hello s.ownHello)
  (((t.journal 0x0001 (t.settingsBody 0x0001)).clearCond 0x0F01).clearCond 0x0F04).relate h

/-- TWIN_HELLO (R366, R370): sides that are equal, or another variant or device type, refuse the pair until the next
cast-on; with bit 0 set the pairing is complete. -/
def execTwinHello (h : Hello) (s : State) : Host.Outcome State Fault Refusal :=
  .next (if s.deaf || s.pm.step < 6 then s
    else
      let t := s.modTy fun y => { y with hello := some h }
      if s.ty.state == .refused then t
      else
        let bad := if (h.side == 1) == s.ty.sideB then 1 else if h.variant != s.id.variant || h.device != 0x8100 then 2 else 0
        if bad != 0 then (t.modTy fun y => { y with state := .refused, refusal := bad, paired := false }).raiseCond 0x0F02
        else if s.ty.paired then (if bit h.flags 0 then t else t.modTy fun y => { y with paired := false })
        else if bit h.flags 0 then t.pairUp h
        else t)

/-- PAIR_WAIT_EXPIRY (R366): without a HELLO the unit is SOLO with 0x0F01, or ALONE; step 7 ends. -/
def execPairWaitExpiry (s : State) : Host.Outcome State Fault Refusal :=
  .next (if s.pm.state != .castOn || s.pm.step < 6 || s.pm.step7Done then s
    else if s.ty.hello.isNone && s.ty.state == .pairing then
      if s.cfgGet 0x2F80 1 == 1 then s.goSolo.raiseCond 0x0F01
      else (s.modTy fun y => { y with state := .alone }).modPm fun p => { p with step7Done := true }
    else s.modPm fun p => { p with step7Done := true })

/-! ### LOCK and the transfers before lockstep (R273, R373, R478) -/

/-- LOCK (R373): side B answers with the same values; the source of the learned state sends it, and side A, where neither
unit holds the claim, its key store (R478). -/
def execLockFrame (pl source seq : Nat) (s : State) : Host.Outcome State Fault Refusal :=
  .next (if s.deaf || !s.ty.paired || s.ty.state != .pairing then s
    else
      let mine := source != 0 && (source == 2) == s.ty.sideB
      if s.ty.sideB then
        if s.ty.lockPl.isSome then s
        else ((s.modTy fun y => { y with
          lockPl := some (BitVec.ofNat 32 pl), lockSource := source, lockSeq := seq % 2 ^ 30
          transferDue := source != 0 && !mine }).toTwin (.lock pl source seq)).sendTransfers false mine
      else if s.ty.lockPl == some (BitVec.ofNat 32 pl) then
        (s.modTy fun y => { y with transferDue := source != 0 && !mine }).sendTransfers true mine
      else s)

/-- Learned-state records of the twin are adopted (R273): the contexts are built from them, the journal takes them, and
0x0909 is raised where they differ. Records of a format that this skein does not convert are left aside. -/
def State.adoptRecords (s : State) (rs : List (Nat × List Int)) : State :=
  if !s.formatKnown (((rs.find? (·.1 == 0x0430)).map (·.2)).getD []) then s
  else
    let own := s.nv.records
    let t := (s.modNv fun n => { n with records := rs.foldl (fun m (id, l) =>
      tabPut {} id { a := { payload := l }, b := { payload := l } } m) own }).restoreLearned s.pm.afterFail
    let u := t.modNv fun n => { n with records := own }
    let v := (rs.foldl (fun w (id, l) => w.journal id l) u).modEf fun e => { e with learnedSource := 1 }
    if rs == s.learnedRecords then v else v.raiseEvent 0x0909

/-- The key store of the twin, unwrapped: adopted where it differs (R478). -/
def State.takeKeys (s : State) (slots : List (Bytes × Bytes)) : State :=
  let pad (l : List (Bytes × Bytes)) : List (Bytes × Bytes) := l.map fun (a, b) => (padBytes 16 a, padBytes 32 b)
  let plain := slots.map (wrapSlot s.transferKey)
  let own (p : Bytes × Bytes) : Bytes × Bytes := if p.1.all (· == 0) && p.2.all (· == 0) then ([], []) else p
  if plain == pad s.keyStoreItem then s else s.adoptKeys (plain.map own)

/-- Lockstep begins at P_L (R373, R405): MEMBER, the pair sequence of the LOCK, the fabric from the journal; step 7
ends. -/
def State.lockstep (s : State) : State :=
  let t := s.modTy fun y => { y with
    state := .member, lockPl := none, counter := y.lockSeq, origin := 0, lockstepStamp := s.tb.now, diffRun := 0
    absentRun := 0, joinState := 0, pairReaction := s.fm.pairOwn.code }
  ((if t.ef.learnedSource == 1 then t else t.restoreLearned t.pm.afterFail).clearCond 0x0F08).modPm fun p => { p with step7Done := true }

/-! ### ROW_INPUT, CELL_INDEX, DIGEST (R377, R379, R383) -/

/-- ROW_INPUT (R368, R377): of the present row. -/
def execRowInput (m : RowInput) (s : State) : Host.Outcome State Fault Refusal :=
  .next (if s.deaf || m.row != s.rowCount then s else s.modTy fun y => { y with rowIn := some m })

/-- CELL_INDEX (R379). -/
def execCellIndex (crcs : List Nat) (s : State) : Host.Outcome State Fault Refusal :=
  .next (if s.deaf then s else s.modTy fun y => { y with cellIdx := some crcs })

/-- DIGEST (R383): of the present row. -/
def execDigest (m : DigestMsg) (s : State) : Host.Outcome State Fault Refusal :=
  .next (if s.deaf || m.row != s.rowCount then s else s.modTy fun y => { y with digestRx := some m })

/-- This unit's CELL_INDEX (R368): the CRC of the DATA frame accepted from each CMU for the pattern, 0 if none. -/
def State.ownIndex (s : State) : List Nat :=
  (List.range 32).map fun k => if (s.cmu (k + 1)).delivered == some s.patNo then (s.cmu (k + 1)).dataCrc else 0

/-- A CMU's frame of this pattern is not agreed (R379): its groups and sensors keep the values they had, a pattern older. A
frame that waits enters at the next cut-off. -/
def State.holdFrame (s : State) (c : Nat) (waits : Bool) : State :=
  let base := s.firstGroup c
  let t := (List.range (s.groupsOf c)).foldl (fun u g => u.modGroup (base + g) fun x =>
    if x.age != 0 then x
    else { x with voltage := x.heldV, stamp := x.heldStamp, age := min 255 (x.heldAge + 1)
                  flags := x.flags / 2 * 2 + b2n (3 ≤ x.heldAge) }) s
  let u := (List.range 8).foldl (fun u k => u.modSensor (8 * (c - 1) + k) fun x =>
    if x.age != 0 then x else { x with temp := x.heldT, age := min 255 (x.heldAge + 1) }) t
  u.modCmu c fun x => { x with lateFrame := waits }

/-- The cell data of each CMU is agreed (R379): a frame that only this unit holds goes to the twin and waits for the next
cut-off; where both hold different frames, the ring driver's does (DEDUCED, assumption 97). -/
def State.agreeCells (s : State) (twin : List Nat) : State :=
  let apart := (List.range 32).filter fun k =>
    let a := s.ownIndex.getD k 0
    a != 0 && a != twin.getD k 0
  let goes (k : Nat) : Bool := twin.getD k 0 == 0 || s.cl.driver
  let t := apart.foldl (fun u k => u.holdFrame (k + 1) (goes k)) s
  t.modTy fun y => { y with
    longDue := y.longDue ++ (apart.filter goes).filterMap fun k => (s.cmu (k + 1)).frame.map PatternItem.dataFrame }

/-- A DATA frame that the twin holds (R379): both units use it in the next pattern at age 1, unless fresh data replaces it. -/
def State.takeFrame (s : State) (m : CellData) : State :=
  if m.cmu == 0 || 32 < m.cmu || (m.pattern != s.patNo && (m.pattern + 1) % 2 ^ 32 != s.patNo) then s
  else s.modCmu m.cmu fun x => { x with
    status := m.status % 256, link := x.link, dieTemp := dieOf m, bleedMask := m.bleed % 2 ^ 24
    delivered := some m.pattern, frame := some m, lost := false, lateFrame := true
    masks := (m.bleed % 2 ^ 24) :: x.masks.take 3 }

/-! ### PATTERN_DATA (R368, R380) -/

/-- A long command of the twin acts (R380, R478, R487). -/
def State.takeCommand (s : State) : LongCommand → State
  | .write c => s.applyRecord c
  | .challenge own r role options client version nc nm => s.takeChallenge own r role options client version nc nm
  | .acceptance own r nc num => s.takeAcceptance own r nc num
  | .declined own r opcode status => s.takeDeclined own r opcode status
  | .keySet client seq slot salt key =>
    match s.sy.sessions.find? fun x => x.client == client with
    | none => s.putKey slot salt key
    | some x =>
      let t := (s.modSession x.num fun y => { y with high := max y.high seq, idleFrom := s.tb.now }).putKey slot salt key
      if slot == 6 then t.closeSession x.num else t
  | .keyStore slots => s.takeKeys slots

/-- A lease from an entry of the lease table (R330). -/
def leaseOfEntry (b : Bytes) (now : Stamp) : Lease :=
  { leaseOf (b.take 36) (leNat ((b.drop 36).take 2)) now with
    rows := leNat ((b.drop 38).take 4), written := stampOf ((b.drop 42).take 12) }

/-- A session as the holder's snapshot gives it (R401, R487): a session over the holder's host SPI port is the twin's
here. -/
def joinedSession (m : SessionItem) (now : Stamp) : Session :=
  { num := m.num, role := m.role, source := atTwin false m.source, client := m.client, events := m.events
    version := m.version, high := m.high, c2m := m.c2m, m2c := m.m2c, prk := m.prk, idleFrom := now }

/-- The holder's snapshot (R401), as at the start of P_s. -/
def State.ownSnapshot (s : State) : Snapshot :=
  { ps := s.patNo, pairSeq := s.ty.origin * 2 ^ 30 + s.ty.counter, seq := s.pc.seq, connect := s.de.connect
    reaction := s.fm.pairOwn.code
    leases := (List.range s.de.leases.length).map fun k => (s.readObj 0x2C10 (k + 1)).getD []
    sessions := s.sy.sessions.map fun x =>
      { num := x.num, role := x.role, source := x.source, client := x.client, events := x.events, version := x.version
        high := x.high, c2m := x.c2m, m2c := x.m2c, prk := x.prk }
    records := ((List.range 8).map fun k => (0x0400 + k, s.socRecord k)) ++
      ((List.range 16).map fun k => (0x0410 + k, s.capRecord k)) ++
      ((List.range 8).map fun k => (0x0420 + k, s.impRecord k)) ++ [(0x0430, s.strRecord)] }

/-- The joining unit loads the snapshot (R401). -/
def State.loadSnapshot (s : State) (m : Snapshot) : State :=
  let t := s.adoptRecords m.records
  (((t.modTy fun y => { y with
    counter := m.pairSeq % 2 ^ 30, origin := m.pairSeq / 2 ^ 30 % 4, pairReaction := m.reaction, joinState := 3 }).modPc
      fun c => { c with seq := m.seq }).modDe fun d => { d with
        connect := m.connect, leases := m.leases.map fun b => leaseOfEntry b s.tb.now }).modSy fun y =>
          { y with sessions := m.sessions.map fun x => joinedSession x s.tb.now }

/-- An assembled item acts (R273, R379, R380, R401). Nothing that arrives from the twin goes back to it. -/
def State.takeItem (s : State) (x : PatternItem) : State :=
  let t := match x with
    | .dataFrame m => s.takeFrame m
    | .stepData cmu ident group first samples => outcomeState s (execStepData cmu ident group first samples s)
    | .command c => s.takeCommand c
    | .records rs => if s.ty.transferDue || s.ty.state == TwinState.observer then
        (s.adoptRecords rs).modTy fun y => { y with transferDue := false } else s
    | .snapshot m => if s.ty.state == TwinState.joining && s.ty.joinState == 2 && m.ps == s.ty.joinPs.toNat then s.loadSnapshot m else s
  t.modTy fun y => { y with longDue := s.ty.longDue }

/-- PATTERN_DATA (R368, R371): segments are assembled in index order by kind; a gap drops the item. The learned-state
records and the snapshot need version 2. -/
def execPatternData (kind index total bytes : Nat) (item : PatternItem) (s : State) : Host.Outcome State Fault Refusal :=
  .next (if s.deaf || !s.ty.paired || kind != itemKind item || 504 < bytes || (4 ≤ kind && s.ty.version < 2) then s
    else
      let others := s.ty.segments.filter fun x => x.1 != kind
      let had := if index == 0 then some 0
        else (s.ty.segments.find? fun x => x.1 == kind && x.2.1 == index).map fun x => x.2.2
      match had with
      | none => s.modTy fun y => { y with segments := others }
      | some n =>
        if n + bytes < total then s.modTy fun y => { y with segments := (kind, index + 1, n + bytes) :: others }
        else (s.modTy fun y => { y with segments := others }).takeItem item)

/-! ### Leaving and joining (R398 to R402) -/

/-- The pair is undone: the twin's HELLO is awaited again (R398, R399). -/
def State.unpair (s : State) : State :=
  s.modTy fun y => { y with paired := false, hello := none, segments := [], rowIn := none, digestRx := none, cellIdx := none
                            cmdsDue := [], longDue := [], longSent := 0, snapDue := false, memberDue := false, rejoinDue := false }

/-- BYE (R368): the twin leaves; this unit runs on alone. -/
def execBye (reason : Nat) (s : State) : Host.Outcome State Fault Refusal :=
  .next (if s.deaf || !s.ty.paired || reason == 0 || 4 < reason then s
    else
      let t := s.unpair
      if t.ty.state == .pairing || t.ty.state == .refused then t.modTy fun y => { y with lockPl := none, transferDue := false }
      else t.goSolo)

/-- JOIN_REQUEST (R401): a running holder answers with P_s. -/
def execJoinRequest (s : State) : Host.Outcome State Fault Refusal :=
  .next (if s.deaf || !s.ty.paired || s.ty.version < 2 || !s.os.gate then s
    else
      let ps := s.patternAhead
      ((s.modTy fun y => { y with state := .solo, joinPs := BitVec.ofNat 32 ps, snapDue := true, memberDue := false }).toTwin
        (.join 2 ps)))

/-- JOIN_SNAPSHOT_BEGINS (R401). -/
def execJoinSnapshotBegins (ps : Nat) (s : State) : Host.Outcome State Fault Refusal :=
  .next (if s.deaf || s.ty.state != .joining || s.ty.joinState != 1 then s
    else s.modTy fun y => { y with joinState := 2, joinPs := BitVec.ofNat 32 ps })

/-- JOIN_JOINED (R401): the holder treats the twin as a member from the next pattern start. -/
def execJoinJoined (s : State) : Host.Outcome State Fault Refusal :=
  .next (if s.deaf || !s.ty.paired || s.ty.state != .solo then s else s.modTy fun y => { y with memberDue := true })

/-- A join fails (R402): OBSERVER; after the third failure within 10 min 0x0F06, else it starts again 1 s later. -/
def State.joinFail (s : State) : State :=
  let recent := s.tb.now :: s.ty.joinStamps.filter fun t => t.epoch == s.tb.now.epoch && s.ns < stampNs t + 600000000000
  let t := s.modTy fun y => { y with
    state := .observer, joinState := 0, joinStamps := recent, joinFails := min 255 (y.joinFails + 1)
    joinRetry := decide (recent.length < 3) }
  if 3 ≤ recent.length then t.raiseEvent 0x0F06 else t

/-- JOIN_CATCH_UP_TIMEOUT (R402): not caught up within 64 patterns of P_s. -/
def execJoinCatchUpTimeout (s : State) : Host.Outcome State Fault Refusal :=
  .next (if s.ty.state == .joining then s.joinFail else s)

/-- JOIN_RETRY (R402). -/
def execJoinRetry (s : State) : Host.Outcome State Fault Refusal :=
  .next (if s.ty.state == .observer && s.ty.joinRetry && s.ty.paired then s.joinStart else s)

/-! ### A claim taken (R395 to R397, R405) -/

/-- The coils that a SequenceState requires (R179, R181, R397), bit n - 1 for coil n: in steps 2 and 3 of the connect sequence
PRECHG, from step 3 MAIN_NEG, from step 4 MAIN_POS. -/
def seqCoils (seq : Nat) : Nat :=
  match seq with
  | 2 => 4 | 3 => 6 | 4 => 7 | 5 => 3 | 6 => 3 | _ => 0

/-- The unit takes the claim (R395 to R397): the switch-over is counted; every coil that the twin last drove, or that the
twin's SequenceState requires, is driven, at economised hold, and a pull-in of the twin's goes on from its start (R95). Kind 1 orderly, 2 fault, 3 silent. -/
def State.takeClaim (s : State) (kind : Nat) : State :=
  let t := s.modTy fun y => { y with
    switchovers := y.switchovers + 1, lastSwitch := s.tb.now, lastKind := kind
    origin := if kind == 3 then 1 + b2n y.sideB else y.origin }
  let drive (u : State) (n : Nat) : State :=
    if bit (s.ty.twinCoils ||| seqCoils s.ty.twinSeq) (n - 1) && !(s.coil n).shorted then
      u.modCoil n fun c => { c with cmd := true, drive := true, phase := if s.ty.twinPull == n then 1 else 2, reached := false, lowRows := 0 }
    else u
  let u := [1, 2, 3, 4].foldl drive t
  let ago : Int := shortDiff s.short s.ty.twinPullStart
  let v := if s.ty.twinPull == 0 then u
    else u.modPm fun p => { p with
      pullIn := s.ty.twinPull, lastPullIn := some (stampAt s.tb.now.epoch ((s.ns : Int) - ago).toNat) }
  let w := v.raiseEvent (if kind == 3 then 0x0F0A else 0x0F09)
  if kind == 3 then w.goSolo
  else if kind == 2 && (s.ty.state == .observer || s.ty.state == .joining) then w.goSolo
  else w

end Sys2Proof.Machine
end

