-- ==== Sys2Proof/Machine/Live.lean ====
section
/-! DEFINITION. Live: what the LIVE writes do in the row after the one in which they are agreed (R377, R489, R507, R508,
R513). -/

namespace Sys2Proof.Machine

/-- What a LIVE write does when its row comes (R507, R508): the effect of the command that wrote it. Other commands do not
wait. -/
def State.liveAct (t : State) (x : Session) (cmd : Instr) : Answer :=
  match cmd with
  | .faultAcknowledge _ v => t.ackAct x v
  | .softwareReset _ v => t.resetAct v 0xA5 1
  | .recoveryRequest _ v => t.resetAct v 0x5A 2
  | .bindOff _ v low agrees => t.bindAct v low agrees
  | .ringArm _ p => t.ringArmAct p
  | .ringSoftwareTrigger _ p ring => ok (t.ringTrigger p ring)
  | .softwareTrigger _ lines => t.softTrigAct lines
  | .auxCoilCommand _ v => t.auxCoilAct v
  | .stepRequest _ ts => t.stepRequestAct ts
  | .fabricStop _ v => t.fabricStopAct v
  | .learnedStateReset _ => t.learnedResetAct
  | .balanceEnable _ v => t.balanceEnableAct v
  | .leaseWrite _ b => t.leaseAct x b
  | .safetyInputReset _ b => t.inputReset b
  | .safetySetConfirm _ v agrees => t.confirmSet v agrees
  | .safetySetRevert _ => t.revertSet
  | .proofTestAutomated _ failed => t.proofRun failed
  | .proofTestRecord _ => t.proofRecord
  | .proofTestTrip _ => t.proofTrip
  | .proofTestUvrDrop _ => t.proofUvr
  | .rejoinRequest _ v => t.rejoinAct v
  | .handOverRequest _ v => t.handOverAct v
  | .stepAccept _ v => t.stepAcceptAct v
  | .timeStepRequest _ e => t.timeStepAct e
  | .incrementWrite _ v => t.incrementAct v
  | .controllerMode _ k v => t.controllerModeAct k v
  | .recoverRequest _ k v => t.recoverAct k v
  | .hostEngineClaim _ e => t.engineClaimAct x e
  | .hostEngineRelease _ e => t.engineReleaseAct x e
  | .read _ index sub offset length => t.readPart index sub offset length
  | .readList _ count items => t.readItems count items
  | .write _ index sub offset value => t.writeObject x index sub offset value
  | _ => ok t

/-- A LIVE write that takes effect at a pattern start (R254, R272, R274, R508). -/
def patternLive : Instr → Bool
  | .fabricStop _ _ => true
  | .learnedStateReset _ => true
  | _ => false

/-- A waiting LIVE write acts now: it is agreed, has not acted, and belongs to this kind of instant. -/
def Live.due (pattern : Bool) (l : Live) : Bool := l.agreed && l.answer.isNone && patternLive l.cmd == pattern

/-- The LIVE writes that are due act in their order (R513); each keeps its answer for its response. -/
def liveFold (pattern : Bool) : List Live → State → List Live × State
  | [], t => ([], t)
  | l :: rest, t =>
    if l.due pattern then
      let (u, status, body) := t.liveAct l.sess l.cmd
      let (done, v) := liveFold pattern rest u
      ({ l with answer := some (status, body) } :: done, v)
    else
      let (done, v) := liveFold pattern rest t
      (l :: done, v)

/-- The LIVE writes take effect: at a row start, or those of a pattern start there (R508). -/
def State.liveRun (s : State) (pattern : Bool) : State :=
  let (l, t) := liveFold pattern s.sy.live (s.modSy fun y => { y with live := [] })
  t.modSy fun y => { y with live := l }

/-- A LIVE write is in the agreed input set (R377): the twin's by its record, the own one once its record has left, or
at once where nothing travels. -/
def State.liveAgreed (s : State) (l : Live) : Bool :=
  l.theirs || l.unit || !(s.ty.state == .member) ||
    !(s.ty.cmdsDue.any fun c => c.node == l.sess.client && c.seq == l.req.seq)

/-- The LIVE writes of a row's agreed set (R377): side A's first, then side B's, each in their order. -/
def State.agreeLive (s : State) : State :=
  let had := s.sy.live.filter (·.agreed)
  let new := s.sy.live.filter fun l => !l.agreed && s.liveAgreed l
  let rest := s.sy.live.filter fun l => !l.agreed && !s.liveAgreed l
  let own := new.filter (!·.theirs)
  let twin := new.filter (·.theirs)
  let both := if s.ty.sideB then twin ++ own else own ++ twin
  s.modSy fun y => { y with live := had ++ both.map (fun l => { l with agreed := true }) ++ rest }

end Sys2Proof.Machine
end

