-- ==== Sys2Proof/Machine/Rows.lean ====
section
/-! DEFINITION. Rows: what happens at the instants of the row and of the pattern (R21 to R36, R375 to R402), and what
stops rows (R27, R30). -/

namespace Sys2Proof.Machine

/-! ### The row (R31, R32) -/

/-- The plant row that starts next (R31, R36). -/
def State.nextRow (s : State) : Nat :=
  match s.rows.lastRow with
  | none => (s.ns + 99999) / 100000
  | some r => max (r + 1) (s.ns / 100000)

/-- The plant pattern that starts next (R31). -/
def State.nextPattern (s : State) : Nat :=
  match s.rows.lastPat with
  | none => (s.ns + 9999999) / 10000000
  | some p => max (p + 1) (s.ns / 10000000)

/-- A row runs: its start has been. -/
def State.inRow (s : State) : Bool := s.rowsRun && s.rows.lastRow.isSome

/-- Plant time runs to an instant of the present row. -/
def State.rowAt (s : State) (after : Nat) : State := s.runTo (s.rows.lastRow.getD 0 * 100000 + after)

/-- The twin's ROW_INPUT of the present row (R377). -/
def State.rowNow (s : State) : Option RowInput :=
  if s.ty.paired then s.ty.rowIn.filter fun m => m.row == s.rowCount else none

/-- The twin's DIGEST of the present row (R383). -/
def State.digestNow (s : State) : Option DigestMsg := s.ty.digestRx.filter fun m => m.row == s.rowCount

/-- This unit sends on Twin Yarn in its rows (R366, R370, R375). -/
def State.talks (s : State) : Bool := s.ty.paired && !s.deaf && s.ty.state != .refused

/-! ### Row start (R32, R375) -/

/-- The newest stored D0 result. -/
def State.newestD0 (s : State) : Option Result := (s.ca.results.find? fun p => p.1 == s.dutyInput 0).map (·.2)

/-- A result whose value may be taken as it is: settled, and within range (R377). -/
def Result.good (r : Result) : Bool := !r.settle && !overrange r.value

/-- The string current latched at a row start (R32): the newest D0 result by R155; where that is no valid one, the value
the accumulator would use (R164). -/
def State.latchCurrent (s : State) : Option Rat :=
  match s.newestD0 with
  | none => none
  | some r => if r.good then some (s.iP r.value)
    else if s.ss.integrating then some (s.d0Current r.value true r.stamp.toNat) else none

/-- The twin's word of a row by its claim frame (R390). -/
def State.latchWord (s : State) : State :=
  match s.ty.claimRx with
  | none => s.modTy fun y => { y with wordSeen := false }
  | some w => s.modTy fun y => { y with
      claimRx := none, wordSeen := true, wordTwin := w, missing := 0, wordRows := min 100 (y.wordRows + 1)
      twinHeld := y.twinHeld || w / 4096 == 4 }

/-- An urgent entry joins a list in ascending address; one of the same address takes its reasons too (R378). -/
def mergeUrgent (u : Urgent) : List Urgent → List Urgent
  | [] => [u]
  | v :: t =>
    if u.addr == v.addr then { v with reason := v.reason ||| u.reason } :: t
    else if u.addr < v.addr then u :: v :: t
    else v :: mergeUrgent u t

/-- The urgent list of a row (R378): what was carried, then the row's entries with reason bit 0 or 1, then the others; eight
are listed, the rest is carried and counted. -/
def State.urgentList (s : State) : State :=
  let merged := s.cl.urgentRow.foldl (fun l u => mergeUrgent u l) []
  let had (u : Urgent) : Bool := s.ty.carried.any fun v => v.addr == u.addr
  let carried := s.ty.carried.map fun v =>
    match merged.find? fun u => u.addr == v.addr with
    | some u => { v with reason := v.reason ||| u.reason }
    | none => v
  let new := merged.filter fun u => !had u
  let first (u : Urgent) : Bool := u.reason % 4 != 0
  let all := carried ++ new.filter first ++ new.filter fun u => !first u
  s.modTy fun y => { y with listed := all.take 8, carried := all.drop 8, deferred := y.deferred + (BitVec.ofNat 32 (all.drop 8).length) }

/-- The command records that fit the command area, in order (R377). -/
def fitting : List CmdRecord → Nat → List CmdRecord
  | [], _ => []
  | c :: t, room => if recordSize c ≤ room then c :: fitting t (room - recordSize c) else []

/-- The filtered states of the safety inputs (R377). -/
def State.sinFiltered (s : State) : Nat :=
  ([1, 2, 3, 4, 5, 6, 7, 8].map fun n =>
    (b2n (s.sin n).a.filt + 2 * b2n (s.sin n).b.filt) * 4 ^ (n - 1)).sum

/-- FastEvents of this unit (R377): the side of a pair's last event or of its latched comparators, and cross-trip. -/
def State.fastEvents (s : State) : Nat :=
  let side (p : Pair) (k : Nat) : Bool := p.cmp % 4 == k
  b2n (side s.ca.fa 1) + 2 * b2n (side s.ca.fa 2) + 4 * b2n (side s.ca.fb 1) + 8 * b2n (side s.ca.fb 2) +
    16 * b2n s.si.xtripIn + 32 * b2n s.si.xtripOut

/-- UnitFlags (R377). -/
def State.unitFlags (s : State) : Nat :=
  b2n s.os.gate + 2 * b2n s.cl.driver + 4 * b2n (s.ty.yielding != 0) + 8 * b2n (s.ty.state == .observer) +
    16 * b2n (s.ty.state == .joining) + 32 * b2n (s.pm.resetEntryDue || s.pm.softDue != 0) + 64 * b2n s.de.canNow +
    128 * b2n s.de.ethNow

/-- This unit's ROW_INPUT of the present row (R377); `before` holds the fast events since the row before. -/
def State.formInput (s : State) (l : RowLatch) (before : Nat) : RowInput :=
  let coil (f : Nat → Bool) : Nat := ([1, 2, 3, 4].map fun n => b2n (f n) * 2 ^ (n - 1)).sum
  let pins := ([0, 1, 2, 3].map fun k => (b2n (bit l.hsRead k) + 2 * b2n (bit l.lsRead k)) * 4 ^ k).sum
  let word (d : Nat) : DutyWords :=
    let r := tabGet {} (s.dutyInput d) s.ca.results
    { word0 := r.stamp.toNat, word1 := r.word1 }
  { row := s.rowCount, claim := s.ty.wordOwn, unitFlags := s.unitFlags, coils := coil s.energised
    trip := s.os.tripActive, uvr := s.os.uvrOn, seq := s.pc.seq, pullIn := s.pm.pullIn
    pullInStart := (s.pm.lastPullIn.map stampNs).getD 0 % 2 ^ 32, demand := s.si.rowOwn, sin := s.sinFiltered
    fast := before ||| s.fastEvents, reaction := s.fm.pairOwn.code, urgent := s.ty.listed.map fun u => (u.addr, u.reason)
    duties := [0, 1, 2, 3, 4].map word, faMean := l.faMean, fbMean := l.fbMean
    pins := pins + 256 * b2n s.os.tripActive + 512 * b2n s.os.uvrOn
    chargeIn := s.ef.snapIn, chargeOut := s.ef.snapOut, currentAt := s.ss.currentAt
    iso := if s.os.gate then some s.isoShare else none, ring := if s.cl.driver then some s.ringShare else none
    cmds := fitting s.ty.cmdsDue 152, locked := s.tb.state == .locked }

/-- ROW_INPUT leaves, and in row 10 CELL_INDEX (R375, R379). -/
def State.sendInput (s : State) (l : RowLatch) (before : Nat) : State :=
  let m := s.formInput l before
  if !s.talks then s.modTy fun y => { y with ownIn := { m with cmds := [] }, cmdsDue := [], longDue := [], longSent := 0 }
  else
    let t := (s.modTy fun y => { y with ownIn := m, cmdsDue := y.cmdsDue.drop m.cmds.length }).toTwin (.rowInput m)
    if s.rowIn == 10 then t.toTwin (.cellIndex s.ownIndex) else t

/-- The control processor's restart ends in a row that the spec does not name: a free one (R27, assumption 4). -/
def State.restartRow (s : State) : State :=
  if !s.rows.cpRestarting then s
  else
    let t := s.takeFree
    if s.freeBit then (t.modRows fun r => { r with cpRestarting := false }).clearCond 0x0101 else t

/-- The latches of a row start (R32). -/
def State.latchRow (s : State) (l : RowLatch) : State :=
  let t := s.modPm fun p => { p with
    auxMv := l.auxMv, auxMa := l.auxMa, vholdMv := l.vholdMv, resumeTimer := p.resumeTimer && 20500 < l.auxMv }
  let u := if 18000 ≤ l.auxMv then t.clearCond 0x0201 else t
  (((u.modRows fun r => { r with faMean := l.faMean, fbMean := l.fbMean, latched := s.latchCurrent }).modTy fun y =>
    { y with agreedTwin := false, stitched := false }).pairRow l).latchWord

/-- The LIVE writes at a row start (R489, R508): the responses of those that acted in an earlier row leave, and those agreed
act. -/
def State.liveRow (s : State) : State :=
  if s.loaderRuns || s.rows.cpRestarting then s else s.liveAnswers.liveRun false

/-- ROW_START (R31, R32, R375): the next row starts on plant time and latches its inputs; LIVE writes act, and ROW_INPUT
leaves. While the loader runs only the latches and the safety island go on (R537). -/
def execRowStart (l : RowLatch) (s : State) : Host.Outcome State Fault Refusal :=
  .next (if !s.rowsRun then s
    else
      let k := s.nextRow
      let kept := s.rows.lastRow.isSome && !s.rows.committed
      let s0 := (s.runTo (k * 100000)).modRows fun r => { r with
        lastRow := some k, seamAt := none, rowNo := k % 100, patternNo := BitVec.ofNat 32 (k / 100), committed := false
        fixed := false, judged := false }
      let s1 := ((((s0.latchRow l).restartRow).outputRow l).leaseRow).liveRow
      if s1.loaderRuns then s1.chargeBlockRow.latchDemands kept
      else
        let s2 := s1.cellRow.chargeBlockRow
        let s3 := if s2.ty.state == .member then s2 else s2.rampRow
        ((s3.faultRamp.urgentList).latchDemands kept).sendInput l s.fastEvents)

/-- SPEED_INDEX_WINDOW_END (R21, R25): the speed index of the row, its minima, and 0x0103 below 550. -/
def execSpeedIndexWindowEnd (completions reference : Nat) (s : State) : Host.Outcome State Fault Refusal :=
  .next (if !s.rowsRun || reference == 0 then s
    else
      let v := min 65535 (1000 * completions / reference)
      (s.modRows fun r => { r with siRow := v, siRunMin := min v r.siRunMin, siMin := min v r.siMin }).cond 0x0103
        (decide (v < 550)))

/-! ### The agreed input set (R376, R377, R390, R430) -/

/-- The twin's word by its ROW_INPUT, where no claim frame gave it (R390); from the third row in a row without a word it
is 0. -/
def State.fallbackWord (s : State) : State :=
  if s.ty.wordSeen then s
  else
    match s.rowNow.filter fun m => m.claim / 4096 ≤ 4 with
    | some m => s.modTy fun y => { y with
        wordSeen := true, wordTwin := m.claim, missing := 0, wordRows := min 100 (y.wordRows + 1)
        twinHeld := y.twinHeld || m.claim / 4096 == 4 }
    | none => s.modTy fun y => { y with
        missing := min 255 (y.missing + 1), wordRows := 0, wordTwin := if 2 ≤ y.missing then 0 else y.wordTwin }

/-- The claim pair in a row (R389): rows in a row in which ROW_INPUT came without a claim frame. -/
def State.claimPairRow (s : State) (framed : Bool) : State :=
  if s.rowNow.isNone then s else s.modTy fun y => { y with noFrame := if framed then 0 else min 255 (y.noFrame + 1) }

/-- A duty's value in the twin's ROW_INPUT, where it is settled and within range (R377). -/
def dutyValue (m : RowInput) (d : Nat) : Option Int :=
  let w := (m.duties.getD d {}).word1
  let v := ofWord 24 (w / 256)
  if bit w 3 || overrange v then none else some v

/-- The agreed values of the row join the means on which both supervisors act (R178, R377). -/
def State.agreeMeans (s : State) (m : RowInput) : State :=
  let own (d : Nat) : Option Int :=
    ((s.ca.results.find? fun p => p.1 == s.dutyInput d).map (·.2)).filter Result.good |>.map (·.value)
  let pick (d : Nat) : List Int :=
    (if s.twinSource then (dutyValue m d).or (own d) else (own d).or (dutyValue m d)).toList
  s.modTy fun y => { y with
    agI := (pick 0).map s.iP ++ y.agI, agV := pick 2 ++ y.agV, agP := pick 3 ++ y.agP, agN := pick 4 ++ y.agN }

/-- The means of the agreed rows of the pattern just ended (R178, R377). -/
def State.agreedPattern (s : State) : State :=
  s.modTy fun y => { y with
    agI := [], agV := [], agP := [], agN := []
    agMeans := if y.agI.isEmpty && y.agV.isEmpty then none
      else some ((ratMean y.agI).map ratTrunc, s.voltMean 2 y.agV false, s.voltMean 3 y.agP false, s.voltMean 4 y.agN false) }

/-- The row's string current and pair means from the agreed input set (R377): the source unit's, or the other's where the
source's value is at overrange or settling. -/
def State.agreeCurrent (s : State) (m : RowInput) : State :=
  let theirs := (dutyValue m 0).map s.iP
  let own := (s.newestD0.filter Result.good).map fun r => s.iP r.value
  let pick := if s.twinSource then theirs.or own else own.or theirs
  s.modRows fun r => { r with
    latched := pick.or r.latched
    faMean := if s.twinSource then m.faMean else r.faMean
    fbMean := if s.twinSource then m.fbMean else r.fbMean }

/-- High voltage in mV of a D2 value. -/
def State.vOf (s : State) (v : Int) : Rat := (v : Rat) * (s.hvScale : Rat) / (8388608 * (s.dutyGain 2 : Rat))

/-- The differences of a row between the units' own D0 and D2 values (R382). -/
def State.differences (s : State) (m : RowInput) : State :=
  let own (d : Nat) : Option Int := ((s.ca.results.find? fun p => p.1 == s.dutyInput d).map (·.2)).filter Result.good |>.map (·.value)
  let i := match own 0, dutyValue m 0 with
    | some a, some b => [s.iP a - s.iP b]
    | _, _ => []
  let v := match own 2, dutyValue m 2 with
    | some a, some b => [s.vOf a - s.vOf b]
    | _, _ => []
  s.modTy fun y => { y with diffI := i ++ y.diffI, diffV := v ++ y.diffV }

/-- ConnectState of a SequenceState, where the twin's holder gives only the latter (R400, R377). -/
def connectOf (seq connect : Nat) : Nat :=
  if seq == 0 then (if connect == 6 then 6 else 0)
  else if seq == 6 then (if connect == 3 || connect == 4 then connect else 2)
  else if seq == 7 then 5 else 1

/-- One coil of the agreed input set is the holder's (R377): without the claim this unit's command follows it, with the start
of its pull-in (R95). -/
def State.followCoil (m : RowInput) (s : State) (n : Nat) : State :=
  let on := bit m.coils (n - 1)
  if on == (s.coil n).cmd then s
  else if !on then s.coilOff n
  else
    let pulls := m.pullIn == n
    let ago : Int := shortDiff s.short m.pullInStart
    (s.modCoil n fun c => { c with cmd := true, drive := true, phase := if pulls then 1 else 2 }).modPm fun p =>
      { p with
        queue := p.queue.filter (·.1 != n), pullIn := if pulls then n else p.pullIn
        lastPullIn := if pulls then some (stampAt s.tb.now.epoch ((s.ns : Int) - ago).toNat) else p.lastPullIn }

/-- What this unit keeps of the twin's outputs (R95, R172, R377, R397, R400): its coils and pull-in; without the claim it
follows the holder's coils, SequenceState and insulation results. -/
def State.followOutputs (s : State) (m : RowInput) : State :=
  let s0 := (m.ring.map s.takeRingShare).getD s
  let t := s0.modTy fun y => { y with
    twinCoils := m.coils, twinSeq := m.seq, twinPull := m.pullIn, twinPullStart := m.pullInStart }
  if s.os.gate || !bit m.unitFlags 0 then t
  else
    let u := [1, 2, 3, 4].foldl (State.followCoil m) t
    let v := (u.modPc fun c => { c with seq := m.seq }).modDe fun d => { d with connect := connectOf m.seq d.connect }
    (m.iso.map v.takeIso).getD v

/-- The twin's time by the arrival of its ROW_INPUT, less the send offset and the line's delay (R430): TwinTimeOffset, 0x1007, and the steering of a unit that is not
LOCKED to a twin that is. A pending step keeps the increment frozen (R423). -/
def State.twinTime (s : State) (m : RowInput) : State :=
  let e := m.arrivalNs - 500 - s.ty.delay
  let bad := s.cfgGet 0x3085 0 < e.natAbs
  let t := (s.modTb fun x => { x with
    twinOffset := some (saturate32 e), twinBad := if bad then min 100 (x.twinBad + 1) else 0 }).cond 0x1007 (bad && 99 ≤ s.tb.twinBad)
  if s.tb.state == .locked || s.tb.state == .stepPending then t
  else if m.locked then
    let u := t.modTb fun x => { x with state := .twin }
    if s.cfgGet 0x3084 0 == 0 then u.servo (e : Rat) (1 / 10000) else u
  else if s.tb.state == .twin then
    t.modTb fun x => { x with state := if x.master.isSome then .acquiring else if x.wasLocked then .holdover else .free }
  else t

/-- The twin's command records of the agreed set act (R377): one equal to a record of this unit counts once. -/
def State.agreeCommands (s : State) (m : RowInput) : State :=
  let mine (c : CmdRecord) : Bool := s.ty.ownIn.cmds.any fun x => x.node == c.node && x.seq == c.seq
  (m.cmds.filter fun c => !mine c).foldl State.applyRecord s

/-- Twin Yarn is lost (R385, R399): with claim words still coming the pair splits, the holder SOLO and the other OBSERVER;
without them the unit is SOLO. -/
def State.yarnLost (s : State) : State :=
  let t := s.unpair.raiseCond 0x0F04
  if s.ty.state == .pairing || s.ty.state == .refused then s.unpair
  else if s.os.gate || 3 ≤ s.ty.missing then (t.modTy fun y => { y with split := decide (s.ty.missing < 3) }).goSolo
  else (t.observe 0).modTy fun y => { y with split := true }

/-- The twin's urgent triples join this unit's (R222, R377): of a pair that both list one counts. -/
def State.agreeUrgent (s : State) (m : RowInput) : State :=
  let new := m.urgent.filter fun (a, k) => 4 ≤ k && !s.ty.listed.any fun u => u.addr == a && u.reason == k
  new.foldl (fun t (a, _) => t.raiseEvent 0x080B a) s

/-- The set with the twin's ROW_INPUT (R377 to R381, R400): in lockstep the agreed values, else what a holder adds of its
observer. -/
def State.agreeSet (s : State) (m : RowInput) : State :=
  let member := s.ty.state == .member
  let adds := member || (s.os.gate && (bit m.unitFlags 3 || bit m.unitFlags 4))
  let t := ((s.modTy fun y => { y with agreedTwin := adds, absentRun := 0 }).followOutputs m).twinTime m
  let u := if adds then (t.modSi fun i => { i with xtripMatched := i.xtripMatched || (i.xtripIn && m.fast % 16 != 0) }).agreeUrgent m
    else t
  if !member then u
  else
    let v := (u.modTy fun y => { y with pairReaction := max s.fm.pairOwn.code m.reaction }).modDe fun d => { d with
      twinCan := d.twinCan || bit m.unitFlags 6, twinEth := d.twinEth || bit m.unitFlags 7 }
    ((((v.agreeMeans m).agreeCurrent m).differences m).agreeCommands m)

/-- One segment of what waits for the twin leaves as PATTERN_DATA (R368, R371, R375): up to 504 bytes of the first item's data;
its last segment takes it off the queue. -/
def State.sendSegment (s : State) : State :=
  if !s.talks then s
  else
    match s.ty.longDue.filter fun x => itemKind x ≤ 3 || 2 ≤ s.ty.version with
    | [] => s.modTy fun y => { y with longDue := [], longSent := 0 }
    | x :: rest =>
      let k := s.ty.longSent
      let b := Config.itemBytes x
      let last := b.length ≤ 504 * (k + 1)
      (s.modTy fun y => { y with longDue := if last then rest else x :: rest, longSent := if last then 0 else k + 1 }).toTwin
        (.patternData x k b.length ((b.drop (504 * k)).take 504))

/-- The string head on the agreed totals (R243, R272, R373, R376, R377): in lockstep the growth of the source unit's charge
totals, its net total, and its CurrentAtPattern. -/
def State.agreedHead (s : State) : State :=
  let twin := s.ty.rowIn.filter fun m => s.ty.state == .member && s.patStart / 100000 % 2 ^ 32 < m.row
  let own := s.stringHead (s.ef.snapIn - s.ef.headIn) (s.ef.snapOut - s.ef.headOut)
  let t := match twin, s.ef.twinTotals with
    | some m, some (i, o) =>
      if s.twinSource then
        let u := ((s.modSs fun x => { x with currentAt := m.currentAt }).modEf fun e =>
          { e with snapNet := m.chargeIn - m.chargeOut }).stringHead (m.chargeIn - i) (m.chargeOut - o)
        u.modSs fun x => { x with currentAt := s.ss.currentAt }
      else own.modEf fun e => { e with snapNet := e.snapIn - e.snapOut }
    | _, _ => own
  t.modEf fun e => { e with twinTotals := twin.map fun m => (m.chargeIn, m.chargeOut) }

/-- What the cut-off leads to once the cell data is agreed (R205, R226, R228, R243, R251, R292, R301, R323). -/
def State.cutoffWork (s : State) : State :=
  let u := (((s.modEf fun e => { e with headDue := false }).cutoffAgreed).hardCutoff).agreedHead
  let v := (if u.rows.cpRestarting then u.restClocks else u.thermalCutoff.restClocks.balance).faultRamp
  if v.ef.active && v.ef.idle then v.stringTail else v

/-- In lockstep the cut-off's work waits for the agreement of the cell data in row 10 (R251, R379). -/
def State.agreeCutoff (s : State) : State :=
  if s.rowIn != 10 || !s.ef.headDue then s
  else match s.rowNow, s.ty.cellIdx with
    | some _, some x => (s.agreeCells x).cutoffWork
    | _, _ => s.cutoffWork

/-- INPUT_SET_FIXED (R32, R377, R384, R385): 25 us into the row the set is agreed with the twin's ROW_INPUT, or formed of
this unit's own inputs; three rows in a row without one lose Twin Yarn. -/
def execInputSetFixed (s : State) : Host.Outcome State Fault Refusal :=
  .next (if !s.inRow || s.rows.fixed then s
    else
      let s0 := (s.rowAt 25000).modRows fun r => { r with fixed := true }
      let s1 := (s0.claimPairRow s0.ty.wordSeen).fallbackWord
      let member := s1.ty.state == .member
      let s2 := match s1.rowNow with
        | some m => s1.agreeSet m
        | none =>
          if !s1.ty.paired then s1
          else
            let n := s1.ty.absentRun + 1
            let t := s1.modTy fun y => { y with absentRun := n }
            if 3 ≤ n then t.yarnLost else t
      let s3 := if member && !s2.loaderRuns then s2.rampRow else s2
      ((s3.agreeCutoff.sendSegment).agreeLive).agreedStep)

/-! ### Output commit (R26, R32, R332, R389 to R397) -/

/-- A coil output shares its coil with the twin's (R350). -/
def State.sharedCoil (s : State) : Bool := [1, 2, 3, 4].any fun n => s.safeGet 0x2E80 n == 1

/-- What the row's logic commands (R26, R332, R353, R537): late logic, cores that differ and the loader give the safe
commands, else the safety demands are combined. -/
def State.commitOutputs (s : State) (c : CommitInp) : State :=
  let t := (s.cond 0x0104 c.late).cond 0x0D01 c.mismatch
  let u := if c.late then t.modRows fun r => { r with overrunCount := r.overrunCount + 1 } else t
  let v := (if c.mismatch then u.modSi fun i => { i with mismatches := i.mismatches + 1, coreBlock := true } else u).modSi fun i =>
    { i with mismatchNow := c.mismatch }
  if c.late || c.mismatch || s.loaderRuns then v.allSafe
  else v.safetyCommit (if s.ty.agreedTwin then (s.ty.rowIn.map (·.demand)).getD 0 else 0)

/-- The pin check before a claim is taken (R350, R394, R396): with a silent twin that still drives, 0x0F0B, and no claim
until a word arrives. -/
def State.pinCheck (s : State) (driving : Bool) : State :=
  if s.ty.wordSeen then (s.modTy fun y => { y with drivingNoClaim := false }).clearCond 0x0F0B
  else if 3 ≤ s.ty.missing && s.ty.twinHeld && !s.os.gate && driving then
    (s.modTy fun y => { y with drivingNoClaim := true }).raiseCond 0x0F0B
  else s

/-- The claim gate from a commit on (R391): both the word of the commit before and the new one exceed the twin's. -/
def State.gateAt (s : State) (word : Nat) (driving : Bool) : Bool :=
  let t := wordValue s.ty.wordTwin
  decide (t < wordValue s.ty.wordOwn) && decide (t < wordValue word) && !s.ty.drivingNoClaim && (s.os.gate || !driving)

/-- The kind of a switch-over (R394 to R396): 1 orderly, 2 fault, 3 silent. -/
def State.takeKind (s : State) : Nat :=
  if 3 ≤ s.ty.missing then 3 else if wordValue s.ty.wordTwin == 0 then 2 else 1

/-- The gate opens or closes with a word (R391, R395 to R397). A unit that loses the claim leaves its coils to the twin;
without one the string opens. -/
def State.driveWord (s : State) (word : Nat) (driving : Bool) : State :=
  let open' := s.gateAt word driving
  let t := (s.modTy fun y => { y with
    wordPrev := y.wordOwn, wordOwn := word, yielding := if y.yielding == 0 then 0 else min 255 (y.yielding + 1) }).modOs fun o =>
      { o with gate := open' }
  if open' && !s.os.gate && s.ty.twinHeld then (t.modTy fun y => { y with twinHeld := false }).takeClaim s.takeKind
  else if !open' && s.os.gate then t.safeOff
  else t

/-- An orderly hand-over for health (R394): HealthMargin below the healthy twin's score for 100 rows in a row. -/
def State.healthRow (s : State) (word : Nat) : State :=
  let low := s.os.gate && s.twinHealthy && s.ty.yielding == 0 &&
    word / 256 % 16 + s.cfgGet 0x2F80 3 ≤ s.ty.wordTwin / 256 % 16
  let n := if low then s.ty.healthBelow + 1 else 0
  if 100 ≤ n then (s.modTy fun y => { y with healthBelow := 0 }).yieldStart.2 else s.modTy fun y => { y with healthBelow := n }

/-- The claim pair's checks of a row (R389). -/
def State.claimPairCheck (s : State) (good : Bool) : State :=
  let n := if good then 0 else min 255 (s.ty.readBad + 1)
  (s.modTy fun y => { y with readBad := n }).cond 0x0F07 (3 ≤ n || 3 ≤ s.ty.noFrame)

/-- The checks of the pair messages released in the row, in order (R383). -/
def State.pairCrcs (s : State) : List Nat :=
  (s.out.drop s.ty.outMark).filterMap fun o => match o with
    | .response _ m | .message _ m => if m.pairSeq / 2 ^ 30 == 3 then none else some (crc32c m.bytes)
    | _ => none

/-- The next pair sequence (R404). -/
def State.nextPairSeq (s : State) : Nat := s.ty.origin * 2 ^ 30 + (s.ty.counter + 1) % 2 ^ 30

/-- InputDigest (R383): side A's ROW_INPUT, then side B's, and in row 10 their CELL_INDEX. -/
def State.inputDigest (s : State) : Nat :=
  let own := rowInputBytes s.ty.ownIn
  let twin := (s.rowNow.map rowInputBytes).getD []
  let idx (l : List Nat) : Bytes := l.flatMap (leBytes 4)
  let ownIdx := if s.rowIn == 10 then idx s.ownIndex else []
  let twinIdx := if s.rowIn == 10 then idx (s.ty.cellIdx.getD []) else []
  crc32c (if s.ty.sideB then twin ++ own ++ twinIdx ++ ownIdx else own ++ twin ++ ownIdx ++ twinIdx)

/-- OutputDigest (R383). -/
def State.outputDigest (s : State) : Nat :=
  let coils := ([1, 2, 3, 4].map fun n => b2n (s.coil n).cmd * 2 ^ (n - 1)).sum
  crc32c (Config.commandBytes ([coils, b2n s.os.tripActive, b2n s.os.uvr, s.pc.seq, s.ty.pairReaction, s.nextPairSeq] ++ s.pairCrcs))

/-- StateDigest (R383). -/
def State.stateDigest (s : State) : Nat :=
  let objs (index lo hi : Nat) : Bytes := (List.range (hi + 1 - lo)).flatMap fun k => (s.readObj index (lo + k)).getD []
  crc32c ([s.pc.seq, s.de.connect] ++ objs 0x2C10 1 0x10 ++ objs 0x2C01 0 0 ++ [s.tm.level] ++ objs 0x2A10 1 0x80 ++
    objs 0x2901 1 0x10 ++ objs 0x2910 1 0x80 ++ objs 0x2911 1 0x80 ++ objs 0x2912 1 0x80 ++ objs 0x2913 1 0x80)

/-- DIGEST and the claim frame leave (R375, R383, R389). -/
def State.sendDigest (s : State) : State :=
  let m : DigestMsg := { row := s.rowCount, input := s.inputDigest, output := s.outputDigest
                         state := if s.rowIn == 86 then s.stateDigest else 0, pairSeq := s.nextPairSeq }
  let t := s.modTy fun y => { y with digestOwn := m }
  let u := if s.talks then t.toTwin (.digest m) else t
  let v := if s.deaf || s.ty.state == .refused then u else u.toTwin (.claim s.ty.wordOwn (s.rowCount % 256))
  v.modTy fun y => { y with outMark := v.out.length }

/-- The claim word of a row (R113, R301, R386): 0 from the last step of a bind-off on, and where the cell case of a thermal
shutdown drops the claim. -/
def State.rowWord (s : State) (failed : Bool) : Nat :=
  if 6 ≤ s.pm.bindStep || s.si.dropClaim then 0 else s.claimWord s.claimClass (s.health failed)

/-- OUTPUT_COMMIT (R26, R32, R33, R111, R332, R353, R391 to R397): 55 us into the row the claim word is driven and the output
stages take the new commands. A software reset that is due comes about instead. -/
def execOutputCommit (c : CommitInp) (s : State) : Host.Outcome State Fault Refusal :=
  .next (if !s.inRow || s.rows.committed then s
    else
      let s0 := (s.rowAt 55000).modRows fun r => { r with committed := true }
      let s1 := if s0.ty.yielding != 0 && s0.ty.wordTwin / 4096 == 4 then s0.yieldEnd true else s0
      if !s1.inRow then s1
      else if (s1.pm.softDue == 1 || s1.pm.softDue == 2) && s1.ty.yielding == 0 then s1.softReset
      else
        let driving := c.twinDriving && s1.sharedCoil
        let s2 := ((s1.modSi fun i => { i with rowLoss := false }).commitOutputs c).pinCheck driving
        let word := s2.rowWord (c.late || c.mismatch)
        ((((((s2.driveWord word driving).takeCommands).healthRow word).claimPairCheck c.readbackOk).sendDigest).sendSegment))

/-! ### Digest deadline (R384, R385, R401, R402) -/

/-- What the digests of a row say (R384): the twin's inputs and digest are there, and the digests that both units form are
equal. -/
def State.digestsDiffer (s : State) : Bool :=
  (s.digestNow.map fun d => d.input != s.ty.digestOwn.input || d.output != s.ty.digestOwn.output).getD false

/-- The row is a dropped stitch (R384). -/
def State.stitch (s : State) : Bool :=
  s.rowNow.isNone || (s.rowIn == 10 && s.ty.cellIdx.isNone) || s.digestNow.isNone || s.digestsDiffer

/-- The StateDigest of row 86 is not the twin's, or the twin's is absent (R385). -/
def State.stateDiffers (s : State) : Bool :=
  s.rowIn == 86 && (s.digestNow.map fun d => d.state != s.ty.digestOwn.state).getD true

/-- The stitches of a MEMBER's row escalate (R384, R385). -/
def State.memberRow (s : State) : State :=
  let n := s.rowCount
  let recent := s.ty.window.filter fun r => (n + 2 ^ 32 - r) % 2 ^ 32 < 1000
  let window := if s.stitch then n :: recent else recent
  let run := if s.digestsDiffer then min 255 (s.ty.diffRun + 1) else 0
  let bad := s.stateDiffers || 10 ≤ run
  let t := (s.modTy fun y => { y with
    stitched := s.stitch, stitches := if s.stitch then y.stitches + 1 else y.stitches, window, diffRun := run
    rejoinDue := y.rejoinDue || bad }).cond 0x0F03 (decide (s.cfgGet 0x2F80 4 < window.length))
  if bad then t.raiseCond 0x0F05 else if s.rowIn == 86 then t.clearCond 0x0F05 else t

/-- A joining unit that has caught up compares its StateDigest (R401): equal, it sends JOIN 3 and is MEMBER from the next
pattern start; different, the join fails. -/
def State.joinRow (s : State) : State :=
  if s.rowIn != 86 || s.ty.joinState < 3 then s
  else match s.digestNow with
    | none => s.modTy fun y => { y with joinState := 4 }
    | some d =>
      if d.state == s.ty.digestOwn.state then
        ((s.modTy fun y => { y with joinState := 4, memberDue := true }).toTwin (.join 3 s.ty.joinPs.toNat)).raiseEvent 0x0F0E
      else s.joinFail

/-- DIGEST_DEADLINE (R384): 70 us into the row. -/
def execDigestDeadline (s : State) : Host.Outcome State Fault Refusal :=
  .next (if !s.inRow || s.rows.judged then s
    else
      let t := (s.rowAt 70000).modRows fun r => { r with judged := true }
      if t.ty.state == .member then t.memberRow
      else if t.ty.state == .joining then t.joinRow
      else t)

/-! ### Pattern start (R34) -/

/-- The core supply and the margins of a pattern (R22 to R25). -/
def State.supplyPattern (s : State) : State :=
  if s.rows.siRunMin == 0xFFFF then s
  else
    let v := s.rows.siRunMin
    let n := if v < 700 && s.rows.vcore == 900 then min 10 (s.rows.lowPatterns + 1) else 0
    let mv := if v < 760 then min 900 (s.rows.vcore + 5) else if 820 < v then max 620 (s.rows.vcore - 5) else s.rows.vcore
    (s.modRows fun r => { r with
      siPatMin := v, siRunMin := 0xFFFF, vcore := mv, lowPatterns := n
      marginFabric := min 65535 (2 * v - 1000), marginRow := min 65535 (2 * v - 1000) }).cond 0x0102 (10 ≤ n)

/-- The difference of the twin's measurements over the pattern just ended (R382). -/
def State.comparePattern (s : State) : State :=
  let i := ratMean s.ty.diffI
  let v := ratMean s.ty.diffV
  let limI := ratMax (s.cfgGet 0x2F80 5 : Rat) ((((s.ss.current.getD 0).natAbs : Nat) : Rat) / 200)
  let limV := ratMax (s.cfgGet 0x2F80 6 : Rat) ((((s.ss.vStr.getD 0).natAbs : Nat) : Rat) / 1000)
  let run (n : Nat) (x : Option Rat) (lim : Rat) : Nat :=
    if (x.map fun d => decide (lim < ratAbs d)).getD false then min 100 (n + 1) else 0
  let t := s.modTy fun y => { y with
    iDiff := (i.map ratTrunc).or y.iDiff, vDiff := (v.map ratTrunc).or y.vDiff, iBad := run y.iBad i limI, vBad := run y.vBad v limV
    diffI := [], diffV := [] }
  t.cond 0x0F0C (100 ≤ t.ty.iBad || 100 ≤ t.ty.vBad)

/-- The STOP values that wait for a pattern start act (R508). -/
def State.waitingPattern (s : State) : State :=
  let mine (k : Nat) : Bool :=
    (findObj (k / 256) (k % 256)).any fun o => o.effect = .pattern || o.effect = .boundary
  let now := s.stopWait.filter fun p => mine p.1
  if now.isEmpty then s
  else
    let t := (now.foldl (fun t p => t.cfgPut (p.1 / 256) (p.1 % 256) p.2) s).modStopWait fun w => w.filter fun p => !mine p.1
    let u := if now.any fun p => p.1 == objKey 0x3084 0 then t.modSy fun y => { y with rawSession := 0 } else t
    State.valuesActed s u (now.map fun p => p.1 / 256)

/-- A pattern is at or past one that was agreed, modulo 2^32. -/
def State.reached (s : State) (p : U32) : Bool := (BitVec.ofNat 32 s.patNo - p).toNat < 2 ^ 31

/-- The relation of the pair at a pattern start (R373, R385, R401): lockstep begins at P_L; a MEMBER whose digests differ joins
again; the snapshot leaves from P_s; a unit that has joined is MEMBER. -/
def State.pairStart (s : State) : State :=
  let s1 := if (s.ty.lockPl.map s.reached).getD false && !s.ty.transferDue && s.ty.paired then s.lockstep else s
  let s2 := if s1.ty.rejoinDue then
      let t := s1.modTy fun y => { y with rejoinDue := false, diffRun := 0 }
      if t.os.gate then t else t.joinStart
    else s1
  let s3 := if s2.ty.snapDue && s2.reached s2.ty.joinPs then
      s2.modTy fun y => { y with
        snapDue := false, longDue := y.longDue ++ [.command (.keyStore s2.wrappedStore), .snapshot s2.ownSnapshot] }
    else s2
  if s3.ty.memberDue && (s3.ty.state == .joining || s3.ty.state == .solo) then
    (s3.clearCond 0x0F08).modTy fun y => { y with
      memberDue := false, state := .member, joinState := 0, lockstepStamp := s3.tb.now, diffRun := 0, refusal := 0 }
  else s3

/-- What every subsystem does at a pattern start (R34, R35). -/
def State.patternWork (s : State) : State :=
  let t := ((((((s.rotationPattern.pairPattern).sensingPattern).comparePattern).precisionPattern).fabricSnap).learnedPattern.liveRun
    true).fabricStopPattern.learnedResetPattern
  let u := ((t.isoPattern).agreedPattern.contactorPattern).cellPattern
  if u.rows.cpRestarting then u.dispatchPattern.balancePattern
  else (((u.thermalPattern.dispatchPattern).balancePattern).hvacPattern).telemetryPattern

/-- PATTERN_START (R31, R34): the next pattern starts on plant time. -/
def execPatternStart (s : State) : Host.Outcome State Fault Refusal :=
  .next (if !s.rowsRun then s
    else
      let k := s.nextPattern
      let t := (s.runTo (k * 10000000)).modRows fun r => { r with
        lastPat := some k, patternNo := BitVec.ofNat 32 k, seamPattern := false }
      let u := (t.modTy fun y => { y with cellIdx := none }).supplyPattern
      if u.loaderRuns then u else (u.waitingPattern.pairStart).patternWork)

/-! ### Cut-off (R218, R243, R251, R281, R292) -/

/-- CELL_LINK_CUTOFF (R218, R219, R228, R243, R292, R301, R323, R337, R379): 1.0 ms into the pattern. -/
def execCellLinkCutoff (s : State) : Host.Outcome State Fault Refusal :=
  .next (if !s.rowsRun || s.rows.lastPat.isNone || s.ef.headRun || s.ef.headDue || s.loaderRuns then s
    else
      let t := (s.runTo (s.rows.lastPat.getD 0 * 10000000 + 1000000)).cutoffOwn
      if t.ty.state == .member && (t.rowIn < 10 || (t.rowIn == 10 && !t.rows.fixed)) then
        t.modEf fun e => { e with headDue := true }
      else t.cutoffWork)

/-! ### What stops rows or the control processor (R27, R30) -/

/-- What the control processor's RAM holds of the thermal evaluation (R22, R27): all but the latches and stamps of a shutdown,
which stand in FRAM (R302). -/
def Thermal.restarted (m : Thermal) : Thermal :=
  { cellLatch := m.cellLatch, junctionLatch := m.junctionLatch, shutStamp := m.shutStamp, shutSensor := m.shutSensor
    junction := m.junction, junctionMax := m.junctionMax, junctionRun := m.junctionRun }

/-- CP_CORE_MISMATCH (R27): 0x0101, and the control processor restarts: its RAM is cleared, with the sessions and requests, the
thermal evaluation and the balancing schedule that ran in it (R22); the FRAM journal and the fault record stay, and the
safety island goes on. -/
def execCpCoreMismatch (s : State) : Host.Outcome State Fault Refusal :=
  .next (if !s.coreUp then s
    else
      let t := s.sy.sessions.foldl (fun u x => u.closeSession x.num) s
      ((((t.modSy fun y => { y with
        sessions := [], opens := [], lockouts := [], commits := [], heldEvents := [], live := [] }).modTm
          Thermal.restarted).modBs fun _ => {}).modRows fun r => { r with cpRestarting := true }).raiseCond 0x0101)

/-- REFERENCE_OUT_OF_LIMITS (R30): outside 150 to 250 MHz rows stop. -/
def execReferenceOutOfLimits (khz : Nat) (s : State) : Host.Outcome State Fault Refusal :=
  .next (if !s.coreUp || (150000 ≤ khz && khz ≤ 250000) then s
    else (s.modRows fun r => { r with running := false, refBad := true }).modPm fun p => { p with prevRefLost := true })

/-- ROW_WATCHDOG_EXPIRY (R30, R33, R335): no output commit for 250 us: every output of this unit off and the claim
dropped. -/
def execRowWatchdogExpiry (s : State) : Host.Outcome State Fault Refusal :=
  .next (if !s.coreUp || !s.tb.running then s
    else ((((s.allSafe.cutOutputs).modOs fun o => { o with gate := false }).modTy fun y => { y with wordPrev := y.wordOwn, wordOwn := 0 }).modSi fun i =>
      { i with rowLoss := true, functions := setBit i.functions 10 true, blocked := setBit i.blocked 10 true
               lastReaction := Action.unit.code, lastReactionStamp := s.tb.now }))

/-- REFERENCE_RECOVERY (R30, R109): the reference has been within limits for 10 ms: a reset of kind 7. -/
def execReferenceRecovery (s : State) : Host.Outcome State Fault Refusal :=
  .next (if s.rows.refBad then s.resetTo 7 false else s)

end Sys2Proof.Machine
end

