-- ==== Sys2Proof/Machine/Dispatch.lean ====
section
/-! DEFINITION. Dispatch: one arm for each constructor of Instr. -/

namespace Sys2Proof.Machine

def exec (i : Instr) (s : State) : Host.Outcome State Fault Refusal :=
  match i with
  | .faultAcknowledge r value => Sys2Proof.Machine.execFaultAcknowledge r value s
  | .softwareReset r value => Sys2Proof.Machine.execSoftwareReset r value s
  | .bindOff r value wakeLow twinAccepts => Sys2Proof.Machine.execBindOff r value wakeLow twinAccepts s
  | .ringArm r pair => Sys2Proof.Machine.execRingArm r pair s
  | .ringSoftwareTrigger r pair ring => Sys2Proof.Machine.execRingSoftwareTrigger r pair ring s
  | .softwareTrigger r lines => Sys2Proof.Machine.execSoftwareTrigger r lines s
  | .auxCoilCommand r value => Sys2Proof.Machine.execAuxCoilCommand r value s
  | .stepRequest r ts => Sys2Proof.Machine.execStepRequest r ts s
  | .fabricStop r value => Sys2Proof.Machine.execFabricStop r value s
  | .learnedStateReset r => Sys2Proof.Machine.execLearnedStateReset r s
  | .balanceEnable r value => Sys2Proof.Machine.execBalanceEnable r value s
  | .leaseWrite r value => Sys2Proof.Machine.execLeaseWrite r value s
  | .safetyInputReset r bits => Sys2Proof.Machine.execSafetyInputReset r bits s
  | .safetySetConfirm r value twinAgrees => Sys2Proof.Machine.execSafetySetConfirm r value twinAgrees s
  | .safetySetRevert r => Sys2Proof.Machine.execSafetySetRevert r s
  | .proofTestAutomated r failed => Sys2Proof.Machine.execProofTestAutomated r failed s
  | .proofTestRecord r => Sys2Proof.Machine.execProofTestRecord r s
  | .proofTestTrip r => Sys2Proof.Machine.execProofTestTrip r s
  | .proofTestUvrDrop r => Sys2Proof.Machine.execProofTestUvrDrop r s
  | .rejoinRequest r value => Sys2Proof.Machine.execRejoinRequest r value s
  | .handOverRequest r value => Sys2Proof.Machine.execHandOverRequest r value s
  | .stepAccept r value => Sys2Proof.Machine.execStepAccept r value s
  | .timeStepRequest r offset => Sys2Proof.Machine.execTimeStepRequest r offset s
  | .incrementWrite r value => Sys2Proof.Machine.execIncrementWrite r value s
  | .recoverRequest r ctl value => Sys2Proof.Machine.execRecoverRequest r ctl value s
  | .controllerMode r ctl value => Sys2Proof.Machine.execControllerMode r ctl value s
  | .read r index sub offset length => Sys2Proof.Machine.execRead r index sub offset length s
  | .readList r count items => Sys2Proof.Machine.execReadList r count items s
  | .write r index sub offset value => Sys2Proof.Machine.execWrite r index sub offset value s
  | .hostEngineClaim r engine => Sys2Proof.Machine.execHostEngineClaim r engine s
  | .hostEngineRelease r engine => Sys2Proof.Machine.execHostEngineRelease r engine s
  | .recoveryRequest r value => Sys2Proof.Machine.execRecoveryRequest r value s
  | .rowStart l => Sys2Proof.Machine.execRowStart l s
  | .speedIndexWindowEnd completions reference => Sys2Proof.Machine.execSpeedIndexWindowEnd completions reference s
  | .inputSetFixed => Sys2Proof.Machine.execInputSetFixed s
  | .outputCommit c => Sys2Proof.Machine.execOutputCommit c s
  | .digestDeadline => Sys2Proof.Machine.execDigestDeadline s
  | .patternStart => Sys2Proof.Machine.execPatternStart s
  | .cellLinkCutoff => Sys2Proof.Machine.execCellLinkCutoff s
  | .groupUpdateComplete group => Sys2Proof.Machine.execGroupUpdateComplete group s
  | .fabricSkipDeadline nothing => Sys2Proof.Machine.execFabricSkipDeadline nothing s
  | .fabricAbandonDeadline => Sys2Proof.Machine.execFabricAbandonDeadline s
  | .envelopeCompute => Sys2Proof.Machine.execEnvelopeCompute s
  | .envelopePublish => Sys2Proof.Machine.execEnvelopePublish s
  | .faultHandlerStart => Sys2Proof.Machine.execFaultHandlerStart s
  | .faultHandlerComplete => Sys2Proof.Machine.execFaultHandlerComplete s
  | .cpCoreMismatch => Sys2Proof.Machine.execCpCoreMismatch s
  | .referenceOutOfLimits khz => Sys2Proof.Machine.execReferenceOutOfLimits khz s
  | .rowWatchdogExpiry => Sys2Proof.Machine.execRowWatchdogExpiry s
  | .referenceRecovery => Sys2Proof.Machine.execReferenceRecovery s
  | .auxPowerRise offLong => Sys2Proof.Machine.execAuxPowerRise offLong s
  | .startSlotExpiry => Sys2Proof.Machine.execStartSlotExpiry s
  | .castOnStepEnd step c => Sys2Proof.Machine.execCastOnStepEnd step c s
  | .holdupChargeTimeout capUf => Sys2Proof.Machine.execHoldupChargeTimeout capUf s
  | .startPeriodEnd => Sys2Proof.Machine.execStartPeriodEnd s
  | .sagPauseBegin => Sys2Proof.Machine.execSagPauseBegin s
  | .auxAboveResumeThreshold => Sys2Proof.Machine.execAuxAboveResumeThreshold s
  | .sagPauseEnd => Sys2Proof.Machine.execSagPauseEnd s
  | .pullInStart => Sys2Proof.Machine.execPullInStart s
  | .pullInEnd => Sys2Proof.Machine.execPullInEnd s
  | .powerFailEntry => Sys2Proof.Machine.execPowerFailEntry s
  | .storeLow => Sys2Proof.Machine.execStoreLow s
  | .powerFailRideThrough => Sys2Proof.Machine.execPowerFailRideThrough s
  | .overvoltageDisconnect => Sys2Proof.Machine.execOvervoltageDisconnect s
  | .overvoltageRestart offLong => Sys2Proof.Machine.execOvervoltageRestart offLong s
  | .resetNChange low => Sys2Proof.Machine.execResetNChange low s
  | .resetNAssertRecognised => Sys2Proof.Machine.execResetNAssertRecognised s
  | .resetEntry => Sys2Proof.Machine.execResetEntry s
  | .resetNReleaseRecognised => Sys2Proof.Machine.execResetNReleaseRecognised s
  | .stuckReset => Sys2Proof.Machine.execStuckReset s
  | .resetNRearm => Sys2Proof.Machine.execResetNRearm s
  | .cmuHoldTimeout => Sys2Proof.Machine.execCmuHoldTimeout s
  | .holdRelayRelease => Sys2Proof.Machine.execHoldRelayRelease s
  | .busWake aux offLong => Sys2Proof.Machine.execBusWake aux offLong s
  | .wakeNWake offLong => Sys2Proof.Machine.execWakeNWake offLong s
  | .auxAppliedAfterWake offLong => Sys2Proof.Machine.execAuxAppliedAfterWake offLong s
  | .resultDelivered duty levels stamp input => Sys2Proof.Machine.execResultDelivered duty levels stamp input s
  | .dutyOverrangeTimeout duty => Sys2Proof.Machine.execDutyOverrangeTimeout duty s
  | .hallNoResultTimeout => Sys2Proof.Machine.execHallNoResultTimeout s
  | .blindGapTimeout => Sys2Proof.Machine.execBlindGapTimeout s
  | .captureTrigger duty => Sys2Proof.Machine.execCaptureTrigger duty s
  | .captureResult duty levels stamp => Sys2Proof.Machine.execCaptureResult duty levels stamp s
  | .rotationStepBoundary pairs => Sys2Proof.Machine.execRotationStepBoundary pairs s
  | .calibrationMeasurementDone value => Sys2Proof.Machine.execCalibrationMeasurementDone value s
  | .handOverPhaseBegin => Sys2Proof.Machine.execHandOverPhaseBegin s
  | .handOverSwitch incoming => Sys2Proof.Machine.execHandOverSwitch incoming s
  | .fastPairEvent pair samples ring => Sys2Proof.Machine.execFastPairEvent pair samples ring s
  | .sarStuckDetect pair stuck => Sys2Proof.Machine.execSarStuckDetect pair stuck s
  | .chargeJournalWrite => Sys2Proof.Machine.execChargeJournalWrite s
  | .isoStateEnd vP vN ce pe => Sys2Proof.Machine.execIsoStateEnd vP vN ce pe s
  | .isoStateTimeout => Sys2Proof.Machine.execIsoStateTimeout s
  | .tokenPeriodicSend => Sys2Proof.Machine.execTokenPeriodicSend s
  | .tokenNeed m => Sys2Proof.Machine.execTokenNeed m s
  | .tokenHold m => Sys2Proof.Machine.execTokenHold m s
  | .tokenPass m => Sys2Proof.Machine.execTokenPass m s
  | .tokenAccept m => Sys2Proof.Machine.execTokenAccept m s
  | .tokenResult m => Sys2Proof.Machine.execTokenResult m s
  | .tokenClaim m => Sys2Proof.Machine.execTokenClaim m s
  | .tokenRelease m => Sys2Proof.Machine.execTokenRelease m s
  | .tokenRotateExpiry => Sys2Proof.Machine.execTokenRotateExpiry s
  | .tokenAcceptTimeout => Sys2Proof.Machine.execTokenAcceptTimeout s
  | .tokenHoldSilence => Sys2Proof.Machine.execTokenHoldSilence s
  | .tokenClaimWindowEnd => Sys2Proof.Machine.execTokenClaimWindowEnd s
  | .foreignInjectionCheckEnd vpMove vstrMove => Sys2Proof.Machine.execForeignInjectionCheckEnd vpMove vstrMove s
  | .foreignInjectionRetry => Sys2Proof.Machine.execForeignInjectionRetry s
  | .tokenStarveTimeout => Sys2Proof.Machine.execTokenStarveTimeout s
  | .weldTestWindowEnd => Sys2Proof.Machine.execWeldTestWindowEnd s
  | .mainNegClosureTimeout => Sys2Proof.Machine.execMainNegClosureTimeout s
  | .prechargeTimeLimit => Sys2Proof.Machine.execPrechargeTimeLimit s
  | .openingWeldTest => Sys2Proof.Machine.execOpeningWeldTest s
  | .mainPosOpenStagger => Sys2Proof.Machine.execMainPosOpenStagger s
  | .wakeToneEnd => Sys2Proof.Machine.execWakeToneEnd s
  | .identFrame m => Sys2Proof.Machine.execIdentFrame m s
  | .enumTimeout returned => Sys2Proof.Machine.execEnumTimeout returned s
  | .echo cmu portB rtt => Sys2Proof.Machine.execEcho cmu portB rtt s
  | .ack cmu status => Sys2Proof.Machine.execAck cmu status s
  | .dataFrame m => Sys2Proof.Machine.execDataFrame m s
  | .cmuLoadStatus cmu m => Sys2Proof.Machine.execCmuLoadStatus cmu m s
  | .holdResponse cmu => Sys2Proof.Machine.execHoldResponse cmu s
  | .stepData cmu ident group first samples => Sys2Proof.Machine.execStepData cmu ident group first samples s
  | .urgent addr reason => Sys2Proof.Machine.execUrgent addr reason s
  | .breakTriple addr lastA firstB => Sys2Proof.Machine.execBreakTriple addr lastA firstB s
  | .portLockLoss lastA firstB => Sys2Proof.Machine.execPortLockLoss lastA firstB s
  | .symbolGapTimeout => Sys2Proof.Machine.execSymbolGapTimeout s
  | .ringStartTimeout => Sys2Proof.Machine.execRingStartTimeout s
  | .renewalTimeout => Sys2Proof.Machine.execRenewalTimeout s
  | .renewalRetry => Sys2Proof.Machine.execRenewalRetry s
  | .cellDataLostOpen => Sys2Proof.Machine.execCellDataLostOpen s
  | .renewRing r => Sys2Proof.Machine.execRenewRing r s
  | .stepLocalDetect => Sys2Proof.Machine.execStepLocalDetect s
  | .restSampleTime group => Sys2Proof.Machine.execRestSampleTime group s
  | .capacityLearningEvent group => Sys2Proof.Machine.execCapacityLearningEvent group s
  | .learnedStateWrite => Sys2Proof.Machine.execLearnedStateWrite s
  | .impRecordWrite => Sys2Proof.Machine.execImpRecordWrite s
  | .throttleRecoverExpiry => Sys2Proof.Machine.execThrottleRecoverExpiry s
  | .localSensorSample ohms board => Sys2Proof.Machine.execLocalSensorSample ohms board s
  | .junctionSample temp => Sys2Proof.Machine.execJunctionSample temp s
  | .pwmOvercurrentOff output => Sys2Proof.Machine.execPwmOvercurrentOff output s
  | .pwmRestart output => Sys2Proof.Machine.execPwmRestart output s
  | .leaseExpiry => Sys2Proof.Machine.execLeaseExpiry s
  | .rampDownWaitEnd => Sys2Proof.Machine.execRampDownWaitEnd s
  | .envelopeAck node afterMs => Sys2Proof.Machine.execEnvelopeAck node afterMs s
  | .restWindowStart => Sys2Proof.Machine.execRestWindowStart s
  | .restWindowEnd => Sys2Proof.Machine.execRestWindowEnd s
  | .restRetryExpiry => Sys2Proof.Machine.execRestRetryExpiry s
  | .safetyInputSample levels => Sys2Proof.Machine.execSafetyInputSample levels s
  | .testPulseStart => Sys2Proof.Machine.execTestPulseStart s
  | .discrepancyGridTick => Sys2Proof.Machine.execDiscrepancyGridTick s
  | .chargeBlockTimeout => Sys2Proof.Machine.execChargeBlockTimeout s
  | .xtripInAssert => Sys2Proof.Machine.execXtripInAssert s
  | .xtripInRelease => Sys2Proof.Machine.execXtripInRelease s
  | .xtripConfirmTimeout => Sys2Proof.Machine.execXtripConfirmTimeout s
  | .xtripOutHoldEnd => Sys2Proof.Machine.execXtripOutHoldEnd s
  | .offPulseTest => Sys2Proof.Machine.execOffPulseTest s
  | .offPulseEnd changed => Sys2Proof.Machine.execOffPulseEnd changed s
  | .tripSwitchTest switch good => Sys2Proof.Machine.execTripSwitchTest switch good s
  | .tripContinuityTimeout => Sys2Proof.Machine.execTripContinuityTimeout s
  | .tripPulseEnd => Sys2Proof.Machine.execTripPulseEnd s
  | .tripPulseRepeat faMa => Sys2Proof.Machine.execTripPulseRepeat faMa s
  | .coilShortCircuit coil => Sys2Proof.Machine.execCoilShortCircuit coil s
  | .safeObjectWrite r index sub value gateOk => Sys2Proof.Machine.execSafeObjectWrite r index sub value gateOk s
  | .proofTestDueExpiry => Sys2Proof.Machine.execProofTestDueExpiry s
  | .helloSend => Sys2Proof.Machine.execHelloSend s
  | .twinHello h => Sys2Proof.Machine.execTwinHello h s
  | .pairWaitExpiry => Sys2Proof.Machine.execPairWaitExpiry s
  | .lockFrame pl source seq => Sys2Proof.Machine.execLockFrame pl source seq s
  | .rowInput m => Sys2Proof.Machine.execRowInput m s
  | .cellIndex crcs => Sys2Proof.Machine.execCellIndex crcs s
  | .digest m => Sys2Proof.Machine.execDigest m s
  | .patternData kind index total bytes item => Sys2Proof.Machine.execPatternData kind index total bytes item s
  | .bye reason => Sys2Proof.Machine.execBye reason s
  | .joinRequest => Sys2Proof.Machine.execJoinRequest s
  | .joinSnapshotBegins ps => Sys2Proof.Machine.execJoinSnapshotBegins ps s
  | .joinJoined => Sys2Proof.Machine.execJoinJoined s
  | .joinCatchUpTimeout => Sys2Proof.Machine.execJoinCatchUpTimeout s
  | .joinRetry => Sys2Proof.Machine.execJoinRetry s
  | .claimFrame word row crcOk => Sys2Proof.Machine.execClaimFrame word row crcOk s
  | .yieldTimeout => Sys2Proof.Machine.execYieldTimeout s
  | .syncFrame m bin => Sys2Proof.Machine.execSyncFrame m bin s
  | .followUp m => Sys2Proof.Machine.execFollowUp m s
  | .announce m => Sys2Proof.Machine.execAnnounce m s
  | .delayReq m bin => Sys2Proof.Machine.execDelayReq m bin s
  | .delayResp m => Sys2Proof.Machine.execDelayResp m s
  | .pdelayReq m bin after => Sys2Proof.Machine.execPdelayReq m bin after s
  | .pdelayResp m bin => Sys2Proof.Machine.execPdelayResp m bin s
  | .transparentClockForward m residence => Sys2Proof.Machine.execTransparentClockForward m residence s
  | .announceReceiptTimeout => Sys2Proof.Machine.execAnnounceReceiptTimeout s
  | .syncReceiptTimeout => Sys2Proof.Machine.execSyncReceiptTimeout s
  | .syncIntervalSend bin1 bin2 => Sys2Proof.Machine.execSyncIntervalSend bin1 bin2 s
  | .announceIntervalSend => Sys2Proof.Machine.execAnnounceIntervalSend s
  | .incrementHi word => Sys2Proof.Machine.execIncrementHi word s
  | .timeShort => Sys2Proof.Machine.execTimeShort s
  | .qentry port => Sys2Proof.Machine.execQentry port s
  | .qstatus port word => Sys2Proof.Machine.execQstatus port word s
  | .canFrameReceive ctl frame sof => Sys2Proof.Machine.execCanFrameReceive ctl frame sof s
  | .canReassemblyTimeout ctl channel node => Sys2Proof.Machine.execCanReassemblyTimeout ctl channel node s
  | .fireTimeout => Sys2Proof.Machine.execFireTimeout s
  | .fireLeaseRenew => Sys2Proof.Machine.execFireLeaseRenew s
  | .canTxSelect ctl => Sys2Proof.Machine.execCanTxSelect ctl s
  | .canTxComplete ctl => Sys2Proof.Machine.execCanTxComplete ctl s
  | .canArbitrationLost ctl => Sys2Proof.Machine.execCanArbitrationLost ctl s
  | .canBusError ctl code add transmitting => Sys2Proof.Machine.execCanBusError ctl code add transmitting s
  | .busOffRecoveryComplete ctl => Sys2Proof.Machine.execBusOffRecoveryComplete ctl s
  | .canTransceiverFault ctl => Sys2Proof.Machine.execCanTransceiverFault ctl s
  | .can2Rxack buffer upd => Sys2Proof.Machine.execCan2Rxack buffer upd s
  | .canTxRequest buffer => Sys2Proof.Machine.execCanTxRequest buffer s
  | .canTxCancel buffer => Sys2Proof.Machine.execCanTxCancel buffer s
  | .canTxReplace buffer => Sys2Proof.Machine.execCanTxReplace buffer s
  | .can2Txfin buffers => Sys2Proof.Machine.execCan2Txfin buffers s
  | .can2Alert bits => Sys2Proof.Machine.execCan2Alert bits s
  | .arpRequest port mac sender target => Sys2Proof.Machine.execArpRequest port mac sender target s
  | .icmpEcho port sender target ident seq data => Sys2Proof.Machine.execIcmpEcho port sender target ident seq data s
  | .ipReassemblyTimeout source ident => Sys2Proof.Machine.execIpReassemblyTimeout source ident s
  | .hello r => Sys2Proof.Machine.execHello r s
  | .openRequest r role options client version nc => Sys2Proof.Machine.execOpenRequest r role options client version nc s
  | .proof r nc proof => Sys2Proof.Machine.execProof r nc proof s
  | .closeRequest r => Sys2Proof.Machine.execCloseRequest r s
  | .keepalive r => Sys2Proof.Machine.execKeepalive r s
  | .commit r => Sys2Proof.Machine.execCommit r s
  | .commitApply => Sys2Proof.Machine.execCommitApply s
  | .discard r => Sys2Proof.Machine.execDiscard r s
  | .logRead r first count => Sys2Proof.Machine.execLogRead r first count s
  | .telemetry m => Sys2Proof.Machine.execTelemetry m s
  | .stepAnnounce r ts => Sys2Proof.Machine.execStepAnnounce r ts s
  | .rawSend r port frame bin => Sys2Proof.Machine.execRawSend r port frame bin s
  | .keySet r slot salt wrapped => Sys2Proof.Machine.execKeySet r slot salt wrapped s
  | .loadBegin r total header => Sys2Proof.Machine.execLoadBegin r total header s
  | .loadData r offset chunk => Sys2Proof.Machine.execLoadData r offset chunk s
  | .loadDataProgrammed good => Sys2Proof.Machine.execLoadDataProgrammed good s
  | .loadEnd r => Sys2Proof.Machine.execLoadEnd r s
  | .loadIdleTimeout => Sys2Proof.Machine.execLoadIdleTimeout s
  | .sessionIdleTimeout session => Sys2Proof.Machine.execSessionIdleTimeout session s
  | .pendingOpenExpiry => Sys2Proof.Machine.execPendingOpenExpiry s
  | .lockoutExpiry source => Sys2Proof.Machine.execLockoutExpiry source s
  | .mbPost bits => Sys2Proof.Machine.execMbPost bits s
  | .mbDone bits => Sys2Proof.Machine.execMbDone bits s
  | .mbReset value => Sys2Proof.Machine.execMbReset value s
  | .mbAlert bits => Sys2Proof.Machine.execMbAlert bits s
  | .hostWindowWrite offset word => Sys2Proof.Machine.execHostWindowWrite offset word s
  | .converterWord0Read r => Sys2Proof.Machine.execConverterWord0Read r s
  | .ceCtrlLoadInit engine word => Sys2Proof.Machine.execCeCtrlLoadInit engine word s
  | .ceHighWordCommit engine offset word => Sys2Proof.Machine.execCeHighWordCommit engine offset word s
  | .ceLowWordRead engine offset => Sys2Proof.Machine.execCeLowWordRead engine offset s
  | .data8 engine byte => Sys2Proof.Machine.execData8 engine byte s
  | .data32 engine word => Sys2Proof.Machine.execData32 engine word s
  | .alive engine word => Sys2Proof.Machine.execAlive engine word s
  | .aliveCfgForget engine word => Sys2Proof.Machine.execAliveCfgForget engine word s
  | .sfpInsertion port byte6 byte3 => Sys2Proof.Machine.execSfpInsertion port byte6 byte3 s
  | .sfpRemoval port => Sys2Proof.Machine.execSfpRemoval port s
  | .sfpOvercurrent port => Sys2Proof.Machine.execSfpOvercurrent port s
  | .linkDown port => Sys2Proof.Machine.execLinkDown port s
  | .journalWriteComplete good => Sys2Proof.Machine.execJournalWriteComplete good s
  | .recoveryIdentSend => Sys2Proof.Machine.execRecoveryIdentSend s
  | .probe seq => Sys2Proof.Machine.execProbe seq s
  | .recoveryBegin seq payload => Sys2Proof.Machine.execRecoveryBegin seq payload s
  | .recoveryData seq payload good => Sys2Proof.Machine.execRecoveryData seq payload good s
  | .recoveryEnd seq => Sys2Proof.Machine.execRecoveryEnd seq s
  | .boot seq rcvyLow => Sys2Proof.Machine.execBoot seq rcvyLow s
  | .recoveryLog seq payload => Sys2Proof.Machine.execRecoveryLog seq payload s
  | .sfpLinkUp port => Sys2Proof.Machine.execSfpLinkUp port s
  | .auxUndervoltageTimeout => Sys2Proof.Machine.execAuxUndervoltageTimeout s
  | .lifetimeCounterWrite => Sys2Proof.Machine.execLifetimeCounterWrite s
  | .frequencyRecordWrite => Sys2Proof.Machine.execFrequencyRecordWrite s
  | .operatingHourTick => Sys2Proof.Machine.execOperatingHourTick s
  | .converterWord1Read r => Sys2Proof.Machine.execConverterWord1Read r s
  | .timeShadowRead field => Sys2Proof.Machine.execTimeShadowRead field s
  | .ceHighWordRead engine offset => Sys2Proof.Machine.execCeHighWordRead engine offset s
  | .ipv4Fragment port source ident offset more data => Sys2Proof.Machine.execIpv4Fragment port source ident offset more data s
  | .eventLogWriteComplete good => Sys2Proof.Machine.execEventLogWriteComplete good s
  | .delayReqSend port bin => Sys2Proof.Machine.execDelayReqSend port bin s

end Sys2Proof.Machine
end

