-- ==== Sys2Proof/Safety.lean ====
section
/-! DEFINITION. Safety: the words the statements use. The parts of the state and what a command leaves as it was, when a
Syben request is accepted, what its answer is, and the invariant that every step keeps. -/

namespace Sys2Proof.Machine

/-! ### Frames -/

/-- The parts of the state, one for each field of `State`. -/
inductive Part where
  /-- fault manager (R38-R46). -/
  | fm
  /-- rows, patterns, core supply (R21-R36). -/
  | rows
  /-- power manager (R86-R119). -/
  | pm
  /-- converter array and fast pairs (R120-R154). -/
  | ca
  /-- string sensing (R155-R166). -/
  | ss
  /-- insulation monitor (R167-R177). -/
  | im
  /-- contactor supervisor (R178-R191). -/
  | pc
  /-- cell link engine (R194-R237). -/
  | cl
  /-- estimation fabric (R238-R275). -/
  | ef
  /-- balancing scheduler (R276-R285). -/
  | bs
  /-- thermal manager (R286-R302). -/
  | tm
  /-- dispatch envelope engine (R305-R330). -/
  | de
  /-- safety island (R331-R364). -/
  | si
  /-- output stages (R348-R350). -/
  | os
  /-- Twin Yarn and lockstep (R365-R408). -/
  | ty
  /-- timebase and network time (R409-R433). -/
  | tb
  /-- Ethernet (R460-R461 R518). -/
  | en
  /-- CAN controllers (R434-R459). -/
  | cn
  /-- Syben protocol, mailboxes (R460-R494). -/
  | sy
  /-- check engines CE0 to CE7 (R495-R499). -/
  | ck
  /-- nonvolatile store (R543-R548). -/
  | nv
  /-- loader and ROM recovery (R526-R542). -/
  | ld
  /-- event log (R520-R523). -/
  | lg
  /-- identity (R514). -/
  | id
  /-- configuration objects in force, key index x 256 + subindex; unlisted is the Reset value (R507-R509). -/
  | cfg
  /-- STOP values accepted whose Takes effect entry has not come (R508). -/
  | stopWait
  /-- bytes of the cell model tables accepted and not yet in force, each plus 1, by index x 65536 + offset (R508). -/
  | bytesWait
  /-- byte-array objects (cell model tables), key index x 65536 + offset; unlisted reads 0 (R240). -/
  | bytes
  /-- counter that numbers the free values taken; the model's field, not the spec's (DESIGN CHOICE). -/
  | freeCount
  /-- what has left the module's ports, oldest first; the model's field (DESIGN CHOICE). -/
  | out
  /-- commands waiting, first in first out; the model's field. -/
  | pending
  deriving DecidableEq, Repr

/-- A part reads the same in two states. -/
def Part.same (s t : State) : Part → Prop
  | .fm => t.fm = s.fm
  | .rows => t.rows = s.rows
  | .pm => t.pm = s.pm
  | .ca => t.ca = s.ca
  | .ss => t.ss = s.ss
  | .im => t.im = s.im
  | .pc => t.pc = s.pc
  | .cl => t.cl = s.cl
  | .ef => t.ef = s.ef
  | .bs => t.bs = s.bs
  | .tm => t.tm = s.tm
  | .de => t.de = s.de
  | .si => t.si = s.si
  | .os => t.os = s.os
  | .ty => t.ty = s.ty
  | .tb => t.tb = s.tb
  | .en => t.en = s.en
  | .cn => t.cn = s.cn
  | .sy => t.sy = s.sy
  | .ck => t.ck = s.ck
  | .nv => t.nv = s.nv
  | .ld => t.ld = s.ld
  | .lg => t.lg = s.lg
  | .id => t.id = s.id
  | .cfg => t.cfg = s.cfg
  | .stopWait => t.stopWait = s.stopWait
  | .bytesWait => t.bytesWait = s.bytesWait
  | .bytes => t.bytes = s.bytes
  | .freeCount => t.freeCount = s.freeCount
  | .out => t.out = s.out
  | .pending => t.pending = s.pending

/-- Nothing but the named parts of the state differs. -/
def Alters (ps : List Part) (s t : State) : Prop := ∀ p, p ∉ ps → p.same s t

/-- The Twin Yarn part is the same but for the pair message counter (R404) and the commands due to travel (R487). -/
def Twin.traffic (s t : Twin) : Prop :=
  t = { s with counter := t.counter, cmdsDue := t.cmdsDue, longDue := t.longDue }

/-- The CAN controllers are the same but for the chains of frames of Syben messages that wait (R471). -/
def Can.traffic (s t : Can) : Prop :=
  t = { s with c1 := { s.c1 with chain := t.c1.chain }, c2 := { s.c2 with chain := t.c2.chain } }

/-- The Ethernet ports are the same but for their frame counters (R518). -/
def Ethernet.traffic (s t : Ethernet) : Prop :=
  t = { s with p1 := { s.p1 with rx := t.p1.rx, tx := t.p1.tx }, p2 := { s.p2 with rx := t.p2.rx, tx := t.p2.tx } }

/-- The Syben part is the same but for its sessions, its mailbox slots and their queues, the events held for a slot
and the unit's message counter (R465, R467, R483). -/
def Syben.traffic (s t : Syben) : Prop :=
  t = { s with
    sessions := t.sessions, slots := t.slots, done := t.done, receive := t.receive, queue := t.queue,
    heldEvents := t.heldEvents, unitCounter := t.unitCounter }

/-- A part is the same but for what sending and answering messages moves. -/
def Part.steady (s t : State) : Part → Prop
  | .ty => s.ty.traffic t.ty
  | .cn => s.cn.traffic t.cn
  | .en => s.en.traffic t.en
  | .sy => s.sy.traffic t.sy
  | .out => s.out <+: t.out
  | p => p.same s t

/-- Nothing but the named parts of the state differs, other than by the traffic of messages that the command sends. -/
def Moves (ps : List Part) (s t : State) : Prop := ∀ p, p ∉ ps → p.steady s t

/-! ### Resets -/

/-- The random-access memory is cleared (R109): every part that only it holds is as after reset. -/
def Cleared (t : State) : Prop :=
  t.fm = {} ∧ t.rows = {} ∧ t.ca = {} ∧ t.ss = {} ∧ t.im = {} ∧ t.pc = {} ∧ t.cl = {} ∧ t.ef = {} ∧ t.bs = {} ∧ t.tm = {} ∧
  t.de = {} ∧ t.os = {} ∧ t.tb = {} ∧ t.cn = {} ∧ t.sy = {} ∧ t.ck = [] ∧ t.cfg = [] ∧ t.stopWait = [] ∧ t.bytesWait = [] ∧
  t.bytes = []

/-- Every coil is commanded off. -/
def CoilsOff (t : State) : Prop := ∀ n, n ∈ [1, 2, 3, 4] → (t.coil n).cmd = false

/-! ### Faults -/

/-- The fault manager after a detector raises the fault of a condition it finds true (R38 to R43). -/
def State.condFm (s : State) (code item : Nat) : FaultMgr := s.fm.raise false s.tb.now (s.inPair code) code item

/-- The fault manager after an occurrence raises an event fault (R551). -/
def State.eventFm (s : State) (code item : Nat) : FaultMgr := s.fm.raise true s.tb.now (s.inPair code) code item

/-! ### Syben requests -/

/-- A request is accepted in a session (R467 to R483, R537): the core runs, with the control processor up (R27), and serves
its transport; its length is what it says; the session exists, its MAC holds, it comes from the session's source under the negotiated major version; its
sequence is higher than the session's highest; the loader, if it runs, answers its opcode; it is no shorter than its
fixed part, with a reserved byte of 0; and the session's role permits it. -/
def Accepted (s : State) (r : Req) (opcode : Nat) (payload : Bytes) (fixed : Nat) (role : Nat → Bool)
    (x : Session) : Prop :=
  s.coreUp = true ∧ s.rows.cpRestarting = false ∧ s.serves r.source = true ∧
  r.length.getD (reqArrived r payload).length = (reqArrived r payload).length ∧
  s.session r.session = some x ∧ r.mac = macOf x.c2m r.shortMac (reqCovered r opcode (reqArrived r payload)) ∧
  sourceKey r.source = sourceKey x.source ∧ r.version / 16 = x.version / 16 ∧ x.high < r.seq ∧
  (s.loaderRuns = false ∨ opcode ∈ loaderOpcodes) ∧
  fixed ≤ (reqArrived r payload).length ∧ r.reserved = 0 ∧ role x.role = true

/-- The answer to a request (R467, R483): a response with the opcode, a status and a body, the request's session and
sequence. It is the last thing that left the module, but for the twin's host SPI port, which this unit does not have
(R470). -/
def Answered (t : State) (r : Req) (opcode status : Nat) (body : Bytes) : Prop :=
  ∃ m : Msg, m.opcode = opcode ∧ m.status = status ∧ m.payload = body ∧ m.session = r.session ∧ m.seq = r.seq ∧
    m.flags % 2 = 1 ∧ (r.source ≠ .twinSpi → t.out.getLast? = some (.response r.source m))

/-- An accepted LIVE write or read waits for its row (R506 to R508): it joins those that wait, behind them, with the mailbox
slot that its response returns in; nothing has left the module, and nothing else has moved but traffic. -/
def Waits (s t : State) (r : Req) (x : Session) (cmd : Instr) (unit agreed : Bool) : Prop :=
  t.sy.live = s.sy.live ++
    [{ cmd, req := r, sess := x, slot := if r.source = .spi then s.sy.queue.head? else none, unit, agreed }] ∧
  Syben.traffic { s.sy with live := t.sy.live } t.sy ∧ t.out = s.out ∧ Moves [.sy] s t

/-- A request outside a session passes its first checks (R467, R468): the core runs, with the control processor up (R27), and
serves its transport, its length is what it says, its MAC is all 0, its payload is no shorter than its fixed part and its reserved byte is 0. -/
def Plain (s : State) (r : Req) (payload : Bytes) (fixed : Nat) : Prop :=
  s.coreUp = true ∧ s.rows.cpRestarting = false ∧ s.serves r.source = true ∧
  r.length.getD (reqArrived r payload).length = (reqArrived r payload).length ∧ r.mac.all (· == 0) = true ∧
  fixed ≤ (reqArrived r payload).length ∧ r.reserved = 0

/-- The state once the frame of a request over UDP has counted (R518). -/
def State.arrived (s : State) (r : Req) : State :=
  match r.source with
  | .udp _ _ => s.frameIn r.sfp
  | _ => s

/-- A token message leaves as telemetry of kind 1 (R174, R493): with an IPv4 address and a node ID (R500, R516), what leaves
the module has a unit message of opcode 0x30 for the module's group, whose payload names the node and holds the token record,
with the telemetry MAC; else nothing leaves. -/
def TokenSent (s t : State) (kind : Nat) (m : TokenMsg) : Prop :=
  if s.cfgGet 0x3180 1 = 0 ∨ s.id.nodeId = 0 then t.out = s.out
  else ∃ x : Msg, x.opcode = 0x30 ∧ x.payload = [1, 0] ++ leBytes 2 s.id.nodeId ++ tokenBytes kind m ∧
    x.mac = some (s.telemetryMac x.covered) ∧
    .message (.udp (239 * 2 ^ 24 + 192 * 2 ^ 16 + 86 * 256 + s.cfgGet 0x2182 1) 48621) x ∈ t.out.drop s.out.length

/-- A Twin Yarn frame as it leaves in the present row (R368). -/
def State.frameOf (s : State) (f : TwinFrame) : Out := .twin f (twinBytes s.rowCount f)

/-- The requests in a session that the commands are: the request, its opcode and its payload (R474, R488). WRITE is not
among them: a WRITE to an object with a command of its own is that command (R507). -/
def requestOf : Instr → Option (Req × Nat × Bytes)
  | .faultAcknowledge r v => some (r, 0x11, writePayload r 0x1A01 0 0 (leBytes 1 v))
  | .softwareReset r v => some (r, 0x11, writePayload r 0x2280 1 0 (leBytes 1 v))
  | .bindOff r v _ _ => some (r, 0x11, writePayload r 0x2280 2 0 (leBytes 1 v))
  | .ringArm r pair => some (r, 0x11, writePayload r 0x2481 (3 + pair) 0 [1])
  | .ringSoftwareTrigger r pair _ => some (r, 0x11, writePayload r 0x2481 (3 + pair) 0 [2])
  | .softwareTrigger r v => some (r, 0x11, writePayload r 0x2387 0 0 (leBytes 1 v))
  | .auxCoilCommand r v => some (r, 0x11, writePayload r 0x2781 0 0 (leBytes 1 v))
  | .renewRing r => some (r, 0x11, writePayload r 0x2889 0 0 [1])
  | .stepRequest r ts => some (r, 0x11, writePayload r 0x2886 0 0 (stampBytes ts))
  | .fabricStop r v => some (r, 0x11, writePayload r 0x2989 0 0 (leBytes 1 v))
  | .learnedStateReset r => some (r, 0x11, writePayload r 0x298F 0 0 [0x5C])
  | .balanceEnable r v => some (r, 0x11, writePayload r 0x2A80 1 0 (leBytes 1 v))
  | .leaseWrite r v => some (r, 0x11, writePayload r 0x2C84 0 0 v)
  | .safetyInputReset r v => some (r, 0x11, writePayload r 0x2D8A 0 0 (leBytes 1 v))
  | .safeObjectWrite r index sub v _ => some (r, 0x11, writePayload r index sub 0 v)
  | .safetySetConfirm r v _ => some (r, 0x11, writePayload r 0x2D8B 0 0 (leBytes 4 v))
  | .safetySetRevert r => some (r, 0x11, writePayload r 0x2D8C 0 0 [1])
  | .proofTestAutomated r _ => some (r, 0x11, writePayload r 0x2D8D 0 0 [1])
  | .proofTestRecord r => some (r, 0x11, writePayload r 0x2D8D 0 0 [2])
  | .proofTestTrip r => some (r, 0x11, writePayload r 0x2D8D 0 0 [3])
  | .proofTestUvrDrop r => some (r, 0x11, writePayload r 0x2D8D 0 0 [4])
  | .handOverRequest r v => some (r, 0x11, writePayload r 0x2F81 0 0 (leBytes 1 v))
  | .rejoinRequest r v => some (r, 0x11, writePayload r 0x2F82 0 0 (leBytes 1 v))
  | .stepAccept r v => some (r, 0x11, writePayload r 0x3083 0 0 (leBytes 1 v))
  | .incrementWrite r v => some (r, 0x11, writePayload r 0x3086 0 0 (leBytes 8 v))
  | .timeStepRequest r v => some (r, 0x11, writePayload r 0x3087 0 0 (leInt 8 v))
  | .controllerMode r ctl v => some (r, 0x11, writePayload r 0x3280 ctl 0 (leBytes 1 v))
  | .recoverRequest r ctl v => some (r, 0x11, writePayload r 0x328A ctl 0 (leBytes 1 v))
  | .hostEngineClaim r engine => some (r, 0x11, writePayload r 0x3380 (engine - 5) 0 [1])
  | .hostEngineRelease r engine => some (r, 0x11, writePayload r 0x3380 (engine - 5) 0 [0])
  | .recoveryRequest r v => some (r, 0x11, writePayload r 0x3481 0 0 (leBytes 1 v))
  | .closeRequest r => some (r, 0x04, [])
  | .keepalive r => some (r, 0x05, [])
  | .read r index sub offset length =>
    some (r, 0x10, leBytes 2 index ++ [sub, r.reserved] ++ leBytes 4 offset ++ leBytes 2 length)
  | .readList r count items =>
    some (r, 0x12, [count, r.reserved] ++ items.flatMap fun i => leBytes 2 i.1 ++ [i.2, 0])
  | .commit r => some (r, 0x13, [])
  | .discard r => some (r, 0x14, [])
  | .logRead r first count => some (r, 0x20, leBytes 4 first ++ leBytes 2 count)
  | .stepAnnounce r ts => some (r, 0x40, stampBytes ts)
  | .rawSend r port frame _ => some (r, 0x50, [port % 256, r.reserved, 0, 0] ++ frame)
  | .loadBegin r total header => some (r, 0x60, leBytes 4 total ++ header)
  | .loadData r offset chunk => some (r, 0x61, leBytes 4 offset ++ chunk)
  | .loadEnd r => some (r, 0x62, [])
  | .keySet r slot salt wrapped => some (r, 0x70, [slot % 256, r.reserved, 0, 0] ++ salt ++ wrapped)
  | _ => none

/-! ### The invariant -/

/-- The pending queue of the fault manager as R40 and R41 have it: no more than 64 entries, in order, no code twice. -/
def FaultMgr.Wf (m : FaultMgr) : Prop :=
  m.pending.length ≤ 64 ∧ m.pending.Pairwise (fun a b => b.before a = false) ∧ (m.pending.map (·.code)).Nodup

/-- The invariant: the byte memory and the tables of coil outputs, safety inputs and converter slices keep their canonical
form, the pending queue of the fault manager is as R40 and R41 have it, and plant time is a stamp of R12. -/
structure Inv (s : State) : Prop where
  /-- The byte memory of the cell model tables is canonical. -/
  bytes : memWf s.bytes = true
  /-- The pending queue is bounded, in order, without repeats. -/
  queue : s.fm.Wf
  /-- The table of coil outputs is canonical. -/
  coils : tabWf {} s.os.coils = true
  /-- The table of safety inputs is canonical. -/
  sins : tabWf {} s.si.sins = true
  /-- The table of slices is canonical. -/
  slices : tabWf {} s.ca.slices = true
  /-- Nanoseconds of plant time stay below 10^9. -/
  now : s.tb.now.ns < 1000000000

end Sys2Proof.Machine
end

