-- ==== Sys2Proof/Certificates/Slice0/Obligations.lean ====
section
/-! DEFINITION. The statements for the provers: chapter by chapter what each command does and what it leaves as it was, and
the rules of the whole module. -/

open Sys2Proof Sys2Proof.Machine

/-- Cast-on (R87 to R92, R98, R100, R104): each command in the state that it is for, with its frame. -/
def Obligations.CastOnCommands : Prop :=
  (∀ (s : State) (long : Bool), s.pm.state = .off → s.pm.holdRelay = true → s.pm.wakeWait = false →
    s.pm.disconnected = false →
    ∃ t, exec (.auxPowerRise long) s = .next t ∧ Cleared t ∧ t.pm.state = .slot ∧ t.pm.resetKind = 1 ∧
      t.pm.offLong = long ∧ t.pm.wakeSource = 0 ∧ t.pm.startSlot < 32 ∧ t.pending = s.pending ∧ s.out <+: t.out) ∧
  (∀ s : State, s.pm.state = .slot → s.pm.sagPaused = false →
    ∃ t, exec .startSlotExpiry s = .next t ∧ t.pm = { s.pm with state := .castOn, step := 1, stepWait := 0 } ∧
      Alters [.pm] s t) ∧
  (∀ (s : State) (c : CastOnInp), s.pm.state = .castOn → s.pm.step = 1 → s.pm.stepWait = 0 → s.pm.sagPaused = false →
    s.ld.recovery = false →
    ∃ t, exec (.castOnStepEnd 1 c) s = .next t ∧
      t.pm = { s.pm with capUf := c.capUf, vholdMv := c.vholdMv, step := 2, stepWait := 0 } ∧
      Twin.traffic { s.ty with sideB := c.sideB } t.ty ∧
      t.fm = (if c.capUf < 600 then s.condFm 0x0202 0xFFFF else s.fm) ∧ Moves [.pm, .fm, .ty] s t) ∧
  (∀ (s : State) (c : CastOnInp), s.pm.state = .castOn → s.pm.step = 3 → s.pm.stepWait = 0 → s.pm.sagPaused = false →
    s.ld.recovery = false → c.fault ≠ 0 →
    ∃ t, exec (.castOnStepEnd 3 c) s = .next t ∧ t.pm = { s.pm with hvRelays := true, step := 4, stepWait := 0 } ∧
      t.fm = s.condFm c.fault 0xFFFF ∧ Moves [.pm, .fm] s t) ∧
  (∀ (s : State) (cap : Nat), s.pm.state = .castOn ∨ (s.pm.state = .powerFail ∧ s.pm.failFrom = .castOn) →
    s.pm.step = 1 → s.pm.stepWait = 0 → s.pm.sagPaused = false →
    ∃ t, exec (.holdupChargeTimeout cap) s = .next t ∧ t.pm = { s.pm with capUf := cap, step := 2, stepWait := 0 } ∧
      t.fm = s.condFm 0x0202 0xFFFF ∧ Moves [.pm, .fm] s t) ∧
  (∀ s : State, s.pm.step = 9 →
    ∃ t, exec .startPeriodEnd s = .next t ∧ t.pm = { s.pm with startOpen := false } ∧ Alters [.pm] s t)

/-- Sag pauses (R96 to R98) and 0x0201 (R524). -/
def Obligations.SagCommands : Prop :=
  (∀ s : State, s.powered = true → s.pm.sagPaused = false → ¬(s.inStart = true ∧ s.pm.sagThisStart = 9) →
    ∃ t, exec .sagPauseBegin s = .next t ∧
      t.pm = { s.pm with
        sagPaused := true, resumeTimer := false, sagTotal := s.pm.sagTotal + 1
        sagThisStart := min 255 (if s.inStart then s.pm.sagThisStart + 1 else s.pm.sagThisStart) } ∧
      t.fm = s.eventFm 0x0204 0xFFFF ∧ Moves [.pm, .fm] s t) ∧
  (∀ s : State, s.powered = true → s.pm.sagPaused = false → s.inStart = true → s.pm.sagThisStart = 9 →
    ∃ t, exec .sagPauseBegin s = .next t ∧
      t.pm = { s.pm with
        sagPaused := true, resumeTimer := false, sagTotal := s.pm.sagTotal + 1, sagThisStart := 10
        queue := [], closingRefused := true } ∧
      t.fm = (s.eventFm 0x0204 0xFFFF).raise false s.tb.now (s.inPair 0x0203) 0x0203 0xFFFF ∧ Moves [.pm, .fm] s t) ∧
  (∀ s : State, s.pm.sagPaused = true →
    ∃ t, exec .auxAboveResumeThreshold s = .next t ∧
      t.pm = { s.pm with resumeTimer := true, resumeFrom := if s.tb.running then some s.tb.now else none } ∧
      Alters [.pm] s t) ∧
  (∀ s : State, s.powered = true → s.pm.sagPaused = true →
    ∃ t, exec .sagPauseBegin s = .next t ∧ t.pm = { s.pm with resumeTimer := false } ∧ Alters [.pm] s t) ∧
  (∀ s : State, s.pm.sagPaused = true → s.pm.resumeTimer = true → s.pm.stepWait ≠ 6 → s.en.p1.cageBack = false →
    s.en.p2.cageBack = false →
    ∃ t, exec .sagPauseEnd s = .next t ∧
      t.pm = { s.pm with
        sagPaused := false, resumeTimer := false
        step := if s.pm.stepWait = 0 then s.pm.step else s.pm.stepWait, stepWait := 0 } ∧
      t.tb = (s.runPast s.pm.resumeFrom 50000000).tb ∧ Alters [.pm, .tb] s t) ∧
  (∀ s : State, s.coreUp = true →
    ∃ t, exec .auxUndervoltageTimeout s = .next t ∧ t.fm = s.condFm 0x0201 0xFFFF ∧ Moves [.fm] s t)

/-- Power fail (R102, R103) and input protection (R62). The canonical coil table is part of the invariant. -/
def Obligations.PowerFailCommands : Prop :=
  (∀ s : State, s.powered = true → s.pm.onStore = false → tabWf {} s.os.coils = true →
    ∃ t, exec .powerFailEntry s = .next t ∧ t.pm.state = .powerFail ∧ t.pm.failFrom = s.pm.state ∧ t.pm.onStore = true ∧
      t.pm.queue = [] ∧ t.pm.safeUntilConnect = true ∧ CoilsOff t ∧ t.os.uvr = false ∧ t.os.tripActive = false ∧
      t.si.xtripOut = false ∧ t.en.p1.cageOn = false ∧ t.en.p2.cageOn = false ∧
      (∀ k x, (k, x) ∈ t.tm.pwm → x.duty = 0) ∧
      Moves [.pm, .os, .pc, .de, .nv, .tm, .en, .fm, .si] s t) ∧
  (∀ s : State, s.pm.state = .powerFail → s.pm.disconnected = false → s.pm.failFrom ≠ .reset → s.coreUp = true →
    s.en.p1.cageBack = false → s.en.p2.cageBack = false →
    ∃ t, exec .powerFailRideThrough s = .next t ∧
      t.pm = { s.pm with
        state := s.pm.failFrom, onStore := false
        readyStamp := if s.pm.failFrom = .ready then s.tb.now else s.pm.readyStamp } ∧
      t.fm = s.eventFm 0x0206 0xFFFF ∧ Moves [.pm, .fm] s t) ∧
  (∀ s : State, s.pm.onStore = true →
    ∃ t, exec .storeLow s = .next t ∧ Cleared t ∧ t.pm.state = .off ∧ t.pm.onStore = false ∧ t.pm.prevPowerFail = true ∧
      t.pending = s.pending ∧ (s.ty.paired = true → ∃ b, .twin (.bye 4) b ∈ t.out)) ∧
  (∀ s : State, s.powered = true → s.pm.disconnected = false → s.pm.onStore = false → tabWf {} s.os.coils = true →
    ∃ t, exec .overvoltageDisconnect s = .next t ∧ t.pm.disconnected = true ∧ t.pm.prevOverVolt = true ∧
      t.pm.state = .powerFail ∧ t.pm.onStore = true ∧ CoilsOff t ∧ t.os.uvr = false ∧ t.si.xtripOut = false ∧
      Moves [.pm, .os, .pc, .de, .nv, .tm, .en, .fm, .si] s t) ∧
  (∀ s : State, s.powered = true → s.pm.disconnected = false → s.pm.onStore = true →
    ∃ t, exec .overvoltageDisconnect s = .next t ∧ t.pm = { s.pm with disconnected := true, prevOverVolt := true } ∧
      Alters [.pm] s t) ∧
  (∀ (s : State) (long : Bool), s.pm.disconnected = true →
    ∃ t, exec (.overvoltageRestart long) s = .next t ∧ Cleared t ∧ t.pm.state = .slot ∧ t.pm.resetKind = 2 ∧
      t.pm.disconnected = false ∧ t.pm.offLong = long ∧ t.pending = s.pending)

/-- Resets (R105 to R110). -/
def Obligations.ResetCommands : Prop :=
  (∀ (s : State) (low : Bool),
    ∃ t, exec (.resetNChange low) s = .next t ∧ t.pm = { s.pm with resetPin := low, resetTimer := true } ∧
      Alters [.pm] s t) ∧
  (∀ s : State, s.powered = true → s.pm.resetPin = true → s.pm.resetIgnored = false → s.pm.resetLow = false →
    ∃ t, exec .resetNAssertRecognised s = .next t ∧
      t.pm = { s.pm with resetLow := true, resetTimer := false, resetEntryDue := true } ∧
      t.ty = (if s.os.gate && s.twinHealthy then { s.ty with yielding := 1 } else s.ty) ∧ Alters [.pm, .ty] s t) ∧
  (∀ s : State, s.pm.resetEntryDue = true → s.pm.onStore = false →
    ∃ t, exec .resetEntry s = .next t ∧ Cleared t ∧ t.pm.state = .reset ∧ t.ty.wordOwn = 0 ∧ t.pending = s.pending ∧
      (s.ty.paired = true → ∃ b, .twin (.bye 1) b ∈ t.out)) ∧
  (∀ s : State, s.pm.resetEntryDue = true → s.pm.onStore = true →
    ∃ t, exec .resetEntry s = .next t ∧ Cleared t ∧ t.pm.state = .powerFail ∧ t.pm.failFrom = .reset ∧
      t.pm.onStore = true ∧ t.pending = s.pending) ∧
  (∀ s : State, s.pm.resetPin = false → s.pm.resetIgnored = false → s.pm.resetLow = true → s.inReset = true →
    s.pm.onStore = false →
    ∃ t, exec .resetNReleaseRecognised s = .next t ∧ Cleared t ∧ t.pm.state = .castOn ∧ t.pm.resetKind = 3 ∧
      t.pm.resetLow = false ∧ t.pending = s.pending) ∧
  (∀ s : State, s.pm.resetPin = false → s.pm.resetIgnored = false → s.pm.resetLow = true → s.inReset = true →
    s.pm.onStore = true →
    ∃ t, exec .resetNReleaseRecognised s = .next t ∧ Cleared t ∧ t.pm.state = .powerFail ∧ t.pm.failFrom = .castOn ∧
      t.pm.resetKind = 3 ∧ t.pending = s.pending) ∧
  (∀ s : State, s.inReset = true → s.pm.onStore = false → s.pm.resetPin = true →
    ∃ t, exec .stuckReset s = .next t ∧ Cleared t ∧ t.pm.state = .castOn ∧ t.pm.resetKind = 4 ∧
      t.pm.resetIgnored = true ∧ t.pending = s.pending) ∧
  (∀ s : State, s.pm.resetIgnored = true → s.pm.resetPin = false →
    ∃ t, exec .resetNRearm s = .next t ∧ t.pm = { s.pm with resetIgnored := false, resetLow := false, resetTimer := false } ∧
      Alters [.pm] s t)

/-- Bind-off and transport hold (R113 to R117, R235). -/
def Obligations.TransportHoldCommands : Prop :=
  (∀ (s : State) (n : Nat), s.pm.bindStep = 3 → s.cl.driver = true →
    (s.modCmu n fun c => { c with held := true }).enumerated.all
      (fun c => ((s.modCmu n fun c => { c with held := true }).cmu c).held) = false →
    ∃ t, exec (.holdResponse n) s = .next t ∧ t.cl = (s.modCmu n fun c => { c with held := true }).cl ∧
      Alters [.cl] s t) ∧
  (∀ s : State, s.pm.bindStep = 3 → s.pm.onStore = false →
    ∃ t, exec .cmuHoldTimeout s = .next t ∧
      t.pm = { s.pm with state := .ready, readyStamp := s.tb.now, bindStep := 0, bindReason := 7 } ∧
      t.fm = s.eventFm 0x0208 0xFFFF ∧ (s.cl.driver = true → .wakeTone ∈ t.out) ∧
      Moves [.pm, .cl, .fm] s t) ∧
  (∀ s : State, s.pm.bindStep = 5 ∨ s.pm.bindStep = 6 →
    ∃ t, exec .holdRelayRelease s = .next t ∧ Cleared t ∧ t.pm.state = .hold ∧ t.pm.holdRelay = false ∧
      t.pm.bindStep = 0 ∧ t.pm.onStore = false ∧ t.pm.wakeSource = 0 ∧ t.pending = s.pending) ∧
  (∀ (s : State) (long : Bool), s.pm.state = .hold →
    ∃ t, exec (.busWake true long) s = .next t ∧ Cleared t ∧ t.pm.state = .slot ∧ t.pm.resetKind = 6 ∧
      t.pm.holdRelay = true ∧ t.pm.offLong = long ∧ t.pm.wakeSource = s.pm.wakeSource ||| 1) ∧
  (∀ (s : State) (long : Bool), s.pm.state = .hold →
    ∃ t, exec (.busWake false long) s = .next t ∧
      t.pm = { s.pm with wakeSource := s.pm.wakeSource ||| 1, holdRelay := true, state := .off, wakeWait := true } ∧
      Alters [.pm] s t) ∧
  (∀ (s : State) (long : Bool), s.pm.state = .hold →
    ∃ t, exec (.wakeNWake long) s = .next t ∧ Cleared t ∧ t.pm.state = .slot ∧ t.pm.resetKind = 6 ∧
      t.pm.holdRelay = true ∧ t.pm.wakeSource = s.pm.wakeSource ||| 2) ∧
  (∀ (s : State) (long : Bool), s.pm.wakeWait = true → s.pm.state = .off →
    ∃ t, exec (.auxAppliedAfterWake long) s = .next t ∧ Cleared t ∧ t.pm.state = .slot ∧ t.pm.resetKind = 6 ∧
      t.pm.offLong = long ∧ t.pm.wakeWait = false ∧ t.pm.wakeSource = s.pm.wakeSource)

/-- SOFTWARE_RESET (R111), RECOVERY_REQUEST (R549), BIND_OFF (R112, R113): what the command does, and what it does when its row
comes (R508, RowCommands). -/
def Obligations.ResetRequests : Prop :=
  (∀ (s : State) (r : Req) (x : Session),
    Accepted s r 0x11 (writePayload r 0x2280 1 0 (leBytes 1 0xA5)) 8 engineer x → s.resetRefused = false →
    ∃ t, exec (.softwareReset r 0xA5) s = .next t ∧ Waits s t r x (.softwareReset r 0xA5) true false) ∧
  (∀ (s : State) (r : Req) (x : Session),
    Accepted s r 0x11 (writePayload r 0x3481 0 0 (leBytes 1 0x5A)) 8 engineer x → s.resetRefused = false →
    ∃ t, exec (.recoveryRequest r 0x5A) s = .next t ∧ Waits s t r x (.recoveryRequest r 0x5A) true false) ∧
  (∀ (s : State) (r : Req) (x : Session) (low agrees : Bool),
    Accepted s r 0x11 (writePayload r 0x2280 2 0 (leBytes 1 1)) 8 engineer x → s.pm.bindStep = 0 →
    s.bindRefusal low agrees = 0 →
    ∃ t, exec (.bindOff r 1 low agrees) s = .next t ∧ Waits s t r x (.bindOff r 1 low agrees) false false) ∧
  (∀ (s : State) (r : Req) (x : Session) (low agrees : Bool),
    Accepted s r 0x11 (writePayload r 0x2280 2 0 (leBytes 1 1)) 8 engineer x → s.pm.bindStep = 0 →
    s.bindRefusal low agrees ≠ 0 →
    ∃ t, exec (.bindOff r 1 low agrees) s = .next t ∧ Answered t r 0x11 0x0B [] ∧
      t.pm = { s.pm with bindReason := s.bindRefusal low agrees } ∧ t.fm = s.eventFm 0x0208 0xFFFF ∧
      Moves [.pm, .fm] s t) ∧
  (∀ (s : State) (r : Req) (x : Session), s.resetRefused = false → (s.os.gate && s.twinHealthy) = false →
    ∃ t, s.liveAct x (.softwareReset r 0xA5) = (t, 0, []) ∧ t.pm = { s.pm with softDue := 1 } ∧ Alters [.pm] s t) ∧
  (∀ (s : State) (r : Req) (x : Session), s.resetRefused = false → s.os.gate = true → s.twinHealthy = true →
    ∃ t, s.liveAct x (.softwareReset r 0xA5) = (t, 0, []) ∧ t.pm = { s.pm with softDue := 1 } ∧
      t.ty = { s.ty with yielding := 1 } ∧ Alters [.pm, .ty] s t) ∧
  (∀ (s : State) (r : Req) (x : Session), s.resetRefused = false →
    ∃ t, s.liveAct x (.recoveryRequest r 0x5A) = (t, 0, []) ∧ t.pm = { s.pm with softDue := 2 } ∧
      t.ty = (if s.os.gate && s.twinHealthy then { s.ty with yielding := 1 } else s.ty) ∧ Alters [.pm, .ty] s t) ∧
  (∀ (s : State) (c : CommitInp), s.inRow = true → s.rows.committed = false → s.ty.yielding = 0 → s.pm.softDue = 1 →
    ∃ t, exec (.outputCommit c) s = .next t ∧ Cleared t ∧ t.pm.resetKind = 5 ∧
      t.pm.state = (if s.pm.onStore then .powerFail else .castOn) ∧
      t.pm.recoveryWanted = s.pm.recoveryWanted ∧ t.pending = s.pending) ∧
  (∀ (s : State) (c : CommitInp), s.inRow = true → s.rows.committed = false → s.ty.yielding = 0 → s.pm.softDue = 2 →
    ∃ t, exec (.outputCommit c) s = .next t ∧ Cleared t ∧ t.pm.resetKind = 5 ∧
      t.pm.state = (if s.pm.onStore then .powerFail else .castOn) ∧
      t.pm.recoveryWanted = true ∧ t.pending = s.pending) ∧
  (∀ (s : State) (r : Req) (x : Session) (low agrees : Bool), s.pm.bindStep = 0 → s.bindRefusal low agrees = 0 →
    s.pm.onStore = false →
    ∃ t, s.liveAct x (.bindOff r 1 low agrees) = (t, 0, []) ∧ t.pm.queue = [] ∧ t.pm.bindReason = 0 ∧
      t.pm.state = .bindOff ∧ t.pm.bindStep ≠ 0)

/-- Operating hours (R360), completed writes (R520, R545), the two periodic records (R546). -/
def Obligations.NonvolatileCommands : Prop :=
  (∀ s : State, s.pm.state = .ready → 1 < s.si.proofDue →
    ∃ t, exec .operatingHourTick s = .next t ∧ t.id = { s.id with hours := s.id.hours + 1 } ∧
      t.si = { s.si with proofDue := s.si.proofDue - 1 } ∧ Alters [.id, .si, .nv] s t) ∧
  (∀ (s : State) (h : Held), (s.nv.held.find? fun h => !h.isLog && h.begun) = some h → s.pm.bindStep = 0 →
    ∃ t, exec (.journalWriteComplete true) s = .next t ∧
      t.nv.records = tabPut {} h.id
        ((tabGet {} h.id s.nv.records).write (s.recordFormat h.id) h.payload true) s.nv.records ∧
      t.nv.retrying = false ∧ t.ld = { s.ld with writes := s.ld.writes + 1 } ∧ Alters [.nv, .ld] s t) ∧
  (∀ (s : State) (h : Held), (s.nv.held.find? fun h => !h.isLog && h.begun) = some h → s.nv.retrying = false →
    ∃ t, exec (.journalWriteComplete false) s = .next t ∧ t.nv.retrying = true ∧ t.nv.held = s.nv.held ∧
      t.fm = s.eventFm 0x1404 h.id ∧
      t.ld = { s.ld with writes := s.ld.writes + 1, verifyFails := s.ld.verifyFails + 1 } ∧
      Moves [.nv, .ld, .fm] s t) ∧
  (∀ (s : State) (h : Held), (s.nv.held.find? fun h => h.isLog && h.begun) = some h → s.pm.bindStep = 0 →
    s.lg.lostDue = false →
    ∃ t, exec (.eventLogWriteComplete true) s = .next t ∧ t.lg.newest = s.lg.newest + 1 ∧
      t.lg.records.head? = some { h.log with number := (s.lg.newest + 1).toNat } ∧ Alters [.nv, .lg] s t) ∧
  (∀ s : State, s.coreUp = true → s.latest 0x0004 = [] → s.record4 ≠ [0, 0, 0, 0, 0, 0, 0] →
    ∃ t, exec .lifetimeCounterWrite s = .next t ∧ (∃ h ∈ t.nv.held, h.isLog = false ∧ h.id = 0x0004 ∧ h.payload = s.record4) ∧ Alters [.nv] s t) ∧
  (∀ s : State, s.coreUp = true →
    ∃ t, exec .frequencyRecordWrite s = .next t ∧ (∃ h ∈ t.nv.held, h.isLog = false ∧ h.id = 0x0005 ∧ h.payload = s.record5) ∧ Alters [.nv] s t)

/-- Pull-ins (R65, R93 to R95, R179, R334) and AUX_COIL (R180). `runPast` lets plant time reach the spacing. -/
def Obligations.PullInCommands : Prop :=
  (∀ (s : State) (n k : Nat) (rest : List (Nat × Nat)), s.pm.queue = (n, k) :: rest → s.pullInHeld = false →
    s.coreUp = true → s.closeRefusal = 0 → s.pm.closingRefused = false → s.pm.state ≠ .bindOff →
    ∃ t, exec .pullInStart s = .next t ∧
      t.os = (s.modCoil n Coil.on).os ∧
      t.pm = { s.pm with queue := rest, pullIn := n, lastPullIn := some t.tb.now } ∧
      t.tb = (s.runPast s.pm.lastPullIn (s.cfgGet 0x2280 4 * 1000000)).tb ∧
      t.si = { s.si with closeRefusal := 0 } ∧ Alters [.os, .pm, .tb, .si] s t) ∧
  (∀ (s : State) (n k : Nat) (rest : List (Nat × Nat)), s.pm.queue = (n, k) :: rest → s.pullInHeld = false →
    s.coreUp = true → s.closeRefusal ≠ 0 →
    ∃ t, exec .pullInStart s = .next t ∧ t.pm = { s.pm with queue := rest } ∧
      t.si = { s.si with closeRefusal := s.closeRefusal } ∧ Alters [.pm, .tb, .si] s t) ∧
  (∀ s : State, s.pm.pullIn ≠ 0 → (s.coil s.pm.pullIn).drive = true → ¬(s.pm.pullIn = 3 ∧ s.pc.seq = 2) → ¬(s.pm.pullIn = 1 ∧ s.pc.seq = 4) →
    ∃ t, exec .pullInEnd s = .next t ∧
      t.os = (s.modCoil s.pm.pullIn fun c => { c with phase := if c.cmd then 2 else 0 }).os ∧
      t.pm = { s.pm with pullIn := 0 } ∧ t.tb = (s.runPast s.pm.lastPullIn 100000000).tb ∧ Alters [.os, .pm, .tb] s t) ∧
  (∀ s : State, s.pm.pullIn = 1 → (s.coil 1).drive = true → s.pc.seq = 4 → tabWf {} s.os.coils = true →
    ∃ t, exec .pullInEnd s = .next t ∧ t.pc = { s.pc with seq := 5, step5 := 0 } ∧ (t.coil 3).cmd = false ∧
      t.coil 1 = { s.coil 1 with phase := if (s.coil 1).cmd then 2 else 0 } ∧ t.pm.pullIn = 0 ∧
      Alters [.os, .pm, .tb, .pc] s t) ∧
  (∀ (s : State) (r : Req) (x : Session), Accepted s r 0x11 (writePayload r 0x2781 0 0 (leBytes 1 1)) 8 operator x →
    ∃ t, exec (.auxCoilCommand r 1) s = .next t ∧ Waits s t r x (.auxCoilCommand r 1) false false) ∧
  (∀ (s : State) (r : Req) (x : Session), Accepted s r 0x11 (writePayload r 0x2781 0 0 (leBytes 1 0)) 8 operator x →
    ∃ t, exec (.auxCoilCommand r 0) s = .next t ∧ Waits s t r x (.auxCoilCommand r 0) false false) ∧
  (∀ (s : State) (r : Req) (x : Session), (s.coil 4).cmd = false → s.pm.queue = [] →
    ∃ t, s.liveAct x (.auxCoilCommand r 1) = (t, 0, []) ∧ t.pm = { s.pm with queue := [(4, rowKey s.tb.now)] } ∧
      Alters [.pm, .cfg] s t) ∧
  (∀ (s : State) (r : Req) (x : Session), tabWf {} s.os.coils = true →
    ∃ t, s.liveAct x (.auxCoilCommand r 0) = (t, 0, []) ∧ t.coil 4 = (s.coil 4).off ∧
      (∀ q ∈ t.pm.queue, q.1 ≠ 4) ∧ t.pm.pullIn ≠ 4 ∧ Alters [.pm, .os, .cfg] s t)

/-- The contactor supervisor (R179, R181, R183, R184, R186, R190, R191). -/
def Obligations.SequenceCommands : Prop :=
  (∀ s : State, s.pc.seq = 2 → bit s.pc.skipped 1 = false → (s.coil 3).cmd = true → tabWf {} s.os.coils = true →
    ((s.cfgGet 0x2780 11 : Int) ≤ s.pc.maxWeldI ∨ 20000 ≤ s.pc.maxDvBus) →
    ∃ t, exec .weldTestWindowEnd s = .next t ∧ t.fm = s.eventFm 0x0706 0xFFFF ∧ t.pc.weld = s.pc.weld ||| 1 ∧
      t.pc.seq = 0 ∧ (∀ n ∈ [1, 2, 3], (t.coil n).cmd = false) ∧ t.de.connect = 0 ∧ t.de.armed = false ∧
      Moves [.fm, .os, .pm, .pc, .de] s t) ∧
  (∀ s : State, s.pc.seq = 2 → bit s.pc.skipped 1 = false → (s.coil 3).cmd = true → (s.coil 2).cmd = false →
    s.pm.queue = [] → s.pc.maxWeldI < (s.cfgGet 0x2780 11 : Int) → s.pc.maxDvBus < 20000 →
    ∃ t, exec .weldTestWindowEnd s = .next t ∧ t.pm = { s.pm with queue := [(2, rowKey s.tb.now)] } ∧
      t.pc = { s.pc with seq := 3, closed3 := false, timing := false, preMs := 0, preDone := false } ∧
      Alters [.pm, .pc] s t) ∧
  (∀ s : State, s.pc.seq = 3 → s.pc.closed3 = false → tabWf {} s.os.coils = true →
    ∃ t, exec .mainNegClosureTimeout s = .next t ∧ t.fm = s.condFm 0x070A 0xFFFF ∧ t.pc.seq = 7 ∧ t.pc.opening2 = true ∧
      t.pc.curDue = (s.pc.curDue || (decide (60000 ≤ s.pc.dv0) && !s.pc.timing && !s.pc.preDone)) ∧
      (∀ n ∈ [1, 2, 3], (t.coil n).cmd = false) ∧ t.de.armed = false ∧ Moves [.fm, .os, .pm, .pc, .de, .nv] s t) ∧
  (∀ s : State, s.pc.seq = 3 → s.pc.closed3 = true →
    ∃ t, exec .mainNegClosureTimeout s = .next t ∧
      t.pc = { s.pc with curDue := s.pc.curDue || (decide (60000 ≤ s.pc.dv0) && !s.pc.timing && !s.pc.preDone) } ∧
      Alters [.pc] s t) ∧
  (∀ s : State, s.pc.seq = 3 → s.pc.preDone = false → s.pc.timing = true → tabWf {} s.os.coils = true →
    ∃ t, exec .prechargeTimeLimit s = .next t ∧ t.fm = s.condFm 0x0702 0xFFFF ∧ t.pc.seq = 7 ∧ t.pc.opening2 = true ∧
      (∀ n ∈ [1, 2, 3], (t.coil n).cmd = false) ∧ t.de.armed = false ∧ Moves [.fm, .os, .pm, .pc, .de, .nv] s t) ∧
  (∀ s : State, s.pc.seq = 7 → s.pc.sequenced = true → s.pc.opening2 = false → tabWf {} s.os.coils = true →
    ∃ t, exec .mainPosOpenStagger s = .next t ∧ t.pc.opening2 = true ∧ t.pc.seq = 7 ∧ t.coil 1 = (s.coil 1).off ∧
      t.pc.openBothI = decide ((s.cfgGet 0x2780 11 : Rat) ≤ s.latchedAbs) ∧ Alters [.os, .pm, .pc] s t) ∧
  (∀ s : State, s.pc.seq = 7 → s.pc.opening2 = true →
    ¬(s.pc.openBothI = true ∧ (s.cfgGet 0x2780 11 : Rat) ≤ s.latchedAbs) →
    ∃ t, exec .openingWeldTest s = .next t ∧ t.pc = { s.pc with seq := 0, opening2 := false, sequenced := false } ∧
      t.de.connect = (if s.de.connect = 6 then 6 else 0) ∧ Alters [.pc, .de] s t) ∧
  (∀ s : State, s.pc.seq = 7 → s.pc.opening2 = true → s.pc.openBothI = true →
    (s.cfgGet 0x2780 11 : Rat) ≤ s.latchedAbs →
    ∃ t, exec .openingWeldTest s = .next t ∧ t.fm = s.eventFm 0x0708 0xFFFF ∧ t.pc.weld = s.pc.weld ||| 3 ∧
      t.pc.seq = 0 ∧ t.si = { s.si with sf11 := true } ∧ Moves [.fm, .pc, .de, .si] s t)

/-- Dual-channel inputs (R342 to R347) and SF7 (R340). The canonical table of inputs is part of the invariant. -/
def Obligations.SafetyInputCommands : Prop :=
  (∀ (s : State) (levels : Nat), tabWf ({} : Sin) s.si.sins = true →
    ∃ t, exec (.safetyInputSample levels) s = .next t ∧
      (∀ n ∈ [1, 2, 3, 4, 5, 6, 7, 8], (t.sin n).a.raw = bit levels (2 * (n - 1)) ∧
        (t.sin n).b.raw = bit levels (2 * (n - 1) + 1)) ∧
      t.si.windowLeft = s.si.windowLeft - 1 ∧ (s.si.windowLeft ≤ 1 → t.si.sourceX = 0) ∧ Moves [.si, .fm] s t) ∧
  (∀ s : State, ∃ t, exec .testPulseStart s = .next t ∧
      t.si = { s.si with sourceX := s.ns / 25000000 % 4 + 1, windowLeft := 5 } ∧ Alters [.si] s t) ∧
  (∀ s : State, tabWf ({} : Sin) s.si.sins = true →
    ∃ t, exec .discrepancyGridTick s = .next t ∧
      (∀ n ∈ [1, 2, 3, 4, 5, 6, 7, 8],
        if s.safeGet 0x2D80 n ≠ 0 ∧ chanDemand (s.safeGet 0x2D80 n) false (s.sin n).a.filt ≠
            chanDemand (s.safeGet 0x2D80 n) true (s.sin n).b.filt
        then (t.sin n).discCount = (s.sin n).discCount + 1 ∧
          (t.sin n).discBlock = ((s.sin n).discBlock || decide (s.safeGet 0x2D82 n ≤ (s.sin n).discCount + 1))
        else t.sin n = { s.sin n with discCount := 0 }) ∧
      Moves [.si, .fm] s t) ∧
  (∀ (s : State) (r : Req) (x : Session) (bits : Nat),
    Accepted s r 0x11 (writePayload r 0x2D8A 0 0 (leBytes 1 bits)) 8 operator x →
    (∃ n ∈ [1, 2, 3, 4, 5, 6, 7, 8], bit bits (n - 1) = true) →
    (∀ n ∈ [1, 2, 3, 4, 5, 6, 7, 8], bit bits (n - 1) = true → (s.sin n).resettable = true) →
    ∃ t, exec (.safetyInputReset r bits) s = .next t ∧ Waits s t r x (.safetyInputReset r bits) false false) ∧
  (∀ (s : State) (r : Req) (x : Session) (bits : Nat), tabWf ({} : Sin) s.si.sins = true →
    (∃ n ∈ [1, 2, 3, 4, 5, 6, 7, 8], bit bits (n - 1) = true) →
    (∀ n ∈ [1, 2, 3, 4, 5, 6, 7, 8], bit bits (n - 1) = true → (s.sin n).resettable = true) →
    ∃ t, s.liveAct x (.safetyInputReset r bits) = (t, 0, []) ∧
      (∀ n ∈ [1, 2, 3, 4, 5, 6, 7, 8], t.sin n = if bit bits (n - 1) then { s.sin n with
        discBlock := false, restartBlock := false, bothDemanded := false, bothEnded := false } else s.sin n) ∧
      Moves [.si, .fm] s t) ∧
  (∀ s : State, s.si.blockTimer = true → s.si.windowClosed = true → 10 * s.safeGet 0x2D86 3 ≤ s.si.blockRows →
    ∃ t, exec .chargeBlockTimeout s = .next t ∧ t.si = { s.si with sf7 := true } ∧ Alters [.si] s t)

/-- Cross-trip (R351, R352). -/
def Obligations.CrossTripCommands : Prop :=
  (∀ s : State, s.safeGet 0x2D86 4 = 1 → s.coreUp = true → tabWf {} s.os.coils = true →
    ∃ t, exec .xtripInAssert s = .next t ∧ CoilsOff t ∧ (∀ n ∈ [1, 2, 3, 4], (t.coil n).drive = false) ∧
      t.si = { s.si with
        xtripIn := true, xtripMatched := false, lastReaction := 1, lastReactionStamp := s.tb.now
        tripPulses := t.si.tripPulses, demandPulses := t.si.demandPulses } ∧
      (s.os.tripDue = false → t.si.tripPulses = s.si.tripPulses ∧ t.si.demandPulses = s.si.demandPulses) ∧
      t.fm = s.condFm 0x0D0B 9 ∧ Moves [.os, .pm, .pc, .de, .nv, .si, .fm] s t) ∧
  (∀ s : State, s.si.xtripIn = true → s.si.xtripMatched = false →
    ∃ t, exec .xtripConfirmTimeout s = .next t ∧ t.si = { s.si with xtripOpen := true, xtripDue := true } ∧
      Alters [.si] s t) ∧
  (∀ s : State, ∃ t, exec .xtripInRelease s = .next t ∧
      t.si = { s.si with xtripIn := false, xtripOpen := false, xtripDue := false, xtripMatched := false } ∧
      t.fm = s.fm.deactivate 0x0D0B ∧ Alters [.si, .fm] s t) ∧
  (∀ s : State, ∃ t, exec .xtripOutHoldEnd s = .next t ∧ t.si = { s.si with xtripOut := false } ∧ Alters [.si] s t)

/-- Output stages (R65, R67, R349, R353). -/
def Obligations.OutputStageCommands : Prop :=
  (∀ s : State, (if s.ns / 100000000 % 10 < 8
      then s.energised (s.ns / 100000000 % 10 / 2 + 1) && (s.coil (s.ns / 100000000 % 10 / 2 + 1)).phase == 2
      else s.os.uvrOn) = true →
    ∃ t, exec .offPulseTest s = .next t ∧ t.os = { s.os with pulseSwitch := some (s.ns / 100000000 % 10) } ∧
      Alters [.os] s t) ∧
  (∀ s : State, s.os.pulseSwitch = some 8 → s.os.uvr = true → s.os.uvrOn = true →
    ∃ t, exec (.offPulseEnd true) s = .next t ∧
      t.os = { s.os with pulseSwitch := none, offPulses := s.os.offPulses + 1, uvrNoChange1 := 0, uvr1 := true } ∧
      Alters [.os] s t) ∧
  (∀ s : State, s.os.pulseSwitch = some 8 → s.os.uvr = true → s.os.uvrOn = true → s.os.uvrNoChange1 = 1 →
    ∃ t, exec (.offPulseEnd false) s = .next t ∧ t.os.uvr = false ∧ t.os.stuckAny = true ∧ t.os.lastFault = s.tb.now ∧
      t.fm = s.condFm 0x0E01 6 ∧ Moves [.os, .fm] s t) ∧
  (∀ (s : State) (k : Nat), s.os.pulseSwitch = some k → k < 8 → (s.coil (k / 2 + 1)).cmd = true →
    (s.coil (k / 2 + 1)).drive = true →
    ∃ t, exec (.offPulseEnd true) s = .next t ∧ t.os.pulseSwitch = none ∧ t.os.offPulses = s.os.offPulses + 1 ∧
      t.os.coils = tabMod {} (k / 2 + 1)
        (fun c => if k % 2 = 0 then { c with noChangeHs := 0 } else { c with noChangeLs := 0 }) s.os.coils ∧
      Alters [.os] s t) ∧
  (∀ s : State, s.os.tripActive = false →
    ∃ t, exec (.tripSwitchTest 1 false) s = .next t ∧ t.os.trip1 = false ∧ t.os.trip1Stuck = true ∧
      t.fm = s.condFm 0x0E07 5 ∧ Moves [.os, .fm] s t) ∧
  (∀ s : State, s.os.tripActive = false → s.os.trip1Stuck = false →
    ∃ t, exec (.tripSwitchTest 2 true) s = .next t ∧ t.os = { s.os with trip2 := true, trip2Stuck := false } ∧
      t.fm = s.fm.deactivate 0x0E07 ∧ Alters [.os, .fm] s t) ∧
  (∀ s : State, ∃ t, exec .tripContinuityTimeout s = .next t ∧
      t.os = { s.os with tripCont := false, lastFault := s.tb.now } ∧ t.fm = s.condFm 0x0E06 5 ∧ Moves [.os, .fm] s t) ∧
  (∀ s : State, ∃ t, exec .tripPulseEnd s = .next t ∧ t.os = { s.os with tripActive := false } ∧ Alters [.os] s t) ∧
  (∀ (s : State) (i : Int), s.si.tripDemand = true → s.os.tripActive = false → 1 ≤ s.si.demandPulses →
    s.si.demandPulses < 3 → 2000 ≤ i.natAbs →
    ∃ t, exec (.tripPulseRepeat i) s = .next t ∧ t.os = { s.os with tripDue := true } ∧
      t.tb = (s.runPast s.os.lastTrip 1000000000).tb ∧ Alters [.os, .tb] s t) ∧
  (∀ (s : State) (c : CommitInp), s.inRow = true → s.rows.committed = false → s.os.tripDue = true → s.os.tripActive = false →
    s.ld.islandStopped = false → s.pm.onStore = false → s.pm.softDue = 0 → c.late = false → c.mismatch = false →
    s.loaderRuns = false → s.si.tripTest = false → s.si.rowOwn = 0 → s.ty.agreedTwin = false → s.ty.yielding = 0 →
    ∃ t, exec (.outputCommit c) s = .next t ∧ t.os.tripActive = true ∧ t.os.tripDue = false ∧
      t.os.lastTrip = some t.tb.now ∧ t.si.tripPulses = s.si.tripPulses + 1) ∧
  (∀ (s : State) (n : Nat), n ∈ [1, 2, 3, 4] → tabWf {} s.os.coils = true →
    ∃ t, exec (.coilShortCircuit n) s = .next t ∧
      t.coil n = { (s.coil n).off with drive := false, shorted := true, faults := setBit (s.coil n).faults 4 true } ∧
      (∀ k, k ≠ n → t.coil k = s.coil k) ∧ (∀ q ∈ t.pm.queue, q.1 ≠ n) ∧ t.fm = s.condFm 0x0E04 n ∧ Moves [.os, .pm, .fm] s t)

/-- The safety set (R355 to R359) and the proof test (R360, R361). -/
def Obligations.SafetySetCommands : Prop :=
  (∀ (s : State) (r : Req) (x : Session) (index sub : Nat) (v : Bytes) (o : Obj),
    Accepted s r 0x11 (writePayload r index sub 0 v) 8 anyRole x → v.length ≤ 8 → findObj index sub = some o →
    o.access = .safe → commissioning x.role = true → s.anyCoil = false → v.length = o.bytes →
    objInRange o (leNat v) = true →
    ∃ t, exec (.safeObjectWrite r index sub v true) s = .next t ∧ Answered t r 0x11 0 [] ∧
      t.si.shadow = tabPut (objReset s.id.variant index sub) (objKey index sub) (leNat v) s.si.shadow ∧
      t.si.setConfirmed = false ∧ t.si.checkComputed = t.checkOfShadow ∧ t.si.active = s.si.active ∧
      t.fm = s.condFm 0x0D0C 0xFFFF ∧ Moves [.si, .fm] s t) ∧
  (∀ (s : State) (r : Req) (x : Session), Accepted s r 0x11 (writePayload r 0x2D8B 0 0 (leBytes 4 s.si.checkComputed)) 8
      commissioning x → s.shadowRelations = true →
    ∃ t, exec (.safetySetConfirm r s.si.checkComputed true) s = .next t ∧
      Waits s t r x (.safetySetConfirm r s.si.checkComputed true) false false) ∧
  (∀ (s : State) (r : Req) (x : Session), s.shadowRelations = true →
    ∃ t, s.liveAct x (.safetySetConfirm r s.si.checkComputed true) = (t, 0, []) ∧
      t.si = { s.si with
        active := s.si.shadow, setConfirmed := true, everConfirmed := true, formatLost := false
        checkConfirmed := s.si.checkComputed, confirmStamp := s.tb.now } ∧
      t.fm = s.fm.deactivate 0x0D0C ∧ Moves [.si, .fm, .nv, .lg] s t) ∧
  (∀ (s : State) (r : Req) (x : Session), Accepted s r 0x11 (writePayload r 0x2D8C 0 0 [1]) 8 commissioning x →
    ∃ t, exec (.safetySetRevert r) s = .next t ∧ Waits s t r x (.safetySetRevert r) false false) ∧
  (∀ (s : State) (r : Req) (x : Session), s.si.everConfirmed = true →
    ∃ t, s.liveAct x (.safetySetRevert r) = (t, 0, []) ∧ t.si.shadow = s.si.active ∧
      t.si.setConfirmed = true ∧ t.si.checkComputed = t.checkOfShadow ∧ t.fm = s.fm.deactivate 0x0D0C ∧
      Moves [.si, .fm] s t) ∧
  (∀ (s : State) (r : Req) (x : Session) (failed : Option Nat),
    Accepted s r 0x11 (writePayload r 0x2D8D 0 0 [1]) 8 engineer x → s.provenOpen = true → s.busDead = true →
    ∃ t, exec (.proofTestAutomated r failed) s = .next t ∧ Waits s t r x (.proofTestAutomated r failed) false false) ∧
  (∀ (s : State) (r : Req) (x : Session), s.provenOpen = true → s.busDead = true →
    ∃ t, s.liveAct x (.proofTestAutomated r none) = (t, 0, []) ∧ t.si = { s.si with proofState := 2 } ∧
      Moves [.si, .nv] s t) ∧
  (∀ (s : State) (r : Req) (x : Session) (k : Nat), s.provenOpen = true → s.busDead = true →
    ∃ t, s.liveAct x (.proofTestAutomated r (some k)) = (t, 0, []) ∧ t.si = { s.si with proofState := 3 } ∧
      t.fm = s.eventFm 0x0D0F k ∧ Moves [.si, .nv, .fm] s t) ∧
  (∀ (s : State) (r : Req) (x : Session), Accepted s r 0x11 (writePayload r 0x2D8D 0 0 [2]) 8 engineer x →
    s.si.proofState = 2 →
    ∃ t, exec (.proofTestRecord r) s = .next t ∧ Waits s t r x (.proofTestRecord r) false false) ∧
  (∀ (s : State) (r : Req) (x : Session), s.si.proofState = 2 →
    ∃ t, s.liveAct x (.proofTestRecord r) = (t, 0, []) ∧
      t.si = { s.si with proofState := 4, proofStamp := s.tb.now, proofDue := s.safeGet 0x2D86 5 } ∧
      t.os = { s.os with uvrTest := false } ∧ t.fm = s.fm.deactivate 0x0D0E ∧ Moves [.si, .os, .nv, .fm] s t) ∧
  (∀ (s : State) (r : Req) (x : Session), Accepted s r 0x11 (writePayload r 0x2D8D 0 0 [3]) 8 engineer x →
    ∃ t, exec (.proofTestTrip r) s = .next t ∧ Waits s t r x (.proofTestTrip r) false false) ∧
  (∀ (s : State) (r : Req) (x : Session),
    ∃ t, s.liveAct x (.proofTestTrip r) = (t, 0, []) ∧ t.si = { s.si with tripTest := true } ∧ Alters [.si] s t) ∧
  (∀ (s : State) (c : CommitInp), s.inRow = true → s.rows.committed = false → s.si.tripTest = true →
    tabWf {} s.os.coils = true → c.late = false → c.mismatch = false → s.loaderRuns = false → s.pm.softDue = 0 →
    s.ty.yielding = 0 →
    ∃ t, exec (.outputCommit c) s = .next t ∧ CoilsOff t ∧ t.os.uvr = false ∧ t.si.tripDemand = true ∧
      t.si.tripTest = false) ∧
  (∀ (s : State) (r : Req) (x : Session), Accepted s r 0x11 (writePayload r 0x2D8D 0 0 [4]) 8 engineer x →
    ∃ t, exec (.proofTestUvrDrop r) s = .next t ∧ Waits s t r x (.proofTestUvrDrop r) false false) ∧
  (∀ (s : State) (r : Req) (x : Session),
    ∃ t, s.liveAct x (.proofTestUvrDrop r) = (t, 0, []) ∧
      t.os = { s.os with uvr := false, uvrDrop := true, uvrTest := true } ∧ Alters [.os] s t) ∧
  (∀ s : State, s.si.proofDue = 0 →
    ∃ t, exec .proofTestDueExpiry s = .next t ∧ t.fm = s.condFm 0x0D0E 0xFFFF ∧ Moves [.fm] s t)

/-- Fault handlers (R42, R43) and the acknowledge (R44); while a shared pool entry is free, so that the log record needs
no room made (R300). -/
def Obligations.FaultHandlerCommands : Prop :=
  (∀ (s : State) (p : Pending), s.coreUp = true → (s.fm.pending.find? fun p => !p.started) = some p →
    s.fm.handling = none → sharedCount s.nv.held < 21 →
    ∃ t, exec .faultHandlerStart s = .next t ∧
      t.fm = { s.fm with
        handling := some p.code
        pending := s.fm.pending.map fun q => if q.code == p.code then { q with started := true } else q } ∧
      (∃ h ∈ t.nv.held, h.isLog = true ∧ h.log.kind = 1 ∧ h.log.code = p.code ∧ h.log.stamp = p.stamp) ∧
      Alters [.fm, .nv] s t) ∧
  (∀ (s : State) (c : Nat) (p : Pending), s.coreUp = true → s.fm.handling = some c → s.fm.entry c = some p →
    sharedCount s.nv.held < 21 →
    ∃ t, exec .faultHandlerComplete s = .next t ∧ t.fm.pending = s.fm.pending.filter (·.code != c) ∧
      t.fm.handling = s.fm.suspended.head? ∧ t.fm.suspended = s.fm.suspended.drop 1 ∧
      t.fm.reaction = s.fm.reaction ∧ t.fm.latchKept = s.fm.latchKept ∧
      (∃ h ∈ t.nv.held, h.isLog = true ∧ h.log.kind = 2 ∧ h.log.code = c ∧ h.log.stamp = s.tb.now) ∧
      Alters [.fm, .nv] s t) ∧
  (∀ (s : State) (r : Req) (x : Session) (v : Nat),
    Accepted s r 0x11 (writePayload r 0x1A01 0 0 (leBytes 1 v)) 8 operator x → v = s.acting.code → v ≠ 4 →
    ∃ t, exec (.faultAcknowledge r v) s = .next t ∧ Waits s t r x (.faultAcknowledge r v) false false) ∧
  (∀ (s : State) (r : Req) (x : Session),
    Accepted s r 0x11 (writePayload r 0x1A01 0 0 (leBytes 1 4)) 8 operator x → s.acting = .latch →
    engineer x.role = true → s.tm.cellLatch = false → s.tm.junctionLatch = false →
    ∃ t, exec (.faultAcknowledge r 4) s = .next t ∧ Waits s t r x (.faultAcknowledge r 4) false false) ∧
  (∀ (s : State) (r : Req) (x : Session) (v : Nat), v = s.acting.code → v ≠ 4 → sharedCount s.nv.held < 20 →
    ∃ t, s.liveAct x (.faultAcknowledge r v) = (t, 0, []) ∧ t.fm.reaction = levelOf s.fm.active ∧
      t.fm.pairOwn = levelOf (s.fm.active.filter s.inPair) ∧ t.fm.lastAck = s.tb.now ∧
      t.fm.pending = s.fm.pending ∧ t.fm.active = s.fm.active ∧ Moves [.fm, .nv, .si] s t) ∧
  (∀ (s : State) (r : Req) (x : Session), s.acting = .latch → engineer x.role = true → s.tm.cellLatch = false →
    s.tm.junctionLatch = false → levelOf s.fm.active ≠ .latch → sharedCount s.nv.held < 20 →
    ∃ t, s.liveAct x (.faultAcknowledge r 4) = (t, 0, []) ∧ t.fm.reaction = levelOf s.fm.active ∧
      t.fm.latchKept = false ∧ t.pc = { s.pc with weld := 0 } ∧ Moves [.fm, .nv, .si, .pc] s t)

/-- The network protocols (R461, R518, R519). -/
def Obligations.NetworkCommands : Prop :=
  (∀ (s : State) (port mac sender : Nat), s.coreUp = true → s.cfgGet 0x3180 1 ≠ 0 → sender ≠ s.cfgGet 0x3180 1 →
    ∃ t, exec (.arpRequest port mac sender (s.cfgGet 0x3180 1)) s = .next t ∧ t.out = s.out ++ [.arpReply port sender] ∧
      t.sfp port = { s.sfp port with rx := (s.sfp port).rx + 1, tx := (s.sfp port).tx + 1 } ∧ Moves [] s t) ∧
  (∀ (s : State) (port mac target : Nat), s.coreUp = true → s.cfgGet 0x3180 1 ≠ 0 → mac ≠ s.id.mac →
    target ≠ s.cfgGet 0x3180 1 →
    ∃ t, exec (.arpRequest port mac (s.cfgGet 0x3180 1) target) s = .next t ∧ t.en.conflicts = s.en.conflicts + 1 ∧
      t.fm = s.eventFm 0x1104 port ∧ Moves [.en, .fm] s t) ∧
  (∀ (s : State) (port sender ident seq : Nat) (d : Bytes), s.coreUp = true → s.cfgGet 0x3180 1 ≠ 0 →
    d.length ≤ 1472 →
    ∃ t, exec (.icmpEcho port sender (s.cfgGet 0x3180 1) ident seq d) s = .next t ∧
      t.out = s.out ++ [.echoReply port sender ident seq d] ∧
      t.sfp port = { s.sfp port with rx := (s.sfp port).rx + 1, tx := (s.sfp port).tx + 1 } ∧ Moves [] s t) ∧
  (∀ (s : State) (port sender ident seq : Nat) (d : Bytes), s.coreUp = true → 1472 < d.length →
    ∃ t, exec (.icmpEcho port sender (s.cfgGet 0x3180 1) ident seq d) s = .next t ∧ t.out = s.out ∧
      t.sfp port = { s.sfp port with rx := (s.sfp port).rx + 1, discarded := (s.sfp port).discarded + 1 } ∧
      Alters [.en] s t) ∧
  (∀ (s : State) (port src ident offset : Nat) (d : Bytes), s.coreUp = true → s.cfgGet 0x3180 1 ≠ 0 →
    s.ipReasm src ident = none → s.en.reasm.length < 8 → offset + d.length ≤ 2056 →
    ∃ t, exec (.ipv4Fragment port src ident offset true d) s = .next t ∧
      t.en.reasm = s.en.reasm ++ [{ port, src, ident, parts := [(offset, d)] }] ∧
      t.sfp port = { s.sfp port with rx := (s.sfp port).rx + 1 } ∧ Alters [.en] s t) ∧
  (∀ (s : State) (src ident : Nat) (m : IpReasm), s.ipReasm src ident = some m →
    ∃ t, exec (.ipReassemblyTimeout src ident) s = .next t ∧ t.en.reasm = dropIp s.en.reasm src ident ∧
      t.sfp m.port = { s.sfp m.port with
        discarded := (s.sfp m.port).discarded + BitVec.ofNat 32 m.parts.length } ∧ Alters [.en] s t)

/-- SFP ports (R81, R518, R519). -/
def Obligations.SfpCommands : Prop :=
  (∀ (s : State) (port b6 b3 : Nat), (s.sfp port).cageOn = true → sfpRate (b6 % 256 + 256 * (b3 % 256)) ≠ 0 →
    ∃ t, exec (.sfpInsertion port b6 b3) s = .next t ∧ t.sfp port = { s.sfp port with
        inserted := true, fitted := b6 % 256 + 256 * (b3 % 256), compliance := b6 % 256 + 256 * (b3 % 256)
        link := 3, txDisable := false, upSince := none, rx := (t.sfp port).rx, tx := (t.sfp port).tx } ∧ Moves [.en, .fm] s t) ∧
  (∀ (s : State) (port b6 b3 : Nat), (s.sfp port).cageOn = true → sfpRate (b6 % 256 + 256 * (b3 % 256)) = 0 →
    ∃ t, exec (.sfpInsertion port b6 b3) s = .next t ∧ t.sfp port = { s.sfp port with
        inserted := true, fitted := b6 % 256 + 256 * (b3 % 256), compliance := b6 % 256 + 256 * (b3 % 256)
        link := 1, txDisable := true, upSince := none, rx := (t.sfp port).rx, tx := (t.sfp port).tx } ∧ Moves [.en, .fm] s t) ∧
  (∀ (s : State) (port : Nat), (s.sfp port).link ≠ 2 →
    ∃ t, exec (.sfpRemoval port) s = .next t ∧ (t.sfp port).inserted = false ∧ (t.sfp port).link = 0 ∧
      (t.sfp port).compliance = 0 ∧ (t.sfp port).upSince = none ∧ Moves [.en, .fm] s t) ∧
  (∀ (s : State) (port : Nat),
    ∃ t, exec (.sfpOvercurrent port) s = .next t ∧ (t.sfp port).cageOn = false ∧ (t.sfp port).link = 2 ∧
      (t.sfp port).upSince = none ∧ Moves [.en, .fm] s t) ∧
  (∀ (s : State) (port : Nat), (s.sfp port).link = 3 →
    ∃ t, exec (.sfpLinkUp port) s = .next t ∧ t.sfp port = { s.sfp port with
        link := if sfpRate (s.sfp port).compliance = 1000 then 5 else 4, upSince := some s.tb.now } ∧ Alters [.en] s t) ∧
  (∀ (s : State) (port : Nat), 4 ≤ (s.sfp port).link →
    ∃ t, exec (.linkDown port) s = .next t ∧ (t.sfp port).link = 3 ∧ (t.sfp port).upSince = none ∧ Moves [.en, .fm] s t)

/-- The converter array (R127 to R141). -/
def Obligations.ConverterCommands : Prop :=
  (∀ (s : State) (d : Nat), (s.duty d).isOver = true →
    ∃ t, exec (.dutyOverrangeTimeout d) s = .next t ∧ t.duty d = { s.duty d with overMs := true } ∧
      (∀ k, k ≠ d → t.duty k = s.duty k) ∧ t.ca = { s.ca with duties := t.ca.duties } ∧
      t.fm = s.condFm 0x0306 d ∧ Moves [.ca, .fm] s t) ∧
  (∀ (s : State) (d : Nat) (a : Stamp), s.ca.started = true → s.dutyTrig d = some a → (s.duty d).newTrig a = true →
    (s.duty d).captureOpen = false →
    ∃ t, exec (.captureTrigger d) s = .next t ∧
      t.duty d = { s.duty d with
        captureOpen := true, capTook := some a, capAt := stampNs a + s.cfgGet 0x2383 (d + 1) } ∧
      (∀ k, k ≠ d → t.duty k = s.duty k) ∧ t.ca = { s.ca with duties := t.ca.duties } ∧ Alters [.ca] s t) ∧
  (∀ (s : State) (d : Nat) (a : Stamp), s.ca.started = true → s.dutyTrig d = some a → (s.duty d).newTrig a = true →
    (s.duty d).captureOpen = true →
    ∃ t, exec (.captureTrigger d) s = .next t ∧ t.ca.capDropped = s.ca.capDropped + 1 ∧
      t.duty d = { s.duty d with capTook := some a } ∧ (∀ k, k ≠ d → t.duty k = s.duty k) ∧
      t.ca = { s.ca with capDropped := t.ca.capDropped, duties := t.ca.duties } ∧
      t.fm = s.eventFm 0x0307 d ∧ Moves [.ca, .fm] s t) ∧
  (∀ (s : State) (d : Nat) (levels : List (Nat × Int)) (stamp c : Nat), s.ca.started = true → (s.duty d).slice ≠ 0xFF →
    (s.duty d).captureOpen = true → c = s.captureCentre d stamp →
    ∃ t, exec (.captureResult d levels stamp) s = .next t ∧
      tabGet {} (s.dutyInput d) t.ca.captures = { stamp := BitVec.ofNat 32 c, value := s.filtered d levels, capture := true
                                                  upd := ((tabGet {} (s.dutyInput d) s.ca.captures).upd + 1) % 16
                                                  settle := (s.duty d).settle != 0, remain := (s.duty d).settle - 1
                                                  slice := s.resultSlice d (c % 2 ^ 32), input := s.dutyInput d
                                                  held := s.ca.precisionHeld } ∧
      (s.cfgGet 0x2382 (d + 1) < 3 → (s.duty d).capAt ≤ c + 20 ∧ c ≤ (s.duty d).capAt + 20) ∧
      (∀ k, k ≠ s.dutyInput d → tabGet {} k t.ca.captures = tabGet {} k s.ca.captures) ∧
      t.duty d = { s.duty d with captureOpen := false } ∧ (∀ k, k ≠ d → t.duty k = s.duty k) ∧
      t.ca = { s.ca with captures := t.ca.captures, duties := t.ca.duties, lineCap := t.ca.lineCap } ∧
      t.ss = { s.ss with currentAt := t.ss.currentAt } ∧ (d ≠ 0 → t.ss = s.ss) ∧ Alters [.ca, .ss] s t) ∧
  (∀ (s : State) (a b : Matching), s.ca.rotMode ≠ 2 → s.ca.started = true →
    rotationStepAt s.ca.rotMode (s.patNo % 256) ≠ 0 →
    ∃ t, exec (.rotationStepBoundary ⟨a, b⟩) s = .next t ∧
      t.ca = { s.ca with rotStep := rotationStepAt s.ca.rotMode (s.patNo % 256), calIdx := 0 } ∧ Alters [.ca] s t) ∧
  (∀ (s : State) (a b : Matching), s.ca.rotMode ≠ 2 → s.ca.started = true →
    rotationStepAt s.ca.rotMode (s.patNo % 256) = 0 →
    ∃ t, exec (.rotationStepBoundary ⟨a, b⟩) s = .next t ∧ t.ca.rotStep = 0 ∧ t.ca.calIdx = 0 ∧
      t.ca.fa = { s.ca.fa with
        residOffset := clamp16 (a.offA - a.offB), residGain := clamp16 (a.gainA - a.gainB), residSkew := clamp16 a.skew
        residBad := if 400 < (a.offA - a.offB).natAbs ∨ 1000 < (a.gainA - a.gainB).natAbs ∨ 100 < a.skew.natAbs
          then s.ca.fa.residBad + 1 else 0
        offA := s.ca.fa.offA + a.offA, offB := s.ca.fa.offB + a.offB
        gainA := s.ca.fa.gainA + a.gainA, gainB := s.ca.fa.gainB + a.gainB
        skew := t.ca.fa.skew } ∧
      (a.rms < 64 → t.ca.fa.skew = s.ca.fa.skew) ∧ (b.rms < 64 → t.ca.fb.skew = s.ca.fb.skew) ∧
      (64 ≤ a.rms → t.ca.fa.skew = clampInt (-400) 400 (s.ca.fa.skew + roundEven ((a.skew : Rat) / 5))) ∧
      t.ca.fb.residBad = (if 400 < (b.offA - b.offB).natAbs ∨ 1000 < (b.gainA - b.gainB).natAbs ∨ 100 < b.skew.natAbs
          then s.ca.fb.residBad + 1 else 0) ∧
      t.ca.fb.offA = s.ca.fb.offA + b.offA ∧ t.ca.fb.offB = s.ca.fb.offB + b.offB ∧
      t.ca.fb.gainA = s.ca.fb.gainA + b.gainA ∧ t.ca.fb.gainB = s.ca.fb.gainB + b.gainB ∧
      (t.ca.fa.residBad < 8 → t.ca.fb.residBad < 8 → t.fm = s.fm.deactivate 0x0401) ∧
      (8 ≤ t.ca.fa.residBad → t.fm = s.condFm 0x0401 9) ∧ Moves [.ca, .fm] s t) ∧
  (∀ (s : State) (v : Int), s.ca.spare < 9 → s.ca.started = true → s.ca.hoActive = false → s.ca.calIdx < 10 →
    ∃ t, exec (.calibrationMeasurementDone v) s = .next t ∧
      t.ca = { s.ca with
        calIdx := s.ca.calIdx + 1, calVals := tabPut 0 s.ca.calIdx v s.ca.calVals
        slices := tabMod {} s.ca.spare
          (fun x => { x with
            passBad := (s.ca.calIdx != 0 && x.passBad) ||
              calBad s.ca.calIdx (tabGet none (s.ca.calIdx - 4) x.lastGains) v }) s.ca.slices } ∧
      Alters [.ca] s t) ∧
  (∀ (s : State) (v : Int) (vals : Tab Int), tabWf ({} : Slice) s.ca.slices = true → s.ca.spare < 9 →
    s.ca.started = true → s.ca.hoActive = false → s.ca.calIdx = 10 → (s.slice s.ca.spare).passBad = false →
    v.natAbs ≤ 100 → vals = tabPut 0 10 v s.ca.calVals →
    ∃ t, exec (.calibrationMeasurementDone v) s = .next t ∧ t.ca.calIdx = 0 ∧ t.ca.refCheck = v ∧
      t.slice s.ca.spare = { s.slice s.ca.spare with
        passFails := 0, calAt := some s.tb.now
        gains := [0, 1, 2, 3].map fun g => (g, tabGet 0 (4 + g) vals)
        offsets := [0, 1, 2, 3].map fun g => (g, tabGet 0 g vals), linear := tabGet 0 9 vals
        lastGains := [0, 1, 2, 3].map fun g => (g, some (tabGet 0 (4 + g) vals)), calibrated := true, refFails := 0
        refGood := (s.slice s.ca.spare).refGood + 1 } ∧
      (∀ k, k ≠ s.ca.spare → t.slice k = s.slice k) ∧ Alters [.ca, .fm] s t) ∧
  (∀ (s : State) (n d off tsw : Nat), s.ca.spare < 9 → s.ca.rotMode ≠ 2 → s.nextServing s.ca.spare = some (n, d) →
    off = s.patNo % 256 →
    tsw = (s.ns / 10000000 - off + rotationStepEnd s.ca.rotMode (rotationStepAt s.ca.rotMode off)) * 10000000 →
    ∃ t, exec .handOverPhaseBegin s = .next t ∧
      t.ca = { s.ca with hoActive := true, hoDuty := d, hoDeferred := false, hoTsw := tsw, hoOut := [] } ∧
      t.tb = (s.runTo (tsw - s.overlap d * 10000000)).tb ∧ Alters [.ca, .tb] s t) ∧
  (∀ (s : State) (l : List (Nat × Int)), s.ca.hoActive = true → s.ca.hoDeferred = false → s.handOverOff l = false →
    s.ca.rotMode = 0 →
    ∃ t, exec (.handOverSwitch l) s = .next t ∧ (t.duty s.ca.hoDuty).slice = s.ca.spare ∧
      t.ca.spare = (s.duty s.ca.hoDuty).slice ∧ t.ca.handOvers = s.ca.handOvers + 1 ∧ t.ca.hoActive = false ∧
      t.ca.hoRetry = false ∧ t.ca.swAt = some s.ca.hoTsw ∧ t.ca.swDuty = s.ca.hoDuty ∧
      t.ca.swFrom = (s.duty s.ca.hoDuty).slice ∧ (∀ k, k ≠ s.ca.hoDuty → t.duty k = s.duty k) ∧
      t.tb = (s.runTo s.ca.hoTsw).tb ∧ Alters [.ca, .tb] s t) ∧
  (∀ (s : State) (l : List (Nat × Int)), s.ca.hoActive = true → s.ca.hoDeferred = false → s.handOverOff l = true →
    s.ca.hoRetry = false →
    ∃ t, exec (.handOverSwitch l) s = .next t ∧
      t.ca = { s.ca with mismatches := s.ca.mismatches + 1, hoActive := false, hoRetry := true } ∧
      t.tb = (s.runTo s.ca.hoTsw).tb ∧
      t.fm = (s.runTo s.ca.hoTsw).eventFm 0x0303 s.ca.hoDuty ∧ Moves [.ca, .fm, .tb] s t) ∧
  (∀ (s : State) (l : List (Nat × Int)), s.ca.hoActive = true → s.ca.hoDeferred = true →
    ∃ t, exec (.handOverSwitch l) s = .next t ∧ t.ca = { s.ca with hoActive := false, hoDeferred := false } ∧
      t.tb = (s.runTo s.ca.hoTsw).tb ∧ Alters [.ca, .tb] s t)

/-- Fast pairs (R136, R147, R149, R150, R336). -/
def Obligations.FastPairCommands : Prop :=
  (∀ (s : State) (p e : Nat) (samples ring : List Int), p < 2 → e ≠ 0 → s.coreUp = true →
    s.pairEvent p ((s.pair p).corrected samples) = e → tabWf {} s.os.coils = true →
    ∃ t, exec (.fastPairEvent p samples ring) s = .next t ∧ CoilsOff t ∧ (∀ n ∈ [1, 2, 3, 4], (t.coil n).drive = false) ∧
      (p = 0 → t.si.sf1 = true ∧ t.si.lastReaction = 3 ∧ t.os.uvr = false) ∧
      (p = 1 → t.si.sf2 = true ∧ t.si.lastReaction = 2) ∧
      t.si.lastReactionStamp = s.tb.now ∧ (t.pair p).cmp = 4 + e ∧ (t.pair p).insideRows = 0 ∧
      (t.pair p).evAt = some s.tb.now ∧ (s.safeGet 0x2D86 4 = 1 → t.si.xtripOut = true) ∧
      Moves [.ca, .os, .pm, .pc, .de, .nv, .si, .fm] s t) ∧
  (∀ (s : State) (p : Nat) (samples ring : List Int), s.pairEvent p ((s.pair p).corrected samples) = 0 →
    exec (.fastPairEvent p samples ring) s = .next s) ∧
  (∀ (s : State) (p : Nat), ∃ t, exec (.sarStuckDetect p true) s = .next t ∧ t.fm = s.condFm 0x0405 (9 + p) ∧
      t.pair p = { s.pair p with stuck := true } ∧ Moves [.ca, .fm] s t) ∧
  (∀ s : State, s.ca.fb.stuck = false →
    ∃ t, exec (.sarStuckDetect 0 false) s = .next t ∧ t.fm = s.fm.deactivate 0x0405 ∧
      t.ca = { s.ca with fa := { s.ca.fa with stuck := false } } ∧ Alters [.ca, .fm] s t) ∧
  (∀ (s : State) (r : Req) (x : Session) (p : Nat),
    Accepted s r 0x11 (writePayload r 0x2481 (3 + p) 0 [1]) 8 operator x →
    ∃ t, exec (.ringArm r p) s = .next t ∧ Waits s t r x (.ringArm r p) false false) ∧
  (∀ (s : State) (r : Req) (x : Session) (p : Nat),
    ∃ t, s.liveAct x (.ringArm r p) = (t, 0, []) ∧ t.pair p = { s.pair p with frozen := false } ∧ Alters [.ca] s t) ∧
  (∀ (s : State) (r : Req) (x : Session) (p : Nat) (ring : List Int),
    Accepted s r 0x11 (writePayload r 0x2481 (3 + p) 0 [2]) 8 operator x →
    ∃ t, exec (.ringSoftwareTrigger r p ring) s = .next t ∧ Waits s t r x (.ringSoftwareTrigger r p ring) false false) ∧
  (∀ (s : State) (r : Req) (x : Session) (p : Nat) (ring : List Int), (s.pair p).frozen = false →
    ∃ t, s.liveAct x (.ringSoftwareTrigger r p ring) = (t, 0, []) ∧
      t.pair p = { (s.pair p).record ring with
        frozen := true, trigStamp := s.tb.now, trigIdx := s.cfgGet 0x2481 (p + 1) } ∧
      t.fm = s.eventFm 0x0403 (9 + p) ∧ Moves [.ca, .fm] s t) ∧
  (∀ (s : State) (r : Req) (x : Session) (p : Nat) (ring : List Int), (s.pair p).frozen = true →
    ∃ t, s.liveAct x (.ringSoftwareTrigger r p ring) = (t, 0, []) ∧
      t.pair p = { s.pair p with lost := (s.pair p).lost + 1 } ∧ t.fm = s.eventFm 0x0404 (9 + p) ∧
      Moves [.ca, .fm] s t) ∧
  (∀ (s : State) (r : Req) (x : Session) (l : Nat),
    Accepted s r 0x11 (writePayload r 0x2387 0 0 (leBytes 1 l)) 8 operator x → l < 16 →
    ∃ t, exec (.softwareTrigger r l) s = .next t ∧ Waits s t r x (.softwareTrigger r l) false false) ∧
  (∀ (s : State) (r : Req) (x : Session) (l : Nat), l < 16 →
    ∃ t, s.liveAct x (.softwareTrigger r l) = (t, 0, []) ∧
      (∀ k, k < 4 → tabGet none (k + 1) t.ca.softAt = if bit l k then some s.tb.now else tabGet none (k + 1) s.ca.softAt) ∧
      t.ca = { s.ca with softAt := t.ca.softAt } ∧ Alters [.ca] s t)

/-- The two-half reads (R144). -/
def Obligations.ConverterReadCommands : Prop :=
  (∀ (s : State) (n : Nat) (code : Int) (stamp : Nat), s.coreUp = true →
    ∃ t, exec (.converterWord0Read ⟨n, code, stamp⟩) s = .next t ∧
      t.sy = { s.sy with miso := BitVec.ofNat 32 ((s.pairNow n code stamp).slotWords n).1 } ∧
      tabGet none n t.ca.shadows = some ((s.pairNow n code stamp).slotWords n).2 ∧
      (∀ k, k ≠ n → tabGet none k t.ca.shadows = tabGet none k s.ca.shadows) ∧
      t.ca = { (s.pairNow n code stamp).ca with shadows := t.ca.shadows } ∧
      (n ≠ 64 → n ≠ 65 → s.pairNow n code stamp = s) ∧ Alters [.ca, .sy] s t) ∧
  (∀ (s : State) (n w : Nat) (code : Int) (stamp : Nat), s.coreUp = true → tabGet none n s.ca.shadows = some w →
    ∃ t, exec (.converterWord1Read ⟨n, code, stamp⟩) s = .next t ∧ t.sy = { s.sy with miso := BitVec.ofNat 32 w } ∧
      t.ca = { s.ca with shadows := tabPut none n none s.ca.shadows } ∧ Alters [.ca, .sy] s t) ∧
  (∀ (s : State) (n : Nat) (code : Int) (stamp : Nat), s.coreUp = true → tabGet none n s.ca.shadows = none →
    ∃ t, exec (.converterWord1Read ⟨n, code, stamp⟩) s = .next t ∧
      t.sy = { s.sy with miso := BitVec.ofNat 32 ((s.pairNow n code stamp).slotWords n).2 } ∧
      t.ca = (s.pairNow n code stamp).ca ∧ Alters [.ca, .sy] s t)

/-- String sensing (R125, R141, R155 to R166). -/
def Obligations.SensingCommands : Prop :=
  (∀ (s : State) (levels : List (Nat × Int)) (value : Int) (stamp input : Nat), s.ca.started = true →
    (s.duty 2).slice ≠ 0xFF → (s.duty 2).settle = 0 → value = s.filtered 2 levels → overrange value = false →
    s.late stamp = false →
    ∃ t, exec (.resultDelivered 2 levels stamp input) s = .next t ∧
      tabGet {} 3 t.ca.results = { stamp := BitVec.ofNat 32 stamp, value, upd := ((tabGet {} 3 s.ca.results).upd + 1) % 16
                                   settle := false, remain := 0, slice := s.resultSlice 2 stamp, input := 3
                                   held := s.ca.precisionHeld } ∧
      (∀ k, k ≠ 3 → tabGet {} k t.ca.results = tabGet {} k s.ca.results) ∧ (∀ k, k ≠ 2 → t.duty k = s.duty k) ∧
      t.ss = { s.ss with pat := { s.ss.pat with v := value :: s.ss.pat.v } } ∧ Moves [.ca, .ss, .fm] s t) ∧
  (∀ (s : State) (levels : List (Nat × Int)) (value : Int) (stamp input : Nat), s.ca.started = true →
    (s.duty 2).slice ≠ 0xFF → (s.duty 2).settle = 0 → value = s.filtered 2 levels → overrange value = false →
    s.late stamp = true →
    ∃ t, exec (.resultDelivered 2 levels stamp input) s = .next t ∧ t.ss.pat = s.ss.pat ∧
      t.ss.prev = { s.ss.prev with v := value :: s.ss.prev.v } ∧
      t.ss.vStr = s.voltMean 2 (value :: s.ss.prev.v) s.ss.prev.vOver ∧ Moves [.ca, .ss, .fm] s t) ∧
  (∀ (s : State) (levels : List (Nat × Int)) (value : Int) (stamp input : Nat), s.ca.started = true →
    (s.duty 1).slice ≠ 0xFF → (s.duty 1).settle = 0 → value = s.filtered 1 levels → overrange value = false →
    ∃ t, exec (.resultDelivered 1 levels stamp input) s = .next t ∧ t.ss.hallSeen = true ∧ t.ss.hallLate = false ∧
      t.ss.hallOver = false ∧ t.ss.hallInvalid = (s.ss.hallRefBad || s.ss.hallSupBad) ∧
      t.ss.ihHist.head? = some (stamp, (value : Rat) * 5 / (8388608 * (s.dutyGain 1 : Rat)) *
        (s.cfgInt 0x2581 1 32 : Rat) - (s.cfgInt 0x2581 2 32 : Rat)) ∧
      (tabGet {} 1 t.ca.results).upd = ((tabGet {} 1 s.ca.results).upd + 1) % 16 ∧
      (∀ k, k ≠ 1 → tabGet {} k t.ca.results = tabGet {} k s.ca.results) ∧ Moves [.ca, .ss, .fm] s t) ∧
  (∀ (s : State) (levels : List (Nat × Int)) (value : Int) (stamp p input : Nat), s.ca.started = true →
    (s.duty 0).slice ≠ 0xFF → (s.duty 0).settle = 0 → value = s.filtered 0 levels → overrange value = false →
    s.ss.integrating = true → s.ss.lastD0 = some p → s.pc.seq ≠ 3 →
    ∃ t, exec (.resultDelivered 0 levels stamp input) s = .next t ∧ t.ss.lastD0 = some stamp ∧
      t.ss.lastValidIP = s.iP value ∧ t.ss.inGap = false ∧ t.ss.blind = false ∧ t.ss.d0Over = false ∧
      (t.ss.charge : Rat) + t.ss.remNet = (s.ss.charge : Rat) + s.ss.remNet +
        s.iP value * ((shortDiff stamp p).toNat : Rat) / 1000000 ∧
      (t.ss.chargeIn : Rat) + t.ss.remIn - ((t.ss.chargeOut : Rat) + t.ss.remOut) =
        (s.ss.chargeIn : Rat) + s.ss.remIn - ((s.ss.chargeOut : Rat) + s.ss.remOut) +
        s.iP value * ((shortDiff stamp p).toNat : Rat) / 1000000 ∧
      Moves [.ca, .ss, .fm, .cl, .ef] s t) ∧
  (∀ s : State, s.ss.hallSeen = true →
    ∃ t, exec .hallNoResultTimeout s = .next t ∧
      t.ss = { s.ss with hallLate := true, hallInvalid := true, pat := { s.ss.pat with hallBad := true } } ∧
      t.fm = s.condFm 0x0504 0xFFFF ∧ Moves [.ss, .fm] s t) ∧
  (∀ s : State, s.ss.inGap = true → s.ss.blind = true →
    ∃ t, exec .blindGapTimeout s = .next t ∧ t.fm = s.condFm 0x0506 0xFFFF ∧ Moves [.fm] s t) ∧
  (∀ s : State, ∃ t, exec .chargeJournalWrite s = .next t ∧
      (∃ h ∈ t.nv.held, h.isLog = false ∧ h.id = 0x0007 ∧ h.payload = s.record7) ∧ Alters [.nv] s t)

/-- The insulation monitor (R167 to R171, R176, R177). -/
def Obligations.InsulationCommands : Prop :=
  (∀ (s : State) (vP vN : Int) (ce : Nat) (pe : Int), s.im.connected = true → s.im.inB = false → vN ≠ 0 →
    ∃ t, exec (.isoStateEnd vP vN ce pe) s = .next t ∧
      t.im = { s.im with inB := true, ratioA := (vP : Rat) / (vN : Rat), ce := some (ce % 2 ^ 32) } ∧
      Alters [.im] s t) ∧
  (∀ (s : State) (vP vN : Int) (ce : Nat) (pe : Int) (a b gp gn : Rat), s.im.connected = true → s.im.inB = true → vN ≠ 0 →
    s.earthsDisagree pe = false → a = s.im.ratioA → b = (vP : Rat) / (vN : Rat) → a < b →
    gp = (1 + a) / ((b - a) * 2000000) → gn = a * (1 + b) / ((b - a) * 2000000) →
    ∃ t, exec (.isoStateEnd vP vN ce pe) s = .next t ∧ t.im.inB = false ∧ t.im.cycleVoid = false ∧
      t.im.rp = some (rangeOhm gp).1 ∧ t.im.rn = some (rangeOhm gn).1 ∧ t.im.riso = some (rangeOhm (gp + gn)).1 ∧
      t.im.stamp = s.tb.now ∧ t.im.source = s.id.nodeId ∧ t.im.busResult = s.mainClosed ∧ t.im.earthBad = false ∧
      t.im.ce = s.im.ce ∧
      (s.im.tokenState = 3 ∨ s.im.tokenState = 4 → s.isoBus ≠ 0 → s.cfgGet 0x3180 1 ≠ 0 → s.id.nodeId ≠ 0 →
        TokenSent s t 5 { s.tokenMsg 0xFFFF with
          riso := (rangeOhm (gp + gn)).1, rp := (rangeOhm gp).1, rn := (rangeOhm gn).1
          ce := s.im.ce.getD 0xFFFFFFFF }) ∧ Moves [.im, .fm] s t) ∧
  (∀ (s : State) (vP vN : Int) (ce : Nat) (pe : Int), s.im.connected = true → s.im.inB = true → vN ≠ 0 → s.earthsDisagree pe = true →
    ∃ t, exec (.isoStateEnd vP vN ce pe) s = .next t ∧ t.im.riso = none ∧ t.im.rp = none ∧ t.im.rn = none ∧
      t.im.ce = none ∧ t.im.earthBad = true ∧ t.im.inB = false ∧ t.fm = s.condFm 0x0603 0xFFFF ∧
      Moves [.im, .fm] s t) ∧
  (∀ s : State, s.im.connected = true →
    ∃ t, exec .isoStateTimeout s = .next t ∧ t.im = { s.im with inB := false, cycleVoid := true } ∧
      Alters [.im] s t) ∧
  (∀ (s : State) (p v : Nat), s.im.tokenState = 2 → s.im.checking = true →
    2 * (s.ss.vStr.getD 0).natAbs < 100 * p → 1000 * v ≤ 2 * (s.ss.vStr.getD 0).natAbs →
    ∃ t, exec (.foreignInjectionCheckEnd p v) s = .next t ∧ t.im = { s.im with checking := false } ∧
      t.fm = s.condFm 0x0605 0xFFFF ∧ Moves [.im, .fm] s t) ∧
  (∀ (s : State) (p v : Nat), s.im.tokenState = 2 → s.im.checking = true →
    100 * p ≤ 2 * (s.ss.vStr.getD 0).natAbs →
    ∃ t, exec (.foreignInjectionCheckEnd p v) s = .next t ∧
      t.im = { s.im with
        checking := false, connected := s.os.gate, inB := false, tokenState := if s.isoBus = 0 then 0 else 3 } ∧
      t.fm = s.fm.deactivate 0x0605 ∧ Alters [.im, .fm] s t) ∧
  (∀ s : State, s.im.tokenState = 2 →
    ∃ t, exec .foreignInjectionRetry s = .next t ∧ t.im = { s.im with checking := true } ∧ Alters [.im] s t) ∧
  (∀ s : State, s.mainClosed = true → s.isoBus ≠ 0 →
    ∃ t, exec .tokenStarveTimeout s = .next t ∧ t.fm = s.condFm 0x0604 0xFFFF ∧ Moves [.fm] s t)

/-- The injection token (R173 to R177). -/
def Obligations.TokenCommands : Prop :=
  (∀ s : State, s.isoBus ≠ 0 → s.im.tokenState = 1 →
    ∃ t, exec .tokenPeriodicSend s = .next t ∧ TokenSent s t 1 (s.tokenMsg 0xFFFF) ∧
      t.im = { s.im with needs := s.im.needs.map fun n => { n with fresh := n.fresh - 1 } } ∧ Moves [.im] s t) ∧
  (∀ s : State, s.isoBus ≠ 0 → s.holdsToken = true →
    ∃ t, exec .tokenPeriodicSend s = .next t ∧ TokenSent s t 2 (s.tokenMsg 0xFFFF) ∧
      t.im = { s.im with needs := s.im.needs.map fun n => { n with fresh := n.fresh - 1 } } ∧ Moves [.im] s t) ∧
  (∀ (s : State) (m : TokenMsg), s.onBus m = true →
    ∃ t, exec (.tokenNeed m) s = .next t ∧ t.im = { s.im with
      needs := { node := m.sender, fresh := 3 } :: s.im.needs.filter fun n => n.node != m.sender } ∧ Alters [.im] s t) ∧
  (∀ (s : State) (m : TokenMsg), s.onBus m = true → s.holdsToken = false →
    ∃ t, exec (.tokenHold m) s = .next t ∧ t.im = { s.im with
      sequence := BitVec.ofNat 32 m.seq, holder := m.sender
      claimLost := s.im.claimLost || (s.im.tokenState == 5 && m.sender < s.id.nodeId) } ∧ Alters [.im] s t) ∧
  (∀ (s : State) (m : TokenMsg), s.onBus m = true → s.holdsToken = true → m.sender < s.id.nodeId →
    ∃ t, exec (.tokenHold m) s = .next t ∧ t.im.connected = false ∧ t.im.holder = m.sender ∧ t.holdsToken = false ∧
      t.im.tokenState = (if s.mainClosed then 1 else 0) ∧ t.im.checking = false ∧ t.im.cycleVoid = true ∧
      Alters [.im] s t) ∧
  (∀ (s : State) (m : TokenMsg), s.onBus m = true → m.target = s.id.nodeId → s.im.tokenState = 1 →
    ∃ t, exec (.tokenPass m) s = .next t ∧
      t.im = { s.im with
        sequence := BitVec.ofNat 32 m.seq + 1, tokenState := 2, holder := s.id.nodeId, checking := true } ∧
      TokenSent s t 4 (t.tokenMsg m.sender) ∧ Moves [.im] s t) ∧
  (∀ (s : State) (m : TokenMsg), s.onBus m = true → m.target = s.id.nodeId → s.im.tokenState = 4 →
    m.sender = s.im.passTo → s.mainClosed = true →
    ∃ t, exec (.tokenAccept m) s = .next t ∧ t.im.connected = false ∧ t.im.tokenState = 1 ∧ t.im.passTo = 0 ∧
      t.im.holder = m.sender ∧ Alters [.im] s t) ∧
  (∀ (s : State) (m : TokenMsg), s.onBus m = true → s.mainClosed = true → s.holdsToken = false →
    s.im.tokenState ≠ 6 → m.riso ≠ 0xFFFFFFFF →
    ∃ t, exec (.tokenResult m) s = .next t ∧ t.im.riso = some m.riso ∧ t.im.stamp = m.stamp ∧
      t.im.source = m.sender ∧ t.im.busResult = true ∧ t.im.holder = m.sender ∧ Moves [.im, .fm] s t) ∧
  (∀ (s : State) (m : TokenMsg), s.onBus m = true →
    ∃ t, exec (.tokenClaim m) s = .next t ∧ t.im = { s.im with
      sequence := BitVec.ofNat 32 m.seq
      claimLost := s.im.claimLost || (s.im.tokenState == 5 && m.sender < s.id.nodeId) } ∧ Alters [.im] s t) ∧
  (∀ (s : State) (m : TokenMsg), s.onBus m = true →
    ∃ t, exec (.tokenRelease m) s = .next t ∧ t.im = { s.im with
      sequence := BitVec.ofNat 32 m.seq, holder := if s.im.holder = m.sender then 0 else s.im.holder
      needs := s.im.needs.filter fun n => n.node != m.sender } ∧ Alters [.im] s t) ∧
  (∀ (s : State) (n : Nat), s.im.tokenState = 3 → s.cfgGet 0x2680 5 ≠ 0 → s.nextNeed = some n →
    ∃ t, exec .tokenRotateExpiry s = .next t ∧ t.im = { s.im with passTo := n, tokenState := 4 } ∧
      TokenSent s t 3 (s.tokenMsg n) ∧ Moves [.im] s t) ∧
  (∀ s : State, s.im.tokenState = 4 → s.mainClosed = true →
    ∃ t, exec .tokenAcceptTimeout s = .next t ∧ t.im = { s.im with tokenState := 3 } ∧ Alters [.im] s t) ∧
  (∀ s : State, s.im.tokenState = 1 → s.isoBus ≠ 0 →
    ∃ t, exec .tokenHoldSilence s = .next t ∧ t.im = { s.im with tokenState := 5, claimLost := false } ∧
      TokenSent s t 6 (s.tokenMsg 0xFFFF) ∧ Moves [.im] s t) ∧
  (∀ s : State, s.im.tokenState = 5 → s.im.claimLost = false →
    ∃ t, exec .tokenClaimWindowEnd s = .next t ∧
      t.im = { s.im with
        tokenState := 2, holder := s.id.nodeId, sequence := s.im.sequence + 1, checking := true } ∧
      t.fm = s.eventFm 0x0607 0xFFFF ∧ Moves [.im, .fm] s t) ∧
  (∀ s : State, s.im.tokenState = 5 → s.im.claimLost = true →
    ∃ t, exec .tokenClaimWindowEnd s = .next t ∧ t.im = { s.im with tokenState := 1, claimLost := false } ∧
      Alters [.im] s t)

/-- The ring procedure (R205 to R213, R229, R236). -/
def Obligations.RingStartCommands : Prop :=
  (∀ s : State, s.cl.proc = 1 → s.cl.driver = true → s.cl.renewing = false → s.cl.chainMode = true →
    ∃ t, exec .wakeToneEnd s = .next t ∧
      t.cl.txWait = s.cl.txWait ++ [{ port := 1, kind := 0x02, dest := 0xFF, payload := [0x5A] },
        { port := 2, kind := 0x02, dest := 0xFF, payload := [0x5A] }, { port := 1, kind := 0x04, dest := 0xFE, payload := [1] }] ∧
      t.cl.quietUntil = s.ns + 200000 ∧ t.cl.proc = 3 ∧ t.cl.nextAddr = 1 ∧ t.cl.found = 0 ∧ t.cl.lastA = 0 ∧
      t.cl.foundClosed = false ∧ (∀ e ∈ t.cl.cmus, e.2.state = 0) ∧ Alters [.cl] s t) ∧
  (∀ (s : State) (m : IdentMsg), s.cl.proc = 3 → s.cl.probe = false → m.deviceType = 0x1624 → s.cl.fromB = false →
    s.cl.nextAddr ≠ 32 → s.cl.driver = true → s.cl.chainMode = true →
    ∃ t, exec (.identFrame m) s = .next t ∧
      (t.cmu s.cl.nextAddr).state = (if m.image && m.digest == s.cl.imageDigest then 3 else 1) ∧
      (t.cmu s.cl.nextAddr).serial = m.serial % 2 ^ 32 ∧ (∀ c, c ≠ s.cl.nextAddr → t.cmu c = s.cmu c) ∧
      t.cl = { s.cl with
        cmus := t.cl.cmus, found := s.cl.found + 1, lastA := s.cl.nextAddr, nextAddr := s.cl.nextAddr + 1
        txWait := s.cl.txWait ++ [{ port := 1, kind := 0x04, dest := 0xFE, payload := [s.cl.nextAddr + 1] }] } ∧
      Alters [.cl] s t) ∧
  (∀ (s : State) (m : IdentMsg), s.cl.proc = 3 → s.cl.probe = false → m.deviceType ≠ 0x1624 → s.cl.driver = true →
    s.cl.fromB = false → max s.cl.lastA s.cl.nextAddr < s.cmuCount → s.cl.chainMode = true →
    ∃ t, exec (.identFrame m) s = .next t ∧ t.cmu s.cl.nextAddr = { state := 5, serial := m.serial % 2 ^ 32 } ∧
      (∀ c, c ≠ s.cl.nextAddr → t.cmu c = s.cmu c) ∧
      t.cl = { s.cl with
        cmus := t.cl.cmus, foreignAt := s.cl.nextAddr, proc := 4, fromB := true, nextAddr := s.cmuCount
        txWait := s.cl.txWait ++ [{ port := 2, kind := 0x04, dest := 0xFE, payload := [s.cmuCount] }] } ∧
      t.fm = s.condFm 0x0802 s.cl.nextAddr ∧ Moves [.cl, .fm] s t) ∧
  (∀ s : State, s.cl.proc = 3 → s.cl.fromB = false → max s.cl.lastA s.cl.foreignAt < s.cmuCount → s.cl.driver = true →
    s.cl.chainMode = true →
    ∃ t, exec (.enumTimeout false) s = .next t ∧
      t.cl = { s.cl with
        proc := 4, fromB := true, nextAddr := s.cmuCount, probe := false
        txWait := s.cl.txWait ++ [{ port := 2, kind := 0x04, dest := 0xFE, payload := [s.cmuCount] }] } ∧
      Alters [.cl] s t) ∧
  (∀ (s : State) (c rtt : Nat), s.cl.driver = true → s.cl.proc = 5 → (s.cmu c).state ≠ 0 → (s.cmu c).echoA.length < 15 →
    ∃ t, exec (.echo c false rtt) s = .next t ∧ t.cmu c = { s.cmu c with echoA := rtt :: (s.cmu c).echoA } ∧
      (∀ d, d ≠ c → t.cmu d = s.cmu d) ∧ t.cl = { s.cl with cmus := t.cl.cmus } ∧ Alters [.cl] s t) ∧
  (∀ (s : State) (c rtt : Nat), s.cl.echoSlot = true → s.cl.proc = 0 → (s.cmu c).state ≠ 0 → (s.cmu c).echoB.length = 15 →
    echoSpread (rtt :: (s.cmu c).echoB) ≤ 40 →
    ∃ t, exec (.echo c true rtt) s = .next t ∧
      t.cmu c = { s.cmu c with
        echoB := [], spreadB := 0
        delayB := some (((rtt + (s.cmu c).echoB.sum) / 16 - 10 * (s.cmu c).turnNs) / 2) } ∧
      (∀ d, d ≠ c → t.cmu d = s.cmu d) ∧ t.cl = { s.cl with cmus := t.cl.cmus } ∧ Alters [.cl] s t) ∧
  (∀ (s : State) (c : Nat), s.cl.driver = true → s.cl.proc = 7 →
    (∀ d ∈ s.enumerated, d ≠ c → (s.cmu d).state ≠ 3 ∨ (s.cmu d).configured = true) →
    ∃ t, exec (.ack c 0) s = .next t ∧ t.cl.proc = 8 ∧ (t.cmu c).configured = true ∧
      (∀ d, d ≠ c → t.cmu d = s.cmu d) ∧ Alters [.cl] s t) ∧
  (∀ (s : State) (c d n : Nat) (map : Bytes), (s.cmu c).state = 2 → d ∈ s.enumerated → d ≠ c → (s.cmu d).state = 2 →
    (s.cmu d).awaits = true → s.cl.driver = true → s.cl.chainMode = false →
    ∃ t, exec (.cmuLoadStatus c ⟨0, n, map⟩) s = .next t ∧ t.cmu c = { s.cmu c with awaits := false, missing := false } ∧
      (∀ d, d ≠ c → t.cmu d = s.cmu d) ∧ t.out = s.out ++ [.ring 1 (ringFrame 0x14 c s.cl.ringSeq s.patNo [])] ∧
      t.cl = { s.cl with cmus := t.cl.cmus, ringSeq := (s.cl.ringSeq + 1) % 2 ^ 16, txRow := true } ∧
      Alters [.cl, .out] s t) ∧
  (∀ (s : State) (c d n : Nat) (map : Bytes), (s.cmu c).state = 2 → d ∈ s.enumerated → d ≠ c → (s.cmu d).state = 2 →
    (s.cmu d).awaits = true → s.cl.driver = true →
    ∃ t, exec (.cmuLoadStatus c ⟨1, n, map⟩) s = .next t ∧
      t.cmu c = { s.cmu c with awaits := false, missing := true, missBits := map } ∧
      (∀ d, d ≠ c → t.cmu d = s.cmu d) ∧ t.cl = { s.cl with cmus := t.cl.cmus } ∧ Alters [.cl] s t) ∧
  (∀ (s : State) (m : IdentMsg) (c n : Nat) (map : Bytes), s.cl.driver = false → s.coreUp = true → s.cl.echoSlot = false →
    ∀ p ∈ [(Instr.identFrame m, RingRx.ident m), (.ack c n, .ack c n), (.echo c false n, .echo c),
      (.cmuLoadStatus c ⟨0, n, map⟩, .loadStatus c 0 n map)],
    ∃ t, exec p.1 s = .next t ∧ t.out = s.out ++ [.repeated p.2] ∧ Alters [.out] s t) ∧
  (∀ s : State, 5 ≤ s.cl.proc → s.cl.renewing = false →
    ∃ t, exec .ringStartTimeout s = .next t ∧
      t.cl = { s.cl with
        proc := 0, ring := if s.cl.found = 0 then .lost else s.ringByReach, slotEnd := none, modeDue := false
        txWait := [] } ∧
      t.pm = { s.pm with step6Done := true } ∧ t.fm = s.eventFm 0x080F 0xFFFF ∧ Moves [.cl, .pm, .fm] s t) ∧
  (∀ s : State, s.cl.proc ≠ 0 → s.cl.renewing = true →
    ∃ t, exec .renewalTimeout s = .next t ∧
      t.cl = { s.cl with proc := 0, retryDue := true, slotEnd := none, modeDue := false, txWait := [] } ∧
      t.fm = s.eventFm 0x080F 0xFFFF ∧ Moves [.cl, .fm] s t) ∧
  (∀ s : State, s.cl.retryDue = true → s.cl.driver = true → s.cl.chainMode = true →
    ∃ t, exec .renewalRetry s = .next t ∧ t.cl.proc = 3 ∧ t.cl.renewing = true ∧ t.cl.retryDue = false ∧
      t.cl.renewals = s.cl.renewals + 1 ∧ t.fm = s.eventFm 0x0809 0xFFFF ∧
      t.cl.txWait = [{ port := 1, kind := 0x03, dest := 0xFF, payload := [0xD5] },
        { port := 2, kind := 0x03, dest := 0xFF, payload := [0xD5] }, { port := 1, kind := 0x04, dest := 0xFE, payload := [1] }] ∧
      Moves [.cl, .cfg, .stopWait, .fm] s t) ∧
  (∀ (s : State) (r : Req) (x : Session), Accepted s r 0x11 (writePayload r 0x2889 0 0 [1]) 8 engineer x →
    s.provenOpen = true →
    ∃ t, exec (.renewRing r) s = .next t ∧ Answered t r 0x11 0 [] ∧ t.cl = { s.cl with renewDue := true } ∧
      Moves [.cl] s t)

/-- Pattern data (R218, R219, R227), urgent triples (R221, R222), breaks (R223), lost data (R228). -/
def Obligations.CellDataCommands : Prop :=
  (∀ (s : State) (m : CellData), s.cl.driver = true → m.intact = true → m.kind = 0x0A → 1 ≤ m.cmu → m.cmu ≤ 32 →
    s.cl.renewing = false → m.pattern = s.patNo → m.stamp = s.patStart % 2 ^ 32 → s.ns ≤ s.patStart + 1000000 →
    (s.cmu m.cmu).lost = false → bit m.status 4 = false →
    ∃ t, exec (.dataFrame m) s = .next t ∧ (t.cmu m.cmu).delivered = some m.pattern ∧
      (t.cmu m.cmu).frame = some m ∧ (t.cmu m.cmu).status = m.status % 256 ∧ (t.cmu m.cmu).dieTemp = m.die ∧
      (t.cmu m.cmu).bleedMask = m.bleed % 2 ^ 24 ∧ (∀ c, c ≠ m.cmu → t.cmu c = s.cmu c) ∧
      (∀ g, g < min (s.groupsOf m.cmu) m.populated → m.voltages.getD g 0xFFFF ≠ 0xFFFF →
        (t.group (s.firstGroup m.cmu + g)).voltage = some (m.voltages.getD g 0xFFFF) ∧
        (t.group (s.firstGroup m.cmu + g)).fresh = 1 ∧
        (t.group (s.firstGroup m.cmu + g)).stamp = BitVec.ofNat 32 m.stamp) ∧
      (∀ g, g < s.firstGroup m.cmu ∨ s.firstGroup m.cmu + min (s.groupsOf m.cmu) m.populated ≤ g →
        t.group g = s.group g) ∧
      t.cl = { s.cl with cmus := t.cl.cmus, groups := t.cl.groups, sensors := t.cl.sensors } ∧ Alters [.cl] s t) ∧
  (∀ (s : State) (m : CellData), s.cl.driver = true → m.intact = true → m.kind = 0x0A → 1 ≤ m.cmu → m.cmu ≤ 32 →
    s.cl.renewing = false → m.pattern = s.patNo → m.stamp = s.patStart % 2 ^ 32 → s.patStart + 1000000 < s.ns →
    (s.cmu m.cmu).lost = false →
    ∃ t, exec (.dataFrame m) s = .next t ∧ (t.cmu m.cmu).frame = some m ∧ (t.cmu m.cmu).lateFrame = true ∧
      (t.cmu m.cmu).bleedMask = m.bleed % 2 ^ 24 ∧ (∀ c, c ≠ m.cmu → t.cmu c = s.cmu c) ∧
      t.cl = { s.cl with cmus := t.cl.cmus, late := s.cl.late + 1 } ∧ Alters [.cl] s t) ∧
  (∀ (s : State) (m : CellData), m.intact = true → m.kind ∉ ringKinds →
    ∃ t, exec (.dataFrame m) s = .next t ∧
      t.cl = { s.cl with discarded := s.cl.discarded + 1, discardHist := t.cl.discardHist } ∧ Moves [.cl, .fm] s t) ∧
  (∀ s : State, ∃ t, exec .symbolGapTimeout s = .next t ∧ t.cl.discarded = s.cl.discarded + 1 ∧
      t.cl = { s.cl with discarded := t.cl.discarded, discardHist := t.cl.discardHist } ∧
      t.cl.discardHist.head? = some (BitVec.ofNat 32 s.patNo) ∧ Moves [.cl, .fm] s t) ∧
  (∀ (s : State) (a k : Nat), a ≤ 32 → k < 4 →
    ∃ t, exec (.urgent a k) s = .next t ∧
      t.cl = { s.cl with
        urgentReceived := s.cl.urgentReceived + 1, urgentNow := s.cl.urgentNow ++ [{ addr := a, reason := k }] } ∧
      t.out = (if s.cl.driver = true ∨ s.coreUp = false then s.out else s.out ++ [.repeated (.urgent a k)]) ∧
      Alters [.cl, .out] s t) ∧
  (∀ (s : State) (a k : Nat), a ≤ 32 → 4 ≤ k → k < 16 →
    ∃ t, exec (.urgent a k) s = .next t ∧
      t.cl = { s.cl with
        urgentReceived := s.cl.urgentReceived + 1, urgentNow := s.cl.urgentNow ++ [{ addr := a, reason := k }] } ∧
      t.fm = s.eventFm 0x080B a ∧ Moves [.cl, .fm] s t) ∧
  (∀ (s : State) (a k : Nat), 32 < a ∨ 16 ≤ k →
    ∃ t, exec (.urgent a k) s = .next t ∧ t.cl = { s.cl with urgentIgnored := s.cl.urgentIgnored + 1 } ∧
      t.out = (if s.cl.driver = true ∨ s.coreUp = false then s.out else s.out ++ [.repeated (.urgent a k)]) ∧
      Alters [.cl, .out] s t) ∧
  (∀ (s : State) (a b c : Nat), a ≤ 32 → s.cl.chainMode = false →
    ∃ t, exec (.breakTriple a b c) s = .next t ∧
      t.cl = { s.cl with breakDue := true, breakLastA := b, breakFirstB := c } ∧
      t.out = (if s.cl.driver = true ∨ s.coreUp = false then s.out else s.out ++ [.repeated (.broken a)]) ∧
      Alters [.cl, .out] s t) ∧
  (∀ (s : State) (b c : Nat), s.cl.chainMode = false →
    ∃ t, exec (.portLockLoss b c) s = .next t ∧
      t.cl = { s.cl with breakDue := true, breakLastA := b, breakFirstB := c } ∧ Alters [.cl] s t) ∧
  (∀ (s : State) (g : Nat), g < s.groupCount → 14 ≤ s.ageOf g →
    ∃ t, exec .cellDataLostOpen s = .next t ∧ t.fm = s.condFm 0x0807 0xFFFF ∧ Moves [.fm] s t)

/-- Step captures (R231 to R233). The instant is rounded down to its millisecond. -/
def Obligations.StepCaptureCommands : Prop :=
  (∀ (s : State) (r : Req) (x : Session) (ts t0 : Stamp),
    Accepted s r 0x11 (writePayload r 0x2886 0 0 (stampBytes ts)) 8 operator x → bit (s.cfgGet 0x2885 2) 2 = true →
    s.cl.stepState ≠ 1 → s.cl.stepState ≠ 2 → t0 = stampAt ts.epoch (stampNs ts / 1000000 * 1000000) →
    t0.epoch = s.tb.now.epoch → s.rowStartNs + 100000 ≤ stampNs t0 + 100000000 → stampNs t0 ≤ s.ns + 1000000000 →
    ∃ t, exec (.stepRequest r ts) s = .next t ∧ Waits s t r x (.stepRequest r ts) false false) ∧
  (∀ (s : State) (r : Req) (x : Session) (ts t0 : Stamp), bit (s.cfgGet 0x2885 2) 2 = true →
    s.cl.stepState ≠ 1 → s.cl.stepState ≠ 2 → t0 = stampAt ts.epoch (stampNs ts / 1000000 * 1000000) →
    t0.epoch = s.tb.now.epoch → s.rowStartNs + 100000 ≤ stampNs t0 + 100000000 → stampNs t0 ≤ s.ns + 1000000000 →
    ∃ t, s.liveAct x (.stepRequest r ts) = (t, 0, []) ∧
      t.cl = { s.cl with
        stepState := 1, stepId := (s.cl.stepId + 1) % 256, stepTs := t0, stepSend := true, stepGroups := 0
        stepMarked := false, stepData := [] } ∧ Alters [.cl] s t) ∧
  (∀ s : State, s.cfgGet 0x2885 1 = 0 →
    ∃ t, exec .stepLocalDetect s = .next t ∧ t.cl = { s.cl with localPrev := ratMean s.cl.localNow, localNow := [] } ∧
      Alters [.cl] s t) ∧
  (∀ (s : State) (a b : Rat), s.cfgGet 0x2885 1 ≠ 0 → bit (s.cfgGet 0x2885 2) 0 = true →
    ratMean s.cl.localNow = some a → s.cl.localPrev = some b → (s.cfgGet 0x2885 1 : Rat) ≤ ratAbs (a - b) →
    s.cl.stepState ≠ 1 → s.cl.stepState ≠ 2 → 1000000 ≤ s.ns →
    ∃ t, exec .stepLocalDetect s = .next t ∧ t.cl.stepState = 1 ∧ t.cl.stepId = (s.cl.stepId + 1) % 256 ∧
      t.cl.stepTs = stampAt s.tb.now.epoch ((s.ns - 1000000) / 1000000 * 1000000) ∧ t.cl.stepSend = true ∧
      t.cl.localPrev = some a ∧ t.cl.localNow = [] ∧ Alters [.cl] s t) ∧
  (∀ (s : State) (cmu g : Nat) (v : List Nat), s.cl.stepState = 1 → g < s.groupsOf cmu →
    s.firstGroup cmu + g < s.groupCount → v ≠ [] →
    (tabPut [] (s.firstGroup cmu + g) (v.take 200) s.cl.stepData).length < s.groupCount →
    ∃ t, exec (.stepData cmu s.cl.stepId g 0 v) s = .next t ∧ t.cl.stepState = 2 ∧
      tabGet [] (s.firstGroup cmu + g) t.cl.stepData = v.take 200 ∧
      (∀ k, k ≠ s.firstGroup cmu + g → tabGet [] k t.cl.stepData = tabGet [] k s.cl.stepData) ∧
      t.out = (if s.cl.driver = true ∨ s.coreUp = false then s.out
        else s.out ++ [.repeated (.stepData cmu s.cl.stepId g 0 v)]) ∧ Alters [.cl, .ty, .out] s t)

/-- Updates and deadlines (R244 to R246, R251, R253). -/
def Obligations.FabricPatternCommands : Prop :=
  (∀ (s : State) (g k : Nat) (rest : List Nat), s.ef.state = 2 → s.ef.headRun = true → s.ef.tailRun = false →
    g ∈ s.ef.running → k ∈ s.ef.running → k ≠ g → rest = s.ef.running.filter (· != g) →
    (s.ctx g).born = true → (s.group g).age ≠ 0 →
    ∃ t, exec (.groupUpdateComplete g) s = .next t ∧ (t.ctx g).done = true ∧ (t.ctx g).everDone = true ∧
      (t.ctx g).noUpd = 0 ∧ (t.ctx g).accIn = 0 ∧ (t.ctx g).accOut = 0 ∧ (t.ctx g).accNs = 0 ∧
      (t.ctx g).z = ratMax (rnd64 (-1 / 10)) (ratMin (rnd64 (11 / 10))
        (add64 (s.ctx g).z (div64 (s.driveOf (s.ctx g) (s.group g).bleedNow).dq (s.ctx g).cap))) ∧
      (t.ctx g).qg = add64 (s.ctx g).qg (s.driveOf (s.ctx g) (s.group g).bleedNow).dq ∧
      t.ef.running = rest ++ s.ef.order.take (16 - rest.length) ∧ t.ef.order = s.ef.order.drop (16 - rest.length) ∧
      (∀ j, j ≠ g → t.ctx j = s.ctx j) ∧ Alters [.ef, .cl] s t) ∧
  (∀ (s : State) (gs : List Nat) (g : Nat), s.ef.state = 2 → s.ef.headRun = true → s.ef.tailRun = false →
    s.ef.order = g :: gs →
    ∃ t, exec (.fabricSkipDeadline ()) s = .next t ∧ t.ef.order = [] ∧ t.ef.running = s.ef.running ∧ t.tb = (s.runTo (s.patStart + 6800000)).tb ∧
      (∀ k ∈ g :: gs, bit (t.ctx k).flags 4 = true ∧ (t.ctx k).flagged = true) ∧
      (∀ k, k ∉ g :: gs → t.ctx k = s.ctx k) ∧
      t.ef.skipped = s.ef.skipped + BitVec.ofNat 32 (gs.length + 1) ∧
      t.fm = ((g :: gs).foldl (fun u k => u.raiseEvent 0x0901 k) (s.runTo (s.patStart + 6800000))).fm ∧
      Moves [.tb, .ef, .fm] s t) ∧
  (∀ s : State, s.ef.state = 2 → s.ef.headRun = true → s.ef.tailRun = false →
    ∃ t, exec .fabricAbandonDeadline s = .next t ∧ t.tb = (s.runTo (s.patStart + 6900000)).tb ∧ t.ef.tailRun = true ∧
      t.ef.running = [] ∧ t.ef.order = [] ∧
      (∀ k, k ∈ s.ef.running ∨ k ∈ s.ef.order → bit (t.ctx k).flags 4 = true ∧ (t.ctx k).flagged = true) ∧
      (∀ k ∈ s.populated, (s.ctx k).done = false → (t.ctx k).noUpd = (s.ctx k).noUpd + 1) ∧
      (∀ k, (s.ctx k).done = true → k ∉ s.ef.running → k ∉ s.ef.order → t.ctx k = s.ctx k) ∧
      t.ef.skipped = s.ef.skipped + BitVec.ofNat 32 (s.ef.running.length + s.ef.order.length) ∧
      Moves [.tb, .ef, .fm] s t)

/-- Rest (R256, R257), learning (R261, R262), FabricStop (R254), records (R270). -/
def Obligations.FabricLearningCommands : Prop :=
  (∀ (s : State) (g : Nat), s.ef.state = 2 → (s.ctx g).restTaken = false → (s.ctx g).restV ≠ [] → (s.ctx g).v1 = none →
    25 * s.restSeconds (s.ctx g).restTg ≤ (s.ctx g).restPat →
    ∃ t, exec (.restSampleTime g) s = .next t ∧ t.ctx g = { s.ctx g with v1 := some (s.ctx g).restMean } ∧
      (∀ k, k ≠ g → t.ctx k = s.ctx k) ∧ t.ef = { s.ef with ctx := t.ef.ctx } ∧ Alters [.ef] s t) ∧
  (∀ (s : State) (g : Nat) (a : Rat), s.ef.state = 2 → (s.ctx g).restTaken = false → (s.ctx g).restV ≠ [] → (s.ctx g).v1 = some a →
    (s.ctx g).v2 = none → 125 * s.restSeconds (s.ctx g).restTg ≤ 2 * (s.ctx g).restPat →
    ∃ t, exec (.restSampleTime g) s = .next t ∧ t.ctx g = { s.ctx g with v2 := some (s.ctx g).restMean } ∧
      (∀ k, k ≠ g → t.ctx k = s.ctx k) ∧ t.ef = { s.ef with ctx := t.ef.ctx } ∧ Alters [.ef] s t) ∧
  (∀ (s : State) (g : Nat) (zr sr q z0 s0 q0 : Rat), s.ef.state = 2 → (s.ctx g).learned = none → (s.ctx g).learn = some (zr, sr, q) →
    (s.ctx g).ref = some (z0, s0, q0) →
    (s.ctx g).cap / 20 < ratAbs (sub64 (div64 (sub64 q q0) (sub64 zr z0)) (s.ctx g).cap) →
    ∃ t, exec (.capacityLearningEvent g) s = .next t ∧
      t.ctx g = { s.ctx g with learn := none, ref := some (zr, sr, q), refStamp := (s.ctx g).learnStamp } ∧
      (∀ k, k ≠ g → t.ctx k = s.ctx k) ∧ t.ef.capRejected = s.ef.capRejected + 1 ∧ t.ef.capEvents = s.ef.capEvents ∧
      t.fm = s.eventFm 0x0906 g ∧ Moves [.ef, .nv, .fm] s t) ∧
  (∀ (s : State) (g : Nat) (zr sr q z0 s0 q0 : Rat), s.ef.state = 2 → (s.ctx g).learned = none → (s.ctx g).learn = some (zr, sr, q) →
    (s.ctx g).ref = some (z0, s0, q0) →
    ratAbs (sub64 (div64 (sub64 q q0) (sub64 zr z0)) (s.ctx g).cap) ≤ (s.ctx g).cap / 20 →
    ∃ t, exec (.capacityLearningEvent g) s = .next t ∧ (t.ctx g).learned.isSome = true ∧
      t.ctx g = { s.ctx g with learned := (t.ctx g).learned } ∧
      (∀ k, k ≠ g → t.ctx k = s.ctx k) ∧ t.ef.capEvents = s.ef.capEvents + 1 ∧
      t.ef.capRejected = s.ef.capRejected ∧ t.ef.lastGroup = g ∧ t.ef.lastLearn = s.tb.now ∧
      t.ef.lastResult = (t.ctx g).learned.map (·.1) ∧ Alters [.ef] s t) ∧
  (∀ (s : State) (r : Req) (x : Session) (v : Nat),
    Accepted s r 0x11 (writePayload r 0x2989 0 0 (leBytes 1 v)) 8 engineer x → v ≤ 1 →
    (v = 1 → s.provenOpen = true) →
    ∃ t, exec (.fabricStop r v) s = .next t ∧ Waits s t r x (.fabricStop r v) false false) ∧
  (∀ (s : State) (r : Req) (x : Session) (v : Nat), v ≤ 1 → (v = 1 → s.provenOpen = true) →
    ∃ t, s.liveAct x (.fabricStop r v) = (t, 0, []) ∧ t.ef = { s.ef with stopDue := some (v == 1) } ∧
      Alters [.ef] s t) ∧
  (∀ (s : State) (r : Req) (x : Session), Accepted s r 0x11 (writePayload r 0x298F 0 0 [0x5C]) 8 engineer x →
    s.cfgGet 0x2989 0 = 1 →
    ∃ t, exec (.learnedStateReset r) s = .next t ∧ Waits s t r x (.learnedStateReset r) false false) ∧
  (∀ (s : State) (r : Req) (x : Session), s.cfgGet 0x2989 0 = 1 →
    ∃ t, s.liveAct x (.learnedStateReset r) = (t, 0, []) ∧ t.learnedResetPattern.ef.ctx = [] ∧
      t.learnedResetPattern.ef.learnedSource = 2 ∧ t.learnedResetPattern.ef.iBar = none ∧
      t.learnedResetPattern.ef.smoothFree = true ∧ t.learnedResetPattern.ef.restQualified = [] ∧
      Alters [.ef, .nv] s t.learnedResetPattern) ∧
  (∀ s : State, ∃ t, exec .learnedStateWrite s = .next t ∧
      (∀ k, k < 8 → ∃ h ∈ t.nv.held, h.isLog = false ∧ h.id = 0x0400 + k ∧ h.payload = s.socRecord k) ∧
      (∃ h ∈ t.nv.held, h.isLog = false ∧ h.id = 0x0430 ∧ h.payload = s.strRecord) ∧ Alters [.nv] s t) ∧
  (∀ s : State, s.ef.impChanged = true →
    ∃ t, exec .impRecordWrite s = .next t ∧ t.ef = { s.ef with impChanged := false } ∧
      (∀ k, k < 8 → ∃ h ∈ t.nv.held, h.isLog = false ∧ h.id = 0x0420 + k ∧ h.payload = s.impRecord k) ∧
      Alters [.nv, .ef] s t)

/-- Thermal manager (R69, R287, R288, R295, R297, R301) and BALANCE_ENABLE (R279, R303). -/
def Obligations.ThermalCommands : Prop :=
  (∀ (s : State) (m : Nat), 1 ≤ s.cfgGet 0x2B81 4 → m ∈ s.sensorList → (s.sensor m).freeze = true →
    (s.sensor m).validPat < s.cfgGet 0x2B81 4 * 100 →
    ∃ t, exec .throttleRecoverExpiry s = .next t ∧
      (∀ n ∈ s.sensorList, (s.sensor n).freeze = true → s.cfgGet 0x2B81 4 * 100 ≤ (s.sensor n).validPat →
        t.sensor n = { s.sensor n with freeze := false, state := setBit (s.sensor n).state 2 false }) ∧
      t.sensor m = s.sensor m ∧ t.cl = { s.cl with sensors := t.cl.sensors } ∧ Alters [.cl] s t) ∧
  (∀ (s : State) (m : Nat), 1 ≤ s.cfgGet 0x2B81 4 → m ∈ s.sensorList → (s.sensor m).freeze = true →
    (∀ n ∈ s.sensorList, (s.sensor n).freeze = true → s.cfgGet 0x2B81 4 * 100 ≤ (s.sensor n).validPat) →
    ∃ t, exec .throttleRecoverExpiry s = .next t ∧ (∀ n ∈ s.sensorList, (t.sensor n).freeze = false) ∧
      t.tm.frozen = none ∧ t.tm.recovering = false ∧ t.tm.level = t.throttleNow ∧
      t.tm.factor = t.factorOf t.tm.level ∧ Moves [.cl, .tm, .fm] s t) ∧
  (∀ (s : State) (ohms : List Nat) (b : Int),
    ∃ t, exec (.localSensorSample ohms (some b)) s = .next t ∧
      (∀ k, k < 8 → (t.localT (k + 1)).n = (s.localT (k + 1)).n + 1 ∧
        (t.localT (k + 1)).sum = (s.localT (k + 1)).sum + ohms.getD k 1000000000) ∧
      t.tm.board = { s.tm.board with sum := s.tm.board.sum + b, n := s.tm.board.n + 1 } ∧
      t.tm = { s.tm with locals := t.tm.locals, board := t.tm.board } ∧ Alters [.tm] s t) ∧
  (∀ (s : State) (v : Int), v < 12500 →
    ∃ t, exec (.junctionSample v) s = .next t ∧
      t.tm = { s.tm with junction := some v, junctionRun := 0, junctionMax := t.tm.junctionMax } ∧
      (∃ w, t.tm.junctionMax = some w ∧ v ≤ w) ∧ Alters [.tm] s t) ∧
  (∀ (s : State) (v : Int), 12500 ≤ v → 2 ≤ s.tm.junctionRun → s.tm.junctionLatch = false → s.tm.cellLatch = false →
    ∃ t, exec (.junctionSample v) s = .next t ∧ t.tm.junctionLatch = true ∧ t.tm.shutStamp = s.tb.now ∧
      t.tm.shutSensor = 0xFFFE ∧ t.si = { s.si with sf6Due := true } ∧ t.fm = s.condFm 0x0B08 0xFFFE ∧
      (∃ h ∈ t.nv.held, h.isLog = false ∧ h.id = 0x0006 ∧ h.payload = t.record6) ∧ Moves [.tm, .si, .fm, .nv] s t) ∧
  (∀ (s : State) (k : Nat), ∃ t, exec (.pwmOvercurrentOff k) s = .next t ∧
      t.pwm k = { s.pwm k with duty := 0, off := true, offCount := min 255 ((s.pwm k).offCount + 1) } ∧
      (∀ j, j ≠ k → t.pwm j = s.pwm j) ∧ t.fm = s.eventFm 0x0B09 k ∧ Moves [.tm, .fm] s t) ∧
  (∀ (s : State) (k : Nat), 1 ≤ (s.pwm k).offCount → (s.pwm k).offCount < 3 →
    ∃ t, exec (.pwmRestart k) s = .next t ∧ t.pwm k = { s.pwm k with off := false } ∧
      (∀ j, j ≠ k → t.pwm j = s.pwm j) ∧ Alters [.tm] s t) ∧
  (∀ (s : State) (r : Req) (x : Session) (v : Nat), Accepted s r 0x11 (writePayload r 0x2A80 1 0 (leBytes 1 v)) 8 operator x →
    v ≤ 1 → ∃ t, exec (.balanceEnable r v) s = .next t ∧ Waits s t r x (.balanceEnable r v) false false) ∧
  (∀ (s : State) (r : Req) (x : Session),
    ∃ t, s.liveAct x (.balanceEnable r 1) = (t, 0, []) ∧ t.cfg = (s.cfgPut 0x2A80 1 1).cfg ∧ Alters [.cfg] s t) ∧
  (∀ (s : State) (r : Req) (x : Session),
    ∃ t, s.liveAct x (.balanceEnable r 0) = (t, 0, []) ∧ t.cfg = (s.cfgPut 0x2A80 1 0).cfg ∧
      (∀ g, g < s.groupCount → (s.group g).voltage ≠ none → (t.group g).cmdTime = 0) ∧
      t.bs = { s.bs with state := 0, bleedingCount := 0 } ∧ Alters [.cfg, .cl, .bs] s t)

/-- Leases (R316 to R321), ramp-downs (R323, R324), rest windows (R326 to R328). -/
def Obligations.LeaseCommands : Prop :=
  (∀ (s : State) (r : Req) (x : Session) (v : Bytes) (l : Lease),
    Accepted s r 0x11 (writePayload r 0x2C84 0 0 v) 8 anyRole x → l = leaseOf v x.client s.tb.now →
    classPermitted x.role l.cls = true → leaseInRange v l = true → s.sequenceOk l = true →
    (l.ttl = 0 ∨ (s.de.leases.filter fun y => !y.same l).length < 16) →
    ∃ t, exec (.leaseWrite r v) s = .next t ∧ Waits s t r x (.leaseWrite r v) false false) ∧
  (∀ (s : State) (r : Req) (x : Session) (v : Bytes) (l : Lease), l = leaseOf v x.client s.tb.now →
    classPermitted x.role l.cls = true → leaseInRange v l = true → s.sequenceOk l = true → 1 ≤ l.ttl →
    (s.de.leases.filter fun y => !y.same l).length < 16 →
    ∃ t, s.liveAct x (.leaseWrite r v) = (t, 0, []) ∧
      t.de.leases = (s.de.leases.filter fun y => !y.same l) ++ [l] ∧ t.de.intent = t.wantedIntent ∧
      Moves [.de, .fm, .pc, .os, .pm, .nv, .freeCount] s t) ∧
  (∀ (s : State) (r : Req) (x : Session) (v : Bytes) (l : Lease), l = leaseOf v x.client s.tb.now →
    classPermitted x.role l.cls = true → leaseInRange v l = true → s.sequenceOk l = true → l.ttl = 0 →
    ∃ t, s.liveAct x (.leaseWrite r v) = (t, 0, []) ∧
      t.de.leases = (s.de.leases.filter fun y => !y.same l) ∧ t.de.intent = t.wantedIntent ∧
      Moves [.de, .fm, .pc, .os, .pm, .nv, .freeCount] s t) ∧
  (∀ s : State, ∃ t, exec .leaseExpiry s = .next t ∧ t.de.leases = s.de.leases.filter (0 < ·.rows) ∧
      t.de.intent = t.wantedIntent ∧ Moves [.de, .fm, .pc, .os, .pm, .nv, .freeCount] s t) ∧
  (∀ (s : State) (i : Rat), s.de.connect = 3 → 3 ≤ s.de.lowRows → s.rows.latched = some i →
    s.latchedAbs ≤ (s.cfgGet 0x2C81 3 : Rat) → tabWf {} s.os.coils = true →
    ∃ t, exec .rampDownWaitEnd s = .next t ∧ (t.coil 2).cmd = false ∧ (t.coil 3).cmd = false ∧
      (t.coil 1).cmd = (s.coil 1).cmd ∧ t.pc.seq = 7 ∧ t.pc.sequenced = true ∧ t.de.connect = 5 ∧
      t.de.armed = s.de.armed ∧ (s.pc.seq ≠ 3 → t.nv = s.nv) ∧ Alters [.os, .pm, .pc, .de, .nv] s t) ∧
  (∀ (s : State) (i : Rat), s.de.connect = 4 → 20000 ≤ s.de.waitRows → s.rows.latched = some i →
    (s.cfgGet 0x2C81 3 : Rat) < s.latchedAbs → s.latchedAbs ≤ (s.cfgGet 0x2C81 4 : Rat) →
    tabWf {} s.os.coils = true →
    ∃ t, exec .rampDownWaitEnd s = .next t ∧ (t.coil 2).cmd = false ∧ (t.coil 3).cmd = false ∧ t.pc.seq = 7 ∧
      t.de.connect = 5 ∧ t.de.armed = false ∧ t.de.underLoad = s.de.underLoad + 1 ∧
      t.fm = s.eventFm 0x0C08 0xFFFF ∧ (s.pc.seq ≠ 3 → t.nv = s.nv) ∧ Moves [.os, .pm, .pc, .de, .fm, .nv] s t) ∧
  (∀ (s : State) (i : Rat), s.de.connect = 4 → 20000 ≤ s.de.waitRows → s.rows.latched = some i →
    (s.cfgGet 0x2C81 3 : Rat) < s.latchedAbs → (s.cfgGet 0x2C81 4 : Rat) < s.latchedAbs →
    tabWf {} s.os.coils = true →
    ∃ t, exec .rampDownWaitEnd s = .next t ∧ CoilsOff t ∧ t.os.uvr = false ∧ t.si.lastReaction = 3 ∧
      t.de.connect = 6 ∧ t.de.armed = false ∧ t.de.breakerTrips = s.de.breakerTrips + 1 ∧
      t.fm = s.eventFm 0x0C09 0xFFFF ∧ Moves [.os, .pm, .pc, .de, .nv, .si, .fm] s t) ∧
  (∀ s : State, s.de.restState = 2 →
    ∃ t, exec .restWindowStart s = .next t ∧
      t.de = { s.de with
        restState := 3, restEnd := stampAt s.tb.now.epoch (s.ns + s.de.restLength * 1000000000) } ∧ Alters [.de] s t) ∧
  (∀ s : State, s.de.restState = 3 →
    ∃ t, exec .restWindowEnd s = .next t ∧ t.de = { s.de with restState := 5 } ∧ Alters [.de] s t) ∧
  (∀ s : State, s.de.restState = 4 → bit s.ef.flags 3 = false →
    ∃ t, exec .restRetryExpiry s = .next t ∧ t.de = { s.de with restState := 0 } ∧ Alters [.de] s t) ∧
  (∀ s : State, s.de.restState = 4 → bit s.ef.flags 3 = true → s.restDecider = none →
    ∃ t, exec .restRetryExpiry s = .next t ∧ t.de = { s.de with restState := 1, restLength := s.restWindow } ∧ Alters [.de] s t)

/-- The envelope (R305 to R314). -/
def Obligations.EnvelopeCommands : Prop :=
  (∀ s : State, ∃ t, exec .envelopeCompute s = .next t ∧ t.tb = (s.runTo (s.patStart + 7000000)).tb ∧
      t.de.computed.version = 1 ∧ t.de.computed.pattern = BitVec.ofNat 32 (t.patNo + 1) ∧
      t.de.computed.charge60 ≤ t.de.computed.charge10 ∧ t.de.computed.charge10 ≤ t.de.computed.charge2 ∧
      t.de.computed.dis60 ≤ t.de.computed.dis10 ∧ t.de.computed.dis10 ≤ t.de.computed.dis2 ∧
      (s.pc.seq ≠ 6 → t.de.computed.charge2 = 0 ∧ t.de.computed.dis2 = 0 ∧ t.de.computed.flags % 2 = 0) ∧
      t.de.next = s.de.next ∧ t.de.envelope = s.de.envelope ∧ Alters [.tb, .de] s t) ∧
  (∀ s : State, bit (s.cfgGet 0x2C82 1) 0 = false → bit (s.cfgGet 0x2C82 1) 1 = true → s.cfgGet 0x2C82 4 ≠ 0 →
    ∃ t, exec .envelopePublish s = .next t ∧ t.tb = (s.runTo (s.patStart + 8500000)).tb ∧
      t.de = { s.de with next := { s.de.computed with pairSeq := t.de.next.pairSeq } } ∧
      t.out = s.out ++ [.envelopeEth (s.cfgGet 0x2C82 4) t.de.next.bytes] ∧ Moves [.tb, .de] s t) ∧
  (∀ (s : State) (ms : Nat), s.cfgGet 0x2C82 4 ≠ 0 → ms ≤ 100 →
    ∃ t, exec (.envelopeAck (s.cfgGet 0x2C82 4) ms) s = .next t ∧
      t.de = { s.de with ethNow := true, lastEth := s.tb.now } ∧ Alters [.de] s t)

/-- Transmission (R445 to R448, R452). -/
def Obligations.CanTransmitCommands : Prop :=
  (∀ (s : State) (b : Nat), s.hostCan2 = true → b < 64 → (s.cn.c2.txb b).open' = true →
    ∃ t, exec (.canTxRequest b) s = .next t ∧ (t.cn.c2.txb b).state = 1 ∧ (t.cn.c2.txb b).late = false ∧
      (t.cn.c2.txb b).attempts = 0 ∧ (t.cn.c2.txb b).frame = frameOfWords (s.cn.c2.txb b).words ∧
      (∀ n, n ≠ b → t.cn.c2.txb n = s.cn.c2.txb n) ∧ t.cn = { s.cn with c2 := { s.cn.c2 with tx := t.cn.c2.tx } } ∧
      Alters [.cn] s t) ∧
  (∀ (s : State) (b : Nat), s.hostCan2 = true → b < 64 → (s.cn.c2.txb b).open' = false →
    ∃ t, exec (.canTxRequest b) s = .next t ∧ t.cn.c2.txRefused = s.cn.c2.txRefused + 1 ∧
      t.cn.c2.tx = s.cn.c2.tx ∧ t.fm = s.eventFm 0x1204 2 ∧ Moves [.cn, .fm] s t) ∧
  (∀ (s : State) (b : Nat), s.hostCan2 = true → b < 64 → (s.cn.c2.txb b).state = 1 → (s.cn.c2.txb b).replace = none →
    ∃ t, exec (.canTxCancel b) s = .next t ∧ (t.cn.c2.txb b).state = 4 ∧ (t.cn.c2.txb b).late = false ∧
      (∀ n, n ≠ b → t.cn.c2.txb n = s.cn.c2.txb n) ∧ Alters [.cn] s t) ∧
  (∀ (s : State) (b : Nat), s.hostCan2 = true → b < 64 → (s.cn.c2.txb b).state = 2 →
    ∃ t, exec (.canTxCancel b) s = .next t ∧ t.cn.c2.txb b = { s.cn.c2.txb b with cancel := true } ∧
      (∀ n, n ≠ b → t.cn.c2.txb n = s.cn.c2.txb n) ∧ Alters [.cn] s t) ∧
  (∀ (s : State) (b : Nat), s.hostCan2 = true → b < 64 → (s.cn.c2.txb b).state ≠ 2 →
    ∃ t, exec (.canTxReplace b) s = .next t ∧ (t.cn.c2.txb b).state = 1 ∧
      (t.cn.c2.txb b).frame = frameOfWords s.cn.c2.stageWords ∧
      (∀ n, n ≠ b → t.cn.c2.txb n = s.cn.c2.txb n) ∧ Alters [.cn] s t) ∧
  (∀ (s : State) (b : Nat), s.hostCan2 = true → b < 64 → (s.cn.c2.txb b).state = 2 →
    ∃ t, exec (.canTxReplace b) s = .next t ∧
      t.cn.c2.txb b =
        { s.cn.c2.txb b with cancel := true, replace := some (frameOfWords s.cn.c2.stageWords) } ∧
      t.cn.c2.stageBusy = true ∧ (∀ n, n ≠ b → t.cn.c2.txb n = s.cn.c2.txb n) ∧ Alters [.cn] s t) ∧
  (∀ (s : State) (bits n : Nat), s.hostCan2 = true → n < 64 → (s.cn.c2.txb n).words ≠ [] →
    ∃ t, exec (.can2Txfin bits) s = .next t ∧
      t.cn.c2.txb n = (if bit bits n && decide (3 ≤ (s.cn.c2.txb n).state)
        then { s.cn.c2.txb n with state := 0, late := false, attempts := 0 } else s.cn.c2.txb n) ∧
      t.cn = { s.cn with c2 := { s.cn.c2 with tx := t.cn.c2.tx } } ∧ Alters [.cn] s t) ∧
  (∀ (s : State) (k n : Nat), k = 1 ∨ k = 2 → (s.ctl k).chain = [] → (s.ctl k).mode = 1 ∨ (s.ctl k).mode = 3 →
    (s.ctl k).errState < 2 → (s.ctl k).active = none → (s.ctl k).winner = some n →
    ∃ t, exec (.canTxSelect k) s = .next t ∧ ((t.ctl k).txb n).state = 2 ∧
      ((t.ctl k).txb n).sof = BitVec.ofNat 32 s.short ∧
      ((t.ctl k).txb n).attempts = min 7 (((s.ctl k).txb n).attempts + 1) ∧
      (∀ m, m ≠ n → (t.ctl k).txb m = (s.ctl k).txb m) ∧ Alters [.cn] s t) ∧
  (∀ (s : State) (k n : Nat), (s.ctl k).active = some n → (s.ctl k).mode ≠ 3 → (s.ctl k).stopDue = false →
    ((s.ctl k).txb n).cancel = false → ((s.ctl k).txb n).replace = none →
    ∃ t, exec (.canTxComplete k) s = .next t ∧ ((t.ctl k).txb n).state = 3 ∧ ((t.ctl k).txb n).late = false ∧
      ((t.ctl k).txb n).eof = BitVec.ofNat 32 s.short ∧ (∀ m, m ≠ n → (t.ctl k).txb m = (s.ctl k).txb m) ∧
      (t.ctl k).txFrames = (s.ctl k).txFrames + 1 ∧ (t.ctl k).tec = (s.ctl k).tec - 1 ∧
      (n = 0 → s.fwOwns k = true → s.cfgGet 0x2C82 3 = k →
        t.de = { s.de with canNow := true, lastCan := s.tb.now }) ∧
      Moves [.cn, .de, .fm] s t) ∧
  (∀ (s : State) (k n : Nat), (s.ctl k).active = some n → (s.ctl k).stopDue = false →
    ((s.ctl k).txb n).cancel = false → ((s.ctl k).txb n).oneshot = false →
    ∃ t, exec (.canArbitrationLost k) s = .next t ∧ (t.ctl k).txb n = { (s.ctl k).txb n with state := 1 } ∧
      (∀ m, m ≠ n → (t.ctl k).txb m = (s.ctl k).txb m) ∧ Alters [.cn] s t) ∧
  (∀ (s : State) (k n : Nat), (s.ctl k).active = some n → (s.ctl k).stopDue = false →
    ((s.ctl k).txb n).cancel = true → ((s.ctl k).txb n).replace = none →
    ∃ t, exec (.canArbitrationLost k) s = .next t ∧ ((t.ctl k).txb n).state = 4 ∧ ((t.ctl k).txb n).late = true ∧
      (t.ctl k).lateCancels = (s.ctl k).lateCancels + 1 ∧ Alters [.cn] s t)

/-- Reception (R440 to R444, R452), the fire panel (R456), reassembly (R472). -/
def Obligations.CanReceiveCommands : Prop :=
  (∀ (s : State) (f : CanFrame) (sof e : Nat), s.coreUp = true → s.hostCan2 = true → s.hears 2 f.fmt = true →
    s.cn.c2.decide' (s.ringSize 2) f = some e → bit (s.cn.c2.entry e).1 2 = true →
    (s.cn.c2.entry e).1 / 256 % 128 = 0x7F → (s.cn.c2.rxb s.cn.c2.wr).nd = false →
    ∃ t, exec (.canFrameReceive 2 f sof) s = .next t ∧
      t.cn.c2.rxb s.cn.c2.wr = { s.cn.c2.rxb s.cn.c2.wr with
        nd := true, upd := ((s.cn.c2.rxb s.cn.c2.wr).upd + 1) % 16, filter := e, frame := f
        sof := BitVec.ofNat 32 sof, eof := BitVec.ofNat 32 s.short } ∧
      (∀ n, n ≠ s.cn.c2.wr → t.cn.c2.rxb n = s.cn.c2.rxb n) ∧
      t.cn.c2.wr = (if s.ringSize 2 ≤ s.cn.c2.wr + 1 then 0 else s.cn.c2.wr + 1) ∧
      t.cn.c2.rxFrames = s.cn.c2.rxFrames + 1 ∧ Moves [.cn, .fm, .freeCount] s t) ∧
  (∀ (s : State) (f : CanFrame) (sof : Nat), s.coreUp = true → s.hears 2 f.fmt = true →
    s.cn.c2.decide' (s.ringSize 2) f = none →
    ∃ t, exec (.canFrameReceive 2 f sof) s = .next t ∧ t.cn.c2.rx = s.cn.c2.rx ∧
      t.cn.c2.rxFrames = s.cn.c2.rxFrames ∧ Moves [.cn, .fm, .freeCount] s t) ∧
  (∀ (s : State) (b u : Nat), s.hostCan2 = true → (s.cn.c2.rxb (b % 128)).upd = u % 16 →
    ∃ t, exec (.can2Rxack b u) s = .next t ∧
      t.cn = { s.cn with c2 := s.cn.c2.modRx (b % 128) fun x => { x with nd := false, lost := false } } ∧
      Alters [.cn] s t) ∧
  (∀ (s : State) (b u : Nat), s.hostCan2 = true → (s.cn.c2.rxb (b % 128)).upd ≠ u % 16 →
    exec (.can2Rxack b u) s = .next s) ∧
  (∀ (s : State) (bits : Nat), s.hostCan2 = true →
    ∃ t, exec (.can2Alert bits) s = .next t ∧
      (∀ n, n < 4 → bit t.cn.c2.alert n = (bit s.cn.c2.alert n && !bit bits n)) ∧
      t.cn = { s.cn with c2 := { s.cn.c2 with alert := t.cn.c2.alert } } ∧ Alters [.cn] s t) ∧
  (∀ (s : State) (k channel node : Nat), ∃ t, exec (.canReassemblyTimeout k channel node) s = .next t ∧
      t.cn = { s.cn with reasm := s.cn.reasm.filter fun x => !x.here k channel node } ∧ Alters [.cn] s t) ∧
  (∀ s : State, s.cfgGet 0x328F 1 ≠ 0xFFFFFFFF →
    ∃ t, exec .fireTimeout s = .next t ∧ t.fm = s.condFm 0x1206 0xFFFF ∧ Moves [.fm] s t) ∧
  (∀ (s : State) (l : Lease), s.cn.fireState = 3 → s.fireLease 3 s.cn.fireCounter.toNat = some l →
    (s.de.leases.filter fun y => !y.same l).length < 16 →
    ∃ t, exec .fireLeaseRenew s = .next t ∧
      t.de.leases = (s.de.leases.filter fun y => !y.same l) ++ [l] ∧ t.de.intent = t.wantedIntent ∧
      Moves [.de, .fm, .pc, .os, .pm, .nv, .freeCount] s t)

/-- Errors and modes (R434, R436, R449 to R451). -/
def Obligations.CanErrorCommands : Prop :=
  (∀ (s : State) (k code add : Nat), k = 1 ∨ k = 2 → (s.ctl k).mode ≠ 0 → (s.ctl k).errState < 2 →
    (s.ctl k).tec ≤ 255 → (s.ctl k).stopDue = false →
    ∃ t, exec (.canBusError k code add false) s = .next t ∧ (t.ctl k).lastErr = code % 8 ∧
      (t.ctl k).recv = min 65535 ((s.ctl k).recv + add) ∧ (t.ctl k).tec = (s.ctl k).tec ∧
      (t.ctl k).busOffs = (s.ctl k).busOffs ∧ (t.ctl k).tx = (s.ctl k).tx ∧ Moves [.cn, .fm] s t) ∧
  (∀ (s : State) (k code add : Nat), k = 1 ∨ k = 2 → (s.ctl k).mode ≠ 0 → (s.ctl k).errState < 2 →
    (s.ctl k).active = none → 255 < (s.ctl k).tec + add → (s.ctl k).stopDue = false →
    bit (s.cfgGet 0x3288 k) 1 = false →
    ∃ t, exec (.canBusError k code add true) s = .next t ∧ (t.ctl k).busOffs = (s.ctl k).busOffs + 1 ∧
      (t.ctl k).tec = (s.ctl k).tec + add ∧ (t.ctl k).recovering = bit (s.cfgGet 0x3288 k) 0 ∧
      (t.ctl k).errState = (if bit (s.cfgGet 0x3288 k) 0 then 4 else 2) ∧ (t.ctl k).tx = (s.ctl k).tx ∧
      (s.fwOwns k = true → s.cfgGet 0x2C82 3 = k → t.de.fallback = true) ∧ Moves [.cn, .fm, .de] s t) ∧
  (∀ (s : State) (k : Nat), (s.ctl k).recovering = true → (s.ctl k).mode ≠ 0 →
    ∃ t, exec (.busOffRecoveryComplete k) s = .next t ∧ (t.ctl k).tec = 0 ∧ (t.ctl k).recv = 0 ∧
      (t.ctl k).recovering = false ∧ (t.ctl k).errState = 0 ∧ (t.ctl k).tx = (s.ctl k).tx ∧ Moves [.cn, .fm] s t) ∧
  (∀ (s : State) (r : Req) (x : Session) (k : Nat), k = 1 ∨ k = 2 →
    Accepted s r 0x11 (writePayload r 0x328A k 0 (leBytes 1 1)) 8 operator x → 255 < (s.ctl k).tec →
    (s.ctl k).mode ≠ 0 →
    ∃ t, exec (.recoverRequest r k 1) s = .next t ∧ Waits s t r x (.recoverRequest r k 1) false false) ∧
  (∀ (s : State) (r : Req) (x : Session) (k : Nat), k = 1 ∨ k = 2 → 255 < (s.ctl k).tec → (s.ctl k).mode ≠ 0 →
    ∃ t, s.liveAct x (.recoverRequest r k 1) = (t, 0, []) ∧ (t.ctl k).recovering = true ∧
      (t.ctl k).errState = 4 ∧ (t.ctl k).tec = (s.ctl k).tec ∧ Moves [.cn, .fm] s t) ∧
  (∀ (s : State) (r : Req) (x : Session) (k v : Nat), k = 1 ∨ k = 2 → v ≤ 3 →
    Accepted s r 0x11 (writePayload r 0x3280 k 0 (leBytes 1 v)) 8 operator x →
    ∃ t, exec (.controllerMode r k v) s = .next t ∧ Waits s t r x (.controllerMode r k v) false false) ∧
  (∀ (s : State) (r : Req) (x : Session) (k v : Nat), k = 1 ∨ k = 2 → v ≤ 3 → v ≠ 0 ∨ (s.ctl k).active = none →
    ∃ t, s.liveAct x (.controllerMode r k v) = (t, 0, []) ∧ (t.ctl k).mode = v ∧
      (t.ctl k).stopDue = false ∧ t.cfg = (s.cfgPut 0x3280 k v).cfg ∧ Moves [.cfg, .cn, .fm] s t) ∧
  (∀ (s : State) (k : Nat), ∃ t, exec (.canTransceiverFault k) s = .next t ∧ t.fm = s.eventFm 0x1205 k ∧
      Moves [.fm] s t)

/-- PTP reception (R417 to R423). -/
def Obligations.PtpReceiveCommands : Prop :=
  (∀ (s : State) (m : PtpMsg) (bin : Nat), s.ptpOn = true → s.ptpTakes m = true → s.fromParent m = true →
    m.twoStep = true →
    ∃ t, exec (.syncFrame m bin) s = .next t ∧
      t.tb = { s.tb with syncRx := some (m.seq, s.ingress m.port bin, m.correction) } ∧ Moves [.tb] s t) ∧
  (∀ (s : State) (m : PtpMsg) (q : Nat) (t2 c e : Int), s.ptpOn = true → s.ptpTakes m = true →
    s.fromParent m = true → s.tb.syncRx = some (q, t2, c) → q = m.seq →
    e = t2 - (m.time + (c + m.correction) / 65536) - s.delayNow m.port → s.tb.firstDone = true →
    e.natAbs < s.cfgGet 0x3082 1 →
    ∃ t, exec (.followUp m) s = .next t ∧ t.tb.offset = some (saturate32 e) ∧ t.tb.lastSeq = some q ∧
      t.tb.syncRx = none ∧ t.tb.portState = 9 ∧ t.tb.pendingOff = 0 ∧ t.tb.pendingCount = 0 ∧
      t.tb.now = s.tb.now ∧ t.tb.stepCount = s.tb.stepCount ∧ Moves [.tb, .fm] s t) ∧
  (∀ (s : State) (m : PtpMsg), s.ptpOn = true → s.ptpTakes m = true → m.steps < 255 →
    ∃ t, exec (.announce m) s = .next t ∧
      (∃ f ∈ t.tb.foreign, f.m.source = m.source ∧ f.m.sourcePort = m.sourcePort ∧ f.m.port = m.port ∧
        f.m.gm = m.gm ∧ f.last = s.tb.now) ∧
      (∀ f ∈ s.tb.foreign, f.m.source ≠ m.source → f ∈ t.tb.foreign) ∧ Moves [.tb, .fm] s t) ∧
  (∀ (s : State) (m : PtpMsg) (bin : Nat), s.ptpOn = true → s.ptpTakes m = true → s.tb.portState = 6 →
    s.peerDelay = false →
    ∃ t, exec (.delayReq m bin) s = .next t ∧
      t.out = s.out ++ [.ptp m.port {
        kind := 9, seq := m.seq, correction := m.correction, time := s.ingress m.port bin, target := m.source
        targetPort := m.sourcePort, port := m.port, source := s.clockId, sourcePort := 1
        domain := s.cfgGet 0x3080 4, udp := s.cfgGet 0x3080 3 == 1 }] ∧ Moves [] s t) ∧
  (∀ (s : State) (m : PtpMsg) (q : Nat) (t1 t2 t3 d : Int), s.ptpOn = true → s.ptpTakes m = true →
    s.fromParent m = true → s.peerDelay = false → s.tb.dreqTx = some (q, t3) → s.tb.syncT = some (t1, t2) →
    q = m.seq → m.target = s.clockId → m.targetPort = 1 →
    d = ((t2 - t1) + (m.time - t3) - m.correction / 65536) / 2 → 0 ≤ d → d < 4294967295 →
    ∃ t, exec (.delayResp m) s = .next t ∧ t.tb = { s.tb with pathDelay := some d.toNat, dreqTx := none } ∧
      Moves [.tb] s t) ∧
  (∀ (s : State) (m : PtpMsg) (bin after : Nat), s.ptpOn = true → s.ptpTakes m = true → s.peerDelay = true →
    (if m.port = 1 then s.tb.tx1 else s.tb.tx2).length < 16 →
    ∃ t, exec (.pdelayReq m bin after) s = .next t ∧
      t.out = s.out ++ [
        .ptp m.port {
          kind := 3, seq := m.seq, time := s.ingress m.port bin, target := m.source, targetPort := m.sourcePort
          port := m.port, source := s.clockId, sourcePort := 1, domain := s.cfgGet 0x3080 4
          udp := s.cfgGet 0x3080 3 == 1 },
        .ptp m.port {
          kind := 10, seq := m.seq, correction := m.correction, time := s.egress m.port bin + after
          target := m.source, targetPort := m.sourcePort, port := m.port, source := s.clockId, sourcePort := 1
          domain := s.cfgGet 0x3080 4, udp := s.cfgGet 0x3080 3 == 1 }] ∧
      Moves [.tb] s t) ∧
  (∀ (s : State) (m : PtpMsg) (bin q : Nat) (t1 d : Int), s.ptpOn = true → s.ptpTakes m = true →
    s.peerDelay = true → m.port = 1 → s.tb.preq1 = some (q, t1) → q = m.seq → m.target = s.clockId →
    d = ((s.ingress 1 bin - t1) - (m.time2 - m.time) - m.correction / 65536) / 2 → 0 ≤ d → d < 4294967295 →
    ∃ t, exec (.pdelayResp m bin) s = .next t ∧ t.tb = { s.tb with peer1 := some d.toNat, preq1 := none } ∧
      Moves [.tb] s t)

/-- PTP sends (R417 to R419, R428, R431). -/
def Obligations.PtpSendCommands : Prop :=
  (∀ (s : State) (m : PtpMsg) (res : Nat), s.coreUp = true → m.port = 1 → m.kind = 0 → m.twoStep = true →
    s.peerDelay = false →
    ∃ t, exec (.transparentClockForward m res) s = .next t ∧ t.out = s.out ++ [.ptp 2 { m with port := 2 }] ∧
      t.tb.tcMax2 = max s.tb.tcMax2 res ∧
      heldFor 8 m.source m.sourcePort m.seq t.tb.tcHeld =
        (res : Int) * 65536 + heldFor 8 m.source m.sourcePort m.seq s.tb.tcHeld ∧
      t.tb = { s.tb with tcHeld := t.tb.tcHeld, tcMax2 := t.tb.tcMax2 } ∧ Moves [.tb] s t) ∧
  (∀ (s : State) (m : PtpMsg) (res : Nat), s.coreUp = true → m.port = 1 → m.kind = 8 →
    ∃ t, exec (.transparentClockForward m res) s = .next t ∧
      t.out = s.out ++ [.ptp 2 { m with
        port := 2, correction := m.correction + heldFor 8 m.source m.sourcePort m.seq s.tb.tcHeld }] ∧
      t.tb = { s.tb with tcHeld := dropHeld 8 m.source m.sourcePort m.seq s.tb.tcHeld } ∧ Moves [.tb] s t) ∧
  (∀ (s : State) (p : Master), s.ptpOn = true → s.tb.master = some p → s.cfgGet 0x3080 5 ≠ 1 →
    (∀ f ∈ s.tb.foreign, f.m.source = p.source ∧ f.m.sourcePort = p.sourcePort ∧ f.m.port = p.port) →
    ∃ t, exec .announceReceiptTimeout s = .next t ∧ t.tb.master = none ∧ t.tb.foreign = [] ∧ t.tb.portState = 4 ∧
      t.tb.state = (if s.tb.wasLocked then .holdover else .free) ∧ t.tb.now = s.tb.now ∧ Moves [.tb, .fm] s t) ∧
  (∀ s : State, s.ptpOn = true → s.tb.master = none → s.cfgGet 0x3080 5 = 1 →
    ∃ t, exec .announceReceiptTimeout s = .next t ∧ t.tb = { s.tb with portState := 6 } ∧ Alters [.tb] s t) ∧
  (∀ (s : State) (p : Master), s.ptpOn = true → s.tb.master = some p → s.cfgGet 0x3080 5 ≠ 1 →
    (∀ f ∈ s.tb.foreign, f.m.source = p.source ∧ f.m.sourcePort = p.sourcePort ∧ f.m.port = p.port) →
    ∃ t, exec .syncReceiptTimeout s = .next t ∧ t.tb.master = none ∧ t.tb.foreign = [] ∧ t.tb.portState = 4 ∧
      t.tb.state = (if s.tb.wasLocked then .holdover else .free) ∧ t.tb.now = s.tb.now ∧ Moves [.tb, .fm] s t) ∧
  (∀ (s : State) (b1 b2 : Nat) (sent : Nat → Nat → Int → Out), s.ptpOn = true → s.tb.portState = 6 →
    s.tb.tx1.length < 16 → s.tb.tx2.length < 16 →
    sent = (fun port kind time => .ptp port {
      kind, seq := s.tb.syncSeq, time, port, source := s.clockId, sourcePort := 1, domain := s.cfgGet 0x3080 4,
      udp := s.cfgGet 0x3080 3 == 1 }) →
    ∃ t, exec (.syncIntervalSend b1 b2) s = .next t ∧
      t.out = s.out ++ [sent 1 0 0, sent 1 8 (s.egress 1 b1), sent 2 0 0, sent 2 8 (s.egress 2 b2)] ∧
      t.tb.syncSeq = (s.tb.syncSeq + 1) % 65536 ∧
      t.tb = { s.tb with syncSeq := t.tb.syncSeq, tx1 := t.tb.tx1, tx2 := t.tb.tx2 } ∧ Moves [.tb] s t) ∧
  (∀ s : State, s.ptpOn = true → s.tb.portState = 6 →
    ∃ (t : State) (m : PtpMsg), exec .announceIntervalSend s = .next t ∧
      t.out = s.out ++ [.ptp 1 { m with port := 1 }, .ptp 2 { m with port := 2 }] ∧ m.kind = 11 ∧
      m.seq = s.tb.annSeq ∧ m.priority1 = s.cfgGet 0x3080 6 ∧ m.priority2 = s.cfgGet 0x3080 7 ∧ m.gm = s.clockId ∧
      m.source = s.clockId ∧ t.tb = { s.tb with annSeq := (s.tb.annSeq + 1) % 65536 } ∧ Moves [.tb] s t) ∧
  (∀ (s : State) (port bin : Nat), port = 1 ∨ port = 2 → s.ptpOn = true → s.peerDelay = false →
    s.tb.master.isSome = true → s.tb.activePort = port →
    (if port = 1 then s.tb.tx1 else s.tb.tx2).length < 16 →
    ∃ t, exec (.delayReqSend port bin) s = .next t ∧
      t.out = s.out ++ [.ptp port {
        kind := 1, seq := s.tb.dreqSeq, port, source := s.clockId, sourcePort := 1, domain := s.cfgGet 0x3080 4
        udp := s.cfgGet 0x3080 3 == 1 }] ∧
      t.tb = { s.tb with
        tx1 := t.tb.tx1, tx2 := t.tb.tx2, dreqTx := some (s.tb.dreqSeq, s.egress port bin)
        dreqSeq := (s.tb.dreqSeq + 1) % 65536 } ∧ Moves [.tb] s t)

/-- Steps (R421, R423, R425), increments (R409, R414). -/
def Obligations.TimeStepCommands : Prop :=
  (∀ (s : State) (r : Req) (x : Session), Accepted s r 0x11 (writePayload r 0x3083 0 0 (leBytes 1 1)) 8 operator x →
    s.followsSteps = true ∨ s.tb.state = .stepPending →
    ∃ t, exec (.stepAccept r 1) s = .next t ∧ Waits s t r x (.stepAccept r 1) false false) ∧
  (∀ (s : State) (r : Req) (x : Session) (n : Nat), s.tb.state = .stepPending → s.ty.state ≠ .member →
    (0 < s.tb.pendingOff → s.tb.now.epoch ≠ 65535) → (s.ns : Int) - s.tb.pendingOff = n →
    n < 2 ^ 48 * 1000000000 →
    ∃ t, s.liveAct x (.stepAccept r 1) = (t, 0, []) ∧
      t.tb.now = stampAt (if 0 < s.tb.pendingOff then s.tb.now.epoch + 1 else s.tb.now.epoch) n ∧
      t.tb.stepCount = s.tb.stepCount + 1 ∧ t.tb.lastStep = t.tb.now ∧ t.tb.lastSize = -s.tb.pendingOff ∧
      t.tb.pendingOff = 0 ∧ t.tb.pendingCount = 0 ∧ t.tb.state = .acquiring ∧
      t.rows.seamCount = s.rows.seamCount + 1 ∧ t.cl = { s.cl with stepFlag := true } ∧
      Moves [.tb, .rows, .cl, .ef, .pm, .os, .en, .sy, .ca, .ss, .nv, .fm, .lg] s t) ∧
  (∀ (s : State) (r : Req) (x : Session), s.tb.state = .stepPending → s.ty.state = .member → s.os.gate = true →
    (0 < s.tb.pendingOff → s.tb.now.epoch ≠ 65535) →
    ∃ t, s.liveAct x (.stepAccept r 1) = (t, 0, []) ∧ t.tb = { s.tb with stepDue := some (-s.tb.pendingOff) } ∧
      t.ty = { s.ty with cmdsDue := s.ty.cmdsDue ++
        [{ node := s.id.nodeId, index := 0x3083, value := leInt 8 (-s.tb.pendingOff) }] } ∧ Alters [.tb, .ty] s t) ∧
  (∀ (s : State) (d : Int), s.tb.stepAgreed = some d → s.agreedStep = s.applyStep d) ∧
  (∀ (s : State) (r : Req) (x : Session) (o : Int), Accepted s r 0x11 (writePayload r 0x3087 0 0 (leInt 8 o)) 8 operator x →
    -(2 ^ 63) ≤ o → o < 2 ^ 63 →
    ∃ t, exec (.timeStepRequest r o) s = .next t ∧ Waits s t r x (.timeStepRequest r o) false false) ∧
  (∀ (s : State) (r : Req) (x : Session) (o : Int),
    -(2 ^ 63) ≤ o → o < 2 ^ 63 → s.tb.state ≠ .free → o.natAbs < s.cfgGet 0x3082 1 →
    ∃ t, s.liveAct x (.timeStepRequest r o) = (t, 0, []) ∧ t.tb.now = s.tb.now ∧
      t.tb.stepCount = s.tb.stepCount ∧ t.tb.pendingOff = 0 ∧ t.tb.pendingCount = 0 ∧ t.tb.firstDone = true ∧
      Moves [.tb, .fm] s t) ∧
  (∀ (s : State) (r : Req) (x : Session) (o : Int),
    -(2 ^ 63) ≤ o → o < 2 ^ 63 → s.tb.state ≠ .free → s.cfgGet 0x3082 1 ≤ o.natAbs → s.cfgGet 0x3082 2 ≠ 1 →
    ∃ t, s.liveAct x (.timeStepRequest r o) = (t, 0, []) ∧ t.tb.now = s.tb.now ∧
      t.tb.incr = s.tb.incr ∧ t.tb.state = .stepPending ∧ t.tb.pendingOff = o ∧ 1 ≤ t.tb.pendingCount ∧
      t.tb.stepsRefused = s.tb.stepsRefused + 1 ∧ t.fm = s.condFm 0x1002 0xFFFF ∧ Moves [.tb, .fm] s t) ∧
  (∀ (s : State) (r : Req) (x : Session) (v : Nat), Accepted s r 0x11 (writePayload r 0x3086 0 0 (leBytes 8 v)) 8 operator x →
    s.cfgGet 0x3084 0 = 1 ∨ s.cfgGet 0x3084 0 = 2 → incrementOk (v % 2 ^ 64) = true →
    ∃ t, exec (.incrementWrite r v) s = .next t ∧ Waits s t r x (.incrementWrite r v) true false) ∧
  (∀ (s : State) (r : Req) (x : Session) (v : Nat),
    s.cfgGet 0x3084 0 = 1 ∨ s.cfgGet 0x3084 0 = 2 → incrementOk (v % 2 ^ 64) = true →
    ∃ t, s.liveAct x (.incrementWrite r v) = (t, 0, []) ∧
      t.tb = { s.tb with incr := BitVec.ofNat 64 v } ∧ Alters [.tb] s t) ∧
  (∀ (s : State) (w v : Nat), s.coreUp = true → s.cfgGet 0x3084 0 = 1 ∨ s.cfgGet 0x3084 0 = 2 →
    v = w % 2 ^ 32 * 2 ^ 32 + s.tb.incLo → incrementOk v = true →
    ∃ t, exec (.incrementHi w) s = .next t ∧ t.tb = { s.tb with incr := BitVec.ofNat 64 v, incRefused := false } ∧
      Alters [.tb] s t) ∧
  (∀ (s : State) (w : Nat), s.coreUp = true → s.cfgGet 0x3084 0 = 0 →
    ∃ t, exec (.incrementHi w) s = .next t ∧ t.tb = { s.tb with incRefused := true } ∧ Alters [.tb] s t)

/-- The time window (R414, R415, R429). -/
def Obligations.TimeWindowCommands : Prop :=
  (∀ s : State, s.coreUp = true →
    ∃ t, exec .timeShort s = .next t ∧ t.sy = { s.sy with miso := BitVec.ofNat 32 s.short } ∧
      t.tb = { s.tb with
        shNs := some s.tb.now.ns, shLo := some (s.tb.now.sec % 2 ^ 32), shHi := some (Stamp.secHi s.tb.now) } ∧
      Alters [.tb, .sy] s t) ∧
  (∀ (s : State) (n : Nat), s.coreUp = true → s.tb.shNs = some n →
    ∃ t, exec (.timeShadowRead 0) s = .next t ∧ t.sy = { s.sy with miso := BitVec.ofNat 32 n } ∧
      t.tb = { s.tb with shNs := none } ∧ Alters [.tb, .sy] s t) ∧
  (∀ s : State, s.coreUp = true → s.tb.shLo = none →
    ∃ t, exec (.timeShadowRead 1) s = .next t ∧
      t.sy = { s.sy with miso := BitVec.ofNat 32 (s.tb.now.sec % 2 ^ 32) } ∧ Alters [.tb, .sy] s t) ∧
  (∀ (s : State) (n : Nat), s.coreUp = true → s.tb.shHi = some n →
    ∃ t, exec (.timeShadowRead 2) s = .next t ∧ t.sy = { s.sy with miso := BitVec.ofNat 32 n } ∧
      t.tb = { s.tb with shHi := none } ∧ Alters [.tb, .sy] s t) ∧
  (∀ (s : State) (q : TxStamp) (rest : List TxStamp), s.coreUp = true → s.cfgGet 0x3084 0 = 2 →
    s.tb.tx1 = q :: rest →
    ∃ t, exec (.qentry 1) s = .next t ∧ t.tb = { s.tb with tx1 := rest, qstamp1 := q.stamp } ∧
      t.sy = { s.sy with miso := BitVec.ofNat 32 (2 ^ 31 + q.port % 4 * 65536 + q.ident) } ∧ Alters [.tb, .sy] s t) ∧
  (∀ s : State, s.coreUp = true → s.cfgGet 0x3084 0 = 2 → s.tb.tx2 = [] →
    ∃ t, exec (.qentry 2) s = .next t ∧ t.sy = { s.sy with miso := 0 } ∧ Alters [.sy] s t) ∧
  (∀ (s : State) (w : Nat), s.coreUp = true → s.cfgGet 0x3084 0 = 2 → bit w 8 = true →
    ∃ t, exec (.qstatus 1 w) s = .next t ∧ t.tb = { s.tb with txFlag1 := false } ∧ Alters [.tb] s t)

/-- The mailbox (R463 to R465). -/
def Obligations.MailboxCommands : Prop :=
  (∀ (s : State) (n : Nat), s.coreUp = true → n < 16 → (tabGet ({} : Slot) n s.sy.slots).module = false →
    (tabGet ({} : Slot) n s.sy.slots).bytes.getD 0 0 = 0 → s.sy.heldEvents = [] →
    ∃ t, exec (.mbPost (2 ^ n)) s = .next t ∧
      tabGet ({} : Slot) n t.sy.slots = { tabGet ({} : Slot) n s.sy.slots with module := true, receive := true } ∧
      (∀ k, k ≠ n → tabGet ({} : Slot) k t.sy.slots = tabGet ({} : Slot) k s.sy.slots) ∧
      t.sy = { s.sy with slots := t.sy.slots, receive := s.sy.receive ++ [n] } ∧ Alters [.sy] s t) ∧
  (∀ (s : State) (n : Nat) (b : Bytes), s.coreUp = true → n < 16 →
    (tabGet ({} : Slot) n s.sy.slots).module = false → (tabGet ({} : Slot) n s.sy.slots).bytes.getD 0 0 ≠ 0 →
    b = padBytes 2048 (tabGet ({} : Slot) n s.sy.slots).bytes → leNat ((b.drop 4).take 2) ≤ 2016 →
    b.getD 2 0 ∈ requestOpcodes →
    ∃ t, exec (.mbPost (2 ^ n)) s = .next t ∧ t.sy.queue = s.sy.queue ++ [n] ∧
      tabGet ({} : Slot) n t.sy.slots = { tabGet ({} : Slot) n s.sy.slots with module := true, receive := false } ∧
      (∀ k, k ≠ n → tabGet ({} : Slot) k t.sy.slots = tabGet ({} : Slot) k s.sy.slots) ∧ Alters [.sy] s t) ∧
  (∀ (s : State) (n : Nat), s.coreUp = true → n < 16 → (tabGet ({} : Slot) n s.sy.slots).module = true →
    ∃ t, exec (.mbPost (2 ^ n)) s = .next t ∧ t.sy.mailboxErrors = s.sy.mailboxErrors + 1 ∧
      t.fm = s.eventFm 0x0109 0xFFFF ∧ Moves [.sy, .fm] s t) ∧
  (∀ (s : State) (bits : Nat), s.coreUp = true →
    ∃ t, exec (.mbDone bits) s = .next t ∧
      (∀ n, n < 16 → bit t.sy.done n = (bit s.sy.done n && !bit bits n)) ∧
      t.sy = { s.sy with done := t.sy.done } ∧ Alters [.sy] s t) ∧
  (∀ s : State, s.coreUp = true →
    ∃ t, exec (.mbReset 0xA55A) s = .next t ∧ t.sy.queue = [] ∧ t.sy.receive = [] ∧
      (∀ n, n < 16 → (tabGet ({} : Slot) n s.sy.slots).module = true →
        (tabGet ({} : Slot) n s.sy.slots).bytes ≠ [] →
        tabGet ({} : Slot) n t.sy.slots = { tabGet ({} : Slot) n s.sy.slots with module := false, receive := false } ∧
        bit t.sy.done n = true) ∧
      (∀ x ∈ t.sy.live, x.slot = none) ∧ (∀ x ∈ t.sy.commits, x.slot = none) ∧ t.ld = { s.ld with slot := none } ∧
      t.ty = { s.ty with passed := s.ty.passed.map fun p => (p.1, none) } ∧ Alters [.sy, .ld, .ty] s t) ∧
  (∀ s : State, s.coreUp = true →
    ∃ t, exec (.mbAlert 4) s = .next t ∧ t.sy = { s.sy with rawAlert := false } ∧ Alters [.sy] s t) ∧
  (∀ (s : State) (n k w : Nat), s.coreUp = true → n < 16 → k < 512 →
    (tabGet ({} : Slot) n s.sy.slots).module = false →
    ∃ t, exec (.hostWindowWrite (0x8000 + 0x800 * n + 4 * k) w) s = .next t ∧
      (tabGet ({} : Slot) n t.sy.slots).bytes =
        writeBytes (tabGet ({} : Slot) n s.sy.slots).bytes (4 * k) (leBytes 4 w) ∧
      (∀ j, j ≠ n → tabGet ({} : Slot) j t.sy.slots = tabGet ({} : Slot) j s.sy.slots) ∧
      t.sy = { s.sy with slots := t.sy.slots } ∧ Alters [.sy] s t)

/-- Check engines (R495 to R499). -/
def Obligations.CheckEngineCommands : Prop :=
  (∀ (s : State) (k b : Nat) (e : Engine), s.hostEngine k = true → e = tabGet {} k s.ck → 3 ≤ e.width →
    e.width ≤ 64 →
    ∃ t, exec (.data8 k b) s = .next t ∧
      tabGet {} k t.ck =
        { e with running := crcRun e.width (e.cut e.poly) (bit e.ctrl 8) (e.cut e.running) [b % 256] } ∧
      (∀ j, j ≠ k → tabGet ({} : Engine) j t.ck = tabGet {} j s.ck) ∧ Alters [.ck] s t) ∧
  (∀ (s : State) (k w : Nat) (e : Engine), s.hostEngine k = true → e = tabGet {} k s.ck → 3 ≤ e.width →
    e.width ≤ 64 →
    ∃ t, exec (.data32 k w) s = .next t ∧
      tabGet {} k t.ck =
        { e with running := crcRun e.width (e.cut e.poly) (bit e.ctrl 8) (e.cut e.running) (leBytes 4 w) } ∧
      (∀ j, j ≠ k → tabGet ({} : Engine) j t.ck = tabGet {} j s.ck) ∧ Alters [.ck] s t) ∧
  (∀ (s : State) (k w : Nat) (e : Engine), s.hostEngine k = true →
    e = { tabGet ({} : Engine) k s.ck with ctrl := w % 128 + 256 * (w / 256 % 4) } →
    ∃ t, exec (.ceCtrlLoadInit k w) s = .next t ∧ tabGet {} k t.ck = { e with running := e.cut e.init } ∧
      (∀ j, j ≠ k → tabGet ({} : Engine) j t.ck = tabGet {} j s.ck) ∧ Alters [.ck] s t) ∧
  (∀ (s : State) (k off w : Nat) (e : Engine), s.hostEngine k = true → e = tabGet {} k s.ck →
    off ∈ [0x0C, 0x14, 0x1C, 0x24] →
    ∃ t, exec (.ceHighWordCommit k off w) s = .next t ∧
      tabGet {} k t.ck = { e with
        poly := if off = 0x0C then e.cut (w % 2 ^ 32 * 2 ^ 32 + e.lowPoly) else e.poly
        init := if off = 0x14 then e.cut (w % 2 ^ 32 * 2 ^ 32 + e.lowInit) else e.init
        xorout := if off = 0x1C then e.cut (w % 2 ^ 32 * 2 ^ 32 + e.lowXor) else e.xorout
        running := if off = 0x24 then e.cut (w % 2 ^ 32 * 2 ^ 32 + e.lowRun) else e.running } ∧
      (∀ j, j ≠ k → tabGet ({} : Engine) j t.ck = tabGet {} j s.ck) ∧ Alters [.ck] s t) ∧
  (∀ (s : State) (k : Nat) (e : Engine), s.hostEngine k = true → e = tabGet {} k s.ck →
    ∃ t, exec (.ceLowWordRead k 0x20) s = .next t ∧
      t.sy = { s.sy with miso := BitVec.ofNat 32 (e.cut e.running % 2 ^ 32) } ∧
      tabGet {} k t.ck = { e with shRun := some (e.cut e.running / 2 ^ 32) } ∧
      (∀ j, j ≠ k → tabGet ({} : Engine) j t.ck = tabGet {} j s.ck) ∧ Alters [.ck, .sy] s t) ∧
  (∀ (s : State) (k : Nat) (e : Engine), s.hostEngine k = true → e = tabGet {} k s.ck →
    ∃ t, exec (.ceLowWordRead k 0x28) s = .next t ∧
      t.sy = { s.sy with miso := BitVec.ofNat 32 (e.resultNow % 2 ^ 32) } ∧
      tabGet {} k t.ck = { e with shRes := some (e.resultNow / 2 ^ 32) } ∧
      (∀ j, j ≠ k → tabGet ({} : Engine) j t.ck = tabGet {} j s.ck) ∧ Alters [.ck, .sy] s t) ∧
  (∀ (s : State) (k v : Nat) (e : Engine), s.hostEngine k = true → e = tabGet {} k s.ck → e.shRun = some v →
    ∃ t, exec (.ceHighWordRead k 0x24) s = .next t ∧ t.sy = { s.sy with miso := BitVec.ofNat 32 v } ∧
      tabGet {} k t.ck = { e with shRun := none } ∧
      (∀ j, j ≠ k → tabGet ({} : Engine) j t.ck = tabGet {} j s.ck) ∧ Alters [.ck, .sy] s t) ∧
  (∀ (s : State) (k : Nat) (e : Engine), s.hostEngine k = true → e = tabGet {} k s.ck → e.shRes = none →
    ∃ t, exec (.ceHighWordRead k 0x2C) s = .next t ∧
      t.sy = { s.sy with miso := BitVec.ofNat 32 (e.resultNow / 2 ^ 32) } ∧ tabGet {} k t.ck = e ∧
      (∀ j, j ≠ k → tabGet ({} : Engine) j t.ck = tabGet {} j s.ck) ∧ Alters [.ck, .sy] s t) ∧
  (∀ (s : State) (k w : Nat) (e : Engine) (wide c : Nat), s.hostEngine k = true → e = tabGet {} k s.ck →
    wide = (if bit e.aliveCfg 0 then 8 else 4) → c = w / 2 ^ (e.aliveCfg / 256 % 32) % 2 ^ wide →
    ∃ t, exec (.alive k w) s = .next t ∧
      tabGet {} k t.ck = { e with
        last := some c, result := (aliveCheck e.last c wide (e.aliveCfg / 2 ^ 16 % 16)).1
        skipped := (aliveCheck e.last c wide (e.aliveCfg / 2 ^ 16 % 16)).2 } ∧
      (∀ j, j ≠ k → tabGet ({} : Engine) j t.ck = tabGet {} j s.ck) ∧ Alters [.ck] s t) ∧
  (∀ (s : State) (k w : Nat) (e : Engine), s.hostEngine k = true → e = tabGet {} k s.ck →
    ∃ t, exec (.aliveCfgForget k w) s = .next t ∧
      tabGet {} k t.ck = { e with
        aliveCfg := w % 2 + 256 * (w / 256 % 32) + 2 ^ 16 * (w / 2 ^ 16 % 16), last := none } ∧
      (∀ j, j ≠ k → tabGet ({} : Engine) j t.ck = tabGet {} j s.ck) ∧ Alters [.ck] s t) ∧
  (∀ (s : State) (r : Req) (x : Session) (k : Nat), k = 6 ∨ k = 7 →
    Accepted s r 0x11 (writePayload r 0x3380 (k - 5) 0 [1]) 8 operator x → x.source = .spi →
    (tabGet ({} : Engine) k s.ck).owner ≠ 1 →
    ∃ t, exec (.hostEngineClaim r k) s = .next t ∧ Waits s t r x (.hostEngineClaim r k) true false) ∧
  (∀ (s : State) (r : Req) (x : Session) (k : Nat), k = 6 ∨ k = 7 → x.source = .spi →
    (tabGet ({} : Engine) k s.ck).owner ≠ 1 →
    ∃ t, s.liveAct x (.hostEngineClaim r k) = (t, 0, []) ∧
      tabGet {} k t.ck = ({ owner := 1, claimant := x.num } : Engine) ∧
      (∀ j, j ≠ k → tabGet ({} : Engine) j t.ck = tabGet {} j s.ck) ∧ Alters [.ck] s t) ∧
  (∀ (s : State) (r : Req) (x : Session) (k : Nat), k = 6 ∨ k = 7 →
    Accepted s r 0x11 (writePayload r 0x3380 (k - 5) 0 [0]) 8 operator x → x.source = .spi →
    ∃ t, exec (.hostEngineRelease r k) s = .next t ∧ Waits s t r x (.hostEngineRelease r k) true false) ∧
  (∀ (s : State) (r : Req) (x : Session) (k : Nat), k = 6 ∨ k = 7 → x.source = .spi →
    ∃ t, s.liveAct x (.hostEngineRelease r k) = (t, 0, []) ∧ t.ck = tabPut {} k {} s.ck ∧ Alters [.ck] s t)

/-- Opening a session (R479 to R482, R485 to R488). -/
def Obligations.SessionOpenCommands : Prop :=
  (∀ (s : State) (r : Req), Plain s r [] 0 →
    ∃ t, exec (.hello r) s = .next t ∧ Answered t r 0x01 0 s.helloBytes ∧ Moves [] s t) ∧
  (∀ (s : State) (r : Req) (role options client version : Nat) (nc : Bytes),
    Plain s r ([role % 256, options % 256] ++ leBytes 2 client ++ [version % 256, r.reserved, 0, 0] ++ nc) 24 →
    nc.length = 16 → s.decides = true → client ≠ 0 → client ≠ 0xFFFF → 0x10 ≤ version →
    s.blocked (sourceKey r.source) = false → 1 ≤ role → role ≤ 6 → (s.keySlot role).key ≠ [] →
    s.contextFree role client = true → (s.ty.state = .member → r.longOk = true) →
    ∃ t nm, exec (.openRequest r role options client version nc) s = .next t ∧ nm.length = 16 ∧
      Answered t r 0x02 0 (padBytes 16 (s.keySlot role).salt ++ leBytes 4 100000 ++ nm ++ [0x10, 0, 0, 0]) ∧
      t.sy.opens = (if 32 ≤ s.sy.opens.length then s.sy.opens.drop 1 else s.sy.opens) ++
        [{ nc, source := sourceKey r.source, role, client, events := bit options 0, version := 0x10, nm }] ∧
      t.sy.sessions = s.sy.sessions ∧ Moves [.sy, .freeCount] s t) ∧
  (∀ (s : State) (r : Req) (nc proof : Bytes) (o : PendingOpen) (num : Nat), Plain s r (nc ++ proof) 48 →
    nc.length = 16 → s.decides = true → s.blocked (sourceKey r.source) = false →
    (s.sy.opens.find? fun o => o.nc == nc && o.source == sourceKey r.source) = some o →
    proof = proofC (s.keySlot o.role).key o → s.contextFree o.role o.client = true →
    (s.ty.state = .member → r.longOk = true) → (∀ x ∈ s.sy.sessions, x.client ≠ o.client) →
    s.freeSession = some num →
    ∃ t, exec (.proof r nc proof) s = .next t ∧ Answered t r 0x03 0 (s.proofBody o num) ∧
      t.session num = some (sessionOf (s.keySlot o.role).key o num r r.source s.tb.now) ∧
      (∀ n, n ≠ num → t.session n = s.session n) ∧ t.sy.opens = s.sy.opens.filter (· != o) ∧
      Moves [.sy] s t) ∧
  (∀ (s : State) (r : Req) (nc proof : Bytes) (o : PendingOpen), Plain s r (nc ++ proof) 48 →
    nc.length = 16 → s.decides = true → s.blocked (sourceKey r.source) = false →
    (s.sy.opens.find? fun o => o.nc == nc && o.source == sourceKey r.source) = some o →
    proof ≠ proofC (s.keySlot o.role).key o →
    ∃ t, exec (.proof r nc proof) s = .next t ∧ Answered t r 0x03 0x04 [] ∧
      t.sy.authFailures = s.sy.authFailures + 1 ∧ t.sy.opens = s.sy.opens ∧
      (∀ n, (s.session n).isNone = true → (t.session n).isNone = true) ∧ Moves [.sy, .fm] s t) ∧
  (∀ s : State, ∃ t, exec .pendingOpenExpiry s = .next t ∧ t.sy = { s.sy with opens := s.sy.opens.drop 1 } ∧
      Alters [.sy] s t) ∧
  (∀ (s : State) (source : Option Source), ∃ t, exec (.lockoutExpiry source) s = .next t ∧
      (∀ l ∈ t.sy.lockouts, l.source = source → l.blocked = false) ∧
      (∀ l ∈ s.sy.lockouts, l.source ≠ source → l.tracked = true ∨ l.blocked = true → l ∈ t.sy.lockouts) ∧
      t.sy = { s.sy with lockouts := t.sy.lockouts } ∧ Alters [.sy] s t)

/-- Requests in a session (R477, R484, R488, R490, R499, R504 to R506, R523). What READ sees is a state that differs by
the traffic of the request alone. -/
def Obligations.SessionCommands : Prop :=
  (∀ (s : State) (r : Req) (x : Session), Accepted s r 0x05 [] 0 anyRole x →
    ∃ t y, exec (.keepalive r) s = .next t ∧ Answered t r 0x05 0 (leBytes 2 (s.cfgGet 0x2180 1)) ∧
      t.session r.session = some y ∧ y.high = r.seq ∧ y.idleFrom = s.tb.now ∧ y.role = x.role ∧ Moves [] s t) ∧
  (∀ (s : State) (r : Req) (x : Session), Accepted s r 0x04 [] 0 anyRole x →
    (∀ k ∈ [6, 7], (tabGet ({} : Engine) k s.ck).owner ≠ 1 ∨ (tabGet ({} : Engine) k s.ck).claimant ≠ r.session) →
    s.ld.loadSession ≠ r.session →
    ∃ t, exec (.closeRequest r) s = .next t ∧ Answered t r 0x04 0 [] ∧ t.session r.session = none ∧
      (∀ n, n ≠ r.session → t.session n = s.session n) ∧ Moves [.sy] s t) ∧
  (∀ (s : State) (num : Nat) (x : Session), s.session num = some x → s.ld.loadSession ≠ num →
    ∃ t, exec (.sessionIdleTimeout num) s = .next t ∧ t.session num = none ∧
      t.ck = [6, 7].foldl (fun c k =>
        if (tabGet ({} : Engine) k c).owner = 1 ∧ (tabGet ({} : Engine) k c).claimant = num then tabPut {} k {} c else c)
        s.ck ∧
      t.sy.commits = keepCommits x s.sy.commits ∧ Moves [.sy, .ck, .fm] s t) ∧
  (∀ (s : State) (r : Req) (x : Session) (index sub offset length : Nat),
    Accepted s r 0x10 (leBytes 2 index ++ [sub, r.reserved] ++ leBytes 4 offset ++ leBytes 2 length) 10 anyRole x →
    ∃ t u, exec (.read r index sub offset length) s = .next t ∧ Moves [] s u ∧
      (if (u.readPart index sub offset length).2.1 = 0 then Waits s t r x (.read r index sub offset length) true true
      else Answered t r 0x10 (u.readPart index sub offset length).2.1 [] ∧ Moves [] s t)) ∧
  (∀ (s : State) (r : Req) (x : Session) (index sub offset length : Nat) (b : Bytes), s.readObj index sub = some b →
    length ≤ 2012 → offset + length ≤ b.length →
    ∃ t, s.liveAct x (.read r index sub offset length) = (t, 0, leBytes 4 b.length ++
      (b.drop offset).take (if length = 0 then min 2012 (b.length - offset) else length)) ∧ Alters [.ca] s t) ∧
  (∀ (s : State) (r : Req) (x : Session) (items : List (Nat × Nat)),
    Accepted s r 0x12 ([items.length, r.reserved] ++ items.flatMap fun i => leBytes 2 i.1 ++ [i.2, 0])
      (2 + 4 * items.length) anyRole x → 1 ≤ items.length → items.length ≤ 64 →
    ∃ t u, exec (.readList r items.length items) s = .next t ∧ Moves [] s u ∧
      (if 2016 < (items.flatMap u.listItem).length then Answered t r 0x12 0x11 [] ∧ Moves [] s t
      else Waits s t r x (.readList r items.length items) true true)) ∧
  (∀ (s : State) (r : Req) (x : Session) (items : List (Nat × Nat)), 1 ≤ items.length → items.length ≤ 64 →
    (items.flatMap s.listItem).length ≤ 2016 →
    ∃ t, s.liveAct x (.readList r items.length items) = (t, 0, items.flatMap s.listItem) ∧ Alters [.ca] s t) ∧
  (∀ (s : State) (r : Req) (x : Session) (first count : Nat),
    Accepted s r 0x20 (leBytes 4 first ++ leBytes 2 count) 6 anyRole x →
    ∃ t, exec (.logRead r first count) s = .next t ∧
      Answered t r 0x20 0 ((s.logPart first count).flatMap logBytes) ∧ Moves [] s t) ∧
  (∀ (s : State) (r : Req) (x : Session) (ts : Stamp), Accepted s r 0x40 (stampBytes ts) 12 announcer x →
    bit (s.cfgGet 0x2885 2) 1 = true → (s.requestStep ts).2 = true →
    ∃ t, exec (.stepAnnounce r ts) s = .next t ∧ Answered t r 0x40 0 [] ∧ t.cl = (s.requestStep ts).1.cl ∧
      Moves [.cl] s t) ∧
  (∀ (s : State) (r : Req) (x : Session) (port bin : Nat) (frame : Bytes), port = 1 ∨ port = 2 →
    Accepted s r 0x50 ([port % 256, r.reserved, 0, 0] ++ frame) 18 operator x → frame.length ≤ 1518 →
    x.source = .spi → s.cfgGet 0x3084 0 = 2 → s.sy.rawSession = 0 ∨ s.sy.rawSession = x.num →
    ptpStart frame = none →
    ∃ t, exec (.rawSend r port frame bin) s = .next t ∧ Answered t r 0x50 0 [] ∧ .rawFrame port frame ∈ t.out ∧
      t.sy.rawSession = x.num ∧ Moves [.sy] s t) ∧
  (∀ (s : State) (r : Req) (x : Session) (slot : Nat) (salt wrapped : Bytes),
    Accepted s r 0x70 ([slot % 256, r.reserved, 0, 0] ++ salt ++ wrapped) 52 commissioning x → 1 ≤ slot → slot ≤ 7 →
    slot ≠ 6 → salt.length = 16 → wrapped.length = 32 → (s.ty.state = .member → r.longOk = true) →
    ∃ t, exec (.keySet r slot salt wrapped) s = .next t ∧ Answered t r 0x70 0 [] ∧
      t.keySlot slot = { salt, key := unwrapKey x.prk r.seq wrapped } ∧
      (∀ n, n ≠ slot → t.keySlot n = s.keySlot n) ∧ Moves [.sy, .nv] s t) ∧
  (∀ (s : State) (r : Req) (x : Session) (salt wrapped : Bytes),
    Accepted s r 0x70 ([6, r.reserved, 0, 0] ++ salt ++ wrapped) 52 commissioning x → salt.length = 16 →
    wrapped.length = 32 → (s.ty.state = .member → r.longOk = true) → s.ld.loadSession ≠ r.session →
    ∃ t, exec (.keySet r 6 salt wrapped) s = .next t ∧ t.session r.session = none ∧
      Moves [.sy, .nv, .ck, .fm] s t)

/-- Telemetry received (R231, R406, R493, R494, R519). -/
def Obligations.TelemetryCommands : Prop :=
  (∀ (s : State) (m : TelemetryMsg), s.coreUp = true →
    m.group ≠ s.cfgGet 0x2182 1 ∨ m.mac ≠ s.telemetryMac
      (headerBytes 0x10 m.flags 0x30 0 m.payload.length 0 0 m.pairSeq ++ m.payload) →
    exec (.telemetry m) s = .next (s.frameIn m.port)) ∧
  (∀ (s : State) (m : TelemetryMsg) (v : Receiver), s.coreUp = true → s.cfgGet 0x3180 1 ≠ 0 →
    m.group = s.cfgGet 0x2182 1 → bit m.flags 4 = true → bit m.flags 1 = false →
    m.mac = s.telemetryMac (headerBytes 0x10 m.flags 0x30 0 m.payload.length 0 0 m.pairSeq ++ m.payload) →
    (s.ty.receivers.find? fun v => v.node == leNat ((m.payload.drop 2).take 2) && v.origin == m.pairSeq / 2 ^ 30 % 4) =
      some v → v.take (m.pairSeq % 2 ^ 30) = none →
    exec (.telemetry m) s = .next (s.frameIn m.port)) ∧
  (∀ (s : State) (m : TelemetryMsg), s.coreUp = true → s.cfgGet 0x3180 1 ≠ 0 →
    m.group = s.cfgGet 0x2182 1 → bit m.flags 4 = true → bit m.flags 1 = false → m.payload.headD 0 = 2 →
    m.mac = s.telemetryMac (headerBytes 0x10 m.flags 0x30 0 m.payload.length 0 0 m.pairSeq ++ m.payload) →
    (s.ty.receivers.find? fun v => v.node == leNat ((m.payload.drop 2).take 2) && v.origin == m.pairSeq / 2 ^ 30 % 4) =
      none →
    ∃ t, exec (.telemetry m) s = .next t ∧
      t.ty = { s.ty with receivers := s.ty.receivers ++ [{
        node := leNat ((m.payload.drop 2).take 2), origin := m.pairSeq / 2 ^ 30 % 4, high := m.pairSeq % 2 ^ 30
        seen := 1 }] } ∧
      Moves [.ty] s t) ∧
  (∀ (s : State) (m : TelemetryMsg), s.coreUp = true → s.cfgGet 0x3180 1 ≠ 0 →
    m.group = s.cfgGet 0x2182 1 → bit m.flags 4 = true → bit m.flags 1 = true → m.payload.headD 0 = 1 →
    m.mac = s.telemetryMac (headerBytes 0x10 m.flags 0x30 0 m.payload.length 0 0 m.pairSeq ++ m.payload) →
    (tokenOf m.payload).2.sender = s.id.nodeId →
    ∃ t, exec (.telemetry m) s = .next t ∧ t.en.conflicts = s.en.conflicts + 1 ∧ t.fm = s.eventFm 0x1104 m.port ∧
      Moves [.en, .fm] s t) ∧
  (∀ (s : State) (m : TelemetryMsg), s.coreUp = true → s.cfgGet 0x3180 1 ≠ 0 →
    m.group = s.cfgGet 0x2182 1 → bit m.flags 4 = true → bit m.flags 1 = true → m.payload.headD 0 = 3 →
    m.mac = s.telemetryMac (headerBytes 0x10 m.flags 0x30 0 m.payload.length 0 0 m.pairSeq ++ m.payload) →
    bit (s.cfgGet 0x2885 2) 1 = true →
    ∃ t, exec (.telemetry m) s = .next t ∧ t.cl = (s.requestStep (stampOf ((m.payload.drop 4).take 12))).1.cl ∧
      Moves [.cl, .fm] s t)

/-- The loader (R536 to R540). -/
def Obligations.LoaderCommands : Prop :=
  (∀ (s : State) (r : Req) (x : Session) (total k : Nat) (header : Bytes),
    Accepted s r 0x60 (leBytes 4 total ++ header) 1092 engineer x → k = s.headerReason header total →
    s.loadCondition r = 0 → ¬(s.ld.state = 0 ∧ s.os.gate = true ∧ s.twinHealthy = true) →
    tabWf {} s.os.coils = true →
    ∃ t, exec (.loadBegin r total header) s = .next t ∧
      Answered t r 0x60 (if k = 0 then 0 else 0x0A) (leBytes 4 k ++ leBytes 4 4096) ∧
      (k ≠ 0 → t.ld = { s.ld with refusal := k } ∧ t.fm = s.eventFm 0x1407 k ∧ Moves [.ld, .fm] s t) ∧
      (k = 0 → t.ld = { s.ld with
          header, total, state := 2, next := 4096, refusal := 0, loadSession := r.session, bytes := [], chunk := []
          skeinValid := false, req := none, slot := none } ∧
        CoilsOff t ∧ t.os.uvr = false ∧ t.os.gate = false ∧ t.ty.paired = false ∧
        (∀ n, n ≠ r.session → t.session n = none) ∧
        Moves [.fm, .pm, .pc, .de, .os, .ty, .sy, .ck, .nv, .ld] s t)) ∧
  (∀ (s : State) (r : Req) (x : Session) (total : Nat) (header : Bytes),
    Accepted s r 0x60 (leBytes 4 total ++ header) 1092 engineer x → s.loadCondition r = 0 →
    s.ld.state = 0 → s.os.gate = true → s.twinHealthy = true →
    ∃ t, exec (.loadBegin r total header) s = .next t ∧
      (s.headerReason header total = 0 → t.ld.state = 1 ∧ t.ld.req = some r ∧ t.ty.yielding = 1 ∧ t.pm.softDue = 3 ∧
        t.out = s.out) ∧ Moves [.ld, .ty, .pm, .fm] s t) ∧
  (∀ (s : State) (r : Req) (x : Session) (offset : Nat) (chunk : Bytes),
    Accepted s r 0x61 (leBytes 4 offset ++ chunk) 5 engineer x → chunk.length ≤ 2008 → s.ld.state = 2 →
    s.ld.loadSession = r.session → s.ld.req = none → offset = s.ld.next → offset + chunk.length ≤ s.ld.total →
    ∃ t, exec (.loadData r offset chunk) s = .next t ∧
      t.ld = { s.ld with
        chunk, begun := s.nvOpen && !chunk.isEmpty, req := some r
        slot := if r.source = .spi then s.sy.queue.head? else none } ∧
      t.out = s.out ∧ Moves [.ld] s t) ∧
  (∀ (s : State) (r : Req) (x : Session), s.ld.req = some r → s.ld.state = 2 → s.ld.begun = true → s.session r.session = some x →
    r.source ≠ .spi ∨ s.ld.slot ≠ none →
    ∃ t, exec (.loadDataProgrammed true) s = .next t ∧
      t.ld = { s.ld with
        next := s.ld.next + s.ld.chunk.length, bytes := s.ld.bytes ++ s.ld.chunk, chunk := [], begun := false
        req := none, slot := none } ∧
      Answered t r 0x61 0 (leBytes 4 (s.ld.next + s.ld.chunk.length)) ∧ Moves [.ld] s t) ∧
  (∀ (s : State) (r : Req), s.ld.req = some r → s.ld.state = 2 → s.ld.begun = true →
    ∃ t, exec (.loadDataProgrammed false) s = .next t ∧
      t.ld = { s.ld with
        flashFails := s.ld.flashFails + 1, state := 5, skeinValid := false, loadSession := 0, chunk := [], req := none
        slot := none } ∧
      t.fm = s.eventFm 0x1405 0xFFFF ∧ Moves [.ld, .fm] s t) ∧
  (∀ (s : State) (r : Req) (x : Session), Accepted s r 0x62 [] 0 engineer x → s.ld.state = 2 →
    s.ld.loadSession = r.session → s.ld.next = s.ld.total → s.ld.req = none →
    ∃ t, exec (.loadEnd r) s = .next t ∧
      (sectionsGood s.ld.header s.ld.bytes = true → Cleared t ∧ t.pm.resetKind = 5 ∧
        t.pm.state = (if s.pm.onStore then .powerFail else .castOn) ∧
        t.ld.skeinValid = true ∧ t.ld.newSkein = true ∧ t.id.firmware = fieldAt s.ld.header 16 4 ∧
        Answered t r 0x62 0 (skeinDigest s.ld.header s.ld.bytes)) ∧
      (sectionsGood s.ld.header s.ld.bytes = false → Answered t r 0x62 0x0A [] ∧ t.ld.state = 5 ∧
        t.ld.refusal = 11 ∧ t.ld.skeinValid = false ∧ t.fm = s.eventFm 0x1407 11 ∧ Moves [.ld, .fm] s t)) ∧
  (∀ s : State, s.ld.state = 2 →
    ∃ t, exec .loadIdleTimeout s = .next t ∧
      t.ld = { s.ld with state := 5, skeinValid := false, loadSession := 0, chunk := [], req := none, slot := none } ∧
      Alters [.ld] s t)

/-- ROM recovery (R523, R538, R539, R541, R542). -/
def Obligations.RecoveryCommands : Prop :=
  (∀ s : State, s.ld.recovery = true → s.ld.probed = false →
    ∃ t, exec .recoveryIdentSend s = .next t ∧
      t.out = s.out ++ [.recovery 0x81 s.recoveryIdent (recoveryBytes 0x81 s.freeNat s.recoveryIdent)] ∧
      Alters [.out, .freeCount] s t) ∧
  (∀ (s : State) (seq : Nat), s.ld.recovery = true → s.ld.recSeq ≠ some seq →
    ∃ t, exec (.probe seq) s = .next t ∧ t.out = s.out ++ [.recovery 0x81 s.recoveryIdent (recoveryBytes 0x81 seq s.recoveryIdent)] ∧
      t.ld = { s.ld with probed := true, recSeq := some seq, recCached := 0x81 :: s.recoveryIdent } ∧
      Alters [.ld, .out] s t) ∧
  (∀ (s : State) (seq kind : Nat) (b : Bytes), s.ld.recovery = true → s.ld.recSeq = some seq →
    s.ld.recCached = kind :: b →
    ∃ t, exec (.probe seq) s = .next t ∧ t.out = s.out ++ [.recovery kind b (recoveryBytes kind seq b)] ∧ Alters [.out] s t) ∧
  (∀ (s : State) (seq k : Nat) (payload b : Bytes), s.ld.recovery = true → s.ld.recoveryReason ≠ 3 →
    b = [if k = 0 then 0 else 0x0A, k] ++ leBytes 4 4096 →
    s.ld.recSeq ≠ some seq → payload.length = 1092 → k = s.headerReason (payload.drop 4) (fieldAt payload 0 4) →
    ∃ t, exec (.recoveryBegin seq payload) s = .next t ∧
      t.out = s.out ++ [.recovery 0x82 b (recoveryBytes 0x82 seq b)] ∧
      (k = 0 → t.ld.recBegun = true ∧ t.ld.header = payload.drop 4 ∧ t.ld.total = fieldAt payload 0 4 ∧
        t.ld.next = 4096 ∧ t.ld.bytes = [] ∧ t.ld.skeinValid = false) ∧
      (k ≠ 0 → t.ld = { s.ld with recSeq := some seq, recCached := 0x82 :: b }) ∧
      Alters [.ld, .out] s t) ∧
  (∀ (s : State) (seq : Nat) (b p : Bytes), s.ld.recovery = true → s.ld.recoveryReason ≠ 3 → s.ld.recSeq ≠ some seq →
    s.ld.recBegun = true → 1 ≤ b.length → b.length ≤ 1024 → s.ld.next + b.length ≤ s.ld.total →
    s.ld.total < 2 ^ 32 → p = 0 :: leBytes 4 (s.ld.next + b.length) →
    ∃ t, exec (.recoveryData seq (leBytes 4 s.ld.next ++ b) true) s = .next t ∧
      t.ld.next = s.ld.next + b.length ∧ t.ld.bytes = s.ld.bytes ++ b ∧ t.ld.recBegun = true ∧
      t.out = s.out ++ [.recovery 0x83 p (recoveryBytes 0x83 seq p)] ∧ Alters [.ld, .out] s t) ∧
  (∀ (s : State) (seq : Nat) (good bad : Bytes), s.ld.recovery = true → s.ld.recoveryReason ≠ 3 →
    s.ld.recSeq ≠ some seq → s.ld.recBegun = true → s.ld.next = s.ld.total →
    good = [0, 0] ++ padBytes 32 (skeinDigest s.ld.header s.ld.bytes) → bad = [0x0A, 11] ++ List.replicate 32 0 →
    ∃ t, exec (.recoveryEnd seq) s = .next t ∧ t.ld.recBegun = false ∧
      (sectionsGood s.ld.header s.ld.bytes = true → t.ld.skeinValid = true ∧ t.ld.newSkein = true ∧
        t.out = s.out ++ [.recovery 0x84 good (recoveryBytes 0x84 seq good)]) ∧
      (sectionsGood s.ld.header s.ld.bytes = false → t.ld.skeinValid = s.ld.skeinValid ∧ t.id = s.id ∧
        t.out = s.out ++ [.recovery 0x84 bad (recoveryBytes 0x84 seq bad)]) ∧
      Alters [.ld, .id, .out] s t) ∧
  (∀ (s : State) (seq : Nat) (low : Bool), s.ld.recovery = true → s.ld.recoveryReason ≠ 3 → s.ld.recSeq ≠ some seq →
    s.ld.skeinValid = true → s.ld.antiRollback ≤ s.ld.skeinSecurity → ¬(s.ld.recoveryReason = 1 ∧ low = true) →
    ∃ t, exec (.boot seq low) s = .next t ∧ t.out = s.out ++ [.recovery 0x85 [0] (recoveryBytes 0x85 seq [0])] ∧ Cleared t ∧
      t.pm.resetKind = 5 ∧ t.pm.state = (if s.pm.onStore then .powerFail else .castOn)) ∧
  (∀ (s : State) (seq first n : Nat) (b : Bytes), s.ld.recovery = true → s.ld.recSeq ≠ some seq → first < 2 ^ 32 → 1 ≤ n →
    n ≤ 31 → b = (s.logPart first n).flatMap logBytes →
    ∃ t, exec (.recoveryLog seq (leBytes 4 first ++ [n])) s = .next t ∧
      t.out = s.out ++ [.recovery 0x86 b (recoveryBytes 0x86 seq b)] ∧ Alters [.ld, .out] s t)

/-- Settings (R507 to R512, R300). -/
def Obligations.SettingsCommands : Prop :=
  (∀ (s : State) (r : Req) (x : Session) (o : Obj) (index sub : Nat) (v : Bytes) (next : List (Nat × Nat × Bytes)),
    Accepted s r 0x11 (writePayload r index sub 0 v) 8 (writeRole index sub) x → v.length ≤ 8 →
    s.ownRow r index sub v = none → modelLength index = none → findObj index sub = some o → o.access = .staged →
    v.length = o.bytes → valueOk s.id.variant o sub (leNat v) = true →
    next = stage x.shadow (objKey o.index sub) (leBytes o.bytes (s.valueTaken o.index sub (leNat v))) →
    shadowSize next ≤ 4096 →
    ∃ t y, exec (.write r index sub 0 v) s = .next t ∧ Answered t r 0x11 0 [] ∧ t.session r.session = some y ∧
      y.shadow = next ∧ Moves [] s t) ∧
  (∀ (s : State) (r : Req) (x : Session) (o : Obj) (index sub : Nat) (v : Bytes),
    Accepted s r 0x11 (writePayload r index sub 0 v) 8 (writeRole index sub) x → v.length ≤ 8 →
    s.ownRow r index sub v = none → modelLength index = none → findObj index sub = some o → o.access = .stop →
    v.length = o.bytes → valueOk s.id.variant o sub (leNat v) = true → s.stopped o.index sub = true →
    s.stopStatus o sub (leNat v) = 0 → o.effect ≠ .row → sharedCount s.nv.held ≤ 20 →
    ∃ t, exec (.write r index sub 0 v) s = .next t ∧ Answered t r 0x11 0 [] ∧
      t.stopWait = waitPut s.stopWait (objKey o.index sub) (leNat v) ∧ Moves [.stopWait, .nv] s t) ∧
  (∀ (s : State) (r : Req) (x : Session), Accepted s r 0x13 [] 0 operator x →
    ∃ t, exec (.commit r) s = .next t ∧
      t.sy.commits = s.sy.commits ++ [{
        slot := if r.source = .spi then s.sy.queue.head? else none, req := r, session := r.session
        pattern := s.ns / 10000000, seq := r.seq }] ∧
      t.out = s.out ∧ Moves [.sy] s t) ∧
  (∀ (s u : State) (c : Commit) (rest : List Commit) (x : Session), s.sy.commits = c :: rest → c.closed = false →
    s.session c.session = some x → c.req.source ≠ .spi ∨ c.slot ≠ none →
    u = (if c.pattern < s.ns / 10000000 then s else s.runTo ((s.ns / 10000000 + 1) * 10000000)).modSy
      (fun y => { y with commits := rest }) →
    (u.putWrites x.shadow).rulesStatus ((x.shadow.map fun w => w.1 / 256).eraseDups) = 0 →
    sharedCount s.nv.held + x.shadow.length ≤ 21 →
    ∃ t y, exec .commitApply s = .next t ∧ t.cfg = (s.putWrites x.shadow).cfg ∧ t.sy.commits = rest ∧
      t.session c.session = some y ∧ y.shadow = [] ∧ Answered t c.req 0x13 0 (leBytes 4 u.patNo) ∧
      Moves [.tb, .cfg, .sy, .nv, .lg, .ca, .cn, .fm] s t) ∧
  (∀ (s : State) (r : Req) (x : Session), Accepted s r 0x14 [] 0 operator x →
    ∃ t y, exec (.discard r) s = .next t ∧ Answered t r 0x14 0 [] ∧ t.session r.session = some y ∧ y.shadow = [] ∧
      Moves [] s t)

/-- Claim words and hand-over (R389, R390, R394, R402, R407). -/
def Obligations.ClaimCommands : Prop :=
  (∀ (s : State) (word row : Nat), s.deaf = false → row = s.rowCount % 256 → word / 4096 ≤ 4 →
    ∃ t, exec (.claimFrame word row true) s = .next t ∧ t.ty = { s.ty with claimRx := some word } ∧ Alters [.ty] s t) ∧
  (∀ (s : State) (word row : Nat), exec (.claimFrame word row false) s = .next s) ∧
  (∀ (s : State) (r : Req) (x : Session), Accepted s r 0x11 (writePayload r 0x2F81 0 0 [1]) 8 operator x →
    s.os.gate = true → s.twinHealthy = true →
    ∃ t, exec (.handOverRequest r 1) s = .next t ∧ Waits s t r x (.handOverRequest r 1) true false) ∧
  (∀ (s : State) (r : Req) (x : Session), s.os.gate = true → s.twinHealthy = true →
    ∃ t, s.liveAct x (.handOverRequest r 1) = (t, 0, []) ∧ t.ty = { s.ty with yielding := 1 } ∧ Alters [.ty] s t) ∧
  (∀ (s : State) (r : Req) (x : Session), Accepted s r 0x11 (writePayload r 0x2F81 0 0 [1]) 8 operator x →
    s.os.gate = false ∨ s.twinHealthy = false →
    ∃ t, exec (.handOverRequest r 1) s = .next t ∧ Answered t r 0x11 0x0B [] ∧ Moves [] s t) ∧
  (∀ s : State, s.ty.yielding ≠ 0 → s.ty.wordTwin / 4096 ≠ 4 → s.pm.softDue = 0 →
    ∃ t, exec .yieldTimeout s = .next t ∧ t.ty = { s.ty with yielding := 0 } ∧ Alters [.ty] s t) ∧
  (∀ (s : State) (r : Req) (x : Session), Accepted s r 0x11 (writePayload r 0x2F82 0 0 [1]) 8 operator x →
    s.ty.state = .observer →
    ∃ t, exec (.rejoinRequest r 1) s = .next t ∧ Waits s t r x (.rejoinRequest r 1) true false) ∧
  (∀ (s : State) (r : Req) (x : Session),
    s.ty.state = .observer → 2 ≤ s.ty.version → s.ty.hello.map (·.stepNo) = some s.id.stepNo →
    ∃ t, s.liveAct x (.rejoinRequest r 1) = (t, 0, []) ∧
      t.ty = { s.ty with
        state := .joining, joinState := 1, joinRetry := false, joinFails := 0, joinStamps := [] } ∧
      t.out = s.out ++ [s.frameOf (.join 1 0)] ∧ Alters [.ty, .out] s t)

/-- Pairing (R366, R368 to R374). -/
def Obligations.PairingCommands : Prop :=
  (∀ s : State, s.deaf = false → s.ty.paired = false → 6 ≤ s.pm.step →
    ∃ t, exec .helloSend s = .next t ∧ t.out = s.out ++ [s.frameOf (.hello s.ownHello)] ∧ Alters [.out] s t) ∧
  (∀ (s : State) (h : Hello), s.deaf = false → 6 ≤ s.pm.step → s.ty.state ≠ .refused →
    (h.side == 1) = s.ty.sideB →
    ∃ t, exec (.twinHello h) s = .next t ∧
      t.ty.state = .refused ∧ t.ty.refusal = 1 ∧ t.ty.paired = false ∧ t.ty.hello = some h ∧
      t.fm = s.condFm 0x0F02 0xFFFF ∧ Moves [.ty, .fm] s t) ∧
  (∀ (s : State) (h : Hello), s.deaf = false → 6 ≤ s.pm.step → s.ty.state ≠ .refused →
    (h.side == 1) = !s.ty.sideB → h.variant = s.id.variant → h.device = 0x8100 → s.ty.paired = false →
    bit h.flags 0 = false →
    ∃ t, exec (.twinHello h) s = .next t ∧ t.ty = { s.ty with hello := some h } ∧ Alters [.ty] s t) ∧
  (∀ (s : State) (h : Hello), s.deaf = false → 6 ≤ s.pm.step → s.ty.state = .pairing → s.ty.paired = false →
    s.ty.sideB = true → h.side = 0 → h.variant = s.id.variant → h.device = 0x8100 → 2 ≤ h.tyHigh →
    bit h.flags 0 = true → bit h.flags 2 = false → bit h.flags 3 = true → s.si.setConfirmed = true →
    h.setCheck = s.si.checkConfirmed → h.stepNo = s.id.stepNo →
    ∃ (t : State) (m : Hello), exec (.twinHello h) s = .next t ∧ t.out = s.out ++ [s.frameOf (.hello m)] ∧ bit m.flags 0 = true ∧
      t.ty = { s.ty with
        hello := some h, paired := true, version := 2, pairNode := h.node, refusal := 0, segments := []
        absentRun := 0, split := false } ∧
      Moves [.ty, .nv] s t) ∧
  (∀ (s : State) (h : Hello), s.deaf = false → 6 ≤ s.pm.step → s.ty.state = .pairing → s.ty.paired = false →
    s.ty.sideB = false → h.side = 1 → h.variant = s.id.variant → h.device = 0x8100 → 2 ≤ h.tyHigh →
    bit h.flags 0 = true → bit h.flags 2 = false → bit h.flags 3 = true → s.si.setConfirmed = true →
    h.setCheck = s.si.checkConfirmed → h.stepNo = s.id.stepNo →
    ∃ (t : State) (m : Hello) (src seq : Nat), exec (.twinHello h) s = .next t ∧
      t.out = s.out ++ [s.frameOf (.hello m), s.frameOf (.lock s.patternAhead src seq)] ∧ t.ty.state = .pairing ∧
      t.ty.paired = true ∧ t.ty.lockPl = some (BitVec.ofNat 32 s.patternAhead) ∧ t.ty.lockSource = src ∧
      t.ty.lockSeq = seq ∧ seq < 2 ^ 30 ∧ Moves [.ty, .nv] s t) ∧
  (∀ s : State, s.pm.state = .castOn → 6 ≤ s.pm.step → s.pm.step7Done = false → s.ty.hello = none →
    s.ty.state = .pairing → s.cfgGet 0x2F80 1 = 1 →
    ∃ t, exec .pairWaitExpiry s = .next t ∧ t.ty.state = .solo ∧ t.pm = { s.pm with step7Done := true } ∧
      t.fm = s.condFm 0x0F01 0xFFFF ∧ Moves [.ty, .pm, .fm] s t) ∧
  (∀ (s : State) (pl source seq : Nat), s.deaf = false → s.ty.paired = true → s.ty.state = .pairing →
    s.ty.sideB = true → s.ty.lockPl = none → source = 1 →
    ∃ t, exec (.lockFrame pl source seq) s = .next t ∧ t.out = s.out ++ [s.frameOf (.lock pl source seq)] ∧
      t.ty = { s.ty with
        lockPl := some (BitVec.ofNat 32 pl), lockSource := 1, lockSeq := seq % 2 ^ 30, transferDue := true } ∧
      Alters [.ty, .out] s t) ∧
  (∀ (s : State) (pl seq : Nat), s.deaf = false → s.ty.paired = true → s.ty.state = .pairing →
    s.ty.sideB = false → s.ty.lockPl = some (BitVec.ofNat 32 pl) →
    ∃ t, exec (.lockFrame pl 2 seq) s = .next t ∧
      t.ty = { s.ty with
        transferDue := true, longDue := s.ty.longDue ++ [.command (.keyStore s.wrappedStore)] } ∧
      Alters [.ty] s t) ∧
  (∀ (s : State) (reason : Nat), s.deaf = false → s.ty.paired = true → 1 ≤ reason → reason ≤ 4 →
    s.ty.state ≠ .pairing → s.ty.state ≠ .refused →
    ∃ t, exec (.bye reason) s = .next t ∧ t.ty.state = .solo ∧ t.ty.paired = false ∧ t.ty.hello = none ∧
      t.ty.rowIn = none ∧ t.pm = { s.pm with step7Done := true } ∧ Alters [.ty, .pm] s t)

/-- Twin Yarn's frames (R368, R377 to R380, R383) and joins (R401, R402). -/
def Obligations.TwinDataCommands : Prop :=
  (∀ (s : State) (m : RowInput), s.deaf = false → m.row = s.rowCount →
    ∃ t, exec (.rowInput m) s = .next t ∧ t.ty = { s.ty with rowIn := some m } ∧ Alters [.ty] s t) ∧
  (∀ (s : State) (crcs : List Nat), s.deaf = false →
    ∃ t, exec (.cellIndex crcs) s = .next t ∧ t.ty = { s.ty with cellIdx := some crcs } ∧ Alters [.ty] s t) ∧
  (∀ (s : State) (m : DigestMsg), s.deaf = false → m.row = s.rowCount →
    ∃ t, exec (.digest m) s = .next t ∧ t.ty = { s.ty with digestRx := some m } ∧ Alters [.ty] s t) ∧
  (∀ (s : State) (kind total bytes : Nat) (item : PatternItem), s.deaf = false → s.ty.paired = true →
    kind = itemKind item → bytes ≤ 504 → kind ≤ 3 ∨ 2 ≤ s.ty.version → bytes < total →
    ∃ t, exec (.patternData kind 0 total bytes item) s = .next t ∧
      t.ty = { s.ty with segments := (kind, 1, bytes) :: s.ty.segments.filter fun x => x.1 != kind } ∧
      Alters [.ty] s t) ∧
  (∀ (s : State) (client seq slot total bytes : Nat) (salt key : Bytes), s.deaf = false → s.ty.paired = true →
    bytes ≤ 504 → total ≤ bytes → (∀ x ∈ s.sy.sessions, x.client ≠ client) → slot ≠ 6 →
    ∃ t, exec (.patternData 3 0 total bytes (.command (.keySet client seq slot salt key))) s = .next t ∧
      t.keySlot slot = { salt := padBytes 16 salt, key } ∧ (∀ n, n ≠ slot → t.keySlot n = s.keySlot n) ∧
      Alters [.ty, .sy, .nv] s t) ∧
  (∀ s : State, s.deaf = false → s.ty.paired = true → 2 ≤ s.ty.version → s.os.gate = true →
    ∃ t, exec .joinRequest s = .next t ∧ t.out = s.out ++ [s.frameOf (.join 2 s.patternAhead)] ∧
      t.ty = { s.ty with
        state := .solo, joinPs := BitVec.ofNat 32 s.patternAhead, snapDue := true, memberDue := false } ∧
      Alters [.ty, .out] s t) ∧
  (∀ (s : State) (ps : Nat), s.deaf = false → s.ty.state = .joining → s.ty.joinState = 1 →
    ∃ t, exec (.joinSnapshotBegins ps) s = .next t ∧
      t.ty = { s.ty with joinState := 2, joinPs := BitVec.ofNat 32 ps } ∧ Alters [.ty] s t) ∧
  (∀ s : State, s.deaf = false → s.ty.paired = true → s.ty.state = .solo →
    ∃ t, exec .joinJoined s = .next t ∧ t.ty = { s.ty with memberDue := true } ∧ Alters [.ty] s t) ∧
  (∀ s : State, s.ty.state = .joining →
    ∃ t, exec .joinCatchUpTimeout s = .next t ∧ t.ty.state = .observer ∧ t.ty.joinState = 0 ∧
      t.ty.joinStamps.head? = some s.tb.now ∧ t.ty.joinRetry = decide (t.ty.joinStamps.length < 3) ∧
      t.fm = (if 3 ≤ t.ty.joinStamps.length then s.eventFm 0x0F06 0xFFFF else s.fm) ∧ Moves [.ty, .fm] s t) ∧
  (∀ s : State, s.ty.state = .observer → s.ty.joinRetry = true → s.ty.paired = true → 2 ≤ s.ty.version →
    s.ty.hello.map (·.stepNo) = some s.id.stepNo →
    ∃ t, exec .joinRetry s = .next t ∧ t.out = s.out ++ [s.frameOf (.join 1 0)] ∧
      t.ty = { s.ty with state := .joining, joinState := 1, joinRetry := false } ∧ Alters [.ty, .out] s t)

/-- The row (R25, R26, R31, R32, R332, R353, R375 to R377, R384 to R393), and the LIVE writes and reads that wait for it (R377, R489,
R506 to R508, R513). -/
def Obligations.RowCommands : Prop :=
  (∀ (s : State) (l : RowLatch), s.rowsRun = true → s.sy.live = [] →
    ∃ t, exec (.rowStart l) s = .next t ∧ t.rows.lastRow = some s.nextRow ∧ t.rows.rowNo = s.nextRow % 100 ∧
      t.rows.fixed = false ∧ t.rows.committed = false ∧ t.rows.judged = false ∧ t.rows.faMean = l.faMean ∧
      t.rows.fbMean = l.fbMean ∧ t.ca.fa.code = l.faCode ∧ t.ca.fb.code = l.fbCode ∧ t.pm.auxMv = l.auxMv ∧
      t.pm.auxMa = l.auxMa ∧ t.pm.vholdMv = l.vholdMv ∧ t.os.tripCont = l.tripCont ∧
      (s.loaderRuns = false → s.talks = true → ∃ m, t.frameOf (.rowInput m) ∈ t.out ∧ m.row = t.rowCount) ∧
      Moves [.fm, .rows, .pm, .ca, .cl, .de, .si, .os, .ty, .tb, .freeCount] s t) ∧
  (∀ (s : State) (n reference v : Nat), s.rowsRun = true → 1 ≤ reference → v = min 65535 (1000 * n / reference) →
    ∃ t, exec (.speedIndexWindowEnd n reference) s = .next t ∧
      t.rows = { s.rows with siRow := v, siRunMin := min v s.rows.siRunMin, siMin := min v s.rows.siMin } ∧
      t.fm = (if v < 550 then s.condFm 0x0103 0xFFFF else s.fm.deactivate 0x0103) ∧ Moves [.rows, .fm] s t) ∧
  (∀ (s : State) (pattern : Bool) (k : Nat) (x : Live), s.sy.live[k]? = some x →
    (s.liveRun pattern).sy.live.length = s.sy.live.length ∧
    ∃ y, (s.liveRun pattern).sy.live[k]? = some y ∧ y = { x with answer := y.answer } ∧
      (x.due pattern = true → y.answer.isSome = true) ∧ (x.due pattern = false → y = x)) ∧
  (∀ (s t : State) (pattern : Bool) (x : Live) (pre post : List Live) (status : Nat) (body : Bytes),
    s.sy.live = pre ++ x :: post → x.due pattern = true → (∀ y ∈ pre ++ post, y.due pattern = false) →
    (s.modSy fun y => { y with live := [] }).liveAct x.sess x.cmd = (t, status, body) →
    s.liveRun pattern = t.modSy fun y => { y with live := pre ++ { x with answer := some (status, body) } :: post }) ∧
  (∀ (s : State) (pattern : Bool), (∀ y ∈ s.sy.live, y.due pattern = false) → s.liveRun pattern = s) ∧
  (∀ (s : State) (l : RowLatch) (k : Nat), s.rowsRun = true → s.loaderRuns = false → s.rows.cpRestarting = false →
    ∃ t, exec (.rowStart l) s = .next t ∧ t.sy.live.length = (s.sy.live.filter (·.answer.isNone)).length ∧
      (∀ x, (s.sy.live.filter (·.answer.isNone))[k]? = some x → ∃ y, t.sy.live[k]? = some y ∧
        y = { x with answer := y.answer } ∧ (x.due false = true → y.answer.isSome = true) ∧ (x.due false = false → y = x)) ∧
      ∀ x ∈ s.sy.live, ∀ a, x.answer = some a → (s.session x.sess.num).isSome = true → x.req.source ≠ .twinSpi → (x.req.source = .spi → x.slot.isSome = true) →
        ∃ m : Msg, (m.opcode = waitingOpcode x.cmd ∧ m.status = a.1 ∧ m.payload = a.2 ∧ m.session = x.req.session ∧
          m.seq = x.req.seq) ∧ .response x.req.source m ∈ t.out) ∧
  (∀ s : State, (∀ x ∈ s.sy.live, x.agreed = false ∧ s.liveAgreed x = true) →
    (s.ty.sideB = false → s.agreeLive.sy.live = (s.sy.live.filter (!·.theirs) ++ s.sy.live.filter (·.theirs)).map fun x =>
      { x with agreed := true }) ∧
    (s.ty.sideB = true → s.agreeLive.sy.live = (s.sy.live.filter (·.theirs) ++ s.sy.live.filter (!·.theirs)).map fun x =>
      { x with agreed := true })) ∧
  (∀ s : State, s.inRow = true → s.rows.fixed = false → s.ty.paired = false → s.ty.state ≠ .member →
    s.ef.headDue = false → s.tb.stepDue = none → s.tb.stepAgreed = none →
    ∃ t, exec .inputSetFixed s = .next t ∧ t.rows = { s.rows with fixed := true } ∧
      t.ty = (if s.ty.wordSeen then s.ty else { s.ty with
        missing := min 255 (s.ty.missing + 1), wordRows := 0
        wordTwin := if 2 ≤ s.ty.missing then 0 else s.ty.wordTwin }) ∧
      t.sy = { s.sy with live := t.sy.live } ∧
      ((∀ x ∈ s.sy.live, x.theirs = false) → t.sy.live = s.sy.live.filter (·.agreed) ++
        (s.sy.live.filter (!·.agreed)).map fun x => { x with agreed := true }) ∧
      Alters [.rows, .tb, .ty, .sy] s t) ∧
  (∀ (s : State) (m : RowInput), s.inRow = true → s.rows.fixed = false → s.ty.paired = true →
    s.ty.state = .member → s.ty.rowIn = some m → m.row = (s.rowAt 25000).rowCount → m.cmds = [] →
    s.ef.headDue = false → s.tb.stepDue = none → s.tb.stepAgreed = none → tabWf {} s.os.coils = true →
    ∃ t, exec .inputSetFixed s = .next t ∧ t.rows.fixed = true ∧ t.ty.agreedTwin = true ∧ t.ty.absentRun = 0 ∧
      t.ty.twinCoils = m.coils ∧ t.ty.twinSeq = m.seq ∧
      t.ty.pairReaction = max s.fm.pairOwn.code m.reaction ∧
      (s.os.gate = true → m.ring = none → Moves [.rows, .tb, .ty, .de, .si, .fm, .sy] s t) ∧
      (s.os.gate = false → bit m.unitFlags 0 = true →
        t.pc.seq = m.seq ∧ ∀ n ∈ [1, 2, 3, 4], (t.coil n).cmd = bit m.coils (n - 1)) ∧
      Moves [.fm, .rows, .pm, .im, .pc, .cl, .de, .si, .os, .ty, .tb, .sy, .cfg, .stopWait] s t) ∧
  (∀ s : State, s.inRow = true → s.rows.fixed = false → s.ty.paired = true → s.ty.rowIn = none →
    s.ty.absentRun = 2 → s.ty.state = .member → s.os.gate = true →
    s.ef.headDue = false → s.tb.stepDue = none → s.tb.stepAgreed = none →
    ∃ t, exec .inputSetFixed s = .next t ∧ t.ty.state = .solo ∧ t.ty.paired = false ∧
      t.fm = ((s.rowAt 25000).condFm 0x0F04 0xFFFF).deactivate 0x0F08 ∧ Moves [.rows, .tb, .ty, .pm, .de, .fm, .sy] s t) ∧
  (∀ s : State, s.inRow = true → s.rows.fixed = false → (s.rowAt 25000).rowIn = 10 → s.ty.state = .member →
    s.ef.headDue = true → s.ty.rowIn = none →
    ∃ t, exec .inputSetFixed s = .next t ∧ t.ef.headDue = false ∧ t.ef.headRun = true ∧ t.rows.fixed = true) ∧
  (∀ (s : State) (c : CommitInp), s.inRow = true → s.rows.committed = false → s.ty.yielding = 0 → c.late = false →
    c.mismatch = false → s.pm.softDue = 0 →
    ∃ t, exec (.outputCommit c) s = .next t ∧ t.rows.committed = true ∧ t.ty.wordPrev = s.ty.wordOwn ∧
      (t.os.gate = true → wordValue s.ty.wordTwin < wordValue s.ty.wordOwn ∧
        wordValue s.ty.wordTwin < wordValue t.ty.wordOwn) ∧
      (s.deaf = false → s.ty.state ≠ .refused → t.frameOf (.claim t.ty.wordOwn (t.rowCount % 256)) ∈ t.out) ∧
      Moves [.fm, .rows, .pm, .pc, .de, .si, .os, .ty, .tb, .nv] s t) ∧
  (∀ (s : State) (c : CommitInp), s.inRow = true → s.rows.committed = false → s.ty.yielding = 0 → c.late = true →
    s.pm.softDue = 0 → tabWf {} s.os.coils = true →
    ∃ t, exec (.outputCommit c) s = .next t ∧ t.rows.committed = true ∧
      t.rows.overrunCount = s.rows.overrunCount + 1 ∧ CoilsOff t ∧ t.os.uvr = false ∧ t.os.gate = false ∧
      wordValue t.ty.wordOwn = 0 ∧ Moves [.fm, .rows, .pm, .pc, .de, .si, .os, .ty, .tb, .nv] s t) ∧
  (∀ s : State, s.inRow = true → s.rows.judged = false → s.ty.state ≠ .member → s.ty.state ≠ .joining →
    ∃ t, exec .digestDeadline s = .next t ∧ t.rows = { s.rows with judged := true } ∧ Alters [.rows, .tb] s t) ∧
  (∀ (s : State) (b : Bool), s.inRow = true → s.rows.judged = false → s.ty.state = .member →
    b = (s.rowAt 70000).stitch →
    ∃ t, exec .digestDeadline s = .next t ∧ t.rows = { s.rows with judged := true } ∧ t.ty.stitched = b ∧
      t.ty.stitches = (if b then s.ty.stitches + 1 else s.ty.stitches) ∧ Moves [.rows, .tb, .ty, .fm] s t)

/-- The pattern (R21 to R25, R31, R34), and what stops rows (R27, R30, R33, R109, R335). -/
def Obligations.PatternCommands : Prop :=
  (∀ (s : State) (v : Nat), s.rowsRun = true → v = s.rows.siRunMin → v ≠ 0xFFFF →
    ∃ t, exec .patternStart s = .next t ∧ t.rows.lastPat = some s.nextPattern ∧ t.rows.siPatMin = v ∧
      t.rows.siRunMin = 0xFFFF ∧
      t.rows.vcore = (if v < 760 then min 900 (s.rows.vcore + 5)
        else if 820 < v then max 620 (s.rows.vcore - 5) else s.rows.vcore) ∧
      t.bs = s.bs ∧ t.ck = s.ck ∧ t.ld = s.ld ∧ t.lg = s.lg ∧ t.id = s.id ∧ t.pending = s.pending) ∧
  (∀ (s : State) (k : Nat) (x : Live), s.rowsRun = true → s.loaderRuns = false → s.sy.live[k]? = some x →
    ∃ t, exec .patternStart s = .next t ∧ t.sy.live.length = s.sy.live.length ∧
      ∃ y, t.sy.live[k]? = some y ∧ y = { x with answer := y.answer } ∧ (x.due true = true → y.answer.isSome = true) ∧
        (x.due true = false → y = x)) ∧
  (∀ s : State, s.rowsRun = true → s.rows.lastPat.isSome = true → s.ef.headRun = false → s.ef.headDue = false →
    s.loaderRuns = false → s.ty.state ≠ .member →
    ∃ t, exec .cellLinkCutoff s = .next t ∧ t.ef.headRun = true ∧ t.rows = s.rows ∧
      Moves [.fm, .pm, .pc, .cl, .ef, .bs, .tm, .de, .si, .os, .tb, .nv] s t) ∧
  (∀ (s : State) (n : Nat), s.rowsRun = true → s.rows.lastPat = some n → s.ef.headRun = false → s.ef.headDue = false →
    s.loaderRuns = false → s.ty.state = .member → (s.runTo (n * 10000000 + 1000000)).rowIn = 10 → s.rows.fixed = false →
    ∃ t, exec .cellLinkCutoff s = .next t ∧ t.ef.headDue = true ∧ t.ef.headRun = false ∧ t.rows = s.rows) ∧
  (∀ s : State, s.coreUp = true → (∀ k ∈ [6, 7], (tabGet ({} : Engine) k s.ck).owner ≠ 1) →
    ∃ t, exec .cpCoreMismatch s = .next t ∧ t.rows = { s.rows with cpRestarting := true } ∧ t.sy.sessions = [] ∧
      t.sy.opens = [] ∧ t.sy.lockouts = [] ∧ t.sy.commits = [] ∧ t.sy.heldEvents = [] ∧ t.sy.live = [] ∧
      t.tm = s.tm.restarted ∧ t.bs = {} ∧ t.fm = s.condFm 0x0101 0xFFFF ∧
      Moves [.rows, .sy, .ld, .fm, .tm, .bs] s t) ∧
  (∀ (s : State) (khz : Nat), s.coreUp = true → khz < 150000 ∨ 250000 < khz →
    ∃ t, exec (.referenceOutOfLimits khz) s = .next t ∧ t.rows = { s.rows with running := false, refBad := true } ∧
      t.pm = { s.pm with prevRefLost := true } ∧ Alters [.rows, .pm] s t) ∧
  (∀ s : State, s.coreUp = true → s.tb.running = true → tabWf {} s.os.coils = true →
    ∃ t, exec .rowWatchdogExpiry s = .next t ∧ CoilsOff t ∧ t.os.uvr = false ∧ t.os.gate = false ∧
      t.ty = { s.ty with wordPrev := s.ty.wordOwn, wordOwn := 0 } ∧ t.si.rowLoss = true ∧
      t.si.lastReactionStamp = s.tb.now ∧ Alters [.os, .pm, .pc, .de, .nv, .si, .ty] s t) ∧
  (∀ s : State, s.rows.refBad = true →
    ∃ t, exec .referenceRecovery s = .next t ∧ Cleared t ∧ t.pm.resetKind = 7 ∧
      t.pm.state = (if s.pm.onStore then .powerFail else .castOn) ∧
      t.pending = s.pending ∧ s.out <+: t.out)

/-- The queue of commands. The empty queue's tick is the model's choice (assumption 2); the tick itself is R409's. -/
def Obligations.StepTakesFront : Prop :=
  (∀ (s : State) (c : Instr) (rest : List Instr), s.pending = c :: rest → step s = exec c { s with pending := rest }) ∧
  (∀ s : State, s.pending = [] → s.tb.running = false → step s = .next s) ∧
  (∀ s : State, s.pending = [] → s.tb.running = true → s.tb.now.ns < 1000000000 → s.tb.frac < 2 ^ 32 →
    ∃ t, step s = .next t ∧ t.tb.now.epoch = s.tb.now.epoch ∧ t.tb.now.ns < 1000000000 ∧ t.tb.frac < 2 ^ 32 ∧
      (stampNs t.tb.now : Nat) * 2 ^ 32 + t.tb.frac = stampNs s.tb.now * 2 ^ 32 + s.tb.frac + s.tb.incr.toNat ∧
      t.tb = { s.tb with now := t.tb.now, frac := t.tb.frac } ∧ Alters [.tb] s t) ∧
  (∀ (s : State) (nbits w : Nat), decodeTableWord nbits w = none ∧ s.withFetchWord nbits w = s)

/-- The values the spec gives for reset (R46, R348, R409, R484, R507). -/
def Obligations.ResetState : Prop :=
  State.reset.pending = [] ∧ State.reset.out = [] ∧ State.reset.fm.reaction = .normal ∧
  State.reset.fm.pending = [] ∧ State.reset.fm.active = [] ∧ CoilsOff State.reset ∧
  State.reset.os.tripActive = false ∧ State.reset.os.uvr = false ∧ State.reset.si.xtripOut = false ∧
  State.reset.os.gate = false ∧ State.reset.sy.sessions = [] ∧ State.reset.sy.commits = [] ∧
  State.reset.de.leases = [] ∧ State.reset.stopWait = [] ∧ State.reset.tb.incr = 0x500000000 ∧
  (∀ index sub, State.reset.cfgGet index sub = objReset State.reset.id.variant index sub) ∧
  (∀ a, memRead State.reset.bytes a = 0)

/-- The invariant at reset. -/
def Obligations.ResetInv : Prop := Inv State.reset

/-- The invariant (R12, R40, R41, R240) over every command. -/
def Obligations.StepKeepsInv : Prop := ∀ s t : State, Inv s → step s = .next t → Inv t

/-- Completion of every command in every state; the queue and the record of what left the ports are the model's
(assumption 1). -/
def Obligations.EveryCommandCompletes : Prop :=
  ∀ (c : Instr) (s : State), ∃ t, exec c s = .next t ∧ t.pending = s.pending ∧ s.out <+: t.out

/-- R467 to R469, R473, R482, R483, in the order of assumption 9. -/
def Obligations.RequestChecks : Prop :=
  ∀ (c : Instr) (s : State) (r : Req) (op : Nat) (p : Bytes), requestOf c = some (r, op, p) → s.coreUp = true →
    s.rows.cpRestarting = false → s.serves r.source = true →
    (r.length.getD (reqArrived r p).length ≠ (reqArrived r p).length →
      exec c s = .next ((s.arrived r).answerSlot r.source none)) ∧
    (r.length.getD (reqArrived r p).length = (reqArrived r p).length →
      (s.session r.session = none → ∃ t, exec c s = .next t ∧ Answered t r op 0x05 [] ∧ Moves [] s t) ∧
      (∀ x, s.session r.session = some x →
        (r.mac ≠ macOf x.c2m r.shortMac (reqCovered r op (reqArrived r p)) →
          exec c s = .next (((s.arrived r).modSy fun y =>
            { y with authFailures := y.authFailures + 1 }).answerSlot r.source none)) ∧
        (r.mac = macOf x.c2m r.shortMac (reqCovered r op (reqArrived r p)) →
          (sourceKey r.source ≠ sourceKey x.source →
            ∃ t, exec c s = .next t ∧ Answered t r op 0x05 [] ∧ Moves [] s t) ∧
          (sourceKey r.source = sourceKey x.source → r.version / 16 ≠ x.version / 16 →
            ∃ t, exec c s = .next t ∧ Answered t r op 0x03 [] ∧ Moves [] s t) ∧
          (sourceKey r.source = sourceKey x.source → r.version / 16 = x.version / 16 →
            (r.seq < x.high ∨ r.seq = 0 → ∃ t, exec c s = .next t ∧ Answered t r op 0x07 [] ∧ Moves [] s t) ∧
            (∀ m, r.seq = x.high → r.seq ≠ 0 → x.cached = some m → ∃ t, exec c s = .next t ∧
              (r.source ≠ .twinSpi → t.out.getLast? = some (.response r.source m)) ∧ Moves [] s t)))))

/-- R406. -/
def Obligations.PairMessageOnce : Prop :=
  ∀ (s : State) (node pairSeq c ahead back : Nat) (v : Receiver), c = pairSeq % 2 ^ 30 → v.high < 2 ^ 30 →
    ahead = (c + 2 ^ 30 - v.high) % 2 ^ 30 → back = (v.high + 2 ^ 30 - c) % 2 ^ 30 →
    (s.ty.receivers.find? fun v => v.node == node && v.origin == pairSeq / 2 ^ 30 % 4) = some v →
    ((s.acceptPair node pairSeq).isSome = true ↔
      (1 ≤ ahead ∧ ahead ≤ 2 ^ 29 - 1) ∨ (back < 64 ∧ bit v.seen back = false)) ∧
    (∀ u, s.acceptPair node pairSeq = some u → u.acceptPair node pairSeq = none ∧
      u.ty = { s.ty with receivers := u.ty.receivers } ∧ Alters [.ty] s u ∧
      ∃ w, (u.ty.receivers.find? fun v => v.node == node && v.origin == pairSeq / 2 ^ 30 % 4) = some w ∧
        (1 ≤ ahead ∧ ahead ≤ 2 ^ 29 - 1 → w.high = c ∧
          ∀ k, k < 64 → (bit w.seen k = true ↔ k = 0 ∨ (ahead ≤ k ∧ bit v.seen (k - ahead) = true))) ∧
        (¬(1 ≤ ahead ∧ ahead ≤ 2 ^ 29 - 1) → w.high = v.high ∧
          ∀ k, k < 64 → (bit w.seen k = true ↔ k = back ∨ bit v.seen k = true)))

/-- R40; the last clause is of R41. -/
def Obligations.FaultQueueOrder : Prop :=
  ∀ (m n : FaultMgr) (event inPair : Bool) (stamp : Stamp) (code item : Nat), m.Wf →
    event = true ∨ code ∉ m.handled ∨ m.has code = true → n = m.raise event stamp inPair code item →
    n.Wf ∧
    (m.has code = true →
      n.pending = m.pending.map fun p => if p.code = code then { p with count := p.count + 1 } else p) ∧
    (m.has code = false → m.pending.length < 64 →
      ∃ p, p.code = code ∧ p.severity = faultSeverity code ∧ p.count = 1 ∧ p.stamp = stamp ∧ p.row = rowKey stamp ∧
        ∀ q, q ∈ n.pending ↔ q = p ∨ q ∈ m.pending) ∧
    (m.has code = false → m.pending.length = 64 →
      n.overflowCount = m.overflowCount + 1 ∧ 0x0105 ∈ n.active ∧ 2 ≤ n.reaction.code ∧
        m.reaction.code ≤ n.reaction.code)

/-- R386. -/
def Obligations.ClaimWords : Prop :=
  (∀ (s : State) (cls health : Nat), cls < 16 → health < 16 →
    s.claimWord cls health < 2 ^ 16 ∧ s.claimWord cls health / 2 ^ 12 = cls ∧
    s.claimWord cls health / 2 ^ 8 % 16 = health ∧
    s.claimWord cls health % 2 ^ 8 = s.id.serial % 128 * 2 + (if s.ty.sideB then 1 else 0) ∧
    (health = 0 → wordValue (s.claimWord cls health) = 0) ∧
    (health ≠ 0 → cls ≠ 0 → wordValue (s.claimWord cls health) = s.claimWord cls health)) ∧
  (∀ (s u : State) (a b c d : Nat), s.ty.sideB ≠ u.ty.sideB → a < 16 → b < 16 → c < 16 → d < 16 →
    s.claimWord a b ≠ u.claimWord c d)

/-- R391, for two units whose yields have not ended in this row. -/
def Obligations.GatesNeverBoth : Prop :=
  ∀ (a b ta tb : State) (c d : CommitInp), a.inRow = true → b.inRow = true → a.rows.committed = false →
    b.rows.committed = false → a.ty.yielding = 0 → b.ty.yielding = 0 → a.ty.wordTwin = b.ty.wordOwn →
    b.ty.wordTwin = a.ty.wordOwn → exec (.outputCommit c) a = .next ta → exec (.outputCommit d) b = .next tb →
    ¬(ta.os.gate = true ∧ tb.os.gate = true)
end

