-- ==== Sys2Proof/Laws/State.lean ====
section
/-! SUPPORT. Laws of the state's setters: what each field reads after each update. -/

namespace Sys2Proof.Machine

@[simp] theorem State.modFm_fm (s : State) (f : FaultMgr → FaultMgr) : (s.modFm f).fm = f s.fm := rfl
@[simp] theorem State.modFm_rows (s : State) (f : FaultMgr → FaultMgr) : (s.modFm f).rows = s.rows := rfl
@[simp] theorem State.modFm_pm (s : State) (f : FaultMgr → FaultMgr) : (s.modFm f).pm = s.pm := rfl
@[simp] theorem State.modFm_ca (s : State) (f : FaultMgr → FaultMgr) : (s.modFm f).ca = s.ca := rfl
@[simp] theorem State.modFm_ss (s : State) (f : FaultMgr → FaultMgr) : (s.modFm f).ss = s.ss := rfl
@[simp] theorem State.modFm_im (s : State) (f : FaultMgr → FaultMgr) : (s.modFm f).im = s.im := rfl
@[simp] theorem State.modFm_pc (s : State) (f : FaultMgr → FaultMgr) : (s.modFm f).pc = s.pc := rfl
@[simp] theorem State.modFm_cl (s : State) (f : FaultMgr → FaultMgr) : (s.modFm f).cl = s.cl := rfl
@[simp] theorem State.modFm_ef (s : State) (f : FaultMgr → FaultMgr) : (s.modFm f).ef = s.ef := rfl
@[simp] theorem State.modFm_bs (s : State) (f : FaultMgr → FaultMgr) : (s.modFm f).bs = s.bs := rfl
@[simp] theorem State.modFm_tm (s : State) (f : FaultMgr → FaultMgr) : (s.modFm f).tm = s.tm := rfl
@[simp] theorem State.modFm_de (s : State) (f : FaultMgr → FaultMgr) : (s.modFm f).de = s.de := rfl
@[simp] theorem State.modFm_si (s : State) (f : FaultMgr → FaultMgr) : (s.modFm f).si = s.si := rfl
@[simp] theorem State.modFm_os (s : State) (f : FaultMgr → FaultMgr) : (s.modFm f).os = s.os := rfl
@[simp] theorem State.modFm_ty (s : State) (f : FaultMgr → FaultMgr) : (s.modFm f).ty = s.ty := rfl
@[simp] theorem State.modFm_tb (s : State) (f : FaultMgr → FaultMgr) : (s.modFm f).tb = s.tb := rfl
@[simp] theorem State.modFm_en (s : State) (f : FaultMgr → FaultMgr) : (s.modFm f).en = s.en := rfl
@[simp] theorem State.modFm_cn (s : State) (f : FaultMgr → FaultMgr) : (s.modFm f).cn = s.cn := rfl
@[simp] theorem State.modFm_sy (s : State) (f : FaultMgr → FaultMgr) : (s.modFm f).sy = s.sy := rfl
@[simp] theorem State.modFm_ck (s : State) (f : FaultMgr → FaultMgr) : (s.modFm f).ck = s.ck := rfl
@[simp] theorem State.modFm_nv (s : State) (f : FaultMgr → FaultMgr) : (s.modFm f).nv = s.nv := rfl
@[simp] theorem State.modFm_ld (s : State) (f : FaultMgr → FaultMgr) : (s.modFm f).ld = s.ld := rfl
@[simp] theorem State.modFm_lg (s : State) (f : FaultMgr → FaultMgr) : (s.modFm f).lg = s.lg := rfl
@[simp] theorem State.modFm_id (s : State) (f : FaultMgr → FaultMgr) : (s.modFm f).id = s.id := rfl
@[simp] theorem State.modFm_cfg (s : State) (f : FaultMgr → FaultMgr) : (s.modFm f).cfg = s.cfg := rfl
@[simp] theorem State.modFm_stopWait (s : State) (f : FaultMgr → FaultMgr) : (s.modFm f).stopWait = s.stopWait := rfl
@[simp] theorem State.modFm_bytesWait (s : State) (f : FaultMgr → FaultMgr) : (s.modFm f).bytesWait = s.bytesWait := rfl
@[simp] theorem State.modFm_bytes (s : State) (f : FaultMgr → FaultMgr) : (s.modFm f).bytes = s.bytes := rfl
@[simp] theorem State.modFm_freeCount (s : State) (f : FaultMgr → FaultMgr) : (s.modFm f).freeCount = s.freeCount := rfl
@[simp] theorem State.modFm_out (s : State) (f : FaultMgr → FaultMgr) : (s.modFm f).out = s.out := rfl
@[simp] theorem State.modFm_pending (s : State) (f : FaultMgr → FaultMgr) : (s.modFm f).pending = s.pending := rfl

@[simp] theorem State.modRows_fm (s : State) (f : Rows → Rows) : (s.modRows f).fm = s.fm := rfl
@[simp] theorem State.modRows_rows (s : State) (f : Rows → Rows) : (s.modRows f).rows = f s.rows := rfl
@[simp] theorem State.modRows_pm (s : State) (f : Rows → Rows) : (s.modRows f).pm = s.pm := rfl
@[simp] theorem State.modRows_ca (s : State) (f : Rows → Rows) : (s.modRows f).ca = s.ca := rfl
@[simp] theorem State.modRows_ss (s : State) (f : Rows → Rows) : (s.modRows f).ss = s.ss := rfl
@[simp] theorem State.modRows_im (s : State) (f : Rows → Rows) : (s.modRows f).im = s.im := rfl
@[simp] theorem State.modRows_pc (s : State) (f : Rows → Rows) : (s.modRows f).pc = s.pc := rfl
@[simp] theorem State.modRows_cl (s : State) (f : Rows → Rows) : (s.modRows f).cl = s.cl := rfl
@[simp] theorem State.modRows_ef (s : State) (f : Rows → Rows) : (s.modRows f).ef = s.ef := rfl
@[simp] theorem State.modRows_bs (s : State) (f : Rows → Rows) : (s.modRows f).bs = s.bs := rfl
@[simp] theorem State.modRows_tm (s : State) (f : Rows → Rows) : (s.modRows f).tm = s.tm := rfl
@[simp] theorem State.modRows_de (s : State) (f : Rows → Rows) : (s.modRows f).de = s.de := rfl
@[simp] theorem State.modRows_si (s : State) (f : Rows → Rows) : (s.modRows f).si = s.si := rfl
@[simp] theorem State.modRows_os (s : State) (f : Rows → Rows) : (s.modRows f).os = s.os := rfl
@[simp] theorem State.modRows_ty (s : State) (f : Rows → Rows) : (s.modRows f).ty = s.ty := rfl
@[simp] theorem State.modRows_tb (s : State) (f : Rows → Rows) : (s.modRows f).tb = s.tb := rfl
@[simp] theorem State.modRows_en (s : State) (f : Rows → Rows) : (s.modRows f).en = s.en := rfl
@[simp] theorem State.modRows_cn (s : State) (f : Rows → Rows) : (s.modRows f).cn = s.cn := rfl
@[simp] theorem State.modRows_sy (s : State) (f : Rows → Rows) : (s.modRows f).sy = s.sy := rfl
@[simp] theorem State.modRows_ck (s : State) (f : Rows → Rows) : (s.modRows f).ck = s.ck := rfl
@[simp] theorem State.modRows_nv (s : State) (f : Rows → Rows) : (s.modRows f).nv = s.nv := rfl
@[simp] theorem State.modRows_ld (s : State) (f : Rows → Rows) : (s.modRows f).ld = s.ld := rfl
@[simp] theorem State.modRows_lg (s : State) (f : Rows → Rows) : (s.modRows f).lg = s.lg := rfl
@[simp] theorem State.modRows_id (s : State) (f : Rows → Rows) : (s.modRows f).id = s.id := rfl
@[simp] theorem State.modRows_cfg (s : State) (f : Rows → Rows) : (s.modRows f).cfg = s.cfg := rfl
@[simp] theorem State.modRows_stopWait (s : State) (f : Rows → Rows) : (s.modRows f).stopWait = s.stopWait := rfl
@[simp] theorem State.modRows_bytesWait (s : State) (f : Rows → Rows) : (s.modRows f).bytesWait = s.bytesWait := rfl
@[simp] theorem State.modRows_bytes (s : State) (f : Rows → Rows) : (s.modRows f).bytes = s.bytes := rfl
@[simp] theorem State.modRows_freeCount (s : State) (f : Rows → Rows) : (s.modRows f).freeCount = s.freeCount := rfl
@[simp] theorem State.modRows_out (s : State) (f : Rows → Rows) : (s.modRows f).out = s.out := rfl
@[simp] theorem State.modRows_pending (s : State) (f : Rows → Rows) : (s.modRows f).pending = s.pending := rfl

@[simp] theorem State.modPm_fm (s : State) (f : Power → Power) : (s.modPm f).fm = s.fm := rfl
@[simp] theorem State.modPm_rows (s : State) (f : Power → Power) : (s.modPm f).rows = s.rows := rfl
@[simp] theorem State.modPm_pm (s : State) (f : Power → Power) : (s.modPm f).pm = f s.pm := rfl
@[simp] theorem State.modPm_ca (s : State) (f : Power → Power) : (s.modPm f).ca = s.ca := rfl
@[simp] theorem State.modPm_ss (s : State) (f : Power → Power) : (s.modPm f).ss = s.ss := rfl
@[simp] theorem State.modPm_im (s : State) (f : Power → Power) : (s.modPm f).im = s.im := rfl
@[simp] theorem State.modPm_pc (s : State) (f : Power → Power) : (s.modPm f).pc = s.pc := rfl
@[simp] theorem State.modPm_cl (s : State) (f : Power → Power) : (s.modPm f).cl = s.cl := rfl
@[simp] theorem State.modPm_ef (s : State) (f : Power → Power) : (s.modPm f).ef = s.ef := rfl
@[simp] theorem State.modPm_bs (s : State) (f : Power → Power) : (s.modPm f).bs = s.bs := rfl
@[simp] theorem State.modPm_tm (s : State) (f : Power → Power) : (s.modPm f).tm = s.tm := rfl
@[simp] theorem State.modPm_de (s : State) (f : Power → Power) : (s.modPm f).de = s.de := rfl
@[simp] theorem State.modPm_si (s : State) (f : Power → Power) : (s.modPm f).si = s.si := rfl
@[simp] theorem State.modPm_os (s : State) (f : Power → Power) : (s.modPm f).os = s.os := rfl
@[simp] theorem State.modPm_ty (s : State) (f : Power → Power) : (s.modPm f).ty = s.ty := rfl
@[simp] theorem State.modPm_tb (s : State) (f : Power → Power) : (s.modPm f).tb = s.tb := rfl
@[simp] theorem State.modPm_en (s : State) (f : Power → Power) : (s.modPm f).en = s.en := rfl
@[simp] theorem State.modPm_cn (s : State) (f : Power → Power) : (s.modPm f).cn = s.cn := rfl
@[simp] theorem State.modPm_sy (s : State) (f : Power → Power) : (s.modPm f).sy = s.sy := rfl
@[simp] theorem State.modPm_ck (s : State) (f : Power → Power) : (s.modPm f).ck = s.ck := rfl
@[simp] theorem State.modPm_nv (s : State) (f : Power → Power) : (s.modPm f).nv = s.nv := rfl
@[simp] theorem State.modPm_ld (s : State) (f : Power → Power) : (s.modPm f).ld = s.ld := rfl
@[simp] theorem State.modPm_lg (s : State) (f : Power → Power) : (s.modPm f).lg = s.lg := rfl
@[simp] theorem State.modPm_id (s : State) (f : Power → Power) : (s.modPm f).id = s.id := rfl
@[simp] theorem State.modPm_cfg (s : State) (f : Power → Power) : (s.modPm f).cfg = s.cfg := rfl
@[simp] theorem State.modPm_stopWait (s : State) (f : Power → Power) : (s.modPm f).stopWait = s.stopWait := rfl
@[simp] theorem State.modPm_bytesWait (s : State) (f : Power → Power) : (s.modPm f).bytesWait = s.bytesWait := rfl
@[simp] theorem State.modPm_bytes (s : State) (f : Power → Power) : (s.modPm f).bytes = s.bytes := rfl
@[simp] theorem State.modPm_freeCount (s : State) (f : Power → Power) : (s.modPm f).freeCount = s.freeCount := rfl
@[simp] theorem State.modPm_out (s : State) (f : Power → Power) : (s.modPm f).out = s.out := rfl
@[simp] theorem State.modPm_pending (s : State) (f : Power → Power) : (s.modPm f).pending = s.pending := rfl

@[simp] theorem State.modCa_fm (s : State) (f : Converter → Converter) : (s.modCa f).fm = s.fm := rfl
@[simp] theorem State.modCa_rows (s : State) (f : Converter → Converter) : (s.modCa f).rows = s.rows := rfl
@[simp] theorem State.modCa_pm (s : State) (f : Converter → Converter) : (s.modCa f).pm = s.pm := rfl
@[simp] theorem State.modCa_ca (s : State) (f : Converter → Converter) : (s.modCa f).ca = f s.ca := rfl
@[simp] theorem State.modCa_ss (s : State) (f : Converter → Converter) : (s.modCa f).ss = s.ss := rfl
@[simp] theorem State.modCa_im (s : State) (f : Converter → Converter) : (s.modCa f).im = s.im := rfl
@[simp] theorem State.modCa_pc (s : State) (f : Converter → Converter) : (s.modCa f).pc = s.pc := rfl
@[simp] theorem State.modCa_cl (s : State) (f : Converter → Converter) : (s.modCa f).cl = s.cl := rfl
@[simp] theorem State.modCa_ef (s : State) (f : Converter → Converter) : (s.modCa f).ef = s.ef := rfl
@[simp] theorem State.modCa_bs (s : State) (f : Converter → Converter) : (s.modCa f).bs = s.bs := rfl
@[simp] theorem State.modCa_tm (s : State) (f : Converter → Converter) : (s.modCa f).tm = s.tm := rfl
@[simp] theorem State.modCa_de (s : State) (f : Converter → Converter) : (s.modCa f).de = s.de := rfl
@[simp] theorem State.modCa_si (s : State) (f : Converter → Converter) : (s.modCa f).si = s.si := rfl
@[simp] theorem State.modCa_os (s : State) (f : Converter → Converter) : (s.modCa f).os = s.os := rfl
@[simp] theorem State.modCa_ty (s : State) (f : Converter → Converter) : (s.modCa f).ty = s.ty := rfl
@[simp] theorem State.modCa_tb (s : State) (f : Converter → Converter) : (s.modCa f).tb = s.tb := rfl
@[simp] theorem State.modCa_en (s : State) (f : Converter → Converter) : (s.modCa f).en = s.en := rfl
@[simp] theorem State.modCa_cn (s : State) (f : Converter → Converter) : (s.modCa f).cn = s.cn := rfl
@[simp] theorem State.modCa_sy (s : State) (f : Converter → Converter) : (s.modCa f).sy = s.sy := rfl
@[simp] theorem State.modCa_ck (s : State) (f : Converter → Converter) : (s.modCa f).ck = s.ck := rfl
@[simp] theorem State.modCa_nv (s : State) (f : Converter → Converter) : (s.modCa f).nv = s.nv := rfl
@[simp] theorem State.modCa_ld (s : State) (f : Converter → Converter) : (s.modCa f).ld = s.ld := rfl
@[simp] theorem State.modCa_lg (s : State) (f : Converter → Converter) : (s.modCa f).lg = s.lg := rfl
@[simp] theorem State.modCa_id (s : State) (f : Converter → Converter) : (s.modCa f).id = s.id := rfl
@[simp] theorem State.modCa_cfg (s : State) (f : Converter → Converter) : (s.modCa f).cfg = s.cfg := rfl
@[simp] theorem State.modCa_stopWait (s : State) (f : Converter → Converter) : (s.modCa f).stopWait = s.stopWait := rfl
@[simp] theorem State.modCa_bytesWait (s : State) (f : Converter → Converter) : (s.modCa f).bytesWait = s.bytesWait := rfl
@[simp] theorem State.modCa_bytes (s : State) (f : Converter → Converter) : (s.modCa f).bytes = s.bytes := rfl
@[simp] theorem State.modCa_freeCount (s : State) (f : Converter → Converter) : (s.modCa f).freeCount = s.freeCount := rfl
@[simp] theorem State.modCa_out (s : State) (f : Converter → Converter) : (s.modCa f).out = s.out := rfl
@[simp] theorem State.modCa_pending (s : State) (f : Converter → Converter) : (s.modCa f).pending = s.pending := rfl

@[simp] theorem State.modSs_fm (s : State) (f : Sensing → Sensing) : (s.modSs f).fm = s.fm := rfl
@[simp] theorem State.modSs_rows (s : State) (f : Sensing → Sensing) : (s.modSs f).rows = s.rows := rfl
@[simp] theorem State.modSs_pm (s : State) (f : Sensing → Sensing) : (s.modSs f).pm = s.pm := rfl
@[simp] theorem State.modSs_ca (s : State) (f : Sensing → Sensing) : (s.modSs f).ca = s.ca := rfl
@[simp] theorem State.modSs_ss (s : State) (f : Sensing → Sensing) : (s.modSs f).ss = f s.ss := rfl
@[simp] theorem State.modSs_im (s : State) (f : Sensing → Sensing) : (s.modSs f).im = s.im := rfl
@[simp] theorem State.modSs_pc (s : State) (f : Sensing → Sensing) : (s.modSs f).pc = s.pc := rfl
@[simp] theorem State.modSs_cl (s : State) (f : Sensing → Sensing) : (s.modSs f).cl = s.cl := rfl
@[simp] theorem State.modSs_ef (s : State) (f : Sensing → Sensing) : (s.modSs f).ef = s.ef := rfl
@[simp] theorem State.modSs_bs (s : State) (f : Sensing → Sensing) : (s.modSs f).bs = s.bs := rfl
@[simp] theorem State.modSs_tm (s : State) (f : Sensing → Sensing) : (s.modSs f).tm = s.tm := rfl
@[simp] theorem State.modSs_de (s : State) (f : Sensing → Sensing) : (s.modSs f).de = s.de := rfl
@[simp] theorem State.modSs_si (s : State) (f : Sensing → Sensing) : (s.modSs f).si = s.si := rfl
@[simp] theorem State.modSs_os (s : State) (f : Sensing → Sensing) : (s.modSs f).os = s.os := rfl
@[simp] theorem State.modSs_ty (s : State) (f : Sensing → Sensing) : (s.modSs f).ty = s.ty := rfl
@[simp] theorem State.modSs_tb (s : State) (f : Sensing → Sensing) : (s.modSs f).tb = s.tb := rfl
@[simp] theorem State.modSs_en (s : State) (f : Sensing → Sensing) : (s.modSs f).en = s.en := rfl
@[simp] theorem State.modSs_cn (s : State) (f : Sensing → Sensing) : (s.modSs f).cn = s.cn := rfl
@[simp] theorem State.modSs_sy (s : State) (f : Sensing → Sensing) : (s.modSs f).sy = s.sy := rfl
@[simp] theorem State.modSs_ck (s : State) (f : Sensing → Sensing) : (s.modSs f).ck = s.ck := rfl
@[simp] theorem State.modSs_nv (s : State) (f : Sensing → Sensing) : (s.modSs f).nv = s.nv := rfl
@[simp] theorem State.modSs_ld (s : State) (f : Sensing → Sensing) : (s.modSs f).ld = s.ld := rfl
@[simp] theorem State.modSs_lg (s : State) (f : Sensing → Sensing) : (s.modSs f).lg = s.lg := rfl
@[simp] theorem State.modSs_id (s : State) (f : Sensing → Sensing) : (s.modSs f).id = s.id := rfl
@[simp] theorem State.modSs_cfg (s : State) (f : Sensing → Sensing) : (s.modSs f).cfg = s.cfg := rfl
@[simp] theorem State.modSs_stopWait (s : State) (f : Sensing → Sensing) : (s.modSs f).stopWait = s.stopWait := rfl
@[simp] theorem State.modSs_bytesWait (s : State) (f : Sensing → Sensing) : (s.modSs f).bytesWait = s.bytesWait := rfl
@[simp] theorem State.modSs_bytes (s : State) (f : Sensing → Sensing) : (s.modSs f).bytes = s.bytes := rfl
@[simp] theorem State.modSs_freeCount (s : State) (f : Sensing → Sensing) : (s.modSs f).freeCount = s.freeCount := rfl
@[simp] theorem State.modSs_out (s : State) (f : Sensing → Sensing) : (s.modSs f).out = s.out := rfl
@[simp] theorem State.modSs_pending (s : State) (f : Sensing → Sensing) : (s.modSs f).pending = s.pending := rfl

@[simp] theorem State.modIm_fm (s : State) (f : Insulation → Insulation) : (s.modIm f).fm = s.fm := rfl
@[simp] theorem State.modIm_rows (s : State) (f : Insulation → Insulation) : (s.modIm f).rows = s.rows := rfl
@[simp] theorem State.modIm_pm (s : State) (f : Insulation → Insulation) : (s.modIm f).pm = s.pm := rfl
@[simp] theorem State.modIm_ca (s : State) (f : Insulation → Insulation) : (s.modIm f).ca = s.ca := rfl
@[simp] theorem State.modIm_ss (s : State) (f : Insulation → Insulation) : (s.modIm f).ss = s.ss := rfl
@[simp] theorem State.modIm_im (s : State) (f : Insulation → Insulation) : (s.modIm f).im = f s.im := rfl
@[simp] theorem State.modIm_pc (s : State) (f : Insulation → Insulation) : (s.modIm f).pc = s.pc := rfl
@[simp] theorem State.modIm_cl (s : State) (f : Insulation → Insulation) : (s.modIm f).cl = s.cl := rfl
@[simp] theorem State.modIm_ef (s : State) (f : Insulation → Insulation) : (s.modIm f).ef = s.ef := rfl
@[simp] theorem State.modIm_bs (s : State) (f : Insulation → Insulation) : (s.modIm f).bs = s.bs := rfl
@[simp] theorem State.modIm_tm (s : State) (f : Insulation → Insulation) : (s.modIm f).tm = s.tm := rfl
@[simp] theorem State.modIm_de (s : State) (f : Insulation → Insulation) : (s.modIm f).de = s.de := rfl
@[simp] theorem State.modIm_si (s : State) (f : Insulation → Insulation) : (s.modIm f).si = s.si := rfl
@[simp] theorem State.modIm_os (s : State) (f : Insulation → Insulation) : (s.modIm f).os = s.os := rfl
@[simp] theorem State.modIm_ty (s : State) (f : Insulation → Insulation) : (s.modIm f).ty = s.ty := rfl
@[simp] theorem State.modIm_tb (s : State) (f : Insulation → Insulation) : (s.modIm f).tb = s.tb := rfl
@[simp] theorem State.modIm_en (s : State) (f : Insulation → Insulation) : (s.modIm f).en = s.en := rfl
@[simp] theorem State.modIm_cn (s : State) (f : Insulation → Insulation) : (s.modIm f).cn = s.cn := rfl
@[simp] theorem State.modIm_sy (s : State) (f : Insulation → Insulation) : (s.modIm f).sy = s.sy := rfl
@[simp] theorem State.modIm_ck (s : State) (f : Insulation → Insulation) : (s.modIm f).ck = s.ck := rfl
@[simp] theorem State.modIm_nv (s : State) (f : Insulation → Insulation) : (s.modIm f).nv = s.nv := rfl
@[simp] theorem State.modIm_ld (s : State) (f : Insulation → Insulation) : (s.modIm f).ld = s.ld := rfl
@[simp] theorem State.modIm_lg (s : State) (f : Insulation → Insulation) : (s.modIm f).lg = s.lg := rfl
@[simp] theorem State.modIm_id (s : State) (f : Insulation → Insulation) : (s.modIm f).id = s.id := rfl
@[simp] theorem State.modIm_cfg (s : State) (f : Insulation → Insulation) : (s.modIm f).cfg = s.cfg := rfl
@[simp] theorem State.modIm_stopWait (s : State) (f : Insulation → Insulation) : (s.modIm f).stopWait = s.stopWait := rfl
@[simp] theorem State.modIm_bytesWait (s : State) (f : Insulation → Insulation) : (s.modIm f).bytesWait = s.bytesWait := rfl
@[simp] theorem State.modIm_bytes (s : State) (f : Insulation → Insulation) : (s.modIm f).bytes = s.bytes := rfl
@[simp] theorem State.modIm_freeCount (s : State) (f : Insulation → Insulation) : (s.modIm f).freeCount = s.freeCount := rfl
@[simp] theorem State.modIm_out (s : State) (f : Insulation → Insulation) : (s.modIm f).out = s.out := rfl
@[simp] theorem State.modIm_pending (s : State) (f : Insulation → Insulation) : (s.modIm f).pending = s.pending := rfl

@[simp] theorem State.modPc_fm (s : State) (f : Contactor → Contactor) : (s.modPc f).fm = s.fm := rfl
@[simp] theorem State.modPc_rows (s : State) (f : Contactor → Contactor) : (s.modPc f).rows = s.rows := rfl
@[simp] theorem State.modPc_pm (s : State) (f : Contactor → Contactor) : (s.modPc f).pm = s.pm := rfl
@[simp] theorem State.modPc_ca (s : State) (f : Contactor → Contactor) : (s.modPc f).ca = s.ca := rfl
@[simp] theorem State.modPc_ss (s : State) (f : Contactor → Contactor) : (s.modPc f).ss = s.ss := rfl
@[simp] theorem State.modPc_im (s : State) (f : Contactor → Contactor) : (s.modPc f).im = s.im := rfl
@[simp] theorem State.modPc_pc (s : State) (f : Contactor → Contactor) : (s.modPc f).pc = f s.pc := rfl
@[simp] theorem State.modPc_cl (s : State) (f : Contactor → Contactor) : (s.modPc f).cl = s.cl := rfl
@[simp] theorem State.modPc_ef (s : State) (f : Contactor → Contactor) : (s.modPc f).ef = s.ef := rfl
@[simp] theorem State.modPc_bs (s : State) (f : Contactor → Contactor) : (s.modPc f).bs = s.bs := rfl
@[simp] theorem State.modPc_tm (s : State) (f : Contactor → Contactor) : (s.modPc f).tm = s.tm := rfl
@[simp] theorem State.modPc_de (s : State) (f : Contactor → Contactor) : (s.modPc f).de = s.de := rfl
@[simp] theorem State.modPc_si (s : State) (f : Contactor → Contactor) : (s.modPc f).si = s.si := rfl
@[simp] theorem State.modPc_os (s : State) (f : Contactor → Contactor) : (s.modPc f).os = s.os := rfl
@[simp] theorem State.modPc_ty (s : State) (f : Contactor → Contactor) : (s.modPc f).ty = s.ty := rfl
@[simp] theorem State.modPc_tb (s : State) (f : Contactor → Contactor) : (s.modPc f).tb = s.tb := rfl
@[simp] theorem State.modPc_en (s : State) (f : Contactor → Contactor) : (s.modPc f).en = s.en := rfl
@[simp] theorem State.modPc_cn (s : State) (f : Contactor → Contactor) : (s.modPc f).cn = s.cn := rfl
@[simp] theorem State.modPc_sy (s : State) (f : Contactor → Contactor) : (s.modPc f).sy = s.sy := rfl
@[simp] theorem State.modPc_ck (s : State) (f : Contactor → Contactor) : (s.modPc f).ck = s.ck := rfl
@[simp] theorem State.modPc_nv (s : State) (f : Contactor → Contactor) : (s.modPc f).nv = s.nv := rfl
@[simp] theorem State.modPc_ld (s : State) (f : Contactor → Contactor) : (s.modPc f).ld = s.ld := rfl
@[simp] theorem State.modPc_lg (s : State) (f : Contactor → Contactor) : (s.modPc f).lg = s.lg := rfl
@[simp] theorem State.modPc_id (s : State) (f : Contactor → Contactor) : (s.modPc f).id = s.id := rfl
@[simp] theorem State.modPc_cfg (s : State) (f : Contactor → Contactor) : (s.modPc f).cfg = s.cfg := rfl
@[simp] theorem State.modPc_stopWait (s : State) (f : Contactor → Contactor) : (s.modPc f).stopWait = s.stopWait := rfl
@[simp] theorem State.modPc_bytesWait (s : State) (f : Contactor → Contactor) : (s.modPc f).bytesWait = s.bytesWait := rfl
@[simp] theorem State.modPc_bytes (s : State) (f : Contactor → Contactor) : (s.modPc f).bytes = s.bytes := rfl
@[simp] theorem State.modPc_freeCount (s : State) (f : Contactor → Contactor) : (s.modPc f).freeCount = s.freeCount := rfl
@[simp] theorem State.modPc_out (s : State) (f : Contactor → Contactor) : (s.modPc f).out = s.out := rfl
@[simp] theorem State.modPc_pending (s : State) (f : Contactor → Contactor) : (s.modPc f).pending = s.pending := rfl

@[simp] theorem State.modCl_fm (s : State) (f : CellLink → CellLink) : (s.modCl f).fm = s.fm := rfl
@[simp] theorem State.modCl_rows (s : State) (f : CellLink → CellLink) : (s.modCl f).rows = s.rows := rfl
@[simp] theorem State.modCl_pm (s : State) (f : CellLink → CellLink) : (s.modCl f).pm = s.pm := rfl
@[simp] theorem State.modCl_ca (s : State) (f : CellLink → CellLink) : (s.modCl f).ca = s.ca := rfl
@[simp] theorem State.modCl_ss (s : State) (f : CellLink → CellLink) : (s.modCl f).ss = s.ss := rfl
@[simp] theorem State.modCl_im (s : State) (f : CellLink → CellLink) : (s.modCl f).im = s.im := rfl
@[simp] theorem State.modCl_pc (s : State) (f : CellLink → CellLink) : (s.modCl f).pc = s.pc := rfl
@[simp] theorem State.modCl_cl (s : State) (f : CellLink → CellLink) : (s.modCl f).cl = f s.cl := rfl
@[simp] theorem State.modCl_ef (s : State) (f : CellLink → CellLink) : (s.modCl f).ef = s.ef := rfl
@[simp] theorem State.modCl_bs (s : State) (f : CellLink → CellLink) : (s.modCl f).bs = s.bs := rfl
@[simp] theorem State.modCl_tm (s : State) (f : CellLink → CellLink) : (s.modCl f).tm = s.tm := rfl
@[simp] theorem State.modCl_de (s : State) (f : CellLink → CellLink) : (s.modCl f).de = s.de := rfl
@[simp] theorem State.modCl_si (s : State) (f : CellLink → CellLink) : (s.modCl f).si = s.si := rfl
@[simp] theorem State.modCl_os (s : State) (f : CellLink → CellLink) : (s.modCl f).os = s.os := rfl
@[simp] theorem State.modCl_ty (s : State) (f : CellLink → CellLink) : (s.modCl f).ty = s.ty := rfl
@[simp] theorem State.modCl_tb (s : State) (f : CellLink → CellLink) : (s.modCl f).tb = s.tb := rfl
@[simp] theorem State.modCl_en (s : State) (f : CellLink → CellLink) : (s.modCl f).en = s.en := rfl
@[simp] theorem State.modCl_cn (s : State) (f : CellLink → CellLink) : (s.modCl f).cn = s.cn := rfl
@[simp] theorem State.modCl_sy (s : State) (f : CellLink → CellLink) : (s.modCl f).sy = s.sy := rfl
@[simp] theorem State.modCl_ck (s : State) (f : CellLink → CellLink) : (s.modCl f).ck = s.ck := rfl
@[simp] theorem State.modCl_nv (s : State) (f : CellLink → CellLink) : (s.modCl f).nv = s.nv := rfl
@[simp] theorem State.modCl_ld (s : State) (f : CellLink → CellLink) : (s.modCl f).ld = s.ld := rfl
@[simp] theorem State.modCl_lg (s : State) (f : CellLink → CellLink) : (s.modCl f).lg = s.lg := rfl
@[simp] theorem State.modCl_id (s : State) (f : CellLink → CellLink) : (s.modCl f).id = s.id := rfl
@[simp] theorem State.modCl_cfg (s : State) (f : CellLink → CellLink) : (s.modCl f).cfg = s.cfg := rfl
@[simp] theorem State.modCl_stopWait (s : State) (f : CellLink → CellLink) : (s.modCl f).stopWait = s.stopWait := rfl
@[simp] theorem State.modCl_bytesWait (s : State) (f : CellLink → CellLink) : (s.modCl f).bytesWait = s.bytesWait := rfl
@[simp] theorem State.modCl_bytes (s : State) (f : CellLink → CellLink) : (s.modCl f).bytes = s.bytes := rfl
@[simp] theorem State.modCl_freeCount (s : State) (f : CellLink → CellLink) : (s.modCl f).freeCount = s.freeCount := rfl
@[simp] theorem State.modCl_out (s : State) (f : CellLink → CellLink) : (s.modCl f).out = s.out := rfl
@[simp] theorem State.modCl_pending (s : State) (f : CellLink → CellLink) : (s.modCl f).pending = s.pending := rfl

@[simp] theorem State.modEf_fm (s : State) (f : Fabric → Fabric) : (s.modEf f).fm = s.fm := rfl
@[simp] theorem State.modEf_rows (s : State) (f : Fabric → Fabric) : (s.modEf f).rows = s.rows := rfl
@[simp] theorem State.modEf_pm (s : State) (f : Fabric → Fabric) : (s.modEf f).pm = s.pm := rfl
@[simp] theorem State.modEf_ca (s : State) (f : Fabric → Fabric) : (s.modEf f).ca = s.ca := rfl
@[simp] theorem State.modEf_ss (s : State) (f : Fabric → Fabric) : (s.modEf f).ss = s.ss := rfl
@[simp] theorem State.modEf_im (s : State) (f : Fabric → Fabric) : (s.modEf f).im = s.im := rfl
@[simp] theorem State.modEf_pc (s : State) (f : Fabric → Fabric) : (s.modEf f).pc = s.pc := rfl
@[simp] theorem State.modEf_cl (s : State) (f : Fabric → Fabric) : (s.modEf f).cl = s.cl := rfl
@[simp] theorem State.modEf_ef (s : State) (f : Fabric → Fabric) : (s.modEf f).ef = f s.ef := rfl
@[simp] theorem State.modEf_bs (s : State) (f : Fabric → Fabric) : (s.modEf f).bs = s.bs := rfl
@[simp] theorem State.modEf_tm (s : State) (f : Fabric → Fabric) : (s.modEf f).tm = s.tm := rfl
@[simp] theorem State.modEf_de (s : State) (f : Fabric → Fabric) : (s.modEf f).de = s.de := rfl
@[simp] theorem State.modEf_si (s : State) (f : Fabric → Fabric) : (s.modEf f).si = s.si := rfl
@[simp] theorem State.modEf_os (s : State) (f : Fabric → Fabric) : (s.modEf f).os = s.os := rfl
@[simp] theorem State.modEf_ty (s : State) (f : Fabric → Fabric) : (s.modEf f).ty = s.ty := rfl
@[simp] theorem State.modEf_tb (s : State) (f : Fabric → Fabric) : (s.modEf f).tb = s.tb := rfl
@[simp] theorem State.modEf_en (s : State) (f : Fabric → Fabric) : (s.modEf f).en = s.en := rfl
@[simp] theorem State.modEf_cn (s : State) (f : Fabric → Fabric) : (s.modEf f).cn = s.cn := rfl
@[simp] theorem State.modEf_sy (s : State) (f : Fabric → Fabric) : (s.modEf f).sy = s.sy := rfl
@[simp] theorem State.modEf_ck (s : State) (f : Fabric → Fabric) : (s.modEf f).ck = s.ck := rfl
@[simp] theorem State.modEf_nv (s : State) (f : Fabric → Fabric) : (s.modEf f).nv = s.nv := rfl
@[simp] theorem State.modEf_ld (s : State) (f : Fabric → Fabric) : (s.modEf f).ld = s.ld := rfl
@[simp] theorem State.modEf_lg (s : State) (f : Fabric → Fabric) : (s.modEf f).lg = s.lg := rfl
@[simp] theorem State.modEf_id (s : State) (f : Fabric → Fabric) : (s.modEf f).id = s.id := rfl
@[simp] theorem State.modEf_cfg (s : State) (f : Fabric → Fabric) : (s.modEf f).cfg = s.cfg := rfl
@[simp] theorem State.modEf_stopWait (s : State) (f : Fabric → Fabric) : (s.modEf f).stopWait = s.stopWait := rfl
@[simp] theorem State.modEf_bytesWait (s : State) (f : Fabric → Fabric) : (s.modEf f).bytesWait = s.bytesWait := rfl
@[simp] theorem State.modEf_bytes (s : State) (f : Fabric → Fabric) : (s.modEf f).bytes = s.bytes := rfl
@[simp] theorem State.modEf_freeCount (s : State) (f : Fabric → Fabric) : (s.modEf f).freeCount = s.freeCount := rfl
@[simp] theorem State.modEf_out (s : State) (f : Fabric → Fabric) : (s.modEf f).out = s.out := rfl
@[simp] theorem State.modEf_pending (s : State) (f : Fabric → Fabric) : (s.modEf f).pending = s.pending := rfl

@[simp] theorem State.modBs_fm (s : State) (f : Balancer → Balancer) : (s.modBs f).fm = s.fm := rfl
@[simp] theorem State.modBs_rows (s : State) (f : Balancer → Balancer) : (s.modBs f).rows = s.rows := rfl
@[simp] theorem State.modBs_pm (s : State) (f : Balancer → Balancer) : (s.modBs f).pm = s.pm := rfl
@[simp] theorem State.modBs_ca (s : State) (f : Balancer → Balancer) : (s.modBs f).ca = s.ca := rfl
@[simp] theorem State.modBs_ss (s : State) (f : Balancer → Balancer) : (s.modBs f).ss = s.ss := rfl
@[simp] theorem State.modBs_im (s : State) (f : Balancer → Balancer) : (s.modBs f).im = s.im := rfl
@[simp] theorem State.modBs_pc (s : State) (f : Balancer → Balancer) : (s.modBs f).pc = s.pc := rfl
@[simp] theorem State.modBs_cl (s : State) (f : Balancer → Balancer) : (s.modBs f).cl = s.cl := rfl
@[simp] theorem State.modBs_ef (s : State) (f : Balancer → Balancer) : (s.modBs f).ef = s.ef := rfl
@[simp] theorem State.modBs_bs (s : State) (f : Balancer → Balancer) : (s.modBs f).bs = f s.bs := rfl
@[simp] theorem State.modBs_tm (s : State) (f : Balancer → Balancer) : (s.modBs f).tm = s.tm := rfl
@[simp] theorem State.modBs_de (s : State) (f : Balancer → Balancer) : (s.modBs f).de = s.de := rfl
@[simp] theorem State.modBs_si (s : State) (f : Balancer → Balancer) : (s.modBs f).si = s.si := rfl
@[simp] theorem State.modBs_os (s : State) (f : Balancer → Balancer) : (s.modBs f).os = s.os := rfl
@[simp] theorem State.modBs_ty (s : State) (f : Balancer → Balancer) : (s.modBs f).ty = s.ty := rfl
@[simp] theorem State.modBs_tb (s : State) (f : Balancer → Balancer) : (s.modBs f).tb = s.tb := rfl
@[simp] theorem State.modBs_en (s : State) (f : Balancer → Balancer) : (s.modBs f).en = s.en := rfl
@[simp] theorem State.modBs_cn (s : State) (f : Balancer → Balancer) : (s.modBs f).cn = s.cn := rfl
@[simp] theorem State.modBs_sy (s : State) (f : Balancer → Balancer) : (s.modBs f).sy = s.sy := rfl
@[simp] theorem State.modBs_ck (s : State) (f : Balancer → Balancer) : (s.modBs f).ck = s.ck := rfl
@[simp] theorem State.modBs_nv (s : State) (f : Balancer → Balancer) : (s.modBs f).nv = s.nv := rfl
@[simp] theorem State.modBs_ld (s : State) (f : Balancer → Balancer) : (s.modBs f).ld = s.ld := rfl
@[simp] theorem State.modBs_lg (s : State) (f : Balancer → Balancer) : (s.modBs f).lg = s.lg := rfl
@[simp] theorem State.modBs_id (s : State) (f : Balancer → Balancer) : (s.modBs f).id = s.id := rfl
@[simp] theorem State.modBs_cfg (s : State) (f : Balancer → Balancer) : (s.modBs f).cfg = s.cfg := rfl
@[simp] theorem State.modBs_stopWait (s : State) (f : Balancer → Balancer) : (s.modBs f).stopWait = s.stopWait := rfl
@[simp] theorem State.modBs_bytesWait (s : State) (f : Balancer → Balancer) : (s.modBs f).bytesWait = s.bytesWait := rfl
@[simp] theorem State.modBs_bytes (s : State) (f : Balancer → Balancer) : (s.modBs f).bytes = s.bytes := rfl
@[simp] theorem State.modBs_freeCount (s : State) (f : Balancer → Balancer) : (s.modBs f).freeCount = s.freeCount := rfl
@[simp] theorem State.modBs_out (s : State) (f : Balancer → Balancer) : (s.modBs f).out = s.out := rfl
@[simp] theorem State.modBs_pending (s : State) (f : Balancer → Balancer) : (s.modBs f).pending = s.pending := rfl

@[simp] theorem State.modTm_fm (s : State) (f : Thermal → Thermal) : (s.modTm f).fm = s.fm := rfl
@[simp] theorem State.modTm_rows (s : State) (f : Thermal → Thermal) : (s.modTm f).rows = s.rows := rfl
@[simp] theorem State.modTm_pm (s : State) (f : Thermal → Thermal) : (s.modTm f).pm = s.pm := rfl
@[simp] theorem State.modTm_ca (s : State) (f : Thermal → Thermal) : (s.modTm f).ca = s.ca := rfl
@[simp] theorem State.modTm_ss (s : State) (f : Thermal → Thermal) : (s.modTm f).ss = s.ss := rfl
@[simp] theorem State.modTm_im (s : State) (f : Thermal → Thermal) : (s.modTm f).im = s.im := rfl
@[simp] theorem State.modTm_pc (s : State) (f : Thermal → Thermal) : (s.modTm f).pc = s.pc := rfl
@[simp] theorem State.modTm_cl (s : State) (f : Thermal → Thermal) : (s.modTm f).cl = s.cl := rfl
@[simp] theorem State.modTm_ef (s : State) (f : Thermal → Thermal) : (s.modTm f).ef = s.ef := rfl
@[simp] theorem State.modTm_bs (s : State) (f : Thermal → Thermal) : (s.modTm f).bs = s.bs := rfl
@[simp] theorem State.modTm_tm (s : State) (f : Thermal → Thermal) : (s.modTm f).tm = f s.tm := rfl
@[simp] theorem State.modTm_de (s : State) (f : Thermal → Thermal) : (s.modTm f).de = s.de := rfl
@[simp] theorem State.modTm_si (s : State) (f : Thermal → Thermal) : (s.modTm f).si = s.si := rfl
@[simp] theorem State.modTm_os (s : State) (f : Thermal → Thermal) : (s.modTm f).os = s.os := rfl
@[simp] theorem State.modTm_ty (s : State) (f : Thermal → Thermal) : (s.modTm f).ty = s.ty := rfl
@[simp] theorem State.modTm_tb (s : State) (f : Thermal → Thermal) : (s.modTm f).tb = s.tb := rfl
@[simp] theorem State.modTm_en (s : State) (f : Thermal → Thermal) : (s.modTm f).en = s.en := rfl
@[simp] theorem State.modTm_cn (s : State) (f : Thermal → Thermal) : (s.modTm f).cn = s.cn := rfl
@[simp] theorem State.modTm_sy (s : State) (f : Thermal → Thermal) : (s.modTm f).sy = s.sy := rfl
@[simp] theorem State.modTm_ck (s : State) (f : Thermal → Thermal) : (s.modTm f).ck = s.ck := rfl
@[simp] theorem State.modTm_nv (s : State) (f : Thermal → Thermal) : (s.modTm f).nv = s.nv := rfl
@[simp] theorem State.modTm_ld (s : State) (f : Thermal → Thermal) : (s.modTm f).ld = s.ld := rfl
@[simp] theorem State.modTm_lg (s : State) (f : Thermal → Thermal) : (s.modTm f).lg = s.lg := rfl
@[simp] theorem State.modTm_id (s : State) (f : Thermal → Thermal) : (s.modTm f).id = s.id := rfl
@[simp] theorem State.modTm_cfg (s : State) (f : Thermal → Thermal) : (s.modTm f).cfg = s.cfg := rfl
@[simp] theorem State.modTm_stopWait (s : State) (f : Thermal → Thermal) : (s.modTm f).stopWait = s.stopWait := rfl
@[simp] theorem State.modTm_bytesWait (s : State) (f : Thermal → Thermal) : (s.modTm f).bytesWait = s.bytesWait := rfl
@[simp] theorem State.modTm_bytes (s : State) (f : Thermal → Thermal) : (s.modTm f).bytes = s.bytes := rfl
@[simp] theorem State.modTm_freeCount (s : State) (f : Thermal → Thermal) : (s.modTm f).freeCount = s.freeCount := rfl
@[simp] theorem State.modTm_out (s : State) (f : Thermal → Thermal) : (s.modTm f).out = s.out := rfl
@[simp] theorem State.modTm_pending (s : State) (f : Thermal → Thermal) : (s.modTm f).pending = s.pending := rfl

@[simp] theorem State.modDe_fm (s : State) (f : Dispatch → Dispatch) : (s.modDe f).fm = s.fm := rfl
@[simp] theorem State.modDe_rows (s : State) (f : Dispatch → Dispatch) : (s.modDe f).rows = s.rows := rfl
@[simp] theorem State.modDe_pm (s : State) (f : Dispatch → Dispatch) : (s.modDe f).pm = s.pm := rfl
@[simp] theorem State.modDe_ca (s : State) (f : Dispatch → Dispatch) : (s.modDe f).ca = s.ca := rfl
@[simp] theorem State.modDe_ss (s : State) (f : Dispatch → Dispatch) : (s.modDe f).ss = s.ss := rfl
@[simp] theorem State.modDe_im (s : State) (f : Dispatch → Dispatch) : (s.modDe f).im = s.im := rfl
@[simp] theorem State.modDe_pc (s : State) (f : Dispatch → Dispatch) : (s.modDe f).pc = s.pc := rfl
@[simp] theorem State.modDe_cl (s : State) (f : Dispatch → Dispatch) : (s.modDe f).cl = s.cl := rfl
@[simp] theorem State.modDe_ef (s : State) (f : Dispatch → Dispatch) : (s.modDe f).ef = s.ef := rfl
@[simp] theorem State.modDe_bs (s : State) (f : Dispatch → Dispatch) : (s.modDe f).bs = s.bs := rfl
@[simp] theorem State.modDe_tm (s : State) (f : Dispatch → Dispatch) : (s.modDe f).tm = s.tm := rfl
@[simp] theorem State.modDe_de (s : State) (f : Dispatch → Dispatch) : (s.modDe f).de = f s.de := rfl
@[simp] theorem State.modDe_si (s : State) (f : Dispatch → Dispatch) : (s.modDe f).si = s.si := rfl
@[simp] theorem State.modDe_os (s : State) (f : Dispatch → Dispatch) : (s.modDe f).os = s.os := rfl
@[simp] theorem State.modDe_ty (s : State) (f : Dispatch → Dispatch) : (s.modDe f).ty = s.ty := rfl
@[simp] theorem State.modDe_tb (s : State) (f : Dispatch → Dispatch) : (s.modDe f).tb = s.tb := rfl
@[simp] theorem State.modDe_en (s : State) (f : Dispatch → Dispatch) : (s.modDe f).en = s.en := rfl
@[simp] theorem State.modDe_cn (s : State) (f : Dispatch → Dispatch) : (s.modDe f).cn = s.cn := rfl
@[simp] theorem State.modDe_sy (s : State) (f : Dispatch → Dispatch) : (s.modDe f).sy = s.sy := rfl
@[simp] theorem State.modDe_ck (s : State) (f : Dispatch → Dispatch) : (s.modDe f).ck = s.ck := rfl
@[simp] theorem State.modDe_nv (s : State) (f : Dispatch → Dispatch) : (s.modDe f).nv = s.nv := rfl
@[simp] theorem State.modDe_ld (s : State) (f : Dispatch → Dispatch) : (s.modDe f).ld = s.ld := rfl
@[simp] theorem State.modDe_lg (s : State) (f : Dispatch → Dispatch) : (s.modDe f).lg = s.lg := rfl
@[simp] theorem State.modDe_id (s : State) (f : Dispatch → Dispatch) : (s.modDe f).id = s.id := rfl
@[simp] theorem State.modDe_cfg (s : State) (f : Dispatch → Dispatch) : (s.modDe f).cfg = s.cfg := rfl
@[simp] theorem State.modDe_stopWait (s : State) (f : Dispatch → Dispatch) : (s.modDe f).stopWait = s.stopWait := rfl
@[simp] theorem State.modDe_bytesWait (s : State) (f : Dispatch → Dispatch) : (s.modDe f).bytesWait = s.bytesWait := rfl
@[simp] theorem State.modDe_bytes (s : State) (f : Dispatch → Dispatch) : (s.modDe f).bytes = s.bytes := rfl
@[simp] theorem State.modDe_freeCount (s : State) (f : Dispatch → Dispatch) : (s.modDe f).freeCount = s.freeCount := rfl
@[simp] theorem State.modDe_out (s : State) (f : Dispatch → Dispatch) : (s.modDe f).out = s.out := rfl
@[simp] theorem State.modDe_pending (s : State) (f : Dispatch → Dispatch) : (s.modDe f).pending = s.pending := rfl

@[simp] theorem State.modSi_fm (s : State) (f : Safety → Safety) : (s.modSi f).fm = s.fm := rfl
@[simp] theorem State.modSi_rows (s : State) (f : Safety → Safety) : (s.modSi f).rows = s.rows := rfl
@[simp] theorem State.modSi_pm (s : State) (f : Safety → Safety) : (s.modSi f).pm = s.pm := rfl
@[simp] theorem State.modSi_ca (s : State) (f : Safety → Safety) : (s.modSi f).ca = s.ca := rfl
@[simp] theorem State.modSi_ss (s : State) (f : Safety → Safety) : (s.modSi f).ss = s.ss := rfl
@[simp] theorem State.modSi_im (s : State) (f : Safety → Safety) : (s.modSi f).im = s.im := rfl
@[simp] theorem State.modSi_pc (s : State) (f : Safety → Safety) : (s.modSi f).pc = s.pc := rfl
@[simp] theorem State.modSi_cl (s : State) (f : Safety → Safety) : (s.modSi f).cl = s.cl := rfl
@[simp] theorem State.modSi_ef (s : State) (f : Safety → Safety) : (s.modSi f).ef = s.ef := rfl
@[simp] theorem State.modSi_bs (s : State) (f : Safety → Safety) : (s.modSi f).bs = s.bs := rfl
@[simp] theorem State.modSi_tm (s : State) (f : Safety → Safety) : (s.modSi f).tm = s.tm := rfl
@[simp] theorem State.modSi_de (s : State) (f : Safety → Safety) : (s.modSi f).de = s.de := rfl
@[simp] theorem State.modSi_si (s : State) (f : Safety → Safety) : (s.modSi f).si = f s.si := rfl
@[simp] theorem State.modSi_os (s : State) (f : Safety → Safety) : (s.modSi f).os = s.os := rfl
@[simp] theorem State.modSi_ty (s : State) (f : Safety → Safety) : (s.modSi f).ty = s.ty := rfl
@[simp] theorem State.modSi_tb (s : State) (f : Safety → Safety) : (s.modSi f).tb = s.tb := rfl
@[simp] theorem State.modSi_en (s : State) (f : Safety → Safety) : (s.modSi f).en = s.en := rfl
@[simp] theorem State.modSi_cn (s : State) (f : Safety → Safety) : (s.modSi f).cn = s.cn := rfl
@[simp] theorem State.modSi_sy (s : State) (f : Safety → Safety) : (s.modSi f).sy = s.sy := rfl
@[simp] theorem State.modSi_ck (s : State) (f : Safety → Safety) : (s.modSi f).ck = s.ck := rfl
@[simp] theorem State.modSi_nv (s : State) (f : Safety → Safety) : (s.modSi f).nv = s.nv := rfl
@[simp] theorem State.modSi_ld (s : State) (f : Safety → Safety) : (s.modSi f).ld = s.ld := rfl
@[simp] theorem State.modSi_lg (s : State) (f : Safety → Safety) : (s.modSi f).lg = s.lg := rfl
@[simp] theorem State.modSi_id (s : State) (f : Safety → Safety) : (s.modSi f).id = s.id := rfl
@[simp] theorem State.modSi_cfg (s : State) (f : Safety → Safety) : (s.modSi f).cfg = s.cfg := rfl
@[simp] theorem State.modSi_stopWait (s : State) (f : Safety → Safety) : (s.modSi f).stopWait = s.stopWait := rfl
@[simp] theorem State.modSi_bytesWait (s : State) (f : Safety → Safety) : (s.modSi f).bytesWait = s.bytesWait := rfl
@[simp] theorem State.modSi_bytes (s : State) (f : Safety → Safety) : (s.modSi f).bytes = s.bytes := rfl
@[simp] theorem State.modSi_freeCount (s : State) (f : Safety → Safety) : (s.modSi f).freeCount = s.freeCount := rfl
@[simp] theorem State.modSi_out (s : State) (f : Safety → Safety) : (s.modSi f).out = s.out := rfl
@[simp] theorem State.modSi_pending (s : State) (f : Safety → Safety) : (s.modSi f).pending = s.pending := rfl

@[simp] theorem State.modOs_fm (s : State) (f : Outputs → Outputs) : (s.modOs f).fm = s.fm := rfl
@[simp] theorem State.modOs_rows (s : State) (f : Outputs → Outputs) : (s.modOs f).rows = s.rows := rfl
@[simp] theorem State.modOs_pm (s : State) (f : Outputs → Outputs) : (s.modOs f).pm = s.pm := rfl
@[simp] theorem State.modOs_ca (s : State) (f : Outputs → Outputs) : (s.modOs f).ca = s.ca := rfl
@[simp] theorem State.modOs_ss (s : State) (f : Outputs → Outputs) : (s.modOs f).ss = s.ss := rfl
@[simp] theorem State.modOs_im (s : State) (f : Outputs → Outputs) : (s.modOs f).im = s.im := rfl
@[simp] theorem State.modOs_pc (s : State) (f : Outputs → Outputs) : (s.modOs f).pc = s.pc := rfl
@[simp] theorem State.modOs_cl (s : State) (f : Outputs → Outputs) : (s.modOs f).cl = s.cl := rfl
@[simp] theorem State.modOs_ef (s : State) (f : Outputs → Outputs) : (s.modOs f).ef = s.ef := rfl
@[simp] theorem State.modOs_bs (s : State) (f : Outputs → Outputs) : (s.modOs f).bs = s.bs := rfl
@[simp] theorem State.modOs_tm (s : State) (f : Outputs → Outputs) : (s.modOs f).tm = s.tm := rfl
@[simp] theorem State.modOs_de (s : State) (f : Outputs → Outputs) : (s.modOs f).de = s.de := rfl
@[simp] theorem State.modOs_si (s : State) (f : Outputs → Outputs) : (s.modOs f).si = s.si := rfl
@[simp] theorem State.modOs_os (s : State) (f : Outputs → Outputs) : (s.modOs f).os = f s.os := rfl
@[simp] theorem State.modOs_ty (s : State) (f : Outputs → Outputs) : (s.modOs f).ty = s.ty := rfl
@[simp] theorem State.modOs_tb (s : State) (f : Outputs → Outputs) : (s.modOs f).tb = s.tb := rfl
@[simp] theorem State.modOs_en (s : State) (f : Outputs → Outputs) : (s.modOs f).en = s.en := rfl
@[simp] theorem State.modOs_cn (s : State) (f : Outputs → Outputs) : (s.modOs f).cn = s.cn := rfl
@[simp] theorem State.modOs_sy (s : State) (f : Outputs → Outputs) : (s.modOs f).sy = s.sy := rfl
@[simp] theorem State.modOs_ck (s : State) (f : Outputs → Outputs) : (s.modOs f).ck = s.ck := rfl
@[simp] theorem State.modOs_nv (s : State) (f : Outputs → Outputs) : (s.modOs f).nv = s.nv := rfl
@[simp] theorem State.modOs_ld (s : State) (f : Outputs → Outputs) : (s.modOs f).ld = s.ld := rfl
@[simp] theorem State.modOs_lg (s : State) (f : Outputs → Outputs) : (s.modOs f).lg = s.lg := rfl
@[simp] theorem State.modOs_id (s : State) (f : Outputs → Outputs) : (s.modOs f).id = s.id := rfl
@[simp] theorem State.modOs_cfg (s : State) (f : Outputs → Outputs) : (s.modOs f).cfg = s.cfg := rfl
@[simp] theorem State.modOs_stopWait (s : State) (f : Outputs → Outputs) : (s.modOs f).stopWait = s.stopWait := rfl
@[simp] theorem State.modOs_bytesWait (s : State) (f : Outputs → Outputs) : (s.modOs f).bytesWait = s.bytesWait := rfl
@[simp] theorem State.modOs_bytes (s : State) (f : Outputs → Outputs) : (s.modOs f).bytes = s.bytes := rfl
@[simp] theorem State.modOs_freeCount (s : State) (f : Outputs → Outputs) : (s.modOs f).freeCount = s.freeCount := rfl
@[simp] theorem State.modOs_out (s : State) (f : Outputs → Outputs) : (s.modOs f).out = s.out := rfl
@[simp] theorem State.modOs_pending (s : State) (f : Outputs → Outputs) : (s.modOs f).pending = s.pending := rfl

@[simp] theorem State.modTy_fm (s : State) (f : Twin → Twin) : (s.modTy f).fm = s.fm := rfl
@[simp] theorem State.modTy_rows (s : State) (f : Twin → Twin) : (s.modTy f).rows = s.rows := rfl
@[simp] theorem State.modTy_pm (s : State) (f : Twin → Twin) : (s.modTy f).pm = s.pm := rfl
@[simp] theorem State.modTy_ca (s : State) (f : Twin → Twin) : (s.modTy f).ca = s.ca := rfl
@[simp] theorem State.modTy_ss (s : State) (f : Twin → Twin) : (s.modTy f).ss = s.ss := rfl
@[simp] theorem State.modTy_im (s : State) (f : Twin → Twin) : (s.modTy f).im = s.im := rfl
@[simp] theorem State.modTy_pc (s : State) (f : Twin → Twin) : (s.modTy f).pc = s.pc := rfl
@[simp] theorem State.modTy_cl (s : State) (f : Twin → Twin) : (s.modTy f).cl = s.cl := rfl
@[simp] theorem State.modTy_ef (s : State) (f : Twin → Twin) : (s.modTy f).ef = s.ef := rfl
@[simp] theorem State.modTy_bs (s : State) (f : Twin → Twin) : (s.modTy f).bs = s.bs := rfl
@[simp] theorem State.modTy_tm (s : State) (f : Twin → Twin) : (s.modTy f).tm = s.tm := rfl
@[simp] theorem State.modTy_de (s : State) (f : Twin → Twin) : (s.modTy f).de = s.de := rfl
@[simp] theorem State.modTy_si (s : State) (f : Twin → Twin) : (s.modTy f).si = s.si := rfl
@[simp] theorem State.modTy_os (s : State) (f : Twin → Twin) : (s.modTy f).os = s.os := rfl
@[simp] theorem State.modTy_ty (s : State) (f : Twin → Twin) : (s.modTy f).ty = f s.ty := rfl
@[simp] theorem State.modTy_tb (s : State) (f : Twin → Twin) : (s.modTy f).tb = s.tb := rfl
@[simp] theorem State.modTy_en (s : State) (f : Twin → Twin) : (s.modTy f).en = s.en := rfl
@[simp] theorem State.modTy_cn (s : State) (f : Twin → Twin) : (s.modTy f).cn = s.cn := rfl
@[simp] theorem State.modTy_sy (s : State) (f : Twin → Twin) : (s.modTy f).sy = s.sy := rfl
@[simp] theorem State.modTy_ck (s : State) (f : Twin → Twin) : (s.modTy f).ck = s.ck := rfl
@[simp] theorem State.modTy_nv (s : State) (f : Twin → Twin) : (s.modTy f).nv = s.nv := rfl
@[simp] theorem State.modTy_ld (s : State) (f : Twin → Twin) : (s.modTy f).ld = s.ld := rfl
@[simp] theorem State.modTy_lg (s : State) (f : Twin → Twin) : (s.modTy f).lg = s.lg := rfl
@[simp] theorem State.modTy_id (s : State) (f : Twin → Twin) : (s.modTy f).id = s.id := rfl
@[simp] theorem State.modTy_cfg (s : State) (f : Twin → Twin) : (s.modTy f).cfg = s.cfg := rfl
@[simp] theorem State.modTy_stopWait (s : State) (f : Twin → Twin) : (s.modTy f).stopWait = s.stopWait := rfl
@[simp] theorem State.modTy_bytesWait (s : State) (f : Twin → Twin) : (s.modTy f).bytesWait = s.bytesWait := rfl
@[simp] theorem State.modTy_bytes (s : State) (f : Twin → Twin) : (s.modTy f).bytes = s.bytes := rfl
@[simp] theorem State.modTy_freeCount (s : State) (f : Twin → Twin) : (s.modTy f).freeCount = s.freeCount := rfl
@[simp] theorem State.modTy_out (s : State) (f : Twin → Twin) : (s.modTy f).out = s.out := rfl
@[simp] theorem State.modTy_pending (s : State) (f : Twin → Twin) : (s.modTy f).pending = s.pending := rfl

@[simp] theorem State.modTb_fm (s : State) (f : Timebase → Timebase) : (s.modTb f).fm = s.fm := rfl
@[simp] theorem State.modTb_rows (s : State) (f : Timebase → Timebase) : (s.modTb f).rows = s.rows := rfl
@[simp] theorem State.modTb_pm (s : State) (f : Timebase → Timebase) : (s.modTb f).pm = s.pm := rfl
@[simp] theorem State.modTb_ca (s : State) (f : Timebase → Timebase) : (s.modTb f).ca = s.ca := rfl
@[simp] theorem State.modTb_ss (s : State) (f : Timebase → Timebase) : (s.modTb f).ss = s.ss := rfl
@[simp] theorem State.modTb_im (s : State) (f : Timebase → Timebase) : (s.modTb f).im = s.im := rfl
@[simp] theorem State.modTb_pc (s : State) (f : Timebase → Timebase) : (s.modTb f).pc = s.pc := rfl
@[simp] theorem State.modTb_cl (s : State) (f : Timebase → Timebase) : (s.modTb f).cl = s.cl := rfl
@[simp] theorem State.modTb_ef (s : State) (f : Timebase → Timebase) : (s.modTb f).ef = s.ef := rfl
@[simp] theorem State.modTb_bs (s : State) (f : Timebase → Timebase) : (s.modTb f).bs = s.bs := rfl
@[simp] theorem State.modTb_tm (s : State) (f : Timebase → Timebase) : (s.modTb f).tm = s.tm := rfl
@[simp] theorem State.modTb_de (s : State) (f : Timebase → Timebase) : (s.modTb f).de = s.de := rfl
@[simp] theorem State.modTb_si (s : State) (f : Timebase → Timebase) : (s.modTb f).si = s.si := rfl
@[simp] theorem State.modTb_os (s : State) (f : Timebase → Timebase) : (s.modTb f).os = s.os := rfl
@[simp] theorem State.modTb_ty (s : State) (f : Timebase → Timebase) : (s.modTb f).ty = s.ty := rfl
@[simp] theorem State.modTb_tb (s : State) (f : Timebase → Timebase) : (s.modTb f).tb = f s.tb := rfl
@[simp] theorem State.modTb_en (s : State) (f : Timebase → Timebase) : (s.modTb f).en = s.en := rfl
@[simp] theorem State.modTb_cn (s : State) (f : Timebase → Timebase) : (s.modTb f).cn = s.cn := rfl
@[simp] theorem State.modTb_sy (s : State) (f : Timebase → Timebase) : (s.modTb f).sy = s.sy := rfl
@[simp] theorem State.modTb_ck (s : State) (f : Timebase → Timebase) : (s.modTb f).ck = s.ck := rfl
@[simp] theorem State.modTb_nv (s : State) (f : Timebase → Timebase) : (s.modTb f).nv = s.nv := rfl
@[simp] theorem State.modTb_ld (s : State) (f : Timebase → Timebase) : (s.modTb f).ld = s.ld := rfl
@[simp] theorem State.modTb_lg (s : State) (f : Timebase → Timebase) : (s.modTb f).lg = s.lg := rfl
@[simp] theorem State.modTb_id (s : State) (f : Timebase → Timebase) : (s.modTb f).id = s.id := rfl
@[simp] theorem State.modTb_cfg (s : State) (f : Timebase → Timebase) : (s.modTb f).cfg = s.cfg := rfl
@[simp] theorem State.modTb_stopWait (s : State) (f : Timebase → Timebase) : (s.modTb f).stopWait = s.stopWait := rfl
@[simp] theorem State.modTb_bytesWait (s : State) (f : Timebase → Timebase) : (s.modTb f).bytesWait = s.bytesWait := rfl
@[simp] theorem State.modTb_bytes (s : State) (f : Timebase → Timebase) : (s.modTb f).bytes = s.bytes := rfl
@[simp] theorem State.modTb_freeCount (s : State) (f : Timebase → Timebase) : (s.modTb f).freeCount = s.freeCount := rfl
@[simp] theorem State.modTb_out (s : State) (f : Timebase → Timebase) : (s.modTb f).out = s.out := rfl
@[simp] theorem State.modTb_pending (s : State) (f : Timebase → Timebase) : (s.modTb f).pending = s.pending := rfl

@[simp] theorem State.modEn_fm (s : State) (f : Ethernet → Ethernet) : (s.modEn f).fm = s.fm := rfl
@[simp] theorem State.modEn_rows (s : State) (f : Ethernet → Ethernet) : (s.modEn f).rows = s.rows := rfl
@[simp] theorem State.modEn_pm (s : State) (f : Ethernet → Ethernet) : (s.modEn f).pm = s.pm := rfl
@[simp] theorem State.modEn_ca (s : State) (f : Ethernet → Ethernet) : (s.modEn f).ca = s.ca := rfl
@[simp] theorem State.modEn_ss (s : State) (f : Ethernet → Ethernet) : (s.modEn f).ss = s.ss := rfl
@[simp] theorem State.modEn_im (s : State) (f : Ethernet → Ethernet) : (s.modEn f).im = s.im := rfl
@[simp] theorem State.modEn_pc (s : State) (f : Ethernet → Ethernet) : (s.modEn f).pc = s.pc := rfl
@[simp] theorem State.modEn_cl (s : State) (f : Ethernet → Ethernet) : (s.modEn f).cl = s.cl := rfl
@[simp] theorem State.modEn_ef (s : State) (f : Ethernet → Ethernet) : (s.modEn f).ef = s.ef := rfl
@[simp] theorem State.modEn_bs (s : State) (f : Ethernet → Ethernet) : (s.modEn f).bs = s.bs := rfl
@[simp] theorem State.modEn_tm (s : State) (f : Ethernet → Ethernet) : (s.modEn f).tm = s.tm := rfl
@[simp] theorem State.modEn_de (s : State) (f : Ethernet → Ethernet) : (s.modEn f).de = s.de := rfl
@[simp] theorem State.modEn_si (s : State) (f : Ethernet → Ethernet) : (s.modEn f).si = s.si := rfl
@[simp] theorem State.modEn_os (s : State) (f : Ethernet → Ethernet) : (s.modEn f).os = s.os := rfl
@[simp] theorem State.modEn_ty (s : State) (f : Ethernet → Ethernet) : (s.modEn f).ty = s.ty := rfl
@[simp] theorem State.modEn_tb (s : State) (f : Ethernet → Ethernet) : (s.modEn f).tb = s.tb := rfl
@[simp] theorem State.modEn_en (s : State) (f : Ethernet → Ethernet) : (s.modEn f).en = f s.en := rfl
@[simp] theorem State.modEn_cn (s : State) (f : Ethernet → Ethernet) : (s.modEn f).cn = s.cn := rfl
@[simp] theorem State.modEn_sy (s : State) (f : Ethernet → Ethernet) : (s.modEn f).sy = s.sy := rfl
@[simp] theorem State.modEn_ck (s : State) (f : Ethernet → Ethernet) : (s.modEn f).ck = s.ck := rfl
@[simp] theorem State.modEn_nv (s : State) (f : Ethernet → Ethernet) : (s.modEn f).nv = s.nv := rfl
@[simp] theorem State.modEn_ld (s : State) (f : Ethernet → Ethernet) : (s.modEn f).ld = s.ld := rfl
@[simp] theorem State.modEn_lg (s : State) (f : Ethernet → Ethernet) : (s.modEn f).lg = s.lg := rfl
@[simp] theorem State.modEn_id (s : State) (f : Ethernet → Ethernet) : (s.modEn f).id = s.id := rfl
@[simp] theorem State.modEn_cfg (s : State) (f : Ethernet → Ethernet) : (s.modEn f).cfg = s.cfg := rfl
@[simp] theorem State.modEn_stopWait (s : State) (f : Ethernet → Ethernet) : (s.modEn f).stopWait = s.stopWait := rfl
@[simp] theorem State.modEn_bytesWait (s : State) (f : Ethernet → Ethernet) : (s.modEn f).bytesWait = s.bytesWait := rfl
@[simp] theorem State.modEn_bytes (s : State) (f : Ethernet → Ethernet) : (s.modEn f).bytes = s.bytes := rfl
@[simp] theorem State.modEn_freeCount (s : State) (f : Ethernet → Ethernet) : (s.modEn f).freeCount = s.freeCount := rfl
@[simp] theorem State.modEn_out (s : State) (f : Ethernet → Ethernet) : (s.modEn f).out = s.out := rfl
@[simp] theorem State.modEn_pending (s : State) (f : Ethernet → Ethernet) : (s.modEn f).pending = s.pending := rfl

@[simp] theorem State.modCn_fm (s : State) (f : Can → Can) : (s.modCn f).fm = s.fm := rfl
@[simp] theorem State.modCn_rows (s : State) (f : Can → Can) : (s.modCn f).rows = s.rows := rfl
@[simp] theorem State.modCn_pm (s : State) (f : Can → Can) : (s.modCn f).pm = s.pm := rfl
@[simp] theorem State.modCn_ca (s : State) (f : Can → Can) : (s.modCn f).ca = s.ca := rfl
@[simp] theorem State.modCn_ss (s : State) (f : Can → Can) : (s.modCn f).ss = s.ss := rfl
@[simp] theorem State.modCn_im (s : State) (f : Can → Can) : (s.modCn f).im = s.im := rfl
@[simp] theorem State.modCn_pc (s : State) (f : Can → Can) : (s.modCn f).pc = s.pc := rfl
@[simp] theorem State.modCn_cl (s : State) (f : Can → Can) : (s.modCn f).cl = s.cl := rfl
@[simp] theorem State.modCn_ef (s : State) (f : Can → Can) : (s.modCn f).ef = s.ef := rfl
@[simp] theorem State.modCn_bs (s : State) (f : Can → Can) : (s.modCn f).bs = s.bs := rfl
@[simp] theorem State.modCn_tm (s : State) (f : Can → Can) : (s.modCn f).tm = s.tm := rfl
@[simp] theorem State.modCn_de (s : State) (f : Can → Can) : (s.modCn f).de = s.de := rfl
@[simp] theorem State.modCn_si (s : State) (f : Can → Can) : (s.modCn f).si = s.si := rfl
@[simp] theorem State.modCn_os (s : State) (f : Can → Can) : (s.modCn f).os = s.os := rfl
@[simp] theorem State.modCn_ty (s : State) (f : Can → Can) : (s.modCn f).ty = s.ty := rfl
@[simp] theorem State.modCn_tb (s : State) (f : Can → Can) : (s.modCn f).tb = s.tb := rfl
@[simp] theorem State.modCn_en (s : State) (f : Can → Can) : (s.modCn f).en = s.en := rfl
@[simp] theorem State.modCn_cn (s : State) (f : Can → Can) : (s.modCn f).cn = f s.cn := rfl
@[simp] theorem State.modCn_sy (s : State) (f : Can → Can) : (s.modCn f).sy = s.sy := rfl
@[simp] theorem State.modCn_ck (s : State) (f : Can → Can) : (s.modCn f).ck = s.ck := rfl
@[simp] theorem State.modCn_nv (s : State) (f : Can → Can) : (s.modCn f).nv = s.nv := rfl
@[simp] theorem State.modCn_ld (s : State) (f : Can → Can) : (s.modCn f).ld = s.ld := rfl
@[simp] theorem State.modCn_lg (s : State) (f : Can → Can) : (s.modCn f).lg = s.lg := rfl
@[simp] theorem State.modCn_id (s : State) (f : Can → Can) : (s.modCn f).id = s.id := rfl
@[simp] theorem State.modCn_cfg (s : State) (f : Can → Can) : (s.modCn f).cfg = s.cfg := rfl
@[simp] theorem State.modCn_stopWait (s : State) (f : Can → Can) : (s.modCn f).stopWait = s.stopWait := rfl
@[simp] theorem State.modCn_bytesWait (s : State) (f : Can → Can) : (s.modCn f).bytesWait = s.bytesWait := rfl
@[simp] theorem State.modCn_bytes (s : State) (f : Can → Can) : (s.modCn f).bytes = s.bytes := rfl
@[simp] theorem State.modCn_freeCount (s : State) (f : Can → Can) : (s.modCn f).freeCount = s.freeCount := rfl
@[simp] theorem State.modCn_out (s : State) (f : Can → Can) : (s.modCn f).out = s.out := rfl
@[simp] theorem State.modCn_pending (s : State) (f : Can → Can) : (s.modCn f).pending = s.pending := rfl

@[simp] theorem State.modSy_fm (s : State) (f : Syben → Syben) : (s.modSy f).fm = s.fm := rfl
@[simp] theorem State.modSy_rows (s : State) (f : Syben → Syben) : (s.modSy f).rows = s.rows := rfl
@[simp] theorem State.modSy_pm (s : State) (f : Syben → Syben) : (s.modSy f).pm = s.pm := rfl
@[simp] theorem State.modSy_ca (s : State) (f : Syben → Syben) : (s.modSy f).ca = s.ca := rfl
@[simp] theorem State.modSy_ss (s : State) (f : Syben → Syben) : (s.modSy f).ss = s.ss := rfl
@[simp] theorem State.modSy_im (s : State) (f : Syben → Syben) : (s.modSy f).im = s.im := rfl
@[simp] theorem State.modSy_pc (s : State) (f : Syben → Syben) : (s.modSy f).pc = s.pc := rfl
@[simp] theorem State.modSy_cl (s : State) (f : Syben → Syben) : (s.modSy f).cl = s.cl := rfl
@[simp] theorem State.modSy_ef (s : State) (f : Syben → Syben) : (s.modSy f).ef = s.ef := rfl
@[simp] theorem State.modSy_bs (s : State) (f : Syben → Syben) : (s.modSy f).bs = s.bs := rfl
@[simp] theorem State.modSy_tm (s : State) (f : Syben → Syben) : (s.modSy f).tm = s.tm := rfl
@[simp] theorem State.modSy_de (s : State) (f : Syben → Syben) : (s.modSy f).de = s.de := rfl
@[simp] theorem State.modSy_si (s : State) (f : Syben → Syben) : (s.modSy f).si = s.si := rfl
@[simp] theorem State.modSy_os (s : State) (f : Syben → Syben) : (s.modSy f).os = s.os := rfl
@[simp] theorem State.modSy_ty (s : State) (f : Syben → Syben) : (s.modSy f).ty = s.ty := rfl
@[simp] theorem State.modSy_tb (s : State) (f : Syben → Syben) : (s.modSy f).tb = s.tb := rfl
@[simp] theorem State.modSy_en (s : State) (f : Syben → Syben) : (s.modSy f).en = s.en := rfl
@[simp] theorem State.modSy_cn (s : State) (f : Syben → Syben) : (s.modSy f).cn = s.cn := rfl
@[simp] theorem State.modSy_sy (s : State) (f : Syben → Syben) : (s.modSy f).sy = f s.sy := rfl
@[simp] theorem State.modSy_ck (s : State) (f : Syben → Syben) : (s.modSy f).ck = s.ck := rfl
@[simp] theorem State.modSy_nv (s : State) (f : Syben → Syben) : (s.modSy f).nv = s.nv := rfl
@[simp] theorem State.modSy_ld (s : State) (f : Syben → Syben) : (s.modSy f).ld = s.ld := rfl
@[simp] theorem State.modSy_lg (s : State) (f : Syben → Syben) : (s.modSy f).lg = s.lg := rfl
@[simp] theorem State.modSy_id (s : State) (f : Syben → Syben) : (s.modSy f).id = s.id := rfl
@[simp] theorem State.modSy_cfg (s : State) (f : Syben → Syben) : (s.modSy f).cfg = s.cfg := rfl
@[simp] theorem State.modSy_stopWait (s : State) (f : Syben → Syben) : (s.modSy f).stopWait = s.stopWait := rfl
@[simp] theorem State.modSy_bytesWait (s : State) (f : Syben → Syben) : (s.modSy f).bytesWait = s.bytesWait := rfl
@[simp] theorem State.modSy_bytes (s : State) (f : Syben → Syben) : (s.modSy f).bytes = s.bytes := rfl
@[simp] theorem State.modSy_freeCount (s : State) (f : Syben → Syben) : (s.modSy f).freeCount = s.freeCount := rfl
@[simp] theorem State.modSy_out (s : State) (f : Syben → Syben) : (s.modSy f).out = s.out := rfl
@[simp] theorem State.modSy_pending (s : State) (f : Syben → Syben) : (s.modSy f).pending = s.pending := rfl

@[simp] theorem State.modCk_fm (s : State) (f : Tab Engine → Tab Engine) : (s.modCk f).fm = s.fm := rfl
@[simp] theorem State.modCk_rows (s : State) (f : Tab Engine → Tab Engine) : (s.modCk f).rows = s.rows := rfl
@[simp] theorem State.modCk_pm (s : State) (f : Tab Engine → Tab Engine) : (s.modCk f).pm = s.pm := rfl
@[simp] theorem State.modCk_ca (s : State) (f : Tab Engine → Tab Engine) : (s.modCk f).ca = s.ca := rfl
@[simp] theorem State.modCk_ss (s : State) (f : Tab Engine → Tab Engine) : (s.modCk f).ss = s.ss := rfl
@[simp] theorem State.modCk_im (s : State) (f : Tab Engine → Tab Engine) : (s.modCk f).im = s.im := rfl
@[simp] theorem State.modCk_pc (s : State) (f : Tab Engine → Tab Engine) : (s.modCk f).pc = s.pc := rfl
@[simp] theorem State.modCk_cl (s : State) (f : Tab Engine → Tab Engine) : (s.modCk f).cl = s.cl := rfl
@[simp] theorem State.modCk_ef (s : State) (f : Tab Engine → Tab Engine) : (s.modCk f).ef = s.ef := rfl
@[simp] theorem State.modCk_bs (s : State) (f : Tab Engine → Tab Engine) : (s.modCk f).bs = s.bs := rfl
@[simp] theorem State.modCk_tm (s : State) (f : Tab Engine → Tab Engine) : (s.modCk f).tm = s.tm := rfl
@[simp] theorem State.modCk_de (s : State) (f : Tab Engine → Tab Engine) : (s.modCk f).de = s.de := rfl
@[simp] theorem State.modCk_si (s : State) (f : Tab Engine → Tab Engine) : (s.modCk f).si = s.si := rfl
@[simp] theorem State.modCk_os (s : State) (f : Tab Engine → Tab Engine) : (s.modCk f).os = s.os := rfl
@[simp] theorem State.modCk_ty (s : State) (f : Tab Engine → Tab Engine) : (s.modCk f).ty = s.ty := rfl
@[simp] theorem State.modCk_tb (s : State) (f : Tab Engine → Tab Engine) : (s.modCk f).tb = s.tb := rfl
@[simp] theorem State.modCk_en (s : State) (f : Tab Engine → Tab Engine) : (s.modCk f).en = s.en := rfl
@[simp] theorem State.modCk_cn (s : State) (f : Tab Engine → Tab Engine) : (s.modCk f).cn = s.cn := rfl
@[simp] theorem State.modCk_sy (s : State) (f : Tab Engine → Tab Engine) : (s.modCk f).sy = s.sy := rfl
@[simp] theorem State.modCk_ck (s : State) (f : Tab Engine → Tab Engine) : (s.modCk f).ck = f s.ck := rfl
@[simp] theorem State.modCk_nv (s : State) (f : Tab Engine → Tab Engine) : (s.modCk f).nv = s.nv := rfl
@[simp] theorem State.modCk_ld (s : State) (f : Tab Engine → Tab Engine) : (s.modCk f).ld = s.ld := rfl
@[simp] theorem State.modCk_lg (s : State) (f : Tab Engine → Tab Engine) : (s.modCk f).lg = s.lg := rfl
@[simp] theorem State.modCk_id (s : State) (f : Tab Engine → Tab Engine) : (s.modCk f).id = s.id := rfl
@[simp] theorem State.modCk_cfg (s : State) (f : Tab Engine → Tab Engine) : (s.modCk f).cfg = s.cfg := rfl
@[simp] theorem State.modCk_stopWait (s : State) (f : Tab Engine → Tab Engine) : (s.modCk f).stopWait = s.stopWait := rfl
@[simp] theorem State.modCk_bytesWait (s : State) (f : Tab Engine → Tab Engine) : (s.modCk f).bytesWait = s.bytesWait := rfl
@[simp] theorem State.modCk_bytes (s : State) (f : Tab Engine → Tab Engine) : (s.modCk f).bytes = s.bytes := rfl
@[simp] theorem State.modCk_freeCount (s : State) (f : Tab Engine → Tab Engine) : (s.modCk f).freeCount = s.freeCount := rfl
@[simp] theorem State.modCk_out (s : State) (f : Tab Engine → Tab Engine) : (s.modCk f).out = s.out := rfl
@[simp] theorem State.modCk_pending (s : State) (f : Tab Engine → Tab Engine) : (s.modCk f).pending = s.pending := rfl

@[simp] theorem State.modNv_fm (s : State) (f : Nv → Nv) : (s.modNv f).fm = s.fm := rfl
@[simp] theorem State.modNv_rows (s : State) (f : Nv → Nv) : (s.modNv f).rows = s.rows := rfl
@[simp] theorem State.modNv_pm (s : State) (f : Nv → Nv) : (s.modNv f).pm = s.pm := rfl
@[simp] theorem State.modNv_ca (s : State) (f : Nv → Nv) : (s.modNv f).ca = s.ca := rfl
@[simp] theorem State.modNv_ss (s : State) (f : Nv → Nv) : (s.modNv f).ss = s.ss := rfl
@[simp] theorem State.modNv_im (s : State) (f : Nv → Nv) : (s.modNv f).im = s.im := rfl
@[simp] theorem State.modNv_pc (s : State) (f : Nv → Nv) : (s.modNv f).pc = s.pc := rfl
@[simp] theorem State.modNv_cl (s : State) (f : Nv → Nv) : (s.modNv f).cl = s.cl := rfl
@[simp] theorem State.modNv_ef (s : State) (f : Nv → Nv) : (s.modNv f).ef = s.ef := rfl
@[simp] theorem State.modNv_bs (s : State) (f : Nv → Nv) : (s.modNv f).bs = s.bs := rfl
@[simp] theorem State.modNv_tm (s : State) (f : Nv → Nv) : (s.modNv f).tm = s.tm := rfl
@[simp] theorem State.modNv_de (s : State) (f : Nv → Nv) : (s.modNv f).de = s.de := rfl
@[simp] theorem State.modNv_si (s : State) (f : Nv → Nv) : (s.modNv f).si = s.si := rfl
@[simp] theorem State.modNv_os (s : State) (f : Nv → Nv) : (s.modNv f).os = s.os := rfl
@[simp] theorem State.modNv_ty (s : State) (f : Nv → Nv) : (s.modNv f).ty = s.ty := rfl
@[simp] theorem State.modNv_tb (s : State) (f : Nv → Nv) : (s.modNv f).tb = s.tb := rfl
@[simp] theorem State.modNv_en (s : State) (f : Nv → Nv) : (s.modNv f).en = s.en := rfl
@[simp] theorem State.modNv_cn (s : State) (f : Nv → Nv) : (s.modNv f).cn = s.cn := rfl
@[simp] theorem State.modNv_sy (s : State) (f : Nv → Nv) : (s.modNv f).sy = s.sy := rfl
@[simp] theorem State.modNv_ck (s : State) (f : Nv → Nv) : (s.modNv f).ck = s.ck := rfl
@[simp] theorem State.modNv_nv (s : State) (f : Nv → Nv) : (s.modNv f).nv = f s.nv := rfl
@[simp] theorem State.modNv_ld (s : State) (f : Nv → Nv) : (s.modNv f).ld = s.ld := rfl
@[simp] theorem State.modNv_lg (s : State) (f : Nv → Nv) : (s.modNv f).lg = s.lg := rfl
@[simp] theorem State.modNv_id (s : State) (f : Nv → Nv) : (s.modNv f).id = s.id := rfl
@[simp] theorem State.modNv_cfg (s : State) (f : Nv → Nv) : (s.modNv f).cfg = s.cfg := rfl
@[simp] theorem State.modNv_stopWait (s : State) (f : Nv → Nv) : (s.modNv f).stopWait = s.stopWait := rfl
@[simp] theorem State.modNv_bytesWait (s : State) (f : Nv → Nv) : (s.modNv f).bytesWait = s.bytesWait := rfl
@[simp] theorem State.modNv_bytes (s : State) (f : Nv → Nv) : (s.modNv f).bytes = s.bytes := rfl
@[simp] theorem State.modNv_freeCount (s : State) (f : Nv → Nv) : (s.modNv f).freeCount = s.freeCount := rfl
@[simp] theorem State.modNv_out (s : State) (f : Nv → Nv) : (s.modNv f).out = s.out := rfl
@[simp] theorem State.modNv_pending (s : State) (f : Nv → Nv) : (s.modNv f).pending = s.pending := rfl

@[simp] theorem State.modLd_fm (s : State) (f : Loader → Loader) : (s.modLd f).fm = s.fm := rfl
@[simp] theorem State.modLd_rows (s : State) (f : Loader → Loader) : (s.modLd f).rows = s.rows := rfl
@[simp] theorem State.modLd_pm (s : State) (f : Loader → Loader) : (s.modLd f).pm = s.pm := rfl
@[simp] theorem State.modLd_ca (s : State) (f : Loader → Loader) : (s.modLd f).ca = s.ca := rfl
@[simp] theorem State.modLd_ss (s : State) (f : Loader → Loader) : (s.modLd f).ss = s.ss := rfl
@[simp] theorem State.modLd_im (s : State) (f : Loader → Loader) : (s.modLd f).im = s.im := rfl
@[simp] theorem State.modLd_pc (s : State) (f : Loader → Loader) : (s.modLd f).pc = s.pc := rfl
@[simp] theorem State.modLd_cl (s : State) (f : Loader → Loader) : (s.modLd f).cl = s.cl := rfl
@[simp] theorem State.modLd_ef (s : State) (f : Loader → Loader) : (s.modLd f).ef = s.ef := rfl
@[simp] theorem State.modLd_bs (s : State) (f : Loader → Loader) : (s.modLd f).bs = s.bs := rfl
@[simp] theorem State.modLd_tm (s : State) (f : Loader → Loader) : (s.modLd f).tm = s.tm := rfl
@[simp] theorem State.modLd_de (s : State) (f : Loader → Loader) : (s.modLd f).de = s.de := rfl
@[simp] theorem State.modLd_si (s : State) (f : Loader → Loader) : (s.modLd f).si = s.si := rfl
@[simp] theorem State.modLd_os (s : State) (f : Loader → Loader) : (s.modLd f).os = s.os := rfl
@[simp] theorem State.modLd_ty (s : State) (f : Loader → Loader) : (s.modLd f).ty = s.ty := rfl
@[simp] theorem State.modLd_tb (s : State) (f : Loader → Loader) : (s.modLd f).tb = s.tb := rfl
@[simp] theorem State.modLd_en (s : State) (f : Loader → Loader) : (s.modLd f).en = s.en := rfl
@[simp] theorem State.modLd_cn (s : State) (f : Loader → Loader) : (s.modLd f).cn = s.cn := rfl
@[simp] theorem State.modLd_sy (s : State) (f : Loader → Loader) : (s.modLd f).sy = s.sy := rfl
@[simp] theorem State.modLd_ck (s : State) (f : Loader → Loader) : (s.modLd f).ck = s.ck := rfl
@[simp] theorem State.modLd_nv (s : State) (f : Loader → Loader) : (s.modLd f).nv = s.nv := rfl
@[simp] theorem State.modLd_ld (s : State) (f : Loader → Loader) : (s.modLd f).ld = f s.ld := rfl
@[simp] theorem State.modLd_lg (s : State) (f : Loader → Loader) : (s.modLd f).lg = s.lg := rfl
@[simp] theorem State.modLd_id (s : State) (f : Loader → Loader) : (s.modLd f).id = s.id := rfl
@[simp] theorem State.modLd_cfg (s : State) (f : Loader → Loader) : (s.modLd f).cfg = s.cfg := rfl
@[simp] theorem State.modLd_stopWait (s : State) (f : Loader → Loader) : (s.modLd f).stopWait = s.stopWait := rfl
@[simp] theorem State.modLd_bytesWait (s : State) (f : Loader → Loader) : (s.modLd f).bytesWait = s.bytesWait := rfl
@[simp] theorem State.modLd_bytes (s : State) (f : Loader → Loader) : (s.modLd f).bytes = s.bytes := rfl
@[simp] theorem State.modLd_freeCount (s : State) (f : Loader → Loader) : (s.modLd f).freeCount = s.freeCount := rfl
@[simp] theorem State.modLd_out (s : State) (f : Loader → Loader) : (s.modLd f).out = s.out := rfl
@[simp] theorem State.modLd_pending (s : State) (f : Loader → Loader) : (s.modLd f).pending = s.pending := rfl

@[simp] theorem State.modLg_fm (s : State) (f : EventLog → EventLog) : (s.modLg f).fm = s.fm := rfl
@[simp] theorem State.modLg_rows (s : State) (f : EventLog → EventLog) : (s.modLg f).rows = s.rows := rfl
@[simp] theorem State.modLg_pm (s : State) (f : EventLog → EventLog) : (s.modLg f).pm = s.pm := rfl
@[simp] theorem State.modLg_ca (s : State) (f : EventLog → EventLog) : (s.modLg f).ca = s.ca := rfl
@[simp] theorem State.modLg_ss (s : State) (f : EventLog → EventLog) : (s.modLg f).ss = s.ss := rfl
@[simp] theorem State.modLg_im (s : State) (f : EventLog → EventLog) : (s.modLg f).im = s.im := rfl
@[simp] theorem State.modLg_pc (s : State) (f : EventLog → EventLog) : (s.modLg f).pc = s.pc := rfl
@[simp] theorem State.modLg_cl (s : State) (f : EventLog → EventLog) : (s.modLg f).cl = s.cl := rfl
@[simp] theorem State.modLg_ef (s : State) (f : EventLog → EventLog) : (s.modLg f).ef = s.ef := rfl
@[simp] theorem State.modLg_bs (s : State) (f : EventLog → EventLog) : (s.modLg f).bs = s.bs := rfl
@[simp] theorem State.modLg_tm (s : State) (f : EventLog → EventLog) : (s.modLg f).tm = s.tm := rfl
@[simp] theorem State.modLg_de (s : State) (f : EventLog → EventLog) : (s.modLg f).de = s.de := rfl
@[simp] theorem State.modLg_si (s : State) (f : EventLog → EventLog) : (s.modLg f).si = s.si := rfl
@[simp] theorem State.modLg_os (s : State) (f : EventLog → EventLog) : (s.modLg f).os = s.os := rfl
@[simp] theorem State.modLg_ty (s : State) (f : EventLog → EventLog) : (s.modLg f).ty = s.ty := rfl
@[simp] theorem State.modLg_tb (s : State) (f : EventLog → EventLog) : (s.modLg f).tb = s.tb := rfl
@[simp] theorem State.modLg_en (s : State) (f : EventLog → EventLog) : (s.modLg f).en = s.en := rfl
@[simp] theorem State.modLg_cn (s : State) (f : EventLog → EventLog) : (s.modLg f).cn = s.cn := rfl
@[simp] theorem State.modLg_sy (s : State) (f : EventLog → EventLog) : (s.modLg f).sy = s.sy := rfl
@[simp] theorem State.modLg_ck (s : State) (f : EventLog → EventLog) : (s.modLg f).ck = s.ck := rfl
@[simp] theorem State.modLg_nv (s : State) (f : EventLog → EventLog) : (s.modLg f).nv = s.nv := rfl
@[simp] theorem State.modLg_ld (s : State) (f : EventLog → EventLog) : (s.modLg f).ld = s.ld := rfl
@[simp] theorem State.modLg_lg (s : State) (f : EventLog → EventLog) : (s.modLg f).lg = f s.lg := rfl
@[simp] theorem State.modLg_id (s : State) (f : EventLog → EventLog) : (s.modLg f).id = s.id := rfl
@[simp] theorem State.modLg_cfg (s : State) (f : EventLog → EventLog) : (s.modLg f).cfg = s.cfg := rfl
@[simp] theorem State.modLg_stopWait (s : State) (f : EventLog → EventLog) : (s.modLg f).stopWait = s.stopWait := rfl
@[simp] theorem State.modLg_bytesWait (s : State) (f : EventLog → EventLog) : (s.modLg f).bytesWait = s.bytesWait := rfl
@[simp] theorem State.modLg_bytes (s : State) (f : EventLog → EventLog) : (s.modLg f).bytes = s.bytes := rfl
@[simp] theorem State.modLg_freeCount (s : State) (f : EventLog → EventLog) : (s.modLg f).freeCount = s.freeCount := rfl
@[simp] theorem State.modLg_out (s : State) (f : EventLog → EventLog) : (s.modLg f).out = s.out := rfl
@[simp] theorem State.modLg_pending (s : State) (f : EventLog → EventLog) : (s.modLg f).pending = s.pending := rfl

@[simp] theorem State.modId_fm (s : State) (f : Ident → Ident) : (s.modId f).fm = s.fm := rfl
@[simp] theorem State.modId_rows (s : State) (f : Ident → Ident) : (s.modId f).rows = s.rows := rfl
@[simp] theorem State.modId_pm (s : State) (f : Ident → Ident) : (s.modId f).pm = s.pm := rfl
@[simp] theorem State.modId_ca (s : State) (f : Ident → Ident) : (s.modId f).ca = s.ca := rfl
@[simp] theorem State.modId_ss (s : State) (f : Ident → Ident) : (s.modId f).ss = s.ss := rfl
@[simp] theorem State.modId_im (s : State) (f : Ident → Ident) : (s.modId f).im = s.im := rfl
@[simp] theorem State.modId_pc (s : State) (f : Ident → Ident) : (s.modId f).pc = s.pc := rfl
@[simp] theorem State.modId_cl (s : State) (f : Ident → Ident) : (s.modId f).cl = s.cl := rfl
@[simp] theorem State.modId_ef (s : State) (f : Ident → Ident) : (s.modId f).ef = s.ef := rfl
@[simp] theorem State.modId_bs (s : State) (f : Ident → Ident) : (s.modId f).bs = s.bs := rfl
@[simp] theorem State.modId_tm (s : State) (f : Ident → Ident) : (s.modId f).tm = s.tm := rfl
@[simp] theorem State.modId_de (s : State) (f : Ident → Ident) : (s.modId f).de = s.de := rfl
@[simp] theorem State.modId_si (s : State) (f : Ident → Ident) : (s.modId f).si = s.si := rfl
@[simp] theorem State.modId_os (s : State) (f : Ident → Ident) : (s.modId f).os = s.os := rfl
@[simp] theorem State.modId_ty (s : State) (f : Ident → Ident) : (s.modId f).ty = s.ty := rfl
@[simp] theorem State.modId_tb (s : State) (f : Ident → Ident) : (s.modId f).tb = s.tb := rfl
@[simp] theorem State.modId_en (s : State) (f : Ident → Ident) : (s.modId f).en = s.en := rfl
@[simp] theorem State.modId_cn (s : State) (f : Ident → Ident) : (s.modId f).cn = s.cn := rfl
@[simp] theorem State.modId_sy (s : State) (f : Ident → Ident) : (s.modId f).sy = s.sy := rfl
@[simp] theorem State.modId_ck (s : State) (f : Ident → Ident) : (s.modId f).ck = s.ck := rfl
@[simp] theorem State.modId_nv (s : State) (f : Ident → Ident) : (s.modId f).nv = s.nv := rfl
@[simp] theorem State.modId_ld (s : State) (f : Ident → Ident) : (s.modId f).ld = s.ld := rfl
@[simp] theorem State.modId_lg (s : State) (f : Ident → Ident) : (s.modId f).lg = s.lg := rfl
@[simp] theorem State.modId_id (s : State) (f : Ident → Ident) : (s.modId f).id = f s.id := rfl
@[simp] theorem State.modId_cfg (s : State) (f : Ident → Ident) : (s.modId f).cfg = s.cfg := rfl
@[simp] theorem State.modId_stopWait (s : State) (f : Ident → Ident) : (s.modId f).stopWait = s.stopWait := rfl
@[simp] theorem State.modId_bytesWait (s : State) (f : Ident → Ident) : (s.modId f).bytesWait = s.bytesWait := rfl
@[simp] theorem State.modId_bytes (s : State) (f : Ident → Ident) : (s.modId f).bytes = s.bytes := rfl
@[simp] theorem State.modId_freeCount (s : State) (f : Ident → Ident) : (s.modId f).freeCount = s.freeCount := rfl
@[simp] theorem State.modId_out (s : State) (f : Ident → Ident) : (s.modId f).out = s.out := rfl
@[simp] theorem State.modId_pending (s : State) (f : Ident → Ident) : (s.modId f).pending = s.pending := rfl

@[simp] theorem State.modCfg_fm (s : State) (f : Tab Nat → Tab Nat) : (s.modCfg f).fm = s.fm := rfl
@[simp] theorem State.modCfg_rows (s : State) (f : Tab Nat → Tab Nat) : (s.modCfg f).rows = s.rows := rfl
@[simp] theorem State.modCfg_pm (s : State) (f : Tab Nat → Tab Nat) : (s.modCfg f).pm = s.pm := rfl
@[simp] theorem State.modCfg_ca (s : State) (f : Tab Nat → Tab Nat) : (s.modCfg f).ca = s.ca := rfl
@[simp] theorem State.modCfg_ss (s : State) (f : Tab Nat → Tab Nat) : (s.modCfg f).ss = s.ss := rfl
@[simp] theorem State.modCfg_im (s : State) (f : Tab Nat → Tab Nat) : (s.modCfg f).im = s.im := rfl
@[simp] theorem State.modCfg_pc (s : State) (f : Tab Nat → Tab Nat) : (s.modCfg f).pc = s.pc := rfl
@[simp] theorem State.modCfg_cl (s : State) (f : Tab Nat → Tab Nat) : (s.modCfg f).cl = s.cl := rfl
@[simp] theorem State.modCfg_ef (s : State) (f : Tab Nat → Tab Nat) : (s.modCfg f).ef = s.ef := rfl
@[simp] theorem State.modCfg_bs (s : State) (f : Tab Nat → Tab Nat) : (s.modCfg f).bs = s.bs := rfl
@[simp] theorem State.modCfg_tm (s : State) (f : Tab Nat → Tab Nat) : (s.modCfg f).tm = s.tm := rfl
@[simp] theorem State.modCfg_de (s : State) (f : Tab Nat → Tab Nat) : (s.modCfg f).de = s.de := rfl
@[simp] theorem State.modCfg_si (s : State) (f : Tab Nat → Tab Nat) : (s.modCfg f).si = s.si := rfl
@[simp] theorem State.modCfg_os (s : State) (f : Tab Nat → Tab Nat) : (s.modCfg f).os = s.os := rfl
@[simp] theorem State.modCfg_ty (s : State) (f : Tab Nat → Tab Nat) : (s.modCfg f).ty = s.ty := rfl
@[simp] theorem State.modCfg_tb (s : State) (f : Tab Nat → Tab Nat) : (s.modCfg f).tb = s.tb := rfl
@[simp] theorem State.modCfg_en (s : State) (f : Tab Nat → Tab Nat) : (s.modCfg f).en = s.en := rfl
@[simp] theorem State.modCfg_cn (s : State) (f : Tab Nat → Tab Nat) : (s.modCfg f).cn = s.cn := rfl
@[simp] theorem State.modCfg_sy (s : State) (f : Tab Nat → Tab Nat) : (s.modCfg f).sy = s.sy := rfl
@[simp] theorem State.modCfg_ck (s : State) (f : Tab Nat → Tab Nat) : (s.modCfg f).ck = s.ck := rfl
@[simp] theorem State.modCfg_nv (s : State) (f : Tab Nat → Tab Nat) : (s.modCfg f).nv = s.nv := rfl
@[simp] theorem State.modCfg_ld (s : State) (f : Tab Nat → Tab Nat) : (s.modCfg f).ld = s.ld := rfl
@[simp] theorem State.modCfg_lg (s : State) (f : Tab Nat → Tab Nat) : (s.modCfg f).lg = s.lg := rfl
@[simp] theorem State.modCfg_id (s : State) (f : Tab Nat → Tab Nat) : (s.modCfg f).id = s.id := rfl
@[simp] theorem State.modCfg_cfg (s : State) (f : Tab Nat → Tab Nat) : (s.modCfg f).cfg = f s.cfg := rfl
@[simp] theorem State.modCfg_stopWait (s : State) (f : Tab Nat → Tab Nat) : (s.modCfg f).stopWait = s.stopWait := rfl
@[simp] theorem State.modCfg_bytesWait (s : State) (f : Tab Nat → Tab Nat) : (s.modCfg f).bytesWait = s.bytesWait := rfl
@[simp] theorem State.modCfg_bytes (s : State) (f : Tab Nat → Tab Nat) : (s.modCfg f).bytes = s.bytes := rfl
@[simp] theorem State.modCfg_freeCount (s : State) (f : Tab Nat → Tab Nat) : (s.modCfg f).freeCount = s.freeCount := rfl
@[simp] theorem State.modCfg_out (s : State) (f : Tab Nat → Tab Nat) : (s.modCfg f).out = s.out := rfl
@[simp] theorem State.modCfg_pending (s : State) (f : Tab Nat → Tab Nat) : (s.modCfg f).pending = s.pending := rfl

@[simp] theorem State.modStopWait_fm (s : State) (f : Tab Nat → Tab Nat) : (s.modStopWait f).fm = s.fm := rfl
@[simp] theorem State.modStopWait_rows (s : State) (f : Tab Nat → Tab Nat) : (s.modStopWait f).rows = s.rows := rfl
@[simp] theorem State.modStopWait_pm (s : State) (f : Tab Nat → Tab Nat) : (s.modStopWait f).pm = s.pm := rfl
@[simp] theorem State.modStopWait_ca (s : State) (f : Tab Nat → Tab Nat) : (s.modStopWait f).ca = s.ca := rfl
@[simp] theorem State.modStopWait_ss (s : State) (f : Tab Nat → Tab Nat) : (s.modStopWait f).ss = s.ss := rfl
@[simp] theorem State.modStopWait_im (s : State) (f : Tab Nat → Tab Nat) : (s.modStopWait f).im = s.im := rfl
@[simp] theorem State.modStopWait_pc (s : State) (f : Tab Nat → Tab Nat) : (s.modStopWait f).pc = s.pc := rfl
@[simp] theorem State.modStopWait_cl (s : State) (f : Tab Nat → Tab Nat) : (s.modStopWait f).cl = s.cl := rfl
@[simp] theorem State.modStopWait_ef (s : State) (f : Tab Nat → Tab Nat) : (s.modStopWait f).ef = s.ef := rfl
@[simp] theorem State.modStopWait_bs (s : State) (f : Tab Nat → Tab Nat) : (s.modStopWait f).bs = s.bs := rfl
@[simp] theorem State.modStopWait_tm (s : State) (f : Tab Nat → Tab Nat) : (s.modStopWait f).tm = s.tm := rfl
@[simp] theorem State.modStopWait_de (s : State) (f : Tab Nat → Tab Nat) : (s.modStopWait f).de = s.de := rfl
@[simp] theorem State.modStopWait_si (s : State) (f : Tab Nat → Tab Nat) : (s.modStopWait f).si = s.si := rfl
@[simp] theorem State.modStopWait_os (s : State) (f : Tab Nat → Tab Nat) : (s.modStopWait f).os = s.os := rfl
@[simp] theorem State.modStopWait_ty (s : State) (f : Tab Nat → Tab Nat) : (s.modStopWait f).ty = s.ty := rfl
@[simp] theorem State.modStopWait_tb (s : State) (f : Tab Nat → Tab Nat) : (s.modStopWait f).tb = s.tb := rfl
@[simp] theorem State.modStopWait_en (s : State) (f : Tab Nat → Tab Nat) : (s.modStopWait f).en = s.en := rfl
@[simp] theorem State.modStopWait_cn (s : State) (f : Tab Nat → Tab Nat) : (s.modStopWait f).cn = s.cn := rfl
@[simp] theorem State.modStopWait_sy (s : State) (f : Tab Nat → Tab Nat) : (s.modStopWait f).sy = s.sy := rfl
@[simp] theorem State.modStopWait_ck (s : State) (f : Tab Nat → Tab Nat) : (s.modStopWait f).ck = s.ck := rfl
@[simp] theorem State.modStopWait_nv (s : State) (f : Tab Nat → Tab Nat) : (s.modStopWait f).nv = s.nv := rfl
@[simp] theorem State.modStopWait_ld (s : State) (f : Tab Nat → Tab Nat) : (s.modStopWait f).ld = s.ld := rfl
@[simp] theorem State.modStopWait_lg (s : State) (f : Tab Nat → Tab Nat) : (s.modStopWait f).lg = s.lg := rfl
@[simp] theorem State.modStopWait_id (s : State) (f : Tab Nat → Tab Nat) : (s.modStopWait f).id = s.id := rfl
@[simp] theorem State.modStopWait_cfg (s : State) (f : Tab Nat → Tab Nat) : (s.modStopWait f).cfg = s.cfg := rfl
@[simp] theorem State.modStopWait_stopWait (s : State) (f : Tab Nat → Tab Nat) : (s.modStopWait f).stopWait = f s.stopWait := rfl
@[simp] theorem State.modStopWait_bytesWait (s : State) (f : Tab Nat → Tab Nat) : (s.modStopWait f).bytesWait = s.bytesWait := rfl
@[simp] theorem State.modStopWait_bytes (s : State) (f : Tab Nat → Tab Nat) : (s.modStopWait f).bytes = s.bytes := rfl
@[simp] theorem State.modStopWait_freeCount (s : State) (f : Tab Nat → Tab Nat) : (s.modStopWait f).freeCount = s.freeCount := rfl
@[simp] theorem State.modStopWait_out (s : State) (f : Tab Nat → Tab Nat) : (s.modStopWait f).out = s.out := rfl
@[simp] theorem State.modStopWait_pending (s : State) (f : Tab Nat → Tab Nat) : (s.modStopWait f).pending = s.pending := rfl

@[simp] theorem State.modBytesWait_fm (s : State) (f : Tab Nat → Tab Nat) : (s.modBytesWait f).fm = s.fm := rfl
@[simp] theorem State.modBytesWait_rows (s : State) (f : Tab Nat → Tab Nat) : (s.modBytesWait f).rows = s.rows := rfl
@[simp] theorem State.modBytesWait_pm (s : State) (f : Tab Nat → Tab Nat) : (s.modBytesWait f).pm = s.pm := rfl
@[simp] theorem State.modBytesWait_ca (s : State) (f : Tab Nat → Tab Nat) : (s.modBytesWait f).ca = s.ca := rfl
@[simp] theorem State.modBytesWait_ss (s : State) (f : Tab Nat → Tab Nat) : (s.modBytesWait f).ss = s.ss := rfl
@[simp] theorem State.modBytesWait_im (s : State) (f : Tab Nat → Tab Nat) : (s.modBytesWait f).im = s.im := rfl
@[simp] theorem State.modBytesWait_pc (s : State) (f : Tab Nat → Tab Nat) : (s.modBytesWait f).pc = s.pc := rfl
@[simp] theorem State.modBytesWait_cl (s : State) (f : Tab Nat → Tab Nat) : (s.modBytesWait f).cl = s.cl := rfl
@[simp] theorem State.modBytesWait_ef (s : State) (f : Tab Nat → Tab Nat) : (s.modBytesWait f).ef = s.ef := rfl
@[simp] theorem State.modBytesWait_bs (s : State) (f : Tab Nat → Tab Nat) : (s.modBytesWait f).bs = s.bs := rfl
@[simp] theorem State.modBytesWait_tm (s : State) (f : Tab Nat → Tab Nat) : (s.modBytesWait f).tm = s.tm := rfl
@[simp] theorem State.modBytesWait_de (s : State) (f : Tab Nat → Tab Nat) : (s.modBytesWait f).de = s.de := rfl
@[simp] theorem State.modBytesWait_si (s : State) (f : Tab Nat → Tab Nat) : (s.modBytesWait f).si = s.si := rfl
@[simp] theorem State.modBytesWait_os (s : State) (f : Tab Nat → Tab Nat) : (s.modBytesWait f).os = s.os := rfl
@[simp] theorem State.modBytesWait_ty (s : State) (f : Tab Nat → Tab Nat) : (s.modBytesWait f).ty = s.ty := rfl
@[simp] theorem State.modBytesWait_tb (s : State) (f : Tab Nat → Tab Nat) : (s.modBytesWait f).tb = s.tb := rfl
@[simp] theorem State.modBytesWait_en (s : State) (f : Tab Nat → Tab Nat) : (s.modBytesWait f).en = s.en := rfl
@[simp] theorem State.modBytesWait_cn (s : State) (f : Tab Nat → Tab Nat) : (s.modBytesWait f).cn = s.cn := rfl
@[simp] theorem State.modBytesWait_sy (s : State) (f : Tab Nat → Tab Nat) : (s.modBytesWait f).sy = s.sy := rfl
@[simp] theorem State.modBytesWait_ck (s : State) (f : Tab Nat → Tab Nat) : (s.modBytesWait f).ck = s.ck := rfl
@[simp] theorem State.modBytesWait_nv (s : State) (f : Tab Nat → Tab Nat) : (s.modBytesWait f).nv = s.nv := rfl
@[simp] theorem State.modBytesWait_ld (s : State) (f : Tab Nat → Tab Nat) : (s.modBytesWait f).ld = s.ld := rfl
@[simp] theorem State.modBytesWait_lg (s : State) (f : Tab Nat → Tab Nat) : (s.modBytesWait f).lg = s.lg := rfl
@[simp] theorem State.modBytesWait_id (s : State) (f : Tab Nat → Tab Nat) : (s.modBytesWait f).id = s.id := rfl
@[simp] theorem State.modBytesWait_cfg (s : State) (f : Tab Nat → Tab Nat) : (s.modBytesWait f).cfg = s.cfg := rfl
@[simp] theorem State.modBytesWait_stopWait (s : State) (f : Tab Nat → Tab Nat) : (s.modBytesWait f).stopWait = s.stopWait := rfl
@[simp] theorem State.modBytesWait_bytesWait (s : State) (f : Tab Nat → Tab Nat) : (s.modBytesWait f).bytesWait = f s.bytesWait := rfl
@[simp] theorem State.modBytesWait_bytes (s : State) (f : Tab Nat → Tab Nat) : (s.modBytesWait f).bytes = s.bytes := rfl
@[simp] theorem State.modBytesWait_freeCount (s : State) (f : Tab Nat → Tab Nat) : (s.modBytesWait f).freeCount = s.freeCount := rfl
@[simp] theorem State.modBytesWait_out (s : State) (f : Tab Nat → Tab Nat) : (s.modBytesWait f).out = s.out := rfl
@[simp] theorem State.modBytesWait_pending (s : State) (f : Tab Nat → Tab Nat) : (s.modBytesWait f).pending = s.pending := rfl

@[simp] theorem State.modBytes_fm (s : State) (f : List Host.Cell → List Host.Cell) : (s.modBytes f).fm = s.fm := rfl
@[simp] theorem State.modBytes_rows (s : State) (f : List Host.Cell → List Host.Cell) : (s.modBytes f).rows = s.rows := rfl
@[simp] theorem State.modBytes_pm (s : State) (f : List Host.Cell → List Host.Cell) : (s.modBytes f).pm = s.pm := rfl
@[simp] theorem State.modBytes_ca (s : State) (f : List Host.Cell → List Host.Cell) : (s.modBytes f).ca = s.ca := rfl
@[simp] theorem State.modBytes_ss (s : State) (f : List Host.Cell → List Host.Cell) : (s.modBytes f).ss = s.ss := rfl
@[simp] theorem State.modBytes_im (s : State) (f : List Host.Cell → List Host.Cell) : (s.modBytes f).im = s.im := rfl
@[simp] theorem State.modBytes_pc (s : State) (f : List Host.Cell → List Host.Cell) : (s.modBytes f).pc = s.pc := rfl
@[simp] theorem State.modBytes_cl (s : State) (f : List Host.Cell → List Host.Cell) : (s.modBytes f).cl = s.cl := rfl
@[simp] theorem State.modBytes_ef (s : State) (f : List Host.Cell → List Host.Cell) : (s.modBytes f).ef = s.ef := rfl
@[simp] theorem State.modBytes_bs (s : State) (f : List Host.Cell → List Host.Cell) : (s.modBytes f).bs = s.bs := rfl
@[simp] theorem State.modBytes_tm (s : State) (f : List Host.Cell → List Host.Cell) : (s.modBytes f).tm = s.tm := rfl
@[simp] theorem State.modBytes_de (s : State) (f : List Host.Cell → List Host.Cell) : (s.modBytes f).de = s.de := rfl
@[simp] theorem State.modBytes_si (s : State) (f : List Host.Cell → List Host.Cell) : (s.modBytes f).si = s.si := rfl
@[simp] theorem State.modBytes_os (s : State) (f : List Host.Cell → List Host.Cell) : (s.modBytes f).os = s.os := rfl
@[simp] theorem State.modBytes_ty (s : State) (f : List Host.Cell → List Host.Cell) : (s.modBytes f).ty = s.ty := rfl
@[simp] theorem State.modBytes_tb (s : State) (f : List Host.Cell → List Host.Cell) : (s.modBytes f).tb = s.tb := rfl
@[simp] theorem State.modBytes_en (s : State) (f : List Host.Cell → List Host.Cell) : (s.modBytes f).en = s.en := rfl
@[simp] theorem State.modBytes_cn (s : State) (f : List Host.Cell → List Host.Cell) : (s.modBytes f).cn = s.cn := rfl
@[simp] theorem State.modBytes_sy (s : State) (f : List Host.Cell → List Host.Cell) : (s.modBytes f).sy = s.sy := rfl
@[simp] theorem State.modBytes_ck (s : State) (f : List Host.Cell → List Host.Cell) : (s.modBytes f).ck = s.ck := rfl
@[simp] theorem State.modBytes_nv (s : State) (f : List Host.Cell → List Host.Cell) : (s.modBytes f).nv = s.nv := rfl
@[simp] theorem State.modBytes_ld (s : State) (f : List Host.Cell → List Host.Cell) : (s.modBytes f).ld = s.ld := rfl
@[simp] theorem State.modBytes_lg (s : State) (f : List Host.Cell → List Host.Cell) : (s.modBytes f).lg = s.lg := rfl
@[simp] theorem State.modBytes_id (s : State) (f : List Host.Cell → List Host.Cell) : (s.modBytes f).id = s.id := rfl
@[simp] theorem State.modBytes_cfg (s : State) (f : List Host.Cell → List Host.Cell) : (s.modBytes f).cfg = s.cfg := rfl
@[simp] theorem State.modBytes_stopWait (s : State) (f : List Host.Cell → List Host.Cell) : (s.modBytes f).stopWait = s.stopWait := rfl
@[simp] theorem State.modBytes_bytesWait (s : State) (f : List Host.Cell → List Host.Cell) : (s.modBytes f).bytesWait = s.bytesWait := rfl
@[simp] theorem State.modBytes_bytes (s : State) (f : List Host.Cell → List Host.Cell) : (s.modBytes f).bytes = f s.bytes := rfl
@[simp] theorem State.modBytes_freeCount (s : State) (f : List Host.Cell → List Host.Cell) : (s.modBytes f).freeCount = s.freeCount := rfl
@[simp] theorem State.modBytes_out (s : State) (f : List Host.Cell → List Host.Cell) : (s.modBytes f).out = s.out := rfl
@[simp] theorem State.modBytes_pending (s : State) (f : List Host.Cell → List Host.Cell) : (s.modBytes f).pending = s.pending := rfl

@[simp] theorem State.modFreeCount_fm (s : State) (f : Nat → Nat) : (s.modFreeCount f).fm = s.fm := rfl
@[simp] theorem State.modFreeCount_rows (s : State) (f : Nat → Nat) : (s.modFreeCount f).rows = s.rows := rfl
@[simp] theorem State.modFreeCount_pm (s : State) (f : Nat → Nat) : (s.modFreeCount f).pm = s.pm := rfl
@[simp] theorem State.modFreeCount_ca (s : State) (f : Nat → Nat) : (s.modFreeCount f).ca = s.ca := rfl
@[simp] theorem State.modFreeCount_ss (s : State) (f : Nat → Nat) : (s.modFreeCount f).ss = s.ss := rfl
@[simp] theorem State.modFreeCount_im (s : State) (f : Nat → Nat) : (s.modFreeCount f).im = s.im := rfl
@[simp] theorem State.modFreeCount_pc (s : State) (f : Nat → Nat) : (s.modFreeCount f).pc = s.pc := rfl
@[simp] theorem State.modFreeCount_cl (s : State) (f : Nat → Nat) : (s.modFreeCount f).cl = s.cl := rfl
@[simp] theorem State.modFreeCount_ef (s : State) (f : Nat → Nat) : (s.modFreeCount f).ef = s.ef := rfl
@[simp] theorem State.modFreeCount_bs (s : State) (f : Nat → Nat) : (s.modFreeCount f).bs = s.bs := rfl
@[simp] theorem State.modFreeCount_tm (s : State) (f : Nat → Nat) : (s.modFreeCount f).tm = s.tm := rfl
@[simp] theorem State.modFreeCount_de (s : State) (f : Nat → Nat) : (s.modFreeCount f).de = s.de := rfl
@[simp] theorem State.modFreeCount_si (s : State) (f : Nat → Nat) : (s.modFreeCount f).si = s.si := rfl
@[simp] theorem State.modFreeCount_os (s : State) (f : Nat → Nat) : (s.modFreeCount f).os = s.os := rfl
@[simp] theorem State.modFreeCount_ty (s : State) (f : Nat → Nat) : (s.modFreeCount f).ty = s.ty := rfl
@[simp] theorem State.modFreeCount_tb (s : State) (f : Nat → Nat) : (s.modFreeCount f).tb = s.tb := rfl
@[simp] theorem State.modFreeCount_en (s : State) (f : Nat → Nat) : (s.modFreeCount f).en = s.en := rfl
@[simp] theorem State.modFreeCount_cn (s : State) (f : Nat → Nat) : (s.modFreeCount f).cn = s.cn := rfl
@[simp] theorem State.modFreeCount_sy (s : State) (f : Nat → Nat) : (s.modFreeCount f).sy = s.sy := rfl
@[simp] theorem State.modFreeCount_ck (s : State) (f : Nat → Nat) : (s.modFreeCount f).ck = s.ck := rfl
@[simp] theorem State.modFreeCount_nv (s : State) (f : Nat → Nat) : (s.modFreeCount f).nv = s.nv := rfl
@[simp] theorem State.modFreeCount_ld (s : State) (f : Nat → Nat) : (s.modFreeCount f).ld = s.ld := rfl
@[simp] theorem State.modFreeCount_lg (s : State) (f : Nat → Nat) : (s.modFreeCount f).lg = s.lg := rfl
@[simp] theorem State.modFreeCount_id (s : State) (f : Nat → Nat) : (s.modFreeCount f).id = s.id := rfl
@[simp] theorem State.modFreeCount_cfg (s : State) (f : Nat → Nat) : (s.modFreeCount f).cfg = s.cfg := rfl
@[simp] theorem State.modFreeCount_stopWait (s : State) (f : Nat → Nat) : (s.modFreeCount f).stopWait = s.stopWait := rfl
@[simp] theorem State.modFreeCount_bytesWait (s : State) (f : Nat → Nat) : (s.modFreeCount f).bytesWait = s.bytesWait := rfl
@[simp] theorem State.modFreeCount_bytes (s : State) (f : Nat → Nat) : (s.modFreeCount f).bytes = s.bytes := rfl
@[simp] theorem State.modFreeCount_freeCount (s : State) (f : Nat → Nat) : (s.modFreeCount f).freeCount = f s.freeCount := rfl
@[simp] theorem State.modFreeCount_out (s : State) (f : Nat → Nat) : (s.modFreeCount f).out = s.out := rfl
@[simp] theorem State.modFreeCount_pending (s : State) (f : Nat → Nat) : (s.modFreeCount f).pending = s.pending := rfl

@[simp] theorem State.modOut_fm (s : State) (f : List Out → List Out) : (s.modOut f).fm = s.fm := rfl
@[simp] theorem State.modOut_rows (s : State) (f : List Out → List Out) : (s.modOut f).rows = s.rows := rfl
@[simp] theorem State.modOut_pm (s : State) (f : List Out → List Out) : (s.modOut f).pm = s.pm := rfl
@[simp] theorem State.modOut_ca (s : State) (f : List Out → List Out) : (s.modOut f).ca = s.ca := rfl
@[simp] theorem State.modOut_ss (s : State) (f : List Out → List Out) : (s.modOut f).ss = s.ss := rfl
@[simp] theorem State.modOut_im (s : State) (f : List Out → List Out) : (s.modOut f).im = s.im := rfl
@[simp] theorem State.modOut_pc (s : State) (f : List Out → List Out) : (s.modOut f).pc = s.pc := rfl
@[simp] theorem State.modOut_cl (s : State) (f : List Out → List Out) : (s.modOut f).cl = s.cl := rfl
@[simp] theorem State.modOut_ef (s : State) (f : List Out → List Out) : (s.modOut f).ef = s.ef := rfl
@[simp] theorem State.modOut_bs (s : State) (f : List Out → List Out) : (s.modOut f).bs = s.bs := rfl
@[simp] theorem State.modOut_tm (s : State) (f : List Out → List Out) : (s.modOut f).tm = s.tm := rfl
@[simp] theorem State.modOut_de (s : State) (f : List Out → List Out) : (s.modOut f).de = s.de := rfl
@[simp] theorem State.modOut_si (s : State) (f : List Out → List Out) : (s.modOut f).si = s.si := rfl
@[simp] theorem State.modOut_os (s : State) (f : List Out → List Out) : (s.modOut f).os = s.os := rfl
@[simp] theorem State.modOut_ty (s : State) (f : List Out → List Out) : (s.modOut f).ty = s.ty := rfl
@[simp] theorem State.modOut_tb (s : State) (f : List Out → List Out) : (s.modOut f).tb = s.tb := rfl
@[simp] theorem State.modOut_en (s : State) (f : List Out → List Out) : (s.modOut f).en = s.en := rfl
@[simp] theorem State.modOut_cn (s : State) (f : List Out → List Out) : (s.modOut f).cn = s.cn := rfl
@[simp] theorem State.modOut_sy (s : State) (f : List Out → List Out) : (s.modOut f).sy = s.sy := rfl
@[simp] theorem State.modOut_ck (s : State) (f : List Out → List Out) : (s.modOut f).ck = s.ck := rfl
@[simp] theorem State.modOut_nv (s : State) (f : List Out → List Out) : (s.modOut f).nv = s.nv := rfl
@[simp] theorem State.modOut_ld (s : State) (f : List Out → List Out) : (s.modOut f).ld = s.ld := rfl
@[simp] theorem State.modOut_lg (s : State) (f : List Out → List Out) : (s.modOut f).lg = s.lg := rfl
@[simp] theorem State.modOut_id (s : State) (f : List Out → List Out) : (s.modOut f).id = s.id := rfl
@[simp] theorem State.modOut_cfg (s : State) (f : List Out → List Out) : (s.modOut f).cfg = s.cfg := rfl
@[simp] theorem State.modOut_stopWait (s : State) (f : List Out → List Out) : (s.modOut f).stopWait = s.stopWait := rfl
@[simp] theorem State.modOut_bytesWait (s : State) (f : List Out → List Out) : (s.modOut f).bytesWait = s.bytesWait := rfl
@[simp] theorem State.modOut_bytes (s : State) (f : List Out → List Out) : (s.modOut f).bytes = s.bytes := rfl
@[simp] theorem State.modOut_freeCount (s : State) (f : List Out → List Out) : (s.modOut f).freeCount = s.freeCount := rfl
@[simp] theorem State.modOut_out (s : State) (f : List Out → List Out) : (s.modOut f).out = f s.out := rfl
@[simp] theorem State.modOut_pending (s : State) (f : List Out → List Out) : (s.modOut f).pending = s.pending := rfl

@[simp] theorem State.modPending_fm (s : State) (f : List Instr → List Instr) : (s.modPending f).fm = s.fm := rfl
@[simp] theorem State.modPending_rows (s : State) (f : List Instr → List Instr) : (s.modPending f).rows = s.rows := rfl
@[simp] theorem State.modPending_pm (s : State) (f : List Instr → List Instr) : (s.modPending f).pm = s.pm := rfl
@[simp] theorem State.modPending_ca (s : State) (f : List Instr → List Instr) : (s.modPending f).ca = s.ca := rfl
@[simp] theorem State.modPending_ss (s : State) (f : List Instr → List Instr) : (s.modPending f).ss = s.ss := rfl
@[simp] theorem State.modPending_im (s : State) (f : List Instr → List Instr) : (s.modPending f).im = s.im := rfl
@[simp] theorem State.modPending_pc (s : State) (f : List Instr → List Instr) : (s.modPending f).pc = s.pc := rfl
@[simp] theorem State.modPending_cl (s : State) (f : List Instr → List Instr) : (s.modPending f).cl = s.cl := rfl
@[simp] theorem State.modPending_ef (s : State) (f : List Instr → List Instr) : (s.modPending f).ef = s.ef := rfl
@[simp] theorem State.modPending_bs (s : State) (f : List Instr → List Instr) : (s.modPending f).bs = s.bs := rfl
@[simp] theorem State.modPending_tm (s : State) (f : List Instr → List Instr) : (s.modPending f).tm = s.tm := rfl
@[simp] theorem State.modPending_de (s : State) (f : List Instr → List Instr) : (s.modPending f).de = s.de := rfl
@[simp] theorem State.modPending_si (s : State) (f : List Instr → List Instr) : (s.modPending f).si = s.si := rfl
@[simp] theorem State.modPending_os (s : State) (f : List Instr → List Instr) : (s.modPending f).os = s.os := rfl
@[simp] theorem State.modPending_ty (s : State) (f : List Instr → List Instr) : (s.modPending f).ty = s.ty := rfl
@[simp] theorem State.modPending_tb (s : State) (f : List Instr → List Instr) : (s.modPending f).tb = s.tb := rfl
@[simp] theorem State.modPending_en (s : State) (f : List Instr → List Instr) : (s.modPending f).en = s.en := rfl
@[simp] theorem State.modPending_cn (s : State) (f : List Instr → List Instr) : (s.modPending f).cn = s.cn := rfl
@[simp] theorem State.modPending_sy (s : State) (f : List Instr → List Instr) : (s.modPending f).sy = s.sy := rfl
@[simp] theorem State.modPending_ck (s : State) (f : List Instr → List Instr) : (s.modPending f).ck = s.ck := rfl
@[simp] theorem State.modPending_nv (s : State) (f : List Instr → List Instr) : (s.modPending f).nv = s.nv := rfl
@[simp] theorem State.modPending_ld (s : State) (f : List Instr → List Instr) : (s.modPending f).ld = s.ld := rfl
@[simp] theorem State.modPending_lg (s : State) (f : List Instr → List Instr) : (s.modPending f).lg = s.lg := rfl
@[simp] theorem State.modPending_id (s : State) (f : List Instr → List Instr) : (s.modPending f).id = s.id := rfl
@[simp] theorem State.modPending_cfg (s : State) (f : List Instr → List Instr) : (s.modPending f).cfg = s.cfg := rfl
@[simp] theorem State.modPending_stopWait (s : State) (f : List Instr → List Instr) : (s.modPending f).stopWait = s.stopWait := rfl
@[simp] theorem State.modPending_bytesWait (s : State) (f : List Instr → List Instr) : (s.modPending f).bytesWait = s.bytesWait := rfl
@[simp] theorem State.modPending_bytes (s : State) (f : List Instr → List Instr) : (s.modPending f).bytes = s.bytes := rfl
@[simp] theorem State.modPending_freeCount (s : State) (f : List Instr → List Instr) : (s.modPending f).freeCount = s.freeCount := rfl
@[simp] theorem State.modPending_out (s : State) (f : List Instr → List Instr) : (s.modPending f).out = s.out := rfl
@[simp] theorem State.modPending_pending (s : State) (f : List Instr → List Instr) : (s.modPending f).pending = f s.pending := rfl

end Sys2Proof.Machine
end

