-- ==== Sys2Proof/Laws/Frames.lean ====
section
/-! SUPPORT. Frames: the two frame relations are closed under composition, and what the shared operations (emit, free
values, messages, faults, nonvolatile writes, Syben answers) move. -/

namespace Sys2Proof.Machine

/-! ### The relations -/

theorem Twin.traffic_refl (a : Twin) : a.traffic a := rfl

theorem Twin.traffic_trans {a b c : Twin} (h : a.traffic b) (k : b.traffic c) : a.traffic c := by
  unfold Twin.traffic at *; rw [k, h]

theorem Can.traffic_refl (a : Can) : a.traffic a := rfl

theorem Can.traffic_trans {a b c : Can} (h : a.traffic b) (k : b.traffic c) : a.traffic c := by
  unfold Can.traffic at *; rw [k, h]

theorem Ethernet.traffic_refl (a : Ethernet) : a.traffic a := rfl

theorem Ethernet.traffic_trans {a b c : Ethernet} (h : a.traffic b) (k : b.traffic c) : a.traffic c := by
  unfold Ethernet.traffic at *; rw [k, h]

theorem Syben.traffic_refl (a : Syben) : a.traffic a := rfl

theorem Syben.traffic_trans {a b c : Syben} (h : a.traffic b) (k : b.traffic c) : a.traffic c := by
  unfold Syben.traffic at *; rw [k, h]

theorem Part.steady_refl (s : State) (p : Part) : p.steady s s := by
  cases p <;> first | rfl | exact List.prefix_rfl

theorem Part.steady_trans {s t u : State} {p : Part} (h : p.steady s t) (k : p.steady t u) : p.steady s u := by
  cases p
  case ty => exact Twin.traffic_trans h k
  case cn => exact Can.traffic_trans h k
  case en => exact Ethernet.traffic_trans h k
  case sy => exact Syben.traffic_trans h k
  case out => exact List.IsPrefix.trans h k
  all_goals exact Eq.trans k h

theorem Part.same_steady {s t : State} {p : Part} (h : p.same s t) : p.steady s t := by
  cases p
  case ty =>
    have e : t.ty = s.ty := h
    show s.ty.traffic t.ty
    rw [e]; exact Twin.traffic_refl _
  case cn =>
    have e : t.cn = s.cn := h
    show s.cn.traffic t.cn
    rw [e]; exact Can.traffic_refl _
  case en =>
    have e : t.en = s.en := h
    show s.en.traffic t.en
    rw [e]; exact Ethernet.traffic_refl _
  case sy =>
    have e : t.sy = s.sy := h
    show s.sy.traffic t.sy
    rw [e]; exact Syben.traffic_refl _
  case out =>
    have e : t.out = s.out := h
    exact ⟨[], by rw [e]; simp⟩
  all_goals exact h

@[simp] theorem Moves.refl (ps : List Part) (s : State) : Moves ps s s := fun p _ => p.steady_refl s

theorem Moves.trans {ps : List Part} {s t u : State} (h : Moves ps s t) (k : Moves ps t u) : Moves ps s u :=
  fun p hp => Part.steady_trans (h p hp) (k p hp)

theorem Moves.mono {ps qs : List Part} {s t : State} (h : Moves ps s t) (hs : ps ⊆ qs) : Moves qs s t :=
  fun p hp => h p fun k => hp (hs k)

@[simp] theorem Alters.refl (ps : List Part) (s : State) : Alters ps s s := fun p _ => by cases p <;> rfl

theorem Alters.trans {ps : List Part} {s t u : State} (h : Alters ps s t) (k : Alters ps t u) : Alters ps s u :=
  fun p hp => by have a := h p hp; have b := k p hp; cases p <;> exact Eq.trans b a

theorem Alters.mono {ps qs : List Part} {s t : State} (h : Alters ps s t) (hs : ps ⊆ qs) : Alters qs s t :=
  fun p hp => h p fun k => hp (hs k)

theorem Alters.moves {ps : List Part} {s t : State} (h : Alters ps s t) : Moves ps s t :=
  fun p hp => Part.same_steady (h p hp)

/-- A frame goes on through an operation that moves no more. -/
theorem Moves.then {ps qs : List Part} {s t u : State} (h : Moves qs s t) (k : Moves ps t u) (hs : ps ⊆ qs) :
    Moves qs s u := h.trans (k.mono hs)

/-- A frame of a fold. -/
theorem Moves.foldl {ps : List Part} {α : Type} {f : State → α → State} (hf : ∀ u x, Moves ps u (f u x))
    (l : List α) (s : State) : Moves ps s (l.foldl f s) := by
  induction l generalizing s with
  | nil => exact .refl _ _
  | cons x t ih => exact (hf s x).trans (ih _)

@[simp] theorem Moves.ite {ps : List Part} {c : Prop} [Decidable c] {s t u : State} (h : Moves ps s t) (k : Moves ps s u) :
    Moves ps s (if c then t else u) := by split <;> assumption

/-! ### Updates of one part -/

theorem State.modFm_alters (s : State) (f : FaultMgr → FaultMgr) : Alters [.fm] s (s.modFm f) :=
  fun p hp => by cases p <;> first | rfl | exact absurd (by simp) hp

theorem State.modRows_alters (s : State) (f : Rows → Rows) : Alters [.rows] s (s.modRows f) :=
  fun p hp => by cases p <;> first | rfl | exact absurd (by simp) hp

theorem State.modPm_alters (s : State) (f : Power → Power) : Alters [.pm] s (s.modPm f) :=
  fun p hp => by cases p <;> first | rfl | exact absurd (by simp) hp

theorem State.modCa_alters (s : State) (f : Converter → Converter) : Alters [.ca] s (s.modCa f) :=
  fun p hp => by cases p <;> first | rfl | exact absurd (by simp) hp

theorem State.modSs_alters (s : State) (f : Sensing → Sensing) : Alters [.ss] s (s.modSs f) :=
  fun p hp => by cases p <;> first | rfl | exact absurd (by simp) hp

theorem State.modIm_alters (s : State) (f : Insulation → Insulation) : Alters [.im] s (s.modIm f) :=
  fun p hp => by cases p <;> first | rfl | exact absurd (by simp) hp

theorem State.modPc_alters (s : State) (f : Contactor → Contactor) : Alters [.pc] s (s.modPc f) :=
  fun p hp => by cases p <;> first | rfl | exact absurd (by simp) hp

theorem State.modCl_alters (s : State) (f : CellLink → CellLink) : Alters [.cl] s (s.modCl f) :=
  fun p hp => by cases p <;> first | rfl | exact absurd (by simp) hp

theorem State.modEf_alters (s : State) (f : Fabric → Fabric) : Alters [.ef] s (s.modEf f) :=
  fun p hp => by cases p <;> first | rfl | exact absurd (by simp) hp

theorem State.modBs_alters (s : State) (f : Balancer → Balancer) : Alters [.bs] s (s.modBs f) :=
  fun p hp => by cases p <;> first | rfl | exact absurd (by simp) hp

theorem State.modTm_alters (s : State) (f : Thermal → Thermal) : Alters [.tm] s (s.modTm f) :=
  fun p hp => by cases p <;> first | rfl | exact absurd (by simp) hp

theorem State.modDe_alters (s : State) (f : Dispatch → Dispatch) : Alters [.de] s (s.modDe f) :=
  fun p hp => by cases p <;> first | rfl | exact absurd (by simp) hp

theorem State.modSi_alters (s : State) (f : Safety → Safety) : Alters [.si] s (s.modSi f) :=
  fun p hp => by cases p <;> first | rfl | exact absurd (by simp) hp

theorem State.modOs_alters (s : State) (f : Outputs → Outputs) : Alters [.os] s (s.modOs f) :=
  fun p hp => by cases p <;> first | rfl | exact absurd (by simp) hp

theorem State.modTy_alters (s : State) (f : Twin → Twin) : Alters [.ty] s (s.modTy f) :=
  fun p hp => by cases p <;> first | rfl | exact absurd (by simp) hp

theorem State.modTb_alters (s : State) (f : Timebase → Timebase) : Alters [.tb] s (s.modTb f) :=
  fun p hp => by cases p <;> first | rfl | exact absurd (by simp) hp

theorem State.modEn_alters (s : State) (f : Ethernet → Ethernet) : Alters [.en] s (s.modEn f) :=
  fun p hp => by cases p <;> first | rfl | exact absurd (by simp) hp

theorem State.modCn_alters (s : State) (f : Can → Can) : Alters [.cn] s (s.modCn f) :=
  fun p hp => by cases p <;> first | rfl | exact absurd (by simp) hp

theorem State.modSy_alters (s : State) (f : Syben → Syben) : Alters [.sy] s (s.modSy f) :=
  fun p hp => by cases p <;> first | rfl | exact absurd (by simp) hp

theorem State.modCk_alters (s : State) (f : Tab Engine → Tab Engine) : Alters [.ck] s (s.modCk f) :=
  fun p hp => by cases p <;> first | rfl | exact absurd (by simp) hp

theorem State.modNv_alters (s : State) (f : Nv → Nv) : Alters [.nv] s (s.modNv f) :=
  fun p hp => by cases p <;> first | rfl | exact absurd (by simp) hp

theorem State.modLd_alters (s : State) (f : Loader → Loader) : Alters [.ld] s (s.modLd f) :=
  fun p hp => by cases p <;> first | rfl | exact absurd (by simp) hp

theorem State.modLg_alters (s : State) (f : EventLog → EventLog) : Alters [.lg] s (s.modLg f) :=
  fun p hp => by cases p <;> first | rfl | exact absurd (by simp) hp

theorem State.modId_alters (s : State) (f : Ident → Ident) : Alters [.id] s (s.modId f) :=
  fun p hp => by cases p <;> first | rfl | exact absurd (by simp) hp

theorem State.modCfg_alters (s : State) (f : Tab Nat → Tab Nat) : Alters [.cfg] s (s.modCfg f) :=
  fun p hp => by cases p <;> first | rfl | exact absurd (by simp) hp

theorem State.modStopWait_alters (s : State) (f : Tab Nat → Tab Nat) : Alters [.stopWait] s (s.modStopWait f) :=
  fun p hp => by cases p <;> first | rfl | exact absurd (by simp) hp

theorem State.modBytesWait_alters (s : State) (f : Tab Nat → Tab Nat) : Alters [.bytesWait] s (s.modBytesWait f) :=
  fun p hp => by cases p <;> first | rfl | exact absurd (by simp) hp

theorem State.modBytes_alters (s : State) (f : List Host.Cell → List Host.Cell) : Alters [.bytes] s (s.modBytes f) :=
  fun p hp => by cases p <;> first | rfl | exact absurd (by simp) hp

theorem State.modFreeCount_alters (s : State) (f : Nat → Nat) : Alters [.freeCount] s (s.modFreeCount f) :=
  fun p hp => by cases p <;> first | rfl | exact absurd (by simp) hp

theorem State.modOut_alters (s : State) (f : List Out → List Out) : Alters [.out] s (s.modOut f) :=
  fun p hp => by cases p <;> first | rfl | exact absurd (by simp) hp

theorem State.modPending_alters (s : State) (f : List Instr → List Instr) : Alters [.pending] s (s.modPending f) :=
  fun p hp => by cases p <;> first | rfl | exact absurd (by simp) hp

end Sys2Proof.Machine
end

