-- ==== Sys2Proof/Laws/Ops.lean ====
section
/-! SUPPORT. Ops: for each shared operation, what it can move, and what it leaves in the parts that a statement reads. -/

namespace Sys2Proof.Machine

/-! ### What leaves the module, free values, plant time -/

theorem State.emits_moves (s : State) (os : List Out) : Moves [] s (s.emits os) := by
  intro p _; cases p <;> first | rfl | exact ⟨os, rfl⟩

theorem State.emit_moves (s : State) (o : Out) : Moves [] s (s.emit o) := s.emits_moves [o]

theorem State.takeFree_moves (s : State) : Moves [.freeCount] s s.takeFree := (s.modFreeCount_alters _).moves

theorem State.runTo_moves (s : State) (n : Nat) : Moves [.tb] s (s.runTo n) :=
  .ite (s.modTb_alters _).moves (.refl _ _)

theorem State.tick_moves (s : State) : Moves [.tb] s s.tick := .ite (s.modTb_alters _).moves (.refl _ _)

/-! ### Messages -/

theorem State.numberMsg_moves (s : State) (unit : Bool) : Moves [] s (s.numberMsg unit).2 := by
  unfold State.numberMsg; split <;> (intro p _; cases p <;> first | rfl | exact List.prefix_rfl)

theorem State.returnSlot_moves (s : State) (n : Nat) (b : Bytes) : Moves [] s (s.returnSlot n b) := by
  intro p _; cases p <;> first | rfl | exact List.prefix_rfl

theorem State.modSession_moves (s : State) (n : Nat) (f : Session → Session) : Moves [] s (s.modSession n f) := by
  intro p _; cases p <;> first | rfl | exact List.prefix_rfl

/-- Frames join the chain of a controller. -/
theorem State.chain_moves (s : State) (k : Nat) (l : List CanFrame) :
    Moves [] s (s.modCtl k fun c => { c with chain := c.chain ++ l }) := by
  intro p _
  cases p <;> try (first | rfl | exact List.prefix_rfl)
  show Can.traffic _ _
  unfold State.modCtl State.modCn Can.traffic
  dsimp only
  split <;> rfl

/-- What a port of the SFP cages counts moves only traffic. -/
theorem State.modSfp_tx_moves (s : State) (port : Nat) (f : U32 → U32) :
    Moves [] s (s.modSfp port fun p => { p with tx := f p.tx }) := by
  intro p _
  cases p <;> try (first | rfl | exact List.prefix_rfl)
  show Ethernet.traffic _ _
  unfold State.modSfp State.modEn Ethernet.traffic
  dsimp only
  split <;> rfl

theorem State.datagram_moves (s : State) (port target targetPort : Nat) (b : Bytes) :
    Moves [] s (s.datagram port target targetPort b) :=
  (s.emit_moves _).trans (State.modSfp_tx_moves _ port fun n => n + BitVec.ofNat 32 (udpParts 1 1472 b).length)

theorem State.originate_moves (s : State) (x : Session) (opcode : Nat) (payload : Bytes) :
    Moves [] s (s.originate x opcode payload).2 := by
  unfold State.originate
  have h := s.numberMsg_moves false
  generalize s.numberMsg false = q at h
  obtain ⟨n, t⟩ := q
  refine h.trans ?_
  dsimp only
  split
  · exact .refl _ _
  · exact .refl _ _
  · exact (t.emit_moves _).trans (State.chain_moves _ _ _)
  · exact (t.emit_moves _).trans (State.datagram_moves _ _ _ _ _)

theorem State.toReceiveSlot_moves (s t : State) (b : Bytes) (h : s.toReceiveSlot b = some t) : Moves [] s t := by
  unfold State.toReceiveSlot at h
  split at h
  · cases h
  · cases h
    exact Moves.trans (t := s.modSy _) (by intro p _; cases p <;> first | rfl | exact List.prefix_rfl)
      (State.returnSlot_moves _ _ _)

theorem State.heldEvents_moves (s : State) (l : List (List Nat)) :
    Moves [] s (s.modSy fun y => { y with heldEvents := l }) := by
  intro p _; cases p <;> first | rfl | exact List.prefix_rfl

theorem State.sendEvent_moves (s : State) (r : LogRec) (x : Session) : Moves [] s (s.sendEvent r x) := by
  unfold State.sendEvent
  refine (s.originate_moves x 0x31 (logBytes r)).trans ?_
  generalize s.originate x 0x31 (logBytes r) = q
  obtain ⟨b, t⟩ := q
  dsimp only
  split
  · split
    · cases h : t.toReceiveSlot b with
      | none => exact t.heldEvents_moves _
      | some u => exact t.toReceiveSlot_moves u b h
    · exact t.heldEvents_moves _
  · exact .refl _ _

/-! ### Faults -/

theorem State.raise_moves (s : State) (event : Bool) (code item : Nat) : Moves [.fm] s (s.raise event code item) := by
  unfold State.raise
  dsimp only
  refine (s.modFm_alters fun m => m.raise event s.tb.now (s.inPair code) code item).moves.trans ?_
  exact .ite (.foldl (fun u x => (u.sendEvent_moves _ x).mono (by simp)) _ _) (.refl _ _)

theorem State.raiseEvent_moves (s : State) (code item : Nat) : Moves [.fm] s (s.raiseEvent code item) :=
  s.raise_moves true code item

theorem State.raiseCond_moves (s : State) (code item : Nat) : Moves [.fm] s (s.raiseCond code item) :=
  s.raise_moves false code item

theorem State.clearCond_moves (s : State) (code : Nat) : Moves [.fm] s (s.clearCond code) :=
  (s.modFm_alters _).moves

theorem State.cond_moves (s : State) (code : Nat) (b : Bool) (item : Nat) : Moves [.fm] s (s.cond code b item) :=
  .ite (s.raise_moves false code item) (s.modFm_alters _).moves

theorem State.sendEvent_fm (s : State) (r : LogRec) (x : Session) : (s.sendEvent r x).fm = s.fm :=
  s.sendEvent_moves r x .fm (by simp)

theorem State.raise_fm (s : State) (event : Bool) (code item : Nat) :
    (s.raise event code item).fm = s.fm.raise event s.tb.now (s.inPair code) code item := by
  unfold State.raise
  dsimp only
  split
  · generalize State.eventRec _ code item = r
    generalize (List.filter _ _ : List Session) = l
    suffices h : ∀ (u : State), (l.foldl (State.sendEvent · r) u).fm = u.fm from h _
    intro u
    induction l generalizing u with
    | nil => rfl
    | cons x t ih => simp only [List.foldl_cons]; rw [ih, State.sendEvent_fm]
  · rfl

@[simp] theorem State.raiseEvent_fm (s : State) (code item : Nat) :
    (s.raiseEvent code item).fm = s.eventFm code item := s.raise_fm true code item

@[simp] theorem State.raiseCond_fm (s : State) (code item : Nat) :
    (s.raiseCond code item).fm = s.condFm code item := s.raise_fm false code item

@[simp] theorem State.clearCond_fm (s : State) (code : Nat) : (s.clearCond code).fm = s.fm.deactivate code := rfl

/-! ### Nonvolatile writes -/

theorem State.nvKick_moves (s : State) : Moves [.nv] s s.nvKick := .ite (s.modNv_alters _).moves (.refl _ _)

theorem State.journal_moves (s : State) (id : Nat) (payload : List Int) : Moves [.nv] s (s.journal id payload) :=
  (s.modNv_alters _).moves.trans (State.nvKick_moves _)

theorem State.journal6_moves (s : State) : Moves [.nv] s s.journal6 := s.journal_moves _ _

theorem State.logDropped_moves (s : State) (r : LogRec) : Moves [.nv, .lg, .fm] s (s.logDropped r) := by
  unfold State.logDropped
  dsimp only
  generalize ht : (s.modNv _).modLg _ = t
  refine Moves.trans (t := t) ?_ ?_
  · rw [← ht]
    exact ((s.modNv_alters _).moves.mono (by simp)).trans ((State.modLg_alters _ _).moves.mono (by simp))
  · exact .ite (.refl _ _) ((State.raiseEvent_moves _ _ _).mono (by simp))

theorem State.logAdmit_moves (s : State) (r : LogRec) : Moves [.nv, .lg, .fm] s (s.logAdmit r) := by
  unfold State.logAdmit
  dsimp only
  split
  · exact ((s.modNv_alters _).moves.trans (State.nvKick_moves _)).mono (by simp)
  · split
    · exact (((s.modNv_alters _).moves.mono (by simp)).trans (State.logDropped_moves _ _)).trans
        ((State.nvKick_moves _).mono (by simp))
    · exact s.logDropped_moves _

theorem State.logKind_moves (s : State) (kind detail : Nat) : Moves [.nv, .lg, .fm] s (s.logKind kind detail) :=
  s.logAdmit_moves _

/-! ### Requests -/

theorem State.frameIn_moves (s : State) (port : Nat) : Moves [] s (s.frameIn port) := by
  intro p _
  cases p <;> try (first | rfl | exact List.prefix_rfl)
  show Ethernet.traffic _ _
  unfold State.frameIn State.modSfp State.modEn Ethernet.traffic
  dsimp only
  split <;> rfl

theorem State.frameOut_moves (s : State) (port : Nat) : Moves [] s (s.frameOut port) := by
  intro p _
  cases p <;> try (first | rfl | exact List.prefix_rfl)
  show Ethernet.traffic _ _
  unfold State.frameOut State.modSfp State.modEn Ethernet.traffic
  dsimp only
  split <;> rfl

theorem State.answerSlot_moves (s : State) (peer : Source) (b : Option Bytes) : Moves [] s (s.answerSlot peer b) := by
  unfold State.answerSlot
  split
  · split
    · exact .refl _ _
    · exact Moves.trans (t := s.modSy _) (by intro p _; cases p <;> first | rfl | exact List.prefix_rfl)
        (State.returnSlot_moves _ _ _)
  · exact .refl _ _

theorem State.deliver_moves (s : State) (r : Req) (m : Msg) : Moves [] s (s.deliver r m) := by
  unfold State.deliver
  dsimp only
  refine (s.answerSlot_moves r.source (some m.bytes)).trans ?_
  generalize s.answerSlot r.source (some m.bytes) = t
  have h : ∀ u : State, Moves [] u (u.modOut fun o => if r.source = .twinSpi then o else o ++ [.response r.source m]) := by
    intro u p _
    cases p <;> try (first | rfl | exact List.prefix_rfl)
    show u.out <+: if _ then _ else _
    split
    · exact List.prefix_rfl
    · exact ⟨_, rfl⟩
  refine Moves.trans ?_ (h _)
  split
  · exact State.chain_moves _ _ _
  · exact State.datagram_moves _ _ _ _ _
  · exact .refl _ _

theorem State.formMsg_moves (s : State) (r : Req) (unit : Bool) (key : Option Bytes) (opcode status : Nat)
    (payload : Bytes) : Moves [] s (s.formMsg r unit key opcode status payload).2 := s.numberMsg_moves unit

theorem State.refuse_moves (s : State) (r : Req) (unit : Bool) (key : Option Bytes) (opcode status : Nat) :
    Moves [] s (s.refuse r unit key opcode status) :=
  (s.formMsg_moves r unit key opcode status []).trans (State.deliver_moves _ _ _)

theorem State.finish_moves (s : State) (r : Req) (unit : Bool) (x : Session) (opcode status : Nat) (body : Bytes) :
    Moves [] s (s.finish r unit x opcode status body) :=
  ((s.formMsg_moves r unit (some x.m2c) opcode status body).trans (State.modSession_moves _ _ _)).trans
    (State.deliver_moves _ _ _)

theorem State.travel_moves (s : State) (c : CmdRecord) : Moves [] s (s.travel c) := by
  unfold State.travel
  split
  · exact .refl _ _
  · split <;> (intro p _; cases p <;> first | rfl | exact List.prefix_rfl)

/-- A response delivered is the last thing that left, but for the twin's host SPI port. -/
theorem State.deliver_last (s : State) (r : Req) (m : Msg) (h : r.source ≠ .twinSpi) :
    (s.deliver r m).out.getLast? = some (.response r.source m) := by
  have g : ∀ u : State, (u.modOut fun o => if r.source = .twinSpi then o else o ++ [.response r.source m]).out.getLast?
      = some (.response r.source m) := by intro u; simp [h]
  exact g _

/-- What finishes a request answers it. -/
theorem State.finish_answered (s : State) (r : Req) (unit : Bool) (x : Session) (opcode status : Nat) (body : Bytes) :
    Answered (s.finish r unit x opcode status body) r opcode status body := by
  refine ⟨(s.formMsg r unit (some x.m2c) opcode status body).1, rfl, rfl, rfl, rfl, rfl, ?_, ?_⟩
  · simp only [State.formMsg, State.respFlags]; cases unit <;> cases r.shortMac <;> cases s.ty.sideB <;> simp [b2n]
  · intro h; exact State.deliver_last _ _ _ h

/-- An accepted request goes on in its session, and only message traffic has moved. -/
theorem State.enter_accepted {s : State} {r : Req} {opcode : Nat} {payload : Bytes} {fixed : Nat}
    {role : Nat → Bool} {x : Session} (unit : Bool) (h : Accepted s r opcode payload fixed role x) :
    ∃ s1, s.enter r unit opcode payload fixed role = .on s1 x none ∧ Moves [] s s1 := by
  obtain ⟨hc, hcp, hv, hl, hs, hm, hk, hver, hq, hld, hf, hr, hro⟩ := h
  have key : ∀ u : State, u.coreUp = s.coreUp → u.serves r.source = s.serves r.source → u.session r.session = some x →
      u.loaderRuns = s.loaderRuns → u.sessionCheck r unit opcode payload = .ok x := by
    intro u _ _ h3 _
    unfold State.sessionCheck
    simp [hl, h3, hk, hver, ← hm]
  have e1 : (r.seq == x.high) = false := by simp; omega
  have e2 : ¬ r.seq ≤ x.high := by omega
  have e3 : (s.loaderRuns && !loaderOpcodes.contains opcode) = false := by
    rcases hld with h | h
    · simp [h]
    · simp [h]
  have e4 : (decide ((reqArrived r payload).length < fixed) || r.reserved != 0) = false := by
    simp [hr]; omega
  unfold State.enter
  cases hsrc : r.source
  case udp a p =>
    rw [hsrc] at hv
    have k := key (s.frameIn r.sfp) rfl (by rw [hsrc]; rfl) hs rfl
    have e3' : ((s.frameIn r.sfp).loaderRuns && !loaderOpcodes.contains opcode) = false := e3
    have hv' : (s.frameIn r.sfp).serves (.udp a p) = true := hv
    have hc' : (s.frameIn r.sfp).coreUp = true := hc
    have hcp' : (s.frameIn r.sfp).rows.cpRestarting = false := hcp
    refine ⟨?w, ?h1, ?h2⟩
    case h1 =>
      simp only [hc', hcp', hv', k, e1, e2, e3', e4, hro, Bool.not_true, Bool.or_false, Bool.false_eq_true, if_false, Bool.false_and]
      rfl
    case h2 =>
      refine (s.frameIn_moves r.sfp).trans ?_
      exact .ite (State.modSession_moves _ _ _) ((State.modSession_moves _ _ _).trans (State.travel_moves _ _))
  all_goals
    rw [hsrc] at hv
    have k := key s rfl (by rw [hsrc]) hs rfl
    refine ⟨?_, ?_, ?_⟩
    rotate_left
    · simp only [hc, hcp, hv, k, e1, e2, e3, e4, hro, Bool.not_true, Bool.or_false, Bool.false_eq_true, if_false, Bool.false_and]
      rfl
    · exact .ite (State.modSession_moves _ _ _) ((State.modSession_moves _ _ _).trans (State.travel_moves _ _))

end Sys2Proof.Machine
end

