-- ==== Sys2Proof/Laws/Reads.lean ====
section
/-! SUPPORT. Reads: what each part reads after a shared operation that leaves it alone, and frames that go on through the
shared operations. -/

namespace Sys2Proof.Machine


@[simp] theorem Alters.ite {ps : List Part} {c : Prop} [Decidable c] {s t u : State} (h : Alters ps s t)
    (k : Alters ps s u) : Alters ps s (if c then t else u) := by split <;> assumption

/-! ### Frames through updates -/

@[simp] theorem Alters.modFm {ps : List Part} {s u : State} (h : Alters ps s u) (hp : .fm ∈ ps)
    (f : FaultMgr → FaultMgr) : Alters ps s (u.modFm f) := h.trans ((u.modFm_alters f).mono (by simpa using hp))

@[simp] theorem Moves.modFm {ps : List Part} {s u : State} (h : Moves ps s u) (hp : .fm ∈ ps)
    (f : FaultMgr → FaultMgr) : Moves ps s (u.modFm f) := h.then (u.modFm_alters f).moves (by simpa using hp)

@[simp] theorem Alters.modRows {ps : List Part} {s u : State} (h : Alters ps s u) (hp : .rows ∈ ps)
    (f : Rows → Rows) : Alters ps s (u.modRows f) := h.trans ((u.modRows_alters f).mono (by simpa using hp))

@[simp] theorem Moves.modRows {ps : List Part} {s u : State} (h : Moves ps s u) (hp : .rows ∈ ps)
    (f : Rows → Rows) : Moves ps s (u.modRows f) := h.then (u.modRows_alters f).moves (by simpa using hp)

@[simp] theorem Alters.modPm {ps : List Part} {s u : State} (h : Alters ps s u) (hp : .pm ∈ ps)
    (f : Power → Power) : Alters ps s (u.modPm f) := h.trans ((u.modPm_alters f).mono (by simpa using hp))

@[simp] theorem Moves.modPm {ps : List Part} {s u : State} (h : Moves ps s u) (hp : .pm ∈ ps)
    (f : Power → Power) : Moves ps s (u.modPm f) := h.then (u.modPm_alters f).moves (by simpa using hp)

@[simp] theorem Alters.modCa {ps : List Part} {s u : State} (h : Alters ps s u) (hp : .ca ∈ ps)
    (f : Converter → Converter) : Alters ps s (u.modCa f) := h.trans ((u.modCa_alters f).mono (by simpa using hp))

@[simp] theorem Moves.modCa {ps : List Part} {s u : State} (h : Moves ps s u) (hp : .ca ∈ ps)
    (f : Converter → Converter) : Moves ps s (u.modCa f) := h.then (u.modCa_alters f).moves (by simpa using hp)

@[simp] theorem Alters.modSs {ps : List Part} {s u : State} (h : Alters ps s u) (hp : .ss ∈ ps)
    (f : Sensing → Sensing) : Alters ps s (u.modSs f) := h.trans ((u.modSs_alters f).mono (by simpa using hp))

@[simp] theorem Moves.modSs {ps : List Part} {s u : State} (h : Moves ps s u) (hp : .ss ∈ ps)
    (f : Sensing → Sensing) : Moves ps s (u.modSs f) := h.then (u.modSs_alters f).moves (by simpa using hp)

@[simp] theorem Alters.modIm {ps : List Part} {s u : State} (h : Alters ps s u) (hp : .im ∈ ps)
    (f : Insulation → Insulation) : Alters ps s (u.modIm f) := h.trans ((u.modIm_alters f).mono (by simpa using hp))

@[simp] theorem Moves.modIm {ps : List Part} {s u : State} (h : Moves ps s u) (hp : .im ∈ ps)
    (f : Insulation → Insulation) : Moves ps s (u.modIm f) := h.then (u.modIm_alters f).moves (by simpa using hp)

@[simp] theorem Alters.modPc {ps : List Part} {s u : State} (h : Alters ps s u) (hp : .pc ∈ ps)
    (f : Contactor → Contactor) : Alters ps s (u.modPc f) := h.trans ((u.modPc_alters f).mono (by simpa using hp))

@[simp] theorem Moves.modPc {ps : List Part} {s u : State} (h : Moves ps s u) (hp : .pc ∈ ps)
    (f : Contactor → Contactor) : Moves ps s (u.modPc f) := h.then (u.modPc_alters f).moves (by simpa using hp)

@[simp] theorem Alters.modCl {ps : List Part} {s u : State} (h : Alters ps s u) (hp : .cl ∈ ps)
    (f : CellLink → CellLink) : Alters ps s (u.modCl f) := h.trans ((u.modCl_alters f).mono (by simpa using hp))

@[simp] theorem Moves.modCl {ps : List Part} {s u : State} (h : Moves ps s u) (hp : .cl ∈ ps)
    (f : CellLink → CellLink) : Moves ps s (u.modCl f) := h.then (u.modCl_alters f).moves (by simpa using hp)

@[simp] theorem Alters.modEf {ps : List Part} {s u : State} (h : Alters ps s u) (hp : .ef ∈ ps)
    (f : Fabric → Fabric) : Alters ps s (u.modEf f) := h.trans ((u.modEf_alters f).mono (by simpa using hp))

@[simp] theorem Moves.modEf {ps : List Part} {s u : State} (h : Moves ps s u) (hp : .ef ∈ ps)
    (f : Fabric → Fabric) : Moves ps s (u.modEf f) := h.then (u.modEf_alters f).moves (by simpa using hp)

@[simp] theorem Alters.modBs {ps : List Part} {s u : State} (h : Alters ps s u) (hp : .bs ∈ ps)
    (f : Balancer → Balancer) : Alters ps s (u.modBs f) := h.trans ((u.modBs_alters f).mono (by simpa using hp))

@[simp] theorem Moves.modBs {ps : List Part} {s u : State} (h : Moves ps s u) (hp : .bs ∈ ps)
    (f : Balancer → Balancer) : Moves ps s (u.modBs f) := h.then (u.modBs_alters f).moves (by simpa using hp)

@[simp] theorem Alters.modTm {ps : List Part} {s u : State} (h : Alters ps s u) (hp : .tm ∈ ps)
    (f : Thermal → Thermal) : Alters ps s (u.modTm f) := h.trans ((u.modTm_alters f).mono (by simpa using hp))

@[simp] theorem Moves.modTm {ps : List Part} {s u : State} (h : Moves ps s u) (hp : .tm ∈ ps)
    (f : Thermal → Thermal) : Moves ps s (u.modTm f) := h.then (u.modTm_alters f).moves (by simpa using hp)

@[simp] theorem Alters.modDe {ps : List Part} {s u : State} (h : Alters ps s u) (hp : .de ∈ ps)
    (f : Dispatch → Dispatch) : Alters ps s (u.modDe f) := h.trans ((u.modDe_alters f).mono (by simpa using hp))

@[simp] theorem Moves.modDe {ps : List Part} {s u : State} (h : Moves ps s u) (hp : .de ∈ ps)
    (f : Dispatch → Dispatch) : Moves ps s (u.modDe f) := h.then (u.modDe_alters f).moves (by simpa using hp)

@[simp] theorem Alters.modSi {ps : List Part} {s u : State} (h : Alters ps s u) (hp : .si ∈ ps)
    (f : Safety → Safety) : Alters ps s (u.modSi f) := h.trans ((u.modSi_alters f).mono (by simpa using hp))

@[simp] theorem Moves.modSi {ps : List Part} {s u : State} (h : Moves ps s u) (hp : .si ∈ ps)
    (f : Safety → Safety) : Moves ps s (u.modSi f) := h.then (u.modSi_alters f).moves (by simpa using hp)

@[simp] theorem Alters.modOs {ps : List Part} {s u : State} (h : Alters ps s u) (hp : .os ∈ ps)
    (f : Outputs → Outputs) : Alters ps s (u.modOs f) := h.trans ((u.modOs_alters f).mono (by simpa using hp))

@[simp] theorem Moves.modOs {ps : List Part} {s u : State} (h : Moves ps s u) (hp : .os ∈ ps)
    (f : Outputs → Outputs) : Moves ps s (u.modOs f) := h.then (u.modOs_alters f).moves (by simpa using hp)

@[simp] theorem Alters.modTy {ps : List Part} {s u : State} (h : Alters ps s u) (hp : .ty ∈ ps)
    (f : Twin → Twin) : Alters ps s (u.modTy f) := h.trans ((u.modTy_alters f).mono (by simpa using hp))

@[simp] theorem Moves.modTy {ps : List Part} {s u : State} (h : Moves ps s u) (hp : .ty ∈ ps)
    (f : Twin → Twin) : Moves ps s (u.modTy f) := h.then (u.modTy_alters f).moves (by simpa using hp)

@[simp] theorem Alters.modTb {ps : List Part} {s u : State} (h : Alters ps s u) (hp : .tb ∈ ps)
    (f : Timebase → Timebase) : Alters ps s (u.modTb f) := h.trans ((u.modTb_alters f).mono (by simpa using hp))

@[simp] theorem Moves.modTb {ps : List Part} {s u : State} (h : Moves ps s u) (hp : .tb ∈ ps)
    (f : Timebase → Timebase) : Moves ps s (u.modTb f) := h.then (u.modTb_alters f).moves (by simpa using hp)

@[simp] theorem Alters.modEn {ps : List Part} {s u : State} (h : Alters ps s u) (hp : .en ∈ ps)
    (f : Ethernet → Ethernet) : Alters ps s (u.modEn f) := h.trans ((u.modEn_alters f).mono (by simpa using hp))

@[simp] theorem Moves.modEn {ps : List Part} {s u : State} (h : Moves ps s u) (hp : .en ∈ ps)
    (f : Ethernet → Ethernet) : Moves ps s (u.modEn f) := h.then (u.modEn_alters f).moves (by simpa using hp)

@[simp] theorem Alters.modCn {ps : List Part} {s u : State} (h : Alters ps s u) (hp : .cn ∈ ps)
    (f : Can → Can) : Alters ps s (u.modCn f) := h.trans ((u.modCn_alters f).mono (by simpa using hp))

@[simp] theorem Moves.modCn {ps : List Part} {s u : State} (h : Moves ps s u) (hp : .cn ∈ ps)
    (f : Can → Can) : Moves ps s (u.modCn f) := h.then (u.modCn_alters f).moves (by simpa using hp)

@[simp] theorem Alters.modSy {ps : List Part} {s u : State} (h : Alters ps s u) (hp : .sy ∈ ps)
    (f : Syben → Syben) : Alters ps s (u.modSy f) := h.trans ((u.modSy_alters f).mono (by simpa using hp))

@[simp] theorem Moves.modSy {ps : List Part} {s u : State} (h : Moves ps s u) (hp : .sy ∈ ps)
    (f : Syben → Syben) : Moves ps s (u.modSy f) := h.then (u.modSy_alters f).moves (by simpa using hp)

@[simp] theorem Alters.modCk {ps : List Part} {s u : State} (h : Alters ps s u) (hp : .ck ∈ ps)
    (f : Tab Engine → Tab Engine) : Alters ps s (u.modCk f) := h.trans ((u.modCk_alters f).mono (by simpa using hp))

@[simp] theorem Moves.modCk {ps : List Part} {s u : State} (h : Moves ps s u) (hp : .ck ∈ ps)
    (f : Tab Engine → Tab Engine) : Moves ps s (u.modCk f) := h.then (u.modCk_alters f).moves (by simpa using hp)

@[simp] theorem Alters.modNv {ps : List Part} {s u : State} (h : Alters ps s u) (hp : .nv ∈ ps)
    (f : Nv → Nv) : Alters ps s (u.modNv f) := h.trans ((u.modNv_alters f).mono (by simpa using hp))

@[simp] theorem Moves.modNv {ps : List Part} {s u : State} (h : Moves ps s u) (hp : .nv ∈ ps)
    (f : Nv → Nv) : Moves ps s (u.modNv f) := h.then (u.modNv_alters f).moves (by simpa using hp)

@[simp] theorem Alters.modLd {ps : List Part} {s u : State} (h : Alters ps s u) (hp : .ld ∈ ps)
    (f : Loader → Loader) : Alters ps s (u.modLd f) := h.trans ((u.modLd_alters f).mono (by simpa using hp))

@[simp] theorem Moves.modLd {ps : List Part} {s u : State} (h : Moves ps s u) (hp : .ld ∈ ps)
    (f : Loader → Loader) : Moves ps s (u.modLd f) := h.then (u.modLd_alters f).moves (by simpa using hp)

@[simp] theorem Alters.modLg {ps : List Part} {s u : State} (h : Alters ps s u) (hp : .lg ∈ ps)
    (f : EventLog → EventLog) : Alters ps s (u.modLg f) := h.trans ((u.modLg_alters f).mono (by simpa using hp))

@[simp] theorem Moves.modLg {ps : List Part} {s u : State} (h : Moves ps s u) (hp : .lg ∈ ps)
    (f : EventLog → EventLog) : Moves ps s (u.modLg f) := h.then (u.modLg_alters f).moves (by simpa using hp)

@[simp] theorem Alters.modId {ps : List Part} {s u : State} (h : Alters ps s u) (hp : .id ∈ ps)
    (f : Ident → Ident) : Alters ps s (u.modId f) := h.trans ((u.modId_alters f).mono (by simpa using hp))

@[simp] theorem Moves.modId {ps : List Part} {s u : State} (h : Moves ps s u) (hp : .id ∈ ps)
    (f : Ident → Ident) : Moves ps s (u.modId f) := h.then (u.modId_alters f).moves (by simpa using hp)

@[simp] theorem Alters.modCfg {ps : List Part} {s u : State} (h : Alters ps s u) (hp : .cfg ∈ ps)
    (f : Tab Nat → Tab Nat) : Alters ps s (u.modCfg f) := h.trans ((u.modCfg_alters f).mono (by simpa using hp))

@[simp] theorem Moves.modCfg {ps : List Part} {s u : State} (h : Moves ps s u) (hp : .cfg ∈ ps)
    (f : Tab Nat → Tab Nat) : Moves ps s (u.modCfg f) := h.then (u.modCfg_alters f).moves (by simpa using hp)

@[simp] theorem Alters.modStopWait {ps : List Part} {s u : State} (h : Alters ps s u) (hp : .stopWait ∈ ps)
    (f : Tab Nat → Tab Nat) : Alters ps s (u.modStopWait f) := h.trans ((u.modStopWait_alters f).mono (by simpa using hp))

@[simp] theorem Moves.modStopWait {ps : List Part} {s u : State} (h : Moves ps s u) (hp : .stopWait ∈ ps)
    (f : Tab Nat → Tab Nat) : Moves ps s (u.modStopWait f) := h.then (u.modStopWait_alters f).moves (by simpa using hp)

@[simp] theorem Alters.modBytesWait {ps : List Part} {s u : State} (h : Alters ps s u) (hp : .bytesWait ∈ ps)
    (f : Tab Nat → Tab Nat) : Alters ps s (u.modBytesWait f) := h.trans ((u.modBytesWait_alters f).mono (by simpa using hp))

@[simp] theorem Moves.modBytesWait {ps : List Part} {s u : State} (h : Moves ps s u) (hp : .bytesWait ∈ ps)
    (f : Tab Nat → Tab Nat) : Moves ps s (u.modBytesWait f) := h.then (u.modBytesWait_alters f).moves (by simpa using hp)

@[simp] theorem Alters.modBytes {ps : List Part} {s u : State} (h : Alters ps s u) (hp : .bytes ∈ ps)
    (f : List Host.Cell → List Host.Cell) : Alters ps s (u.modBytes f) := h.trans ((u.modBytes_alters f).mono (by simpa using hp))

@[simp] theorem Moves.modBytes {ps : List Part} {s u : State} (h : Moves ps s u) (hp : .bytes ∈ ps)
    (f : List Host.Cell → List Host.Cell) : Moves ps s (u.modBytes f) := h.then (u.modBytes_alters f).moves (by simpa using hp)

@[simp] theorem Alters.modFreeCount {ps : List Part} {s u : State} (h : Alters ps s u) (hp : .freeCount ∈ ps)
    (f : Nat → Nat) : Alters ps s (u.modFreeCount f) := h.trans ((u.modFreeCount_alters f).mono (by simpa using hp))

@[simp] theorem Moves.modFreeCount {ps : List Part} {s u : State} (h : Moves ps s u) (hp : .freeCount ∈ ps)
    (f : Nat → Nat) : Moves ps s (u.modFreeCount f) := h.then (u.modFreeCount_alters f).moves (by simpa using hp)

@[simp] theorem Alters.modOut {ps : List Part} {s u : State} (h : Alters ps s u) (hp : .out ∈ ps)
    (f : List Out → List Out) : Alters ps s (u.modOut f) := h.trans ((u.modOut_alters f).mono (by simpa using hp))

@[simp] theorem Moves.modOut {ps : List Part} {s u : State} (h : Moves ps s u) (hp : .out ∈ ps)
    (f : List Out → List Out) : Moves ps s (u.modOut f) := h.then (u.modOut_alters f).moves (by simpa using hp)

@[simp] theorem Alters.modPending {ps : List Part} {s u : State} (h : Alters ps s u) (hp : .pending ∈ ps)
    (f : List Instr → List Instr) : Alters ps s (u.modPending f) := h.trans ((u.modPending_alters f).mono (by simpa using hp))

@[simp] theorem Moves.modPending {ps : List Part} {s u : State} (h : Moves ps s u) (hp : .pending ∈ ps)
    (f : List Instr → List Instr) : Moves ps s (u.modPending f) := h.then (u.modPending_alters f).moves (by simpa using hp)

/-! ### Frames through the shared operations -/

@[simp] theorem Moves.emit {ps : List Part} {s u : State} (h : Moves ps s u)  (o : Out) :
    Moves ps s (u.emit o) := h.then (u.emit_moves o) (by simp)

@[simp] theorem Moves.emits {ps : List Part} {s u : State} (h : Moves ps s u)  (os : List Out) :
    Moves ps s (u.emits os) := h.then (u.emits_moves os) (by simp)

@[simp] theorem Moves.takeFree {ps : List Part} {s u : State} (h : Moves ps s u) (hfreeCount : .freeCount ∈ ps) :
    Moves ps s (u.takeFree) := h.then (u.takeFree_moves) (by simp [hfreeCount])

theorem State.takeFree_alters (s : State) : Alters [.freeCount] s (s.takeFree) := by
  simp [State.takeFree]

@[simp] theorem Alters.takeFree {ps : List Part} {s u : State} (h : Alters ps s u) (hfreeCount : .freeCount ∈ ps) :
    Alters ps s (u.takeFree) := h.trans ((u.takeFree_alters).mono (by simp [hfreeCount]))

@[simp] theorem Moves.runTo {ps : List Part} {s u : State} (h : Moves ps s u) (htb : .tb ∈ ps) (n : Nat) :
    Moves ps s (u.runTo n) := h.then (u.runTo_moves n) (by simp [htb])

theorem State.runTo_alters (s : State) (n : Nat) : Alters [.tb] s (s.runTo n) := by
  simp [State.runTo]

@[simp] theorem Alters.runTo {ps : List Part} {s u : State} (h : Alters ps s u) (htb : .tb ∈ ps) (n : Nat) :
    Alters ps s (u.runTo n) := h.trans ((u.runTo_alters n).mono (by simp [htb]))

@[simp] theorem Moves.tick {ps : List Part} {s u : State} (h : Moves ps s u) (htb : .tb ∈ ps) :
    Moves ps s (u.tick) := h.then (u.tick_moves) (by simp [htb])

theorem State.tick_alters (s : State) : Alters [.tb] s (s.tick) := by
  simp [State.tick]

@[simp] theorem Alters.tick {ps : List Part} {s u : State} (h : Alters ps s u) (htb : .tb ∈ ps) :
    Alters ps s (u.tick) := h.trans ((u.tick_alters).mono (by simp [htb]))

@[simp] theorem Moves.raise {ps : List Part} {s u : State} (h : Moves ps s u) (hfm : .fm ∈ ps) (event : Bool) (code item : Nat) :
    Moves ps s (u.raise event code item) := h.then (u.raise_moves event code item) (by simp [hfm])

@[simp] theorem Moves.raiseEvent {ps : List Part} {s u : State} (h : Moves ps s u) (hfm : .fm ∈ ps) (code item : Nat) :
    Moves ps s (u.raiseEvent code item) := h.then (u.raiseEvent_moves code item) (by simp [hfm])

@[simp] theorem Moves.raiseCond {ps : List Part} {s u : State} (h : Moves ps s u) (hfm : .fm ∈ ps) (code item : Nat) :
    Moves ps s (u.raiseCond code item) := h.then (u.raiseCond_moves code item) (by simp [hfm])

@[simp] theorem Moves.cond {ps : List Part} {s u : State} (h : Moves ps s u) (hfm : .fm ∈ ps) (code : Nat) (b : Bool) (item : Nat) :
    Moves ps s (u.cond code b item) := h.then (u.cond_moves code b item) (by simp [hfm])

@[simp] theorem Moves.clearCond {ps : List Part} {s u : State} (h : Moves ps s u) (hfm : .fm ∈ ps) (code : Nat) :
    Moves ps s (u.clearCond code) := h.then (u.clearCond_moves code) (by simp [hfm])

theorem State.clearCond_alters (s : State) (code : Nat) : Alters [.fm] s (s.clearCond code) := by
  simp [State.clearCond]

@[simp] theorem Alters.clearCond {ps : List Part} {s u : State} (h : Alters ps s u) (hfm : .fm ∈ ps) (code : Nat) :
    Alters ps s (u.clearCond code) := h.trans ((u.clearCond_alters code).mono (by simp [hfm]))

@[simp] theorem Moves.nvKick {ps : List Part} {s u : State} (h : Moves ps s u) (hnv : .nv ∈ ps) :
    Moves ps s (u.nvKick) := h.then (u.nvKick_moves) (by simp [hnv])

theorem State.nvKick_alters (s : State) : Alters [.nv] s (s.nvKick) := by
  simp [State.nvKick]

@[simp] theorem Alters.nvKick {ps : List Part} {s u : State} (h : Alters ps s u) (hnv : .nv ∈ ps) :
    Alters ps s (u.nvKick) := h.trans ((u.nvKick_alters).mono (by simp [hnv]))

@[simp] theorem Moves.journal {ps : List Part} {s u : State} (h : Moves ps s u) (hnv : .nv ∈ ps) (id : Nat) (payload : List Int) :
    Moves ps s (u.journal id payload) := h.then (u.journal_moves id payload) (by simp [hnv])

theorem State.journal_alters (s : State) (id : Nat) (payload : List Int) : Alters [.nv] s (s.journal id payload) := by
  simp [State.journal]

@[simp] theorem Alters.journal {ps : List Part} {s u : State} (h : Alters ps s u) (hnv : .nv ∈ ps) (id : Nat) (payload : List Int) :
    Alters ps s (u.journal id payload) := h.trans ((u.journal_alters id payload).mono (by simp [hnv]))

@[simp] theorem Moves.journal6 {ps : List Part} {s u : State} (h : Moves ps s u) (hnv : .nv ∈ ps) :
    Moves ps s (u.journal6) := h.then (u.journal6_moves) (by simp [hnv])

theorem State.journal6_alters (s : State) : Alters [.nv] s (s.journal6) := by
  simp [State.journal6]

@[simp] theorem Alters.journal6 {ps : List Part} {s u : State} (h : Alters ps s u) (hnv : .nv ∈ ps) :
    Alters ps s (u.journal6) := h.trans ((u.journal6_alters).mono (by simp [hnv]))

@[simp] theorem Moves.logDropped {ps : List Part} {s u : State} (h : Moves ps s u) (hnv : .nv ∈ ps) (hlg : .lg ∈ ps) (hfm : .fm ∈ ps) (r : LogRec) :
    Moves ps s (u.logDropped r) := h.then (u.logDropped_moves r) (by simp [hnv, hlg, hfm])

@[simp] theorem Moves.logAdmit {ps : List Part} {s u : State} (h : Moves ps s u) (hnv : .nv ∈ ps) (hlg : .lg ∈ ps) (hfm : .fm ∈ ps) (r : LogRec) :
    Moves ps s (u.logAdmit r) := h.then (u.logAdmit_moves r) (by simp [hnv, hlg, hfm])

@[simp] theorem Moves.logKind {ps : List Part} {s u : State} (h : Moves ps s u) (hnv : .nv ∈ ps) (hlg : .lg ∈ ps) (hfm : .fm ∈ ps) (kind detail : Nat) :
    Moves ps s (u.logKind kind detail) := h.then (u.logKind_moves kind detail) (by simp [hnv, hlg, hfm])

@[simp] theorem Moves.travel {ps : List Part} {s u : State} (h : Moves ps s u)  (c : CmdRecord) :
    Moves ps s (u.travel c) := h.then (u.travel_moves c) (by simp)

@[simp] theorem Moves.frameIn {ps : List Part} {s u : State} (h : Moves ps s u)  (port : Nat) :
    Moves ps s (u.frameIn port) := h.then (u.frameIn_moves port) (by simp)

@[simp] theorem Moves.frameOut {ps : List Part} {s u : State} (h : Moves ps s u)  (port : Nat) :
    Moves ps s (u.frameOut port) := h.then (u.frameOut_moves port) (by simp)

@[simp] theorem Moves.deliver {ps : List Part} {s u : State} (h : Moves ps s u)  (r : Req) (m : Msg) :
    Moves ps s (u.deliver r m) := h.then (u.deliver_moves r m) (by simp)

@[simp] theorem Moves.sendEvent {ps : List Part} {s u : State} (h : Moves ps s u)  (r : LogRec) (x : Session) :
    Moves ps s (u.sendEvent r x) := h.then (u.sendEvent_moves r x) (by simp)

/-! ### Reads -/

@[simp] theorem State.emit_fm (s : State) (o : Out) : (s.emit o).fm = s.fm := s.emit_moves o .fm (by simp)
@[simp] theorem State.emit_rows (s : State) (o : Out) : (s.emit o).rows = s.rows := s.emit_moves o .rows (by simp)
@[simp] theorem State.emit_pm (s : State) (o : Out) : (s.emit o).pm = s.pm := s.emit_moves o .pm (by simp)
@[simp] theorem State.emit_ca (s : State) (o : Out) : (s.emit o).ca = s.ca := s.emit_moves o .ca (by simp)
@[simp] theorem State.emit_ss (s : State) (o : Out) : (s.emit o).ss = s.ss := s.emit_moves o .ss (by simp)
@[simp] theorem State.emit_im (s : State) (o : Out) : (s.emit o).im = s.im := s.emit_moves o .im (by simp)
@[simp] theorem State.emit_pc (s : State) (o : Out) : (s.emit o).pc = s.pc := s.emit_moves o .pc (by simp)
@[simp] theorem State.emit_cl (s : State) (o : Out) : (s.emit o).cl = s.cl := s.emit_moves o .cl (by simp)
@[simp] theorem State.emit_ef (s : State) (o : Out) : (s.emit o).ef = s.ef := s.emit_moves o .ef (by simp)
@[simp] theorem State.emit_bs (s : State) (o : Out) : (s.emit o).bs = s.bs := s.emit_moves o .bs (by simp)
@[simp] theorem State.emit_tm (s : State) (o : Out) : (s.emit o).tm = s.tm := s.emit_moves o .tm (by simp)
@[simp] theorem State.emit_de (s : State) (o : Out) : (s.emit o).de = s.de := s.emit_moves o .de (by simp)
@[simp] theorem State.emit_si (s : State) (o : Out) : (s.emit o).si = s.si := s.emit_moves o .si (by simp)
@[simp] theorem State.emit_os (s : State) (o : Out) : (s.emit o).os = s.os := s.emit_moves o .os (by simp)
@[simp] theorem State.emit_tb (s : State) (o : Out) : (s.emit o).tb = s.tb := s.emit_moves o .tb (by simp)
@[simp] theorem State.emit_ck (s : State) (o : Out) : (s.emit o).ck = s.ck := s.emit_moves o .ck (by simp)
@[simp] theorem State.emit_nv (s : State) (o : Out) : (s.emit o).nv = s.nv := s.emit_moves o .nv (by simp)
@[simp] theorem State.emit_ld (s : State) (o : Out) : (s.emit o).ld = s.ld := s.emit_moves o .ld (by simp)
@[simp] theorem State.emit_lg (s : State) (o : Out) : (s.emit o).lg = s.lg := s.emit_moves o .lg (by simp)
@[simp] theorem State.emit_id (s : State) (o : Out) : (s.emit o).id = s.id := s.emit_moves o .id (by simp)
@[simp] theorem State.emit_cfg (s : State) (o : Out) : (s.emit o).cfg = s.cfg := s.emit_moves o .cfg (by simp)
@[simp] theorem State.emit_stopWait (s : State) (o : Out) : (s.emit o).stopWait = s.stopWait := s.emit_moves o .stopWait (by simp)
@[simp] theorem State.emit_bytesWait (s : State) (o : Out) : (s.emit o).bytesWait = s.bytesWait := s.emit_moves o .bytesWait (by simp)
@[simp] theorem State.emit_bytes (s : State) (o : Out) : (s.emit o).bytes = s.bytes := s.emit_moves o .bytes (by simp)
@[simp] theorem State.emit_freeCount (s : State) (o : Out) : (s.emit o).freeCount = s.freeCount := s.emit_moves o .freeCount (by simp)
@[simp] theorem State.emit_pending (s : State) (o : Out) : (s.emit o).pending = s.pending := s.emit_moves o .pending (by simp)

@[simp] theorem State.emits_fm (s : State) (os : List Out) : (s.emits os).fm = s.fm := s.emits_moves os .fm (by simp)
@[simp] theorem State.emits_rows (s : State) (os : List Out) : (s.emits os).rows = s.rows := s.emits_moves os .rows (by simp)
@[simp] theorem State.emits_pm (s : State) (os : List Out) : (s.emits os).pm = s.pm := s.emits_moves os .pm (by simp)
@[simp] theorem State.emits_ca (s : State) (os : List Out) : (s.emits os).ca = s.ca := s.emits_moves os .ca (by simp)
@[simp] theorem State.emits_ss (s : State) (os : List Out) : (s.emits os).ss = s.ss := s.emits_moves os .ss (by simp)
@[simp] theorem State.emits_im (s : State) (os : List Out) : (s.emits os).im = s.im := s.emits_moves os .im (by simp)
@[simp] theorem State.emits_pc (s : State) (os : List Out) : (s.emits os).pc = s.pc := s.emits_moves os .pc (by simp)
@[simp] theorem State.emits_cl (s : State) (os : List Out) : (s.emits os).cl = s.cl := s.emits_moves os .cl (by simp)
@[simp] theorem State.emits_ef (s : State) (os : List Out) : (s.emits os).ef = s.ef := s.emits_moves os .ef (by simp)
@[simp] theorem State.emits_bs (s : State) (os : List Out) : (s.emits os).bs = s.bs := s.emits_moves os .bs (by simp)
@[simp] theorem State.emits_tm (s : State) (os : List Out) : (s.emits os).tm = s.tm := s.emits_moves os .tm (by simp)
@[simp] theorem State.emits_de (s : State) (os : List Out) : (s.emits os).de = s.de := s.emits_moves os .de (by simp)
@[simp] theorem State.emits_si (s : State) (os : List Out) : (s.emits os).si = s.si := s.emits_moves os .si (by simp)
@[simp] theorem State.emits_os (s : State) (os : List Out) : (s.emits os).os = s.os := s.emits_moves os .os (by simp)
@[simp] theorem State.emits_tb (s : State) (os : List Out) : (s.emits os).tb = s.tb := s.emits_moves os .tb (by simp)
@[simp] theorem State.emits_ck (s : State) (os : List Out) : (s.emits os).ck = s.ck := s.emits_moves os .ck (by simp)
@[simp] theorem State.emits_nv (s : State) (os : List Out) : (s.emits os).nv = s.nv := s.emits_moves os .nv (by simp)
@[simp] theorem State.emits_ld (s : State) (os : List Out) : (s.emits os).ld = s.ld := s.emits_moves os .ld (by simp)
@[simp] theorem State.emits_lg (s : State) (os : List Out) : (s.emits os).lg = s.lg := s.emits_moves os .lg (by simp)
@[simp] theorem State.emits_id (s : State) (os : List Out) : (s.emits os).id = s.id := s.emits_moves os .id (by simp)
@[simp] theorem State.emits_cfg (s : State) (os : List Out) : (s.emits os).cfg = s.cfg := s.emits_moves os .cfg (by simp)
@[simp] theorem State.emits_stopWait (s : State) (os : List Out) : (s.emits os).stopWait = s.stopWait := s.emits_moves os .stopWait (by simp)
@[simp] theorem State.emits_bytesWait (s : State) (os : List Out) : (s.emits os).bytesWait = s.bytesWait := s.emits_moves os .bytesWait (by simp)
@[simp] theorem State.emits_bytes (s : State) (os : List Out) : (s.emits os).bytes = s.bytes := s.emits_moves os .bytes (by simp)
@[simp] theorem State.emits_freeCount (s : State) (os : List Out) : (s.emits os).freeCount = s.freeCount := s.emits_moves os .freeCount (by simp)
@[simp] theorem State.emits_pending (s : State) (os : List Out) : (s.emits os).pending = s.pending := s.emits_moves os .pending (by simp)

@[simp] theorem State.takeFree_fm (s : State) : (s.takeFree).fm = s.fm := s.takeFree_moves .fm (by simp)
@[simp] theorem State.takeFree_rows (s : State) : (s.takeFree).rows = s.rows := s.takeFree_moves .rows (by simp)
@[simp] theorem State.takeFree_pm (s : State) : (s.takeFree).pm = s.pm := s.takeFree_moves .pm (by simp)
@[simp] theorem State.takeFree_ca (s : State) : (s.takeFree).ca = s.ca := s.takeFree_moves .ca (by simp)
@[simp] theorem State.takeFree_ss (s : State) : (s.takeFree).ss = s.ss := s.takeFree_moves .ss (by simp)
@[simp] theorem State.takeFree_im (s : State) : (s.takeFree).im = s.im := s.takeFree_moves .im (by simp)
@[simp] theorem State.takeFree_pc (s : State) : (s.takeFree).pc = s.pc := s.takeFree_moves .pc (by simp)
@[simp] theorem State.takeFree_cl (s : State) : (s.takeFree).cl = s.cl := s.takeFree_moves .cl (by simp)
@[simp] theorem State.takeFree_ef (s : State) : (s.takeFree).ef = s.ef := s.takeFree_moves .ef (by simp)
@[simp] theorem State.takeFree_bs (s : State) : (s.takeFree).bs = s.bs := s.takeFree_moves .bs (by simp)
@[simp] theorem State.takeFree_tm (s : State) : (s.takeFree).tm = s.tm := s.takeFree_moves .tm (by simp)
@[simp] theorem State.takeFree_de (s : State) : (s.takeFree).de = s.de := s.takeFree_moves .de (by simp)
@[simp] theorem State.takeFree_si (s : State) : (s.takeFree).si = s.si := s.takeFree_moves .si (by simp)
@[simp] theorem State.takeFree_os (s : State) : (s.takeFree).os = s.os := s.takeFree_moves .os (by simp)
@[simp] theorem State.takeFree_tb (s : State) : (s.takeFree).tb = s.tb := s.takeFree_moves .tb (by simp)
@[simp] theorem State.takeFree_ck (s : State) : (s.takeFree).ck = s.ck := s.takeFree_moves .ck (by simp)
@[simp] theorem State.takeFree_nv (s : State) : (s.takeFree).nv = s.nv := s.takeFree_moves .nv (by simp)
@[simp] theorem State.takeFree_ld (s : State) : (s.takeFree).ld = s.ld := s.takeFree_moves .ld (by simp)
@[simp] theorem State.takeFree_lg (s : State) : (s.takeFree).lg = s.lg := s.takeFree_moves .lg (by simp)
@[simp] theorem State.takeFree_id (s : State) : (s.takeFree).id = s.id := s.takeFree_moves .id (by simp)
@[simp] theorem State.takeFree_cfg (s : State) : (s.takeFree).cfg = s.cfg := s.takeFree_moves .cfg (by simp)
@[simp] theorem State.takeFree_stopWait (s : State) : (s.takeFree).stopWait = s.stopWait := s.takeFree_moves .stopWait (by simp)
@[simp] theorem State.takeFree_bytesWait (s : State) : (s.takeFree).bytesWait = s.bytesWait := s.takeFree_moves .bytesWait (by simp)
@[simp] theorem State.takeFree_bytes (s : State) : (s.takeFree).bytes = s.bytes := s.takeFree_moves .bytes (by simp)
@[simp] theorem State.takeFree_pending (s : State) : (s.takeFree).pending = s.pending := s.takeFree_moves .pending (by simp)
@[simp] theorem State.takeFree_sy (s : State) : (s.takeFree).sy = s.sy := s.takeFree_alters .sy (by simp)
@[simp] theorem State.takeFree_en (s : State) : (s.takeFree).en = s.en := s.takeFree_alters .en (by simp)
@[simp] theorem State.takeFree_cn (s : State) : (s.takeFree).cn = s.cn := s.takeFree_alters .cn (by simp)
@[simp] theorem State.takeFree_ty (s : State) : (s.takeFree).ty = s.ty := s.takeFree_alters .ty (by simp)
@[simp] theorem State.takeFree_out (s : State) : (s.takeFree).out = s.out := s.takeFree_alters .out (by simp)

@[simp] theorem State.runTo_fm (s : State) (n : Nat) : (s.runTo n).fm = s.fm := s.runTo_moves n .fm (by simp)
@[simp] theorem State.runTo_rows (s : State) (n : Nat) : (s.runTo n).rows = s.rows := s.runTo_moves n .rows (by simp)
@[simp] theorem State.runTo_pm (s : State) (n : Nat) : (s.runTo n).pm = s.pm := s.runTo_moves n .pm (by simp)
@[simp] theorem State.runTo_ca (s : State) (n : Nat) : (s.runTo n).ca = s.ca := s.runTo_moves n .ca (by simp)
@[simp] theorem State.runTo_ss (s : State) (n : Nat) : (s.runTo n).ss = s.ss := s.runTo_moves n .ss (by simp)
@[simp] theorem State.runTo_im (s : State) (n : Nat) : (s.runTo n).im = s.im := s.runTo_moves n .im (by simp)
@[simp] theorem State.runTo_pc (s : State) (n : Nat) : (s.runTo n).pc = s.pc := s.runTo_moves n .pc (by simp)
@[simp] theorem State.runTo_cl (s : State) (n : Nat) : (s.runTo n).cl = s.cl := s.runTo_moves n .cl (by simp)
@[simp] theorem State.runTo_ef (s : State) (n : Nat) : (s.runTo n).ef = s.ef := s.runTo_moves n .ef (by simp)
@[simp] theorem State.runTo_bs (s : State) (n : Nat) : (s.runTo n).bs = s.bs := s.runTo_moves n .bs (by simp)
@[simp] theorem State.runTo_tm (s : State) (n : Nat) : (s.runTo n).tm = s.tm := s.runTo_moves n .tm (by simp)
@[simp] theorem State.runTo_de (s : State) (n : Nat) : (s.runTo n).de = s.de := s.runTo_moves n .de (by simp)
@[simp] theorem State.runTo_si (s : State) (n : Nat) : (s.runTo n).si = s.si := s.runTo_moves n .si (by simp)
@[simp] theorem State.runTo_os (s : State) (n : Nat) : (s.runTo n).os = s.os := s.runTo_moves n .os (by simp)
@[simp] theorem State.runTo_ck (s : State) (n : Nat) : (s.runTo n).ck = s.ck := s.runTo_moves n .ck (by simp)
@[simp] theorem State.runTo_nv (s : State) (n : Nat) : (s.runTo n).nv = s.nv := s.runTo_moves n .nv (by simp)
@[simp] theorem State.runTo_ld (s : State) (n : Nat) : (s.runTo n).ld = s.ld := s.runTo_moves n .ld (by simp)
@[simp] theorem State.runTo_lg (s : State) (n : Nat) : (s.runTo n).lg = s.lg := s.runTo_moves n .lg (by simp)
@[simp] theorem State.runTo_id (s : State) (n : Nat) : (s.runTo n).id = s.id := s.runTo_moves n .id (by simp)
@[simp] theorem State.runTo_cfg (s : State) (n : Nat) : (s.runTo n).cfg = s.cfg := s.runTo_moves n .cfg (by simp)
@[simp] theorem State.runTo_stopWait (s : State) (n : Nat) : (s.runTo n).stopWait = s.stopWait := s.runTo_moves n .stopWait (by simp)
@[simp] theorem State.runTo_bytesWait (s : State) (n : Nat) : (s.runTo n).bytesWait = s.bytesWait := s.runTo_moves n .bytesWait (by simp)
@[simp] theorem State.runTo_bytes (s : State) (n : Nat) : (s.runTo n).bytes = s.bytes := s.runTo_moves n .bytes (by simp)
@[simp] theorem State.runTo_freeCount (s : State) (n : Nat) : (s.runTo n).freeCount = s.freeCount := s.runTo_moves n .freeCount (by simp)
@[simp] theorem State.runTo_pending (s : State) (n : Nat) : (s.runTo n).pending = s.pending := s.runTo_moves n .pending (by simp)
@[simp] theorem State.runTo_sy (s : State) (n : Nat) : (s.runTo n).sy = s.sy := s.runTo_alters n .sy (by simp)
@[simp] theorem State.runTo_en (s : State) (n : Nat) : (s.runTo n).en = s.en := s.runTo_alters n .en (by simp)
@[simp] theorem State.runTo_cn (s : State) (n : Nat) : (s.runTo n).cn = s.cn := s.runTo_alters n .cn (by simp)
@[simp] theorem State.runTo_ty (s : State) (n : Nat) : (s.runTo n).ty = s.ty := s.runTo_alters n .ty (by simp)
@[simp] theorem State.runTo_out (s : State) (n : Nat) : (s.runTo n).out = s.out := s.runTo_alters n .out (by simp)

@[simp] theorem State.tick_fm (s : State) : (s.tick).fm = s.fm := s.tick_moves .fm (by simp)
@[simp] theorem State.tick_rows (s : State) : (s.tick).rows = s.rows := s.tick_moves .rows (by simp)
@[simp] theorem State.tick_pm (s : State) : (s.tick).pm = s.pm := s.tick_moves .pm (by simp)
@[simp] theorem State.tick_ca (s : State) : (s.tick).ca = s.ca := s.tick_moves .ca (by simp)
@[simp] theorem State.tick_ss (s : State) : (s.tick).ss = s.ss := s.tick_moves .ss (by simp)
@[simp] theorem State.tick_im (s : State) : (s.tick).im = s.im := s.tick_moves .im (by simp)
@[simp] theorem State.tick_pc (s : State) : (s.tick).pc = s.pc := s.tick_moves .pc (by simp)
@[simp] theorem State.tick_cl (s : State) : (s.tick).cl = s.cl := s.tick_moves .cl (by simp)
@[simp] theorem State.tick_ef (s : State) : (s.tick).ef = s.ef := s.tick_moves .ef (by simp)
@[simp] theorem State.tick_bs (s : State) : (s.tick).bs = s.bs := s.tick_moves .bs (by simp)
@[simp] theorem State.tick_tm (s : State) : (s.tick).tm = s.tm := s.tick_moves .tm (by simp)
@[simp] theorem State.tick_de (s : State) : (s.tick).de = s.de := s.tick_moves .de (by simp)
@[simp] theorem State.tick_si (s : State) : (s.tick).si = s.si := s.tick_moves .si (by simp)
@[simp] theorem State.tick_os (s : State) : (s.tick).os = s.os := s.tick_moves .os (by simp)
@[simp] theorem State.tick_ck (s : State) : (s.tick).ck = s.ck := s.tick_moves .ck (by simp)
@[simp] theorem State.tick_nv (s : State) : (s.tick).nv = s.nv := s.tick_moves .nv (by simp)
@[simp] theorem State.tick_ld (s : State) : (s.tick).ld = s.ld := s.tick_moves .ld (by simp)
@[simp] theorem State.tick_lg (s : State) : (s.tick).lg = s.lg := s.tick_moves .lg (by simp)
@[simp] theorem State.tick_id (s : State) : (s.tick).id = s.id := s.tick_moves .id (by simp)
@[simp] theorem State.tick_cfg (s : State) : (s.tick).cfg = s.cfg := s.tick_moves .cfg (by simp)
@[simp] theorem State.tick_stopWait (s : State) : (s.tick).stopWait = s.stopWait := s.tick_moves .stopWait (by simp)
@[simp] theorem State.tick_bytesWait (s : State) : (s.tick).bytesWait = s.bytesWait := s.tick_moves .bytesWait (by simp)
@[simp] theorem State.tick_bytes (s : State) : (s.tick).bytes = s.bytes := s.tick_moves .bytes (by simp)
@[simp] theorem State.tick_freeCount (s : State) : (s.tick).freeCount = s.freeCount := s.tick_moves .freeCount (by simp)
@[simp] theorem State.tick_pending (s : State) : (s.tick).pending = s.pending := s.tick_moves .pending (by simp)
@[simp] theorem State.tick_sy (s : State) : (s.tick).sy = s.sy := s.tick_alters .sy (by simp)
@[simp] theorem State.tick_en (s : State) : (s.tick).en = s.en := s.tick_alters .en (by simp)
@[simp] theorem State.tick_cn (s : State) : (s.tick).cn = s.cn := s.tick_alters .cn (by simp)
@[simp] theorem State.tick_ty (s : State) : (s.tick).ty = s.ty := s.tick_alters .ty (by simp)
@[simp] theorem State.tick_out (s : State) : (s.tick).out = s.out := s.tick_alters .out (by simp)

@[simp] theorem State.raise_rows (s : State) (event : Bool) (code item : Nat) : (s.raise event code item).rows = s.rows := s.raise_moves event code item .rows (by simp)
@[simp] theorem State.raise_pm (s : State) (event : Bool) (code item : Nat) : (s.raise event code item).pm = s.pm := s.raise_moves event code item .pm (by simp)
@[simp] theorem State.raise_ca (s : State) (event : Bool) (code item : Nat) : (s.raise event code item).ca = s.ca := s.raise_moves event code item .ca (by simp)
@[simp] theorem State.raise_ss (s : State) (event : Bool) (code item : Nat) : (s.raise event code item).ss = s.ss := s.raise_moves event code item .ss (by simp)
@[simp] theorem State.raise_im (s : State) (event : Bool) (code item : Nat) : (s.raise event code item).im = s.im := s.raise_moves event code item .im (by simp)
@[simp] theorem State.raise_pc (s : State) (event : Bool) (code item : Nat) : (s.raise event code item).pc = s.pc := s.raise_moves event code item .pc (by simp)
@[simp] theorem State.raise_cl (s : State) (event : Bool) (code item : Nat) : (s.raise event code item).cl = s.cl := s.raise_moves event code item .cl (by simp)
@[simp] theorem State.raise_ef (s : State) (event : Bool) (code item : Nat) : (s.raise event code item).ef = s.ef := s.raise_moves event code item .ef (by simp)
@[simp] theorem State.raise_bs (s : State) (event : Bool) (code item : Nat) : (s.raise event code item).bs = s.bs := s.raise_moves event code item .bs (by simp)
@[simp] theorem State.raise_tm (s : State) (event : Bool) (code item : Nat) : (s.raise event code item).tm = s.tm := s.raise_moves event code item .tm (by simp)
@[simp] theorem State.raise_de (s : State) (event : Bool) (code item : Nat) : (s.raise event code item).de = s.de := s.raise_moves event code item .de (by simp)
@[simp] theorem State.raise_si (s : State) (event : Bool) (code item : Nat) : (s.raise event code item).si = s.si := s.raise_moves event code item .si (by simp)
@[simp] theorem State.raise_os (s : State) (event : Bool) (code item : Nat) : (s.raise event code item).os = s.os := s.raise_moves event code item .os (by simp)
@[simp] theorem State.raise_tb (s : State) (event : Bool) (code item : Nat) : (s.raise event code item).tb = s.tb := s.raise_moves event code item .tb (by simp)
@[simp] theorem State.raise_ck (s : State) (event : Bool) (code item : Nat) : (s.raise event code item).ck = s.ck := s.raise_moves event code item .ck (by simp)
@[simp] theorem State.raise_nv (s : State) (event : Bool) (code item : Nat) : (s.raise event code item).nv = s.nv := s.raise_moves event code item .nv (by simp)
@[simp] theorem State.raise_ld (s : State) (event : Bool) (code item : Nat) : (s.raise event code item).ld = s.ld := s.raise_moves event code item .ld (by simp)
@[simp] theorem State.raise_lg (s : State) (event : Bool) (code item : Nat) : (s.raise event code item).lg = s.lg := s.raise_moves event code item .lg (by simp)
@[simp] theorem State.raise_id (s : State) (event : Bool) (code item : Nat) : (s.raise event code item).id = s.id := s.raise_moves event code item .id (by simp)
@[simp] theorem State.raise_cfg (s : State) (event : Bool) (code item : Nat) : (s.raise event code item).cfg = s.cfg := s.raise_moves event code item .cfg (by simp)
@[simp] theorem State.raise_stopWait (s : State) (event : Bool) (code item : Nat) : (s.raise event code item).stopWait = s.stopWait := s.raise_moves event code item .stopWait (by simp)
@[simp] theorem State.raise_bytesWait (s : State) (event : Bool) (code item : Nat) : (s.raise event code item).bytesWait = s.bytesWait := s.raise_moves event code item .bytesWait (by simp)
@[simp] theorem State.raise_bytes (s : State) (event : Bool) (code item : Nat) : (s.raise event code item).bytes = s.bytes := s.raise_moves event code item .bytes (by simp)
@[simp] theorem State.raise_freeCount (s : State) (event : Bool) (code item : Nat) : (s.raise event code item).freeCount = s.freeCount := s.raise_moves event code item .freeCount (by simp)
@[simp] theorem State.raise_pending (s : State) (event : Bool) (code item : Nat) : (s.raise event code item).pending = s.pending := s.raise_moves event code item .pending (by simp)

@[simp] theorem State.raiseEvent_rows (s : State) (code item : Nat) : (s.raiseEvent code item).rows = s.rows := s.raiseEvent_moves code item .rows (by simp)
@[simp] theorem State.raiseEvent_pm (s : State) (code item : Nat) : (s.raiseEvent code item).pm = s.pm := s.raiseEvent_moves code item .pm (by simp)
@[simp] theorem State.raiseEvent_ca (s : State) (code item : Nat) : (s.raiseEvent code item).ca = s.ca := s.raiseEvent_moves code item .ca (by simp)
@[simp] theorem State.raiseEvent_ss (s : State) (code item : Nat) : (s.raiseEvent code item).ss = s.ss := s.raiseEvent_moves code item .ss (by simp)
@[simp] theorem State.raiseEvent_im (s : State) (code item : Nat) : (s.raiseEvent code item).im = s.im := s.raiseEvent_moves code item .im (by simp)
@[simp] theorem State.raiseEvent_pc (s : State) (code item : Nat) : (s.raiseEvent code item).pc = s.pc := s.raiseEvent_moves code item .pc (by simp)
@[simp] theorem State.raiseEvent_cl (s : State) (code item : Nat) : (s.raiseEvent code item).cl = s.cl := s.raiseEvent_moves code item .cl (by simp)
@[simp] theorem State.raiseEvent_ef (s : State) (code item : Nat) : (s.raiseEvent code item).ef = s.ef := s.raiseEvent_moves code item .ef (by simp)
@[simp] theorem State.raiseEvent_bs (s : State) (code item : Nat) : (s.raiseEvent code item).bs = s.bs := s.raiseEvent_moves code item .bs (by simp)
@[simp] theorem State.raiseEvent_tm (s : State) (code item : Nat) : (s.raiseEvent code item).tm = s.tm := s.raiseEvent_moves code item .tm (by simp)
@[simp] theorem State.raiseEvent_de (s : State) (code item : Nat) : (s.raiseEvent code item).de = s.de := s.raiseEvent_moves code item .de (by simp)
@[simp] theorem State.raiseEvent_si (s : State) (code item : Nat) : (s.raiseEvent code item).si = s.si := s.raiseEvent_moves code item .si (by simp)
@[simp] theorem State.raiseEvent_os (s : State) (code item : Nat) : (s.raiseEvent code item).os = s.os := s.raiseEvent_moves code item .os (by simp)
@[simp] theorem State.raiseEvent_tb (s : State) (code item : Nat) : (s.raiseEvent code item).tb = s.tb := s.raiseEvent_moves code item .tb (by simp)
@[simp] theorem State.raiseEvent_ck (s : State) (code item : Nat) : (s.raiseEvent code item).ck = s.ck := s.raiseEvent_moves code item .ck (by simp)
@[simp] theorem State.raiseEvent_nv (s : State) (code item : Nat) : (s.raiseEvent code item).nv = s.nv := s.raiseEvent_moves code item .nv (by simp)
@[simp] theorem State.raiseEvent_ld (s : State) (code item : Nat) : (s.raiseEvent code item).ld = s.ld := s.raiseEvent_moves code item .ld (by simp)
@[simp] theorem State.raiseEvent_lg (s : State) (code item : Nat) : (s.raiseEvent code item).lg = s.lg := s.raiseEvent_moves code item .lg (by simp)
@[simp] theorem State.raiseEvent_id (s : State) (code item : Nat) : (s.raiseEvent code item).id = s.id := s.raiseEvent_moves code item .id (by simp)
@[simp] theorem State.raiseEvent_cfg (s : State) (code item : Nat) : (s.raiseEvent code item).cfg = s.cfg := s.raiseEvent_moves code item .cfg (by simp)
@[simp] theorem State.raiseEvent_stopWait (s : State) (code item : Nat) : (s.raiseEvent code item).stopWait = s.stopWait := s.raiseEvent_moves code item .stopWait (by simp)
@[simp] theorem State.raiseEvent_bytesWait (s : State) (code item : Nat) : (s.raiseEvent code item).bytesWait = s.bytesWait := s.raiseEvent_moves code item .bytesWait (by simp)
@[simp] theorem State.raiseEvent_bytes (s : State) (code item : Nat) : (s.raiseEvent code item).bytes = s.bytes := s.raiseEvent_moves code item .bytes (by simp)
@[simp] theorem State.raiseEvent_freeCount (s : State) (code item : Nat) : (s.raiseEvent code item).freeCount = s.freeCount := s.raiseEvent_moves code item .freeCount (by simp)
@[simp] theorem State.raiseEvent_pending (s : State) (code item : Nat) : (s.raiseEvent code item).pending = s.pending := s.raiseEvent_moves code item .pending (by simp)

@[simp] theorem State.raiseCond_rows (s : State) (code item : Nat) : (s.raiseCond code item).rows = s.rows := s.raiseCond_moves code item .rows (by simp)
@[simp] theorem State.raiseCond_pm (s : State) (code item : Nat) : (s.raiseCond code item).pm = s.pm := s.raiseCond_moves code item .pm (by simp)
@[simp] theorem State.raiseCond_ca (s : State) (code item : Nat) : (s.raiseCond code item).ca = s.ca := s.raiseCond_moves code item .ca (by simp)
@[simp] theorem State.raiseCond_ss (s : State) (code item : Nat) : (s.raiseCond code item).ss = s.ss := s.raiseCond_moves code item .ss (by simp)
@[simp] theorem State.raiseCond_im (s : State) (code item : Nat) : (s.raiseCond code item).im = s.im := s.raiseCond_moves code item .im (by simp)
@[simp] theorem State.raiseCond_pc (s : State) (code item : Nat) : (s.raiseCond code item).pc = s.pc := s.raiseCond_moves code item .pc (by simp)
@[simp] theorem State.raiseCond_cl (s : State) (code item : Nat) : (s.raiseCond code item).cl = s.cl := s.raiseCond_moves code item .cl (by simp)
@[simp] theorem State.raiseCond_ef (s : State) (code item : Nat) : (s.raiseCond code item).ef = s.ef := s.raiseCond_moves code item .ef (by simp)
@[simp] theorem State.raiseCond_bs (s : State) (code item : Nat) : (s.raiseCond code item).bs = s.bs := s.raiseCond_moves code item .bs (by simp)
@[simp] theorem State.raiseCond_tm (s : State) (code item : Nat) : (s.raiseCond code item).tm = s.tm := s.raiseCond_moves code item .tm (by simp)
@[simp] theorem State.raiseCond_de (s : State) (code item : Nat) : (s.raiseCond code item).de = s.de := s.raiseCond_moves code item .de (by simp)
@[simp] theorem State.raiseCond_si (s : State) (code item : Nat) : (s.raiseCond code item).si = s.si := s.raiseCond_moves code item .si (by simp)
@[simp] theorem State.raiseCond_os (s : State) (code item : Nat) : (s.raiseCond code item).os = s.os := s.raiseCond_moves code item .os (by simp)
@[simp] theorem State.raiseCond_tb (s : State) (code item : Nat) : (s.raiseCond code item).tb = s.tb := s.raiseCond_moves code item .tb (by simp)
@[simp] theorem State.raiseCond_ck (s : State) (code item : Nat) : (s.raiseCond code item).ck = s.ck := s.raiseCond_moves code item .ck (by simp)
@[simp] theorem State.raiseCond_nv (s : State) (code item : Nat) : (s.raiseCond code item).nv = s.nv := s.raiseCond_moves code item .nv (by simp)
@[simp] theorem State.raiseCond_ld (s : State) (code item : Nat) : (s.raiseCond code item).ld = s.ld := s.raiseCond_moves code item .ld (by simp)
@[simp] theorem State.raiseCond_lg (s : State) (code item : Nat) : (s.raiseCond code item).lg = s.lg := s.raiseCond_moves code item .lg (by simp)
@[simp] theorem State.raiseCond_id (s : State) (code item : Nat) : (s.raiseCond code item).id = s.id := s.raiseCond_moves code item .id (by simp)
@[simp] theorem State.raiseCond_cfg (s : State) (code item : Nat) : (s.raiseCond code item).cfg = s.cfg := s.raiseCond_moves code item .cfg (by simp)
@[simp] theorem State.raiseCond_stopWait (s : State) (code item : Nat) : (s.raiseCond code item).stopWait = s.stopWait := s.raiseCond_moves code item .stopWait (by simp)
@[simp] theorem State.raiseCond_bytesWait (s : State) (code item : Nat) : (s.raiseCond code item).bytesWait = s.bytesWait := s.raiseCond_moves code item .bytesWait (by simp)
@[simp] theorem State.raiseCond_bytes (s : State) (code item : Nat) : (s.raiseCond code item).bytes = s.bytes := s.raiseCond_moves code item .bytes (by simp)
@[simp] theorem State.raiseCond_freeCount (s : State) (code item : Nat) : (s.raiseCond code item).freeCount = s.freeCount := s.raiseCond_moves code item .freeCount (by simp)
@[simp] theorem State.raiseCond_pending (s : State) (code item : Nat) : (s.raiseCond code item).pending = s.pending := s.raiseCond_moves code item .pending (by simp)

@[simp] theorem State.cond_rows (s : State) (code : Nat) (b : Bool) (item : Nat) : (s.cond code b item).rows = s.rows := s.cond_moves code b item .rows (by simp)
@[simp] theorem State.cond_pm (s : State) (code : Nat) (b : Bool) (item : Nat) : (s.cond code b item).pm = s.pm := s.cond_moves code b item .pm (by simp)
@[simp] theorem State.cond_ca (s : State) (code : Nat) (b : Bool) (item : Nat) : (s.cond code b item).ca = s.ca := s.cond_moves code b item .ca (by simp)
@[simp] theorem State.cond_ss (s : State) (code : Nat) (b : Bool) (item : Nat) : (s.cond code b item).ss = s.ss := s.cond_moves code b item .ss (by simp)
@[simp] theorem State.cond_im (s : State) (code : Nat) (b : Bool) (item : Nat) : (s.cond code b item).im = s.im := s.cond_moves code b item .im (by simp)
@[simp] theorem State.cond_pc (s : State) (code : Nat) (b : Bool) (item : Nat) : (s.cond code b item).pc = s.pc := s.cond_moves code b item .pc (by simp)
@[simp] theorem State.cond_cl (s : State) (code : Nat) (b : Bool) (item : Nat) : (s.cond code b item).cl = s.cl := s.cond_moves code b item .cl (by simp)
@[simp] theorem State.cond_ef (s : State) (code : Nat) (b : Bool) (item : Nat) : (s.cond code b item).ef = s.ef := s.cond_moves code b item .ef (by simp)
@[simp] theorem State.cond_bs (s : State) (code : Nat) (b : Bool) (item : Nat) : (s.cond code b item).bs = s.bs := s.cond_moves code b item .bs (by simp)
@[simp] theorem State.cond_tm (s : State) (code : Nat) (b : Bool) (item : Nat) : (s.cond code b item).tm = s.tm := s.cond_moves code b item .tm (by simp)
@[simp] theorem State.cond_de (s : State) (code : Nat) (b : Bool) (item : Nat) : (s.cond code b item).de = s.de := s.cond_moves code b item .de (by simp)
@[simp] theorem State.cond_si (s : State) (code : Nat) (b : Bool) (item : Nat) : (s.cond code b item).si = s.si := s.cond_moves code b item .si (by simp)
@[simp] theorem State.cond_os (s : State) (code : Nat) (b : Bool) (item : Nat) : (s.cond code b item).os = s.os := s.cond_moves code b item .os (by simp)
@[simp] theorem State.cond_tb (s : State) (code : Nat) (b : Bool) (item : Nat) : (s.cond code b item).tb = s.tb := s.cond_moves code b item .tb (by simp)
@[simp] theorem State.cond_ck (s : State) (code : Nat) (b : Bool) (item : Nat) : (s.cond code b item).ck = s.ck := s.cond_moves code b item .ck (by simp)
@[simp] theorem State.cond_nv (s : State) (code : Nat) (b : Bool) (item : Nat) : (s.cond code b item).nv = s.nv := s.cond_moves code b item .nv (by simp)
@[simp] theorem State.cond_ld (s : State) (code : Nat) (b : Bool) (item : Nat) : (s.cond code b item).ld = s.ld := s.cond_moves code b item .ld (by simp)
@[simp] theorem State.cond_lg (s : State) (code : Nat) (b : Bool) (item : Nat) : (s.cond code b item).lg = s.lg := s.cond_moves code b item .lg (by simp)
@[simp] theorem State.cond_id (s : State) (code : Nat) (b : Bool) (item : Nat) : (s.cond code b item).id = s.id := s.cond_moves code b item .id (by simp)
@[simp] theorem State.cond_cfg (s : State) (code : Nat) (b : Bool) (item : Nat) : (s.cond code b item).cfg = s.cfg := s.cond_moves code b item .cfg (by simp)
@[simp] theorem State.cond_stopWait (s : State) (code : Nat) (b : Bool) (item : Nat) : (s.cond code b item).stopWait = s.stopWait := s.cond_moves code b item .stopWait (by simp)
@[simp] theorem State.cond_bytesWait (s : State) (code : Nat) (b : Bool) (item : Nat) : (s.cond code b item).bytesWait = s.bytesWait := s.cond_moves code b item .bytesWait (by simp)
@[simp] theorem State.cond_bytes (s : State) (code : Nat) (b : Bool) (item : Nat) : (s.cond code b item).bytes = s.bytes := s.cond_moves code b item .bytes (by simp)
@[simp] theorem State.cond_freeCount (s : State) (code : Nat) (b : Bool) (item : Nat) : (s.cond code b item).freeCount = s.freeCount := s.cond_moves code b item .freeCount (by simp)
@[simp] theorem State.cond_pending (s : State) (code : Nat) (b : Bool) (item : Nat) : (s.cond code b item).pending = s.pending := s.cond_moves code b item .pending (by simp)

@[simp] theorem State.clearCond_rows (s : State) (code : Nat) : (s.clearCond code).rows = s.rows := s.clearCond_moves code .rows (by simp)
@[simp] theorem State.clearCond_pm (s : State) (code : Nat) : (s.clearCond code).pm = s.pm := s.clearCond_moves code .pm (by simp)
@[simp] theorem State.clearCond_ca (s : State) (code : Nat) : (s.clearCond code).ca = s.ca := s.clearCond_moves code .ca (by simp)
@[simp] theorem State.clearCond_ss (s : State) (code : Nat) : (s.clearCond code).ss = s.ss := s.clearCond_moves code .ss (by simp)
@[simp] theorem State.clearCond_im (s : State) (code : Nat) : (s.clearCond code).im = s.im := s.clearCond_moves code .im (by simp)
@[simp] theorem State.clearCond_pc (s : State) (code : Nat) : (s.clearCond code).pc = s.pc := s.clearCond_moves code .pc (by simp)
@[simp] theorem State.clearCond_cl (s : State) (code : Nat) : (s.clearCond code).cl = s.cl := s.clearCond_moves code .cl (by simp)
@[simp] theorem State.clearCond_ef (s : State) (code : Nat) : (s.clearCond code).ef = s.ef := s.clearCond_moves code .ef (by simp)
@[simp] theorem State.clearCond_bs (s : State) (code : Nat) : (s.clearCond code).bs = s.bs := s.clearCond_moves code .bs (by simp)
@[simp] theorem State.clearCond_tm (s : State) (code : Nat) : (s.clearCond code).tm = s.tm := s.clearCond_moves code .tm (by simp)
@[simp] theorem State.clearCond_de (s : State) (code : Nat) : (s.clearCond code).de = s.de := s.clearCond_moves code .de (by simp)
@[simp] theorem State.clearCond_si (s : State) (code : Nat) : (s.clearCond code).si = s.si := s.clearCond_moves code .si (by simp)
@[simp] theorem State.clearCond_os (s : State) (code : Nat) : (s.clearCond code).os = s.os := s.clearCond_moves code .os (by simp)
@[simp] theorem State.clearCond_tb (s : State) (code : Nat) : (s.clearCond code).tb = s.tb := s.clearCond_moves code .tb (by simp)
@[simp] theorem State.clearCond_ck (s : State) (code : Nat) : (s.clearCond code).ck = s.ck := s.clearCond_moves code .ck (by simp)
@[simp] theorem State.clearCond_nv (s : State) (code : Nat) : (s.clearCond code).nv = s.nv := s.clearCond_moves code .nv (by simp)
@[simp] theorem State.clearCond_ld (s : State) (code : Nat) : (s.clearCond code).ld = s.ld := s.clearCond_moves code .ld (by simp)
@[simp] theorem State.clearCond_lg (s : State) (code : Nat) : (s.clearCond code).lg = s.lg := s.clearCond_moves code .lg (by simp)
@[simp] theorem State.clearCond_id (s : State) (code : Nat) : (s.clearCond code).id = s.id := s.clearCond_moves code .id (by simp)
@[simp] theorem State.clearCond_cfg (s : State) (code : Nat) : (s.clearCond code).cfg = s.cfg := s.clearCond_moves code .cfg (by simp)
@[simp] theorem State.clearCond_stopWait (s : State) (code : Nat) : (s.clearCond code).stopWait = s.stopWait := s.clearCond_moves code .stopWait (by simp)
@[simp] theorem State.clearCond_bytesWait (s : State) (code : Nat) : (s.clearCond code).bytesWait = s.bytesWait := s.clearCond_moves code .bytesWait (by simp)
@[simp] theorem State.clearCond_bytes (s : State) (code : Nat) : (s.clearCond code).bytes = s.bytes := s.clearCond_moves code .bytes (by simp)
@[simp] theorem State.clearCond_freeCount (s : State) (code : Nat) : (s.clearCond code).freeCount = s.freeCount := s.clearCond_moves code .freeCount (by simp)
@[simp] theorem State.clearCond_pending (s : State) (code : Nat) : (s.clearCond code).pending = s.pending := s.clearCond_moves code .pending (by simp)
@[simp] theorem State.clearCond_sy (s : State) (code : Nat) : (s.clearCond code).sy = s.sy := s.clearCond_alters code .sy (by simp)
@[simp] theorem State.clearCond_en (s : State) (code : Nat) : (s.clearCond code).en = s.en := s.clearCond_alters code .en (by simp)
@[simp] theorem State.clearCond_cn (s : State) (code : Nat) : (s.clearCond code).cn = s.cn := s.clearCond_alters code .cn (by simp)
@[simp] theorem State.clearCond_ty (s : State) (code : Nat) : (s.clearCond code).ty = s.ty := s.clearCond_alters code .ty (by simp)
@[simp] theorem State.clearCond_out (s : State) (code : Nat) : (s.clearCond code).out = s.out := s.clearCond_alters code .out (by simp)

@[simp] theorem State.nvKick_fm (s : State) : (s.nvKick).fm = s.fm := s.nvKick_moves .fm (by simp)
@[simp] theorem State.nvKick_rows (s : State) : (s.nvKick).rows = s.rows := s.nvKick_moves .rows (by simp)
@[simp] theorem State.nvKick_pm (s : State) : (s.nvKick).pm = s.pm := s.nvKick_moves .pm (by simp)
@[simp] theorem State.nvKick_ca (s : State) : (s.nvKick).ca = s.ca := s.nvKick_moves .ca (by simp)
@[simp] theorem State.nvKick_ss (s : State) : (s.nvKick).ss = s.ss := s.nvKick_moves .ss (by simp)
@[simp] theorem State.nvKick_im (s : State) : (s.nvKick).im = s.im := s.nvKick_moves .im (by simp)
@[simp] theorem State.nvKick_pc (s : State) : (s.nvKick).pc = s.pc := s.nvKick_moves .pc (by simp)
@[simp] theorem State.nvKick_cl (s : State) : (s.nvKick).cl = s.cl := s.nvKick_moves .cl (by simp)
@[simp] theorem State.nvKick_ef (s : State) : (s.nvKick).ef = s.ef := s.nvKick_moves .ef (by simp)
@[simp] theorem State.nvKick_bs (s : State) : (s.nvKick).bs = s.bs := s.nvKick_moves .bs (by simp)
@[simp] theorem State.nvKick_tm (s : State) : (s.nvKick).tm = s.tm := s.nvKick_moves .tm (by simp)
@[simp] theorem State.nvKick_de (s : State) : (s.nvKick).de = s.de := s.nvKick_moves .de (by simp)
@[simp] theorem State.nvKick_si (s : State) : (s.nvKick).si = s.si := s.nvKick_moves .si (by simp)
@[simp] theorem State.nvKick_os (s : State) : (s.nvKick).os = s.os := s.nvKick_moves .os (by simp)
@[simp] theorem State.nvKick_tb (s : State) : (s.nvKick).tb = s.tb := s.nvKick_moves .tb (by simp)
@[simp] theorem State.nvKick_ck (s : State) : (s.nvKick).ck = s.ck := s.nvKick_moves .ck (by simp)
@[simp] theorem State.nvKick_ld (s : State) : (s.nvKick).ld = s.ld := s.nvKick_moves .ld (by simp)
@[simp] theorem State.nvKick_lg (s : State) : (s.nvKick).lg = s.lg := s.nvKick_moves .lg (by simp)
@[simp] theorem State.nvKick_id (s : State) : (s.nvKick).id = s.id := s.nvKick_moves .id (by simp)
@[simp] theorem State.nvKick_cfg (s : State) : (s.nvKick).cfg = s.cfg := s.nvKick_moves .cfg (by simp)
@[simp] theorem State.nvKick_stopWait (s : State) : (s.nvKick).stopWait = s.stopWait := s.nvKick_moves .stopWait (by simp)
@[simp] theorem State.nvKick_bytesWait (s : State) : (s.nvKick).bytesWait = s.bytesWait := s.nvKick_moves .bytesWait (by simp)
@[simp] theorem State.nvKick_bytes (s : State) : (s.nvKick).bytes = s.bytes := s.nvKick_moves .bytes (by simp)
@[simp] theorem State.nvKick_freeCount (s : State) : (s.nvKick).freeCount = s.freeCount := s.nvKick_moves .freeCount (by simp)
@[simp] theorem State.nvKick_pending (s : State) : (s.nvKick).pending = s.pending := s.nvKick_moves .pending (by simp)
@[simp] theorem State.nvKick_sy (s : State) : (s.nvKick).sy = s.sy := s.nvKick_alters .sy (by simp)
@[simp] theorem State.nvKick_en (s : State) : (s.nvKick).en = s.en := s.nvKick_alters .en (by simp)
@[simp] theorem State.nvKick_cn (s : State) : (s.nvKick).cn = s.cn := s.nvKick_alters .cn (by simp)
@[simp] theorem State.nvKick_ty (s : State) : (s.nvKick).ty = s.ty := s.nvKick_alters .ty (by simp)
@[simp] theorem State.nvKick_out (s : State) : (s.nvKick).out = s.out := s.nvKick_alters .out (by simp)

@[simp] theorem State.journal_fm (s : State) (id : Nat) (payload : List Int) : (s.journal id payload).fm = s.fm := s.journal_moves id payload .fm (by simp)
@[simp] theorem State.journal_rows (s : State) (id : Nat) (payload : List Int) : (s.journal id payload).rows = s.rows := s.journal_moves id payload .rows (by simp)
@[simp] theorem State.journal_pm (s : State) (id : Nat) (payload : List Int) : (s.journal id payload).pm = s.pm := s.journal_moves id payload .pm (by simp)
@[simp] theorem State.journal_ca (s : State) (id : Nat) (payload : List Int) : (s.journal id payload).ca = s.ca := s.journal_moves id payload .ca (by simp)
@[simp] theorem State.journal_ss (s : State) (id : Nat) (payload : List Int) : (s.journal id payload).ss = s.ss := s.journal_moves id payload .ss (by simp)
@[simp] theorem State.journal_im (s : State) (id : Nat) (payload : List Int) : (s.journal id payload).im = s.im := s.journal_moves id payload .im (by simp)
@[simp] theorem State.journal_pc (s : State) (id : Nat) (payload : List Int) : (s.journal id payload).pc = s.pc := s.journal_moves id payload .pc (by simp)
@[simp] theorem State.journal_cl (s : State) (id : Nat) (payload : List Int) : (s.journal id payload).cl = s.cl := s.journal_moves id payload .cl (by simp)
@[simp] theorem State.journal_ef (s : State) (id : Nat) (payload : List Int) : (s.journal id payload).ef = s.ef := s.journal_moves id payload .ef (by simp)
@[simp] theorem State.journal_bs (s : State) (id : Nat) (payload : List Int) : (s.journal id payload).bs = s.bs := s.journal_moves id payload .bs (by simp)
@[simp] theorem State.journal_tm (s : State) (id : Nat) (payload : List Int) : (s.journal id payload).tm = s.tm := s.journal_moves id payload .tm (by simp)
@[simp] theorem State.journal_de (s : State) (id : Nat) (payload : List Int) : (s.journal id payload).de = s.de := s.journal_moves id payload .de (by simp)
@[simp] theorem State.journal_si (s : State) (id : Nat) (payload : List Int) : (s.journal id payload).si = s.si := s.journal_moves id payload .si (by simp)
@[simp] theorem State.journal_os (s : State) (id : Nat) (payload : List Int) : (s.journal id payload).os = s.os := s.journal_moves id payload .os (by simp)
@[simp] theorem State.journal_tb (s : State) (id : Nat) (payload : List Int) : (s.journal id payload).tb = s.tb := s.journal_moves id payload .tb (by simp)
@[simp] theorem State.journal_ck (s : State) (id : Nat) (payload : List Int) : (s.journal id payload).ck = s.ck := s.journal_moves id payload .ck (by simp)
@[simp] theorem State.journal_ld (s : State) (id : Nat) (payload : List Int) : (s.journal id payload).ld = s.ld := s.journal_moves id payload .ld (by simp)
@[simp] theorem State.journal_lg (s : State) (id : Nat) (payload : List Int) : (s.journal id payload).lg = s.lg := s.journal_moves id payload .lg (by simp)
@[simp] theorem State.journal_id (s : State) (id : Nat) (payload : List Int) : (s.journal id payload).id = s.id := s.journal_moves id payload .id (by simp)
@[simp] theorem State.journal_cfg (s : State) (id : Nat) (payload : List Int) : (s.journal id payload).cfg = s.cfg := s.journal_moves id payload .cfg (by simp)
@[simp] theorem State.journal_stopWait (s : State) (id : Nat) (payload : List Int) : (s.journal id payload).stopWait = s.stopWait := s.journal_moves id payload .stopWait (by simp)
@[simp] theorem State.journal_bytesWait (s : State) (id : Nat) (payload : List Int) : (s.journal id payload).bytesWait = s.bytesWait := s.journal_moves id payload .bytesWait (by simp)
@[simp] theorem State.journal_bytes (s : State) (id : Nat) (payload : List Int) : (s.journal id payload).bytes = s.bytes := s.journal_moves id payload .bytes (by simp)
@[simp] theorem State.journal_freeCount (s : State) (id : Nat) (payload : List Int) : (s.journal id payload).freeCount = s.freeCount := s.journal_moves id payload .freeCount (by simp)
@[simp] theorem State.journal_pending (s : State) (id : Nat) (payload : List Int) : (s.journal id payload).pending = s.pending := s.journal_moves id payload .pending (by simp)
@[simp] theorem State.journal_sy (s : State) (id : Nat) (payload : List Int) : (s.journal id payload).sy = s.sy := s.journal_alters id payload .sy (by simp)
@[simp] theorem State.journal_en (s : State) (id : Nat) (payload : List Int) : (s.journal id payload).en = s.en := s.journal_alters id payload .en (by simp)
@[simp] theorem State.journal_cn (s : State) (id : Nat) (payload : List Int) : (s.journal id payload).cn = s.cn := s.journal_alters id payload .cn (by simp)
@[simp] theorem State.journal_ty (s : State) (id : Nat) (payload : List Int) : (s.journal id payload).ty = s.ty := s.journal_alters id payload .ty (by simp)
@[simp] theorem State.journal_out (s : State) (id : Nat) (payload : List Int) : (s.journal id payload).out = s.out := s.journal_alters id payload .out (by simp)

@[simp] theorem State.journal6_fm (s : State) : (s.journal6).fm = s.fm := s.journal6_moves .fm (by simp)
@[simp] theorem State.journal6_rows (s : State) : (s.journal6).rows = s.rows := s.journal6_moves .rows (by simp)
@[simp] theorem State.journal6_pm (s : State) : (s.journal6).pm = s.pm := s.journal6_moves .pm (by simp)
@[simp] theorem State.journal6_ca (s : State) : (s.journal6).ca = s.ca := s.journal6_moves .ca (by simp)
@[simp] theorem State.journal6_ss (s : State) : (s.journal6).ss = s.ss := s.journal6_moves .ss (by simp)
@[simp] theorem State.journal6_im (s : State) : (s.journal6).im = s.im := s.journal6_moves .im (by simp)
@[simp] theorem State.journal6_pc (s : State) : (s.journal6).pc = s.pc := s.journal6_moves .pc (by simp)
@[simp] theorem State.journal6_cl (s : State) : (s.journal6).cl = s.cl := s.journal6_moves .cl (by simp)
@[simp] theorem State.journal6_ef (s : State) : (s.journal6).ef = s.ef := s.journal6_moves .ef (by simp)
@[simp] theorem State.journal6_bs (s : State) : (s.journal6).bs = s.bs := s.journal6_moves .bs (by simp)
@[simp] theorem State.journal6_tm (s : State) : (s.journal6).tm = s.tm := s.journal6_moves .tm (by simp)
@[simp] theorem State.journal6_de (s : State) : (s.journal6).de = s.de := s.journal6_moves .de (by simp)
@[simp] theorem State.journal6_si (s : State) : (s.journal6).si = s.si := s.journal6_moves .si (by simp)
@[simp] theorem State.journal6_os (s : State) : (s.journal6).os = s.os := s.journal6_moves .os (by simp)
@[simp] theorem State.journal6_tb (s : State) : (s.journal6).tb = s.tb := s.journal6_moves .tb (by simp)
@[simp] theorem State.journal6_ck (s : State) : (s.journal6).ck = s.ck := s.journal6_moves .ck (by simp)
@[simp] theorem State.journal6_ld (s : State) : (s.journal6).ld = s.ld := s.journal6_moves .ld (by simp)
@[simp] theorem State.journal6_lg (s : State) : (s.journal6).lg = s.lg := s.journal6_moves .lg (by simp)
@[simp] theorem State.journal6_id (s : State) : (s.journal6).id = s.id := s.journal6_moves .id (by simp)
@[simp] theorem State.journal6_cfg (s : State) : (s.journal6).cfg = s.cfg := s.journal6_moves .cfg (by simp)
@[simp] theorem State.journal6_stopWait (s : State) : (s.journal6).stopWait = s.stopWait := s.journal6_moves .stopWait (by simp)
@[simp] theorem State.journal6_bytesWait (s : State) : (s.journal6).bytesWait = s.bytesWait := s.journal6_moves .bytesWait (by simp)
@[simp] theorem State.journal6_bytes (s : State) : (s.journal6).bytes = s.bytes := s.journal6_moves .bytes (by simp)
@[simp] theorem State.journal6_freeCount (s : State) : (s.journal6).freeCount = s.freeCount := s.journal6_moves .freeCount (by simp)
@[simp] theorem State.journal6_pending (s : State) : (s.journal6).pending = s.pending := s.journal6_moves .pending (by simp)
@[simp] theorem State.journal6_sy (s : State) : (s.journal6).sy = s.sy := s.journal6_alters .sy (by simp)
@[simp] theorem State.journal6_en (s : State) : (s.journal6).en = s.en := s.journal6_alters .en (by simp)
@[simp] theorem State.journal6_cn (s : State) : (s.journal6).cn = s.cn := s.journal6_alters .cn (by simp)
@[simp] theorem State.journal6_ty (s : State) : (s.journal6).ty = s.ty := s.journal6_alters .ty (by simp)
@[simp] theorem State.journal6_out (s : State) : (s.journal6).out = s.out := s.journal6_alters .out (by simp)

@[simp] theorem State.logDropped_rows (s : State) (r : LogRec) : (s.logDropped r).rows = s.rows := s.logDropped_moves r .rows (by simp)
@[simp] theorem State.logDropped_pm (s : State) (r : LogRec) : (s.logDropped r).pm = s.pm := s.logDropped_moves r .pm (by simp)
@[simp] theorem State.logDropped_ca (s : State) (r : LogRec) : (s.logDropped r).ca = s.ca := s.logDropped_moves r .ca (by simp)
@[simp] theorem State.logDropped_ss (s : State) (r : LogRec) : (s.logDropped r).ss = s.ss := s.logDropped_moves r .ss (by simp)
@[simp] theorem State.logDropped_im (s : State) (r : LogRec) : (s.logDropped r).im = s.im := s.logDropped_moves r .im (by simp)
@[simp] theorem State.logDropped_pc (s : State) (r : LogRec) : (s.logDropped r).pc = s.pc := s.logDropped_moves r .pc (by simp)
@[simp] theorem State.logDropped_cl (s : State) (r : LogRec) : (s.logDropped r).cl = s.cl := s.logDropped_moves r .cl (by simp)
@[simp] theorem State.logDropped_ef (s : State) (r : LogRec) : (s.logDropped r).ef = s.ef := s.logDropped_moves r .ef (by simp)
@[simp] theorem State.logDropped_bs (s : State) (r : LogRec) : (s.logDropped r).bs = s.bs := s.logDropped_moves r .bs (by simp)
@[simp] theorem State.logDropped_tm (s : State) (r : LogRec) : (s.logDropped r).tm = s.tm := s.logDropped_moves r .tm (by simp)
@[simp] theorem State.logDropped_de (s : State) (r : LogRec) : (s.logDropped r).de = s.de := s.logDropped_moves r .de (by simp)
@[simp] theorem State.logDropped_si (s : State) (r : LogRec) : (s.logDropped r).si = s.si := s.logDropped_moves r .si (by simp)
@[simp] theorem State.logDropped_os (s : State) (r : LogRec) : (s.logDropped r).os = s.os := s.logDropped_moves r .os (by simp)
@[simp] theorem State.logDropped_tb (s : State) (r : LogRec) : (s.logDropped r).tb = s.tb := s.logDropped_moves r .tb (by simp)
@[simp] theorem State.logDropped_ck (s : State) (r : LogRec) : (s.logDropped r).ck = s.ck := s.logDropped_moves r .ck (by simp)
@[simp] theorem State.logDropped_ld (s : State) (r : LogRec) : (s.logDropped r).ld = s.ld := s.logDropped_moves r .ld (by simp)
@[simp] theorem State.logDropped_id (s : State) (r : LogRec) : (s.logDropped r).id = s.id := s.logDropped_moves r .id (by simp)
@[simp] theorem State.logDropped_cfg (s : State) (r : LogRec) : (s.logDropped r).cfg = s.cfg := s.logDropped_moves r .cfg (by simp)
@[simp] theorem State.logDropped_stopWait (s : State) (r : LogRec) : (s.logDropped r).stopWait = s.stopWait := s.logDropped_moves r .stopWait (by simp)
@[simp] theorem State.logDropped_bytesWait (s : State) (r : LogRec) : (s.logDropped r).bytesWait = s.bytesWait := s.logDropped_moves r .bytesWait (by simp)
@[simp] theorem State.logDropped_bytes (s : State) (r : LogRec) : (s.logDropped r).bytes = s.bytes := s.logDropped_moves r .bytes (by simp)
@[simp] theorem State.logDropped_freeCount (s : State) (r : LogRec) : (s.logDropped r).freeCount = s.freeCount := s.logDropped_moves r .freeCount (by simp)
@[simp] theorem State.logDropped_pending (s : State) (r : LogRec) : (s.logDropped r).pending = s.pending := s.logDropped_moves r .pending (by simp)

@[simp] theorem State.logAdmit_rows (s : State) (r : LogRec) : (s.logAdmit r).rows = s.rows := s.logAdmit_moves r .rows (by simp)
@[simp] theorem State.logAdmit_pm (s : State) (r : LogRec) : (s.logAdmit r).pm = s.pm := s.logAdmit_moves r .pm (by simp)
@[simp] theorem State.logAdmit_ca (s : State) (r : LogRec) : (s.logAdmit r).ca = s.ca := s.logAdmit_moves r .ca (by simp)
@[simp] theorem State.logAdmit_ss (s : State) (r : LogRec) : (s.logAdmit r).ss = s.ss := s.logAdmit_moves r .ss (by simp)
@[simp] theorem State.logAdmit_im (s : State) (r : LogRec) : (s.logAdmit r).im = s.im := s.logAdmit_moves r .im (by simp)
@[simp] theorem State.logAdmit_pc (s : State) (r : LogRec) : (s.logAdmit r).pc = s.pc := s.logAdmit_moves r .pc (by simp)
@[simp] theorem State.logAdmit_cl (s : State) (r : LogRec) : (s.logAdmit r).cl = s.cl := s.logAdmit_moves r .cl (by simp)
@[simp] theorem State.logAdmit_ef (s : State) (r : LogRec) : (s.logAdmit r).ef = s.ef := s.logAdmit_moves r .ef (by simp)
@[simp] theorem State.logAdmit_bs (s : State) (r : LogRec) : (s.logAdmit r).bs = s.bs := s.logAdmit_moves r .bs (by simp)
@[simp] theorem State.logAdmit_tm (s : State) (r : LogRec) : (s.logAdmit r).tm = s.tm := s.logAdmit_moves r .tm (by simp)
@[simp] theorem State.logAdmit_de (s : State) (r : LogRec) : (s.logAdmit r).de = s.de := s.logAdmit_moves r .de (by simp)
@[simp] theorem State.logAdmit_si (s : State) (r : LogRec) : (s.logAdmit r).si = s.si := s.logAdmit_moves r .si (by simp)
@[simp] theorem State.logAdmit_os (s : State) (r : LogRec) : (s.logAdmit r).os = s.os := s.logAdmit_moves r .os (by simp)
@[simp] theorem State.logAdmit_tb (s : State) (r : LogRec) : (s.logAdmit r).tb = s.tb := s.logAdmit_moves r .tb (by simp)
@[simp] theorem State.logAdmit_ck (s : State) (r : LogRec) : (s.logAdmit r).ck = s.ck := s.logAdmit_moves r .ck (by simp)
@[simp] theorem State.logAdmit_ld (s : State) (r : LogRec) : (s.logAdmit r).ld = s.ld := s.logAdmit_moves r .ld (by simp)
@[simp] theorem State.logAdmit_id (s : State) (r : LogRec) : (s.logAdmit r).id = s.id := s.logAdmit_moves r .id (by simp)
@[simp] theorem State.logAdmit_cfg (s : State) (r : LogRec) : (s.logAdmit r).cfg = s.cfg := s.logAdmit_moves r .cfg (by simp)
@[simp] theorem State.logAdmit_stopWait (s : State) (r : LogRec) : (s.logAdmit r).stopWait = s.stopWait := s.logAdmit_moves r .stopWait (by simp)
@[simp] theorem State.logAdmit_bytesWait (s : State) (r : LogRec) : (s.logAdmit r).bytesWait = s.bytesWait := s.logAdmit_moves r .bytesWait (by simp)
@[simp] theorem State.logAdmit_bytes (s : State) (r : LogRec) : (s.logAdmit r).bytes = s.bytes := s.logAdmit_moves r .bytes (by simp)
@[simp] theorem State.logAdmit_freeCount (s : State) (r : LogRec) : (s.logAdmit r).freeCount = s.freeCount := s.logAdmit_moves r .freeCount (by simp)
@[simp] theorem State.logAdmit_pending (s : State) (r : LogRec) : (s.logAdmit r).pending = s.pending := s.logAdmit_moves r .pending (by simp)

@[simp] theorem State.logKind_rows (s : State) (kind detail : Nat) : (s.logKind kind detail).rows = s.rows := s.logKind_moves kind detail .rows (by simp)
@[simp] theorem State.logKind_pm (s : State) (kind detail : Nat) : (s.logKind kind detail).pm = s.pm := s.logKind_moves kind detail .pm (by simp)
@[simp] theorem State.logKind_ca (s : State) (kind detail : Nat) : (s.logKind kind detail).ca = s.ca := s.logKind_moves kind detail .ca (by simp)
@[simp] theorem State.logKind_ss (s : State) (kind detail : Nat) : (s.logKind kind detail).ss = s.ss := s.logKind_moves kind detail .ss (by simp)
@[simp] theorem State.logKind_im (s : State) (kind detail : Nat) : (s.logKind kind detail).im = s.im := s.logKind_moves kind detail .im (by simp)
@[simp] theorem State.logKind_pc (s : State) (kind detail : Nat) : (s.logKind kind detail).pc = s.pc := s.logKind_moves kind detail .pc (by simp)
@[simp] theorem State.logKind_cl (s : State) (kind detail : Nat) : (s.logKind kind detail).cl = s.cl := s.logKind_moves kind detail .cl (by simp)
@[simp] theorem State.logKind_ef (s : State) (kind detail : Nat) : (s.logKind kind detail).ef = s.ef := s.logKind_moves kind detail .ef (by simp)
@[simp] theorem State.logKind_bs (s : State) (kind detail : Nat) : (s.logKind kind detail).bs = s.bs := s.logKind_moves kind detail .bs (by simp)
@[simp] theorem State.logKind_tm (s : State) (kind detail : Nat) : (s.logKind kind detail).tm = s.tm := s.logKind_moves kind detail .tm (by simp)
@[simp] theorem State.logKind_de (s : State) (kind detail : Nat) : (s.logKind kind detail).de = s.de := s.logKind_moves kind detail .de (by simp)
@[simp] theorem State.logKind_si (s : State) (kind detail : Nat) : (s.logKind kind detail).si = s.si := s.logKind_moves kind detail .si (by simp)
@[simp] theorem State.logKind_os (s : State) (kind detail : Nat) : (s.logKind kind detail).os = s.os := s.logKind_moves kind detail .os (by simp)
@[simp] theorem State.logKind_tb (s : State) (kind detail : Nat) : (s.logKind kind detail).tb = s.tb := s.logKind_moves kind detail .tb (by simp)
@[simp] theorem State.logKind_ck (s : State) (kind detail : Nat) : (s.logKind kind detail).ck = s.ck := s.logKind_moves kind detail .ck (by simp)
@[simp] theorem State.logKind_ld (s : State) (kind detail : Nat) : (s.logKind kind detail).ld = s.ld := s.logKind_moves kind detail .ld (by simp)
@[simp] theorem State.logKind_id (s : State) (kind detail : Nat) : (s.logKind kind detail).id = s.id := s.logKind_moves kind detail .id (by simp)
@[simp] theorem State.logKind_cfg (s : State) (kind detail : Nat) : (s.logKind kind detail).cfg = s.cfg := s.logKind_moves kind detail .cfg (by simp)
@[simp] theorem State.logKind_stopWait (s : State) (kind detail : Nat) : (s.logKind kind detail).stopWait = s.stopWait := s.logKind_moves kind detail .stopWait (by simp)
@[simp] theorem State.logKind_bytesWait (s : State) (kind detail : Nat) : (s.logKind kind detail).bytesWait = s.bytesWait := s.logKind_moves kind detail .bytesWait (by simp)
@[simp] theorem State.logKind_bytes (s : State) (kind detail : Nat) : (s.logKind kind detail).bytes = s.bytes := s.logKind_moves kind detail .bytes (by simp)
@[simp] theorem State.logKind_freeCount (s : State) (kind detail : Nat) : (s.logKind kind detail).freeCount = s.freeCount := s.logKind_moves kind detail .freeCount (by simp)
@[simp] theorem State.logKind_pending (s : State) (kind detail : Nat) : (s.logKind kind detail).pending = s.pending := s.logKind_moves kind detail .pending (by simp)

@[simp] theorem State.travel_fm (s : State) (c : CmdRecord) : (s.travel c).fm = s.fm := s.travel_moves c .fm (by simp)
@[simp] theorem State.travel_rows (s : State) (c : CmdRecord) : (s.travel c).rows = s.rows := s.travel_moves c .rows (by simp)
@[simp] theorem State.travel_pm (s : State) (c : CmdRecord) : (s.travel c).pm = s.pm := s.travel_moves c .pm (by simp)
@[simp] theorem State.travel_ca (s : State) (c : CmdRecord) : (s.travel c).ca = s.ca := s.travel_moves c .ca (by simp)
@[simp] theorem State.travel_ss (s : State) (c : CmdRecord) : (s.travel c).ss = s.ss := s.travel_moves c .ss (by simp)
@[simp] theorem State.travel_im (s : State) (c : CmdRecord) : (s.travel c).im = s.im := s.travel_moves c .im (by simp)
@[simp] theorem State.travel_pc (s : State) (c : CmdRecord) : (s.travel c).pc = s.pc := s.travel_moves c .pc (by simp)
@[simp] theorem State.travel_cl (s : State) (c : CmdRecord) : (s.travel c).cl = s.cl := s.travel_moves c .cl (by simp)
@[simp] theorem State.travel_ef (s : State) (c : CmdRecord) : (s.travel c).ef = s.ef := s.travel_moves c .ef (by simp)
@[simp] theorem State.travel_bs (s : State) (c : CmdRecord) : (s.travel c).bs = s.bs := s.travel_moves c .bs (by simp)
@[simp] theorem State.travel_tm (s : State) (c : CmdRecord) : (s.travel c).tm = s.tm := s.travel_moves c .tm (by simp)
@[simp] theorem State.travel_de (s : State) (c : CmdRecord) : (s.travel c).de = s.de := s.travel_moves c .de (by simp)
@[simp] theorem State.travel_si (s : State) (c : CmdRecord) : (s.travel c).si = s.si := s.travel_moves c .si (by simp)
@[simp] theorem State.travel_os (s : State) (c : CmdRecord) : (s.travel c).os = s.os := s.travel_moves c .os (by simp)
@[simp] theorem State.travel_tb (s : State) (c : CmdRecord) : (s.travel c).tb = s.tb := s.travel_moves c .tb (by simp)
@[simp] theorem State.travel_ck (s : State) (c : CmdRecord) : (s.travel c).ck = s.ck := s.travel_moves c .ck (by simp)
@[simp] theorem State.travel_nv (s : State) (c : CmdRecord) : (s.travel c).nv = s.nv := s.travel_moves c .nv (by simp)
@[simp] theorem State.travel_ld (s : State) (c : CmdRecord) : (s.travel c).ld = s.ld := s.travel_moves c .ld (by simp)
@[simp] theorem State.travel_lg (s : State) (c : CmdRecord) : (s.travel c).lg = s.lg := s.travel_moves c .lg (by simp)
@[simp] theorem State.travel_id (s : State) (c : CmdRecord) : (s.travel c).id = s.id := s.travel_moves c .id (by simp)
@[simp] theorem State.travel_cfg (s : State) (c : CmdRecord) : (s.travel c).cfg = s.cfg := s.travel_moves c .cfg (by simp)
@[simp] theorem State.travel_stopWait (s : State) (c : CmdRecord) : (s.travel c).stopWait = s.stopWait := s.travel_moves c .stopWait (by simp)
@[simp] theorem State.travel_bytesWait (s : State) (c : CmdRecord) : (s.travel c).bytesWait = s.bytesWait := s.travel_moves c .bytesWait (by simp)
@[simp] theorem State.travel_bytes (s : State) (c : CmdRecord) : (s.travel c).bytes = s.bytes := s.travel_moves c .bytes (by simp)
@[simp] theorem State.travel_freeCount (s : State) (c : CmdRecord) : (s.travel c).freeCount = s.freeCount := s.travel_moves c .freeCount (by simp)
@[simp] theorem State.travel_pending (s : State) (c : CmdRecord) : (s.travel c).pending = s.pending := s.travel_moves c .pending (by simp)

@[simp] theorem State.frameIn_fm (s : State) (port : Nat) : (s.frameIn port).fm = s.fm := s.frameIn_moves port .fm (by simp)
@[simp] theorem State.frameIn_rows (s : State) (port : Nat) : (s.frameIn port).rows = s.rows := s.frameIn_moves port .rows (by simp)
@[simp] theorem State.frameIn_pm (s : State) (port : Nat) : (s.frameIn port).pm = s.pm := s.frameIn_moves port .pm (by simp)
@[simp] theorem State.frameIn_ca (s : State) (port : Nat) : (s.frameIn port).ca = s.ca := s.frameIn_moves port .ca (by simp)
@[simp] theorem State.frameIn_ss (s : State) (port : Nat) : (s.frameIn port).ss = s.ss := s.frameIn_moves port .ss (by simp)
@[simp] theorem State.frameIn_im (s : State) (port : Nat) : (s.frameIn port).im = s.im := s.frameIn_moves port .im (by simp)
@[simp] theorem State.frameIn_pc (s : State) (port : Nat) : (s.frameIn port).pc = s.pc := s.frameIn_moves port .pc (by simp)
@[simp] theorem State.frameIn_cl (s : State) (port : Nat) : (s.frameIn port).cl = s.cl := s.frameIn_moves port .cl (by simp)
@[simp] theorem State.frameIn_ef (s : State) (port : Nat) : (s.frameIn port).ef = s.ef := s.frameIn_moves port .ef (by simp)
@[simp] theorem State.frameIn_bs (s : State) (port : Nat) : (s.frameIn port).bs = s.bs := s.frameIn_moves port .bs (by simp)
@[simp] theorem State.frameIn_tm (s : State) (port : Nat) : (s.frameIn port).tm = s.tm := s.frameIn_moves port .tm (by simp)
@[simp] theorem State.frameIn_de (s : State) (port : Nat) : (s.frameIn port).de = s.de := s.frameIn_moves port .de (by simp)
@[simp] theorem State.frameIn_si (s : State) (port : Nat) : (s.frameIn port).si = s.si := s.frameIn_moves port .si (by simp)
@[simp] theorem State.frameIn_os (s : State) (port : Nat) : (s.frameIn port).os = s.os := s.frameIn_moves port .os (by simp)
@[simp] theorem State.frameIn_tb (s : State) (port : Nat) : (s.frameIn port).tb = s.tb := s.frameIn_moves port .tb (by simp)
@[simp] theorem State.frameIn_ck (s : State) (port : Nat) : (s.frameIn port).ck = s.ck := s.frameIn_moves port .ck (by simp)
@[simp] theorem State.frameIn_nv (s : State) (port : Nat) : (s.frameIn port).nv = s.nv := s.frameIn_moves port .nv (by simp)
@[simp] theorem State.frameIn_ld (s : State) (port : Nat) : (s.frameIn port).ld = s.ld := s.frameIn_moves port .ld (by simp)
@[simp] theorem State.frameIn_lg (s : State) (port : Nat) : (s.frameIn port).lg = s.lg := s.frameIn_moves port .lg (by simp)
@[simp] theorem State.frameIn_id (s : State) (port : Nat) : (s.frameIn port).id = s.id := s.frameIn_moves port .id (by simp)
@[simp] theorem State.frameIn_cfg (s : State) (port : Nat) : (s.frameIn port).cfg = s.cfg := s.frameIn_moves port .cfg (by simp)
@[simp] theorem State.frameIn_stopWait (s : State) (port : Nat) : (s.frameIn port).stopWait = s.stopWait := s.frameIn_moves port .stopWait (by simp)
@[simp] theorem State.frameIn_bytesWait (s : State) (port : Nat) : (s.frameIn port).bytesWait = s.bytesWait := s.frameIn_moves port .bytesWait (by simp)
@[simp] theorem State.frameIn_bytes (s : State) (port : Nat) : (s.frameIn port).bytes = s.bytes := s.frameIn_moves port .bytes (by simp)
@[simp] theorem State.frameIn_freeCount (s : State) (port : Nat) : (s.frameIn port).freeCount = s.freeCount := s.frameIn_moves port .freeCount (by simp)
@[simp] theorem State.frameIn_pending (s : State) (port : Nat) : (s.frameIn port).pending = s.pending := s.frameIn_moves port .pending (by simp)

@[simp] theorem State.frameOut_fm (s : State) (port : Nat) : (s.frameOut port).fm = s.fm := s.frameOut_moves port .fm (by simp)
@[simp] theorem State.frameOut_rows (s : State) (port : Nat) : (s.frameOut port).rows = s.rows := s.frameOut_moves port .rows (by simp)
@[simp] theorem State.frameOut_pm (s : State) (port : Nat) : (s.frameOut port).pm = s.pm := s.frameOut_moves port .pm (by simp)
@[simp] theorem State.frameOut_ca (s : State) (port : Nat) : (s.frameOut port).ca = s.ca := s.frameOut_moves port .ca (by simp)
@[simp] theorem State.frameOut_ss (s : State) (port : Nat) : (s.frameOut port).ss = s.ss := s.frameOut_moves port .ss (by simp)
@[simp] theorem State.frameOut_im (s : State) (port : Nat) : (s.frameOut port).im = s.im := s.frameOut_moves port .im (by simp)
@[simp] theorem State.frameOut_pc (s : State) (port : Nat) : (s.frameOut port).pc = s.pc := s.frameOut_moves port .pc (by simp)
@[simp] theorem State.frameOut_cl (s : State) (port : Nat) : (s.frameOut port).cl = s.cl := s.frameOut_moves port .cl (by simp)
@[simp] theorem State.frameOut_ef (s : State) (port : Nat) : (s.frameOut port).ef = s.ef := s.frameOut_moves port .ef (by simp)
@[simp] theorem State.frameOut_bs (s : State) (port : Nat) : (s.frameOut port).bs = s.bs := s.frameOut_moves port .bs (by simp)
@[simp] theorem State.frameOut_tm (s : State) (port : Nat) : (s.frameOut port).tm = s.tm := s.frameOut_moves port .tm (by simp)
@[simp] theorem State.frameOut_de (s : State) (port : Nat) : (s.frameOut port).de = s.de := s.frameOut_moves port .de (by simp)
@[simp] theorem State.frameOut_si (s : State) (port : Nat) : (s.frameOut port).si = s.si := s.frameOut_moves port .si (by simp)
@[simp] theorem State.frameOut_os (s : State) (port : Nat) : (s.frameOut port).os = s.os := s.frameOut_moves port .os (by simp)
@[simp] theorem State.frameOut_tb (s : State) (port : Nat) : (s.frameOut port).tb = s.tb := s.frameOut_moves port .tb (by simp)
@[simp] theorem State.frameOut_ck (s : State) (port : Nat) : (s.frameOut port).ck = s.ck := s.frameOut_moves port .ck (by simp)
@[simp] theorem State.frameOut_nv (s : State) (port : Nat) : (s.frameOut port).nv = s.nv := s.frameOut_moves port .nv (by simp)
@[simp] theorem State.frameOut_ld (s : State) (port : Nat) : (s.frameOut port).ld = s.ld := s.frameOut_moves port .ld (by simp)
@[simp] theorem State.frameOut_lg (s : State) (port : Nat) : (s.frameOut port).lg = s.lg := s.frameOut_moves port .lg (by simp)
@[simp] theorem State.frameOut_id (s : State) (port : Nat) : (s.frameOut port).id = s.id := s.frameOut_moves port .id (by simp)
@[simp] theorem State.frameOut_cfg (s : State) (port : Nat) : (s.frameOut port).cfg = s.cfg := s.frameOut_moves port .cfg (by simp)
@[simp] theorem State.frameOut_stopWait (s : State) (port : Nat) : (s.frameOut port).stopWait = s.stopWait := s.frameOut_moves port .stopWait (by simp)
@[simp] theorem State.frameOut_bytesWait (s : State) (port : Nat) : (s.frameOut port).bytesWait = s.bytesWait := s.frameOut_moves port .bytesWait (by simp)
@[simp] theorem State.frameOut_bytes (s : State) (port : Nat) : (s.frameOut port).bytes = s.bytes := s.frameOut_moves port .bytes (by simp)
@[simp] theorem State.frameOut_freeCount (s : State) (port : Nat) : (s.frameOut port).freeCount = s.freeCount := s.frameOut_moves port .freeCount (by simp)
@[simp] theorem State.frameOut_pending (s : State) (port : Nat) : (s.frameOut port).pending = s.pending := s.frameOut_moves port .pending (by simp)

@[simp] theorem State.deliver_fm (s : State) (r : Req) (m : Msg) : (s.deliver r m).fm = s.fm := s.deliver_moves r m .fm (by simp)
@[simp] theorem State.deliver_rows (s : State) (r : Req) (m : Msg) : (s.deliver r m).rows = s.rows := s.deliver_moves r m .rows (by simp)
@[simp] theorem State.deliver_pm (s : State) (r : Req) (m : Msg) : (s.deliver r m).pm = s.pm := s.deliver_moves r m .pm (by simp)
@[simp] theorem State.deliver_ca (s : State) (r : Req) (m : Msg) : (s.deliver r m).ca = s.ca := s.deliver_moves r m .ca (by simp)
@[simp] theorem State.deliver_ss (s : State) (r : Req) (m : Msg) : (s.deliver r m).ss = s.ss := s.deliver_moves r m .ss (by simp)
@[simp] theorem State.deliver_im (s : State) (r : Req) (m : Msg) : (s.deliver r m).im = s.im := s.deliver_moves r m .im (by simp)
@[simp] theorem State.deliver_pc (s : State) (r : Req) (m : Msg) : (s.deliver r m).pc = s.pc := s.deliver_moves r m .pc (by simp)
@[simp] theorem State.deliver_cl (s : State) (r : Req) (m : Msg) : (s.deliver r m).cl = s.cl := s.deliver_moves r m .cl (by simp)
@[simp] theorem State.deliver_ef (s : State) (r : Req) (m : Msg) : (s.deliver r m).ef = s.ef := s.deliver_moves r m .ef (by simp)
@[simp] theorem State.deliver_bs (s : State) (r : Req) (m : Msg) : (s.deliver r m).bs = s.bs := s.deliver_moves r m .bs (by simp)
@[simp] theorem State.deliver_tm (s : State) (r : Req) (m : Msg) : (s.deliver r m).tm = s.tm := s.deliver_moves r m .tm (by simp)
@[simp] theorem State.deliver_de (s : State) (r : Req) (m : Msg) : (s.deliver r m).de = s.de := s.deliver_moves r m .de (by simp)
@[simp] theorem State.deliver_si (s : State) (r : Req) (m : Msg) : (s.deliver r m).si = s.si := s.deliver_moves r m .si (by simp)
@[simp] theorem State.deliver_os (s : State) (r : Req) (m : Msg) : (s.deliver r m).os = s.os := s.deliver_moves r m .os (by simp)
@[simp] theorem State.deliver_tb (s : State) (r : Req) (m : Msg) : (s.deliver r m).tb = s.tb := s.deliver_moves r m .tb (by simp)
@[simp] theorem State.deliver_ck (s : State) (r : Req) (m : Msg) : (s.deliver r m).ck = s.ck := s.deliver_moves r m .ck (by simp)
@[simp] theorem State.deliver_nv (s : State) (r : Req) (m : Msg) : (s.deliver r m).nv = s.nv := s.deliver_moves r m .nv (by simp)
@[simp] theorem State.deliver_ld (s : State) (r : Req) (m : Msg) : (s.deliver r m).ld = s.ld := s.deliver_moves r m .ld (by simp)
@[simp] theorem State.deliver_lg (s : State) (r : Req) (m : Msg) : (s.deliver r m).lg = s.lg := s.deliver_moves r m .lg (by simp)
@[simp] theorem State.deliver_id (s : State) (r : Req) (m : Msg) : (s.deliver r m).id = s.id := s.deliver_moves r m .id (by simp)
@[simp] theorem State.deliver_cfg (s : State) (r : Req) (m : Msg) : (s.deliver r m).cfg = s.cfg := s.deliver_moves r m .cfg (by simp)
@[simp] theorem State.deliver_stopWait (s : State) (r : Req) (m : Msg) : (s.deliver r m).stopWait = s.stopWait := s.deliver_moves r m .stopWait (by simp)
@[simp] theorem State.deliver_bytesWait (s : State) (r : Req) (m : Msg) : (s.deliver r m).bytesWait = s.bytesWait := s.deliver_moves r m .bytesWait (by simp)
@[simp] theorem State.deliver_bytes (s : State) (r : Req) (m : Msg) : (s.deliver r m).bytes = s.bytes := s.deliver_moves r m .bytes (by simp)
@[simp] theorem State.deliver_freeCount (s : State) (r : Req) (m : Msg) : (s.deliver r m).freeCount = s.freeCount := s.deliver_moves r m .freeCount (by simp)
@[simp] theorem State.deliver_pending (s : State) (r : Req) (m : Msg) : (s.deliver r m).pending = s.pending := s.deliver_moves r m .pending (by simp)

@[simp] theorem State.sendEvent_rows (s : State) (r : LogRec) (x : Session) : (s.sendEvent r x).rows = s.rows := s.sendEvent_moves r x .rows (by simp)
@[simp] theorem State.sendEvent_pm (s : State) (r : LogRec) (x : Session) : (s.sendEvent r x).pm = s.pm := s.sendEvent_moves r x .pm (by simp)
@[simp] theorem State.sendEvent_ca (s : State) (r : LogRec) (x : Session) : (s.sendEvent r x).ca = s.ca := s.sendEvent_moves r x .ca (by simp)
@[simp] theorem State.sendEvent_ss (s : State) (r : LogRec) (x : Session) : (s.sendEvent r x).ss = s.ss := s.sendEvent_moves r x .ss (by simp)
@[simp] theorem State.sendEvent_im (s : State) (r : LogRec) (x : Session) : (s.sendEvent r x).im = s.im := s.sendEvent_moves r x .im (by simp)
@[simp] theorem State.sendEvent_pc (s : State) (r : LogRec) (x : Session) : (s.sendEvent r x).pc = s.pc := s.sendEvent_moves r x .pc (by simp)
@[simp] theorem State.sendEvent_cl (s : State) (r : LogRec) (x : Session) : (s.sendEvent r x).cl = s.cl := s.sendEvent_moves r x .cl (by simp)
@[simp] theorem State.sendEvent_ef (s : State) (r : LogRec) (x : Session) : (s.sendEvent r x).ef = s.ef := s.sendEvent_moves r x .ef (by simp)
@[simp] theorem State.sendEvent_bs (s : State) (r : LogRec) (x : Session) : (s.sendEvent r x).bs = s.bs := s.sendEvent_moves r x .bs (by simp)
@[simp] theorem State.sendEvent_tm (s : State) (r : LogRec) (x : Session) : (s.sendEvent r x).tm = s.tm := s.sendEvent_moves r x .tm (by simp)
@[simp] theorem State.sendEvent_de (s : State) (r : LogRec) (x : Session) : (s.sendEvent r x).de = s.de := s.sendEvent_moves r x .de (by simp)
@[simp] theorem State.sendEvent_si (s : State) (r : LogRec) (x : Session) : (s.sendEvent r x).si = s.si := s.sendEvent_moves r x .si (by simp)
@[simp] theorem State.sendEvent_os (s : State) (r : LogRec) (x : Session) : (s.sendEvent r x).os = s.os := s.sendEvent_moves r x .os (by simp)
@[simp] theorem State.sendEvent_tb (s : State) (r : LogRec) (x : Session) : (s.sendEvent r x).tb = s.tb := s.sendEvent_moves r x .tb (by simp)
@[simp] theorem State.sendEvent_ck (s : State) (r : LogRec) (x : Session) : (s.sendEvent r x).ck = s.ck := s.sendEvent_moves r x .ck (by simp)
@[simp] theorem State.sendEvent_nv (s : State) (r : LogRec) (x : Session) : (s.sendEvent r x).nv = s.nv := s.sendEvent_moves r x .nv (by simp)
@[simp] theorem State.sendEvent_ld (s : State) (r : LogRec) (x : Session) : (s.sendEvent r x).ld = s.ld := s.sendEvent_moves r x .ld (by simp)
@[simp] theorem State.sendEvent_lg (s : State) (r : LogRec) (x : Session) : (s.sendEvent r x).lg = s.lg := s.sendEvent_moves r x .lg (by simp)
@[simp] theorem State.sendEvent_id (s : State) (r : LogRec) (x : Session) : (s.sendEvent r x).id = s.id := s.sendEvent_moves r x .id (by simp)
@[simp] theorem State.sendEvent_cfg (s : State) (r : LogRec) (x : Session) : (s.sendEvent r x).cfg = s.cfg := s.sendEvent_moves r x .cfg (by simp)
@[simp] theorem State.sendEvent_stopWait (s : State) (r : LogRec) (x : Session) : (s.sendEvent r x).stopWait = s.stopWait := s.sendEvent_moves r x .stopWait (by simp)
@[simp] theorem State.sendEvent_bytesWait (s : State) (r : LogRec) (x : Session) : (s.sendEvent r x).bytesWait = s.bytesWait := s.sendEvent_moves r x .bytesWait (by simp)
@[simp] theorem State.sendEvent_bytes (s : State) (r : LogRec) (x : Session) : (s.sendEvent r x).bytes = s.bytes := s.sendEvent_moves r x .bytes (by simp)
@[simp] theorem State.sendEvent_freeCount (s : State) (r : LogRec) (x : Session) : (s.sendEvent r x).freeCount = s.freeCount := s.sendEvent_moves r x .freeCount (by simp)
@[simp] theorem State.sendEvent_pending (s : State) (r : LogRec) (x : Session) : (s.sendEvent r x).pending = s.pending := s.sendEvent_moves r x .pending (by simp)

/-! ### Faults after updates of other parts -/

@[simp] theorem State.modRows_condFm (s : State) (f : Rows → Rows) (code item : Nat) :
    (s.modRows f).condFm code item = s.condFm code item := rfl
@[simp] theorem State.modRows_eventFm (s : State) (f : Rows → Rows) (code item : Nat) :
    (s.modRows f).eventFm code item = s.eventFm code item := rfl
@[simp] theorem State.modPm_condFm (s : State) (f : Power → Power) (code item : Nat) :
    (s.modPm f).condFm code item = s.condFm code item := rfl
@[simp] theorem State.modPm_eventFm (s : State) (f : Power → Power) (code item : Nat) :
    (s.modPm f).eventFm code item = s.eventFm code item := rfl
@[simp] theorem State.modCa_condFm (s : State) (f : Converter → Converter) (code item : Nat) :
    (s.modCa f).condFm code item = s.condFm code item := rfl
@[simp] theorem State.modCa_eventFm (s : State) (f : Converter → Converter) (code item : Nat) :
    (s.modCa f).eventFm code item = s.eventFm code item := rfl
@[simp] theorem State.modSs_condFm (s : State) (f : Sensing → Sensing) (code item : Nat) :
    (s.modSs f).condFm code item = s.condFm code item := rfl
@[simp] theorem State.modSs_eventFm (s : State) (f : Sensing → Sensing) (code item : Nat) :
    (s.modSs f).eventFm code item = s.eventFm code item := rfl
@[simp] theorem State.modIm_condFm (s : State) (f : Insulation → Insulation) (code item : Nat) :
    (s.modIm f).condFm code item = s.condFm code item := rfl
@[simp] theorem State.modIm_eventFm (s : State) (f : Insulation → Insulation) (code item : Nat) :
    (s.modIm f).eventFm code item = s.eventFm code item := rfl
@[simp] theorem State.modPc_condFm (s : State) (f : Contactor → Contactor) (code item : Nat) :
    (s.modPc f).condFm code item = s.condFm code item := rfl
@[simp] theorem State.modPc_eventFm (s : State) (f : Contactor → Contactor) (code item : Nat) :
    (s.modPc f).eventFm code item = s.eventFm code item := rfl
@[simp] theorem State.modCl_condFm (s : State) (f : CellLink → CellLink) (code item : Nat) :
    (s.modCl f).condFm code item = s.condFm code item := rfl
@[simp] theorem State.modCl_eventFm (s : State) (f : CellLink → CellLink) (code item : Nat) :
    (s.modCl f).eventFm code item = s.eventFm code item := rfl
@[simp] theorem State.modEf_condFm (s : State) (f : Fabric → Fabric) (code item : Nat) :
    (s.modEf f).condFm code item = s.condFm code item := rfl
@[simp] theorem State.modEf_eventFm (s : State) (f : Fabric → Fabric) (code item : Nat) :
    (s.modEf f).eventFm code item = s.eventFm code item := rfl
@[simp] theorem State.modBs_condFm (s : State) (f : Balancer → Balancer) (code item : Nat) :
    (s.modBs f).condFm code item = s.condFm code item := rfl
@[simp] theorem State.modBs_eventFm (s : State) (f : Balancer → Balancer) (code item : Nat) :
    (s.modBs f).eventFm code item = s.eventFm code item := rfl
@[simp] theorem State.modTm_condFm (s : State) (f : Thermal → Thermal) (code item : Nat) :
    (s.modTm f).condFm code item = s.condFm code item := rfl
@[simp] theorem State.modTm_eventFm (s : State) (f : Thermal → Thermal) (code item : Nat) :
    (s.modTm f).eventFm code item = s.eventFm code item := rfl
@[simp] theorem State.modDe_condFm (s : State) (f : Dispatch → Dispatch) (code item : Nat) :
    (s.modDe f).condFm code item = s.condFm code item := rfl
@[simp] theorem State.modDe_eventFm (s : State) (f : Dispatch → Dispatch) (code item : Nat) :
    (s.modDe f).eventFm code item = s.eventFm code item := rfl
@[simp] theorem State.modOs_condFm (s : State) (f : Outputs → Outputs) (code item : Nat) :
    (s.modOs f).condFm code item = s.condFm code item := rfl
@[simp] theorem State.modOs_eventFm (s : State) (f : Outputs → Outputs) (code item : Nat) :
    (s.modOs f).eventFm code item = s.eventFm code item := rfl
@[simp] theorem State.modEn_condFm (s : State) (f : Ethernet → Ethernet) (code item : Nat) :
    (s.modEn f).condFm code item = s.condFm code item := rfl
@[simp] theorem State.modEn_eventFm (s : State) (f : Ethernet → Ethernet) (code item : Nat) :
    (s.modEn f).eventFm code item = s.eventFm code item := rfl
@[simp] theorem State.modCn_condFm (s : State) (f : Can → Can) (code item : Nat) :
    (s.modCn f).condFm code item = s.condFm code item := rfl
@[simp] theorem State.modCn_eventFm (s : State) (f : Can → Can) (code item : Nat) :
    (s.modCn f).eventFm code item = s.eventFm code item := rfl
@[simp] theorem State.modSy_condFm (s : State) (f : Syben → Syben) (code item : Nat) :
    (s.modSy f).condFm code item = s.condFm code item := rfl
@[simp] theorem State.modSy_eventFm (s : State) (f : Syben → Syben) (code item : Nat) :
    (s.modSy f).eventFm code item = s.eventFm code item := rfl
@[simp] theorem State.modCk_condFm (s : State) (f : Tab Engine → Tab Engine) (code item : Nat) :
    (s.modCk f).condFm code item = s.condFm code item := rfl
@[simp] theorem State.modCk_eventFm (s : State) (f : Tab Engine → Tab Engine) (code item : Nat) :
    (s.modCk f).eventFm code item = s.eventFm code item := rfl
@[simp] theorem State.modNv_condFm (s : State) (f : Nv → Nv) (code item : Nat) :
    (s.modNv f).condFm code item = s.condFm code item := rfl
@[simp] theorem State.modNv_eventFm (s : State) (f : Nv → Nv) (code item : Nat) :
    (s.modNv f).eventFm code item = s.eventFm code item := rfl
@[simp] theorem State.modLd_condFm (s : State) (f : Loader → Loader) (code item : Nat) :
    (s.modLd f).condFm code item = s.condFm code item := rfl
@[simp] theorem State.modLd_eventFm (s : State) (f : Loader → Loader) (code item : Nat) :
    (s.modLd f).eventFm code item = s.eventFm code item := rfl
@[simp] theorem State.modLg_condFm (s : State) (f : EventLog → EventLog) (code item : Nat) :
    (s.modLg f).condFm code item = s.condFm code item := rfl
@[simp] theorem State.modLg_eventFm (s : State) (f : EventLog → EventLog) (code item : Nat) :
    (s.modLg f).eventFm code item = s.eventFm code item := rfl
@[simp] theorem State.modId_condFm (s : State) (f : Ident → Ident) (code item : Nat) :
    (s.modId f).condFm code item = s.condFm code item := rfl
@[simp] theorem State.modId_eventFm (s : State) (f : Ident → Ident) (code item : Nat) :
    (s.modId f).eventFm code item = s.eventFm code item := rfl
@[simp] theorem State.modCfg_condFm (s : State) (f : Tab Nat → Tab Nat) (code item : Nat) :
    (s.modCfg f).condFm code item = s.condFm code item := rfl
@[simp] theorem State.modCfg_eventFm (s : State) (f : Tab Nat → Tab Nat) (code item : Nat) :
    (s.modCfg f).eventFm code item = s.eventFm code item := rfl
@[simp] theorem State.modStopWait_condFm (s : State) (f : Tab Nat → Tab Nat) (code item : Nat) :
    (s.modStopWait f).condFm code item = s.condFm code item := rfl
@[simp] theorem State.modStopWait_eventFm (s : State) (f : Tab Nat → Tab Nat) (code item : Nat) :
    (s.modStopWait f).eventFm code item = s.eventFm code item := rfl
@[simp] theorem State.modBytesWait_condFm (s : State) (f : Tab Nat → Tab Nat) (code item : Nat) :
    (s.modBytesWait f).condFm code item = s.condFm code item := rfl
@[simp] theorem State.modBytesWait_eventFm (s : State) (f : Tab Nat → Tab Nat) (code item : Nat) :
    (s.modBytesWait f).eventFm code item = s.eventFm code item := rfl
@[simp] theorem State.modBytes_condFm (s : State) (f : List Host.Cell → List Host.Cell) (code item : Nat) :
    (s.modBytes f).condFm code item = s.condFm code item := rfl
@[simp] theorem State.modBytes_eventFm (s : State) (f : List Host.Cell → List Host.Cell) (code item : Nat) :
    (s.modBytes f).eventFm code item = s.eventFm code item := rfl
@[simp] theorem State.modFreeCount_condFm (s : State) (f : Nat → Nat) (code item : Nat) :
    (s.modFreeCount f).condFm code item = s.condFm code item := rfl
@[simp] theorem State.modFreeCount_eventFm (s : State) (f : Nat → Nat) (code item : Nat) :
    (s.modFreeCount f).eventFm code item = s.eventFm code item := rfl
@[simp] theorem State.modOut_condFm (s : State) (f : List Out → List Out) (code item : Nat) :
    (s.modOut f).condFm code item = s.condFm code item := rfl
@[simp] theorem State.modOut_eventFm (s : State) (f : List Out → List Out) (code item : Nat) :
    (s.modOut f).eventFm code item = s.eventFm code item := rfl
@[simp] theorem State.modPending_condFm (s : State) (f : List Instr → List Instr) (code item : Nat) :
    (s.modPending f).condFm code item = s.condFm code item := rfl
@[simp] theorem State.modPending_eventFm (s : State) (f : List Instr → List Instr) (code item : Nat) :
    (s.modPending f).eventFm code item = s.eventFm code item := rfl
@[simp] theorem State.emit_condFm (s : State) (o : Out) (c m : Nat) :
    (s.emit o).condFm c m = s.condFm c m := rfl
@[simp] theorem State.emit_eventFm (s : State) (o : Out) (c m : Nat) :
    (s.emit o).eventFm c m = s.eventFm c m := rfl
@[simp] theorem State.emits_condFm (s : State) (os : List Out) (c m : Nat) :
    (s.emits os).condFm c m = s.condFm c m := rfl
@[simp] theorem State.emits_eventFm (s : State) (os : List Out) (c m : Nat) :
    (s.emits os).eventFm c m = s.eventFm c m := rfl
@[simp] theorem State.takeFree_condFm (s : State) (c m : Nat) :
    (s.takeFree).condFm c m = s.condFm c m := rfl
@[simp] theorem State.takeFree_eventFm (s : State) (c m : Nat) :
    (s.takeFree).eventFm c m = s.eventFm c m := rfl
@[simp] theorem State.nvKick_condFm (s : State) (c m : Nat) :
    (s.nvKick).condFm c m = s.condFm c m := by simp [State.condFm, State.inPair, State.twinHealthy]
@[simp] theorem State.nvKick_eventFm (s : State) (c m : Nat) :
    (s.nvKick).eventFm c m = s.eventFm c m := by simp [State.eventFm, State.inPair, State.twinHealthy]
@[simp] theorem State.journal_condFm (s : State) (i : Nat) (payload : List Int) (c m : Nat) :
    (s.journal i payload).condFm c m = s.condFm c m := by simp [State.condFm, State.inPair, State.twinHealthy]
@[simp] theorem State.journal_eventFm (s : State) (i : Nat) (payload : List Int) (c m : Nat) :
    (s.journal i payload).eventFm c m = s.eventFm c m := by simp [State.eventFm, State.inPair, State.twinHealthy]
@[simp] theorem State.journal6_condFm (s : State) (c m : Nat) :
    (s.journal6).condFm c m = s.condFm c m := by simp [State.condFm, State.inPair, State.twinHealthy]
@[simp] theorem State.journal6_eventFm (s : State) (c m : Nat) :
    (s.journal6).eventFm c m = s.eventFm c m := by simp [State.eventFm, State.inPair, State.twinHealthy]

end Sys2Proof.Machine
end

