-- ==== Sys2Proof/Laws/Requests.lean ====
section
/-! SUPPORT. Requests: what an accepted request does, in one lemma each for a request, a write, a LIVE write and a read. -/

namespace Sys2Proof.Machine

/-- An accepted request runs its action in a state that only message traffic has moved, and answers with what the action
gives. -/
theorem State.request_accepted {s : State} {r : Req} {opcode : Nat} {payload : Bytes} {fixed : Nat}
    {role : Nat → Bool} {x : Session} (unit : Bool) (act : State → Session → Answer)
    (h : Accepted s r opcode payload fixed role x) :
    ∃ s1, Moves [] s s1 ∧ Moves [] (act s1 x).1 (s.request r unit opcode payload fixed role act) ∧
      Answered (s.request r unit opcode payload fixed role act) r opcode (act s1 x).2.1 (act s1 x).2.2 := by
  obtain ⟨s1, he, hm⟩ := State.enter_accepted unit h
  have e : s.request r unit opcode payload fixed role act =
      (act s1 x).1.finish r unit x opcode (act s1 x).2.1 (act s1 x).2.2 := by
    unfold State.request; rw [he]
  rw [e]
  exact ⟨s1, hm, State.finish_moves _ _ _ _ _ _ _, State.finish_answered _ _ _ _ _ _ _⟩

/-- An accepted write of no more than 142 bytes runs its action in a state that only message traffic has moved, and
answers with what the action gives. -/
theorem State.writeReq_accepted {s : State} {r : Req} {index sub : Nat} {value : Bytes} {role : Nat → Bool}
    {x : Session} (unit : Bool) (act : State → Session → Answer) (hl : value.length ≤ 142)
    (h : Accepted s r 0x11 (writePayload r index sub 0 value) 8 role x) :
    ∃ s1, Moves [] s s1 ∧ Moves [] (act s1 x).1 (s.writeReq r unit index sub value role act) ∧
      Answered (s.writeReq r unit index sub value role act) r 0x11 (act s1 x).2.1 (act s1 x).2.2 := by
  unfold State.writeReq State.writeAt
  obtain ⟨s1, h1, h2, h3⟩ := State.request_accepted unit (fun t x =>
    let c : CmdRecord := { node := x.client, seq := r.seq, index, sub, offset := 0, value }
    if !unit && t.notAgreed r (recordSize c) then no t 0x10
    else
      let (u, status, body) := act t x
      if status == 0 && !unit then (u.travel c, status, body) else (u, status, body)) h
  refine ⟨s1, h1, ?_⟩
  have hn : s1.notAgreed r (recordSize { node := x.client, seq := r.seq, index, sub, offset := 0, value }) = false := by
    have : ¬ 152 < recordSize { node := x.client, seq := r.seq, index, sub, offset := 0, value } := by
      simp [recordSize]; omega
    simp [State.notAgreed, this]
  simp only [hn, Bool.and_false, Bool.false_eq_true, if_false] at h2 h3
  split at h2
  · next hc =>
    simp only [hc, if_true] at h3
    exact ⟨(State.travel_moves _ _).trans h2, h3⟩
  · next hc =>
    simp only [hc] at h3
    exact ⟨h2, h3⟩

/-- A command that is an accepted request reaches a next state that has what its action gives. -/
theorem State.request_next {s : State} {r : Req} {unit : Bool} {opcode : Nat} {payload : Bytes} {fixed : Nat}
    {role : Nat → Bool} {x : Session} {act : State → Session → Answer} {P : State → Prop}
    (h : Accepted s r opcode payload fixed role x)
    (k : ∀ s1 w, Moves [] s s1 → Moves [] (act s1 x).1 w → Answered w r opcode (act s1 x).2.1 (act s1 x).2.2 → P w) :
    ∃ t, (Host.Outcome.next (s.request r unit opcode payload fixed role act) : Host.Outcome State Fault Refusal) =
      .next t ∧ P t := by
  obtain ⟨s1, h1, h2, h3⟩ := State.request_accepted unit act h
  exact ⟨_, rfl, k s1 _ h1 h2 h3⟩

/-- A command that is an accepted write reaches a next state that has what its action gives. -/
theorem State.writeReq_next {s : State} {r : Req} {unit : Bool} {index sub : Nat} {value : Bytes} {role : Nat → Bool}
    {x : Session} {act : State → Session → Answer} {P : State → Prop}
    (h : Accepted s r 0x11 (writePayload r index sub 0 value) 8 role x) (hl : value.length ≤ 142)
    (k : ∀ s1 w, Moves [] s s1 → Moves [] (act s1 x).1 w → Answered w r 0x11 (act s1 x).2.1 (act s1 x).2.2 → P w) :
    ∃ t, (Host.Outcome.next (s.writeReq r unit index sub value role act) : Host.Outcome State Fault Refusal) =
      .next t ∧ P t := by
  obtain ⟨s1, h1, h2, h3⟩ := State.writeReq_accepted unit act hl h
  exact ⟨_, rfl, k s1 _ h1 h2 h3⟩

/-- The parts that message traffic leaves alone read the same. -/
theorem Moves.parts {s t : State} (h : Moves [] s t) :
    t.fm = s.fm ∧ t.rows = s.rows ∧ t.pm = s.pm ∧ t.ca = s.ca ∧ t.ss = s.ss ∧ t.im = s.im ∧ t.pc = s.pc ∧ t.cl = s.cl ∧
    t.ef = s.ef ∧ t.bs = s.bs ∧ t.tm = s.tm ∧ t.de = s.de ∧ t.si = s.si ∧ t.os = s.os ∧ t.tb = s.tb ∧ t.ck = s.ck ∧
    t.nv = s.nv ∧ t.ld = s.ld ∧ t.lg = s.lg ∧ t.id = s.id ∧ t.cfg = s.cfg ∧ t.stopWait = s.stopWait ∧
    t.bytesWait = s.bytesWait ∧ t.bytes = s.bytes ∧ t.freeCount = s.freeCount ∧ t.pending = s.pending :=
  ⟨h .fm (by simp), h .rows (by simp), h .pm (by simp), h .ca (by simp), h .ss (by simp), h .im (by simp),
    h .pc (by simp), h .cl (by simp), h .ef (by simp), h .bs (by simp), h .tm (by simp), h .de (by simp),
    h .si (by simp), h .os (by simp), h .tb (by simp), h .ck (by simp), h .nv (by simp), h .ld (by simp),
    h .lg (by simp), h .id (by simp), h .cfg (by simp), h .stopWait (by simp), h .bytesWait (by simp),
    h .bytes (by simp), h .freeCount (by simp), h .pending (by simp)⟩

/-- What enters a session leaves the mailbox queue, the waiting requests and what has left the ports as they were. -/
theorem State.enter_quiet {s s1 : State} {r : Req} {unit : Bool} {opcode : Nat} {payload : Bytes} {fixed : Nat}
    {role : Nat → Bool} {x : Session} {o : Option Nat} (h : s.enter r unit opcode payload fixed role = .on s1 x o) :
    s1.sy.queue = s.sy.queue ∧ s1.sy.live = s.sy.live ∧ s1.out = s.out := by
  have tr : ∀ (u : State) (c : CmdRecord), (u.travel c).sy = u.sy ∧ (u.travel c).out = u.out := by
    intro u c; unfold State.travel; split
    · exact ⟨rfl, rfl⟩
    · split <;> exact ⟨rfl, rfl⟩
  have fr : ∀ n : Nat, (s.frameIn n).sy = s.sy ∧ (s.frameIn n).out = s.out := fun _ => ⟨rfl, rfl⟩
  unfold State.enter at h
  dsimp only at h
  repeat' split at h
  all_goals first
    | (cases h; done)
    | (obtain ⟨rfl, -, -⟩ := Entry.on.inj h
       first
         | exact ⟨rfl, rfl, rfl⟩
         | (rw [(tr _ _).1, (tr _ _).2]; exact ⟨rfl, rfl, rfl⟩))

/-- What waits with its slot has left nothing and moved nothing but the Syben part. -/
theorem State.waits_of {s s1 : State} (r : Req) (x : Session) (cmd : Instr) (unit agreed : Bool) (h : Moves [] s s1)
    (hq : s1.sy.queue = s.sy.queue) (hl : s1.sy.live = s.sy.live) (ho : s1.out = s.out) :
    Waits s ((s1.popSlot r).2.modSy fun y => { y with
      live := y.live ++ [{ cmd, req := r, sess := x, slot := (s1.popSlot r).1, unit, agreed }] }) r x cmd unit agreed := by
  have hm : Moves [.sy] s ((s1.popSlot r).2.modSy fun y => { y with
      live := y.live ++ [{ cmd, req := r, sess := x, slot := (s1.popSlot r).1, unit, agreed }] }) := by
    refine (h.mono (by simp)).trans (Moves.trans ?_ (State.modSy_alters _ _).moves)
    unfold State.popSlot
    split
    · exact (State.modSy_alters _ _).moves
    · exact .refl _ _
  have hs : s.sy.traffic s1.sy := h .sy (by simp)
  refine ⟨?_, ?_, ?_, hm⟩
  · unfold State.popSlot; split <;> simp [hq, hl]
  · unfold Syben.traffic at hs ⊢
    unfold State.popSlot
    split <;> (simp only [State.modSy_sy]; rw [hs])
  · unfold State.popSlot; split <;> simpa using ho

/-- An accepted LIVE write that its check does not refuse waits for its row. -/
theorem State.liveReq_waits {s : State} {r : Req} {index sub : Nat} {value : Bytes} {role : Nat → Bool} {x : Session}
    (unit : Bool) (cmd : Instr) (act : State → Session → Answer) (hl : value.length ≤ 142)
    (h : Accepted s r 0x11 (writePayload r index sub 0 value) 8 role x)
    (ha : ∀ s1, Moves [] s s1 → (act s1 x).2.1 = 0) :
    Waits s (s.liveReq r unit index sub value role cmd act) r x cmd unit false := by
  obtain ⟨s1, he, hm⟩ := State.enter_accepted unit h
  obtain ⟨hq, hv, ho⟩ := State.enter_quiet he
  have hn : s1.notAgreed r (recordSize { node := x.client, seq := r.seq, index, sub, value }) = false := by
    have : ¬ 152 < recordSize { node := x.client, seq := r.seq, index, sub, value } := by simp [recordSize]; omega
    simp [State.notAgreed, this]
  unfold State.liveReq
  rw [he]
  simp only [hn, Bool.and_false, Bool.false_eq_true, if_false, ha s1 hm, bne_self_eq_false]
  cases unit
  · have tr : ∀ c : CmdRecord, (s1.travel c).sy = s1.sy ∧ (s1.travel c).out = s1.out := by
      intro c; unfold State.travel; split
      · exact ⟨rfl, rfl⟩
      · split <;> exact ⟨rfl, rfl⟩
    simp only [Bool.false_eq_true, if_false]
    exact State.waits_of r x cmd false false (hm.trans (State.travel_moves _ _)) (by rw [(tr _).1, hq]) (by rw [(tr _).1, hv])
      (by rw [(tr _).2, ho])
  · exact State.waits_of r x cmd true false hm hq hv ho

/-- An accepted read of what can be read waits for the next row latch. -/
theorem State.latchReq_waits {s : State} {r : Req} {opcode fixed : Nat} {payload : Bytes} {x : Session} (cmd : Instr)
    (act : State → Answer) (h : Accepted s r opcode payload fixed anyRole x) (ha : ∀ s1, Moves [] s s1 → (act s1).2.1 = 0) :
    Waits s (s.latchReq r opcode payload fixed cmd act) r x cmd true true := by
  obtain ⟨s1, he, hm⟩ := State.enter_accepted true h
  obtain ⟨hq, hv, ho⟩ := State.enter_quiet he
  unfold State.latchReq
  rw [he]
  simp only [ha s1 hm, bne_self_eq_false, Bool.false_eq_true, if_false]
  exact State.waits_of r x cmd true true hm hq hv ho

end Sys2Proof.Machine
end

