-- ==== Sys2Proof/Laws/Chapters.lean ====
section
/-! SUPPORT. Chapters: what the operations that several chapters share can do: resets, coils, safety actions, journal
copies. -/

namespace Sys2Proof.Machine

theorem Alters.foldl {ps : List Part} {α : Type} {f : State → α → State} (hf : ∀ u x, Alters ps u (f u x))
    (l : List α) (s : State) : Alters ps s (l.foldl f s) := by
  induction l generalizing s with
  | nil => exact .refl _ _
  | cons x t ih => exact (hf s x).trans (ih _)

/-- A frame of a fold over a list, for the elements of the list. -/
theorem Alters.foldl_mem {ps : List Part} {α : Type} {f : State → α → State} (l : List α)
    (hf : ∀ u x, x ∈ l → Alters ps u (f u x)) (s : State) : Alters ps s (l.foldl f s) := by
  induction l generalizing s with
  | nil => exact .refl _ _
  | cons x t ih =>
    exact (hf s x (by simp)).trans (ih (fun u y hy => hf u y (by simp [hy])) _)

/-! ### What message traffic leaves -/

theorem Moves.twinHealthy {ps : List Part} {s t : State} (h : Moves ps s t) (hy : .ty ∉ ps) (hi : .si ∉ ps) :
    t.twinHealthy = s.twinHealthy := by
  have e : t.ty = { s.ty with counter := t.ty.counter, cmdsDue := t.ty.cmdsDue, longDue := t.ty.longDue } := h .ty hy
  have f : t.si = s.si := h .si hi
  unfold State.twinHealthy
  rw [e, f]

theorem Moves.inPair {ps : List Part} {s t : State} (h : Moves ps s t) (hy : .ty ∉ ps) (hi : .si ∉ ps) (code : Nat) :
    t.inPair code = s.inPair code := by
  unfold State.inPair; rw [h.twinHealthy hy hi]

@[simp] theorem State.raise_inPair (s : State) (event : Bool) (code item c : Nat) :
    (s.raise event code item).inPair c = s.inPair c :=
  (s.raise_moves event code item).inPair (by simp) (by simp) c

@[simp] theorem State.raiseEvent_inPair (s : State) (code item c : Nat) :
    (s.raiseEvent code item).inPair c = s.inPair c := s.raise_inPair true code item c

@[simp] theorem State.raiseCond_inPair (s : State) (code item c : Nat) :
    (s.raiseCond code item).inPair c = s.inPair c := s.raise_inPair false code item c

@[simp] theorem State.clearCond_inPair (s : State) (code c : Nat) : (s.clearCond code).inPair c = s.inPair c := rfl

/-- A traffic frame keeps the state of the twin. -/
theorem Moves.ty {ps : List Part} {s t : State} (h : Moves ps s t) (hy : .ty ∉ ps) :
    t.ty = { s.ty with counter := t.ty.counter, cmdsDue := t.ty.cmdsDue, longDue := t.ty.longDue } := h .ty hy

/-! ### Journal and log writes -/

theorem State.logAppend_alters (s : State) (r : LogRec) : Alters [.lg] s (s.logAppend r) := by
  simp [State.logAppend]

theorem State.logWrite_alters (s : State) (r : LogRec) : Alters [.lg] s (s.logWrite r) := by
  unfold State.logWrite
  dsimp only
  refine Alters.trans ?_ (State.logAppend_alters _ r)
  exact .ite ((s.logAppend_alters _).trans (State.modLg_alters _ _)) (.refl _ _)

theorem State.writeCopy_alters (s : State) (id : Nat) (payload : List Int) (good : Bool) :
    Alters [.nv, .ld] s (s.writeCopy id payload good) := by simp [State.writeCopy]

theorem State.landBegun_alters (s : State) : Alters [.nv, .lg, .ld] s s.landBegun := by
  unfold State.landBegun
  refine .foldl (fun u h => .ite ?_ ?_) _ _
  · exact (u.logWrite_alters _).mono (by simp)
  · exact (u.writeCopy_alters _ _ _).mono (by simp)

/-! ### Resets -/

theorem State.clearRam_cleared (s : State) (x : PowerState) : Cleared (s.clearRam x) := by
  simp [State.clearRam, Cleared, State.reset]

@[simp] theorem State.clearRam_state (s : State) (x : PowerState) : (s.clearRam x).pm.state = x := rfl

@[simp] theorem State.clearRam_out (s : State) (x : PowerState) : (s.clearRam x).out = s.out :=
  s.landBegun_alters .out (by simp)

@[simp] theorem State.clearRam_pending (s : State) (x : PowerState) : (s.clearRam x).pending = s.pending :=
  s.landBegun_alters .pending (by simp)

theorem State.landBegun_pm (s : State) : s.landBegun.pm = s.pm := s.landBegun_alters .pm (by simp)

/-- What the power manager keeps through a reset (R110). -/
theorem State.clearRam_pm (s : State) (x : PowerState) : (s.clearRam x).pm = { ({} : Power) with
      state := x, auxMv := s.pm.auxMv, auxMa := s.pm.auxMa, vholdMv := s.pm.vholdMv, startSlot := s.pm.startSlot
      sagPaused := s.pm.sagPaused, resumeTimer := s.pm.resumeTimer, resetLow := s.pm.resetLow
      resetIgnored := s.pm.resetIgnored, resetPin := s.pm.resetPin, resetTimer := s.pm.resetTimer
      resetKind := s.pm.resetKind, offLong := s.pm.offLong, wakeSource := s.pm.wakeSource, wakeWait := s.pm.wakeWait
      holdRelay := s.pm.holdRelay, prevPowerFail := s.pm.prevPowerFail, prevOverVolt := s.pm.prevOverVolt
      prevRefLost := s.pm.prevRefLost, prevBindOff := s.bindInterrupted, disconnected := s.pm.disconnected
      sagTotal := s.landBegun.sagKept x, onStore := s.pm.onStore, recoveryWanted := s.pm.recoveryWanted } := by
  simp only [State.clearRam, State.bindInterrupted, State.landBegun_pm]

theorem State.beginStep1_alters (s : State) : Alters [.pm] s (s.beginStep 1) := by simp [State.beginStep]

theorem Cleared.modPm {s : State} (h : Cleared s) (f : Power → Power) : Cleared (s.modPm f) := h

theorem Cleared.resetTo (s : State) (kind : Nat) (long : Bool) : Cleared (s.resetTo kind long) := by
  have h := s.clearRam_cleared .castOn
  have hb : ∀ u : State, Cleared u → Cleared (u.beginStep 1) := by
    intro u hu; unfold State.beginStep; split <;> exact hu
  unfold State.resetTo
  dsimp only
  split
  · exact h
  · exact hb _ h

/-- A cast-on step that begins changes nothing of the power manager but the step. -/
theorem State.beginStep1_pm (s : State) :
    (s.beginStep 1).pm.resetKind = s.pm.resetKind ∧
    (s.beginStep 1).pm.offLong = s.pm.offLong ∧
    (s.beginStep 1).pm.state = s.pm.state ∧
    (s.beginStep 1).pm.startSlot = s.pm.startSlot ∧
    (s.beginStep 1).pm.wakeWait = s.pm.wakeWait ∧
    (s.beginStep 1).pm.wakeSource = s.pm.wakeSource ∧
    (s.beginStep 1).pm.disconnected = s.pm.disconnected ∧
    (s.beginStep 1).pm.holdRelay = s.pm.holdRelay ∧
    (s.beginStep 1).pm.resetLow = s.pm.resetLow ∧
    (s.beginStep 1).pm.resetIgnored = s.pm.resetIgnored ∧
    (s.beginStep 1).pm.recoveryWanted = s.pm.recoveryWanted := by
  unfold State.beginStep; split <;> simp

/-- What a reset leaves in the power manager. -/
theorem State.resetTo_pm (s : State) (kind : Nat) (long : Bool) :
    (s.resetTo kind long).pm.resetKind = kind ∧ (s.resetTo kind long).pm.offLong = long ∧
    (s.resetTo kind long).pm.state = (if kind = 1 ∨ kind = 2 ∨ kind = 6 then .slot else if s.pm.onStore then .powerFail else .castOn) ∧
    (s.resetTo kind long).pm.startSlot < 32 ∧ (s.resetTo kind long).pm.wakeWait = false ∧
    (s.resetTo kind long).pm.wakeSource = (if kind = 6 then s.pm.wakeSource else 0) ∧
    (s.resetTo kind long).pm.disconnected = s.pm.disconnected ∧
    (s.resetTo kind long).pm.holdRelay = s.pm.holdRelay ∧ (s.resetTo kind long).pm.resetLow = s.pm.resetLow ∧
    (s.resetTo kind long).pm.resetIgnored = s.pm.resetIgnored ∧
    (s.resetTo kind long).pm.recoveryWanted = s.pm.recoveryWanted := by
  have hs : ∀ u : State, u.comingNode % 32 < 32 := fun u => Nat.mod_lt _ (by decide)
  unfold State.resetTo
  dsimp only
  by_cases hk : kind = 1 ∨ kind = 2 ∨ kind = 6
  · have hb : (kind == 1 || kind == 2 || kind == 6) = true := by simpa [or_assoc] using hk
    simp [hb, hk, State.clearRam_pm, hs]
  · have hb : (kind == 1 || kind == 2 || kind == 6) = false := by simpa [and_assoc] using hk
    have h6 : kind ≠ 6 := fun h => hk (.inr (.inr h))
    have h12 : ¬ (kind = 1 ∨ kind = 2) := fun h => hk (h.elim .inl (.inr ∘ .inl))
    simp [hb, h6, State.beginStep1_pm, State.clearRam_pm, hs]
    exact fun h => absurd h h12

@[simp] theorem State.resetTo_pending (s : State) (kind : Nat) (long : Bool) :
    (s.resetTo kind long).pending = s.pending := by
  unfold State.resetTo; dsimp only; split
  · simp
  · rw [State.beginStep1_alters _ .pending (by simp)]; simp

@[simp] theorem State.resetTo_out (s : State) (kind : Nat) (long : Bool) : (s.resetTo kind long).out = s.out := by
  unfold State.resetTo; dsimp only; split
  · simp
  · rw [State.beginStep1_alters _ .out (by simp)]; simp

/-! ### Coils -/

theorem State.modCoil_alters (s : State) (n : Nat) (f : Coil → Coil) : Alters [.os] s (s.modCoil n f) := by
  simp [State.modCoil]

theorem State.coilOff_alters (s : State) (n : Nat) : Alters [.os, .pm] s (s.coilOff n) := by
  simp [State.coilOff, State.modCoil]

theorem State.beginOpening_alters (s : State) (a b : Bool) : Alters [.pc, .de] s (s.beginOpening a b) := by
  simp [State.beginOpening]

theorem State.journalEnergy_alters (s : State) : Alters [.nv] s s.journalEnergy := by simp [State.journalEnergy]

theorem State.dropCoils_alters (s : State) : Alters [.os, .pm, .pc, .de, .nv] s s.dropCoils := by
  have h : Alters [.os, .pm, .pc, .de, .nv] s ([1, 2, 3, 4].foldl State.coilOff s) :=
    (Alters.foldl (fun u n => u.coilOff_alters n) _ _).mono (by simp)
  have k : ∀ u a b, Alters [.os, .pm, .pc, .de, .nv] u (State.beginOpening u a b) :=
    fun u a b => (u.beginOpening_alters a b).mono (by simp)
  unfold State.dropCoils
  dsimp only
  split
  · split
    · exact (h.trans (k _ _ _)).trans (((State.modDe_alters _ _).mono (by simp)).trans
        ((State.journalEnergy_alters _).mono (by simp)))
    · exact (h.trans (k _ _ _)).trans ((State.modDe_alters _ _).mono (by simp))
  · split
    · exact h.trans (k _ _ _)
    · exact h

/-! ### Sparse tables -/

theorem tabGet_tabPut_other {α : Type} [DecidableEq α] (d : α) (j k : Nat) (v : α) (t : Tab α) (h : j ≠ k) :
    tabGet d j (tabPut d k v t) = tabGet d j t := by
  induction t with
  | nil => unfold tabPut; split <;> simp [tabGet, Ne.symm h]
  | cons p t ih =>
    obtain ⟨i, w⟩ := p
    unfold tabPut
    split
    · simp only [tabGet, ih]
    · split
      · next _ e =>
        subst e
        split <;> simp [tabGet, Ne.symm h]
      · split <;> simp [tabGet, Ne.symm h]

theorem tabGet_above {α : Type} [DecidableEq α] (d : α) (k lo : Nat) (t : Tab α) (h : tabAbove d lo t = true)
    (hk : k < lo) : tabGet d k t = d := by
  induction t generalizing lo with
  | nil => rfl
  | cons p t ih =>
    obtain ⟨i, w⟩ := p
    simp only [tabAbove, Bool.and_eq_true, decide_eq_true_eq] at h
    have : ¬ i = k := by omega
    simp only [tabGet, beq_iff_eq, this, if_false]
    exact ih (i + 1) h.2 (by omega)

theorem tabGet_tabPut_same {α : Type} [DecidableEq α] (d : α) (k : Nat) (v : α) (t : Tab α) (lo : Nat)
    (h : tabAbove d lo t = true) : tabGet d k (tabPut d k v t) = v := by
  induction t generalizing lo with
  | nil => unfold tabPut; split <;> simp [tabGet, *]
  | cons p t ih =>
    obtain ⟨i, w⟩ := p
    simp only [tabAbove, Bool.and_eq_true, decide_eq_true_eq] at h
    unfold tabPut
    split
    · next hi =>
      have : ¬ i = k := by omega
      simp only [tabGet, beq_iff_eq, this, if_false]
      exact ih (i + 1) h.2
    · split
      · next _ e =>
        subst e
        split
        · next hv => rw [hv]; exact tabGet_above d _ _ t h.2 (by omega)
        · simp [tabGet]
      · split
        · next hik hne hv =>
          have : ¬ i = k := hne
          rw [hv]
          simp only [tabGet, beq_iff_eq, this, if_false]
          exact tabGet_above d k (i + 1) t h.2 (by omega)
        · simp [tabGet]

/-- A value that is not the default is read back from any table. -/
theorem tabGet_tabPut_ne {α : Type} [DecidableEq α] (d : α) (k : Nat) (v : α) (t : Tab α) (hv : v ≠ d) :
    tabGet d k (tabPut d k v t) = v := by
  induction t with
  | nil => simp [tabPut, hv, tabGet]
  | cons p t ih =>
    obtain ⟨i, w⟩ := p
    unfold tabPut
    split
    · next hi =>
      have : ¬ i = k := by omega
      simp [tabGet, this, ih]
    · split <;> simp [tabGet]

theorem tabAbove_mono {α : Type} [DecidableEq α] (d : α) {lo hi : Nat} {t : Tab α} (h : tabAbove d hi t = true)
    (hl : lo ≤ hi) : tabAbove d lo t = true := by
  cases t with
  | nil => rfl
  | cons p t =>
    simp only [tabAbove, Bool.and_eq_true, decide_eq_true_eq] at h ⊢
    exact ⟨⟨by omega, h.1.2⟩, h.2⟩

theorem tabAbove_tabPut {α : Type} [DecidableEq α] (d : α) (k : Nat) (v : α) (t : Tab α) (lo : Nat)
    (h : tabAbove d lo t = true) (hk : lo ≤ k) : tabAbove d lo (tabPut d k v t) = true := by
  induction t generalizing lo with
  | nil => unfold tabPut; split <;> simp [tabAbove, *]
  | cons p t ih =>
    obtain ⟨i, w⟩ := p
    simp only [tabAbove, Bool.and_eq_true, decide_eq_true_eq] at h
    unfold tabPut
    split
    · next hi =>
      simp only [tabAbove, Bool.and_eq_true, decide_eq_true_eq]
      exact ⟨h.1, ih (i + 1) h.2 (by omega)⟩
    · split
      · next _ e =>
        subst e
        split
        · exact tabAbove_mono d h.2 (by omega)
        · next hv => simp [tabAbove, hv, hk, h.2]
      · split
        · simp [tabAbove, h]
        · next hik hne hv =>
          have : k + 1 ≤ i := by omega
          simp [tabAbove, hv, hk, h.1.2, h.2, this]

/-- The canonical form of a table is kept by every write. -/
theorem tabWf_tabPut {α : Type} [DecidableEq α] (d : α) (k : Nat) (v : α) {t : Tab α} (h : tabWf d t = true) :
    tabWf d (tabPut d k v t) = true := tabAbove_tabPut d k v t 0 h (Nat.zero_le _)

theorem tabWf_tabMod {α : Type} [DecidableEq α] (d : α) (k : Nat) (f : α → α) {t : Tab α} (h : tabWf d t = true) :
    tabWf d (tabMod d k f t) = true := tabWf_tabPut d k _ h

theorem tabGet_tabMod_same {α : Type} [DecidableEq α] (d : α) (k : Nat) (f : α → α) (t : Tab α)
    (h : tabWf d t = true) : tabGet d k (tabMod d k f t) = f (tabGet d k t) := tabGet_tabPut_same d k _ t 0 h

theorem tabGet_tabMod_other {α : Type} [DecidableEq α] (d : α) (j k : Nat) (f : α → α) (t : Tab α) (h : j ≠ k) :
    tabGet d j (tabMod d k f t) = tabGet d j t := tabGet_tabPut_other d j k _ t h

/-- The canonical form of the byte memory is kept by a byte write. -/
theorem memWf_memWrite {m : List Host.Cell} (a : Nat) (b : U8) (h : memWf m = true) : memWf (memWrite m a b) = true :=
  tabWf_tabPut 0 a b h

/-- The canonical form of the byte memory is kept by a write of several bytes. -/
theorem memWf_memWriteAll (bs : Bytes) {m : List Host.Cell} (a : Nat) (h : memWf m = true) :
    memWf (memWriteAll m a bs) = true := by
  induction bs generalizing m a with
  | nil => exact h
  | cons b t ih => exact ih (a + 1) (memWf_memWrite a _ h)

/-! ### Coils off -/

theorem State.coilOff_wf (s : State) (n : Nat) (h : tabWf {} s.os.coils = true) :
    tabWf {} (s.coilOff n).os.coils = true := tabWf_tabMod ({} : Coil) n _ h

theorem State.coilOff_coil_same (s : State) (n : Nat) (h : tabWf {} s.os.coils = true) :
    (s.coilOff n).coil n = (s.coil n).off := tabGet_tabMod_same ({} : Coil) n _ _ h

theorem State.coilOff_coil_other (s : State) (j n : Nat) (h : j ≠ n) : (s.coilOff n).coil j = s.coil j :=
  tabGet_tabMod_other ({} : Coil) j n _ _ h

theorem State.beginOpening_coil (s : State) (a b : Bool) (n : Nat) : (s.beginOpening a b).coil n = s.coil n := rfl

theorem State.journalEnergy_coil (s : State) (n : Nat) : s.journalEnergy.coil n = s.coil n := by
  have h : s.journalEnergy.os = s.os := s.journalEnergy_alters .os (by simp)
  unfold State.coil; rw [h]

/-- Every coil is off after `dropCoils`, and only the coils of the output stages have changed. -/
theorem State.dropCoils_off (s : State) (h : tabWf {} s.os.coils = true) : CoilsOff s.dropCoils := by
  have key : ∀ n, n ∈ [1, 2, 3, 4] → (([1, 2, 3, 4].foldl State.coilOff s).coil n).cmd = false := by
    have h1 := s.coilOff_wf 1 h
    have h2 := State.coilOff_wf _ 2 h1
    have h3 := State.coilOff_wf _ 3 h2
    intro n hn
    simp only [List.mem_cons, List.not_mem_nil, or_false] at hn
    simp only [List.foldl_cons, List.foldl_nil]
    rcases hn with rfl | rfl | rfl | rfl
    · rw [State.coilOff_coil_other _ _ _ (by decide), State.coilOff_coil_other _ _ _ (by decide),
        State.coilOff_coil_other _ _ _ (by decide), State.coilOff_coil_same _ _ h]; rfl
    · rw [State.coilOff_coil_other _ _ _ (by decide), State.coilOff_coil_other _ _ _ (by decide),
        State.coilOff_coil_same _ _ h1]; rfl
    · rw [State.coilOff_coil_other _ _ _ (by decide), State.coilOff_coil_same _ _ h2]; rfl
    · rw [State.coilOff_coil_same _ _ h3]; rfl
  unfold State.dropCoils
  dsimp only
  intro n hn
  split
  · split
    · rw [State.journalEnergy_coil]; exact key n hn
    · exact key n hn
  · split
    · exact key n hn
    · exact key n hn

end Sys2Proof.Machine
end

