-- ==== Sys2Proof/Laws/ChapterReads.lean ====
section
/-! SUPPORT. ChapterReads: what each part reads after an operation that several chapters share and that leaves it alone. -/

namespace Sys2Proof.Machine

@[simp] theorem Alters.modCoil {ps : List Part} {s u : State} (h : Alters ps s u) (hos : .os ∈ ps) (n : Nat) (f : Coil → Coil) :
    Alters ps s (u.modCoil n f) := h.trans ((u.modCoil_alters n f).mono (by simp [hos]))

@[simp] theorem Moves.modCoil {ps : List Part} {s u : State} (h : Moves ps s u) (hos : .os ∈ ps) (n : Nat) (f : Coil → Coil) :
    Moves ps s (u.modCoil n f) := h.trans ((u.modCoil_alters n f).moves.mono (by simp [hos]))

@[simp] theorem State.modCoil_fm (s : State) (n : Nat) (f : Coil → Coil) : (s.modCoil n f).fm = s.fm := s.modCoil_alters n f .fm (by simp)
@[simp] theorem State.modCoil_rows (s : State) (n : Nat) (f : Coil → Coil) : (s.modCoil n f).rows = s.rows := s.modCoil_alters n f .rows (by simp)
@[simp] theorem State.modCoil_pm (s : State) (n : Nat) (f : Coil → Coil) : (s.modCoil n f).pm = s.pm := s.modCoil_alters n f .pm (by simp)
@[simp] theorem State.modCoil_ca (s : State) (n : Nat) (f : Coil → Coil) : (s.modCoil n f).ca = s.ca := s.modCoil_alters n f .ca (by simp)
@[simp] theorem State.modCoil_ss (s : State) (n : Nat) (f : Coil → Coil) : (s.modCoil n f).ss = s.ss := s.modCoil_alters n f .ss (by simp)
@[simp] theorem State.modCoil_im (s : State) (n : Nat) (f : Coil → Coil) : (s.modCoil n f).im = s.im := s.modCoil_alters n f .im (by simp)
@[simp] theorem State.modCoil_pc (s : State) (n : Nat) (f : Coil → Coil) : (s.modCoil n f).pc = s.pc := s.modCoil_alters n f .pc (by simp)
@[simp] theorem State.modCoil_cl (s : State) (n : Nat) (f : Coil → Coil) : (s.modCoil n f).cl = s.cl := s.modCoil_alters n f .cl (by simp)
@[simp] theorem State.modCoil_ef (s : State) (n : Nat) (f : Coil → Coil) : (s.modCoil n f).ef = s.ef := s.modCoil_alters n f .ef (by simp)
@[simp] theorem State.modCoil_bs (s : State) (n : Nat) (f : Coil → Coil) : (s.modCoil n f).bs = s.bs := s.modCoil_alters n f .bs (by simp)
@[simp] theorem State.modCoil_tm (s : State) (n : Nat) (f : Coil → Coil) : (s.modCoil n f).tm = s.tm := s.modCoil_alters n f .tm (by simp)
@[simp] theorem State.modCoil_de (s : State) (n : Nat) (f : Coil → Coil) : (s.modCoil n f).de = s.de := s.modCoil_alters n f .de (by simp)
@[simp] theorem State.modCoil_si (s : State) (n : Nat) (f : Coil → Coil) : (s.modCoil n f).si = s.si := s.modCoil_alters n f .si (by simp)
@[simp] theorem State.modCoil_ty (s : State) (n : Nat) (f : Coil → Coil) : (s.modCoil n f).ty = s.ty := s.modCoil_alters n f .ty (by simp)
@[simp] theorem State.modCoil_tb (s : State) (n : Nat) (f : Coil → Coil) : (s.modCoil n f).tb = s.tb := s.modCoil_alters n f .tb (by simp)
@[simp] theorem State.modCoil_en (s : State) (n : Nat) (f : Coil → Coil) : (s.modCoil n f).en = s.en := s.modCoil_alters n f .en (by simp)
@[simp] theorem State.modCoil_cn (s : State) (n : Nat) (f : Coil → Coil) : (s.modCoil n f).cn = s.cn := s.modCoil_alters n f .cn (by simp)
@[simp] theorem State.modCoil_sy (s : State) (n : Nat) (f : Coil → Coil) : (s.modCoil n f).sy = s.sy := s.modCoil_alters n f .sy (by simp)
@[simp] theorem State.modCoil_ck (s : State) (n : Nat) (f : Coil → Coil) : (s.modCoil n f).ck = s.ck := s.modCoil_alters n f .ck (by simp)
@[simp] theorem State.modCoil_nv (s : State) (n : Nat) (f : Coil → Coil) : (s.modCoil n f).nv = s.nv := s.modCoil_alters n f .nv (by simp)
@[simp] theorem State.modCoil_ld (s : State) (n : Nat) (f : Coil → Coil) : (s.modCoil n f).ld = s.ld := s.modCoil_alters n f .ld (by simp)
@[simp] theorem State.modCoil_lg (s : State) (n : Nat) (f : Coil → Coil) : (s.modCoil n f).lg = s.lg := s.modCoil_alters n f .lg (by simp)
@[simp] theorem State.modCoil_id (s : State) (n : Nat) (f : Coil → Coil) : (s.modCoil n f).id = s.id := s.modCoil_alters n f .id (by simp)
@[simp] theorem State.modCoil_cfg (s : State) (n : Nat) (f : Coil → Coil) : (s.modCoil n f).cfg = s.cfg := s.modCoil_alters n f .cfg (by simp)
@[simp] theorem State.modCoil_stopWait (s : State) (n : Nat) (f : Coil → Coil) : (s.modCoil n f).stopWait = s.stopWait := s.modCoil_alters n f .stopWait (by simp)
@[simp] theorem State.modCoil_bytesWait (s : State) (n : Nat) (f : Coil → Coil) : (s.modCoil n f).bytesWait = s.bytesWait := s.modCoil_alters n f .bytesWait (by simp)
@[simp] theorem State.modCoil_bytes (s : State) (n : Nat) (f : Coil → Coil) : (s.modCoil n f).bytes = s.bytes := s.modCoil_alters n f .bytes (by simp)
@[simp] theorem State.modCoil_freeCount (s : State) (n : Nat) (f : Coil → Coil) : (s.modCoil n f).freeCount = s.freeCount := s.modCoil_alters n f .freeCount (by simp)
@[simp] theorem State.modCoil_out (s : State) (n : Nat) (f : Coil → Coil) : (s.modCoil n f).out = s.out := s.modCoil_alters n f .out (by simp)
@[simp] theorem State.modCoil_pending (s : State) (n : Nat) (f : Coil → Coil) : (s.modCoil n f).pending = s.pending := s.modCoil_alters n f .pending (by simp)

@[simp] theorem Alters.coilOff {ps : List Part} {s u : State} (h : Alters ps s u) (hos : .os ∈ ps) (hpm : .pm ∈ ps) (n : Nat) :
    Alters ps s (u.coilOff n) := h.trans ((u.coilOff_alters n).mono (by simp [hos, hpm]))

@[simp] theorem Moves.coilOff {ps : List Part} {s u : State} (h : Moves ps s u) (hos : .os ∈ ps) (hpm : .pm ∈ ps) (n : Nat) :
    Moves ps s (u.coilOff n) := h.trans ((u.coilOff_alters n).moves.mono (by simp [hos, hpm]))

@[simp] theorem State.coilOff_fm (s : State) (n : Nat) : (s.coilOff n).fm = s.fm := s.coilOff_alters n .fm (by simp)
@[simp] theorem State.coilOff_rows (s : State) (n : Nat) : (s.coilOff n).rows = s.rows := s.coilOff_alters n .rows (by simp)
@[simp] theorem State.coilOff_ca (s : State) (n : Nat) : (s.coilOff n).ca = s.ca := s.coilOff_alters n .ca (by simp)
@[simp] theorem State.coilOff_ss (s : State) (n : Nat) : (s.coilOff n).ss = s.ss := s.coilOff_alters n .ss (by simp)
@[simp] theorem State.coilOff_im (s : State) (n : Nat) : (s.coilOff n).im = s.im := s.coilOff_alters n .im (by simp)
@[simp] theorem State.coilOff_pc (s : State) (n : Nat) : (s.coilOff n).pc = s.pc := s.coilOff_alters n .pc (by simp)
@[simp] theorem State.coilOff_cl (s : State) (n : Nat) : (s.coilOff n).cl = s.cl := s.coilOff_alters n .cl (by simp)
@[simp] theorem State.coilOff_ef (s : State) (n : Nat) : (s.coilOff n).ef = s.ef := s.coilOff_alters n .ef (by simp)
@[simp] theorem State.coilOff_bs (s : State) (n : Nat) : (s.coilOff n).bs = s.bs := s.coilOff_alters n .bs (by simp)
@[simp] theorem State.coilOff_tm (s : State) (n : Nat) : (s.coilOff n).tm = s.tm := s.coilOff_alters n .tm (by simp)
@[simp] theorem State.coilOff_de (s : State) (n : Nat) : (s.coilOff n).de = s.de := s.coilOff_alters n .de (by simp)
@[simp] theorem State.coilOff_si (s : State) (n : Nat) : (s.coilOff n).si = s.si := s.coilOff_alters n .si (by simp)
@[simp] theorem State.coilOff_ty (s : State) (n : Nat) : (s.coilOff n).ty = s.ty := s.coilOff_alters n .ty (by simp)
@[simp] theorem State.coilOff_tb (s : State) (n : Nat) : (s.coilOff n).tb = s.tb := s.coilOff_alters n .tb (by simp)
@[simp] theorem State.coilOff_en (s : State) (n : Nat) : (s.coilOff n).en = s.en := s.coilOff_alters n .en (by simp)
@[simp] theorem State.coilOff_cn (s : State) (n : Nat) : (s.coilOff n).cn = s.cn := s.coilOff_alters n .cn (by simp)
@[simp] theorem State.coilOff_sy (s : State) (n : Nat) : (s.coilOff n).sy = s.sy := s.coilOff_alters n .sy (by simp)
@[simp] theorem State.coilOff_ck (s : State) (n : Nat) : (s.coilOff n).ck = s.ck := s.coilOff_alters n .ck (by simp)
@[simp] theorem State.coilOff_nv (s : State) (n : Nat) : (s.coilOff n).nv = s.nv := s.coilOff_alters n .nv (by simp)
@[simp] theorem State.coilOff_ld (s : State) (n : Nat) : (s.coilOff n).ld = s.ld := s.coilOff_alters n .ld (by simp)
@[simp] theorem State.coilOff_lg (s : State) (n : Nat) : (s.coilOff n).lg = s.lg := s.coilOff_alters n .lg (by simp)
@[simp] theorem State.coilOff_id (s : State) (n : Nat) : (s.coilOff n).id = s.id := s.coilOff_alters n .id (by simp)
@[simp] theorem State.coilOff_cfg (s : State) (n : Nat) : (s.coilOff n).cfg = s.cfg := s.coilOff_alters n .cfg (by simp)
@[simp] theorem State.coilOff_stopWait (s : State) (n : Nat) : (s.coilOff n).stopWait = s.stopWait := s.coilOff_alters n .stopWait (by simp)
@[simp] theorem State.coilOff_bytesWait (s : State) (n : Nat) : (s.coilOff n).bytesWait = s.bytesWait := s.coilOff_alters n .bytesWait (by simp)
@[simp] theorem State.coilOff_bytes (s : State) (n : Nat) : (s.coilOff n).bytes = s.bytes := s.coilOff_alters n .bytes (by simp)
@[simp] theorem State.coilOff_freeCount (s : State) (n : Nat) : (s.coilOff n).freeCount = s.freeCount := s.coilOff_alters n .freeCount (by simp)
@[simp] theorem State.coilOff_out (s : State) (n : Nat) : (s.coilOff n).out = s.out := s.coilOff_alters n .out (by simp)
@[simp] theorem State.coilOff_pending (s : State) (n : Nat) : (s.coilOff n).pending = s.pending := s.coilOff_alters n .pending (by simp)

@[simp] theorem Alters.beginOpening {ps : List Part} {s u : State} (h : Alters ps s u) (hpc : .pc ∈ ps) (hde : .de ∈ ps) (a b : Bool) :
    Alters ps s (u.beginOpening a b) := h.trans ((u.beginOpening_alters a b).mono (by simp [hpc, hde]))

@[simp] theorem Moves.beginOpening {ps : List Part} {s u : State} (h : Moves ps s u) (hpc : .pc ∈ ps) (hde : .de ∈ ps) (a b : Bool) :
    Moves ps s (u.beginOpening a b) := h.trans ((u.beginOpening_alters a b).moves.mono (by simp [hpc, hde]))

@[simp] theorem State.beginOpening_fm (s : State) (a b : Bool) : (s.beginOpening a b).fm = s.fm := s.beginOpening_alters a b .fm (by simp)
@[simp] theorem State.beginOpening_rows (s : State) (a b : Bool) : (s.beginOpening a b).rows = s.rows := s.beginOpening_alters a b .rows (by simp)
@[simp] theorem State.beginOpening_pm (s : State) (a b : Bool) : (s.beginOpening a b).pm = s.pm := s.beginOpening_alters a b .pm (by simp)
@[simp] theorem State.beginOpening_ca (s : State) (a b : Bool) : (s.beginOpening a b).ca = s.ca := s.beginOpening_alters a b .ca (by simp)
@[simp] theorem State.beginOpening_ss (s : State) (a b : Bool) : (s.beginOpening a b).ss = s.ss := s.beginOpening_alters a b .ss (by simp)
@[simp] theorem State.beginOpening_im (s : State) (a b : Bool) : (s.beginOpening a b).im = s.im := s.beginOpening_alters a b .im (by simp)
@[simp] theorem State.beginOpening_cl (s : State) (a b : Bool) : (s.beginOpening a b).cl = s.cl := s.beginOpening_alters a b .cl (by simp)
@[simp] theorem State.beginOpening_ef (s : State) (a b : Bool) : (s.beginOpening a b).ef = s.ef := s.beginOpening_alters a b .ef (by simp)
@[simp] theorem State.beginOpening_bs (s : State) (a b : Bool) : (s.beginOpening a b).bs = s.bs := s.beginOpening_alters a b .bs (by simp)
@[simp] theorem State.beginOpening_tm (s : State) (a b : Bool) : (s.beginOpening a b).tm = s.tm := s.beginOpening_alters a b .tm (by simp)
@[simp] theorem State.beginOpening_si (s : State) (a b : Bool) : (s.beginOpening a b).si = s.si := s.beginOpening_alters a b .si (by simp)
@[simp] theorem State.beginOpening_os (s : State) (a b : Bool) : (s.beginOpening a b).os = s.os := s.beginOpening_alters a b .os (by simp)
@[simp] theorem State.beginOpening_ty (s : State) (a b : Bool) : (s.beginOpening a b).ty = s.ty := s.beginOpening_alters a b .ty (by simp)
@[simp] theorem State.beginOpening_tb (s : State) (a b : Bool) : (s.beginOpening a b).tb = s.tb := s.beginOpening_alters a b .tb (by simp)
@[simp] theorem State.beginOpening_en (s : State) (a b : Bool) : (s.beginOpening a b).en = s.en := s.beginOpening_alters a b .en (by simp)
@[simp] theorem State.beginOpening_cn (s : State) (a b : Bool) : (s.beginOpening a b).cn = s.cn := s.beginOpening_alters a b .cn (by simp)
@[simp] theorem State.beginOpening_sy (s : State) (a b : Bool) : (s.beginOpening a b).sy = s.sy := s.beginOpening_alters a b .sy (by simp)
@[simp] theorem State.beginOpening_ck (s : State) (a b : Bool) : (s.beginOpening a b).ck = s.ck := s.beginOpening_alters a b .ck (by simp)
@[simp] theorem State.beginOpening_nv (s : State) (a b : Bool) : (s.beginOpening a b).nv = s.nv := s.beginOpening_alters a b .nv (by simp)
@[simp] theorem State.beginOpening_ld (s : State) (a b : Bool) : (s.beginOpening a b).ld = s.ld := s.beginOpening_alters a b .ld (by simp)
@[simp] theorem State.beginOpening_lg (s : State) (a b : Bool) : (s.beginOpening a b).lg = s.lg := s.beginOpening_alters a b .lg (by simp)
@[simp] theorem State.beginOpening_id (s : State) (a b : Bool) : (s.beginOpening a b).id = s.id := s.beginOpening_alters a b .id (by simp)
@[simp] theorem State.beginOpening_cfg (s : State) (a b : Bool) : (s.beginOpening a b).cfg = s.cfg := s.beginOpening_alters a b .cfg (by simp)
@[simp] theorem State.beginOpening_stopWait (s : State) (a b : Bool) : (s.beginOpening a b).stopWait = s.stopWait := s.beginOpening_alters a b .stopWait (by simp)
@[simp] theorem State.beginOpening_bytesWait (s : State) (a b : Bool) : (s.beginOpening a b).bytesWait = s.bytesWait := s.beginOpening_alters a b .bytesWait (by simp)
@[simp] theorem State.beginOpening_bytes (s : State) (a b : Bool) : (s.beginOpening a b).bytes = s.bytes := s.beginOpening_alters a b .bytes (by simp)
@[simp] theorem State.beginOpening_freeCount (s : State) (a b : Bool) : (s.beginOpening a b).freeCount = s.freeCount := s.beginOpening_alters a b .freeCount (by simp)
@[simp] theorem State.beginOpening_out (s : State) (a b : Bool) : (s.beginOpening a b).out = s.out := s.beginOpening_alters a b .out (by simp)
@[simp] theorem State.beginOpening_pending (s : State) (a b : Bool) : (s.beginOpening a b).pending = s.pending := s.beginOpening_alters a b .pending (by simp)

@[simp] theorem Alters.journalEnergy {ps : List Part} {s u : State} (h : Alters ps s u) (hnv : .nv ∈ ps) :
    Alters ps s (u.journalEnergy) := h.trans ((u.journalEnergy_alters).mono (by simp [hnv]))

@[simp] theorem Moves.journalEnergy {ps : List Part} {s u : State} (h : Moves ps s u) (hnv : .nv ∈ ps) :
    Moves ps s (u.journalEnergy) := h.trans ((u.journalEnergy_alters).moves.mono (by simp [hnv]))

@[simp] theorem State.journalEnergy_fm (s : State) : (s.journalEnergy).fm = s.fm := s.journalEnergy_alters .fm (by simp)
@[simp] theorem State.journalEnergy_rows (s : State) : (s.journalEnergy).rows = s.rows := s.journalEnergy_alters .rows (by simp)
@[simp] theorem State.journalEnergy_pm (s : State) : (s.journalEnergy).pm = s.pm := s.journalEnergy_alters .pm (by simp)
@[simp] theorem State.journalEnergy_ca (s : State) : (s.journalEnergy).ca = s.ca := s.journalEnergy_alters .ca (by simp)
@[simp] theorem State.journalEnergy_ss (s : State) : (s.journalEnergy).ss = s.ss := s.journalEnergy_alters .ss (by simp)
@[simp] theorem State.journalEnergy_im (s : State) : (s.journalEnergy).im = s.im := s.journalEnergy_alters .im (by simp)
@[simp] theorem State.journalEnergy_pc (s : State) : (s.journalEnergy).pc = s.pc := s.journalEnergy_alters .pc (by simp)
@[simp] theorem State.journalEnergy_cl (s : State) : (s.journalEnergy).cl = s.cl := s.journalEnergy_alters .cl (by simp)
@[simp] theorem State.journalEnergy_ef (s : State) : (s.journalEnergy).ef = s.ef := s.journalEnergy_alters .ef (by simp)
@[simp] theorem State.journalEnergy_bs (s : State) : (s.journalEnergy).bs = s.bs := s.journalEnergy_alters .bs (by simp)
@[simp] theorem State.journalEnergy_tm (s : State) : (s.journalEnergy).tm = s.tm := s.journalEnergy_alters .tm (by simp)
@[simp] theorem State.journalEnergy_de (s : State) : (s.journalEnergy).de = s.de := s.journalEnergy_alters .de (by simp)
@[simp] theorem State.journalEnergy_si (s : State) : (s.journalEnergy).si = s.si := s.journalEnergy_alters .si (by simp)
@[simp] theorem State.journalEnergy_os (s : State) : (s.journalEnergy).os = s.os := s.journalEnergy_alters .os (by simp)
@[simp] theorem State.journalEnergy_ty (s : State) : (s.journalEnergy).ty = s.ty := s.journalEnergy_alters .ty (by simp)
@[simp] theorem State.journalEnergy_tb (s : State) : (s.journalEnergy).tb = s.tb := s.journalEnergy_alters .tb (by simp)
@[simp] theorem State.journalEnergy_en (s : State) : (s.journalEnergy).en = s.en := s.journalEnergy_alters .en (by simp)
@[simp] theorem State.journalEnergy_cn (s : State) : (s.journalEnergy).cn = s.cn := s.journalEnergy_alters .cn (by simp)
@[simp] theorem State.journalEnergy_sy (s : State) : (s.journalEnergy).sy = s.sy := s.journalEnergy_alters .sy (by simp)
@[simp] theorem State.journalEnergy_ck (s : State) : (s.journalEnergy).ck = s.ck := s.journalEnergy_alters .ck (by simp)
@[simp] theorem State.journalEnergy_ld (s : State) : (s.journalEnergy).ld = s.ld := s.journalEnergy_alters .ld (by simp)
@[simp] theorem State.journalEnergy_lg (s : State) : (s.journalEnergy).lg = s.lg := s.journalEnergy_alters .lg (by simp)
@[simp] theorem State.journalEnergy_id (s : State) : (s.journalEnergy).id = s.id := s.journalEnergy_alters .id (by simp)
@[simp] theorem State.journalEnergy_cfg (s : State) : (s.journalEnergy).cfg = s.cfg := s.journalEnergy_alters .cfg (by simp)
@[simp] theorem State.journalEnergy_stopWait (s : State) : (s.journalEnergy).stopWait = s.stopWait := s.journalEnergy_alters .stopWait (by simp)
@[simp] theorem State.journalEnergy_bytesWait (s : State) : (s.journalEnergy).bytesWait = s.bytesWait := s.journalEnergy_alters .bytesWait (by simp)
@[simp] theorem State.journalEnergy_bytes (s : State) : (s.journalEnergy).bytes = s.bytes := s.journalEnergy_alters .bytes (by simp)
@[simp] theorem State.journalEnergy_freeCount (s : State) : (s.journalEnergy).freeCount = s.freeCount := s.journalEnergy_alters .freeCount (by simp)
@[simp] theorem State.journalEnergy_out (s : State) : (s.journalEnergy).out = s.out := s.journalEnergy_alters .out (by simp)
@[simp] theorem State.journalEnergy_pending (s : State) : (s.journalEnergy).pending = s.pending := s.journalEnergy_alters .pending (by simp)

@[simp] theorem Alters.dropCoils {ps : List Part} {s u : State} (h : Alters ps s u) (hos : .os ∈ ps) (hpm : .pm ∈ ps) (hpc : .pc ∈ ps) (hde : .de ∈ ps) (hnv : .nv ∈ ps) :
    Alters ps s (u.dropCoils) := h.trans ((u.dropCoils_alters).mono (by simp [hos, hpm, hpc, hde, hnv]))

@[simp] theorem Moves.dropCoils {ps : List Part} {s u : State} (h : Moves ps s u) (hos : .os ∈ ps) (hpm : .pm ∈ ps) (hpc : .pc ∈ ps) (hde : .de ∈ ps) (hnv : .nv ∈ ps) :
    Moves ps s (u.dropCoils) := h.trans ((u.dropCoils_alters).moves.mono (by simp [hos, hpm, hpc, hde, hnv]))

@[simp] theorem State.dropCoils_fm (s : State) : (s.dropCoils).fm = s.fm := s.dropCoils_alters .fm (by simp)
@[simp] theorem State.dropCoils_rows (s : State) : (s.dropCoils).rows = s.rows := s.dropCoils_alters .rows (by simp)
@[simp] theorem State.dropCoils_ca (s : State) : (s.dropCoils).ca = s.ca := s.dropCoils_alters .ca (by simp)
@[simp] theorem State.dropCoils_ss (s : State) : (s.dropCoils).ss = s.ss := s.dropCoils_alters .ss (by simp)
@[simp] theorem State.dropCoils_im (s : State) : (s.dropCoils).im = s.im := s.dropCoils_alters .im (by simp)
@[simp] theorem State.dropCoils_cl (s : State) : (s.dropCoils).cl = s.cl := s.dropCoils_alters .cl (by simp)
@[simp] theorem State.dropCoils_ef (s : State) : (s.dropCoils).ef = s.ef := s.dropCoils_alters .ef (by simp)
@[simp] theorem State.dropCoils_bs (s : State) : (s.dropCoils).bs = s.bs := s.dropCoils_alters .bs (by simp)
@[simp] theorem State.dropCoils_tm (s : State) : (s.dropCoils).tm = s.tm := s.dropCoils_alters .tm (by simp)
@[simp] theorem State.dropCoils_si (s : State) : (s.dropCoils).si = s.si := s.dropCoils_alters .si (by simp)
@[simp] theorem State.dropCoils_ty (s : State) : (s.dropCoils).ty = s.ty := s.dropCoils_alters .ty (by simp)
@[simp] theorem State.dropCoils_tb (s : State) : (s.dropCoils).tb = s.tb := s.dropCoils_alters .tb (by simp)
@[simp] theorem State.dropCoils_en (s : State) : (s.dropCoils).en = s.en := s.dropCoils_alters .en (by simp)
@[simp] theorem State.dropCoils_cn (s : State) : (s.dropCoils).cn = s.cn := s.dropCoils_alters .cn (by simp)
@[simp] theorem State.dropCoils_sy (s : State) : (s.dropCoils).sy = s.sy := s.dropCoils_alters .sy (by simp)
@[simp] theorem State.dropCoils_ck (s : State) : (s.dropCoils).ck = s.ck := s.dropCoils_alters .ck (by simp)
@[simp] theorem State.dropCoils_ld (s : State) : (s.dropCoils).ld = s.ld := s.dropCoils_alters .ld (by simp)
@[simp] theorem State.dropCoils_lg (s : State) : (s.dropCoils).lg = s.lg := s.dropCoils_alters .lg (by simp)
@[simp] theorem State.dropCoils_id (s : State) : (s.dropCoils).id = s.id := s.dropCoils_alters .id (by simp)
@[simp] theorem State.dropCoils_cfg (s : State) : (s.dropCoils).cfg = s.cfg := s.dropCoils_alters .cfg (by simp)
@[simp] theorem State.dropCoils_stopWait (s : State) : (s.dropCoils).stopWait = s.stopWait := s.dropCoils_alters .stopWait (by simp)
@[simp] theorem State.dropCoils_bytesWait (s : State) : (s.dropCoils).bytesWait = s.bytesWait := s.dropCoils_alters .bytesWait (by simp)
@[simp] theorem State.dropCoils_bytes (s : State) : (s.dropCoils).bytes = s.bytes := s.dropCoils_alters .bytes (by simp)
@[simp] theorem State.dropCoils_freeCount (s : State) : (s.dropCoils).freeCount = s.freeCount := s.dropCoils_alters .freeCount (by simp)
@[simp] theorem State.dropCoils_out (s : State) : (s.dropCoils).out = s.out := s.dropCoils_alters .out (by simp)
@[simp] theorem State.dropCoils_pending (s : State) : (s.dropCoils).pending = s.pending := s.dropCoils_alters .pending (by simp)

@[simp] theorem Alters.landBegun {ps : List Part} {s u : State} (h : Alters ps s u) (hnv : .nv ∈ ps) (hlg : .lg ∈ ps) (hld : .ld ∈ ps) :
    Alters ps s (u.landBegun) := h.trans ((u.landBegun_alters).mono (by simp [hnv, hlg, hld]))

@[simp] theorem Moves.landBegun {ps : List Part} {s u : State} (h : Moves ps s u) (hnv : .nv ∈ ps) (hlg : .lg ∈ ps) (hld : .ld ∈ ps) :
    Moves ps s (u.landBegun) := h.trans ((u.landBegun_alters).moves.mono (by simp [hnv, hlg, hld]))

@[simp] theorem State.landBegun_fm (s : State) : (s.landBegun).fm = s.fm := s.landBegun_alters .fm (by simp)
@[simp] theorem State.landBegun_rows (s : State) : (s.landBegun).rows = s.rows := s.landBegun_alters .rows (by simp)
@[simp] theorem State.landBegun_ca (s : State) : (s.landBegun).ca = s.ca := s.landBegun_alters .ca (by simp)
@[simp] theorem State.landBegun_ss (s : State) : (s.landBegun).ss = s.ss := s.landBegun_alters .ss (by simp)
@[simp] theorem State.landBegun_im (s : State) : (s.landBegun).im = s.im := s.landBegun_alters .im (by simp)
@[simp] theorem State.landBegun_pc (s : State) : (s.landBegun).pc = s.pc := s.landBegun_alters .pc (by simp)
@[simp] theorem State.landBegun_cl (s : State) : (s.landBegun).cl = s.cl := s.landBegun_alters .cl (by simp)
@[simp] theorem State.landBegun_ef (s : State) : (s.landBegun).ef = s.ef := s.landBegun_alters .ef (by simp)
@[simp] theorem State.landBegun_bs (s : State) : (s.landBegun).bs = s.bs := s.landBegun_alters .bs (by simp)
@[simp] theorem State.landBegun_tm (s : State) : (s.landBegun).tm = s.tm := s.landBegun_alters .tm (by simp)
@[simp] theorem State.landBegun_de (s : State) : (s.landBegun).de = s.de := s.landBegun_alters .de (by simp)
@[simp] theorem State.landBegun_si (s : State) : (s.landBegun).si = s.si := s.landBegun_alters .si (by simp)
@[simp] theorem State.landBegun_os (s : State) : (s.landBegun).os = s.os := s.landBegun_alters .os (by simp)
@[simp] theorem State.landBegun_ty (s : State) : (s.landBegun).ty = s.ty := s.landBegun_alters .ty (by simp)
@[simp] theorem State.landBegun_tb (s : State) : (s.landBegun).tb = s.tb := s.landBegun_alters .tb (by simp)
@[simp] theorem State.landBegun_en (s : State) : (s.landBegun).en = s.en := s.landBegun_alters .en (by simp)
@[simp] theorem State.landBegun_cn (s : State) : (s.landBegun).cn = s.cn := s.landBegun_alters .cn (by simp)
@[simp] theorem State.landBegun_sy (s : State) : (s.landBegun).sy = s.sy := s.landBegun_alters .sy (by simp)
@[simp] theorem State.landBegun_ck (s : State) : (s.landBegun).ck = s.ck := s.landBegun_alters .ck (by simp)
@[simp] theorem State.landBegun_id (s : State) : (s.landBegun).id = s.id := s.landBegun_alters .id (by simp)
@[simp] theorem State.landBegun_cfg (s : State) : (s.landBegun).cfg = s.cfg := s.landBegun_alters .cfg (by simp)
@[simp] theorem State.landBegun_stopWait (s : State) : (s.landBegun).stopWait = s.stopWait := s.landBegun_alters .stopWait (by simp)
@[simp] theorem State.landBegun_bytesWait (s : State) : (s.landBegun).bytesWait = s.bytesWait := s.landBegun_alters .bytesWait (by simp)
@[simp] theorem State.landBegun_bytes (s : State) : (s.landBegun).bytes = s.bytes := s.landBegun_alters .bytes (by simp)
@[simp] theorem State.landBegun_freeCount (s : State) : (s.landBegun).freeCount = s.freeCount := s.landBegun_alters .freeCount (by simp)
@[simp] theorem State.landBegun_out (s : State) : (s.landBegun).out = s.out := s.landBegun_alters .out (by simp)
@[simp] theorem State.landBegun_pending (s : State) : (s.landBegun).pending = s.pending := s.landBegun_alters .pending (by simp)

end Sys2Proof.Machine
end

