-- ==== Sys2Proof/WellFormed.lean ====
section
/-! DEFINITION. WellFormed: which commands name a part that the module has: a coil, a controller, a port, a pair, a CMU, an
engine, a slot. The machine gives every command its meaning; a command that names no such part changes no part. -/

namespace Sys2Proof

/-- A number of a range. -/
def within (lo hi n : Nat) : Bool := lo ≤ n && n ≤ hi

/-- A list of byte values. -/
def isBytes (b : Bytes) : Bool := b.all (· < 256)

/-- A stamp as R12 forms it: 16 bits of epoch, 48 bits of seconds, nanoseconds below 10^9. -/
def wellStamp (t : Stamp) : Bool := t.epoch < 2 ^ 16 && t.sec < 2 ^ 48 && t.ns < 1000000000

/-- The ends of a Syben request: a session number of 16 bits, a sequence of 32, the MAC in full or of 8 bytes (R467,
R468). -/
def wellReq (r : Req) : Bool :=
  r.version < 256 && r.session < 2 ^ 16 && r.seq < 2 ^ 32 && isBytes r.mac && (r.mac.length == 16 || r.mac.length == 8 || r.mac.isEmpty)

/-- A CAN controller (R434). -/
def isCtl (n : Nat) : Bool := within 1 2 n

/-- An SFP port (R81). -/
def isPort (n : Nat) : Bool := within 1 2 n

/-- A check engine (R495). -/
def isEngine (n : Nat) : Bool := n < 8

/-- A CMU address (R206). -/
def isCmu (n : Nat) : Bool := within 1 32 n

/-- A word of the host window. -/
def isWord (n : Nat) : Bool := n < 2 ^ 32

/-- The operands of a command name parts and values that the module has. -/
def wellFormed : Instr → Bool
  | .groupUpdateComplete g | .restSampleTime g | .capacityLearningEvent g => g < 512
  | .castOnStepEnd step _ => within 1 8 step
  | .resultDelivered d _ _ input => d < 8 && input < 20
  | .captureResult d _ _ => d < 8
  | .dutyOverrangeTimeout d | .captureTrigger d => d < 8
  | .fastPairEvent p samples ring => p < 2 && (samples ++ ring).all fun v => -32768 ≤ v && v ≤ 32767
  | .sarStuckDetect p _ => p < 2
  | .ringArm r p | .ringSoftwareTrigger r p _ => wellReq r && p < 2
  | .softwareTrigger r lines => wellReq r && lines < 256
  | .echo c _ _ | .ack c _ | .holdResponse c => isCmu c
  | .cmuLoadStatus c m => isCmu c && m.status < 4 && isBytes m.bitmap
  | .dataFrame m => isCmu m.cmu
  | .stepData c _ g first samples => isCmu c && g < 512 && first + samples.length ≤ 200
  | .urgent a k => a < 256 && k < 256
  | .breakTriple a lastA firstB => a < 256 && lastA < 256 && firstB < 256
  | .portLockLoss lastA firstB => lastA < 256 && firstB < 256
  | .pwmOvercurrentOff n | .pwmRestart n => within 1 4 n
  | .coilShortCircuit n => within 1 4 n
  | .tripSwitchTest n _ => within 1 2 n
  | .safetyInputSample levels => levels < 2 ^ 16
  | .leaseWrite r v => wellReq r && v.length == 36 && isBytes v
  | .stepRequest r t | .stepAnnounce r t => wellReq r && wellStamp t
  | .safeObjectWrite r index sub v _ => wellReq r && index < 2 ^ 16 && sub < 256 && isBytes v
  | .write r index sub off v => wellReq r && index < 2 ^ 16 && sub < 256 && off < 2 ^ 16 && isBytes v
  | .read r index sub off n => wellReq r && index < 2 ^ 16 && sub < 256 && off < 2 ^ 16 && n < 2 ^ 16
  | .lockFrame _ source seq => source < 3 && seq < 2 ^ 32
  | .patternData kind _ _ n _ => within 1 5 kind && n ≤ 504
  | .bye reason => reason < 256
  | .claimFrame w row _ => w < 2 ^ 16 && row < 256
  | .digest m => m.input < 2 ^ 32 && m.output < 2 ^ 32 && m.state < 2 ^ 32
  | .cellIndex l => l.length == 32
  | .incrementHi w => isWord w
  | .qentry p => isPort p
  | .qstatus p w => isPort p && isWord w
  | .canFrameReceive k f _ => isCtl k && isBytes f.data
  | .canReassemblyTimeout k _ _ | .canTxSelect k | .canTxComplete k | .canArbitrationLost k | .canTransceiverFault k
  | .busOffRecoveryComplete k => isCtl k
  | .canBusError k code add _ => isCtl k && code < 256 && add < 256
  | .recoverRequest r k v | .controllerMode r k v => wellReq r && isCtl k && v < 256
  | .can2Rxack b upd => b < 128 && upd < 16
  | .canTxRequest b | .canTxCancel b | .canTxReplace b => b < 64
  | .can2Txfin w | .can2Alert w => isWord w
  | .arpRequest p _ _ _ => isPort p
  | .icmpEcho p _ _ _ _ d => isPort p && isBytes d
  | .ipv4Fragment p _ _ _ _ d => isPort p && isBytes d
  | .sfpInsertion p _ _ | .sfpRemoval p | .sfpOvercurrent p | .linkDown p | .sfpLinkUp p => isPort p
  | .rawSend r p f _ => wellReq r && isPort p && isBytes f
  | .openRequest r role o c v nc => wellReq r && role < 256 && o < 256 && c < 2 ^ 16 && v < 256 && nc.length == 16 && isBytes nc
  | .proof r nc p => wellReq r && nc.length == 16 && p.length == 32 && isBytes nc && isBytes p
  | .keySet r slot salt k => wellReq r && slot < 256 && salt.length == 16 && k.length == 32 && isBytes salt && isBytes k
  | .loadBegin r _ h => wellReq r && isBytes h
  | .loadData r _ b => wellReq r && isBytes b
  | .hello r | .closeRequest r | .keepalive r | .commit r | .discard r | .loadEnd r | .learnedStateReset r | .renewRing r
  | .safetySetRevert r | .proofTestRecord r | .proofTestTrip r | .proofTestUvrDrop r => wellReq r
  | .readList r n items => wellReq r && n < 256 && items.all fun x => x.1 < 2 ^ 16 && x.2 < 256
  | .logRead r first n => wellReq r && isWord first && n < 2 ^ 16
  | .sessionIdleTimeout n => within 1 256 n
  | .mbPost w | .mbDone w | .mbReset w | .mbAlert w => isWord w
  | .hostWindowWrite off w => off % 4 == 0 && isWord w
  | .converterWord0Read r | .converterWord1Read r => r.slot < 66 && -32768 ≤ r.code && r.code ≤ 32767
  | .isoStateEnd _ _ _ pe => -8388608 ≤ pe && pe ≤ 8388607
  | .timeShadowRead f => f < 3
  | .ceCtrlLoadInit k w | .data8 k w | .data32 k w | .alive k w | .aliveCfgForget k w => isEngine k && isWord w
  | .ceHighWordCommit k _ w => isEngine k && isWord w
  | .ceLowWordRead k _ | .ceHighWordRead k _ => isEngine k
  | .hostEngineClaim r k | .hostEngineRelease r k => wellReq r && isEngine k
  | .recoveryBegin n b | .recoveryData n b _ | .recoveryLog n b => n < 256 && isBytes b
  | .probe n | .recoveryEnd n | .boot n _ => n < 256
  | .syncIntervalSend a b => a < 2 ^ 32 && b < 2 ^ 32
  | .delayReqSend p _ => isPort p
  | .softwareReset r v | .faultAcknowledge r v | .auxCoilCommand r v | .fabricStop r v | .balanceEnable r v
  | .safetyInputReset r v | .rejoinRequest r v | .handOverRequest r v | .stepAccept r v | .recoveryRequest r v => wellReq r && v < 256
  | .bindOff r v _ _ => wellReq r && v < 256
  | .safetySetConfirm r v _ => wellReq r && v < 2 ^ 32
  | .proofTestAutomated r _ => wellReq r
  | .timeStepRequest r off => wellReq r && -9223372036854775808 ≤ off && off ≤ 9223372036854775807
  | .incrementWrite r v => wellReq r && v < 2 ^ 64
  | .outputCommit _ | .rowStart _ | .inputSetFixed | .digestDeadline | .patternStart | .cellLinkCutoff => true
  | .speedIndexWindowEnd _ _ | .fabricSkipDeadline _ | .fabricAbandonDeadline | .envelopeCompute | .envelopePublish | .faultHandlerStart
  | .faultHandlerComplete | .cpCoreMismatch | .referenceOutOfLimits _ | .rowWatchdogExpiry | .referenceRecovery
  | .auxPowerRise _ | .startSlotExpiry | .holdupChargeTimeout _ | .startPeriodEnd | .sagPauseBegin
  | .auxAboveResumeThreshold | .sagPauseEnd | .pullInStart | .pullInEnd | .powerFailEntry | .storeLow
  | .powerFailRideThrough | .overvoltageDisconnect | .overvoltageRestart _ | .resetNChange _ | .resetNAssertRecognised
  | .resetEntry | .resetNReleaseRecognised | .stuckReset | .resetNRearm | .cmuHoldTimeout | .holdRelayRelease
  | .busWake _ _ | .wakeNWake _ | .auxAppliedAfterWake _ | .hallNoResultTimeout | .blindGapTimeout
  | .rotationStepBoundary _ | .calibrationMeasurementDone _ | .handOverPhaseBegin | .handOverSwitch _
  | .chargeJournalWrite | .isoStateTimeout | .tokenPeriodicSend | .tokenNeed _ | .tokenHold _
  | .tokenPass _ | .tokenAccept _ | .tokenResult _ | .tokenClaim _ | .tokenRelease _ | .tokenRotateExpiry
  | .tokenAcceptTimeout | .tokenHoldSilence | .tokenClaimWindowEnd | .foreignInjectionCheckEnd _ _
  | .foreignInjectionRetry | .tokenStarveTimeout | .weldTestWindowEnd | .mainNegClosureTimeout | .prechargeTimeLimit
  | .openingWeldTest | .mainPosOpenStagger | .wakeToneEnd | .identFrame _ | .enumTimeout _
  | .symbolGapTimeout | .ringStartTimeout | .renewalTimeout | .renewalRetry | .cellDataLostOpen | .stepLocalDetect
  | .learnedStateWrite | .impRecordWrite | .throttleRecoverExpiry | .localSensorSample _ _ | .junctionSample _
  | .leaseExpiry | .rampDownWaitEnd | .envelopeAck _ _ | .restWindowStart | .restWindowEnd | .restRetryExpiry
  | .testPulseStart | .discrepancyGridTick | .chargeBlockTimeout | .xtripInAssert | .xtripInRelease
  | .xtripConfirmTimeout | .xtripOutHoldEnd | .offPulseTest | .offPulseEnd _ | .tripContinuityTimeout | .tripPulseEnd
  | .tripPulseRepeat _ | .proofTestDueExpiry | .helloSend | .twinHello _ | .pairWaitExpiry | .rowInput _
  | .joinRequest | .joinSnapshotBegins _ | .joinJoined | .joinCatchUpTimeout | .joinRetry | .yieldTimeout
  | .syncFrame _ _ | .followUp _ | .announce _ | .delayReq _ _ | .delayResp _ | .pdelayReq _ _ _ | .pdelayResp _ _
  | .transparentClockForward _ _ | .announceReceiptTimeout | .syncReceiptTimeout | .announceIntervalSend | .timeShort
  | .fireTimeout | .fireLeaseRenew | .ipReassemblyTimeout _ _ | .commitApply | .telemetry _ | .loadDataProgrammed _
  | .loadIdleTimeout | .pendingOpenExpiry | .lockoutExpiry _ | .journalWriteComplete _ | .recoveryIdentSend
  | .auxUndervoltageTimeout | .lifetimeCounterWrite | .frequencyRecordWrite | .operatingHourTick
  | .eventLogWriteComplete _ => true

end Sys2Proof
end

