-- ==== Sys2Proof/Tests/Slice0.lean ====
section
/-! SUPPORT. Tests: a state and operands that meet the hypotheses of each clause of the statements, an ill-formed term for
each check of WellFormed, and single steps whose results are the spec's own numbers. -/

open Sys2Proof Sys2Proof.Machine

section Slice0Tests

-- One theorem after another: each thread of the checker takes 256 MB of stack.
set_option Elab.async false

/-! ### A state for the witnesses -/

/-- A session of a commissioning client over host SPI. -/
def tSes : Session := { num := 1, role := 6, source := .spi, client := 7 }

/-- A module that runs, with one session. -/
def tUp : State :=
  { State.reset with
    pm := { State.reset.pm with state := .ready, step := 9 }
    sy := { State.reset.sy with sessions := [tSes] }
    tb := { State.reset.tb with running := true, now := { epoch := 0, ns := 2000 } }
    rows := { State.reset.rows with running := true, lastRow := some 0 } }

/-- A request in that session, with the MAC of its payload. -/
def tReq (op : Nat) (p : Bytes) : Req := { mac := macOf [] false (reqCovered {} op p) }

theorem tAcc {s : State} {op fixed : Nat} {p : Bytes} {role : Nat → Bool} (h1 : s.coreUp = true)
    (h2 : s.sy.sessions = [tSes]) (h3 : s.loaderRuns = false ∨ op ∈ loaderOpcodes) (h4 : fixed ≤ p.length)
    (h5 : role 6 = true) (h0 : s.rows.cpRestarting = false := by rfl) : Accepted s (tReq op p) op p fixed role tSes :=
  ⟨h1, h0, rfl, rfl, by simp [State.session, h2, tReq, tSes], rfl, rfl, rfl, Nat.zero_lt_one, h3, h4, rfl, h5⟩

theorem tPl {s : State} {fixed : Nat} {p : Bytes} (h1 : s.coreUp = true) (h4 : fixed ≤ p.length)
    (h0 : s.rows.cpRestarting = false := by rfl) : Plain s {} p fixed :=
  ⟨h1, h0, rfl, rfl, rfl, h4, rfl⟩

/-! ### Witnesses -/

set_option maxRecDepth 4000 in
/-- Each clause of CastOnCommands has a state and operands that meet its hypotheses. -/
theorem witness_cast_on_commands :
    (∃ (s : State), s.pm.state = .off ∧
      s.pm.holdRelay = true ∧
      s.pm.wakeWait = false ∧
      s.pm.disconnected = false) ∧
    (∃ (s : State), s.pm.state = .slot ∧
      s.pm.sagPaused = false) ∧
    (∃ (s : State), s.pm.state = .castOn ∧
      s.pm.step = 1 ∧
      s.pm.stepWait = 0 ∧
      s.pm.sagPaused = false ∧
      s.ld.recovery = false) ∧
    (∃ (s : State) (c : CastOnInp), s.pm.state = .castOn ∧
      s.pm.step = 3 ∧
      s.pm.stepWait = 0 ∧
      s.pm.sagPaused = false ∧
      s.ld.recovery = false ∧
      c.fault ≠ 0) ∧
    (∃ (s : State), (s.pm.state = .castOn ∨ (s.pm.state = .powerFail ∧ s.pm.failFrom = .castOn)) ∧
      s.pm.step = 1 ∧
      s.pm.stepWait = 0 ∧
      s.pm.sagPaused = false) ∧
    (∃ (s : State), s.pm.step = 9) :=
  ⟨-- 1
    ⟨{ tUp with pm := { tUp.pm with state := .off, holdRelay := true, wakeWait := false, disconnected := false } },
      by decide +kernel⟩,
    -- 2
    ⟨{ tUp with pm := { tUp.pm with state := .slot, sagPaused := false } },
      by decide +kernel⟩,
    -- 3
    ⟨{ tUp with pm := { tUp.pm with state := .castOn, step := 1, stepWait := 0, sagPaused := false }, ld := { tUp.ld with recovery := false } },
      by decide +kernel⟩,
    -- 4
    ⟨{ tUp with pm := { tUp.pm with state := .castOn, step := 3, stepWait := 0, sagPaused := false }, ld := { tUp.ld with recovery := false } }, { fault := 0x0301 },
      by decide +kernel⟩,
    -- 5
    ⟨{ tUp with pm := { tUp.pm with state := .castOn, step := 1, stepWait := 0, sagPaused := false } },
      by decide +kernel⟩,
    -- 6
    ⟨{ tUp with pm := { tUp.pm with step := 9 } },
      by decide +kernel⟩⟩

set_option maxRecDepth 4000 in
/-- Each clause of SagCommands has a state and operands that meet its hypotheses. -/
theorem witness_sag_commands :
    (∃ (s : State), s.powered = true ∧
      s.pm.sagPaused = false ∧
      ¬(s.inStart = true ∧ s.pm.sagThisStart = 9)) ∧
    (∃ (s : State), s.powered = true ∧
      s.pm.sagPaused = false ∧
      s.inStart = true ∧
      s.pm.sagThisStart = 9) ∧
    (∃ (s : State), s.pm.sagPaused = true) ∧
    (∃ (s : State), s.powered = true ∧
      s.pm.sagPaused = true) ∧
    (∃ (s : State), s.pm.sagPaused = true ∧
      s.pm.resumeTimer = true ∧
      s.pm.stepWait ≠ 6 ∧
      s.en.p1.cageBack = false ∧
      s.en.p2.cageBack = false) ∧
    (∃ (s : State), s.coreUp = true) :=
  ⟨-- 1
    ⟨{ tUp with pm := { tUp.pm with sagPaused := false } },
      by decide +kernel⟩,
    -- 2
    ⟨{ tUp with pm := { tUp.pm with sagThisStart := 9, sagPaused := false } },
      by decide +kernel⟩,
    -- 3
    ⟨{ tUp with pm := { tUp.pm with sagPaused := true } },
      by decide +kernel⟩,
    -- 4
    ⟨{ tUp with pm := { tUp.pm with sagPaused := true } },
      by decide +kernel⟩,
    -- 5
    ⟨{ tUp with pm := { tUp.pm with sagPaused := true, resumeTimer := true } },
      by decide +kernel⟩,
    -- 6
    ⟨tUp,
      by decide +kernel⟩⟩

set_option maxRecDepth 4000 in
/-- Each clause of PowerFailCommands has a state and operands that meet its hypotheses. -/
theorem witness_power_fail_commands :
    (∃ (s : State), s.powered = true ∧
      s.pm.onStore = false ∧
      tabWf {} s.os.coils = true) ∧
    (∃ (s : State), s.pm.state = .powerFail ∧
      s.pm.disconnected = false ∧
      s.pm.failFrom ≠ .reset ∧
      s.coreUp = true ∧
      s.en.p1.cageBack = false ∧
      s.en.p2.cageBack = false) ∧
    (∃ (s : State), s.pm.onStore = true) ∧
    (∃ (s : State), s.powered = true ∧
      s.pm.disconnected = false ∧
      s.pm.onStore = false ∧
      tabWf {} s.os.coils = true) ∧
    (∃ (s : State), s.powered = true ∧
      s.pm.disconnected = false ∧
      s.pm.onStore = true) ∧
    (∃ (s : State), s.pm.disconnected = true) :=
  ⟨-- 1
    ⟨{ tUp with pm := { tUp.pm with onStore := false } },
      by decide +kernel⟩,
    -- 2
    ⟨{ tUp with pm := { tUp.pm with state := .powerFail, disconnected := false } },
      by decide +kernel⟩,
    -- 3
    ⟨{ tUp with pm := { tUp.pm with onStore := true } },
      by decide +kernel⟩,
    -- 4
    ⟨{ tUp with pm := { tUp.pm with disconnected := false, onStore := false } },
      by decide +kernel⟩,
    -- 5
    ⟨{ tUp with pm := { tUp.pm with disconnected := false, onStore := true } },
      by decide +kernel⟩,
    -- 6
    ⟨{ tUp with pm := { tUp.pm with disconnected := true } },
      by decide +kernel⟩⟩

set_option maxRecDepth 4000 in
/-- Each clause of ResetCommands has a state and operands that meet its hypotheses. -/
theorem witness_reset_commands :
    (∃ (s : State), s.powered = true ∧
      s.pm.resetPin = true ∧
      s.pm.resetIgnored = false ∧
      s.pm.resetLow = false) ∧
    (∃ (s : State), s.pm.resetEntryDue = true ∧
      s.pm.onStore = false) ∧
    (∃ (s : State), s.pm.resetEntryDue = true ∧
      s.pm.onStore = true) ∧
    (∃ (s : State), s.pm.resetPin = false ∧
      s.pm.resetIgnored = false ∧
      s.pm.resetLow = true ∧
      s.inReset = true ∧
      s.pm.onStore = false) ∧
    (∃ (s : State), s.pm.resetPin = false ∧
      s.pm.resetIgnored = false ∧
      s.pm.resetLow = true ∧
      s.inReset = true ∧
      s.pm.onStore = true) ∧
    (∃ (s : State), s.inReset = true ∧
      s.pm.onStore = false ∧
      s.pm.resetPin = true) ∧
    (∃ (s : State), s.pm.resetIgnored = true ∧
      s.pm.resetPin = false) :=
  ⟨-- 2
    ⟨{ tUp with pm := { tUp.pm with resetPin := true, resetIgnored := false, resetLow := false } },
      by decide +kernel⟩,
    -- 3
    ⟨{ tUp with pm := { tUp.pm with resetEntryDue := true, onStore := false } },
      by decide +kernel⟩,
    -- 4
    ⟨{ tUp with pm := { tUp.pm with resetEntryDue := true, onStore := true } },
      by decide +kernel⟩,
    -- 5
    ⟨{ tUp with pm := { tUp.pm with state := .reset, resetPin := false, resetIgnored := false, resetLow := true, onStore := false } },
      by decide +kernel⟩,
    -- 6
    ⟨{ tUp with pm := { tUp.pm with state := .powerFail, failFrom := .reset, resetPin := false, resetIgnored := false, resetLow := true, onStore := true } },
      by decide +kernel⟩,
    -- 7
    ⟨{ tUp with pm := { tUp.pm with state := .reset, onStore := false, resetPin := true } },
      by decide +kernel⟩,
    -- 8
    ⟨{ tUp with pm := { tUp.pm with resetIgnored := true, resetPin := false } },
      by decide +kernel⟩⟩

set_option maxRecDepth 4000 in
/-- Each clause of TransportHoldCommands has a state and operands that meet its hypotheses. -/
theorem witness_transport_hold_commands :
    (∃ (s : State) (n : Nat), s.pm.bindStep = 3 ∧
      s.cl.driver = true ∧
      ((s.modCmu n fun c => { c with held := true }).enumerated.all (fun c => ((s.modCmu n fun c => { c with held := true }).cmu c).held) = false)) ∧
    (∃ (s : State), s.pm.bindStep = 3 ∧
      s.pm.onStore = false) ∧
    (∃ (s : State), (s.pm.bindStep = 5 ∨ s.pm.bindStep = 6)) ∧
    (∃ (s : State), s.pm.state = .hold) ∧
    (∃ (s : State), s.pm.state = .hold) ∧
    (∃ (s : State), s.pm.state = .hold) ∧
    (∃ (s : State), s.pm.wakeWait = true ∧
      s.pm.state = .off) :=
  ⟨-- 1
    ⟨{ tUp with cl := { tUp.cl with cmus := [(2, { state := 1 })], driver := true }, pm := { tUp.pm with bindStep := 3 } }, 1,
      by decide +kernel⟩,
    -- 2
    ⟨{ tUp with pm := { tUp.pm with bindStep := 3, onStore := false } },
      by decide +kernel⟩,
    -- 3
    ⟨{ tUp with pm := { tUp.pm with bindStep := 5 } },
      by decide +kernel⟩,
    -- 4
    ⟨{ tUp with pm := { tUp.pm with state := .hold } },
      by decide +kernel⟩,
    -- 5
    ⟨{ tUp with pm := { tUp.pm with state := .hold } },
      by decide +kernel⟩,
    -- 6
    ⟨{ tUp with pm := { tUp.pm with state := .hold } },
      by decide +kernel⟩,
    -- 7
    ⟨{ tUp with pm := { tUp.pm with wakeWait := true, state := .off } },
      by decide +kernel⟩⟩

set_option maxRecDepth 4000 in
/-- Each clause of ResetRequests has a state and operands that meet its hypotheses. -/
theorem witness_reset_requests :
    (∃ (s : State) (r : Req) (x : Session), Accepted s r 0x11 (writePayload r 0x2280 1 0 (leBytes 1 0xA5)) 8 engineer x ∧
      s.resetRefused = false) ∧
    (∃ (s : State) (r : Req) (x : Session), Accepted s r 0x11 (writePayload r 0x3481 0 0 (leBytes 1 0x5A)) 8 engineer x ∧
      s.resetRefused = false) ∧
    (∃ (s : State) (r : Req) (x : Session) (low : Bool) (agrees : Bool), Accepted s r 0x11 (writePayload r 0x2280 2 0 (leBytes 1 1)) 8 engineer x ∧
      s.pm.bindStep = 0 ∧
      s.bindRefusal low agrees = 0) ∧
    (∃ (s : State) (r : Req) (x : Session) (low : Bool) (agrees : Bool), Accepted s r 0x11 (writePayload r 0x2280 2 0 (leBytes 1 1)) 8 engineer x ∧
      s.pm.bindStep = 0 ∧
      s.bindRefusal low agrees ≠ 0) ∧
    (∃ (s : State), s.resetRefused = false ∧
      (s.os.gate && s.twinHealthy) = false) ∧
    (∃ (s : State), s.resetRefused = false ∧
      s.os.gate = true ∧
      s.twinHealthy = true) ∧
    (∃ (s : State), s.resetRefused = false) ∧
    (∃ (s : State), s.inRow = true ∧
      s.rows.committed = false ∧
      s.ty.yielding = 0 ∧
      s.pm.softDue = 1) ∧
    (∃ (s : State), s.inRow = true ∧
      s.rows.committed = false ∧
      s.ty.yielding = 0 ∧
      s.pm.softDue = 2) ∧
    (∃ (s : State) (low : Bool) (agrees : Bool), s.pm.bindStep = 0 ∧
      s.bindRefusal low agrees = 0 ∧
      s.pm.onStore = false) :=
  ⟨-- 1
    ⟨tUp, tReq 0x11 (writePayload ({} : Req) 0x2280 1 0 (leBytes 1 0xA5)), tSes,
      tAcc (by decide) (by decide) (by decide) (by decide +kernel) (by decide), by decide +kernel⟩,
    -- 2
    ⟨tUp, tReq 0x11 (writePayload ({} : Req) 0x3481 0 0 (leBytes 1 0x5A)), tSes,
      tAcc (by decide) (by decide) (by decide) (by decide +kernel) (by decide), by decide +kernel⟩,
    -- 3
    ⟨{ tUp with ss := { tUp.ss with busP := some 0, busN := some 0 }, tm := { tUp.tm with nvClosed := false }, pm := { tUp.pm with capUf := 1000, vholdMv := 45000, bindStep := 0 } }, tReq 0x11 (writePayload ({} : Req) 0x2280 2 0 (leBytes 1 1)), tSes, false, true,
      tAcc (by decide) (by decide) (by decide) (by decide +kernel) (by decide), by decide +kernel⟩,
    -- 4
    ⟨{ tUp with pm := { tUp.pm with bindStep := 0 } }, tReq 0x11 (writePayload ({} : Req) 0x2280 2 0 (leBytes 1 1)), tSes, false, false,
      tAcc (by decide) (by decide) (by decide) (by decide +kernel) (by decide), by decide +kernel⟩,
    -- 5
    ⟨tUp,
      by decide +kernel⟩,
    -- 6
    ⟨{ tUp with os := { tUp.os with gate := true }, ty := { tUp.ty with wordTwin := 0x2F00, wordRows := 100, hello := some {} } },
      by decide +kernel⟩,
    -- 7
    ⟨tUp,
      by decide +kernel⟩,
    -- 8
    ⟨{ tUp with rows := { tUp.rows with committed := false }, ty := { tUp.ty with yielding := 0 }, pm := { tUp.pm with softDue := 1 } },
      by decide +kernel⟩,
    -- 9
    ⟨{ tUp with rows := { tUp.rows with committed := false }, ty := { tUp.ty with yielding := 0 }, pm := { tUp.pm with softDue := 2 } },
      by decide +kernel⟩,
    -- 10
    ⟨{ tUp with ss := { tUp.ss with busP := some 0, busN := some 0 }, tm := { tUp.tm with nvClosed := false }, pm := { tUp.pm with capUf := 1000, vholdMv := 45000, bindStep := 0, onStore := false } }, false, true,
      by decide +kernel⟩⟩

set_option maxRecDepth 4000 in
/-- Each clause of NonvolatileCommands has a state and operands that meet its hypotheses. -/
theorem witness_nonvolatile_commands :
    (∃ (s : State), s.pm.state = .ready ∧
      1 < s.si.proofDue) ∧
    (∃ (s : State) (h : Held), ((s.nv.held.find? fun h => !h.isLog && h.begun) = some h) ∧
      s.pm.bindStep = 0) ∧
    (∃ (s : State) (h : Held), ((s.nv.held.find? fun h => !h.isLog && h.begun) = some h) ∧
      s.nv.retrying = false) ∧
    (∃ (s : State) (h : Held), ((s.nv.held.find? fun h => h.isLog && h.begun) = some h) ∧
      s.pm.bindStep = 0 ∧
      s.lg.lostDue = false) ∧
    (∃ (s : State), s.coreUp = true ∧
      s.latest 0x0004 = [] ∧
      s.record4 ≠ [0, 0, 0, 0, 0, 0, 0]) ∧
    (∃ (s : State), s.coreUp = true) :=
  ⟨-- 1
    ⟨{ tUp with pm := { tUp.pm with state := .ready } },
      by decide +kernel⟩,
    -- 2
    ⟨{ tUp with nv := { tUp.nv with held := [{ begun := true }] }, pm := { tUp.pm with bindStep := 0 } }, { begun := true },
      by decide +kernel⟩,
    -- 3
    ⟨{ tUp with nv := { tUp.nv with held := [{ begun := true }], retrying := false } }, { begun := true },
      by decide +kernel⟩,
    -- 4
    ⟨{ tUp with nv := { tUp.nv with held := [{ isLog := true, begun := true }] }, pm := { tUp.pm with bindStep := 0 }, lg := { tUp.lg with lostDue := false } }, { isLog := true, begun := true },
      by decide +kernel⟩,
    -- 5
    ⟨{ tUp with id := { tUp.id with hours := 1 } },
      by decide +kernel⟩,
    -- 6
    ⟨tUp,
      by decide +kernel⟩⟩

set_option maxRecDepth 4000 in
/-- Each clause of PullInCommands has a state and operands that meet its hypotheses. -/
theorem witness_pull_in_commands :
    (∃ (s : State) (n : Nat) (k : Nat) (rest : List (Nat × Nat)), s.pm.queue = (n, k) :: rest ∧
      s.pullInHeld = false ∧
      s.coreUp = true ∧
      s.closeRefusal = 0 ∧
      s.pm.closingRefused = false ∧
      s.pm.state ≠ .bindOff) ∧
    (∃ (s : State) (n : Nat) (k : Nat) (rest : List (Nat × Nat)), s.pm.queue = (n, k) :: rest ∧
      s.pullInHeld = false ∧
      s.coreUp = true ∧
      s.closeRefusal ≠ 0) ∧
    (∃ (s : State), s.pm.pullIn ≠ 0 ∧
      (s.coil s.pm.pullIn).drive = true ∧
      ¬(s.pm.pullIn = 3 ∧ s.pc.seq = 2) ∧
      ¬(s.pm.pullIn = 1 ∧ s.pc.seq = 4)) ∧
    (∃ (s : State), s.pm.pullIn = 1 ∧
      (s.coil 1).drive = true ∧
      s.pc.seq = 4 ∧
      tabWf {} s.os.coils = true) ∧
    (∃ (s : State) (r : Req) (x : Session), Accepted s r 0x11 (writePayload r 0x2781 0 0 (leBytes 1 1)) 8 operator x) ∧
    (∃ (s : State) (r : Req) (x : Session), Accepted s r 0x11 (writePayload r 0x2781 0 0 (leBytes 1 0)) 8 operator x) ∧
    (∃ (s : State), (s.coil 4).cmd = false ∧
      s.pm.queue = []) ∧
    (∃ (s : State), tabWf {} s.os.coils = true) :=
  ⟨-- 1
    ⟨{ tUp with pm := { tUp.pm with queue := [(3, 1)], closingRefused := false }, si := { tUp.si with setConfirmed := true }, os := { tUp.os with gate := true } }, 3, 1, [],
      by decide +kernel⟩,
    -- 2
    ⟨{ tUp with pm := { tUp.pm with queue := [(3, 1)] } }, 3, 1, [],
      by decide +kernel⟩,
    -- 3
    ⟨{ tUp with pm := { tUp.pm with pullIn := 4 }, os := { tUp.os with coils := [(4, { cmd := true, drive := true })] } },
      by decide +kernel⟩,
    -- 4
    ⟨{ tUp with pm := { tUp.pm with pullIn := 1 }, os := { tUp.os with coils := [(1, { cmd := true, drive := true })] }, pc := { tUp.pc with seq := 4 } },
      by decide +kernel⟩,
    -- 5
    ⟨tUp, tReq 0x11 (writePayload ({} : Req) 0x2781 0 0 (leBytes 1 1)), tSes,
      tAcc (by decide) (by decide) (by decide) (by decide +kernel) (by decide)⟩,
    -- 6
    ⟨tUp, tReq 0x11 (writePayload ({} : Req) 0x2781 0 0 (leBytes 1 0)), tSes,
      tAcc (by decide) (by decide) (by decide) (by decide +kernel) (by decide)⟩,
    -- 7
    ⟨{ tUp with pm := { tUp.pm with queue := [] } },
      by decide +kernel⟩,
    -- 8
    ⟨tUp,
      by decide +kernel⟩⟩

set_option maxRecDepth 4000 in
/-- Each clause of SequenceCommands has a state and operands that meet its hypotheses. -/
theorem witness_sequence_commands :
    (∃ (s : State), s.pc.seq = 2 ∧
      bit s.pc.skipped 1 = false ∧
      (s.coil 3).cmd = true ∧
      tabWf {} s.os.coils = true ∧
      ((s.cfgGet 0x2780 11 : Int) ≤ s.pc.maxWeldI ∨ 20000 ≤ s.pc.maxDvBus)) ∧
    (∃ (s : State), s.pc.seq = 2 ∧
      bit s.pc.skipped 1 = false ∧
      (s.coil 3).cmd = true ∧
      (s.coil 2).cmd = false ∧
      s.pm.queue = [] ∧
      s.pc.maxWeldI < (s.cfgGet 0x2780 11 : Int) ∧
      s.pc.maxDvBus < 20000) ∧
    (∃ (s : State), s.pc.seq = 3 ∧
      s.pc.closed3 = false ∧
      tabWf {} s.os.coils = true) ∧
    (∃ (s : State), s.pc.seq = 3 ∧
      s.pc.closed3 = true) ∧
    (∃ (s : State), s.pc.seq = 3 ∧
      s.pc.preDone = false ∧
      s.pc.timing = true ∧
      tabWf {} s.os.coils = true) ∧
    (∃ (s : State), s.pc.seq = 7 ∧
      s.pc.sequenced = true ∧
      s.pc.opening2 = false ∧
      tabWf {} s.os.coils = true) ∧
    (∃ (s : State), s.pc.seq = 7 ∧
      s.pc.opening2 = true ∧
      ¬(s.pc.openBothI = true ∧ (s.cfgGet 0x2780 11 : Rat) ≤ s.latchedAbs)) ∧
    (∃ (s : State), s.pc.seq = 7 ∧
      s.pc.opening2 = true ∧
      s.pc.openBothI = true ∧
      (s.cfgGet 0x2780 11 : Rat) ≤ s.latchedAbs) :=
  ⟨-- 1
    ⟨{ tUp with os := { tUp.os with coils := [(3, { cmd := true })] }, pc := { tUp.pc with maxDvBus := 20000, seq := 2 } },
      by decide +kernel⟩,
    -- 2
    ⟨{ tUp with os := { tUp.os with coils := [(3, { cmd := true })] }, pc := { tUp.pc with seq := 2 }, pm := { tUp.pm with queue := [] } },
      by decide +kernel⟩,
    -- 3
    ⟨{ tUp with pc := { tUp.pc with seq := 3, closed3 := false } },
      by decide +kernel⟩,
    -- 4
    ⟨{ tUp with pc := { tUp.pc with seq := 3, closed3 := true } },
      by decide +kernel⟩,
    -- 5
    ⟨{ tUp with pc := { tUp.pc with seq := 3, preDone := false, timing := true } },
      by decide +kernel⟩,
    -- 6
    ⟨{ tUp with pc := { tUp.pc with seq := 7, sequenced := true, opening2 := false } },
      by decide +kernel⟩,
    -- 7
    ⟨{ tUp with rows := { tUp.rows with latched := some 1000000000 }, pc := { tUp.pc with seq := 7, opening2 := true } },
      by decide +kernel⟩,
    -- 8
    ⟨{ tUp with rows := { tUp.rows with latched := some 1000000000 }, pc := { tUp.pc with seq := 7, opening2 := true, openBothI := true } },
      by decide +kernel⟩⟩

set_option maxRecDepth 4000 in
/-- Each clause of SafetyInputCommands has a state and operands that meet its hypotheses. -/
theorem witness_safety_input_commands :
    (∃ (s : State), tabWf ({} : Sin) s.si.sins = true) ∧
    (∃ (s : State), tabWf ({} : Sin) s.si.sins = true) ∧
    (∃ (s : State) (r : Req) (x : Session) (bits : Nat), Accepted s r 0x11 (writePayload r 0x2D8A 0 0 (leBytes 1 bits)) 8 operator x ∧
      (∃ n ∈ [1, 2, 3, 4, 5, 6, 7, 8], bit bits (n - 1) = true) ∧
      (∀ n ∈ [1, 2, 3, 4, 5, 6, 7, 8], bit bits (n - 1) = true → (s.sin n).resettable = true)) ∧
    (∃ (s : State) (bits : Nat), tabWf ({} : Sin) s.si.sins = true ∧
      (∃ n ∈ [1, 2, 3, 4, 5, 6, 7, 8], bit bits (n - 1) = true) ∧
      (∀ n ∈ [1, 2, 3, 4, 5, 6, 7, 8], bit bits (n - 1) = true → (s.sin n).resettable = true)) ∧
    (∃ (s : State), s.si.blockTimer = true ∧
      s.si.windowClosed = true ∧
      10 * s.safeGet 0x2D86 3 ≤ s.si.blockRows) :=
  ⟨-- 1
    ⟨tUp,
      by decide +kernel⟩,
    -- 3
    ⟨tUp,
      by decide +kernel⟩,
    -- 4
    ⟨{ tUp with si := { tUp.si with sins := [(1, { restartBlock := true })] } }, tReq 0x11 (writePayload ({} : Req) 0x2D8A 0 0 (leBytes 1 1)), tSes, 1,
      tAcc (by decide) (by decide) (by decide) (by decide +kernel) (by decide), by decide +kernel⟩,
    -- 5
    ⟨{ tUp with si := { tUp.si with sins := [(1, { restartBlock := true })] } }, 1,
      by decide +kernel⟩,
    -- 6
    ⟨{ tUp with si := { tUp.si with blockRows := 1000000, blockTimer := true, windowClosed := true } },
      by decide +kernel⟩⟩

set_option maxRecDepth 4000 in
/-- Each clause of CrossTripCommands has a state and operands that meet its hypotheses. -/
theorem witness_cross_trip_commands :
    (∃ (s : State), s.safeGet 0x2D86 4 = 1 ∧
      s.coreUp = true ∧
      tabWf {} s.os.coils = true) ∧
    (∃ (s : State), s.si.xtripIn = true ∧
      s.si.xtripMatched = false) :=
  ⟨-- 1
    ⟨tUp,
      by decide +kernel⟩,
    -- 2
    ⟨{ tUp with si := { tUp.si with xtripIn := true, xtripMatched := false } },
      by decide +kernel⟩⟩

set_option maxRecDepth 4000 in
/-- Each clause of OutputStageCommands has a state and operands that meet its hypotheses. -/
theorem witness_output_stage_commands :
    (∃ (s : State), (if s.ns / 100000000 % 10 < 8 then s.energised (s.ns / 100000000 % 10 / 2 + 1) && (s.coil (s.ns / 100000000 % 10 / 2 + 1)).phase == 2 else s.os.uvrOn) = true) ∧
    (∃ (s : State), s.os.pulseSwitch = some 8 ∧
      s.os.uvr = true ∧
      s.os.uvrOn = true) ∧
    (∃ (s : State), s.os.pulseSwitch = some 8 ∧
      s.os.uvr = true ∧
      s.os.uvrOn = true ∧
      s.os.uvrNoChange1 = 1) ∧
    (∃ (s : State) (k : Nat), s.os.pulseSwitch = some k ∧
      k < 8 ∧
      (s.coil (k / 2 + 1)).cmd = true ∧
      (s.coil (k / 2 + 1)).drive = true) ∧
    (∃ (s : State), s.os.tripActive = false) ∧
    (∃ (s : State), s.os.tripActive = false ∧
      s.os.trip1Stuck = false) ∧
    (∃ (s : State) (i : Int), s.si.tripDemand = true ∧
      s.os.tripActive = false ∧
      1 ≤ s.si.demandPulses ∧
      s.si.demandPulses < 3 ∧
      2000 ≤ i.natAbs) ∧
    (∃ (s : State) (c : CommitInp), s.inRow = true ∧
      s.rows.committed = false ∧
      s.os.tripDue = true ∧
      s.os.tripActive = false ∧
      s.ld.islandStopped = false ∧
      s.pm.onStore = false ∧
      s.pm.softDue = 0 ∧
      c.late = false ∧
      c.mismatch = false ∧
      s.loaderRuns = false ∧
      s.si.tripTest = false ∧
      s.si.rowOwn = 0 ∧
      s.ty.agreedTwin = false ∧
      s.ty.yielding = 0) ∧
    (∃ (s : State) (n : Nat), n ∈ [1, 2, 3, 4] ∧
      tabWf {} s.os.coils = true) :=
  ⟨-- 1
    ⟨{ tUp with os := { tUp.os with coils := [(1, { cmd := true, drive := true, phase := 2 })], gate := true } },
      by decide +kernel⟩,
    -- 2
    ⟨{ tUp with os := { tUp.os with uvr := true, uvrOn := true, pulseSwitch := some 8 } },
      by decide +kernel⟩,
    -- 3
    ⟨{ tUp with os := { tUp.os with pulseSwitch := some 8, uvr := true, uvrOn := true, uvrNoChange1 := 1 } },
      by decide +kernel⟩,
    -- 4
    ⟨{ tUp with os := { tUp.os with coils := [(1, { cmd := true, drive := true })], pulseSwitch := some 0 } }, 0,
      by decide +kernel⟩,
    -- 5
    ⟨{ tUp with os := { tUp.os with tripActive := false } },
      by decide +kernel⟩,
    -- 6
    ⟨{ tUp with os := { tUp.os with tripActive := false, trip1Stuck := false } },
      by decide +kernel⟩,
    -- 9
    ⟨{ tUp with si := { tUp.si with demandPulses := 1, tripDemand := true }, os := { tUp.os with tripActive := false } }, 2000,
      by decide +kernel⟩,
    -- 10
    ⟨{ tUp with rows := { tUp.rows with committed := false }, os := { tUp.os with tripDue := true, tripActive := false }, ld := { tUp.ld with islandStopped := false }, pm := { tUp.pm with onStore := false, softDue := 0 }, si := { tUp.si with tripTest := false, rowOwn := 0 }, ty := { tUp.ty with agreedTwin := false, yielding := 0 } }, {},
      by decide +kernel⟩,
    -- 11
    ⟨tUp, 1,
      by decide +kernel⟩⟩

set_option maxRecDepth 4000 in
/-- Each clause of SafetySetCommands has a state and operands that meet its hypotheses. -/
theorem witness_safety_set_commands :
    (∃ (s : State) (r : Req) (x : Session) (index : Nat) (sub : Nat) (v : Bytes) (o : Obj), Accepted s r 0x11 (writePayload r index sub 0 v) 8 anyRole x ∧
      v.length ≤ 8 ∧
      findObj index sub = some o ∧
      o.access = .safe ∧
      commissioning x.role = true ∧
      s.anyCoil = false ∧
      v.length = o.bytes ∧
      objInRange o (leNat v) = true) ∧
    (∃ (s : State) (r : Req) (x : Session), Accepted s r 0x11 (writePayload r 0x2D8B 0 0 (leBytes 4 s.si.checkComputed)) 8 commissioning x ∧
      s.shadowRelations = true) ∧
    (∃ (s : State), s.shadowRelations = true) ∧
    (∃ (s : State) (r : Req) (x : Session), Accepted s r 0x11 (writePayload r 0x2D8C 0 0 [1]) 8 commissioning x) ∧
    (∃ (s : State), s.si.everConfirmed = true) ∧
    (∃ (s : State) (r : Req) (x : Session), Accepted s r 0x11 (writePayload r 0x2D8D 0 0 [1]) 8 engineer x ∧
      s.provenOpen = true ∧
      s.busDead = true) ∧
    (∃ (s : State), s.provenOpen = true ∧
      s.busDead = true) ∧
    (∃ (s : State), s.provenOpen = true ∧
      s.busDead = true) ∧
    (∃ (s : State) (r : Req) (x : Session), Accepted s r 0x11 (writePayload r 0x2D8D 0 0 [2]) 8 engineer x ∧
      s.si.proofState = 2) ∧
    (∃ (s : State), s.si.proofState = 2) ∧
    (∃ (s : State) (r : Req) (x : Session), Accepted s r 0x11 (writePayload r 0x2D8D 0 0 [3]) 8 engineer x) ∧
    (∃ (s : State) (c : CommitInp), s.inRow = true ∧
      s.rows.committed = false ∧
      s.si.tripTest = true ∧
      tabWf {} s.os.coils = true ∧
      c.late = false ∧
      c.mismatch = false ∧
      s.loaderRuns = false ∧
      s.pm.softDue = 0 ∧
      s.ty.yielding = 0) ∧
    (∃ (s : State) (r : Req) (x : Session), Accepted s r 0x11 (writePayload r 0x2D8D 0 0 [4]) 8 engineer x) ∧
    (∃ (s : State), s.si.proofDue = 0) :=
  ⟨-- 1
    ⟨tUp, tReq 0x11 (writePayload ({} : Req) 0x2D80 1 0 ([1])), tSes, 0x2D80, 1, [1], ((findObj 0x2D80 1).get (by decide +kernel)),
      tAcc (by decide) (by decide) (by decide) (by decide +kernel) (by decide), by decide +kernel⟩,
    -- 2
    ⟨tUp, tReq 0x11 (writePayload ({} : Req) 0x2D8B 0 0 (leBytes 4 (tUp : State).si.checkComputed)), tSes,
      tAcc (by decide) (by decide) (by decide) (by decide +kernel) (by decide), by decide +kernel⟩,
    -- 3
    ⟨tUp,
      by decide +kernel⟩,
    -- 4
    ⟨{ tUp with ss := { tUp.ss with busP := some 0, busN := some 0 } }, tReq 0x11 (writePayload ({} : Req) 0x2D8C 0 0 [1]), tSes,
      tAcc (by decide) (by decide) (by decide) (by decide +kernel) (by decide)⟩,
    -- 5
    ⟨{ tUp with si := { tUp.si with everConfirmed := true } },
      by decide +kernel⟩,
    -- 6
    ⟨{ tUp with ss := { tUp.ss with busP := some 0, busN := some 0 } }, tReq 0x11 (writePayload ({} : Req) 0x2D8D 0 0 [1]), tSes,
      tAcc (by decide) (by decide) (by decide) (by decide +kernel) (by decide), by decide +kernel⟩,
    -- 7
    ⟨{ tUp with ss := { tUp.ss with busP := some 0, busN := some 0 } },
      by decide +kernel⟩,
    -- 8
    ⟨{ tUp with ss := { tUp.ss with busP := some 0, busN := some 0 } },
      by decide +kernel⟩,
    -- 9
    ⟨{ tUp with si := { tUp.si with proofState := 2 } }, tReq 0x11 (writePayload ({} : Req) 0x2D8D 0 0 [2]), tSes,
      tAcc (by decide) (by decide) (by decide) (by decide +kernel) (by decide), by decide +kernel⟩,
    -- 10
    ⟨{ tUp with si := { tUp.si with proofState := 2 } },
      by decide +kernel⟩,
    -- 11
    ⟨tUp, tReq 0x11 (writePayload ({} : Req) 0x2D8D 0 0 [3]), tSes,
      tAcc (by decide) (by decide) (by decide) (by decide +kernel) (by decide)⟩,
    -- 13
    ⟨{ tUp with rows := { tUp.rows with committed := false }, si := { tUp.si with tripTest := true }, pm := { tUp.pm with softDue := 0 }, ty := { tUp.ty with yielding := 0 } }, {},
      by decide +kernel⟩,
    -- 14
    ⟨tUp, tReq 0x11 (writePayload ({} : Req) 0x2D8D 0 0 [4]), tSes,
      tAcc (by decide) (by decide) (by decide) (by decide +kernel) (by decide)⟩,
    -- 16
    ⟨{ tUp with si := { tUp.si with proofDue := 0 } },
      by decide +kernel⟩⟩

set_option maxRecDepth 4000 in
/-- Each clause of FaultHandlerCommands has a state and operands that meet its hypotheses. -/
theorem witness_fault_handler_commands :
    (∃ (s : State) (p : Pending), s.coreUp = true ∧
      ((s.fm.pending.find? fun p => !p.started) = some p) ∧
      s.fm.handling = none ∧
      sharedCount s.nv.held < 21) ∧
    (∃ (s : State) (c : Nat) (p : Pending), s.coreUp = true ∧
      s.fm.handling = some c ∧
      s.fm.entry c = some p ∧
      sharedCount s.nv.held < 21) ∧
    (∃ (s : State) (r : Req) (x : Session) (v : Nat), Accepted s r 0x11 (writePayload r 0x1A01 0 0 (leBytes 1 v)) 8 operator x ∧
      v = s.acting.code ∧
      v ≠ 4) ∧
    (∃ (s : State) (r : Req) (x : Session), Accepted s r 0x11 (writePayload r 0x1A01 0 0 (leBytes 1 4)) 8 operator x ∧
      s.acting = .latch ∧
      engineer x.role = true ∧
      s.tm.cellLatch = false ∧
      s.tm.junctionLatch = false) ∧
    (∃ (s : State) (v : Nat), v = s.acting.code ∧
      v ≠ 4 ∧
      sharedCount s.nv.held < 20) ∧
    (∃ (s : State) (x : Session), s.acting = .latch ∧
      engineer x.role = true ∧
      s.tm.cellLatch = false ∧
      s.tm.junctionLatch = false ∧
      levelOf s.fm.active ≠ .latch ∧
      sharedCount s.nv.held < 20) :=
  ⟨-- 1
    ⟨{ tUp with fm := { tUp.fm with pending := [{}], handling := none } }, {},
      by decide +kernel⟩,
    -- 2
    ⟨{ tUp with fm := { tUp.fm with pending := [{ code := 1 }], handling := some 1 } }, 1, { code := 1 },
      by decide +kernel⟩,
    -- 3
    ⟨tUp, tReq 0x11 (writePayload ({} : Req) 0x1A01 0 0 (leBytes 1 0)), tSes, 0,
      tAcc (by decide) (by decide) (by decide) (by decide +kernel) (by decide), by decide +kernel⟩,
    -- 4
    ⟨{ tUp with fm := { tUp.fm with reaction := .latch }, tm := { tUp.tm with cellLatch := false, junctionLatch := false } }, tReq 0x11 (writePayload ({} : Req) 0x1A01 0 0 (leBytes 1 4)), tSes,
      tAcc (by decide) (by decide) (by decide) (by decide +kernel) (by decide), by decide +kernel⟩,
    -- 5
    ⟨tUp, 0,
      by decide +kernel⟩,
    -- 6
    ⟨{ tUp with fm := { tUp.fm with reaction := .latch }, tm := { tUp.tm with cellLatch := false, junctionLatch := false } }, tSes,
      by decide +kernel⟩⟩

set_option maxRecDepth 4000 in
/-- Each clause of NetworkCommands has a state and operands that meet its hypotheses. -/
theorem witness_network_commands :
    (∃ (s : State) (sender : Nat), s.coreUp = true ∧
      s.cfgGet 0x3180 1 ≠ 0 ∧
      sender ≠ s.cfgGet 0x3180 1) ∧
    (∃ (s : State) (mac : Nat) (target : Nat), s.coreUp = true ∧
      s.cfgGet 0x3180 1 ≠ 0 ∧
      mac ≠ s.id.mac ∧
      target ≠ s.cfgGet 0x3180 1) ∧
    (∃ (s : State) (d : Bytes), s.coreUp = true ∧
      s.cfgGet 0x3180 1 ≠ 0 ∧
      d.length ≤ 1472) ∧
    (∃ (s : State) (d : Bytes), s.coreUp = true ∧
      1472 < d.length) ∧
    (∃ (s : State) (src : Nat) (ident : Nat) (offset : Nat) (d : Bytes), s.coreUp = true ∧
      s.cfgGet 0x3180 1 ≠ 0 ∧
      s.ipReasm src ident = none ∧
      s.en.reasm.length < 8 ∧
      offset + d.length ≤ 2056) ∧
    (∃ (s : State) (src : Nat) (ident : Nat) (m : IpReasm), s.ipReasm src ident = some m) :=
  ⟨-- 1
    ⟨{ tUp with cfg :=  [(objKey 0x3180 1, 5)] }, 1,
      by decide +kernel⟩,
    -- 2
    ⟨{ tUp with cfg :=  [(objKey 0x3180 1, 5)] }, 1, 1,
      by decide +kernel⟩,
    -- 3
    ⟨{ tUp with cfg :=  [(objKey 0x3180 1, 5)] }, [],
      by decide +kernel⟩,
    -- 4
    ⟨tUp, List.replicate 1473 0,
      by decide +kernel⟩,
    -- 5
    ⟨{ tUp with cfg :=  [(objKey 0x3180 1, 5)] }, 1, 1, 1, [],
      by decide +kernel⟩,
    -- 6
    ⟨{ tUp with en := { tUp.en with reasm := [{ src := 1, ident := 1 }] } }, 1, 1, { src := 1, ident := 1 },
      by decide +kernel⟩⟩

set_option maxRecDepth 4000 in
/-- Each clause of SfpCommands has a state and operands that meet its hypotheses. -/
theorem witness_sfp_commands :
    (∃ (s : State) (port : Nat) (b6 : Nat) (b3 : Nat), (s.sfp port).cageOn = true ∧
      sfpRate (b6 % 256 + 256 * (b3 % 256)) ≠ 0) ∧
    (∃ (s : State) (port : Nat) (b6 : Nat) (b3 : Nat), (s.sfp port).cageOn = true ∧
      sfpRate (b6 % 256 + 256 * (b3 % 256)) = 0) ∧
    (∃ (s : State) (port : Nat), (s.sfp port).link ≠ 2) ∧
    (∃ (s : State) (port : Nat), (s.sfp port).link = 3) ∧
    (∃ (s : State) (port : Nat), 4 ≤ (s.sfp port).link) :=
  ⟨-- 1
    ⟨{ tUp with en := { tUp.en with p1 := { cageOn := true } } }, 1, 1, 1,
      by decide +kernel⟩,
    -- 2
    ⟨{ tUp with en := { tUp.en with p1 := { cageOn := true } } }, 1, 0, 1,
      by decide +kernel⟩,
    -- 3
    ⟨tUp, 1,
      by decide +kernel⟩,
    -- 5
    ⟨{ tUp with en := { tUp.en with p1 := { link := 3 } } }, 1,
      by decide +kernel⟩,
    -- 6
    ⟨{ tUp with en := { tUp.en with p1 := { link := 4 } } }, 1,
      by decide +kernel⟩⟩

set_option maxRecDepth 4000 in
/-- Each clause of ConverterCommands has a state and operands that meet its hypotheses. -/
theorem witness_converter_commands :
    (∃ (s : State) (d : Nat), (s.duty d).isOver = true) ∧
    (∃ (s : State) (d : Nat) (a : Stamp), s.ca.started = true ∧
      s.dutyTrig d = some a ∧
      (s.duty d).newTrig a = true ∧
      (s.duty d).captureOpen = false) ∧
    (∃ (s : State) (d : Nat) (a : Stamp), s.ca.started = true ∧
      s.dutyTrig d = some a ∧
      (s.duty d).newTrig a = true ∧
      (s.duty d).captureOpen = true) ∧
    (∃ (s : State) (d : Nat) (stamp : Nat) (c : Nat), s.ca.started = true ∧
      (s.duty d).slice ≠ 0xFF ∧
      (s.duty d).captureOpen = true ∧
      c = s.captureCentre d stamp) ∧
    (∃ (s : State), s.ca.rotMode ≠ 2 ∧
      s.ca.started = true ∧
      rotationStepAt s.ca.rotMode (s.patNo % 256) ≠ 0) ∧
    (∃ (s : State), s.ca.rotMode ≠ 2 ∧
      s.ca.started = true ∧
      rotationStepAt s.ca.rotMode (s.patNo % 256) = 0) ∧
    (∃ (s : State), s.ca.spare < 9 ∧
      s.ca.started = true ∧
      s.ca.hoActive = false ∧
      s.ca.calIdx < 10) ∧
    (∃ (s : State) (v : Int) (vals : Tab Int), tabWf ({} : Slice) s.ca.slices = true ∧
      s.ca.spare < 9 ∧
      s.ca.started = true ∧
      s.ca.hoActive = false ∧
      s.ca.calIdx = 10 ∧
      (s.slice s.ca.spare).passBad = false ∧
      v.natAbs ≤ 100 ∧
      vals = tabPut 0 10 v s.ca.calVals) ∧
    (∃ (s : State) (n : Nat) (d : Nat) (off : Nat) (tsw : Nat), s.ca.spare < 9 ∧
      s.ca.rotMode ≠ 2 ∧
      s.nextServing s.ca.spare = some (n, d) ∧
      off = s.patNo % 256 ∧
      tsw = (s.ns / 10000000 - off + rotationStepEnd s.ca.rotMode (rotationStepAt s.ca.rotMode off)) * 10000000) ∧
    (∃ (s : State) (l : List (Nat × Int)), s.ca.hoActive = true ∧
      s.ca.hoDeferred = false ∧
      s.handOverOff l = false ∧
      s.ca.rotMode = 0) ∧
    (∃ (s : State) (l : List (Nat × Int)), s.ca.hoActive = true ∧
      s.ca.hoDeferred = false ∧
      s.handOverOff l = true ∧
      s.ca.hoRetry = false) ∧
    (∃ (s : State), s.ca.hoActive = true ∧
      s.ca.hoDeferred = true) :=
  ⟨-- 1
    ⟨{ tUp with ca := { tUp.ca with duties := [(1, { isOver := true })] } }, 1,
      by decide +kernel⟩,
    -- 2
    ⟨{ tUp with rows := { tUp.rows with lastPat := some 0 }, ca := { tUp.ca with started := true }, cfg :=  [(objKey 0x2382 2, 1)] }, 1, (stampAt 0 0),
      by decide +kernel⟩,
    -- 3
    ⟨{ tUp with rows := { tUp.rows with lastPat := some 0 }, ca := { tUp.ca with duties := [(1, { slice := 1, captureOpen := true })], started := true }, cfg :=  [(objKey 0x2382 2, 1)] }, 1, (stampAt 0 0),
      by decide +kernel⟩,
    -- 4
    ⟨{ tUp with ca := { tUp.ca with duties := [(1, { slice := 1, captureOpen := true })], started := true } }, 1, 1, (({ tUp with ca := { tUp.ca with duties := [(1, { slice := 1, captureOpen := true })], started := true } } : State).captureCentre 1 1),
      by decide +kernel, by decide +kernel, by decide +kernel, rfl⟩,
    -- 5
    ⟨{ tUp with ca := { tUp.ca with rotMode := 1, started := true }, tb := { tUp.tb with now := { epoch := 0, ns := 320000000 } } },
      by decide +kernel⟩,
    -- 6
    ⟨{ tUp with ca := { tUp.ca with started := true } },
      by decide +kernel⟩,
    -- 7
    ⟨{ tUp with ca := { tUp.ca with started := true, hoActive := false } },
      by decide +kernel⟩,
    -- 8
    ⟨{ tUp with ca := { tUp.ca with started := true, hoActive := false, calIdx := 10 } }, 1, (tabPut 0 10 1 []),
      by decide +kernel⟩,
    -- 9
    ⟨tUp, 0, 0, 0, 290000000,
      by decide +kernel⟩,
    -- 10
    ⟨{ tUp with ca := { tUp.ca with hoActive := true, hoDeferred := false, rotMode := 0 } }, [],
      by decide +kernel⟩,
    -- 11
    ⟨{ tUp with ca := { tUp.ca with hoOut := [(0, 0)], hoActive := true, hoDeferred := false, hoRetry := false } }, [(0, 0), (0, 0), (0, 0), (0, 0), (0, 8388607), (0, 8388607), (0, 8388607)],
      by decide +kernel⟩,
    -- 12
    ⟨{ tUp with ca := { tUp.ca with hoActive := true, hoDeferred := true } },
      by decide +kernel⟩⟩

set_option maxRecDepth 4000 in
/-- Each clause of FastPairCommands has a state and operands that meet its hypotheses. -/
theorem witness_fast_pair_commands :
    (∃ (s : State) (p : Nat) (e : Nat) (samples : List Int), p < 2 ∧
      e ≠ 0 ∧
      s.coreUp = true ∧
      s.pairEvent p ((s.pair p).corrected samples) = e ∧
      tabWf {} s.os.coils = true) ∧
    (∃ (s : State) (p : Nat) (samples : List Int), s.pairEvent p ((s.pair p).corrected samples) = 0) ∧
    (∃ (s : State), s.ca.fb.stuck = false) ∧
    (∃ (s : State) (r : Req) (x : Session) (p : Nat), Accepted s r 0x11 (writePayload r 0x2481 (3 + p) 0 [1]) 8 operator x) ∧
    (∃ (s : State) (r : Req) (x : Session) (p : Nat), Accepted s r 0x11 (writePayload r 0x2481 (3 + p) 0 [2]) 8 operator x) ∧
    (∃ (s : State) (p : Nat), (s.pair p).frozen = false) ∧
    (∃ (s : State) (p : Nat), (s.pair p).frozen = true) ∧
    (∃ (s : State) (r : Req) (x : Session) (l : Nat), Accepted s r 0x11 (writePayload r 0x2387 0 0 (leBytes 1 l)) 8 operator x ∧
      l < 16) ∧
    (∃ (l : Nat), l < 16) :=
  ⟨-- 1
    ⟨tUp, 0, 1, (List.replicate 16 32767),
      by decide +kernel⟩,
    -- 2
    ⟨tUp, 1, [],
      by decide +kernel⟩,
    -- 4
    ⟨tUp,
      by decide +kernel⟩,
    -- 5
    ⟨tUp, tReq 0x11 (writePayload ({} : Req) 0x2481 (3 + 1) 0 [1]), tSes, 1,
      tAcc (by decide) (by decide) (by decide) (by decide +kernel) (by decide)⟩,
    -- 7
    ⟨tUp, tReq 0x11 (writePayload ({} : Req) 0x2481 (3 + 1) 0 [2]), tSes, 1,
      tAcc (by decide) (by decide) (by decide) (by decide +kernel) (by decide)⟩,
    -- 8
    ⟨tUp, 1,
      by decide +kernel⟩,
    -- 9
    ⟨{ tUp with ca := { tUp.ca with fb := { frozen := true } } }, 1,
      by decide +kernel⟩,
    -- 10
    ⟨tUp, tReq 0x11 (writePayload ({} : Req) 0x2387 0 0 (leBytes 1 1)), tSes, 1,
      tAcc (by decide) (by decide) (by decide) (by decide +kernel) (by decide), by decide +kernel⟩,
    -- 11
    ⟨1,
      by decide +kernel⟩⟩

set_option maxRecDepth 4000 in
/-- Each clause of ConverterReadCommands has a state and operands that meet its hypotheses. -/
theorem witness_converter_read_commands :
    (∃ (s : State), s.coreUp = true) ∧
    (∃ (s : State) (n : Nat) (w : Nat), s.coreUp = true ∧
      tabGet none n s.ca.shadows = some w) ∧
    (∃ (s : State) (n : Nat), s.coreUp = true ∧
      tabGet none n s.ca.shadows = none) :=
  ⟨-- 1
    ⟨tUp,
      by decide +kernel⟩,
    -- 2
    ⟨{ tUp with ca := { tUp.ca with shadows := [(1, some 1)] } }, 1, 1,
      by decide +kernel⟩,
    -- 3
    ⟨tUp, 1,
      by decide +kernel⟩⟩

set_option maxRecDepth 4000 in
/-- Each clause of SensingCommands has a state and operands that meet its hypotheses. -/
theorem witness_sensing_commands :
    (∃ (s : State) (levels : List (Nat × Int)) (value : Int) (stamp : Nat), s.ca.started = true ∧
      (s.duty 2).slice ≠ 0xFF ∧
      (s.duty 2).settle = 0 ∧
      value = s.filtered 2 levels ∧
      overrange value = false ∧
      s.late stamp = false) ∧
    (∃ (s : State) (levels : List (Nat × Int)) (value : Int) (stamp : Nat), s.ca.started = true ∧
      (s.duty 2).slice ≠ 0xFF ∧
      (s.duty 2).settle = 0 ∧
      value = s.filtered 2 levels ∧
      overrange value = false ∧
      s.late stamp = true) ∧
    (∃ (s : State) (levels : List (Nat × Int)) (value : Int), s.ca.started = true ∧
      (s.duty 1).slice ≠ 0xFF ∧
      (s.duty 1).settle = 0 ∧
      value = s.filtered 1 levels ∧
      overrange value = false) ∧
    (∃ (s : State) (levels : List (Nat × Int)) (value : Int) (p : Nat), s.ca.started = true ∧
      (s.duty 0).slice ≠ 0xFF ∧
      (s.duty 0).settle = 0 ∧
      value = s.filtered 0 levels ∧
      overrange value = false ∧
      s.ss.integrating = true ∧
      s.ss.lastD0 = some p ∧
      s.pc.seq ≠ 3) ∧
    (∃ (s : State), s.ss.hallSeen = true) ∧
    (∃ (s : State), s.ss.inGap = true ∧
      s.ss.blind = true) :=
  ⟨-- 1
    ⟨{ tUp with ca := { tUp.ca with started := true } }, [(0, 0)], 0, 1,
      by decide +kernel⟩,
    -- 2
    ⟨{ tUp with rows := { tUp.rows with lastPat := some 100000 }, ca := { tUp.ca with started := true } }, [(0, 0)], 0, 1,
      by decide +kernel⟩,
    -- 3
    ⟨{ tUp with ca := { tUp.ca with started := true } }, [(0, 0)], 0,
      by decide +kernel⟩,
    -- 4
    ⟨{ tUp with ca := { tUp.ca with started := true }, ss := { tUp.ss with integrating := true, lastD0 := some 1 } }, [(0, 0)], 0, 1,
      by decide +kernel⟩,
    -- 5
    ⟨{ tUp with ss := { tUp.ss with hallSeen := true } },
      by decide +kernel⟩,
    -- 6
    ⟨{ tUp with ss := { tUp.ss with inGap := true, blind := true } },
      by decide +kernel⟩⟩

set_option maxRecDepth 4000 in
/-- Each clause of InsulationCommands has a state and operands that meet its hypotheses. -/
theorem witness_insulation_commands :
    (∃ (s : State) (vN : Int), s.im.connected = true ∧
      s.im.inB = false ∧
      vN ≠ 0) ∧
    (∃ (s : State) (vP : Int) (vN : Int) (pe : Int) (a : Rat) (b : Rat) (gp : Rat) (gn : Rat), s.im.connected = true ∧
      s.im.inB = true ∧
      vN ≠ 0 ∧
      s.earthsDisagree pe = false ∧
      a = s.im.ratioA ∧
      b = (vP : Rat) / (vN : Rat) ∧
      a < b ∧
      gp = (1 + a) / ((b - a) * 2000000) ∧
      gn = a * (1 + b) / ((b - a) * 2000000)) ∧
    (∃ (s : State) (vN : Int) (pe : Int), s.im.connected = true ∧
      s.im.inB = true ∧
      vN ≠ 0 ∧
      s.earthsDisagree pe = true) ∧
    (∃ (s : State), s.im.connected = true) ∧
    (∃ (s : State) (p : Nat) (v : Nat), s.im.tokenState = 2 ∧
      s.im.checking = true ∧
      2 * (s.ss.vStr.getD 0).natAbs < 100 * p ∧
      1000 * v ≤ 2 * (s.ss.vStr.getD 0).natAbs) ∧
    (∃ (s : State) (p : Nat), s.im.tokenState = 2 ∧
      s.im.checking = true ∧
      100 * p ≤ 2 * (s.ss.vStr.getD 0).natAbs) ∧
    (∃ (s : State), s.im.tokenState = 2) ∧
    (∃ (s : State), s.mainClosed = true ∧
      s.isoBus ≠ 0) :=
  ⟨-- 1
    ⟨{ tUp with im := { tUp.im with connected := true, inB := false } }, 1,
      by decide +kernel⟩,
    -- 2
    ⟨{ tUp with im := { tUp.im with connected := true, inB := true } }, 1, 1, 0, 0, 1, (1 / 2000000), 0,
      by decide +kernel⟩,
    -- 3
    ⟨{ tUp with im := { tUp.im with connected := true, inB := true } }, 1, 8000000,
      by decide +kernel⟩,
    -- 4
    ⟨{ tUp with im := { tUp.im with connected := true } },
      by decide +kernel⟩,
    -- 5
    ⟨{ tUp with ss := { tUp.ss with vStr := some 1000 }, im := { tUp.im with tokenState := 2, checking := true } }, 21, 1,
      by decide +kernel⟩,
    -- 6
    ⟨{ tUp with ss := { tUp.ss with vStr := some 1000 }, im := { tUp.im with tokenState := 2, checking := true } }, 1,
      by decide +kernel⟩,
    -- 7
    ⟨{ tUp with im := { tUp.im with tokenState := 2 } },
      by decide +kernel⟩,
    -- 8
    ⟨{ tUp with os := { tUp.os with coils := [(1, { cmd := true })] }, cfg :=  [(objKey 0x2680 1, 1)] },
      by decide +kernel⟩⟩

set_option maxRecDepth 4000 in
/-- Each clause of TokenCommands has a state and operands that meet its hypotheses. -/
theorem witness_token_commands :
    (∃ (s : State), s.isoBus ≠ 0 ∧
      s.im.tokenState = 1) ∧
    (∃ (s : State), s.isoBus ≠ 0 ∧
      s.holdsToken = true) ∧
    (∃ (s : State) (m : TokenMsg), s.onBus m = true) ∧
    (∃ (s : State) (m : TokenMsg), s.onBus m = true ∧
      s.holdsToken = false) ∧
    (∃ (s : State) (m : TokenMsg), s.onBus m = true ∧
      s.holdsToken = true ∧
      m.sender < s.id.nodeId) ∧
    (∃ (s : State) (m : TokenMsg), s.onBus m = true ∧
      m.target = s.id.nodeId ∧
      s.im.tokenState = 1) ∧
    (∃ (s : State) (m : TokenMsg), s.onBus m = true ∧
      m.target = s.id.nodeId ∧
      s.im.tokenState = 4 ∧
      m.sender = s.im.passTo ∧
      s.mainClosed = true) ∧
    (∃ (s : State) (m : TokenMsg), s.onBus m = true ∧
      s.mainClosed = true ∧
      s.holdsToken = false ∧
      s.im.tokenState ≠ 6 ∧
      m.riso ≠ 0xFFFFFFFF) ∧
    (∃ (s : State) (m : TokenMsg), s.onBus m = true) ∧
    (∃ (s : State) (m : TokenMsg), s.onBus m = true) ∧
    (∃ (s : State) (n : Nat), s.im.tokenState = 3 ∧
      s.cfgGet 0x2680 5 ≠ 0 ∧
      s.nextNeed = some n) ∧
    (∃ (s : State), s.im.tokenState = 4 ∧
      s.mainClosed = true) ∧
    (∃ (s : State), s.im.tokenState = 1 ∧
      s.isoBus ≠ 0) ∧
    (∃ (s : State), s.im.tokenState = 5 ∧
      s.im.claimLost = false) ∧
    (∃ (s : State), s.im.tokenState = 5 ∧
      s.im.claimLost = true) :=
  ⟨-- 1
    ⟨{ tUp with im := { tUp.im with tokenState := 1 }, cfg :=  [(objKey 0x2680 1, 1)] },
      by decide +kernel⟩,
    -- 2
    ⟨{ tUp with im := { tUp.im with tokenState := 2 }, cfg :=  [(objKey 0x2680 1, 1)] },
      by decide +kernel⟩,
    -- 3
    ⟨{ tUp with id := { tUp.id with nodeId := 5 }, cfg :=  [(objKey 0x2680 1, 1)] }, { bus := 1, sender := 1 },
      by decide +kernel⟩,
    -- 4
    ⟨{ tUp with id := { tUp.id with nodeId := 5 }, cfg :=  [(objKey 0x2680 1, 1)] }, { bus := 1, sender := 1 },
      by decide +kernel⟩,
    -- 5
    ⟨{ tUp with im := { tUp.im with tokenState := 2 }, id := { tUp.id with nodeId := 5 }, cfg :=  [(objKey 0x2680 1, 1)] }, { bus := 1, sender := 1 },
      by decide +kernel⟩,
    -- 6
    ⟨{ tUp with id := { tUp.id with nodeId := 5 }, im := { tUp.im with tokenState := 1 }, cfg :=  [(objKey 0x2680 1, 1)] }, { bus := 1, sender := 1, target := 5 },
      by decide +kernel⟩,
    -- 7
    ⟨{ tUp with im := { tUp.im with passTo := 1, tokenState := 4 }, id := { tUp.id with nodeId := 5 }, os := { tUp.os with coils := [(1, { cmd := true })] }, cfg :=  [(objKey 0x2680 1, 1)] }, { bus := 1, sender := 1, target := 5 },
      by decide +kernel⟩,
    -- 8
    ⟨{ tUp with id := { tUp.id with nodeId := 5 }, os := { tUp.os with coils := [(1, { cmd := true })] }, cfg :=  [(objKey 0x2680 1, 1)] }, { bus := 1, sender := 1, riso := 0 },
      by decide +kernel⟩,
    -- 9
    ⟨{ tUp with id := { tUp.id with nodeId := 5 }, cfg :=  [(objKey 0x2680 1, 1)] }, { bus := 1, sender := 1 },
      by decide +kernel⟩,
    -- 10
    ⟨{ tUp with id := { tUp.id with nodeId := 5 }, cfg :=  [(objKey 0x2680 1, 1)] }, { bus := 1, sender := 1 },
      by decide +kernel⟩,
    -- 11
    ⟨{ tUp with im := { tUp.im with needs := [{ node := 3, fresh := 1 }], tokenState := 3 } }, 3,
      by decide +kernel⟩,
    -- 12
    ⟨{ tUp with os := { tUp.os with coils := [(1, { cmd := true })] }, im := { tUp.im with tokenState := 4 } },
      by decide +kernel⟩,
    -- 13
    ⟨{ tUp with im := { tUp.im with tokenState := 1 }, cfg :=  [(objKey 0x2680 1, 1)] },
      by decide +kernel⟩,
    -- 14
    ⟨{ tUp with im := { tUp.im with tokenState := 5, claimLost := false } },
      by decide +kernel⟩,
    -- 15
    ⟨{ tUp with im := { tUp.im with tokenState := 5, claimLost := true } },
      by decide +kernel⟩⟩

set_option maxRecDepth 4000 in
/-- Each clause of RingStartCommands has a state and operands that meet its hypotheses. -/
theorem witness_ring_start_commands :
    (∃ (s : State), s.cl.proc = 1 ∧
      s.cl.driver = true ∧
      s.cl.renewing = false ∧
      s.cl.chainMode = true) ∧
    (∃ (s : State) (m : IdentMsg), s.cl.proc = 3 ∧
      s.cl.probe = false ∧
      m.deviceType = 0x1624 ∧
      s.cl.fromB = false ∧
      s.cl.nextAddr ≠ 32 ∧
      s.cl.driver = true ∧
      s.cl.chainMode = true) ∧
    (∃ (s : State) (m : IdentMsg), s.cl.proc = 3 ∧
      s.cl.probe = false ∧
      m.deviceType ≠ 0x1624 ∧
      s.cl.driver = true ∧
      s.cl.fromB = false ∧
      max s.cl.lastA s.cl.nextAddr < s.cmuCount ∧
      s.cl.chainMode = true) ∧
    (∃ (s : State), s.cl.proc = 3 ∧
      s.cl.fromB = false ∧
      max s.cl.lastA s.cl.foreignAt < s.cmuCount ∧
      s.cl.driver = true ∧
      s.cl.chainMode = true) ∧
    (∃ (s : State) (c : Nat), s.cl.driver = true ∧
      s.cl.proc = 5 ∧
      (s.cmu c).state ≠ 0 ∧
      (s.cmu c).echoA.length < 15) ∧
    (∃ (s : State) (c : Nat) (rtt : Nat), s.cl.echoSlot = true ∧
      s.cl.proc = 0 ∧
      (s.cmu c).state ≠ 0 ∧
      (s.cmu c).echoB.length = 15 ∧
      echoSpread (rtt :: (s.cmu c).echoB) ≤ 40) ∧
    (∃ (s : State) (c : Nat), s.cl.driver = true ∧
      s.cl.proc = 7 ∧
      (∀ d ∈ s.enumerated, d ≠ c → (s.cmu d).state ≠ 3 ∨ (s.cmu d).configured = true)) ∧
    (∃ (s : State) (c : Nat) (d : Nat), (s.cmu c).state = 2 ∧
      d ∈ s.enumerated ∧
      d ≠ c ∧
      (s.cmu d).state = 2 ∧
      (s.cmu d).awaits = true ∧
      s.cl.driver = true ∧
      s.cl.chainMode = false) ∧
    (∃ (s : State) (c : Nat) (d : Nat), (s.cmu c).state = 2 ∧
      d ∈ s.enumerated ∧
      d ≠ c ∧
      (s.cmu d).state = 2 ∧
      (s.cmu d).awaits = true ∧
      s.cl.driver = true) ∧
    (∃ (s : State), s.cl.driver = false ∧
      s.coreUp = true ∧
      s.cl.echoSlot = false) ∧
    (∃ (s : State), 5 ≤ s.cl.proc ∧
      s.cl.renewing = false) ∧
    (∃ (s : State), s.cl.proc ≠ 0 ∧
      s.cl.renewing = true) ∧
    (∃ (s : State), s.cl.retryDue = true ∧
      s.cl.driver = true ∧
      s.cl.chainMode = true) ∧
    (∃ (s : State) (r : Req) (x : Session), Accepted s r 0x11 (writePayload r 0x2889 0 0 [1]) 8 engineer x ∧
      s.provenOpen = true) :=
  ⟨-- 1
    ⟨{ tUp with cl := { tUp.cl with proc := 1, driver := true, renewing := false, chainMode := true } },
      by decide +kernel⟩,
    -- 2
    ⟨{ tUp with cl := { tUp.cl with proc := 3, probe := false, fromB := false, driver := true, chainMode := true } }, {},
      by decide +kernel⟩,
    -- 3
    ⟨{ tUp with cl := { tUp.cl with proc := 3, probe := false, driver := true, fromB := false, chainMode := true }, cfg :=  [(objKey 0x2880 0, 2), (objKey 0x2881 1, 2), (objKey 0x2881 2, 2)] }, { deviceType := 1 },
      by decide +kernel⟩,
    -- 4
    ⟨{ tUp with cl := { tUp.cl with proc := 3, fromB := false, driver := true, chainMode := true }, cfg :=  [(objKey 0x2880 0, 2), (objKey 0x2881 1, 2), (objKey 0x2881 2, 2)] },
      by decide +kernel⟩,
    -- 5
    ⟨{ tUp with cl := { tUp.cl with cmus := [(1, { state := 1 })], driver := true, proc := 5 } }, 1,
      by decide +kernel⟩,
    -- 6
    ⟨{ tUp with cl := { tUp.cl with cmus := [(1, { state := 1, echoB := List.replicate 15 1 })], echoSlot := true, proc := 0 } }, 1, 1,
      by decide +kernel⟩,
    -- 7
    ⟨{ tUp with cl := { tUp.cl with driver := true, proc := 7 } }, 1,
      by decide +kernel⟩,
    -- 8
    ⟨{ tUp with cl := { tUp.cl with cmus := [(1, { state := 2 }), (2, { state := 2, awaits := true })], driver := true, chainMode := false } }, 1, 2,
      by decide +kernel⟩,
    -- 9
    ⟨{ tUp with cl := { tUp.cl with cmus := [(1, { state := 2 }), (2, { state := 2, awaits := true })], driver := true } }, 1, 2,
      by decide +kernel⟩,
    -- 10
    ⟨{ tUp with cl := { tUp.cl with driver := false, echoSlot := false } },
      by decide +kernel⟩,
    -- 11
    ⟨{ tUp with cl := { tUp.cl with proc := 5, renewing := false } },
      by decide +kernel⟩,
    -- 12
    ⟨{ tUp with cl := { tUp.cl with proc := 1, renewing := true } },
      by decide +kernel⟩,
    -- 13
    ⟨{ tUp with cl := { tUp.cl with retryDue := true, driver := true, chainMode := true } },
      by decide +kernel⟩,
    -- 14
    ⟨tUp, tReq 0x11 (writePayload ({} : Req) 0x2889 0 0 [1]), tSes,
      tAcc (by decide) (by decide) (by decide) (by decide +kernel) (by decide), by decide +kernel⟩⟩

set_option maxRecDepth 4000 in
/-- Each clause of CellDataCommands has a state and operands that meet its hypotheses. -/
theorem witness_cell_data_commands :
    (∃ (s : State) (m : CellData), s.cl.driver = true ∧
      m.intact = true ∧
      m.kind = 0x0A ∧
      1 ≤ m.cmu ∧
      m.cmu ≤ 32 ∧
      s.cl.renewing = false ∧
      m.pattern = s.patNo ∧
      m.stamp = s.patStart % 2 ^ 32 ∧
      s.ns ≤ s.patStart + 1000000 ∧
      (s.cmu m.cmu).lost = false ∧
      bit m.status 4 = false) ∧
    (∃ (s : State) (m : CellData), s.cl.driver = true ∧
      m.intact = true ∧
      m.kind = 0x0A ∧
      1 ≤ m.cmu ∧
      m.cmu ≤ 32 ∧
      s.cl.renewing = false ∧
      m.pattern = s.patNo ∧
      m.stamp = s.patStart % 2 ^ 32 ∧
      s.patStart + 1000000 < s.ns ∧
      (s.cmu m.cmu).lost = false) ∧
    (∃ (m : CellData), m.intact = true ∧
      m.kind ∉ ringKinds) ∧
    (∃ (a : Nat) (k : Nat), a ≤ 32 ∧
      k < 4) ∧
    (∃ (a : Nat) (k : Nat), a ≤ 32 ∧
      4 ≤ k ∧
      k < 16) ∧
    (∃ (a : Nat) (k : Nat), (32 < a ∨ 16 ≤ k)) ∧
    (∃ (s : State) (a : Nat), a ≤ 32 ∧
      s.cl.chainMode = false) ∧
    (∃ (s : State), s.cl.chainMode = false) ∧
    (∃ (s : State) (g : Nat), g < s.groupCount ∧
      14 ≤ s.ageOf g) :=
  ⟨-- 1
    ⟨{ tUp with cl := { tUp.cl with driver := true, renewing := false } }, {},
      by decide +kernel⟩,
    -- 2
    ⟨{ tUp with tb := { tUp.tb with now := { epoch := 0, ns := 1000001 } }, cl := { tUp.cl with driver := true, renewing := false } }, {},
      by decide +kernel⟩,
    -- 3
    ⟨{ kind := 0xFF },
      by decide +kernel⟩,
    -- 5
    ⟨32, 3,
      by decide +kernel⟩,
    -- 6
    ⟨32, 15,
      by decide +kernel⟩,
    -- 7
    ⟨33, 1,
      by decide +kernel⟩,
    -- 8
    ⟨{ tUp with cl := { tUp.cl with chainMode := false } }, 32,
      by decide +kernel⟩,
    -- 9
    ⟨{ tUp with cl := { tUp.cl with chainMode := false } },
      by decide +kernel⟩,
    -- 10
    ⟨{ tUp with cfg :=  [(objKey 0x2880 0, 2), (objKey 0x2881 1, 2), (objKey 0x2881 2, 2)] }, 1,
      by decide +kernel⟩⟩

set_option maxRecDepth 4000 in
/-- Each clause of StepCaptureCommands has a state and operands that meet its hypotheses. -/
theorem witness_step_capture_commands :
    (∃ (s : State) (r : Req) (x : Session) (ts : Stamp) (t0 : Stamp), Accepted s r 0x11 (writePayload r 0x2886 0 0 (stampBytes ts)) 8 operator x ∧
      bit (s.cfgGet 0x2885 2) 2 = true ∧
      s.cl.stepState ≠ 1 ∧
      s.cl.stepState ≠ 2 ∧
      t0 = stampAt ts.epoch (stampNs ts / 1000000 * 1000000) ∧
      t0.epoch = s.tb.now.epoch ∧
      s.rowStartNs + 100000 ≤ stampNs t0 + 100000000 ∧
      stampNs t0 ≤ s.ns + 1000000000) ∧
    (∃ (s : State) (ts : Stamp) (t0 : Stamp), bit (s.cfgGet 0x2885 2) 2 = true ∧
      s.cl.stepState ≠ 1 ∧
      s.cl.stepState ≠ 2 ∧
      t0 = stampAt ts.epoch (stampNs ts / 1000000 * 1000000) ∧
      t0.epoch = s.tb.now.epoch ∧
      s.rowStartNs + 100000 ≤ stampNs t0 + 100000000 ∧
      stampNs t0 ≤ s.ns + 1000000000) ∧
    (∃ (s : State), s.cfgGet 0x2885 1 = 0) ∧
    (∃ (s : State) (a : Rat) (b : Rat), s.cfgGet 0x2885 1 ≠ 0 ∧
      bit (s.cfgGet 0x2885 2) 0 = true ∧
      ratMean s.cl.localNow = some a ∧
      s.cl.localPrev = some b ∧
      (s.cfgGet 0x2885 1 : Rat) ≤ ratAbs (a - b) ∧
      s.cl.stepState ≠ 1 ∧
      s.cl.stepState ≠ 2 ∧
      1000000 ≤ s.ns) ∧
    (∃ (s : State) (cmu : Nat) (g : Nat) (v : List Nat), s.cl.stepState = 1 ∧
      g < s.groupsOf cmu ∧
      s.firstGroup cmu + g < s.groupCount ∧
      v ≠ [] ∧
      (tabPut [] (s.firstGroup cmu + g) (v.take 200) s.cl.stepData).length < s.groupCount) :=
  ⟨-- 1
    ⟨tUp, tReq 0x11 (writePayload ({} : Req) 0x2886 0 0 (stampBytes ({}))), tSes, {}, {},
      tAcc (by decide) (by decide) (by decide) (by decide +kernel) (by decide), by decide +kernel⟩,
    -- 2
    ⟨tUp, {}, {},
      by decide +kernel⟩,
    -- 3
    ⟨{ tUp with cfg :=  [(objKey 0x2885 1, 0)] },
      by decide +kernel⟩,
    -- 4
    ⟨{ tUp with cl := { tUp.cl with localNow := [50000], localPrev := some 0 }, tb := { tUp.tb with now := { epoch := 0, ns := 1000000 } } }, 50000, 0,
      by decide +kernel⟩,
    -- 5
    ⟨{ tUp with cl := { tUp.cl with stepState := 1 }, cfg :=  [(objKey 0x2880 0, 2), (objKey 0x2881 1, 2), (objKey 0x2881 2, 2)] }, 1, 0, [1],
      by decide +kernel⟩⟩

set_option maxRecDepth 4000 in
/-- Each clause of FabricPatternCommands has a state and operands that meet its hypotheses. -/
theorem witness_fabric_pattern_commands :
    (∃ (s : State) (g : Nat) (k : Nat) (rest : List Nat), s.ef.state = 2 ∧
      s.ef.headRun = true ∧
      s.ef.tailRun = false ∧
      g ∈ s.ef.running ∧
      k ∈ s.ef.running ∧
      k ≠ g ∧
      rest = s.ef.running.filter (· != g) ∧
      (s.ctx g).born = true ∧
      (s.group g).age ≠ 0) ∧
    (∃ (s : State) (gs : List Nat) (g : Nat), s.ef.state = 2 ∧
      s.ef.headRun = true ∧
      s.ef.tailRun = false ∧
      s.ef.order = g :: gs) ∧
    (∃ (s : State), s.ef.state = 2 ∧
      s.ef.headRun = true ∧
      s.ef.tailRun = false) :=
  ⟨-- 1
    ⟨{ tUp with ef := { tUp.ef with ctx := [(1, { born := true })], running := [1, 0], state := 2, headRun := true, tailRun := false }, cfg :=  [(objKey 0x2880 0, 2), (objKey 0x2881 1, 2), (objKey 0x2881 2, 2)] }, 1, 0, [0],
      by decide +kernel⟩,
    -- 2
    ⟨{ tUp with ef := { tUp.ef with order := [0, 1, 2, 3], state := 2, headRun := true, tailRun := false }, cfg :=  [(objKey 0x2880 0, 2), (objKey 0x2881 1, 2), (objKey 0x2881 2, 2)] }, [1, 2, 3], 0,
      by decide +kernel⟩,
    -- 3
    ⟨{ tUp with ef := { tUp.ef with order := [1], running := [0], state := 2, headRun := true, tailRun := false }, cfg :=  [(objKey 0x2880 0, 2), (objKey 0x2881 1, 2), (objKey 0x2881 2, 2)] },
      by decide +kernel⟩⟩

set_option maxRecDepth 4000 in
/-- Each clause of FabricLearningCommands has a state and operands that meet its hypotheses. -/
theorem witness_fabric_learning_commands :
    (∃ (s : State) (g : Nat), s.ef.state = 2 ∧
      (s.ctx g).restTaken = false ∧
      (s.ctx g).restV ≠ [] ∧
      (s.ctx g).v1 = none ∧
      25 * s.restSeconds (s.ctx g).restTg ≤ (s.ctx g).restPat) ∧
    (∃ (s : State) (g : Nat) (a : Rat), s.ef.state = 2 ∧
      (s.ctx g).restTaken = false ∧
      (s.ctx g).restV ≠ [] ∧
      (s.ctx g).v1 = some a ∧
      (s.ctx g).v2 = none ∧
      125 * s.restSeconds (s.ctx g).restTg ≤ 2 * (s.ctx g).restPat) ∧
    (∃ (s : State) (g : Nat) (zr : Rat) (sr : Rat) (q : Rat) (z0 : Rat) (s0 : Rat) (q0 : Rat), s.ef.state = 2 ∧
      (s.ctx g).learned = none ∧
      (s.ctx g).learn = some (zr, sr, q) ∧
      (s.ctx g).ref = some (z0, s0, q0) ∧
      (s.ctx g).cap / 20 < ratAbs (sub64 (div64 (sub64 q q0) (sub64 zr z0)) (s.ctx g).cap)) ∧
    (∃ (s : State) (g : Nat) (zr : Rat) (sr : Rat) (q : Rat) (z0 : Rat) (s0 : Rat) (q0 : Rat), s.ef.state = 2 ∧
      (s.ctx g).learned = none ∧
      (s.ctx g).learn = some (zr, sr, q) ∧
      (s.ctx g).ref = some (z0, s0, q0) ∧
      ratAbs (sub64 (div64 (sub64 q q0) (sub64 zr z0)) (s.ctx g).cap) ≤ (s.ctx g).cap / 20) ∧
    (∃ (s : State) (r : Req) (x : Session) (v : Nat), Accepted s r 0x11 (writePayload r 0x2989 0 0 (leBytes 1 v)) 8 engineer x ∧
      v ≤ 1 ∧
      (v = 1 → s.provenOpen = true)) ∧
    (∃ (s : State) (v : Nat), v ≤ 1 ∧
      (v = 1 → s.provenOpen = true)) ∧
    (∃ (s : State) (r : Req) (x : Session), Accepted s r 0x11 (writePayload r 0x298F 0 0 [0x5C]) 8 engineer x ∧
      s.cfgGet 0x2989 0 = 1) ∧
    (∃ (s : State), s.cfgGet 0x2989 0 = 1) ∧
    (∃ (s : State), s.ef.impChanged = true) :=
  ⟨-- 1
    ⟨{ tUp with ef := { tUp.ef with ctx := [(1, { restV := [1], restPat := 1000000 })], state := 2 } }, 1,
      by decide +kernel⟩,
    -- 2
    ⟨{ tUp with ef := { tUp.ef with ctx := [(1, { restV := [1], restPat := 1000000, v1 := some 5 })], state := 2 } }, 1, 5,
      by decide +kernel⟩,
    -- 3
    ⟨{ tUp with ef := { tUp.ef with ctx := [(1, { learn := some (1, 0, 100), ref := some (0, 0, 0), cap := 1 })], state := 2 } }, 1, 1, 0, 100, 0, 0, 0,
      by decide +kernel⟩,
    -- 4
    ⟨{ tUp with ef := { tUp.ef with ctx := [(1, { learn := some (1, 0, 100), ref := some (0, 0, 0), cap := 100 })], state := 2 } }, 1, 1, 0, 100, 0, 0, 0,
      by decide +kernel⟩,
    -- 5
    ⟨tUp, tReq 0x11 (writePayload ({} : Req) 0x2989 0 0 (leBytes 1 1)), tSes, 1,
      tAcc (by decide) (by decide) (by decide) (by decide +kernel) (by decide), by decide +kernel⟩,
    -- 6
    ⟨tUp, 1,
      by decide +kernel⟩,
    -- 7
    ⟨{ tUp with cfg :=  [(objKey 0x2989 0, 1)] }, tReq 0x11 (writePayload ({} : Req) 0x298F 0 0 [0x5C]), tSes,
      tAcc (by decide) (by decide) (by decide) (by decide +kernel) (by decide), by decide +kernel⟩,
    -- 8
    ⟨{ tUp with cfg :=  [(objKey 0x2989 0, 1)] },
      by decide +kernel⟩,
    -- 10
    ⟨{ tUp with ef := { tUp.ef with impChanged := true } },
      by decide +kernel⟩⟩

set_option maxRecDepth 4000 in
/-- Each clause of ThermalCommands has a state and operands that meet its hypotheses. -/
theorem witness_thermal_commands :
    (∃ (s : State) (m : Nat), 1 ≤ s.cfgGet 0x2B81 4 ∧
      m ∈ s.sensorList ∧
      (s.sensor m).freeze = true ∧
      (s.sensor m).validPat < s.cfgGet 0x2B81 4 * 100) ∧
    (∃ (s : State) (m : Nat), 1 ≤ s.cfgGet 0x2B81 4 ∧
      m ∈ s.sensorList ∧
      (s.sensor m).freeze = true ∧
      (∀ n ∈ s.sensorList, (s.sensor n).freeze = true → s.cfgGet 0x2B81 4 * 100 ≤ (s.sensor n).validPat)) ∧
    (∃ (v : Int), v < 12500) ∧
    (∃ (s : State) (v : Int), 12500 ≤ v ∧
      2 ≤ s.tm.junctionRun ∧
      s.tm.junctionLatch = false ∧
      s.tm.cellLatch = false) ∧
    (∃ (s : State) (k : Nat), 1 ≤ (s.pwm k).offCount ∧
      (s.pwm k).offCount < 3) ∧
    (∃ (s : State) (r : Req) (x : Session) (v : Nat), Accepted s r 0x11 (writePayload r 0x2A80 1 0 (leBytes 1 v)) 8 operator x ∧
      v ≤ 1) :=
  ⟨-- 1
    ⟨{ tUp with cl := { tUp.cl with sensors := [(1, { freeze := true })] }, cfg :=  [(objKey 0x2880 0, 1), (objKey 0x2882 1, 3)] }, 1,
      by decide +kernel⟩,
    -- 2
    ⟨{ tUp with cl := { tUp.cl with sensors := [(1, { freeze := true, validPat := 6000 })] }, cfg :=  [(objKey 0x2880 0, 1), (objKey 0x2882 1, 3)] }, 1,
      by decide +kernel⟩,
    -- 4
    ⟨0,
      by decide +kernel⟩,
    -- 5
    ⟨{ tUp with tm := { tUp.tm with junctionRun := 2, junctionLatch := false, cellLatch := false } }, 12500,
      by decide +kernel⟩,
    -- 7
    ⟨{ tUp with tm := { tUp.tm with pwm := [(1, { offCount := 1 })] } }, 1,
      by decide +kernel⟩,
    -- 8
    ⟨tUp, tReq 0x11 (writePayload ({} : Req) 0x2A80 1 0 (leBytes 1 1)), tSes, 1,
      tAcc (by decide) (by decide) (by decide) (by decide +kernel) (by decide), by decide +kernel⟩⟩

set_option maxRecDepth 4000 in
/-- Each clause of LeaseCommands has a state and operands that meet its hypotheses. -/
theorem witness_lease_commands :
    (∃ (s : State) (r : Req) (x : Session) (v : Bytes) (l : Lease), Accepted s r 0x11 (writePayload r 0x2C84 0 0 v) 8 anyRole x ∧
      l = leaseOf v x.client s.tb.now ∧
      classPermitted x.role l.cls = true ∧
      leaseInRange v l = true ∧
      s.sequenceOk l = true ∧
      (l.ttl = 0 ∨ (s.de.leases.filter fun y => !y.same l).length < 16)) ∧
    (∃ (s : State) (x : Session) (v : Bytes) (l : Lease), l = leaseOf v x.client s.tb.now ∧
      classPermitted x.role l.cls = true ∧
      leaseInRange v l = true ∧
      s.sequenceOk l = true ∧
      1 ≤ l.ttl ∧
      ((s.de.leases.filter fun y => !y.same l).length < 16)) ∧
    (∃ (s : State) (x : Session) (v : Bytes) (l : Lease), l = leaseOf v x.client s.tb.now ∧
      classPermitted x.role l.cls = true ∧
      leaseInRange v l = true ∧
      s.sequenceOk l = true ∧
      l.ttl = 0) ∧
    (∃ (s : State) (i : Rat), s.de.connect = 3 ∧
      3 ≤ s.de.lowRows ∧
      s.rows.latched = some i ∧
      s.latchedAbs ≤ (s.cfgGet 0x2C81 3 : Rat) ∧
      tabWf {} s.os.coils = true) ∧
    (∃ (s : State) (i : Rat), s.de.connect = 4 ∧
      20000 ≤ s.de.waitRows ∧
      s.rows.latched = some i ∧
      (s.cfgGet 0x2C81 3 : Rat) < s.latchedAbs ∧
      s.latchedAbs ≤ (s.cfgGet 0x2C81 4 : Rat) ∧
      tabWf {} s.os.coils = true) ∧
    (∃ (s : State) (i : Rat), s.de.connect = 4 ∧
      20000 ≤ s.de.waitRows ∧
      s.rows.latched = some i ∧
      (s.cfgGet 0x2C81 3 : Rat) < s.latchedAbs ∧
      (s.cfgGet 0x2C81 4 : Rat) < s.latchedAbs ∧
      tabWf {} s.os.coils = true) ∧
    (∃ (s : State), s.de.restState = 2) ∧
    (∃ (s : State), s.de.restState = 3) ∧
    (∃ (s : State), s.de.restState = 4 ∧
      bit s.ef.flags 3 = false) ∧
    (∃ (s : State), s.de.restState = 4 ∧
      bit s.ef.flags 3 = true ∧
      s.restDecider = none) :=
  ⟨-- 1
    ⟨tUp, tReq 0x11 (writePayload ({} : Req) 0x2C84 0 0 (([3, 0, 1, 0] ++ List.replicate 14 0 ++ [1] ++ List.replicate 17 0))), tSes, ([3, 0, 1, 0] ++ List.replicate 14 0 ++ [1] ++ List.replicate 17 0), (leaseOf ([3, 0, 1, 0] ++ List.replicate 14 0 ++ [1] ++ List.replicate 17 0) tSes.client tUp.tb.now),
      tAcc (by decide) (by decide) (by decide) (by decide +kernel) (by decide), by decide +kernel⟩,
    -- 2
    ⟨tUp, tSes, ([3, 0, 1, 0] ++ List.replicate 14 0 ++ [1] ++ List.replicate 17 0), (leaseOf ([3, 0, 1, 0] ++ List.replicate 14 0 ++ [1] ++ List.replicate 17 0) tSes.client tUp.tb.now),
      by decide +kernel⟩,
    -- 3
    ⟨tUp, tSes, ([3, 0, 0, 0] ++ List.replicate 14 0 ++ [1] ++ List.replicate 17 0), (leaseOf ([3, 0, 0, 0] ++ List.replicate 14 0 ++ [1] ++ List.replicate 17 0) tSes.client tUp.tb.now),
      by decide +kernel⟩,
    -- 5
    ⟨{ tUp with de := { tUp.de with lowRows := 3, connect := 3 }, rows := { tUp.rows with latched := some 0 } }, 0,
      by decide +kernel⟩,
    -- 6
    ⟨{ tUp with de := { tUp.de with waitRows := 20000, connect := 4 }, rows := { tUp.rows with latched := some 50 }, cfg :=  [(objKey 0x2C81 3, 0), (objKey 0x2C81 4, 100)] }, 50,
      by decide +kernel⟩,
    -- 7
    ⟨{ tUp with de := { tUp.de with waitRows := 20000, connect := 4 }, rows := { tUp.rows with latched := some 200 }, cfg :=  [(objKey 0x2C81 3, 0), (objKey 0x2C81 4, 100)] }, 200,
      by decide +kernel⟩,
    -- 8
    ⟨{ tUp with de := { tUp.de with restState := 2 } },
      by decide +kernel⟩,
    -- 9
    ⟨{ tUp with de := { tUp.de with restState := 3 } },
      by decide +kernel⟩,
    -- 10
    ⟨{ tUp with de := { tUp.de with restState := 4 } },
      by decide +kernel⟩,
    -- 11
    ⟨{ tUp with ef := { tUp.ef with flags := 8 }, de := { tUp.de with restState := 4 } },
      by decide +kernel⟩⟩

set_option maxRecDepth 4000 in
/-- Each clause of EnvelopeCommands has a state and operands that meet its hypotheses. -/
theorem witness_envelope_commands :
    (∃ (s : State), bit (s.cfgGet 0x2C82 1) 0 = false ∧
      bit (s.cfgGet 0x2C82 1) 1 = true ∧
      s.cfgGet 0x2C82 4 ≠ 0) ∧
    (∃ (s : State) (ms : Nat), s.cfgGet 0x2C82 4 ≠ 0 ∧
      ms ≤ 100) :=
  ⟨-- 2
    ⟨{ tUp with cfg :=  [(objKey 0x2C82 1, 2), (objKey 0x2C82 4, 1)] },
      by decide +kernel⟩,
    -- 3
    ⟨{ tUp with cfg :=  [(objKey 0x2C82 4, 1)] }, 100,
      by decide +kernel⟩⟩

set_option maxRecDepth 4000 in
/-- Each clause of CanTransmitCommands has a state and operands that meet its hypotheses. -/
theorem witness_can_transmit_commands :
    (∃ (s : State) (b : Nat), s.hostCan2 = true ∧
      b < 64 ∧
      (s.cn.c2.txb b).open' = true) ∧
    (∃ (s : State) (b : Nat), s.hostCan2 = true ∧
      b < 64 ∧
      (s.cn.c2.txb b).open' = false) ∧
    (∃ (s : State) (b : Nat), s.hostCan2 = true ∧
      b < 64 ∧
      (s.cn.c2.txb b).state = 1 ∧
      (s.cn.c2.txb b).replace = none) ∧
    (∃ (s : State) (b : Nat), s.hostCan2 = true ∧
      b < 64 ∧
      (s.cn.c2.txb b).state = 2) ∧
    (∃ (s : State) (b : Nat), s.hostCan2 = true ∧
      b < 64 ∧
      (s.cn.c2.txb b).state ≠ 2) ∧
    (∃ (s : State) (b : Nat), s.hostCan2 = true ∧
      b < 64 ∧
      (s.cn.c2.txb b).state = 2) ∧
    (∃ (s : State) (n : Nat), s.hostCan2 = true ∧
      n < 64 ∧
      (s.cn.c2.txb n).words ≠ []) ∧
    (∃ (s : State) (k : Nat) (n : Nat), (k = 1 ∨ k = 2) ∧
      (s.ctl k).chain = [] ∧
      ((s.ctl k).mode = 1 ∨ (s.ctl k).mode = 3) ∧
      (s.ctl k).errState < 2 ∧
      (s.ctl k).active = none ∧
      (s.ctl k).winner = some n) ∧
    (∃ (s : State) (k : Nat) (n : Nat), (s.ctl k).active = some n ∧
      (s.ctl k).mode ≠ 3 ∧
      (s.ctl k).stopDue = false ∧
      ((s.ctl k).txb n).cancel = false ∧
      ((s.ctl k).txb n).replace = none) ∧
    (∃ (s : State) (k : Nat) (n : Nat), (s.ctl k).active = some n ∧
      (s.ctl k).stopDue = false ∧
      ((s.ctl k).txb n).cancel = false ∧
      ((s.ctl k).txb n).oneshot = false) ∧
    (∃ (s : State) (k : Nat) (n : Nat), (s.ctl k).active = some n ∧
      (s.ctl k).stopDue = false ∧
      ((s.ctl k).txb n).cancel = true ∧
      ((s.ctl k).txb n).replace = none) :=
  ⟨-- 1
    ⟨{ tUp with cfg :=  [(objKey 0x328B 0, 1)] }, 1,
      by decide +kernel⟩,
    -- 2
    ⟨{ tUp with cn := { tUp.cn with c2 := { tx := [(1, { state := 1 })] } }, cfg :=  [(objKey 0x328B 0, 1)] }, 1,
      by decide +kernel⟩,
    -- 3
    ⟨{ tUp with cn := { tUp.cn with c2 := { tx := [(1, { state := 1 })] } }, cfg :=  [(objKey 0x328B 0, 1)] }, 1,
      by decide +kernel⟩,
    -- 4
    ⟨{ tUp with cn := { tUp.cn with c2 := { tx := [(1, { state := 2 })] } }, cfg :=  [(objKey 0x328B 0, 1)] }, 1,
      by decide +kernel⟩,
    -- 5
    ⟨{ tUp with cn := { tUp.cn with c2 := { tx := [(1, { state := 1 })] } }, cfg :=  [(objKey 0x328B 0, 1)] }, 1,
      by decide +kernel⟩,
    -- 6
    ⟨{ tUp with cn := { tUp.cn with c2 := { tx := [(1, { state := 2 })] } }, cfg :=  [(objKey 0x328B 0, 1)] }, 1,
      by decide +kernel⟩,
    -- 7
    ⟨{ tUp with cn := { tUp.cn with c2 := { tx := [(1, { words := [(0, 1)] })] } }, cfg :=  [(objKey 0x328B 0, 1)] }, 1,
      by decide +kernel⟩,
    -- 8
    ⟨{ tUp with cn := { tUp.cn with c1 := { mode := 1, errState := 0, tx := [(1, { state := 1 })] } } }, 1, 1,
      by decide +kernel⟩,
    -- 9
    ⟨{ tUp with cn := { tUp.cn with c1 := { mode := 1, tx := [(1, { state := 2 })] } } }, 1, 1,
      by decide +kernel⟩,
    -- 10
    ⟨{ tUp with cn := { tUp.cn with c1 := { mode := 1, tx := [(1, { state := 2 })] } } }, 1, 1,
      by decide +kernel⟩,
    -- 11
    ⟨{ tUp with cn := { tUp.cn with c1 := { mode := 1, tx := [(1, { state := 2, cancel := true })] } } }, 1, 1,
      by decide +kernel⟩⟩

set_option maxRecDepth 4000 in
/-- Each clause of CanReceiveCommands has a state and operands that meet its hypotheses. -/
theorem witness_can_receive_commands :
    (∃ (s : State) (f : CanFrame) (e : Nat), s.coreUp = true ∧
      s.hostCan2 = true ∧
      s.hears 2 f.fmt = true ∧
      s.cn.c2.decide' (s.ringSize 2) f = some e ∧
      bit (s.cn.c2.entry e).1 2 = true ∧
      (s.cn.c2.entry e).1 / 256 % 128 = 0x7F ∧
      (s.cn.c2.rxb s.cn.c2.wr).nd = false) ∧
    (∃ (s : State) (f : CanFrame), s.coreUp = true ∧
      s.hears 2 f.fmt = true ∧
      s.cn.c2.decide' (s.ringSize 2) f = none) ∧
    (∃ (s : State) (b : Nat) (u : Nat), s.hostCan2 = true ∧
      (s.cn.c2.rxb (b % 128)).upd = u % 16) ∧
    (∃ (s : State) (b : Nat) (u : Nat), s.hostCan2 = true ∧
      (s.cn.c2.rxb (b % 128)).upd ≠ u % 16) ∧
    (∃ (s : State), s.hostCan2 = true) ∧
    (∃ (s : State), s.cfgGet 0x328F 1 ≠ 0xFFFFFFFF) ∧
    (∃ (s : State) (l : Lease), s.cn.fireState = 3 ∧
      s.fireLease 3 s.cn.fireCounter.toNat = some l ∧
      ((s.de.leases.filter fun y => !y.same l).length < 16)) :=
  ⟨-- 1
    ⟨{ tUp with cn := { tUp.cn with c2 := { mode := 1, errState := 0, filters := [(3, 0x7F17)] } }, cfg :=  [(objKey 0x328B 0, 1)] }, {}, 1,
      by decide +kernel⟩,
    -- 2
    ⟨{ tUp with cn := { tUp.cn with c2 := { mode := 1, errState := 0 } } }, {},
      by decide +kernel⟩,
    -- 3
    ⟨{ tUp with cfg :=  [(objKey 0x328B 0, 1)] }, 1, 0,
      by decide +kernel⟩,
    -- 4
    ⟨{ tUp with cfg :=  [(objKey 0x328B 0, 1)] }, 1, 1,
      by decide +kernel⟩,
    -- 5
    ⟨{ tUp with cfg :=  [(objKey 0x328B 0, 1)] },
      by decide +kernel⟩,
    -- 7
    ⟨{ tUp with cfg :=  [(objKey 0x328F 1, 1)] },
      by decide +kernel⟩,
    -- 8
    ⟨{ tUp with cn := { tUp.cn with fireState := 3 } }, ((tUp.fireLease 3 0).get (by decide +kernel)),
      by decide +kernel⟩⟩

set_option maxRecDepth 4000 in
/-- Each clause of CanErrorCommands has a state and operands that meet its hypotheses. -/
theorem witness_can_error_commands :
    (∃ (s : State) (k : Nat), (k = 1 ∨ k = 2) ∧
      (s.ctl k).mode ≠ 0 ∧
      (s.ctl k).errState < 2 ∧
      (s.ctl k).tec ≤ 255 ∧
      (s.ctl k).stopDue = false) ∧
    (∃ (s : State) (k : Nat) (add : Nat), (k = 1 ∨ k = 2) ∧
      (s.ctl k).mode ≠ 0 ∧
      (s.ctl k).errState < 2 ∧
      (s.ctl k).active = none ∧
      255 < (s.ctl k).tec + add ∧
      (s.ctl k).stopDue = false ∧
      bit (s.cfgGet 0x3288 k) 1 = false) ∧
    (∃ (s : State) (k : Nat), (s.ctl k).recovering = true ∧
      (s.ctl k).mode ≠ 0) ∧
    (∃ (s : State) (r : Req) (x : Session) (k : Nat), (k = 1 ∨ k = 2) ∧
      Accepted s r 0x11 (writePayload r 0x328A k 0 (leBytes 1 1)) 8 operator x ∧
      255 < (s.ctl k).tec ∧
      (s.ctl k).mode ≠ 0) ∧
    (∃ (s : State) (k : Nat), (k = 1 ∨ k = 2) ∧
      255 < (s.ctl k).tec ∧
      (s.ctl k).mode ≠ 0) ∧
    (∃ (s : State) (r : Req) (x : Session) (k : Nat) (v : Nat), (k = 1 ∨ k = 2) ∧
      v ≤ 3 ∧
      Accepted s r 0x11 (writePayload r 0x3280 k 0 (leBytes 1 v)) 8 operator x) ∧
    (∃ (s : State) (k : Nat) (v : Nat), (k = 1 ∨ k = 2) ∧
      v ≤ 3 ∧
      (v ≠ 0 ∨ (s.ctl k).active = none)) :=
  ⟨-- 1
    ⟨{ tUp with cn := { tUp.cn with c1 := { mode := 1, errState := 0 } } }, 1,
      by decide +kernel⟩,
    -- 2
    ⟨{ tUp with cn := { tUp.cn with c1 := { mode := 1, errState := 0, tec := 255 } } }, 1, 1,
      by decide +kernel⟩,
    -- 3
    ⟨{ tUp with cn := { tUp.cn with c1 := { mode := 1, recovering := true } } }, 1,
      by decide +kernel⟩,
    -- 4
    ⟨{ tUp with cn := { tUp.cn with c1 := { mode := 1, tec := 256 } } }, tReq 0x11 (writePayload ({} : Req) 0x328A 1 0 (leBytes 1 1)), tSes, 1,
      by decide +kernel, tAcc (by decide) (by decide) (by decide) (by decide +kernel) (by decide), by decide +kernel⟩,
    -- 5
    ⟨{ tUp with cn := { tUp.cn with c1 := { mode := 1, tec := 256 } } }, 1,
      by decide +kernel⟩,
    -- 6
    ⟨tUp, tReq 0x11 (writePayload ({} : Req) 0x3280 1 0 (leBytes 1 1)), tSes, 1, 1,
      by decide +kernel, by decide +kernel, tAcc (by decide) (by decide) (by decide) (by decide +kernel) (by decide)⟩,
    -- 7
    ⟨tUp, 1, 1,
      by decide +kernel⟩⟩

set_option maxRecDepth 4000 in
/-- Each clause of PtpReceiveCommands has a state and operands that meet its hypotheses. -/
theorem witness_ptp_receive_commands :
    (∃ (s : State) (m : PtpMsg), s.ptpOn = true ∧
      s.ptpTakes m = true ∧
      s.fromParent m = true ∧
      m.twoStep = true) ∧
    (∃ (s : State) (m : PtpMsg) (q : Nat) (t2 : Int) (c : Int) (e : Int), s.ptpOn = true ∧
      s.ptpTakes m = true ∧
      s.fromParent m = true ∧
      s.tb.syncRx = some (q, t2, c) ∧
      q = m.seq ∧
      e = t2 - (m.time + (c + m.correction) / 65536) - s.delayNow m.port ∧
      s.tb.firstDone = true ∧
      e.natAbs < s.cfgGet 0x3082 1) ∧
    (∃ (s : State) (m : PtpMsg), s.ptpOn = true ∧
      s.ptpTakes m = true ∧
      m.steps < 255) ∧
    (∃ (s : State) (m : PtpMsg), s.ptpOn = true ∧
      s.ptpTakes m = true ∧
      s.tb.portState = 6 ∧
      s.peerDelay = false) ∧
    (∃ (s : State) (m : PtpMsg) (q : Nat) (t1 : Int) (t2 : Int) (t3 : Int) (d : Int), s.ptpOn = true ∧
      s.ptpTakes m = true ∧
      s.fromParent m = true ∧
      s.peerDelay = false ∧
      s.tb.dreqTx = some (q, t3) ∧
      s.tb.syncT = some (t1, t2) ∧
      q = m.seq ∧
      m.target = s.clockId ∧
      m.targetPort = 1 ∧
      d = ((t2 - t1) + (m.time - t3) - m.correction / 65536) / 2 ∧
      0 ≤ d ∧
      d < 4294967295) ∧
    (∃ (s : State) (m : PtpMsg), s.ptpOn = true ∧
      s.ptpTakes m = true ∧
      s.peerDelay = true ∧
      (if m.port = 1 then s.tb.tx1 else s.tb.tx2).length < 16) ∧
    (∃ (s : State) (m : PtpMsg) (bin : Nat) (q : Nat) (t1 : Int) (d : Int), s.ptpOn = true ∧
      s.ptpTakes m = true ∧
      s.peerDelay = true ∧
      m.port = 1 ∧
      s.tb.preq1 = some (q, t1) ∧
      q = m.seq ∧
      m.target = s.clockId ∧
      d = ((s.ingress 1 bin - t1) - (m.time2 - m.time) - m.correction / 65536) / 2 ∧
      0 ≤ d ∧
      d < 4294967295) :=
  ⟨-- 1
    ⟨{ tUp with tb := { tUp.tb with master := some {}, parent := 1, parentPort := 1, activePort := 1 } }, {},
      by decide +kernel⟩,
    -- 2
    ⟨{ tUp with tb := { tUp.tb with master := some {}, parent := 1, parentPort := 1, activePort := 1, syncRx := some (0, 0, 0), firstDone := true } }, {}, 0, 0, 0, 0,
      by decide +kernel⟩,
    -- 3
    ⟨tUp, {},
      by decide +kernel⟩,
    -- 4
    ⟨{ tUp with tb := { tUp.tb with portState := 6 } }, {},
      by decide +kernel⟩,
    -- 5
    ⟨{ tUp with tb := { tUp.tb with master := some {}, parent := 1, parentPort := 1, activePort := 1, dreqTx := some (0, 0), syncT := some (0, 0) } }, { target := tUp.clockId, targetPort := 1 }, 0, 0, 0, 0, 0,
      by decide +kernel⟩,
    -- 6
    ⟨{ tUp with cfg :=  [(objKey 0x3080 2, 1)] }, {},
      by decide +kernel⟩,
    -- 7
    ⟨{ tUp with tb := { tUp.tb with preq1 := some (0, 0) }, cfg :=  [(objKey 0x3080 2, 1)] }, { target := tUp.clockId }, 1, 0, 0, ((tUp.ingress 1 1 - 0) / 2),
      by decide +kernel⟩⟩

set_option maxRecDepth 4000 in
/-- Each clause of PtpSendCommands has a state and operands that meet its hypotheses. -/
theorem witness_ptp_send_commands :
    (∃ (s : State) (m : PtpMsg), s.coreUp = true ∧
      m.port = 1 ∧
      m.kind = 0 ∧
      m.twoStep = true ∧
      s.peerDelay = false) ∧
    (∃ (s : State) (m : PtpMsg), s.coreUp = true ∧
      m.port = 1 ∧
      m.kind = 8) ∧
    (∃ (s : State) (p : Master), s.ptpOn = true ∧
      s.tb.master = some p ∧
      s.cfgGet 0x3080 5 ≠ 1 ∧
      (∀ f ∈ s.tb.foreign, f.m.source = p.source ∧ f.m.sourcePort = p.sourcePort ∧ f.m.port = p.port)) ∧
    (∃ (s : State), s.ptpOn = true ∧
      s.tb.master = none ∧
      s.cfgGet 0x3080 5 = 1) ∧
    (∃ (s : State) (p : Master), s.ptpOn = true ∧
      s.tb.master = some p ∧
      s.cfgGet 0x3080 5 ≠ 1 ∧
      (∀ f ∈ s.tb.foreign, f.m.source = p.source ∧ f.m.sourcePort = p.sourcePort ∧ f.m.port = p.port)) ∧
    (∃ (s : State) (sent : Nat → Nat → Int → Out), s.ptpOn = true ∧
      s.tb.portState = 6 ∧
      s.tb.tx1.length < 16 ∧
      s.tb.tx2.length < 16 ∧
      (sent = (fun port kind time => .ptp port { kind, seq := s.tb.syncSeq, time, port, source := s.clockId, sourcePort := 1, domain := s.cfgGet 0x3080 4, udp := s.cfgGet 0x3080 3 == 1 }))) ∧
    (∃ (s : State), s.ptpOn = true ∧
      s.tb.portState = 6) ∧
    (∃ (s : State) (port : Nat), (port = 1 ∨ port = 2) ∧
      s.ptpOn = true ∧
      s.peerDelay = false ∧
      s.tb.master.isSome = true ∧
      s.tb.activePort = port ∧
      (if port = 1 then s.tb.tx1 else s.tb.tx2).length < 16) :=
  ⟨-- 1
    ⟨tUp, {},
      by decide +kernel⟩,
    -- 2
    ⟨tUp, { kind := 8 },
      by decide +kernel⟩,
    -- 3
    ⟨{ tUp with tb := { tUp.tb with master := some ({}) } }, {},
      by decide +kernel⟩,
    -- 4
    ⟨{ tUp with tb := { tUp.tb with master := none }, cfg :=  [(objKey 0x3080 5, 1)] },
      by decide +kernel⟩,
    -- 5
    ⟨{ tUp with tb := { tUp.tb with master := some ({}) } }, {},
      by decide +kernel⟩,
    -- 6
    ⟨{ tUp with tb := { tUp.tb with portState := 6 } }, (fun port kind time => .ptp port { kind, seq := tUp.tb.syncSeq, time, port, source := tUp.clockId, sourcePort := 1, domain := tUp.cfgGet 0x3080 4, udp := tUp.cfgGet 0x3080 3 == 1 }),
      by decide +kernel, by decide +kernel, by decide +kernel, by decide +kernel, rfl⟩,
    -- 7
    ⟨{ tUp with tb := { tUp.tb with portState := 6 } },
      by decide +kernel⟩,
    -- 8
    ⟨{ tUp with tb := { tUp.tb with master := some {}, activePort := 1 } }, 1,
      by decide +kernel⟩⟩

set_option maxRecDepth 4000 in
/-- Each clause of TimeStepCommands has a state and operands that meet its hypotheses. -/
theorem witness_time_step_commands :
    (∃ (s : State) (r : Req) (x : Session), Accepted s r 0x11 (writePayload r 0x3083 0 0 (leBytes 1 1)) 8 operator x ∧
      (s.followsSteps = true ∨ s.tb.state = .stepPending)) ∧
    (∃ (s : State) (n : Nat), s.tb.state = .stepPending ∧
      s.ty.state ≠ .member ∧
      (0 < s.tb.pendingOff → s.tb.now.epoch ≠ 65535) ∧
      (s.ns : Int) - s.tb.pendingOff = n ∧
      n < 2 ^ 48 * 1000000000) ∧
    (∃ (s : State), s.tb.state = .stepPending ∧
      s.ty.state = .member ∧
      s.os.gate = true ∧
      (0 < s.tb.pendingOff → s.tb.now.epoch ≠ 65535)) ∧
    (∃ (s : State) (d : Int), s.tb.stepAgreed = some d) ∧
    (∃ (s : State) (r : Req) (x : Session) (o : Int), Accepted s r 0x11 (writePayload r 0x3087 0 0 (leInt 8 o)) 8 operator x ∧
      -(2 ^ 63) ≤ o ∧
      o < 2 ^ 63) ∧
    (∃ (s : State) (o : Int), -(2 ^ 63) ≤ o ∧
      o < 2 ^ 63 ∧
      s.tb.state ≠ .free ∧
      o.natAbs < s.cfgGet 0x3082 1) ∧
    (∃ (s : State) (o : Int), -(2 ^ 63) ≤ o ∧
      o < 2 ^ 63 ∧
      s.tb.state ≠ .free ∧
      s.cfgGet 0x3082 1 ≤ o.natAbs ∧
      s.cfgGet 0x3082 2 ≠ 1) ∧
    (∃ (s : State) (r : Req) (x : Session) (v : Nat), Accepted s r 0x11 (writePayload r 0x3086 0 0 (leBytes 8 v)) 8 operator x ∧
      (s.cfgGet 0x3084 0 = 1 ∨ s.cfgGet 0x3084 0 = 2) ∧
      incrementOk (v % 2 ^ 64) = true) ∧
    (∃ (s : State) (v : Nat), (s.cfgGet 0x3084 0 = 1 ∨ s.cfgGet 0x3084 0 = 2) ∧
      incrementOk (v % 2 ^ 64) = true) ∧
    (∃ (s : State) (w : Nat) (v : Nat), s.coreUp = true ∧
      (s.cfgGet 0x3084 0 = 1 ∨ s.cfgGet 0x3084 0 = 2) ∧
      v = w % 2 ^ 32 * 2 ^ 32 + s.tb.incLo ∧
      incrementOk v = true) ∧
    (∃ (s : State), s.coreUp = true ∧
      s.cfgGet 0x3084 0 = 0) :=
  ⟨-- 1
    ⟨{ tUp with tb := { tUp.tb with state := .stepPending } }, tReq 0x11 (writePayload ({} : Req) 0x3083 0 0 (leBytes 1 1)), tSes,
      tAcc (by decide) (by decide) (by decide) (by decide +kernel) (by decide), by decide +kernel⟩,
    -- 2
    ⟨{ tUp with tb := { tUp.tb with state := .stepPending } }, 2000,
      by decide +kernel⟩,
    -- 3
    ⟨{ tUp with tb := { tUp.tb with state := .stepPending }, ty := { tUp.ty with state := .member }, os := { tUp.os with gate := true } },
      by decide +kernel⟩,
    -- 4
    ⟨{ tUp with tb := { tUp.tb with stepAgreed := some 5 } }, 5,
      by decide +kernel⟩,
    -- 5
    ⟨tUp, tReq 0x11 (writePayload ({} : Req) 0x3087 0 0 (leInt 8 0)), tSes, 0,
      tAcc (by decide) (by decide) (by decide) (by decide +kernel) (by decide), by decide +kernel⟩,
    -- 6
    ⟨{ tUp with tb := { tUp.tb with state := .stepPending } }, 0,
      by decide +kernel⟩,
    -- 7
    ⟨{ tUp with tb := { tUp.tb with state := .stepPending } }, 1000000,
      by decide +kernel⟩,
    -- 8
    ⟨{ tUp with cfg :=  [(objKey 0x3084 0, 1)] }, tReq 0x11 (writePayload ({} : Req) 0x3086 0 0 (leBytes 8 0x500000000)), tSes, 0x500000000,
      tAcc (by decide) (by decide) (by decide) (by decide +kernel) (by decide), by decide +kernel⟩,
    -- 9
    ⟨{ tUp with cfg :=  [(objKey 0x3084 0, 1)] }, 0x500000000,
      by decide +kernel⟩,
    -- 10
    ⟨{ tUp with cfg :=  [(objKey 0x3084 0, 1)] }, 5, 0x500000000,
      by decide +kernel⟩,
    -- 11
    ⟨tUp,
      by decide +kernel⟩⟩

set_option maxRecDepth 4000 in
/-- Each clause of TimeWindowCommands has a state and operands that meet its hypotheses. -/
theorem witness_time_window_commands :
    (∃ (s : State), s.coreUp = true) ∧
    (∃ (s : State) (n : Nat), s.coreUp = true ∧
      s.tb.shNs = some n) ∧
    (∃ (s : State), s.coreUp = true ∧
      s.tb.shLo = none) ∧
    (∃ (s : State) (n : Nat), s.coreUp = true ∧
      s.tb.shHi = some n) ∧
    (∃ (s : State) (q : TxStamp) (rest : List TxStamp), s.coreUp = true ∧
      s.cfgGet 0x3084 0 = 2 ∧
      s.tb.tx1 = q :: rest) ∧
    (∃ (s : State), s.coreUp = true ∧
      s.cfgGet 0x3084 0 = 2 ∧
      s.tb.tx2 = []) ∧
    (∃ (s : State) (w : Nat), s.coreUp = true ∧
      s.cfgGet 0x3084 0 = 2 ∧
      bit w 8 = true) :=
  ⟨-- 1
    ⟨tUp,
      by decide +kernel⟩,
    -- 2
    ⟨{ tUp with tb := { tUp.tb with shNs := some 1 } }, 1,
      by decide +kernel⟩,
    -- 3
    ⟨{ tUp with tb := { tUp.tb with shLo := none } },
      by decide +kernel⟩,
    -- 4
    ⟨{ tUp with tb := { tUp.tb with shHi := some 1 } }, 1,
      by decide +kernel⟩,
    -- 5
    ⟨{ tUp with tb := { tUp.tb with tx1 := ({}) :: ({}) }, cfg :=  [(objKey 0x3084 0, 2)] }, {}, {},
      by decide +kernel⟩,
    -- 6
    ⟨{ tUp with tb := { tUp.tb with tx2 := [] }, cfg :=  [(objKey 0x3084 0, 2)] },
      by decide +kernel⟩,
    -- 7
    ⟨{ tUp with cfg :=  [(objKey 0x3084 0, 2)] }, 256,
      by decide +kernel⟩⟩

set_option maxRecDepth 4000 in
/-- Each clause of MailboxCommands has a state and operands that meet its hypotheses. -/
theorem witness_mailbox_commands :
    (∃ (s : State) (n : Nat), s.coreUp = true ∧
      n < 16 ∧
      (tabGet ({} : Slot) n s.sy.slots).module = false ∧
      (tabGet ({} : Slot) n s.sy.slots).bytes.getD 0 0 = 0 ∧
      s.sy.heldEvents = []) ∧
    (∃ (s : State) (n : Nat) (b : Bytes), s.coreUp = true ∧
      n < 16 ∧
      (tabGet ({} : Slot) n s.sy.slots).module = false ∧
      (tabGet ({} : Slot) n s.sy.slots).bytes.getD 0 0 ≠ 0 ∧
      b = padBytes 2048 (tabGet ({} : Slot) n s.sy.slots).bytes ∧
      leNat ((b.drop 4).take 2) ≤ 2016 ∧
      b.getD 2 0 ∈ requestOpcodes) ∧
    (∃ (s : State) (n : Nat), s.coreUp = true ∧
      n < 16 ∧
      (tabGet ({} : Slot) n s.sy.slots).module = true) ∧
    (∃ (s : State), s.coreUp = true) ∧
    (∃ (s : State), s.coreUp = true) ∧
    (∃ (s : State), s.coreUp = true) ∧
    (∃ (s : State) (n : Nat) (k : Nat), s.coreUp = true ∧
      n < 16 ∧
      k < 512 ∧
      (tabGet ({} : Slot) n s.sy.slots).module = false) :=
  ⟨-- 1
    ⟨{ tUp with sy := { tUp.sy with heldEvents := [] } }, 1,
      by decide +kernel⟩,
    -- 2
    ⟨{ tUp with sy := { tUp.sy with slots := [(1, { bytes := [0x10, 0, 5] })] } }, 1, (padBytes 2048 [0x10, 0, 5]),
      by decide +kernel⟩,
    -- 3
    ⟨{ tUp with sy := { tUp.sy with slots := [(1, { module := true })] } }, 1,
      by decide +kernel⟩,
    -- 4
    ⟨tUp,
      by decide +kernel⟩,
    -- 5
    ⟨tUp,
      by decide +kernel⟩,
    -- 6
    ⟨tUp,
      by decide +kernel⟩,
    -- 7
    ⟨tUp, 1, 1,
      by decide +kernel⟩⟩

set_option maxRecDepth 4000 in
/-- Each clause of CheckEngineCommands has a state and operands that meet its hypotheses. -/
theorem witness_check_engine_commands :
    (∃ (s : State) (k : Nat) (e : Engine), s.hostEngine k = true ∧
      e = tabGet {} k s.ck ∧
      3 ≤ e.width ∧
      e.width ≤ 64) ∧
    (∃ (s : State) (k : Nat) (e : Engine), s.hostEngine k = true ∧
      e = tabGet {} k s.ck ∧
      3 ≤ e.width ∧
      e.width ≤ 64) ∧
    (∃ (s : State) (k : Nat) (w : Nat) (e : Engine), s.hostEngine k = true ∧
      e = { tabGet ({} : Engine) k s.ck with ctrl := w % 128 + 256 * (w / 256 % 4) }) ∧
    (∃ (s : State) (k : Nat) (off : Nat) (e : Engine), s.hostEngine k = true ∧
      e = tabGet {} k s.ck ∧
      off ∈ [0x0C, 0x14, 0x1C, 0x24]) ∧
    (∃ (s : State) (k : Nat) (e : Engine), s.hostEngine k = true ∧
      e = tabGet {} k s.ck) ∧
    (∃ (s : State) (k : Nat) (e : Engine), s.hostEngine k = true ∧
      e = tabGet {} k s.ck) ∧
    (∃ (s : State) (k : Nat) (v : Nat) (e : Engine), s.hostEngine k = true ∧
      e = tabGet {} k s.ck ∧
      e.shRun = some v) ∧
    (∃ (s : State) (k : Nat) (e : Engine), s.hostEngine k = true ∧
      e = tabGet {} k s.ck ∧
      e.shRes = none) ∧
    (∃ (s : State) (k : Nat) (w : Nat) (e : Engine) (wide : Nat) (c : Nat), s.hostEngine k = true ∧
      e = tabGet {} k s.ck ∧
      wide = (if bit e.aliveCfg 0 then 8 else 4) ∧
      c = w / 2 ^ (e.aliveCfg / 256 % 32) % 2 ^ wide) ∧
    (∃ (s : State) (k : Nat) (e : Engine), s.hostEngine k = true ∧
      e = tabGet {} k s.ck) ∧
    (∃ (s : State) (r : Req) (x : Session) (k : Nat), (k = 6 ∨ k = 7) ∧
      Accepted s r 0x11 (writePayload r 0x3380 (k - 5) 0 [1]) 8 operator x ∧
      x.source = .spi ∧
      (tabGet ({} : Engine) k s.ck).owner ≠ 1) ∧
    (∃ (s : State) (x : Session) (k : Nat), (k = 6 ∨ k = 7) ∧
      x.source = .spi ∧
      (tabGet ({} : Engine) k s.ck).owner ≠ 1) ∧
    (∃ (s : State) (r : Req) (x : Session) (k : Nat), (k = 6 ∨ k = 7) ∧
      Accepted s r 0x11 (writePayload r 0x3380 (k - 5) 0 [0]) 8 operator x ∧
      x.source = .spi) ∧
    (∃ (x : Session) (k : Nat), (k = 6 ∨ k = 7) ∧
      x.source = .spi) :=
  ⟨-- 1
    ⟨{ tUp with ck :=  [(6, { owner := 1, ctrl := 32 })] }, 6, { owner := 1, ctrl := 32 },
      by decide +kernel⟩,
    -- 2
    ⟨{ tUp with ck :=  [(6, { owner := 1, ctrl := 32 })] }, 6, { owner := 1, ctrl := 32 },
      by decide +kernel⟩,
    -- 3
    ⟨{ tUp with ck :=  [(6, { owner := 1, ctrl := 32 })] }, 6, 1, { owner := 1, ctrl := 1 },
      by decide +kernel⟩,
    -- 4
    ⟨{ tUp with ck :=  [(6, { owner := 1, ctrl := 32 })] }, 6, 0x0C, { owner := 1, ctrl := 32 },
      by decide +kernel⟩,
    -- 5
    ⟨{ tUp with ck :=  [(6, { owner := 1, ctrl := 32 })] }, 6, { owner := 1, ctrl := 32 },
      by decide +kernel⟩,
    -- 6
    ⟨{ tUp with ck :=  [(6, { owner := 1, ctrl := 32 })] }, 6, { owner := 1, ctrl := 32 },
      by decide +kernel⟩,
    -- 7
    ⟨{ tUp with ck :=  [(6, { owner := 1, ctrl := 32, shRun := some 1 })] }, 6, 1, { owner := 1, ctrl := 32, shRun := some 1 },
      by decide +kernel⟩,
    -- 8
    ⟨{ tUp with ck :=  [(6, { owner := 1, ctrl := 32 })] }, 6, { owner := 1, ctrl := 32 },
      by decide +kernel⟩,
    -- 9
    ⟨{ tUp with ck :=  [(6, { owner := 1, ctrl := 32 })] }, 6, 1, { owner := 1, ctrl := 32 }, 4, 1,
      by decide +kernel⟩,
    -- 10
    ⟨{ tUp with ck :=  [(6, { owner := 1, ctrl := 32 })] }, 6, { owner := 1, ctrl := 32 },
      by decide +kernel⟩,
    -- 11
    ⟨tUp, tReq 0x11 (writePayload ({} : Req) 0x3380 (6 - 5) 0 [1]), tSes, 6,
      by decide +kernel, tAcc (by decide) (by decide) (by decide) (by decide +kernel) (by decide), by decide +kernel⟩,
    -- 12
    ⟨tUp, tSes, 6,
      by decide +kernel⟩,
    -- 13
    ⟨tUp, tReq 0x11 (writePayload ({} : Req) 0x3380 (6 - 5) 0 [0]), tSes, 6,
      by decide +kernel, tAcc (by decide) (by decide) (by decide) (by decide +kernel) (by decide), by decide +kernel⟩,
    -- 14
    ⟨tSes, 6,
      by decide +kernel⟩⟩

set_option maxRecDepth 4000 in
/-- Each clause of SessionOpenCommands has a state and operands that meet its hypotheses. -/
theorem witness_session_open_commands :
    (∃ (s : State) (r : Req), Plain s r [] 0) ∧
    (∃ (s : State) (r : Req) (role : Nat) (options : Nat) (client : Nat) (version : Nat) (nc : Bytes), Plain s r ([role % 256, options % 256] ++ leBytes 2 client ++ [version % 256, r.reserved, 0, 0] ++ nc) 24 ∧
      nc.length = 16 ∧
      s.decides = true ∧
      client ≠ 0 ∧
      client ≠ 0xFFFF ∧
      0x10 ≤ version ∧
      s.blocked (sourceKey r.source) = false ∧
      1 ≤ role ∧
      role ≤ 6 ∧
      (s.keySlot role).key ≠ [] ∧
      s.contextFree role client = true ∧
      (s.ty.state = .member → r.longOk = true)) ∧
    (∃ (s : State) (r : Req) (nc : Bytes) (proof : Bytes) (o : PendingOpen) (num : Nat), Plain s r (nc ++ proof) 48 ∧
      nc.length = 16 ∧
      s.decides = true ∧
      s.blocked (sourceKey r.source) = false ∧
      ((s.sy.opens.find? fun o => o.nc == nc && o.source == sourceKey r.source) = some o) ∧
      proof = proofC (s.keySlot o.role).key o ∧
      s.contextFree o.role o.client = true ∧
      (s.ty.state = .member → r.longOk = true) ∧
      (∀ x ∈ s.sy.sessions, x.client ≠ o.client) ∧
      s.freeSession = some num) ∧
    (∃ (s : State) (r : Req) (nc : Bytes) (proof : Bytes) (o : PendingOpen), Plain s r (nc ++ proof) 48 ∧
      nc.length = 16 ∧
      s.decides = true ∧
      s.blocked (sourceKey r.source) = false ∧
      ((s.sy.opens.find? fun o => o.nc == nc && o.source == sourceKey r.source) = some o) ∧
      proof ≠ proofC (s.keySlot o.role).key o) :=
  ⟨-- 1
    ⟨tUp, {},
      tPl (by decide) (by decide +kernel)⟩,
    -- 2
    ⟨{ tUp with sy := { tUp.sy with keys := [(1, { key := [1] })] } }, {}, 1, 1, 1, 16, (List.replicate 16 0),
      tPl (by decide) (by decide +kernel), by decide +kernel⟩,
    -- 3
    ⟨{ tUp with sy := { tUp.sy with keys := [(1, { key := [1] })], opens := [{ nc := List.replicate 16 0, role := 1, client := 1 }] } }, {}, (List.replicate 16 0), (proofC [1] { nc := List.replicate 16 0, role := 1, client := 1 }), { nc := List.replicate 16 0, role := 1, client := 1 }, 2,
      tPl (by decide) (by decide +kernel), by decide +kernel⟩,
    -- 4
    ⟨{ tUp with sy := { tUp.sy with keys := [(1, { key := [1] })], opens := [{ nc := List.replicate 16 0, role := 1, client := 1 }] } }, {}, (List.replicate 16 0), (List.replicate 32 0), { nc := List.replicate 16 0, role := 1, client := 1 },
      tPl (by decide) (by decide +kernel), by decide +kernel⟩⟩

set_option maxRecDepth 4000 in
/-- Each clause of SessionCommands has a state and operands that meet its hypotheses. -/
theorem witness_session_commands :
    (∃ (s : State) (r : Req) (x : Session), Accepted s r 0x05 [] 0 anyRole x) ∧
    (∃ (s : State) (r : Req) (x : Session), Accepted s r 0x04 [] 0 anyRole x ∧
      (∀ k ∈ [6, 7], (tabGet ({} : Engine) k s.ck).owner ≠ 1 ∨ (tabGet ({} : Engine) k s.ck).claimant ≠ r.session) ∧
      s.ld.loadSession ≠ r.session) ∧
    (∃ (s : State) (num : Nat) (x : Session), s.session num = some x ∧
      s.ld.loadSession ≠ num) ∧
    (∃ (s : State) (r : Req) (x : Session) (index : Nat) (sub : Nat) (offset : Nat) (length : Nat), Accepted s r 0x10 (leBytes 2 index ++ [sub, r.reserved] ++ leBytes 4 offset ++ leBytes 2 length) 10 anyRole x) ∧
    (∃ (s : State) (index : Nat) (sub : Nat) (offset : Nat) (length : Nat) (b : Bytes), s.readObj index sub = some b ∧
      length ≤ 2012 ∧
      offset + length ≤ b.length) ∧
    (∃ (s : State) (r : Req) (x : Session) (items : List (Nat × Nat)), (Accepted s r 0x12 ([items.length, r.reserved] ++ items.flatMap fun i => leBytes 2 i.1 ++ [i.2, 0]) (2 + 4 * items.length) anyRole x) ∧
      1 ≤ items.length ∧
      items.length ≤ 64) ∧
    (∃ (s : State) (items : List (Nat × Nat)), 1 ≤ items.length ∧
      items.length ≤ 64 ∧
      (items.flatMap s.listItem).length ≤ 2016) ∧
    (∃ (s : State) (r : Req) (x : Session) (first : Nat) (count : Nat), Accepted s r 0x20 (leBytes 4 first ++ leBytes 2 count) 6 anyRole x) ∧
    (∃ (s : State) (r : Req) (x : Session) (ts : Stamp), Accepted s r 0x40 (stampBytes ts) 12 announcer x ∧
      bit (s.cfgGet 0x2885 2) 1 = true ∧
      (s.requestStep ts).2 = true) ∧
    (∃ (s : State) (r : Req) (x : Session) (port : Nat) (frame : Bytes), (port = 1 ∨ port = 2) ∧
      Accepted s r 0x50 ([port % 256, r.reserved, 0, 0] ++ frame) 18 operator x ∧
      frame.length ≤ 1518 ∧
      x.source = .spi ∧
      s.cfgGet 0x3084 0 = 2 ∧
      (s.sy.rawSession = 0 ∨ s.sy.rawSession = x.num) ∧
      ptpStart frame = none) ∧
    (∃ (s : State) (r : Req) (x : Session) (slot : Nat) (salt : Bytes) (wrapped : Bytes), Accepted s r 0x70 ([slot % 256, r.reserved, 0, 0] ++ salt ++ wrapped) 52 commissioning x ∧
      1 ≤ slot ∧
      slot ≤ 7 ∧
      slot ≠ 6 ∧
      salt.length = 16 ∧
      wrapped.length = 32 ∧
      (s.ty.state = .member → r.longOk = true)) ∧
    (∃ (s : State) (r : Req) (x : Session) (salt : Bytes) (wrapped : Bytes), Accepted s r 0x70 ([6, r.reserved, 0, 0] ++ salt ++ wrapped) 52 commissioning x ∧
      salt.length = 16 ∧
      wrapped.length = 32 ∧
      (s.ty.state = .member → r.longOk = true) ∧
      s.ld.loadSession ≠ r.session) :=
  ⟨-- 1
    ⟨tUp, tReq 0x05 [], tSes,
      tAcc (by decide) (by decide) (by decide) (by decide +kernel) (by decide)⟩,
    -- 2
    ⟨tUp, tReq 0x04 [], tSes,
      tAcc (by decide) (by decide) (by decide) (by decide +kernel) (by decide), by decide +kernel⟩,
    -- 3
    ⟨tUp, 1, tSes,
      by decide +kernel⟩,
    -- 4
    ⟨tUp, tReq 0x10 (leBytes 2 0x1000 ++ [0, 0] ++ leBytes 4 0 ++ leBytes 2 0), tSes, 0x1000, 0, 0, 0,
      tAcc (by decide) (by decide) (by decide) (by decide +kernel) (by decide)⟩,
    -- 5
    ⟨tUp, 0x1000, 0, 0, 0, ((tUp.readObj 0x1000 0).get (by decide +kernel)),
      by decide +kernel⟩,
    -- 6
    ⟨tUp, tReq 0x12 ([([(0x1000, 0)]).length, 0] ++ ([(0x1000, 0)]).flatMap fun i => leBytes 2 i.1 ++ [i.2, 0]), tSes, [(0x1000, 0)],
      tAcc (by decide) (by decide) (by decide) (by decide +kernel) (by decide), by decide +kernel⟩,
    -- 7
    ⟨tUp, [(0x1000, 0)],
      by decide +kernel⟩,
    -- 8
    ⟨tUp, tReq 0x20 (leBytes 4 1 ++ leBytes 2 1), tSes, 1, 1,
      tAcc (by decide) (by decide) (by decide) (by decide +kernel) (by decide)⟩,
    -- 9
    ⟨tUp, tReq 0x40 (stampBytes ({})), tSes, {},
      tAcc (by decide) (by decide) (by decide) (by decide +kernel) (by decide), by decide +kernel⟩,
    -- 10
    ⟨{ tUp with cfg :=  [(objKey 0x3084 0, 2)] }, tReq 0x50 ([1 % 256, 0, 0, 0] ++ ((List.replicate 14 0))), tSes, 1, (List.replicate 14 0),
      by decide +kernel, tAcc (by decide) (by decide) (by decide) (by decide +kernel) (by decide), by decide +kernel⟩,
    -- 11
    ⟨tUp, tReq 0x70 ([1 % 256, 0, 0, 0] ++ ((List.replicate 16 0)) ++ ((List.replicate 32 0))), tSes, 1, (List.replicate 16 0), (List.replicate 32 0),
      tAcc (by decide) (by decide) (by decide) (by decide +kernel) (by decide), by decide +kernel⟩,
    -- 12
    ⟨tUp, tReq 0x70 ([6, 0, 0, 0] ++ ((List.replicate 16 0)) ++ ((List.replicate 32 0))), tSes, (List.replicate 16 0), (List.replicate 32 0),
      tAcc (by decide) (by decide) (by decide) (by decide +kernel) (by decide), by decide +kernel⟩⟩

set_option maxRecDepth 4000 in
/-- Each clause of TelemetryCommands has a state and operands that meet its hypotheses. -/
theorem witness_telemetry_commands :
    (∃ (s : State) (m : TelemetryMsg), s.coreUp = true ∧
      (m.group ≠ s.cfgGet 0x2182 1 ∨ m.mac ≠ s.telemetryMac (headerBytes 0x10 m.flags 0x30 0 m.payload.length 0 0 m.pairSeq ++ m.payload))) ∧
    (∃ (s : State) (m : TelemetryMsg) (v : Receiver), s.coreUp = true ∧
      s.cfgGet 0x3180 1 ≠ 0 ∧
      m.group = s.cfgGet 0x2182 1 ∧
      bit m.flags 4 = true ∧
      bit m.flags 1 = false ∧
      m.mac = s.telemetryMac (headerBytes 0x10 m.flags 0x30 0 m.payload.length 0 0 m.pairSeq ++ m.payload) ∧
      ((s.ty.receivers.find? fun v => v.node == leNat ((m.payload.drop 2).take 2) && v.origin == m.pairSeq / 2 ^ 30 % 4) = some v) ∧
      v.take (m.pairSeq % 2 ^ 30) = none) ∧
    (∃ (s : State) (m : TelemetryMsg), s.coreUp = true ∧
      s.cfgGet 0x3180 1 ≠ 0 ∧
      m.group = s.cfgGet 0x2182 1 ∧
      bit m.flags 4 = true ∧
      bit m.flags 1 = false ∧
      m.payload.headD 0 = 2 ∧
      m.mac = s.telemetryMac (headerBytes 0x10 m.flags 0x30 0 m.payload.length 0 0 m.pairSeq ++ m.payload) ∧
      ((s.ty.receivers.find? fun v => v.node == leNat ((m.payload.drop 2).take 2) && v.origin == m.pairSeq / 2 ^ 30 % 4) = none)) ∧
    (∃ (s : State) (m : TelemetryMsg), s.coreUp = true ∧
      s.cfgGet 0x3180 1 ≠ 0 ∧
      m.group = s.cfgGet 0x2182 1 ∧
      bit m.flags 4 = true ∧
      bit m.flags 1 = true ∧
      m.payload.headD 0 = 1 ∧
      m.mac = s.telemetryMac (headerBytes 0x10 m.flags 0x30 0 m.payload.length 0 0 m.pairSeq ++ m.payload) ∧
      (tokenOf m.payload).2.sender = s.id.nodeId) ∧
    (∃ (s : State) (m : TelemetryMsg), s.coreUp = true ∧
      s.cfgGet 0x3180 1 ≠ 0 ∧
      m.group = s.cfgGet 0x2182 1 ∧
      bit m.flags 4 = true ∧
      bit m.flags 1 = true ∧
      m.payload.headD 0 = 3 ∧
      m.mac = s.telemetryMac (headerBytes 0x10 m.flags 0x30 0 m.payload.length 0 0 m.pairSeq ++ m.payload) ∧
      bit (s.cfgGet 0x2885 2) 1 = true) :=
  ⟨-- 1
    ⟨tUp, {},
      by decide +kernel⟩,
    -- 2
    ⟨{ tUp with ty := { tUp.ty with receivers := [{}] }, cfg :=  [(objKey 0x3180 1, 5)] }, { group := tUp.cfgGet 0x2182 1, flags := 16, payload := [2], mac := tUp.telemetryMac (headerBytes 0x10 16 0x30 0 1 0 0 0 ++ [2]) }, {},
      by decide +kernel, by decide +kernel, by decide +kernel, by decide +kernel, by decide +kernel, rfl, by decide +kernel⟩,
    -- 3
    ⟨{ tUp with cfg :=  [(objKey 0x3180 1, 5)] }, { group := tUp.cfgGet 0x2182 1, flags := 16, payload := [2], mac := tUp.telemetryMac (headerBytes 0x10 16 0x30 0 1 0 0 0 ++ [2]) },
      by decide +kernel, by decide +kernel, by decide +kernel, by decide +kernel, by decide +kernel, by decide +kernel, rfl, by decide +kernel⟩,
    -- 4
    ⟨{ tUp with cfg :=  [(objKey 0x3180 1, 5)] }, { group := tUp.cfgGet 0x2182 1, flags := 18, payload := [1], mac := tUp.telemetryMac (headerBytes 0x10 18 0x30 0 1 0 0 0 ++ [1]) },
      by decide +kernel, by decide +kernel, by decide +kernel, by decide +kernel, by decide +kernel, by decide +kernel, rfl, by decide +kernel⟩,
    -- 5
    ⟨{ tUp with cfg :=  [(objKey 0x3180 1, 5)] }, { group := tUp.cfgGet 0x2182 1, flags := 18, payload := [3], mac := tUp.telemetryMac (headerBytes 0x10 18 0x30 0 1 0 0 0 ++ [3]) },
      by decide +kernel, by decide +kernel, by decide +kernel, by decide +kernel, by decide +kernel, by decide +kernel, rfl, by decide +kernel⟩⟩

set_option maxRecDepth 4000 in
/-- Each clause of LoaderCommands has a state and operands that meet its hypotheses. -/
theorem witness_loader_commands :
    (∃ (s : State) (r : Req) (x : Session) (total : Nat) (k : Nat) (header : Bytes), Accepted s r 0x60 (leBytes 4 total ++ header) 1092 engineer x ∧
      k = s.headerReason header total ∧
      s.loadCondition r = 0 ∧
      ¬(s.ld.state = 0 ∧ s.os.gate = true ∧ s.twinHealthy = true) ∧
      tabWf {} s.os.coils = true) ∧
    (∃ (s : State) (r : Req) (x : Session) (total : Nat) (header : Bytes), Accepted s r 0x60 (leBytes 4 total ++ header) 1092 engineer x ∧
      s.loadCondition r = 0 ∧
      s.ld.state = 0 ∧
      s.os.gate = true ∧
      s.twinHealthy = true) ∧
    (∃ (s : State) (r : Req) (x : Session) (offset : Nat) (chunk : Bytes), Accepted s r 0x61 (leBytes 4 offset ++ chunk) 5 engineer x ∧
      chunk.length ≤ 2008 ∧
      s.ld.state = 2 ∧
      s.ld.loadSession = r.session ∧
      s.ld.req = none ∧
      offset = s.ld.next ∧
      offset + chunk.length ≤ s.ld.total) ∧
    (∃ (s : State) (r : Req) (x : Session), s.ld.req = some r ∧
      s.ld.state = 2 ∧
      s.ld.begun = true ∧
      s.session r.session = some x ∧
      (r.source ≠ .spi ∨ s.ld.slot ≠ none)) ∧
    (∃ (s : State) (r : Req), s.ld.req = some r ∧
      s.ld.state = 2 ∧
      s.ld.begun = true) ∧
    (∃ (s : State) (r : Req) (x : Session), Accepted s r 0x62 [] 0 engineer x ∧
      s.ld.state = 2 ∧
      s.ld.loadSession = r.session ∧
      s.ld.next = s.ld.total ∧
      s.ld.req = none) ∧
    (∃ (s : State), s.ld.state = 2) :=
  ⟨-- 1
    ⟨{ tUp with tm := { tUp.tm with nvClosed := false }, pm := { tUp.pm with capUf := 1000, vholdMv := 45000 } }, tReq 0x60 (leBytes 4 1 ++ ((List.replicate 1088 0))), tSes, 1, 1, (List.replicate 1088 0),
      tAcc (by decide) (by decide) (by decide) (by decide +kernel) (by decide), by decide +kernel⟩,
    -- 2
    ⟨{ tUp with tm := { tUp.tm with nvClosed := false }, pm := { tUp.pm with capUf := 1000, vholdMv := 45000 }, ty := { tUp.ty with wordTwin := 0x2F00, wordRows := 100, hello := some {} }, ld := { tUp.ld with state := 0 }, os := { tUp.os with gate := true } }, tReq 0x60 (leBytes 4 1 ++ ((List.replicate 1088 0))), tSes, 1, (List.replicate 1088 0),
      tAcc (by decide) (by decide) (by decide) (by decide +kernel) (by decide), by decide +kernel⟩,
    -- 3
    ⟨{ tUp with ld := { tUp.ld with total := 1, loadSession := 1, state := 2, req := none } }, tReq 0x61 (leBytes 4 0 ++ ([1])), tSes, 0, [1],
      tAcc (by decide) (by decide) (by decide) (by decide +kernel) (by decide), by decide +kernel⟩,
    -- 4
    ⟨{ tUp with ld := { tUp.ld with req := some {}, begun := true, slot := some 0, state := 2 } }, {}, tSes,
      by decide +kernel⟩,
    -- 5
    ⟨{ tUp with ld := { tUp.ld with req := some {}, begun := true, state := 2 } }, {},
      by decide +kernel⟩,
    -- 6
    ⟨{ tUp with ld := { tUp.ld with loadSession := 1, state := 2, req := none } }, tReq 0x62 [], tSes,
      tAcc (by decide) (by decide) (by decide) (by decide +kernel) (by decide), by decide +kernel⟩,
    -- 7
    ⟨{ tUp with ld := { tUp.ld with state := 2 } },
      by decide +kernel⟩⟩

set_option maxRecDepth 4000 in
/-- Each clause of RecoveryCommands has a state and operands that meet its hypotheses. -/
theorem witness_recovery_commands :
    (∃ (s : State), s.ld.recovery = true ∧
      s.ld.probed = false) ∧
    (∃ (s : State) (seq : Nat), s.ld.recovery = true ∧
      s.ld.recSeq ≠ some seq) ∧
    (∃ (s : State) (seq : Nat) (kind : Nat) (b : Bytes), s.ld.recovery = true ∧
      s.ld.recSeq = some seq ∧
      s.ld.recCached = kind :: b) ∧
    (∃ (s : State) (seq : Nat) (k : Nat) (payload : Bytes) (b : Bytes), s.ld.recovery = true ∧
      s.ld.recoveryReason ≠ 3 ∧
      b = [if k = 0 then 0 else 0x0A, k] ++ leBytes 4 4096 ∧
      s.ld.recSeq ≠ some seq ∧
      payload.length = 1092 ∧
      k = s.headerReason (payload.drop 4) (fieldAt payload 0 4)) ∧
    (∃ (s : State) (seq : Nat) (b : Bytes) (p : Bytes), s.ld.recovery = true ∧
      s.ld.recoveryReason ≠ 3 ∧
      s.ld.recSeq ≠ some seq ∧
      s.ld.recBegun = true ∧
      1 ≤ b.length ∧
      b.length ≤ 1024 ∧
      s.ld.next + b.length ≤ s.ld.total ∧
      s.ld.total < 2 ^ 32 ∧
      p = 0 :: leBytes 4 (s.ld.next + b.length)) ∧
    (∃ (s : State) (seq : Nat) (good : Bytes) (bad : Bytes), s.ld.recovery = true ∧
      s.ld.recoveryReason ≠ 3 ∧
      s.ld.recSeq ≠ some seq ∧
      s.ld.recBegun = true ∧
      s.ld.next = s.ld.total ∧
      good = [0, 0] ++ padBytes 32 (skeinDigest s.ld.header s.ld.bytes) ∧
      bad = [0x0A, 11] ++ List.replicate 32 0) ∧
    (∃ (s : State) (seq : Nat) (low : Bool), s.ld.recovery = true ∧
      s.ld.recoveryReason ≠ 3 ∧
      s.ld.recSeq ≠ some seq ∧
      s.ld.skeinValid = true ∧
      s.ld.antiRollback ≤ s.ld.skeinSecurity ∧
      ¬(s.ld.recoveryReason = 1 ∧ low = true)) ∧
    (∃ (s : State) (seq : Nat) (first : Nat) (n : Nat) (b : Bytes), s.ld.recovery = true ∧
      s.ld.recSeq ≠ some seq ∧
      first < 2 ^ 32 ∧
      1 ≤ n ∧
      n ≤ 31 ∧
      b = (s.logPart first n).flatMap logBytes) :=
  ⟨-- 1
    ⟨{ tUp with ld := { tUp.ld with recovery := true, probed := false } },
      by decide +kernel⟩,
    -- 2
    ⟨{ tUp with ld := { tUp.ld with recovery := true } }, 1,
      by decide +kernel⟩,
    -- 3
    ⟨{ tUp with ld := { tUp.ld with recovery := true, recSeq := some 1, recCached := 1 :: ([]) } }, 1, 1, [],
      by decide +kernel⟩,
    -- 4
    ⟨{ tUp with ld := { tUp.ld with recovery := true } }, 1, 1, (List.replicate 1092 0), ([0x0A, 1] ++ leBytes 4 4096),
      by decide +kernel⟩,
    -- 5
    ⟨{ tUp with ld := { tUp.ld with total := 1, next := 0, recovery := true, recBegun := true } }, 1, [1], (0 :: leBytes 4 1),
      by decide +kernel⟩,
    -- 6
    ⟨{ tUp with ld := { tUp.ld with recovery := true, recBegun := true } }, 1, ([0, 0] ++ padBytes 32 (skeinDigest [] [])), ([0x0A, 11] ++ List.replicate 32 0),
      by decide +kernel, by decide +kernel, by decide +kernel, by decide +kernel, by decide +kernel, rfl, rfl⟩,
    -- 7
    ⟨{ tUp with ld := { tUp.ld with recovery := true, skeinValid := true } }, 1, false,
      by decide +kernel⟩,
    -- 8
    ⟨{ tUp with ld := { tUp.ld with recovery := true } }, 1, 1, 1, (({ tUp with ld := { tUp.ld with recovery := true } } : State).logPart 1 1 |>.flatMap logBytes),
      by decide +kernel⟩⟩

set_option maxRecDepth 4000 in
/-- Each clause of SettingsCommands has a state and operands that meet its hypotheses. -/
theorem witness_settings_commands :
    (∃ (s : State) (r : Req) (x : Session) (o : Obj) (index : Nat) (sub : Nat) (v : Bytes) (next : List (Nat × Nat × Bytes)), Accepted s r 0x11 (writePayload r index sub 0 v) 8 (writeRole index sub) x ∧
      v.length ≤ 8 ∧
      s.ownRow r index sub v = none ∧
      modelLength index = none ∧
      findObj index sub = some o ∧
      o.access = .staged ∧
      v.length = o.bytes ∧
      valueOk s.id.variant o sub (leNat v) = true ∧
      next = stage x.shadow (objKey o.index sub) (leBytes o.bytes (s.valueTaken o.index sub (leNat v))) ∧
      shadowSize next ≤ 4096) ∧
    (∃ (s : State) (r : Req) (x : Session) (o : Obj) (index : Nat) (sub : Nat) (v : Bytes), Accepted s r 0x11 (writePayload r index sub 0 v) 8 (writeRole index sub) x ∧
      v.length ≤ 8 ∧
      s.ownRow r index sub v = none ∧
      modelLength index = none ∧
      findObj index sub = some o ∧
      o.access = .stop ∧
      v.length = o.bytes ∧
      valueOk s.id.variant o sub (leNat v) = true ∧
      s.stopped o.index sub = true ∧
      s.stopStatus o sub (leNat v) = 0 ∧
      o.effect ≠ .row ∧
      sharedCount s.nv.held ≤ 20) ∧
    (∃ (s : State) (r : Req) (x : Session), Accepted s r 0x13 [] 0 operator x) ∧
    (∃ (s : State) (u : State) (c : Commit) (rest : List Commit) (x : Session), s.sy.commits = c :: rest ∧
      c.closed = false ∧
      s.session c.session = some x ∧
      (c.req.source ≠ .spi ∨ c.slot ≠ none) ∧
      (u = (if c.pattern < s.ns / 10000000 then s else s.runTo ((s.ns / 10000000 + 1) * 10000000)).modSy (fun y => { y with commits := rest })) ∧
      ((u.putWrites x.shadow).rulesStatus ((x.shadow.map fun w => w.1 / 256).eraseDups) = 0) ∧
      sharedCount s.nv.held + x.shadow.length ≤ 21) ∧
    (∃ (s : State) (r : Req) (x : Session), Accepted s r 0x14 [] 0 operator x) :=
  ⟨-- 1
    ⟨tUp, tReq 0x11 (writePayload ({} : Req) 0x2885 1 0 ((leBytes 4 50000))), tSes, ((findObj 0x2885 1).get (by decide +kernel)), 0x2885, 1, (leBytes 4 50000), [(objKey 0x2885 1, 0, leBytes 4 50000)],
      tAcc (by decide) (by decide) (by decide) (by decide +kernel) (by decide), by decide +kernel, rfl, by decide +kernel⟩,
    -- 2
    ⟨{ tUp with cfg :=  [(objKey 0x3080 1, 0)] }, tReq 0x11 (writePayload ({} : Req) 0x3080 2 0 ([1])), tSes, ((findObj 0x3080 2).get (by decide +kernel)), 0x3080, 2, [1],
      tAcc (by decide) (by decide) (by decide) (by decide +kernel) (by decide), by decide +kernel, rfl, by decide +kernel⟩,
    -- 3
    ⟨tUp, tReq 0x13 [], tSes,
      tAcc (by decide) (by decide) (by decide) (by decide +kernel) (by decide)⟩,
    -- 4
    ⟨{ tUp with sy := { tUp.sy with commits := [{ session := 1, slot := some 0 }] }, tb := { tUp.tb with now := { ns := 10000000 } } }, ({ tUp with sy := { tUp.sy with commits := [] }, tb := { tUp.tb with now := { ns := 10000000 } } }), { session := 1, slot := some 0 }, [], tSes,
      by decide +kernel, by decide +kernel, by decide +kernel, by decide +kernel, rfl, by decide +kernel⟩,
    -- 5
    ⟨tUp, tReq 0x14 [], tSes,
      tAcc (by decide) (by decide) (by decide) (by decide +kernel) (by decide)⟩⟩

set_option maxRecDepth 4000 in
/-- Each clause of ClaimCommands has a state and operands that meet its hypotheses. -/
theorem witness_claim_commands :
    (∃ (s : State) (word : Nat) (row : Nat), s.deaf = false ∧
      row = s.rowCount % 256 ∧
      word / 4096 ≤ 4) ∧
    (∃ (s : State) (r : Req) (x : Session), Accepted s r 0x11 (writePayload r 0x2F81 0 0 [1]) 8 operator x ∧
      s.os.gate = true ∧
      s.twinHealthy = true) ∧
    (∃ (s : State), s.os.gate = true ∧
      s.twinHealthy = true) ∧
    (∃ (s : State) (r : Req) (x : Session), Accepted s r 0x11 (writePayload r 0x2F81 0 0 [1]) 8 operator x ∧
      (s.os.gate = false ∨ s.twinHealthy = false)) ∧
    (∃ (s : State), s.ty.yielding ≠ 0 ∧
      s.ty.wordTwin / 4096 ≠ 4 ∧
      s.pm.softDue = 0) ∧
    (∃ (s : State) (r : Req) (x : Session), Accepted s r 0x11 (writePayload r 0x2F82 0 0 [1]) 8 operator x ∧
      s.ty.state = .observer) ∧
    (∃ (s : State), s.ty.state = .observer ∧
      2 ≤ s.ty.version ∧
      s.ty.hello.map (·.stepNo) = some s.id.stepNo) :=
  ⟨-- 1
    ⟨tUp, 0x4FFF, 0,
      by decide +kernel⟩,
    -- 3
    ⟨{ tUp with ty := { tUp.ty with wordTwin := 0x2F00, wordRows := 100, hello := some {} }, os := { tUp.os with gate := true } }, tReq 0x11 (writePayload ({} : Req) 0x2F81 0 0 [1]), tSes,
      tAcc (by decide) (by decide) (by decide) (by decide +kernel) (by decide), by decide +kernel⟩,
    -- 4
    ⟨{ tUp with ty := { tUp.ty with wordTwin := 0x2F00, wordRows := 100, hello := some {} }, os := { tUp.os with gate := true } },
      by decide +kernel⟩,
    -- 5
    ⟨{ tUp with ty := { tUp.ty with yielding := 1 } }, tReq 0x11 (writePayload ({} : Req) 0x2F81 0 0 [1]), tSes,
      tAcc (by decide) (by decide) (by decide) (by decide +kernel) (by decide), by decide +kernel⟩,
    -- 6
    ⟨{ tUp with ty := { tUp.ty with yielding := 1 }, pm := { tUp.pm with softDue := 0 } },
      by decide +kernel⟩,
    -- 7
    ⟨{ tUp with ty := { tUp.ty with state := .observer } }, tReq 0x11 (writePayload ({} : Req) 0x2F82 0 0 [1]), tSes,
      tAcc (by decide) (by decide) (by decide) (by decide +kernel) (by decide), by decide +kernel⟩,
    -- 8
    ⟨{ tUp with ty := { tUp.ty with version := 2, hello := some {}, state := .observer } },
      by decide +kernel⟩⟩

set_option maxRecDepth 4000 in
/-- Each clause of PairingCommands has a state and operands that meet its hypotheses. -/
theorem witness_pairing_commands :
    (∃ (s : State), s.deaf = false ∧
      s.ty.paired = false ∧
      6 ≤ s.pm.step) ∧
    (∃ (s : State) (h : Hello), s.deaf = false ∧
      6 ≤ s.pm.step ∧
      s.ty.state ≠ .refused ∧
      (h.side == 1) = s.ty.sideB) ∧
    (∃ (s : State) (h : Hello), s.deaf = false ∧
      6 ≤ s.pm.step ∧
      s.ty.state ≠ .refused ∧
      (h.side == 1) = !s.ty.sideB ∧
      h.variant = s.id.variant ∧
      h.device = 0x8100 ∧
      s.ty.paired = false ∧
      bit h.flags 0 = false) ∧
    (∃ (s : State) (h : Hello), s.deaf = false ∧
      6 ≤ s.pm.step ∧
      s.ty.state = .pairing ∧
      s.ty.paired = false ∧
      s.ty.sideB = true ∧
      h.side = 0 ∧
      h.variant = s.id.variant ∧
      h.device = 0x8100 ∧
      2 ≤ h.tyHigh ∧
      bit h.flags 0 = true ∧
      bit h.flags 2 = false ∧
      bit h.flags 3 = true ∧
      s.si.setConfirmed = true ∧
      h.setCheck = s.si.checkConfirmed ∧
      h.stepNo = s.id.stepNo) ∧
    (∃ (s : State) (h : Hello), s.deaf = false ∧
      6 ≤ s.pm.step ∧
      s.ty.state = .pairing ∧
      s.ty.paired = false ∧
      s.ty.sideB = false ∧
      h.side = 1 ∧
      h.variant = s.id.variant ∧
      h.device = 0x8100 ∧
      2 ≤ h.tyHigh ∧
      bit h.flags 0 = true ∧
      bit h.flags 2 = false ∧
      bit h.flags 3 = true ∧
      s.si.setConfirmed = true ∧
      h.setCheck = s.si.checkConfirmed ∧
      h.stepNo = s.id.stepNo) ∧
    (∃ (s : State), s.pm.state = .castOn ∧
      6 ≤ s.pm.step ∧
      s.pm.step7Done = false ∧
      s.ty.hello = none ∧
      s.ty.state = .pairing ∧
      s.cfgGet 0x2F80 1 = 1) ∧
    (∃ (s : State) (source : Nat), s.deaf = false ∧
      s.ty.paired = true ∧
      s.ty.state = .pairing ∧
      s.ty.sideB = true ∧
      s.ty.lockPl = none ∧
      source = 1) ∧
    (∃ (s : State) (pl : Nat), s.deaf = false ∧
      s.ty.paired = true ∧
      s.ty.state = .pairing ∧
      s.ty.sideB = false ∧
      s.ty.lockPl = some (BitVec.ofNat 32 pl)) ∧
    (∃ (s : State) (reason : Nat), s.deaf = false ∧
      s.ty.paired = true ∧
      1 ≤ reason ∧
      reason ≤ 4 ∧
      s.ty.state ≠ .pairing ∧
      s.ty.state ≠ .refused) :=
  ⟨-- 1
    ⟨{ tUp with ty := { tUp.ty with paired := false } },
      by decide +kernel⟩,
    -- 2
    ⟨tUp, {},
      by decide +kernel⟩,
    -- 3
    ⟨{ tUp with ty := { tUp.ty with sideB := true, paired := false } }, {},
      by decide +kernel⟩,
    -- 4
    ⟨{ tUp with ty := { tUp.ty with state := .pairing, paired := false, sideB := true }, si := { tUp.si with setConfirmed := true } }, { flags := 9 },
      by decide +kernel⟩,
    -- 5
    ⟨{ tUp with ty := { tUp.ty with state := .pairing, paired := false, sideB := false }, si := { tUp.si with setConfirmed := true } }, { flags := 9, side := 1 },
      by decide +kernel⟩,
    -- 6
    ⟨{ tUp with pm := { tUp.pm with state := .castOn, step7Done := false }, ty := { tUp.ty with hello := none, state := .pairing }, cfg :=  [(objKey 0x2F80 1, 1)] },
      by decide +kernel⟩,
    -- 7
    ⟨{ tUp with ty := { tUp.ty with paired := true, state := .pairing, sideB := true, lockPl := none } }, 1,
      by decide +kernel⟩,
    -- 8
    ⟨{ tUp with ty := { tUp.ty with paired := true, state := .pairing, sideB := false, lockPl := some (BitVec.ofNat 32 1) } }, 1,
      by decide +kernel⟩,
    -- 9
    ⟨{ tUp with ty := { tUp.ty with state := .solo, paired := true } }, 1,
      by decide +kernel⟩⟩

set_option maxRecDepth 4000 in
/-- Each clause of TwinDataCommands has a state and operands that meet its hypotheses. -/
theorem witness_twin_data_commands :
    (∃ (s : State) (m : RowInput), s.deaf = false ∧
      m.row = s.rowCount) ∧
    (∃ (s : State), s.deaf = false) ∧
    (∃ (s : State) (m : DigestMsg), s.deaf = false ∧
      m.row = s.rowCount) ∧
    (∃ (s : State) (kind : Nat) (total : Nat) (bytes : Nat) (item : PatternItem), s.deaf = false ∧
      s.ty.paired = true ∧
      kind = itemKind item ∧
      bytes ≤ 504 ∧
      (kind ≤ 3 ∨ 2 ≤ s.ty.version) ∧
      bytes < total) ∧
    (∃ (s : State) (client : Nat) (slot : Nat) (total : Nat) (bytes : Nat), s.deaf = false ∧
      s.ty.paired = true ∧
      bytes ≤ 504 ∧
      total ≤ bytes ∧
      (∀ x ∈ s.sy.sessions, x.client ≠ client) ∧
      slot ≠ 6) ∧
    (∃ (s : State), s.deaf = false ∧
      s.ty.paired = true ∧
      2 ≤ s.ty.version ∧
      s.os.gate = true) ∧
    (∃ (s : State), s.deaf = false ∧
      s.ty.state = .joining ∧
      s.ty.joinState = 1) ∧
    (∃ (s : State), s.deaf = false ∧
      s.ty.paired = true ∧
      s.ty.state = .solo) ∧
    (∃ (s : State), s.ty.state = .joining) ∧
    (∃ (s : State), s.ty.state = .observer ∧
      s.ty.joinRetry = true ∧
      s.ty.paired = true ∧
      2 ≤ s.ty.version ∧
      s.ty.hello.map (·.stepNo) = some s.id.stepNo) :=
  ⟨-- 1
    ⟨tUp, {},
      by decide +kernel⟩,
    -- 2
    ⟨tUp,
      by decide +kernel⟩,
    -- 3
    ⟨tUp, {},
      by decide +kernel⟩,
    -- 4
    ⟨{ tUp with ty := { tUp.ty with paired := true } }, 1, 2, 1, (.dataFrame {}),
      by decide +kernel⟩,
    -- 5
    ⟨{ tUp with ty := { tUp.ty with paired := true } }, 1, 1, 1, 1,
      by decide +kernel⟩,
    -- 6
    ⟨{ tUp with ty := { tUp.ty with version := 2, paired := true }, os := { tUp.os with gate := true } },
      by decide +kernel⟩,
    -- 7
    ⟨{ tUp with ty := { tUp.ty with state := .joining, joinState := 1 } },
      by decide +kernel⟩,
    -- 8
    ⟨{ tUp with ty := { tUp.ty with paired := true, state := .solo } },
      by decide +kernel⟩,
    -- 9
    ⟨{ tUp with ty := { tUp.ty with state := .joining } },
      by decide +kernel⟩,
    -- 10
    ⟨{ tUp with ty := { tUp.ty with version := 2, hello := some {}, state := .observer, joinRetry := true, paired := true } },
      by decide +kernel⟩⟩

set_option maxRecDepth 4000 in
/-- Each clause of RowCommands has a state and operands that meet its hypotheses. -/
theorem witness_row_commands :
    (∃ (s : State), s.rowsRun = true ∧
      s.sy.live = []) ∧
    (∃ (s : State) (n : Nat) (reference : Nat) (v : Nat), s.rowsRun = true ∧
      1 ≤ reference ∧
      v = min 65535 (1000 * n / reference)) ∧
    (∃ (s : State) (k : Nat) (x : Live), s.sy.live[k]? = some x) ∧
    (∃ (s : State) (t : State) (pattern : Bool) (x : Live) (pre : List Live) (post : List Live) (status : Nat) (body : Bytes), s.sy.live = pre ++ x :: post ∧
      x.due pattern = true ∧
      (∀ y ∈ pre ++ post, y.due pattern = false) ∧
      ((s.modSy fun y => { y with live := [] }).liveAct x.sess x.cmd = (t, status, body))) ∧
    (∃ (s : State) (pattern : Bool), (∀ y ∈ s.sy.live, y.due pattern = false)) ∧
    (∃ (s : State), s.rowsRun = true ∧
      s.loaderRuns = false ∧
      s.rows.cpRestarting = false) ∧
    (∃ (s : State), (∀ x ∈ s.sy.live, x.agreed = false ∧ s.liveAgreed x = true)) ∧
    (∃ (s : State), s.inRow = true ∧
      s.rows.fixed = false ∧
      s.ty.paired = false ∧
      s.ty.state ≠ .member ∧
      s.ef.headDue = false ∧
      s.tb.stepDue = none ∧
      s.tb.stepAgreed = none) ∧
    (∃ (s : State) (m : RowInput), s.inRow = true ∧
      s.rows.fixed = false ∧
      s.ty.paired = true ∧
      s.ty.state = .member ∧
      s.ty.rowIn = some m ∧
      m.row = (s.rowAt 25000).rowCount ∧
      m.cmds = [] ∧
      s.ef.headDue = false ∧
      s.tb.stepDue = none ∧
      s.tb.stepAgreed = none ∧
      tabWf {} s.os.coils = true) ∧
    (∃ (s : State), s.inRow = true ∧
      s.rows.fixed = false ∧
      s.ty.paired = true ∧
      s.ty.rowIn = none ∧
      s.ty.absentRun = 2 ∧
      s.ty.state = .member ∧
      s.os.gate = true ∧
      s.ef.headDue = false ∧
      s.tb.stepDue = none ∧
      s.tb.stepAgreed = none) ∧
    (∃ (s : State), s.inRow = true ∧
      s.rows.fixed = false ∧
      (s.rowAt 25000).rowIn = 10 ∧
      s.ty.state = .member ∧
      s.ef.headDue = true ∧
      s.ty.rowIn = none) ∧
    (∃ (s : State) (c : CommitInp), s.inRow = true ∧
      s.rows.committed = false ∧
      s.ty.yielding = 0 ∧
      c.late = false ∧
      c.mismatch = false ∧
      s.pm.softDue = 0) ∧
    (∃ (s : State) (c : CommitInp), s.inRow = true ∧
      s.rows.committed = false ∧
      s.ty.yielding = 0 ∧
      c.late = true ∧
      s.pm.softDue = 0 ∧
      tabWf {} s.os.coils = true) ∧
    (∃ (s : State), s.inRow = true ∧
      s.rows.judged = false ∧
      s.ty.state ≠ .member ∧
      s.ty.state ≠ .joining) ∧
    (∃ (s : State) (b : Bool), s.inRow = true ∧
      s.rows.judged = false ∧
      s.ty.state = .member ∧
      b = (s.rowAt 70000).stitch) :=
  ⟨-- 1
    ⟨{ tUp with sy := { tUp.sy with live := [] } },
      by decide +kernel⟩,
    -- 2
    ⟨tUp, 1, 1, 1000,
      by decide +kernel⟩,
    -- 3
    ⟨{ tUp with sy := { tUp.sy with live := [{ cmd := .softwareTrigger {} 1, req := {}, sess := tSes, agreed := true }] } }, 0, { cmd := .softwareTrigger {} 1, req := {}, sess := tSes, agreed := true },
      by decide +kernel⟩,
    -- 4
    ⟨{ tUp with sy := { tUp.sy with live := [{ cmd := .softwareTrigger {} 1, req := {}, sess := tSes, agreed := true }] } }, ((tUp.modSy fun y => { y with live := [] }).liveAct tSes (.softwareTrigger {} 1)).1, false, { cmd := .softwareTrigger {} 1, req := {}, sess := tSes, agreed := true }, [], [], 0, [],
      by decide +kernel, by decide +kernel, by decide +kernel, rfl⟩,
    -- 5
    ⟨tUp, false,
      by decide +kernel⟩,
    -- 6
    ⟨{ tUp with rows := { tUp.rows with cpRestarting := false } },
      by decide +kernel⟩,
    -- 7
    ⟨{ tUp with sy := { tUp.sy with live := [{ cmd := .softwareTrigger {} 1, req := {}, sess := tSes }] } },
      by decide +kernel⟩,
    -- 8
    ⟨{ tUp with rows := { tUp.rows with fixed := false }, ty := { tUp.ty with paired := false }, ef := { tUp.ef with headDue := false }, tb := { tUp.tb with stepDue := none, stepAgreed := none } },
      by decide +kernel⟩,
    -- 9
    ⟨{ tUp with rows := { tUp.rows with fixed := false }, ty := { tUp.ty with paired := true, state := .member, rowIn := some ({ row := 0 }) }, ef := { tUp.ef with headDue := false }, tb := { tUp.tb with stepDue := none, stepAgreed := none } }, { row := 0 },
      by decide +kernel⟩,
    -- 10
    ⟨{ tUp with rows := { tUp.rows with fixed := false }, ty := { tUp.ty with paired := true, rowIn := none, absentRun := 2, state := .member }, os := { tUp.os with gate := true }, ef := { tUp.ef with headDue := false }, tb := { tUp.tb with stepDue := none, stepAgreed := none } },
      by decide +kernel⟩,
    -- 11
    ⟨{ tUp with tb := { tUp.tb with now := { epoch := 0, ns := 1010000 } }, rows := { tUp.rows with lastRow := some 10, fixed := false }, ty := { tUp.ty with state := .member, rowIn := none }, ef := { tUp.ef with headDue := true } },
      by decide +kernel⟩,
    -- 12
    ⟨{ tUp with rows := { tUp.rows with committed := false }, ty := { tUp.ty with yielding := 0 }, pm := { tUp.pm with softDue := 0 } }, {},
      by decide +kernel⟩,
    -- 13
    ⟨{ tUp with rows := { tUp.rows with committed := false }, ty := { tUp.ty with yielding := 0 }, pm := { tUp.pm with softDue := 0 } }, { late := true },
      by decide +kernel⟩,
    -- 14
    ⟨{ tUp with rows := { tUp.rows with judged := false } },
      by decide +kernel⟩,
    -- 15
    ⟨{ tUp with rows := { tUp.rows with judged := false }, ty := { tUp.ty with state := .member } }, true,
      by decide +kernel⟩⟩

set_option maxRecDepth 4000 in
/-- Each clause of PatternCommands has a state and operands that meet its hypotheses. -/
theorem witness_pattern_commands :
    (∃ (s : State) (v : Nat), s.rowsRun = true ∧
      v = s.rows.siRunMin ∧
      v ≠ 0xFFFF) ∧
    (∃ (s : State) (k : Nat) (x : Live), s.rowsRun = true ∧
      s.loaderRuns = false ∧
      s.sy.live[k]? = some x) ∧
    (∃ (s : State), s.rowsRun = true ∧
      s.rows.lastPat.isSome = true ∧
      s.ef.headRun = false ∧
      s.ef.headDue = false ∧
      s.loaderRuns = false ∧
      s.ty.state ≠ .member) ∧
    (∃ (s : State) (n : Nat), s.rowsRun = true ∧
      s.rows.lastPat = some n ∧
      s.ef.headRun = false ∧
      s.ef.headDue = false ∧
      s.loaderRuns = false ∧
      s.ty.state = .member ∧
      (s.runTo (n * 10000000 + 1000000)).rowIn = 10 ∧
      s.rows.fixed = false) ∧
    (∃ (s : State), s.coreUp = true ∧
      (∀ k ∈ [6, 7], (tabGet ({} : Engine) k s.ck).owner ≠ 1)) ∧
    (∃ (s : State) (khz : Nat), s.coreUp = true ∧
      (khz < 150000 ∨ 250000 < khz)) ∧
    (∃ (s : State), s.coreUp = true ∧
      s.tb.running = true ∧
      tabWf {} s.os.coils = true) ∧
    (∃ (s : State), s.rows.refBad = true) :=
  ⟨-- 1
    ⟨{ tUp with rows := { tUp.rows with siRunMin := 1 } }, 1,
      by decide +kernel⟩,
    -- 2
    ⟨{ tUp with sy := { tUp.sy with live := [{ cmd := .fabricStop {} 1, req := {}, sess := tSes, agreed := true }] } }, 0, { cmd := .fabricStop {} 1, req := {}, sess := tSes, agreed := true },
      by decide +kernel⟩,
    -- 3
    ⟨{ tUp with rows := { tUp.rows with lastPat := some 0 }, ef := { tUp.ef with headRun := false, headDue := false } },
      by decide +kernel⟩,
    -- 4
    ⟨{ tUp with rows := { tUp.rows with lastPat := some 0, fixed := false }, ef := { tUp.ef with headRun := false, headDue := false }, ty := { tUp.ty with state := .member } }, 0,
      by decide +kernel⟩,
    -- 5
    ⟨tUp,
      by decide +kernel⟩,
    -- 6
    ⟨tUp, 1,
      by decide +kernel⟩,
    -- 7
    ⟨{ tUp with tb := { tUp.tb with running := true } },
      by decide +kernel⟩,
    -- 8
    ⟨{ tUp with rows := { tUp.rows with refBad := true } },
      by decide +kernel⟩⟩

set_option maxRecDepth 4000 in
/-- Each clause of StepTakesFront has a state and operands that meet its hypotheses. -/
theorem witness_step_takes_front :
    (∃ (s : State) (c : Instr) (rest : List Instr), s.pending = c :: rest) ∧
    (∃ (s : State), s.pending = [] ∧
      s.tb.running = false) ∧
    (∃ (s : State), s.pending = [] ∧
      s.tb.running = true ∧
      s.tb.now.ns < 1000000000 ∧
      s.tb.frac < 2 ^ 32) :=
  ⟨-- 1
    ⟨{ tUp with pending :=  [.startSlotExpiry] }, .startSlotExpiry, [],
      by decide +kernel⟩,
    -- 2
    ⟨{ tUp with tb := { tUp.tb with running := false } },
      by decide +kernel⟩,
    -- 3
    ⟨{ tUp with tb := { tUp.tb with running := true } },
      by decide +kernel⟩⟩

set_option maxRecDepth 4000 in
/-- Each clause of StepKeepsInv has a state and operands that meet its hypotheses. -/
theorem witness_step_keeps_inv :
    (∃ (s : State) (t : State), Inv s ∧
      step s = .next t) :=
  ⟨{ tUp with tb := { tUp.tb with running := false } }, { tUp with tb := { tUp.tb with running := false } },
      ⟨by decide, ⟨by decide, List.Pairwise.nil, List.nodup_nil⟩, by decide, by decide, by decide, by decide⟩, rfl⟩

set_option maxRecDepth 4000 in
/-- Each clause of PairMessageOnce has a state and operands that meet its hypotheses. -/
theorem witness_pair_message_once :
    (∃ (s : State) (node : Nat) (pairSeq : Nat) (c : Nat) (ahead : Nat) (back : Nat) (v : Receiver), c = pairSeq % 2 ^ 30 ∧
      v.high < 2 ^ 30 ∧
      ahead = (c + 2 ^ 30 - v.high) % 2 ^ 30 ∧
      back = (v.high + 2 ^ 30 - c) % 2 ^ 30 ∧
      ((s.ty.receivers.find? fun v => v.node == node && v.origin == pairSeq / 2 ^ 30 % 4) = some v)) :=
  ⟨{ tUp with ty := { tUp.ty with receivers := [{}] } }, 0, 1, 1, 1, 1073741823, {},
      by decide +kernel⟩

set_option maxRecDepth 4000 in
/-- Each clause of FaultQueueOrder has a state and operands that meet its hypotheses. -/
theorem witness_fault_queue_order :
    (∃ (m : FaultMgr) (n : FaultMgr) (event : Bool) (inPair : Bool) (stamp : Stamp) (code : Nat) (item : Nat), m.Wf ∧
      (event = true ∨ code ∉ m.handled ∨ m.has code = true) ∧
      n = m.raise event stamp inPair code item) :=
  ⟨{}, (({} : FaultMgr).raise true {} false 1 1), true, false, {}, 1, 1,
      ⟨by decide, List.Pairwise.nil, List.nodup_nil⟩, by decide +kernel, rfl⟩

set_option maxRecDepth 4000 in
/-- Each clause of ClaimWords has a state and operands that meet its hypotheses. -/
theorem witness_claim_words :
    (∃ (cls : Nat) (health : Nat), cls < 16 ∧
      health < 16) ∧
    (∃ (s : State) (u : State) (a : Nat) (b : Nat) (c : Nat) (d : Nat), s.ty.sideB ≠ u.ty.sideB ∧
      a < 16 ∧
      b < 16 ∧
      c < 16 ∧
      d < 16) :=
  ⟨-- 1
    ⟨1, 1,
      by decide +kernel⟩,
    -- 2
    ⟨tUp, { tUp with ty := { tUp.ty with sideB := true } }, 1, 1, 1, 1,
      by decide +kernel⟩⟩

set_option maxRecDepth 4000 in
/-- Each clause of GatesNeverBoth has a state and operands that meet its hypotheses. -/
theorem witness_gates_never_both :
    (∃ (a : State) (b : State), a.inRow = true ∧
      b.inRow = true ∧
      a.rows.committed = false ∧
      b.rows.committed = false ∧
      a.ty.yielding = 0 ∧
      b.ty.yielding = 0 ∧
      a.ty.wordTwin = b.ty.wordOwn ∧
      b.ty.wordTwin = a.ty.wordOwn) :=
  ⟨tUp, tUp,
      by decide +kernel⟩

/-- The checks that every request in a session passes (RequestChecks): the length that disagrees. -/
theorem witness_request_length :
    requestOf (.keepalive { length := some 1 }) = some ({ length := some 1 }, 0x05, []) ∧ tUp.coreUp = true ∧
      tUp.serves .spi = true ∧ (some 1).getD (reqArrived { length := some 1 } []).length ≠ 0 := by
  decide +kernel

/-- RequestChecks: a session that is not there. -/
theorem witness_request_session :
    requestOf (.keepalive { session := 2 }) = some ({ session := 2 }, 0x05, []) ∧ tUp.coreUp = true ∧
      tUp.serves .spi = true ∧ tUp.session 2 = none := by
  decide +kernel

/-- RequestChecks: a MAC that does not hold, and one that does. -/
theorem witness_request_mac :
    requestOf (.keepalive {}) = some ({}, 0x05, []) ∧ tUp.session 1 = some tSes ∧
      ({} : Req).mac ≠ macOf tSes.c2m false (reqCovered {} 0x05 (reqArrived {} [])) ∧
      (tReq 0x05 []).mac = macOf tSes.c2m false (reqCovered (tReq 0x05 []) 0x05 (reqArrived (tReq 0x05 []) [])) := by
  decide +kernel

/-- RequestChecks: a source that is not the session's, a version that is not the negotiated one, a sequence that is not
higher, the highest sequence again. -/
theorem witness_request_order :
    sourceKey (.udp 5 6) ≠ sourceKey tSes.source ∧ ({ version := 0x20 } : Req).version / 16 ≠ tSes.version / 16 ∧
      ({ seq := 0 } : Req).seq = 0 ∧ ({ seq := 1 } : Req).seq < ({ tSes with high := 2 } : Session).high ∧
      ({ seq := 2 } : Req).seq = ({ tSes with high := 2, cached := some { opcode := 5 } } : Session).high := by
  decide +kernel

/-! ### WellFormed refuses -/

/-- Requests and stamps that no field can hold. -/
theorem test_ill_formed_requests :
    [Instr.hello { version := 256 }, .keepalive { session := 65536 }, .commit { seq := 2 ^ 32 }, .discard { mac := [1] },
      .closeRequest { mac := [256, 0, 0, 0, 0, 0, 0, 0] }, .ringArm {} 2, .softwareTrigger {} 256, .leaseWrite {} [],
      .leaseWrite {} (List.replicate 36 256), .stepRequest {} { ns := 1000000000 }, .stepAnnounce {} { epoch := 65536 },
      .stepAnnounce {} { sec := 2 ^ 48 }, .safeObjectWrite {} 65536 0 [] true, .safeObjectWrite {} 0 256 [] true,
      .safeObjectWrite {} 0 0 [256] true, .write {} 65536 0 0 [], .write {} 0 256 0 [], .write {} 0 0 65536 [],
      .write {} 0 0 0 [256], .read {} 65536 0 0 0, .read {} 0 256 0 0, .read {} 0 0 65536 0, .read {} 0 0 0 65536,
      .recoverRequest {} 3 0, .recoverRequest {} 1 256, .controllerMode {} 0 0, .rawSend {} 3 [] 0,
      .rawSend {} 1 [256] 0].all (fun i => !wellFormed i) = true := by
  decide +kernel

/-- The same for sessions, the loader and the object requests. -/
theorem test_ill_formed_sessions :
    [Instr.openRequest {} 256 0 0 0 (List.replicate 16 0), .openRequest {} 0 256 0 0 (List.replicate 16 0),
      .openRequest {} 0 0 65536 0 (List.replicate 16 0), .openRequest {} 0 0 0 256 (List.replicate 16 0),
      .openRequest {} 0 0 0 0 [], .openRequest {} 0 0 0 0 (List.replicate 16 256), .proof {} [] (List.replicate 32 0),
      .proof {} (List.replicate 16 0) [], .keySet {} 256 (List.replicate 16 0) (List.replicate 32 0),
      .keySet {} 0 [] (List.replicate 32 0), .keySet {} 0 (List.replicate 16 0) [], .loadBegin {} 0 [256],
      .loadData {} 0 [256], .readList {} 256 [], .readList {} 1 [(65536, 0)], .readList {} 1 [(0, 256)],
      .logRead {} (2 ^ 32) 0, .logRead {} 0 65536, .sessionIdleTimeout 0, .sessionIdleTimeout 257, .hostEngineClaim {} 8,
      .hostEngineRelease {} 8, .softwareReset {} 256, .bindOff {} 256 false true, .safetySetConfirm {} (2 ^ 32) true,
      .timeStepRequest {} (2 ^ 63), .incrementWrite {} (2 ^ 64)].all (fun i => !wellFormed i) = true := by
  decide +kernel

/-- Parts of the plant that the module does not have. -/
theorem test_ill_formed_plant :
    [Instr.groupUpdateComplete 512, .restSampleTime 512, .capacityLearningEvent 512,
      .castOnStepEnd 0 {}, .castOnStepEnd 9 {}, .resultDelivered 8 [] 0 0, .resultDelivered 0 [] 0 20, .captureResult 8 [] 0, .dutyOverrangeTimeout 8,
      .captureTrigger 8, .fastPairEvent 2 [] [], .fastPairEvent 0 [32768] [], .fastPairEvent 0 [] [-32769], .sarStuckDetect 2 true, .echo 0 true 0, .ack 33 0, .cmuLoadStatus 33 ⟨0, 0, []⟩, .cmuLoadStatus 1 ⟨4, 0, []⟩,
      .cmuLoadStatus 1 ⟨0, 0, [256]⟩, .isoStateEnd 0 1 0 8388608,
      .holdResponse 0, .dataFrame { cmu := 33 }, .stepData 33 0 0 0 [], .stepData 1 0 512 0 [], .stepData 1 0 0 200 [1],
      .urgent 256 0, .breakTriple 0 256 0, .pwmOvercurrentOff 5, .pwmRestart 0, .coilShortCircuit 5, .tripSwitchTest 3 true,
      .safetyInputSample 65536, .lockFrame 0 3 0, .patternData 6 0 0 0 (.command (.write {})), .patternData 1 0 0 505 (.dataFrame {}),
      .bye 256, .claimFrame 65536 0 true, .claimFrame 0 256 true, .digest { input := 2 ^ 32 }, .digest { output := 2 ^ 32 },
      .digest { state := 2 ^ 32 }, .cellIndex []].all (fun i => !wellFormed i) = true := by
  decide +kernel

/-- Ports, controllers, engines and words of the host window that the module does not have. -/
theorem test_ill_formed_ports :
    [Instr.incrementHi (2 ^ 32), .qentry 3, .qstatus 1 (2 ^ 32), .qstatus 0 0, .canFrameReceive 3 {} 0,
      .canFrameReceive 1 { data := [256] } 0, .canReassemblyTimeout 3 0 0, .canTxSelect 0, .canTxComplete 3,
      .canArbitrationLost 3, .canTransceiverFault 3, .busOffRecoveryComplete 0, .canBusError 3 0 0 true,
      .canBusError 1 256 0 true, .canBusError 1 0 256 true, .can2Rxack 128 0, .can2Rxack 0 16, .canTxRequest 64,
      .canTxCancel 64, .canTxReplace 64, .can2Txfin (2 ^ 32), .can2Alert (2 ^ 32), .arpRequest 3 0 0 0,
      .icmpEcho 3 0 0 0 0 [], .icmpEcho 1 0 0 0 0 [256], .ipv4Fragment 0 0 0 0 true [], .ipv4Fragment 1 0 0 0 true [256],
      .sfpInsertion 3 0 0, .sfpRemoval 0, .sfpOvercurrent 3, .linkDown 3, .sfpLinkUp 0, .mbPost (2 ^ 32),
      .mbDone (2 ^ 32), .mbReset (2 ^ 32), .mbAlert (2 ^ 32), .hostWindowWrite 2 0, .hostWindowWrite 0 (2 ^ 32),
      .converterWord0Read ⟨66, 0, 0⟩, .converterWord1Read ⟨66, 0, 0⟩, .converterWord0Read ⟨0, 32768, 0⟩,
      .converterWord1Read ⟨0, -32769, 0⟩, .timeShadowRead 3, .ceCtrlLoadInit 8 0, .data8 0 (2 ^ 32),
      .ceHighWordCommit 8 0 0, .ceLowWordRead 8 0, .ceHighWordRead 8 0, .recoveryBegin 256 [], .recoveryData 0 [256] true,
      .probe 256, .boot 256 false, .syncIntervalSend (2 ^ 32) 0, .delayReqSend 3 0].all (fun i => !wellFormed i) = true := by
  decide +kernel

/-- Well-formed ones pass. -/
theorem test_well_formed :
    [Instr.groupUpdateComplete 511, .castOnStepEnd 8 {}, .resultDelivered 7 [(0, -8388608)] 0 19, .urgent 255 255, .ringArm {} 1,
      .claimFrame 65535 255 true, .sessionIdleTimeout 256, .hostWindowWrite 0x2000 0xFFFFFFFF].all wellFormed = true := by
  decide +kernel

/-! ### Numbers of the spec -/

/-- The state after a command. -/
def tRun (c : Instr) (s : State) : State :=
  match exec c s with
  | .next t => t
  | _ => s

/-- R87's example: node IDs 70 and 38 start in slot 6, node ID 71 in slot 7. -/
theorem test_start_slot :
    [70, 38, 71].map (fun n : Int => (tRun (.auxPowerRise false) { State.reset with
      nv := { State.reset.nv with records := [(1, { a := { payload := [0, (objKey 0x1010 1 : Nat), n] } })] }
      pm := { State.reset.pm with state := .off } }).pm.startSlot) = [6, 6, 7] := by
  decide +kernel

/-- R156's example: 50 009 nOhm at 45 °C, and -50 mV give +999 820 mA. -/
theorem test_shunt :
    let s : State := { tUp with
      ss := { tUp.ss with shuntT := some 4500 }
      cfg := [(objKey 0x2580 1, 50000), (objKey 0x2580 2, 15000), (objKey 0x2580 3, 2 ^ 32 - 300)] }
    s.rSh = 50009 ∧ ratTrunc (s.iP (-2796203)) = 999820 := by
  decide +kernel

/-- R167's example: 1 and 4 megohm. -/
theorem test_insulation :
    let s : State := { tUp with im := { tUp.im with connected := true } }
    let t := tRun (.isoStateEnd 3 4 0 0) (tRun (.isoStateEnd 1 6 0 0) s)
    t.im.rp = some 1000000 ∧ t.im.rn = some 4000000 ∧ t.im.riso = some 800000 := by
  decide +kernel

/-- R386's example: the words 0x4D46 and 0x3F47. -/
theorem test_claim_words :
    ({ tUp with id := { tUp.id with serial := 0x41D23 } } : State).claimWord 4 13 = 0x4D46 ∧
      ({ tUp with id := { tUp.id with serial := 0x41DA3 }, ty := { tUp.ty with sideB := true } } : State).claimWord 3 15 =
        0x3F47 := by
  decide +kernel

/-- R414's example: TIME_SHORT reads 0xFFFB_7BC0 at 4294 s 967 ms. -/
theorem test_time_short :
    ({ tUp with tb := { tUp.tb with now := { epoch := 3, sec := 4294, ns := 967000000 } } } : State).short = 0xFFFB7BC0 := by
  decide +kernel

/-- The order of bytes (R8): -2000 from 30 F8, -1500 as 24 FA FF FF. -/
theorem test_byte_order : ofWord 16 (leNat [0x30, 0xF8]) = -2000 ∧ leInt 4 (-1500) = [0x24, 0xFA, 0xFF, 0xFF] := by
  decide

/-- R357's example: the entry of the discrepancy time of input 2 at 100 ms. -/
theorem test_safe_entry :
    (List.range 600).any (fun k => ((safeBytes fun i j => if i = 0x2D82 ∧ j = 2 then 100 else 0).drop k).take 6 ==
      [0x82, 0x2D, 0x02, 0x02, 0x64, 0x00]) = true := by
  decide +kernel

/-- R262's example: the capacity goes from 1 002 400 C to 1 001 110.8 C. -/
theorem test_capacity :
    let s : State := { tUp with ef := { tUp.ef with state := 2, ctx := [(37, {
      cap := 1002400, sig2 := 4 / 1000000, learn := some (2480 / 10000, 1190 / 1000000, 0)
      ref := some (900463 / 1000000, 992 / 1000000, 652000) })] } }
    let t := tRun (.capacityLearningEvent 37) s
    (t.ctx 37).learned.map (fun x => roundEven (x.1 * 10)) = some 10011108 ∧ t.ef.capEvents = 1 := by
  decide +kernel

/-- R554: three boxcars of length 2 weigh the periods 1, 3, 3, 1 of 8; half of a Hann window shows half of a step. -/
theorem test_boxcars : stepResponse 0 2 = [1 / 8, 1 / 2, 7 / 8, 1, 1, 1] ∧
    roundEven (stepShare 2 4 4 * 1000000000) = 500000000 := by
  decide +kernel

/-- SHA-256 of the three bytes of its standard's example (FIPS 180-4). -/
theorem test_sha256 : (sha256 [0x61, 0x62, 0x63]).take 4 = [0xBA, 0x78, 0x16, 0xBF] := by
  decide +kernel

/-- The CRC of R200 over the nine bytes that catalogues of CRCs use. -/
theorem test_crc32c : crc32c [0x31, 0x32, 0x33, 0x34, 0x35, 0x36, 0x37, 0x38, 0x39] = 0xE3069283 := by
  decide +kernel

/-- A step runs the command at the front and leaves the rest. -/
theorem test_step_front :
    (match step { tUp with pending := [.resetNChange true, .startSlotExpiry] } with
      | .next t => t.pm.resetPin && t.pending == [.startSlotExpiry]
      | _ => false) = true := by
  decide +kernel

end Slice0Tests
end

section
/-! The claim words of the two units (R386) and the pair messages that a receiver accepts once (R406). -/

namespace Sys2Proof.Machine

/-! ### Claim words (R386) -/

theorem b2n_inj {a b : Bool} : b2n a = b2n b ↔ a = b := by
  cases a <;> cases b <;> decide

/-- The tie-break's parity is the unit's side. -/
theorem State.claimTie_mod_two (s : State) : s.claimTie % 2 = b2n s.ty.sideB :=
  calc s.claimTie % 2 = b2n s.ty.sideB % 2 := Nat.mul_add_mod' ..
    _ = b2n s.ty.sideB := by cases s.ty.sideB <;> rfl

theorem State.claimTie_lt (s : State) : s.claimTie < 256 := by
  have hserial : s.id.serial % 128 < 128 := Nat.mod_lt _ (by decide)
  have hside : b2n s.ty.sideB ≤ 1 := by cases s.ty.sideB <;> decide
  unfold State.claimTie
  omega

section Fields
variable (s : State) (cls health : Nat)

theorem State.claimWord_tie : s.claimWord cls health % 256 = s.claimTie := by
  have htie := s.claimTie_lt
  unfold State.claimWord
  omega

theorem State.claimWord_class (hh : health < 16) : s.claimWord cls health / 4096 = cls := by
  have htie := s.claimTie_lt
  unfold State.claimWord
  omega

theorem State.claimWord_health (hh : health < 16) : s.claimWord cls health / 256 % 16 = health := by
  have htie := s.claimTie_lt
  unfold State.claimWord
  omega

theorem State.claimWord_lt (hc : cls < 16) (hh : health < 16) : s.claimWord cls health < 65536 := by
  have htie := s.claimTie_lt
  unfold State.claimWord
  omega

/-- What a word counts as depends on its health and class fields alone. -/
theorem State.wordValue_claimWord (hh : health < 16) :
    wordValue (s.claimWord cls health) = if health = 0 ∨ cls = 0 then 0 else s.claimWord cls health := by
  simp only [wordValue, s.claimWord_health cls health hh, s.claimWord_class cls health hh, Bool.or_eq_true,
    beq_iff_eq]

/-- A word's parity is the unit's side. -/
theorem State.claimWord_mod_two : s.claimWord cls health % 2 = b2n s.ty.sideB :=
  calc s.claimWord cls health % 2 = s.claimWord cls health % 256 % 2 := (Nat.mod_mod_of_dvd _ (by decide)).symm
    _ = b2n s.ty.sideB := by rw [s.claimWord_tie, s.claimTie_mod_two]

end Fields

/-- Settles O59: the fields are read off the word; units of different sides drive words of different parity. -/
theorem claimWords : Obligations.ClaimWords := by
  refine ⟨fun s cls health hc hh => ⟨s.claimWord_lt cls health hc hh, s.claimWord_class cls health hh,
    s.claimWord_health cls health hh, s.claimWord_tie cls health, fun h0 => ?_, fun hh0 hc0 => ?_⟩,
    fun s u a b c d hside _ _ _ _ heq => hside ?_⟩
  · rw [s.wordValue_claimWord cls health hh, if_pos (.inl h0)]
  · rw [s.wordValue_claimWord cls health hh, if_neg (by simp [hh0, hc0])]
  · have hparity : b2n s.ty.sideB = b2n u.ty.sideB := by
      rw [← s.claimWord_mod_two a b, heq, u.claimWord_mod_two c d]
    exact b2n_inj.mp hparity

/-! ### The bits of a receiver's record -/

theorem bit_eq_testBit (v n : Nat) : bit v n = v.testBit n := by
  rw [Nat.testBit_eq_decide_div_mod_eq]
  rfl

/-- Adding a power of two to a number without that bit carries nowhere. -/
theorem testBit_add_two_pow {v n : Nat} (h : v.testBit n = false) (k : Nat) :
    (v + 2 ^ n).testBit k = (decide (k = n) || v.testBit k) := by
  rcases Nat.lt_trichotomy k n with hlt | rfl | hgt
  · rw [Nat.add_comm, Nat.testBit_two_pow_add_gt hlt]
    simp [hlt.ne]
  · rw [Nat.add_comm, Nat.testBit_two_pow_add_eq, h]
    simp
  · obtain ⟨j, rfl⟩ := Nat.exists_eq_add_of_lt hgt
    have heven : v / 2 ^ n % 2 = 0 := by simpa [Nat.testBit_eq_decide_div_mod_eq] using h
    have hhigh : (v + 2 ^ n) / 2 ^ (n + 1) = v / 2 ^ (n + 1) := by
      rw [Nat.pow_succ, ← Nat.div_div_eq_div_mul, ← Nat.div_div_eq_div_mul, Nat.add_div_right _ (Nat.two_pow_pos n)]
      omega
    rw [show n + j + 1 = j + (n + 1) by omega, Nat.testBit_add, hhigh, ← Nat.testBit_add]
    simp
    omega

theorem bit_setBit_true (v n k : Nat) : bit (setBit v n true) k = true ↔ k = n ∨ bit v k = true := by
  unfold setBit
  cases hset : bit v n with
  | true =>
    have hk : k = n → bit v k = true := fun h => h ▸ hset
    simpa using hk
  | false => simp [bit_eq_testBit, testBit_add_two_pow ((bit_eq_testBit v n).symm.trans hset)]

/-- A record moved up by `a` counters and marked at its new highest one. -/
theorem bit_shifted_record {v a k : Nat} (ha : 1 ≤ a) (hk : k < 64) :
    bit ((v * 2 ^ a + 1) % 2 ^ 64) k = true ↔ k = 0 ∨ (a ≤ k ∧ bit v (k - a) = true) := by
  have hone : 1 < 2 ^ a := Nat.one_lt_two_pow (by omega)
  rw [bit_eq_testBit, bit_eq_testBit, Nat.testBit_mod_two_pow, Nat.mul_comm, Nat.testBit_two_pow_mul_add v hone]
  by_cases hka : k < a
  · simp [hk, hka, Nat.not_le.mpr hka, Nat.testBit_one_eq_true_iff_self_eq_zero]
  · have hne : k ≠ 0 := by omega
    simp [hk, hka, hne, Nat.not_lt.mp hka]

/-! ### What a receiver keeps (R406) -/

/-- The same sender's record with another highest counter and other bits. -/
def Receiver.update (v : Receiver) (high seen : Nat) : Receiver := { v with high, seen }

section Update
variable (v : Receiver) (high seen : Nat)

-- `(rfl)` keeps these from the definitional rewriting of `simp`: the kernel would compare whole records, bits included.
@[simp] theorem Receiver.update_node : (v.update high seen).node = v.node := (rfl)
@[simp] theorem Receiver.update_origin : (v.update high seen).origin = v.origin := (rfl)
@[simp] theorem Receiver.update_high : (v.update high seen).high = high := (rfl)
@[simp] theorem Receiver.update_seen : (v.update high seen).seen = seen := (rfl)

end Update

/-- How far a counter is ahead of the highest one accepted, modulo 2^30. -/
def Receiver.ahead (v : Receiver) (c : Nat) : Nat := (c + 2 ^ 30 - v.high % 2 ^ 30) % 2 ^ 30

/-- How far a counter is behind the highest one accepted, modulo 2^30: its place in the record. -/
def Receiver.back (v : Receiver) (c : Nat) : Nat := (v.high + 2 ^ 30 - c % 2 ^ 30) % 2 ^ 30

/-- A counter is newer than the highest one accepted. -/
def Receiver.Newer (v : Receiver) (c : Nat) : Prop := 1 ≤ v.ahead c ∧ v.ahead c ≤ 2 ^ 29 - 1

/-- A counter lies within the record and has not been seen. -/
def Receiver.Unseen (v : Receiver) (c : Nat) : Prop := v.back c < 64 ∧ bit v.seen (v.back c) = false

/-- What is kept once a newer counter is accepted. -/
def Receiver.advance (v : Receiver) (c : Nat) : Receiver :=
  v.update c (if 64 ≤ v.ahead c then 1 else (v.seen * 2 ^ v.ahead c + 1) % 2 ^ 64)

/-- What is kept once a counter within the record is accepted. -/
def Receiver.mark (v : Receiver) (c : Nat) : Receiver :=
  v.update v.high (setBit v.seen (v.back c) true)

section Take
variable {v w : Receiver} {c : Nat}

theorem Receiver.take_of_newer (h : v.Newer c) : v.take c = some (v.advance c) := by
  obtain ⟨hlow, hhigh⟩ := h
  have hlt : v.ahead c < 2 ^ 29 := by omega
  unfold Receiver.ahead at hlow hlt
  simp only [Receiver.take, hlow, hlt, decide_true, Bool.and_self, if_true]
  rfl

theorem Receiver.take_of_unseen (hn : ¬v.Newer c) (h : v.Unseen c) : v.take c = some (v.mark c) := by
  obtain ⟨hback, hbit⟩ := h
  have hahead : ¬(1 ≤ v.ahead c ∧ v.ahead c < 2 ^ 29) := fun ⟨ha, hb⟩ => hn ⟨ha, by omega⟩
  unfold Receiver.ahead at hahead
  unfold Receiver.back at hback hbit
  simp only [Receiver.take, Bool.and_eq_true, decide_eq_true_eq, hahead, if_false, hback, hbit, Bool.not_false,
    and_self, if_true]
  rfl

theorem Receiver.take_eq_none (hn : ¬v.Newer c) (h : ¬v.Unseen c) : v.take c = none := by
  have hahead : ¬(1 ≤ v.ahead c ∧ v.ahead c < 2 ^ 29) := fun ⟨ha, hb⟩ => hn ⟨ha, by omega⟩
  unfold Receiver.ahead at hahead
  unfold Receiver.Unseen Receiver.back at h
  simp only [Receiver.take, Bool.and_eq_true, decide_eq_true_eq, hahead, if_false, Bool.not_eq_true', h]

/-- A receiver accepts the newer counters and the unseen ones of its record, and no other. -/
theorem Receiver.take_isSome_iff : (v.take c).isSome = true ↔ v.Newer c ∨ v.Unseen c := by
  by_cases hn : v.Newer c
  · simp [take_of_newer hn, hn]
  · by_cases hu : v.Unseen c
    · simp [take_of_unseen hn hu, hu]
    · simp [take_eq_none hn hu, hn, hu]

/-- What an accepted counter leaves in the record, in each of the two ways of R406. -/
theorem Receiver.take_cases (h : v.take c = some w) :
    (v.Newer c ∧ w = v.advance c) ∨ (¬v.Newer c ∧ v.Unseen c ∧ w = v.mark c) := by
  by_cases hn : v.Newer c
  · exact .inl ⟨hn, Option.some.inj (h.symm.trans (take_of_newer hn))⟩
  · have hu : v.Unseen c := (take_isSome_iff.mp (by simp [h])).resolve_left hn
    exact .inr ⟨hn, hu, Option.some.inj (h.symm.trans (take_of_unseen hn hu))⟩

/-- The record's owner stays the same. -/
theorem Receiver.take_sender (h : v.take c = some w) : w.node = v.node ∧ w.origin = v.origin := by
  obtain ⟨-, rfl⟩ | ⟨-, -, rfl⟩ := take_cases h <;>
    exact ⟨Receiver.update_node .., Receiver.update_origin ..⟩

theorem Receiver.advance_high (v : Receiver) (c : Nat) : (v.advance c).high = c := update_high ..

theorem Receiver.mark_high (v : Receiver) (c : Nat) : (v.mark c).high = v.high := update_high ..

theorem Receiver.bit_seen_advance (h : v.Newer c) {k : Nat} (hk : k < 64) :
    bit (v.advance c).seen k = true ↔ k = 0 ∨ (v.ahead c ≤ k ∧ bit v.seen (k - v.ahead c) = true) := by
  rw [advance, update_seen]
  split
  next hfar =>
    have hle : ¬v.ahead c ≤ k := by omega
    simp [hle, bit_eq_testBit, Nat.testBit_one_eq_true_iff_self_eq_zero]
  next => exact bit_shifted_record h.1 hk

theorem Receiver.bit_seen_mark (k : Nat) : bit (v.mark c).seen k = true ↔ k = v.back c ∨ bit v.seen k = true := by
  rw [mark, update_seen, bit_setBit_true]

/-- A counter accepted once is discarded from then on: it is no newer, and its bit of the record is set. -/
theorem Receiver.take_again (hc : c < 2 ^ 30) (h : v.take c = some w) : w.take c = none := by
  obtain ⟨hn, rfl⟩ | ⟨hn, -, rfl⟩ := take_cases h
  · have hahead : (v.advance c).ahead c = 0 := by
      rw [ahead, advance_high, Nat.mod_eq_of_lt hc, Nat.add_sub_cancel_left, Nat.mod_self]
    have hback : (v.advance c).back c = 0 := by
      rw [back, advance_high, Nat.mod_eq_of_lt hc, Nat.add_sub_cancel_left, Nat.mod_self]
    have hbit : bit (v.advance c).seen 0 = true := (bit_seen_advance hn (by decide)).mpr (.inl rfl)
    exact take_eq_none (by simp [Newer, hahead]) (by simp [Unseen, hback, hbit])
  · have hbit : bit (v.mark c).seen (v.back c) = true := (bit_seen_mark _).mpr (.inl rfl)
    have hnewer : ¬(v.mark c).Newer c := by rwa [Newer, ahead, mark_high, ← ahead, ← Newer]
    have hback : (v.mark c).back c = v.back c := by rw [back, mark_high, ← back]
    exact take_eq_none hnewer (by simp [Unseen, hback, hbit])

end Take

/-! ### Pair messages (R406) -/

/-- The test that finds what is kept for a message's node and origin. -/
def Receiver.keeps (node pairSeq : Nat) (v : Receiver) : Bool :=
  v.node == node && v.origin == pairSeq / 2 ^ 30 % 4

/-- One kept record put in another's place. -/
def State.putReceiver (s : State) (v w : Receiver) : State :=
  s.modTy fun t => { t with receivers := t.receivers.map fun x => if x == v then w else x }

/-- When the first element that passes a test gives way to one that passes it too, the new one is found. -/
theorem find?_map_replace {α : Type} [BEq α] [LawfulBEq α] {p : α → Bool} {l : List α} {v w : α}
    (h : l.find? p = some v) (hw : p w = true) : (l.map fun x => if x == v then w else x).find? p = some w := by
  have hp : (p ∘ fun x => if x == v then w else x) = p := by
    funext x
    by_cases hx : x = v
    · simp [hx, hw, List.find?_some h]
    · simp [hx]
  rw [List.find?_map, hp, h]
  simp

section Accept
variable {s : State} {node pairSeq : Nat} {v w : Receiver}

theorem State.acceptPair_of_kept (h : s.ty.receivers.find? (Receiver.keeps node pairSeq) = some v) :
    s.acceptPair node pairSeq = (v.take (pairSeq % 2 ^ 30)).map (s.putReceiver v) := by
  unfold Receiver.keeps at h
  simp only [State.acceptPair, h]
  rfl

/-- The record that took a message's counter is the one kept for its node and origin afterwards. -/
theorem State.find?_putReceiver (h : s.ty.receivers.find? (Receiver.keeps node pairSeq) = some v)
    (hw : v.take (pairSeq % 2 ^ 30) = some w) :
    (s.putReceiver v w).ty.receivers.find? (Receiver.keeps node pairSeq) = some w := by
  obtain ⟨hnode, horigin⟩ := Receiver.take_sender hw
  have hkeeps : w.keeps node pairSeq = true := by
    simpa only [Receiver.keeps, hnode, horigin] using List.find?_some h
  exact find?_map_replace h hkeeps

end Accept

/-- Settles O57: the kept record takes the counter or discards it, and a counter that it took it takes no more. -/
theorem pairMessageOnce : Obligations.PairMessageOnce := by
  intro s node pairSeq c ahead back v hc hv hahead hback hkept
  have hlt : c < 2 ^ 30 := hc ▸ Nat.mod_lt _ (by decide)
  obtain rfl : ahead = v.ahead c := by rw [hahead, Receiver.ahead, Nat.mod_eq_of_lt hv]
  obtain rfl : back = v.back c := by rw [hback, Receiver.back, Nat.mod_eq_of_lt hlt]
  have haccept := State.acceptPair_of_kept hkept
  rw [← hc] at haccept
  refine ⟨?_, fun u hu => ?_⟩
  · rw [haccept, Option.isSome_map]
    exact Receiver.take_isSome_iff
  · obtain ⟨w, hw, rfl⟩ := Option.map_eq_some_iff.mp (haccept.symm.trans hu)
    have hfound := State.find?_putReceiver hkept (hc ▸ hw)
    have hagain : (s.putReceiver v w).acceptPair node pairSeq = none := by
      rw [State.acceptPair_of_kept hfound, ← hc, Receiver.take_again hlt hw, Option.map_none]
    refine ⟨hagain, rfl, s.modTy_alters _, w, hfound, ?_⟩
    obtain ⟨hn, rfl⟩ | ⟨hn, -, rfl⟩ := Receiver.take_cases hw
    · exact ⟨fun _ => ⟨Receiver.advance_high v c, fun k hk => Receiver.bit_seen_advance hn hk⟩, fun h => absurd hn h⟩
    · exact ⟨fun h => absurd h hn, fun _ => ⟨Receiver.mark_high v c, fun k _ => Receiver.bit_seen_mark k⟩⟩

end Sys2Proof.Machine
end

section
/-! The invariant through a step. The output stages take their commands by a change to every listed coil (R32, R33), which
leaves a coil listed that reads as an unlisted one does: the table of coils is then no longer canonical. -/

namespace Sys2Proof.Machine

-- One theorem after another: each thread of the checker takes 256 MB of stack.
set_option Elab.async false

/-- A module in READY with MAIN_POS commanded and driven, whose supply fails. -/
def coilOnSupplyLost : State :=
  { State.reset with
    pm := { state := .ready }
    os := { coils := [(1, { cmd := true, drive := true })] }
    pending := [.powerFailEntry] }

theorem coilOnSupplyLost_inv : Inv coilOnSupplyLost where
  bytes := by decide
  queue := ⟨by decide, by decide, by decide⟩
  coils := by decide
  sins := by decide
  slices := by decide
  now := by decide

/-- The state in which the power fail leaves it (R102). -/
def coilOffSupplyLost : State := { coilOnSupplyLost with pending := [] }.supplyLost.failRecords

theorem step_coilOnSupplyLost : step coilOnSupplyLost = .next coilOffSupplyLost := rfl

/-- MAIN_POS is commanded off and its stage follows: it stays listed, with the values that an unlisted coil has. -/
theorem coilOffSupplyLost_coils : coilOffSupplyLost.os.coils = [(1, {})] := by decide

/-- Refutes O54: the power fail of a module with a coil on leaves the table of coils with an entry that equals the default. -/
theorem not_stepKeepsInv : ¬ Obligations.StepKeepsInv := by
  unfold Obligations.StepKeepsInv
  intro h
  have hcoils := (h _ _ coilOnSupplyLost_inv step_coilOnSupplyLost).coils
  rw [coilOffSupplyLost_coils] at hcoils
  exact absurd hcoils (by decide)

end Sys2Proof.Machine
end

section
/-! Frames through the operations that send and answer messages: what they change is traffic. -/

namespace Sys2Proof.Machine

-- One theorem after another: each thread of the checker takes 256 MB of stack.
set_option Elab.async false

section
variable {ps : List Part} {s u : State}

/-- A frame goes on through an operation that moves only traffic. -/
theorem Moves.traffic {t : State} (h : Moves ps s u) (k : Moves [] u t) : Moves ps s t :=
  h.then k (List.nil_subset ps)

theorem Moves.self : Moves ps s s := .refl _ _

theorem Moves.dite {c : Prop} [Decidable c] {t : c → State} {v : ¬c → State} (h : ∀ hc, Moves ps s (t hc))
    (k : ∀ hc, Moves ps s (v hc)) : Moves ps s (dite c t v) := by
  split
  · exact h _
  · exact k _

theorem Moves.getD {o : Option State} {v : State} (h : ∀ t, o = some t → Moves ps s t) (hv : Moves ps s v) :
    Moves ps s (o.getD v) := by
  cases o with
  | none => exact hv
  | some t => exact h t rfl

/-- A change to the Syben part that touches only its traffic. -/
theorem Moves.modSyTraffic (h : Moves ps s u) {f : Syben → Syben}
    (hf : ∀ y, Syben.traffic y (f y) := by exact fun _ => rfl) :
    Moves ps s (u.modSy f) :=
  h.traffic fun p _ => by
    cases p
    case sy => exact hf u.sy
    case out => exact List.prefix_rfl
    all_goals rfl

/-- A change to the Twin Yarn part that touches only its traffic. -/
theorem Moves.modTyTraffic (h : Moves ps s u) {f : Twin → Twin}
    (hf : ∀ y, Twin.traffic y (f y) := by exact fun _ => rfl) :
    Moves ps s (u.modTy f) :=
  h.traffic fun p _ => by
    cases p
    case ty => exact hf u.ty
    case out => exact List.prefix_rfl
    all_goals rfl

theorem Moves.toTwin (h : Moves ps s u) {f : TwinFrame} : Moves ps s (u.toTwin f) := h.emit _

theorem Moves.numberMsg (h : Moves ps s u) {unit : Bool} : Moves ps s (u.numberMsg unit).2 :=
  h.traffic (u.numberMsg_moves unit)

theorem Moves.returnSlot (h : Moves ps s u) {n : Nat} {content : Bytes} : Moves ps s (u.returnSlot n content) :=
  h.traffic (u.returnSlot_moves n content)

theorem Moves.modSession (h : Moves ps s u) {num : Nat} {f : Session → Session} : Moves ps s (u.modSession num f) :=
  h.traffic (u.modSession_moves num f)

theorem Moves.datagram (h : Moves ps s u) {port target targetPort : Nat} {b : Bytes} :
    Moves ps s (u.datagram port target targetPort b) := h.traffic (u.datagram_moves port target targetPort b)

theorem Moves.originate (h : Moves ps s u) {x : Session} {opcode : Nat} {payload : Bytes} :
    Moves ps s (u.originate x opcode payload).2 := h.traffic (u.originate_moves x opcode payload)

theorem Moves.toReceiveSlot (h : Moves ps s u) {b : Bytes} {t : State} (e : u.toReceiveSlot b = some t) :
    Moves ps s t := h.traffic (u.toReceiveSlot_moves t b e)

theorem Moves.answerSlot (h : Moves ps s u) {peer : Source} {content : Option Bytes} :
    Moves ps s (u.answerSlot peer content) := h.traffic (u.answerSlot_moves peer content)

theorem Moves.popSlot (h : Moves ps s u) {r : Req} : Moves ps s (u.popSlot r).2 := by
  unfold State.popSlot
  split
  · exact h.modSyTraffic
  · exact h

theorem Moves.pushSlot (h : Moves ps s u) {slot : Option Nat} : Moves ps s (u.pushSlot slot) :=
  h.modSyTraffic

theorem Moves.formMsg (h : Moves ps s u) {r : Req} {unit : Bool} {key : Option Bytes} {opcode status : Nat}
    {payload : Bytes} : Moves ps s (u.formMsg r unit key opcode status payload).2 := h.numberMsg

theorem Moves.plainAnswer (h : Moves ps s u) {r : Req} {unit : Bool} {opcode status : Nat} {body : Bytes} :
    Moves ps s (u.plainAnswer r unit opcode status body) := by
  unfold State.plainAnswer
  exact Moves.deliver (u := (u.formMsg r unit none opcode status body).2) h.formMsg _ _

theorem Moves.refuse (h : Moves ps s u) {r : Req} {unit : Bool} {key : Option Bytes} {opcode status : Nat} :
    Moves ps s (u.refuse r unit key opcode status) := h.traffic (u.refuse_moves r unit key opcode status)

theorem Moves.finish (h : Moves ps s u) {r : Req} {unit : Bool} {x : Session} {opcode status : Nat} {body : Bytes} :
    Moves ps s (u.finish r unit x opcode status body) := h.traffic (u.finish_moves r unit x opcode status body)

theorem Moves.arrived (h : Moves ps s u) {r : Req} : Moves ps s (u.arrived r) := by
  unfold State.arrived
  split
  · exact h.frameIn _
  · exact h

theorem Moves.sendTelemetry (h : Moves ps s u) {body : Bytes} : Moves ps s (u.sendTelemetry body) :=
  h.trans (.ite .self (((Moves.self.numberMsg (unit := true)).emit _).datagram.datagram))

theorem Moves.iteFst {α : Type} {c : Prop} [Decidable c] {a b : State × α} (h : Moves ps s a.1) (k : Moves ps s b.1) :
    Moves ps s (if c then a else b).1 := by
  split
  · exact h
  · exact k

theorem Moves.iteSnd {α : Type} {c : Prop} [Decidable c] {a b : α × State} (h : Moves ps s a.2) (k : Moves ps s b.2) :
    Moves ps s (if c then a else b).2 := by
  split
  · exact h
  · exact k

/-! ### Commands -/

/-- A command reaches a next state, and moves no more than some parts of the state. -/
def Goes (ps : List Part) (s : State) (o : Host.Outcome State Fault Refusal) : Prop := ∃ t, o = .next t ∧ Moves ps s t

section Goes
variable {qs : List Part} {t : State} {o o' : Host.Outcome State Fault Refusal}

theorem Goes.next (h : Moves ps s t) : Goes ps s (.next t) := ⟨t, rfl, h⟩

theorem Goes.ite {c : Prop} [Decidable c] (h : Goes ps s o) (k : Goes ps s o') : Goes ps s (if c then o else o') := by
  split
  · exact h
  · exact k

/-- A frame goes on through a command that moves no more. -/
theorem Moves.goes (h : Moves qs s u) (k : Goes ps u o) (hs : ps ⊆ qs) : Goes qs s o := by
  obtain ⟨t, rfl, hm⟩ := k
  exact ⟨t, rfl, h.then hm hs⟩

/-- The state that a command within a command leaves. -/
theorem Moves.outcome (h : Goes ps s o) {v : State} : Moves ps s (outcomeState v o) := by
  obtain ⟨t, rfl, hm⟩ := h
  exact hm

end Goes

/-! ### Requests -/

section Check
variable {r : Req} {unit : Bool} {opcode : Nat} {payload : Bytes} {x : Session}

theorem State.sessionCheck_of_length
    (hl : r.length.getD (reqArrived r payload).length ≠ (reqArrived r payload).length) :
    s.sessionCheck r unit opcode payload = .error (s.answerSlot r.source none) := by
  simp [State.sessionCheck, hl]

theorem State.sessionCheck_of_unknown
    (hl : r.length.getD (reqArrived r payload).length = (reqArrived r payload).length)
    (hx : s.session r.session = none) :
    s.sessionCheck r unit opcode payload = .error (s.refuse r unit none opcode 0x05) := by
  simp [State.sessionCheck, hl, hx]

theorem State.sessionCheck_of_mac
    (hl : r.length.getD (reqArrived r payload).length = (reqArrived r payload).length)
    (hx : s.session r.session = some x)
    (hm : r.mac ≠ macOf x.c2m r.shortMac (reqCovered r opcode (reqArrived r payload))) :
    s.sessionCheck r unit opcode payload =
      .error ((s.modSy fun y => { y with authFailures := y.authFailures + 1 }).answerSlot r.source none) := by
  simp [State.sessionCheck, hl, hx, hm]

/-- A request with the length that it says, for a session that stands, with that session's MAC. -/
structure State.Authentic (s : State) (r : Req) (opcode : Nat) (payload : Bytes) (x : Session) : Prop where
  length : r.length.getD (reqArrived r payload).length = (reqArrived r payload).length
  session : s.session r.session = some x
  mac : r.mac = macOf x.c2m r.shortMac (reqCovered r opcode (reqArrived r payload))

theorem State.sessionCheck_of_source (h : s.Authentic r opcode payload x)
    (hk : sourceKey r.source ≠ sourceKey x.source) :
    s.sessionCheck r unit opcode payload = .error (s.refuse r unit (some x.m2c) opcode 0x05) := by
  simp [State.sessionCheck, h.length, h.session, ← h.mac, hk]

theorem State.sessionCheck_of_version (h : s.Authentic r opcode payload x)
    (hk : sourceKey r.source = sourceKey x.source) (hv : r.version / 16 ≠ x.version / 16) :
    s.sessionCheck r unit opcode payload = .error (s.refuse r unit (some x.m2c) opcode 0x03) := by
  simp [State.sessionCheck, h.length, h.session, ← h.mac, hk, hv]

theorem State.sessionCheck_of_good (h : s.Authentic r opcode payload x)
    (hk : sourceKey r.source = sourceKey x.source) (hv : r.version / 16 = x.version / 16) :
    s.sessionCheck r unit opcode payload = .ok x := by
  simp [State.sessionCheck, h.length, h.session, ← h.mac, hk, hv]

/-- What a request that does not pass becomes differs by traffic, but for the counter of failed MACs. -/
theorem State.sessionCheck_moves {t : State} (e : s.sessionCheck r unit opcode payload = .error t) :
    Moves [.sy] s t := by
  by_cases hl : r.length.getD (reqArrived r payload).length = (reqArrived r payload).length
  case neg =>
    obtain rfl := Except.error.inj ((sessionCheck_of_length hl).symm.trans e)
    exact Moves.self.answerSlot
  cases hx : s.session r.session with
  | none =>
    obtain rfl := Except.error.inj ((sessionCheck_of_unknown hl hx).symm.trans e)
    exact Moves.self.refuse
  | some x =>
    by_cases hm : r.mac = macOf x.c2m r.shortMac (reqCovered r opcode (reqArrived r payload))
    case neg =>
      obtain rfl := Except.error.inj ((sessionCheck_of_mac hl hx hm).symm.trans e)
      exact (Moves.self.modSy (by decide) _).answerSlot
    have h : s.Authentic r opcode payload x := ⟨hl, hx, hm⟩
    by_cases hk : sourceKey r.source = sourceKey x.source
    case neg =>
      obtain rfl := Except.error.inj ((sessionCheck_of_source h hk).symm.trans e)
      exact Moves.self.refuse
    by_cases hv : r.version / 16 = x.version / 16
    case neg =>
      obtain rfl := Except.error.inj ((sessionCheck_of_version h hk hv).symm.trans e)
      exact Moves.self.refuse
    exact absurd ((sessionCheck_of_good h hk hv).symm.trans e) (by simp)

end Check

/-! ### The entry of a request -/

/-- The state that an entry gives, final or not. -/
def Entry.state : Entry → State
  | .isOver t => t
  | .on t _ _ => t

/-- The core runs, with the control processor up (R27), and serves the transport of a request. -/
structure State.Hears (s : State) (r : Req) : Prop where
  core : s.coreUp = true
  cp : s.rows.cpRestarting = false
  served : s.serves r.source = true

section Arrived
variable {r : Req}

theorem State.arrived_rows : (s.arrived r).rows = s.rows := (Moves.refl [] s).arrived .rows (by decide)

theorem State.arrived_coreUp : (s.arrived r).coreUp = s.coreUp := by unfold State.arrived; split <;> rfl

theorem State.arrived_serves (x : Source) : (s.arrived r).serves x = s.serves x := by
  unfold State.arrived; split <;> rfl

theorem State.arrived_session (n : Nat) : (s.arrived r).session n = s.session n := by
  unfold State.arrived; split <;> rfl

theorem State.Hears.arrived (h : s.Hears r) : (s.arrived r).Hears r :=
  ⟨State.arrived_coreUp.trans h.core, by rw [State.arrived_rows, h.cp], (State.arrived_serves _).trans h.served⟩

theorem State.Authentic.arrived {opcode : Nat} {payload : Bytes} {x : Session} (h : s.Authentic r opcode payload x) :
    (s.arrived r).Authentic r opcode payload x :=
  ⟨h.length, (State.arrived_session _).trans h.session, h.mac⟩

end Arrived

section Enter
variable {r : Req} {unit : Bool} {opcode : Nat} {payload : Bytes} {fixed : Nat} {role : Nat → Bool} {x : Session}

theorem State.enter_of_down (h : s.coreUp = false ∨ s.rows.cpRestarting = true) :
    s.enter r unit opcode payload fixed role = .isOver s := by
  unfold State.enter
  extract_lets t
  have ht : t = s.arrived r := rfl
  clear_value t
  subst ht
  have hdown : (!s.coreUp || s.rows.cpRestarting) = true := by rcases h with h | h <;> simp [h]
  rw [State.arrived_coreUp, State.arrived_rows, if_pos hdown]

theorem State.enter_of_unserved (hc : s.coreUp = true) (hp : s.rows.cpRestarting = false)
    (hs : s.serves r.source = false) : s.enter r unit opcode payload fixed role = .isOver (s.arrived r) := by
  unfold State.enter
  extract_lets t
  have ht : t = s.arrived r := rfl
  clear_value t
  subst ht
  simp [State.arrived_coreUp, State.arrived_rows, State.arrived_serves, hc, hp, hs]

theorem State.enter_of_error (h : s.Hears r) {t : State}
    (e : (s.arrived r).sessionCheck r unit opcode payload = .error t) :
    s.enter r unit opcode payload fixed role = .isOver t := by
  unfold State.enter
  extract_lets v
  have hv : v = s.arrived r := rfl
  clear_value v
  subst hv
  simp [h.arrived.core, h.arrived.cp, h.arrived.served, e]

/-- The answer that the highest sequence of a session gets again (R483). -/
def State.repeated (s : State) (r : Req) (x : Session) : State :=
  match x.cached with
  | none => s
  | some m => (s.modSession x.num fun y => { y with idleFrom := s.tb.now, prio := r.prio, xl := r.xl, sfp := r.sfp }).deliver r m

theorem Moves.repeated (h : Moves ps s u) : Moves ps s (u.repeated r x) := by
  unfold State.repeated
  split
  · exact h
  · exact h.modSession.deliver _ _

theorem State.enter_of_highest (h : s.Hears r) (e : (s.arrived r).sessionCheck r unit opcode payload = .ok x)
    (hq : r.seq = x.high) (h0 : r.seq ≠ 0) :
    s.enter r unit opcode payload fixed role = .isOver ((s.arrived r).repeated r x) := by
  unfold State.enter State.repeated
  extract_lets v
  have hv : v = s.arrived r := rfl
  clear_value v
  subst hv
  have hh : x.high ≠ 0 := hq ▸ h0
  cases hx : x.cached <;> simp [h.arrived.core, h.arrived.cp, h.arrived.served, e, hq, hh, hx]

theorem State.enter_of_old (h : s.Hears r) (e : (s.arrived r).sessionCheck r unit opcode payload = .ok x)
    (hq : r.seq < x.high ∨ r.seq = 0) :
    s.enter r unit opcode payload fixed role = .isOver ((s.arrived r).refuse r unit (some x.m2c) opcode 0x07) := by
  unfold State.enter
  extract_lets v
  have hv : v = s.arrived r := rfl
  clear_value v
  subst hv
  have hrep : (r.seq == x.high && r.seq != 0) = false := by
    rcases hq with hq | hq
    · simp [hq.ne]
    · simp [hq]
  have hle : r.seq ≤ x.high := by omega
  simp [h.arrived.core, h.arrived.cp, h.arrived.served, e, hrep, hle]

/-- The session takes the request's sequence (R483). -/
def State.accepted (s : State) (r : Req) (x : Session) : State :=
  s.modSession x.num fun y =>
    { y with high := r.seq, idleFrom := s.tb.now, prio := r.prio, xl := r.xl, sfp := r.sfp, cached := none }

theorem State.enter_of_newer (h : s.Hears r) (e : (s.arrived r).sessionCheck r unit opcode payload = .ok x)
    (hq : x.high < r.seq) : ∃ c o, s.enter r unit opcode payload fixed role =
      .on (if opcode == 0x11 || opcode == 0x70 then (s.arrived r).accepted r x
        else ((s.arrived r).accepted r x).travel c) x o := by
  unfold State.enter State.accepted
  extract_lets v
  have hv : v = s.arrived r := rfl
  clear_value v
  subst hv
  have hrep : (r.seq == x.high && r.seq != 0) = false := by simp [hq.ne']
  have hle : ¬ r.seq ≤ x.high := by omega
  simp only [h.arrived.core, h.arrived.cp, h.arrived.served, e, hrep, hle, Bool.not_true, Bool.or_false,
    Bool.false_eq_true, if_false]
  exact ⟨_, _, rfl⟩

/-- Whatever becomes of a request at its entry, only the Syben part and traffic have moved. -/
theorem State.enter_moves (s : State) (r : Req) (unit : Bool) (opcode : Nat) (payload : Bytes) (fixed : Nat)
    (role : Nat → Bool) : Moves [.sy] s (s.enter r unit opcode payload fixed role).state := by
  have harrived : Moves [.sy] s (s.arrived r) := Moves.self.arrived
  by_cases hdown : s.coreUp = false ∨ s.rows.cpRestarting = true
  · rw [enter_of_down hdown]
    exact .self
  obtain ⟨hc, hp⟩ : s.coreUp = true ∧ s.rows.cpRestarting = false := by simpa using hdown
  cases hs : s.serves r.source with
  | false =>
    rw [enter_of_unserved hc hp hs]
    exact harrived
  | true =>
    have h : s.Hears r := ⟨hc, hp, hs⟩
    cases e : (s.arrived r).sessionCheck r unit opcode payload with
    | error t =>
      rw [enter_of_error h e]
      exact harrived.trans (sessionCheck_moves e)
    | ok x =>
      by_cases hnew : x.high < r.seq
      · obtain ⟨c, o, he⟩ := enter_of_newer (fixed := fixed) (role := role) h e hnew
        rw [he]
        exact harrived.trans (.ite Moves.self.modSession (Moves.self.modSession.travel _))
      · by_cases hrep : r.seq = x.high ∧ r.seq ≠ 0
        · rw [enter_of_highest h e hrep.1 hrep.2]
          exact harrived.repeated
        · rw [enter_of_old h e (by omega)]
          exact harrived.refuse

end Enter

/-! ### Requests carried out -/

section Request
variable {r : Req} {unit : Bool} {opcode index sub offset : Nat} {payload value : Bytes} {fixed : Nat}
  {role : Nat → Bool} {cmd : Instr}

theorem Moves.request (h : Moves ps s u) {act : State → Session → Answer} (hact : ∀ v x, Moves ps v (act v x).1)
    (hp : [.sy] ⊆ ps := by decide) : Moves ps s (u.request r unit opcode payload fixed role act) := by
  have he := (h.then (u.enter_moves r unit opcode payload fixed role) hp)
  unfold State.request
  generalize u.enter r unit opcode payload fixed role = e at he
  match e with
  | .isOver t => exact he
  | .on t x (some status) => exact he.finish
  | .on t x none => exact (he.trans (hact t x)).finish

theorem Moves.writeAt (h : Moves ps s u) {act : State → Session → Answer} (hact : ∀ v x, Moves ps v (act v x).1)
    (hp : [.sy] ⊆ ps := by decide) : Moves ps s (u.writeAt r unit index sub offset value role act) := by
  refine h.request (fun v x => ?_) hp
  dsimp only
  split
  · exact .self
  · split
    · exact (hact v x).travel _
    · exact hact v x

theorem Moves.writeReq (h : Moves ps s u) {act : State → Session → Answer} (hact : ∀ v x, Moves ps v (act v x).1)
    (hp : [.sy] ⊆ ps := by decide) : Moves ps s (u.writeReq r unit index sub value role act) :=
  h.writeAt hact hp

theorem Moves.liveReq (h : Moves ps s u) {act : State → Session → Answer} (hact : ∀ v x, Moves ps v (act v x).1)
    (hp : [.sy] ⊆ ps := by decide) : Moves ps s (u.liveReq r unit index sub value role cmd act) := by
  have he := (h.then (u.enter_moves r unit 0x11 (writePayload r index sub 0 value) 8 role) hp)
  unfold State.liveReq
  generalize u.enter r unit 0x11 (writePayload r index sub 0 value) 8 role = e at he
  match e with
  | .isOver t => exact he
  | .on t x (some status) => exact he.finish
  | .on t x none =>
    refine Moves.ite (Moves.finish he) ?_
    dsimp only
    split
    · exact (he.trans (hact t x)).finish
    · exact ((he.trans (.ite .self (Moves.self.travel _))).popSlot).modSy (hp (by decide)) _

theorem Moves.latchReq (h : Moves ps s u) {act : State → Answer} (hp : [.sy] ⊆ ps := by decide) :
    Moves ps s (u.latchReq r opcode payload fixed cmd act) := by
  have he := (h.then (u.enter_moves r true opcode payload fixed anyRole) hp)
  unfold State.latchReq
  generalize u.enter r true opcode payload fixed anyRole = e at he
  match e with
  | .isOver t => exact he
  | .on t x (some status) => exact he.finish
  | .on t x none =>
    dsimp only
    split
    · exact Moves.finish he
    · exact (Moves.popSlot he).modSy (hp (by decide)) _

end Request

end

end Sys2Proof.Machine
end

section
/-! The checks of a request in a session (R467 to R469, R473, R482, R483): every command that is a request runs its entry
first, and is over where the entry is. -/

namespace Sys2Proof.Machine

-- One theorem after another: each thread of the checker takes 256 MB of stack.
set_option Elab.async false

section
variable {s t : State} {r : Req} {unit : Bool} {opcode index sub : Nat} {payload value : Bytes} {fixed : Nat}
  {role : Nat → Bool} {cmd c : Instr} {act : State → Session → Answer}

theorem State.request_of_over (e : s.enter r unit opcode payload fixed role = .isOver t) :
    s.request r unit opcode payload fixed role act = t := by
  unfold State.request
  rw [e]

theorem State.liveReq_of_over (e : s.enter r unit 0x11 (writePayload r index sub 0 value) 8 role = .isOver t) :
    s.liveReq r unit index sub value role cmd act = t := by
  unfold State.liveReq
  rw [e]

theorem State.latchReq_of_over {read : State → Answer} (e : s.enter r true opcode payload fixed anyRole = .isOver t) :
    s.latchReq r opcode payload fixed cmd read = t := by
  unfold State.latchReq
  rw [e]

/-- A command that is over as soon as the entry of its request is. -/
def Enters (c : Instr) (r : Req) (opcode : Nat) (payload : Bytes) : Prop :=
  ∃ (unit : Bool) (fixed : Nat) (role : Nat → Bool), ∀ s t,
    s.enter r unit opcode payload fixed role = .isOver t → exec c s = .next t

theorem enters_of_request
    (h : ∀ s, exec c s = .next (s.request r unit opcode payload fixed role act)) : Enters c r opcode payload :=
  ⟨unit, fixed, role, fun s _ e => (h s).trans (congrArg _ (State.request_of_over e))⟩

theorem enters_of_writeReq (h : ∀ s, exec c s = .next (s.writeReq r unit index sub value role act)) :
    Enters c r 0x11 (writePayload r index sub 0 value) := enters_of_request h

theorem enters_of_liveReq (h : ∀ s, exec c s = .next (s.liveReq r unit index sub value role cmd act)) :
    Enters c r 0x11 (writePayload r index sub 0 value) :=
  ⟨unit, 8, role, fun s _ e => (h s).trans (congrArg _ (State.liveReq_of_over e))⟩

theorem enters_of_latchReq {read : State → Answer}
    (h : ∀ s, exec c s = .next (s.latchReq r opcode payload fixed cmd read)) : Enters c r opcode payload :=
  ⟨true, fixed, anyRole, fun s _ e => (h s).trans (congrArg _ (State.latchReq_of_over e))⟩

/-- Every request in a session enters it before anything else. -/
theorem requestOf_enters (h : requestOf c = some (r, opcode, payload)) : Enters c r opcode payload := by
  cases c with
  | closeRequest =>
    cases h
    exact ⟨false, 0, anyRole, fun s t e => by rw [exec, execCloseRequest, e]⟩
  | commit =>
    cases h
    exact ⟨false, 0, operator, fun s t e => by rw [exec, execCommit, e]⟩
  | loadBegin =>
    cases h
    exact ⟨false, 1092, engineer, fun s t e => by rw [exec, execLoadBegin, e]⟩
  | loadData =>
    cases h
    exact ⟨false, 5, engineer, fun s t e => by rw [exec, execLoadData, e]⟩
  | loadEnd =>
    cases h
    exact ⟨false, 0, engineer, fun s t e => by rw [exec, execLoadEnd, e]⟩
  | keySet =>
    cases h
    exact ⟨false, 52, commissioning, fun s t e => by rw [exec, execKeySet, e]⟩
  | read | readList =>
    cases h
    exact enters_of_latchReq fun _ => rfl
  | keepalive | discard | logRead | stepAnnounce | rawSend =>
    cases h
    exact enters_of_request fun _ => rfl
  | renewRing | safeObjectWrite =>
    cases h
    exact enters_of_writeReq fun _ => rfl
  | faultAcknowledge | softwareReset | bindOff | ringArm | ringSoftwareTrigger | softwareTrigger | auxCoilCommand
  | stepRequest | fabricStop | learnedStateReset | balanceEnable | leaseWrite | safetyInputReset | safetySetConfirm
  | safetySetRevert | proofTestAutomated | proofTestRecord | proofTestTrip | proofTestUvrDrop | handOverRequest
  | rejoinRequest | stepAccept | incrementWrite | timeStepRequest | controllerMode | recoverRequest | hostEngineClaim
  | hostEngineRelease | recoveryRequest =>
    cases h
    exact enters_of_liveReq fun _ => rfl
  | _ => cases h

/-- A refusal answers its request with its status and an empty payload. -/
theorem State.refuse_answered (s : State) (r : Req) (unit : Bool) (key : Option Bytes) (opcode status : Nat) :
    Answered (s.refuse r unit key opcode status) r opcode status [] := by
  refine ⟨(s.formMsg r unit key opcode status []).1, rfl, rfl, rfl, rfl, rfl, ?_, fun h => State.deliver_last _ _ _ h⟩
  simp only [State.formMsg, State.respFlags]
  cases unit <;> cases r.shortMac <;> cases s.ty.sideB <;> simp [b2n]

theorem State.refuse_arrived (s : State) (r : Req) (unit : Bool) (key : Option Bytes) (opcode status : Nat) :
    Answered ((s.arrived r).refuse r unit key opcode status) r opcode status [] ∧
      Moves [] s ((s.arrived r).refuse r unit key opcode status) :=
  ⟨State.refuse_answered .., Moves.self.arrived.refuse⟩

end

/-- Settles O56: each failing check is a branch of the entry, which every request runs first. -/
theorem requestChecks : Obligations.RequestChecks := by
  intro c s r op p hc hcore hcp hserves
  obtain ⟨unit, fixed, role, hover⟩ := requestOf_enters hc
  have h : s.Hears r := ⟨hcore, hcp, hserves⟩
  refine ⟨fun hl => hover _ _ (State.enter_of_error h (State.sessionCheck_of_length hl)), fun hl => ⟨fun hx => ?_,
    fun x hx => ⟨fun hm => ?_, fun hm => ?_⟩⟩⟩
  · have e := State.sessionCheck_of_unknown (unit := unit) (opcode := op) hl ((State.arrived_session (r := r) _).trans hx)
    exact ⟨_, hover _ _ (State.enter_of_error h e), State.refuse_arrived ..⟩
  · exact hover _ _ (State.enter_of_error h
      (State.sessionCheck_of_mac hl ((State.arrived_session (r := r) _).trans hx) hm))
  · have ha : (s.arrived r).Authentic r op p x := State.Authentic.arrived ⟨hl, hx, hm⟩
    refine ⟨fun hk => ?_, fun hk hv => ?_, fun hk hv => ⟨fun hq => ?_, fun m hq h0 hcached => ?_⟩⟩
    · exact ⟨_, hover _ _ (State.enter_of_error h (State.sessionCheck_of_source ha hk)), State.refuse_arrived ..⟩
    · exact ⟨_, hover _ _ (State.enter_of_error h (State.sessionCheck_of_version ha hk hv)), State.refuse_arrived ..⟩
    · exact ⟨_, hover _ _ (State.enter_of_old h (State.sessionCheck_of_good ha hk hv) hq), State.refuse_arrived ..⟩
    · refine ⟨_, hover _ _ (State.enter_of_highest h (State.sessionCheck_of_good ha hk hv) hq h0), fun hsrc => ?_,
        Moves.self.arrived.repeated⟩
      simp only [State.repeated, hcached]
      exact State.deliver_last _ _ _ hsrc

end Sys2Proof.Machine
end

section
/-! What each operation and each command may change of the state beside the traffic: one lemma per definition of the model,
in the model's order. -/

namespace Sys2Proof.Machine

section
set_option Elab.async false
variable {ps : List Part} {s u : State}

theorem Moves.cfgPut (hm : Moves ps s u) {index : Nat} {sub : Nat} {v : Nat} (hp : [.cfg] ⊆ ps := by decide) :
    Moves ps s (u.cfgPut index sub v) :=
  hm.then (ps := [.cfg]) (Moves.self.modCfg (by decide) _) hp

theorem Moves.modCtl (hm : Moves ps s u) {k : Nat} {f : CanCtl → CanCtl} (hp : [.cn] ⊆ ps := by decide) :
    Moves ps s (u.modCtl k f) :=
  hm.then (ps := [.cn]) (Moves.self.modCn (by decide) _) hp

theorem Moves.modSfp (hm : Moves ps s u) {port : Nat} {f : Sfp → Sfp} (hp : [.en] ⊆ ps := by decide) :
    Moves ps s (u.modSfp port f) :=
  hm.then (ps := [.en]) (Moves.self.modEn (by decide) _) hp

theorem Moves.progKick (hm : Moves ps s u) (hp : [.ld] ⊆ ps := by decide) :
    Moves ps s u.progKick :=
  hm.then (ps := [.ld]) (.ite (Moves.self.modLd (by decide) _) Moves.self) hp

theorem Moves.releaseEngines (hm : Moves ps s u) {num : Nat} (hp : [.fm, .ck] ⊆ ps := by decide) :
    Moves ps s (releaseEngines num u) :=
  hm.then (ps := [.fm, .ck]) (Moves.self.trans (.foldl (fun _ _ =>
      (.ite ((Moves.self.modCk (by decide) _).raiseEvent (by decide) _ _) Moves.self)) _ _)) hp

theorem Moves.loadAbort (hm : Moves ps s u) (hp : [.ld] ⊆ ps := by decide) :
    Moves ps s u.loadAbort :=
  hm.then (ps := [.ld]) (.ite (Moves.self.modLd (by decide) _) Moves.self) hp

theorem Moves.closeSession (hm : Moves ps s u) {num : Nat} (hp : [.fm, .sy, .ck, .ld] ⊆ ps := by decide) :
    Moves ps s (u.closeSession num) := by
  refine hm.then (ps := [.fm, .sy, .ck, .ld]) ?_ hp
  unfold State.closeSession
  split
  · exact .self
  · exact ((Moves.self.modSy (by decide) _).releaseEngines).trans (.ite (Moves.self.loadAbort) Moves.self)

theorem Moves.ok (hm : Moves ps s u) :
    Moves ps s (ok u).1 :=
  hm.then (ps := []) .self (List.nil_subset _)

theorem Moves.no (hm : Moves ps s u) {status : Nat} :
    Moves ps s (no u status).1 :=
  hm.then (ps := []) .self (List.nil_subset _)

theorem Moves.liveAnswer (hm : Moves ps s u) {l : Live} :
    Moves ps s (u.liveAnswer l) := by
  refine hm.then (ps := []) ?_ (List.nil_subset _)
  unfold State.liveAnswer
  split
  · exact .self
  · split
    · dsimp only
      split
      · exact (Moves.self.pushSlot).answerSlot
      · exact (Moves.self.pushSlot).finish
    · dsimp only
      split
      · exact Moves.self.pushSlot
      · exact (Moves.self.pushSlot).finish

theorem Moves.liveAnswers (hm : Moves ps s u) (hp : [.sy] ⊆ ps := by decide) :
    Moves ps s u.liveAnswers :=
  hm.then (ps := [.sy]) ((Moves.self.modSy (by decide) _).trans (.foldl (fun _ _ => (Moves.self.liveAnswer)) _ _)) hp

theorem Moves.requestPullIn (hm : Moves ps s u) {n : Nat} (hp : [.pm] ⊆ ps := by decide) :
    Moves ps s (u.requestPullIn n) :=
  hm.then (ps := [.pm]) (.ite Moves.self (Moves.self.modPm (by decide) _)) hp

theorem Moves.runPast (hm : Moves ps s u) {t : Option Stamp} {after : Nat} (hp : [.tb] ⊆ ps := by decide) :
    Moves ps s (u.runPast t after) := by
  refine hm.then (ps := [.tb]) ?_ hp
  unfold State.runPast
  split
  · exact .ite (Moves.self.runTo (by decide) _) Moves.self
  · exact .self

theorem Moves.safeOff (hm : Moves ps s u) (hp : [.pm, .pc, .de, .os, .nv] ⊆ ps := by decide) :
    Moves ps s u.safeOff :=
  hm.then (ps := [.pm, .pc, .de, .os, .nv]) (.ite (Moves.self.trans
      (.foldl (fun _ _ => (Moves.self.coilOff (by decide) (by decide) _)) _ _))
      (Moves.self.dropCoils (by decide) (by decide) (by decide) (by decide) (by decide))) hp

theorem Moves.startPulse (hm : Moves ps s u) (hp : [.si, .os] ⊆ ps := by decide) :
    Moves ps s u.startPulse :=
  hm.then (ps := [.si, .os]) (.ite Moves.self (.ite (Moves.self.modOs (by decide) _)
      ((Moves.self.modOs (by decide) _).modSi (by decide) _))) hp

theorem Moves.askPulse (hm : Moves ps s u) (hp : [.si, .os] ⊆ ps := by decide) :
    Moves ps s u.askPulse :=
  hm.then (ps := [.si, .os]) ((Moves.self.modSi (by decide) _).trans (.ite .self (Moves.self.modOs (by decide) _))) hp

theorem Moves.dropUvr (hm : Moves ps s u) (hp : [.os] ⊆ ps := by decide) :
    Moves ps s u.dropUvr :=
  hm.then (ps := [.os]) (Moves.self.modOs (by decide) _) hp

theorem Moves.allSafe (hm : Moves ps s u) (hp : [.pm, .pc, .de, .si, .os, .nv] ⊆ ps := by decide) :
    Moves ps s u.allSafe :=
  hm.then (ps := [.pm, .pc, .de, .si, .os, .nv]) ((((Moves.self.safeOff).dropUvr).modOs (by decide) _).modSi (by decide) _) hp

theorem Moves.takeCommands (hm : Moves ps s u) (hp : [.pm, .si, .os] ⊆ ps := by decide) :
    Moves ps s u.takeCommands :=
  hm.then (ps := [.pm, .si, .os]) ((Moves.self.modOs (by decide) _).trans
      ((Moves.ite (Moves.self.modPm (by decide) _) Moves.self).startPulse)) hp

theorem Moves.cutOutputs (hm : Moves ps s u) (hp : [.si, .os] ⊆ ps := by decide) :
    Moves ps s u.cutOutputs :=
  hm.then (ps := [.si, .os]) ((Moves.self.modOs (by decide) _).startPulse) hp

theorem Moves.take (hm : Moves ps s u) {a : Action} (hp : [.pm, .pc, .de, .si, .os, .nv] ⊆ ps := by decide) :
    Moves ps s (u.take a) := by
  refine hm.then (ps := [.pm, .pc, .de, .si, .os, .nv]) ?_ hp
  unfold State.take
  split
  · split
    · exact (Moves.self.safeOff).modSi (by decide) _
    · exact ((Moves.self.safeOff).modSi (by decide) _).trans (.ite ((Moves.self.dropUvr).askPulse) Moves.self)
    · exact (((Moves.self.safeOff).modSi (by decide) _).dropUvr).askPulse
    · exact ((Moves.self.safeOff).modSi (by decide) _).dropUvr
  · split
    · exact (Moves.self.dropCoils (by decide) (by decide) (by decide) (by decide) (by decide)).modSi (by decide) _
    · exact ((Moves.self.dropCoils (by decide) (by decide) (by decide) (by decide) (by decide)).modSi (by decide) _).trans
          (.ite ((Moves.self.dropUvr).askPulse) Moves.self)
    · exact (((Moves.self.dropCoils (by decide) (by decide) (by decide) (by decide) (by decide)).modSi (by decide)
          _).dropUvr).askPulse
    · exact ((Moves.self.dropCoils (by decide) (by decide) (by decide) (by decide) (by decide)).modSi (by decide) _).dropUvr

theorem Moves.modSin (hm : Moves ps s u) {n : Nat} {f : Sin → Sin} (hp : [.si] ⊆ ps := by decide) :
    Moves ps s (u.modSin n f) :=
  hm.then (ps := [.si]) (Moves.self.modSi (by decide) _) hp

theorem Moves.sampleInput (hm : Moves ps s u) {levels : Nat} {n : Nat} (hp : [.si] ⊆ ps := by decide) :
    Moves ps s (u.sampleInput levels n) :=
  hm.then (ps := [.si]) (.ite (Moves.self.modSin) (Moves.self.modSin)) hp

theorem Moves.inputFaults (hm : Moves ps s u) (hp : [.fm] ⊆ ps := by decide) :
    Moves ps s u.inputFaults := by
  refine hm.then (ps := [.fm]) ?_ hp
  unfold State.inputFaults
  dsimp only
  exact ((Moves.self.cond (by decide) _ _ _).cond (by decide) _ _ _).cond (by decide) _ _ _

theorem Goes.safetyInputSample (hm : Moves ps s u) {levels : Nat} (hp : [.fm, .si] ⊆ ps := by decide) :
    Goes ps s (execSafetyInputSample levels u) :=
  hm.goes (ps := [.fm, .si]) (.next (((Moves.self.trans (.foldl (fun _ _ => (Moves.self.sampleInput)) _ _)).modSi (by decide)
      _).inputFaults)) hp

theorem Goes.testPulseStart (hm : Moves ps s u) (hp : [.si] ⊆ ps := by decide) :
    Goes ps s (execTestPulseStart u) :=
  hm.goes (ps := [.si]) (.next (Moves.self.modSi (by decide) _)) hp

theorem Moves.gridInput (hm : Moves ps s u) {n : Nat} (hp : [.fm, .si] ⊆ ps := by decide) :
    Moves ps s (u.gridInput n) :=
  hm.then (ps := [.fm, .si]) (.ite (Moves.self.modSin) (.ite
      ((Moves.self.modSin).trans (.ite (Moves.self.raiseCond (by decide) _ _) Moves.self)) (Moves.self.modSin))) hp

theorem Goes.discrepancyGridTick (hm : Moves ps s u) (hp : [.fm, .si] ⊆ ps := by decide) :
    Goes ps s (execDiscrepancyGridTick u) :=
  hm.goes (ps := [.fm, .si]) (.next (Moves.self.trans (.foldl (fun _ _ => (Moves.self.gridInput)) _ _))) hp

theorem Moves.inputReset (hm : Moves ps s u) {bits : Nat} (hp : [.fm, .si] ⊆ ps := by decide) :
    Moves ps s (u.inputReset bits).1 :=
  hm.then (ps := [.fm, .si]) (.iteFst (Moves.self.no) (((Moves.self.trans (.foldl (fun _ _ => (Moves.self.modSin)) _ _)).cond
      (by decide) _ _ _).ok)) hp

theorem Goes.safetyInputReset (hm : Moves ps s u) {r : Req} {bits : Nat} (hp : [.fm, .si, .sy] ⊆ ps := by decide) :
    Goes ps s (execSafetyInputReset r bits u) :=
  hm.goes (ps := [.fm, .si, .sy]) (.next (Moves.self.liveReq (fun _ _ => (Moves.self.inputReset)))) hp

theorem Moves.latchDemands (hm : Moves ps s u) {kept : Bool} (hp : [.si] ⊆ ps := by decide) :
    Moves ps s (u.latchDemands kept) :=
  hm.then (ps := [.si]) (Moves.self.modSi (by decide) _) hp

theorem Moves.act (hm : Moves ps s u) {begins : Bool} {a : Action} (hp : [.pm, .pc, .de, .si, .os, .nv] ⊆ ps := by decide) :
    Moves ps s (u.act begins a) := by
  refine hm.then (ps := [.pm, .pc, .de, .si, .os, .nv]) ?_ hp
  unfold State.act
  refine .ite (Moves.self.take) ?_
  split
  · exact Moves.self.dropCoils (by decide) (by decide) (by decide) (by decide) (by decide)
  · exact .ite (((Moves.self.dropCoils (by decide) (by decide) (by decide) (by decide) (by decide)).dropUvr).askPulse)
        (Moves.self.dropCoils (by decide) (by decide) (by decide) (by decide) (by decide))
  · exact ((Moves.self.dropCoils (by decide) (by decide) (by decide) (by decide) (by decide)).dropUvr).askPulse
  · exact (Moves.self.safeOff).dropUvr

theorem Moves.unblock (hm : Moves ps s u) (hp : [.si] ⊆ ps := by decide) :
    Moves ps s u.unblock :=
  hm.then (ps := [.si]) (Moves.self.modSi (by decide) _) hp

theorem Moves.restoreUvr (hm : Moves ps s u) (hp : [.os] ⊆ ps := by decide) :
    Moves ps s u.restoreUvr :=
  hm.then (ps := [.os]) (.ite (Moves.self.modOs (by decide) _) Moves.self) hp

theorem Moves.functionFaults (hm : Moves ps s u) {d : Nat} (hp : [.fm] ⊆ ps := by decide) :
    Moves ps s (u.functionFaults d) :=
  hm.then (ps := [.fm]) (((((Moves.self.cond (by decide) _ _ _).cond (by decide) _ _ _).cond (by decide) _ _ _).cond
      (by decide) _ _ _).cond (by decide) _ _ _) hp

theorem Moves.safetyCommit (hm : Moves ps s u) {twin : Nat} (hp : [.fm, .pm, .pc, .de, .si, .os, .nv] ⊆ ps := by decide) :
    Moves ps s (u.safetyCommit twin) :=
  hm.then (ps := [.fm, .pm, .pc, .de, .si, .os, .nv]) ((((((Moves.ite (Moves.self.take) Moves.self).trans
      (.foldl (fun _ _ => (.ite (Moves.self.act) Moves.self)) _ _)).modSi (by decide) _).functionFaults).unblock).trans
      (.ite .self (Moves.self.restoreUvr))) hp

theorem Goes.chargeBlockTimeout (hm : Moves ps s u) (hp : [.si] ⊆ ps := by decide) :
    Goes ps s (execChargeBlockTimeout u) :=
  hm.goes (ps := [.si]) (.next (.ite (Moves.self.modSi (by decide) _) Moves.self)) hp

theorem Moves.chargeBlockRow (hm : Moves ps s u) (hp : [.si] ⊆ ps := by decide) :
    Moves ps s u.chargeBlockRow :=
  hm.then (ps := [.si]) (.ite (Moves.self.modSi (by decide) _) (Moves.self.modSi (by decide) _)) hp

theorem Moves.assertXtripOut (hm : Moves ps s u) (hp : [.si] ⊆ ps := by decide) :
    Moves ps s u.assertXtripOut :=
  hm.then (ps := [.si]) (.ite (Moves.self.modSi (by decide) _) Moves.self) hp

theorem Goes.xtripInAssert (hm : Moves ps s u) (hp : [.fm, .pm, .pc, .de, .si, .os, .nv] ⊆ ps := by decide) :
    Goes ps s (execXtripInAssert u) :=
  hm.goes (ps := [.fm, .pm, .pc, .de, .si, .os, .nv]) (.next
      (.ite ((((Moves.self.take).cutOutputs).modSi (by decide) _).raiseCond (by decide) _ _) Moves.self)) hp

theorem Goes.xtripInRelease (hm : Moves ps s u) (hp : [.fm, .si] ⊆ ps := by decide) :
    Goes ps s (execXtripInRelease u) :=
  hm.goes (ps := [.fm, .si]) (.next ((Moves.self.modSi (by decide) _).clearCond (by decide) _)) hp

theorem Goes.xtripConfirmTimeout (hm : Moves ps s u) (hp : [.si] ⊆ ps := by decide) :
    Goes ps s (execXtripConfirmTimeout u) :=
  hm.goes (ps := [.si]) (.next (.ite (Moves.self.modSi (by decide) _) Moves.self)) hp

theorem Goes.xtripOutHoldEnd (hm : Moves ps s u) (hp : [.si] ⊆ ps := by decide) :
    Goes ps s (execXtripOutHoldEnd u) :=
  hm.goes (ps := [.si]) (.next (Moves.self.modSi (by decide) _)) hp

theorem Moves.outputFaultAt (hm : Moves ps s u) {code : Nat} {item : Nat} (hp : [.fm, .os] ⊆ ps := by decide) :
    Moves ps s (u.outputFaultAt code item) :=
  hm.then (ps := [.fm, .os]) ((Moves.self.modOs (by decide) _).raiseCond (by decide) _ _) hp

theorem Moves.stuckClosed (hm : Moves ps s u) {n : Nat} {bitNo : Nat} (hp : [.fm, .pm, .os] ⊆ ps := by decide) :
    Moves ps s (u.stuckClosed n bitNo) :=
  hm.then (ps := [.fm, .pm, .os]) (((Moves.ite ((Moves.self.coilOff (by decide) (by decide) _).modCoil (by decide) _ _)
      (Moves.self.dropUvr)).modOs (by decide) _).outputFaultAt) hp

theorem Moves.coilRow (hm : Moves ps s u) {l : RowLatch} {n : Nat} (hp : [.fm, .pm, .os] ⊆ ps := by decide) :
    Moves ps s (u.coilRow l n) :=
  hm.then (ps := [.fm, .pm, .os]) ((Moves.self.modCoil (by decide) _ _).trans
      (.ite (.ite (Moves.self.modCoil (by decide) _ _) (.ite (Moves.self.modCoil (by decide) _ _)
      (.ite (((Moves.self.coilOff (by decide) (by decide) _).modCoil (by decide) _ _).outputFaultAt)
      ((Moves.self.modCoil (by decide) _ _).outputFaultAt))))
      ((Moves.self.modCoil (by decide) _ _).trans (.ite ((Moves.self.modCoil (by decide) _ _).trans
      (.ite (Moves.self.outputFaultAt) Moves.self)) ((Moves.self.modCoil (by decide) _ _).trans
      (.ite (Moves.self.stuckClosed) Moves.self)))))) hp

theorem Moves.coilConditionsEnd (hm : Moves ps s u) (hp : [.fm] ⊆ ps := by decide) :
    Moves ps s u.coilConditionsEnd :=
  hm.then (ps := [.fm]) ((Moves.ite (Moves.self.clearCond (by decide) _) Moves.self).trans
      (.ite (Moves.self.clearCond (by decide) _) Moves.self)) hp

theorem Moves.outputRow (hm : Moves ps s u) {l : RowLatch} (hp : [.fm, .pm, .os] ⊆ ps := by decide) :
    Moves ps s (u.outputRow l) :=
  hm.then (ps := [.fm, .pm, .os]) ((((((Moves.self.clearCond (by decide) _).trans
      (.foldl (fun _ _ => (Moves.self.coilRow)) _ _)).coilConditionsEnd).modOs (by decide) _).modOs (by decide) _).trans
      ((Moves.ite (Moves.self.clearCond (by decide) _) Moves.self).trans
      (.ite (Moves.self.clearCond (by decide) _) (.ite (Moves.self.outputFaultAt) Moves.self)))) hp

theorem Goes.offPulseTest (hm : Moves ps s u) (hp : [.os] ⊆ ps := by decide) :
    Goes ps s (execOffPulseTest u) :=
  hm.goes (ps := [.os]) (.next (.ite (Moves.self.modOs (by decide) _) Moves.self)) hp

theorem Goes.offPulseEnd (hm : Moves ps s u) {changed : Bool} (hp : [.fm, .pm, .os] ⊆ ps := by decide) :
    Goes ps s (execOffPulseEnd changed u) := by
  refine hm.goes (ps := [.fm, .pm, .os]) ?_ hp
  unfold execOffPulseEnd
  split
  · exact .next Moves.self
  · exact (Moves.self.modOs (by decide) _).goes (.ite (.next Moves.self)
        ((Moves.ite (Moves.self.modOs (by decide) _) (.ite (Moves.self.modOs (by decide) _)
        (Moves.self.modCoil (by decide) _ _))).goes (.next (.ite (Moves.self.stuckClosed) Moves.self)) (List.Subset.refl _)))
        (List.Subset.refl _)

theorem Goes.tripSwitchTest (hm : Moves ps s u) {switch : Nat} {good : Bool} (hp : [.fm, .os] ⊆ ps := by decide) :
    Goes ps s (execTripSwitchTest switch good u) :=
  hm.goes (ps := [.fm, .os]) (.ite (.next Moves.self) ((Moves.self.modOs (by decide) _).goes
      (.next (.ite (Moves.self.outputFaultAt) (Moves.self.clearCond (by decide) _))) (List.Subset.refl _))) hp

theorem Goes.tripContinuityTimeout (hm : Moves ps s u) (hp : [.fm, .os] ⊆ ps := by decide) :
    Goes ps s (execTripContinuityTimeout u) :=
  hm.goes (ps := [.fm, .os]) (.next ((Moves.self.modOs (by decide) _).outputFaultAt)) hp

theorem Goes.tripPulseEnd (hm : Moves ps s u) (hp : [.os] ⊆ ps := by decide) :
    Goes ps s (execTripPulseEnd u) :=
  hm.goes (ps := [.os]) (.next (Moves.self.modOs (by decide) _)) hp

theorem Goes.tripPulseRepeat (hm : Moves ps s u) {faMa : Int} (hp : [.os, .tb] ⊆ ps := by decide) :
    Goes ps s (execTripPulseRepeat faMa u) :=
  hm.goes (ps := [.os, .tb]) (.next (.ite ((Moves.self.runPast).modOs (by decide) _) Moves.self)) hp

theorem Goes.coilShortCircuit (hm : Moves ps s u) {coil : Nat} (hp : [.fm, .pm, .os] ⊆ ps := by decide) :
    Goes ps s (execCoilShortCircuit coil u) :=
  hm.goes (ps := [.fm, .pm, .os]) (.next (((Moves.self.coilOff (by decide) (by decide) _).modCoil (by decide) _
      _).outputFaultAt)) hp

theorem Goes.safeObjectWrite (hm : Moves ps s u) {r : Req} {index : Nat} {sub : Nat} {value : Bytes} {gateOk : Bool}
    (hp : [.fm, .si, .sy] ⊆ ps := by decide) :
    Goes ps s (execSafeObjectWrite r index sub value gateOk u) := by
  refine hm.goes (ps := [.fm, .si, .sy]) ?_ hp
  unfold execSafeObjectWrite
  refine .next (Moves.self.writeReq (fun _ _ => ?_))
  split
  · exact Moves.self.no
  · exact .iteFst (Moves.self.no) (.iteFst (Moves.self.no) (.iteFst (Moves.self.no)
        (.iteFst (Moves.self.no) (.iteFst ((Moves.self.raiseEvent (by decide) _ _).no)
        ((((Moves.self.modSi (by decide) _).modSi (by decide) _).raiseCond (by decide) _ _).ok)))))

theorem Moves.confirmSet (hm : Moves ps s u) {value : Nat} {twinAgrees : Bool} (hp : [.fm, .si, .nv, .lg] ⊆ ps := by decide) :
    Moves ps s (u.confirmSet value twinAgrees).1 :=
  hm.then (ps := [.fm, .si, .nv, .lg]) (.iteFst ((Moves.self.raiseEvent (by decide) _ _).no)
      (.iteFst ((Moves.self.raiseEvent (by decide) _ _).no) (((((Moves.self.modSi (by decide) _).clearCond (by decide)
      _).journal (by decide) _ _).logKind (by decide) (by decide) (by decide) _ _).ok))) hp

theorem Goes.safetySetConfirm (hm : Moves ps s u) {r : Req} {value : Nat} {twinAgrees : Bool}
    (hp : [.fm, .si, .sy, .nv, .lg] ⊆ ps := by decide) :
    Goes ps s (execSafetySetConfirm r value twinAgrees u) :=
  hm.goes (ps := [.fm, .si, .sy, .nv, .lg]) (.next (Moves.self.liveReq (fun _ _ => (Moves.self.confirmSet)))) hp

theorem Moves.revertSet (hm : Moves ps s u) (hp : [.fm, .si] ⊆ ps := by decide) :
    Moves ps s (u.revertSet).1 :=
  hm.then (ps := [.fm, .si]) (((Moves.self.modSi (by decide) _).modSi (by decide) _).trans
      ((Moves.ite (Moves.self.clearCond (by decide) _) Moves.self).ok)) hp

theorem Goes.safetySetRevert (hm : Moves ps s u) {r : Req} (hp : [.fm, .si, .sy] ⊆ ps := by decide) :
    Goes ps s (execSafetySetRevert r u) :=
  hm.goes (ps := [.fm, .si, .sy]) (.next (Moves.self.liveReq (fun _ _ => (Moves.self.revertSet)))) hp

theorem Moves.journal9 (hm : Moves ps s u) (hp : [.nv] ⊆ ps := by decide) :
    Moves ps s u.journal9 :=
  hm.then (ps := [.nv]) (Moves.self.journal (by decide) _ _) hp

theorem Moves.proofRun (hm : Moves ps s u) {failed : Option Nat} (hp : [.fm, .si, .nv] ⊆ ps := by decide) :
    Moves ps s (u.proofRun failed).1 := by
  refine hm.then (ps := [.fm, .si, .nv]) ?_ hp
  unfold State.proofRun
  refine .iteFst (Moves.self.no) ?_
  split
  · exact ((Moves.self.modSi (by decide) _).journal9).ok
  · exact (((Moves.self.modSi (by decide) _).journal9).raiseEvent (by decide) _ _).ok

theorem Goes.proofTestAutomated (hm : Moves ps s u) {r : Req} {failed : Option Nat}
    (hp : [.fm, .si, .sy, .nv] ⊆ ps := by decide) :
    Goes ps s (execProofTestAutomated r failed u) :=
  hm.goes (ps := [.fm, .si, .sy, .nv]) (.next (Moves.self.liveReq (fun _ _ => (Moves.self.proofRun)))) hp

theorem Moves.proofRecord (hm : Moves ps s u) (hp : [.fm, .si, .os, .nv] ⊆ ps := by decide) :
    Moves ps s (u.proofRecord).1 :=
  hm.then (ps := [.fm, .si, .os, .nv]) (.iteFst (Moves.self.no)
      (((((Moves.self.modSi (by decide) _).modOs (by decide) _).journal9).clearCond (by decide) _).ok)) hp

theorem Goes.proofTestRecord (hm : Moves ps s u) {r : Req} (hp : [.fm, .si, .os, .sy, .nv] ⊆ ps := by decide) :
    Goes ps s (execProofTestRecord r u) :=
  hm.goes (ps := [.fm, .si, .os, .sy, .nv]) (.next (Moves.self.liveReq (fun _ _ => (Moves.self.proofRecord)))) hp

theorem Moves.proofTrip (hm : Moves ps s u) (hp : [.si] ⊆ ps := by decide) :
    Moves ps s (u.proofTrip).1 :=
  hm.then (ps := [.si]) ((Moves.self.modSi (by decide) _).ok) hp

theorem Goes.proofTestTrip (hm : Moves ps s u) {r : Req} (hp : [.si, .sy] ⊆ ps := by decide) :
    Goes ps s (execProofTestTrip r u) :=
  hm.goes (ps := [.si, .sy]) (.next (Moves.self.liveReq (fun _ _ => (Moves.self.proofTrip)))) hp

theorem Moves.proofUvr (hm : Moves ps s u) (hp : [.os] ⊆ ps := by decide) :
    Moves ps s (u.proofUvr).1 :=
  hm.then (ps := [.os]) (((Moves.self.dropUvr).modOs (by decide) _).ok) hp

theorem Goes.proofTestUvrDrop (hm : Moves ps s u) {r : Req} (hp : [.os, .sy] ⊆ ps := by decide) :
    Goes ps s (execProofTestUvrDrop r u) :=
  hm.goes (ps := [.os, .sy]) (.next (Moves.self.liveReq (fun _ _ => (Moves.self.proofUvr)))) hp

theorem Goes.proofTestDueExpiry (hm : Moves ps s u) (hp : [.fm] ⊆ ps := by decide) :
    Goes ps s (execProofTestDueExpiry u) :=
  hm.goes (ps := [.fm]) (.next (.ite (Moves.self.raiseCond (by decide) _ _) Moves.self)) hp

theorem Moves.modDuty (hm : Moves ps s u) {d : Nat} {f : Duty → Duty} (hp : [.ca] ⊆ ps := by decide) :
    Moves ps s (u.modDuty d f) :=
  hm.then (ps := [.ca]) (Moves.self.modCa (by decide) _) hp

theorem Moves.modSlice (hm : Moves ps s u) {n : Nat} {f : Slice → Slice} (hp : [.ca] ⊆ ps := by decide) :
    Moves ps s (u.modSlice n f) :=
  hm.then (ps := [.ca]) (Moves.self.modCa (by decide) _) hp

theorem Moves.seqStep (hm : Moves ps s u) {d : Nat} (hp : [.ca] ⊆ ps := by decide) :
    Moves ps s (u.seqStep d) :=
  hm.then (ps := [.ca]) (.ite (Moves.self.modDuty) (Moves.self.modDuty)) hp

theorem Moves.d5Input (hm : Moves ps s u) {input : Nat} (hp : [.ca] ⊆ ps := by decide) :
    Moves ps s (u.d5Input input) :=
  hm.then (ps := [.ca]) (.ite (Moves.self.modDuty) Moves.self) hp

theorem Moves.overTrack (hm : Moves ps s u) {d : Nat} {isOver : Bool} (hp : [.fm, .ca] ⊆ ps := by decide) :
    Moves ps s (u.overTrack d isOver) :=
  hm.then (ps := [.fm, .ca]) ((Moves.self.modDuty).trans (.ite .self (Moves.self.clearCond (by decide) _))) hp

theorem Moves.keepOutgoing (hm : Moves ps s u) {d : Nat} {value : Int} {stamp : Nat} (hp : [.ca] ⊆ ps := by decide) :
    Moves ps s (u.keepOutgoing d value stamp) :=
  hm.then (ps := [.ca]) (.ite (Moves.self.modCa (by decide) _) Moves.self) hp

theorem Moves.storeResult (hm : Moves ps s u) {d : Nat} {value : Int} {stamp : Nat} (hp : [.fm, .ca] ⊆ ps := by decide) :
    Moves ps s (u.storeResult d value stamp) :=
  hm.then (ps := [.fm, .ca]) ((((Moves.self.keepOutgoing).modCa (by decide) _).modDuty).trans
      ((Moves.ite (Moves.self.seqStep) Moves.self).overTrack)) hp

theorem Moves.startModulators (hm : Moves ps s u) (hp : [.ca] ⊆ ps := by decide) :
    Moves ps s u.startModulators :=
  hm.then (ps := [.ca]) ((Moves.self.modCa (by decide) _).trans (.foldl (fun _ _ => (Moves.self.modDuty)) _ _)) hp

theorem Goes.dutyOverrangeTimeout (hm : Moves ps s u) {duty : Nat} (hp : [.fm, .ca] ⊆ ps := by decide) :
    Goes ps s (execDutyOverrangeTimeout duty u) :=
  hm.goes (ps := [.fm, .ca]) (.next (.ite ((Moves.self.modDuty).raiseCond (by decide) _ _) Moves.self)) hp

theorem Goes.captureTrigger (hm : Moves ps s u) {duty : Nat} (hp : [.fm, .ca] ⊆ ps := by decide) :
    Goes ps s (execCaptureTrigger duty u) := by
  refine hm.goes (ps := [.fm, .ca]) ?_ hp
  unfold execCaptureTrigger
  refine .next (.ite .self ?_)
  split
  · exact .self
  · exact (Moves.self.modDuty).trans (.ite ((Moves.self.modCa (by decide) _).raiseEvent (by decide) _ _) (Moves.self.modDuty))

theorem Moves.storeCapture (hm : Moves ps s u) {d : Nat} {value : Int} {stamp : Nat} (hp : [.ca] ⊆ ps := by decide) :
    Moves ps s (u.storeCapture d value stamp) :=
  hm.then (ps := [.ca]) ((Moves.self.modCa (by decide) _).modDuty) hp

theorem Moves.retire (hm : Moves ps s u) {n : Nat} (hp : [.fm, .ca] ⊆ ps := by decide) :
    Moves ps s (u.retire n) :=
  hm.then (ps := [.fm, .ca]) ((((Moves.self.modSlice).modCa (by decide) _).raiseEvent (by decide) _ _).trans
      (.ite (Moves.self.modCa (by decide) _) ((((Moves.self.modCa (by decide) _).modDuty).raiseCond (by decide) _ _).trans
      (.ite ((Moves.self.modDuty).raiseCond (by decide) _ _) Moves.self)))) hp

theorem Moves.interleave (hm : Moves ps s u) {fa : Matching} {fb : Matching} (hp : [.fm, .ca] ⊆ ps := by decide) :
    Moves ps s (u.interleave fa fb) :=
  hm.then (ps := [.fm, .ca]) ((Moves.self.modCa (by decide) _).cond (by decide) _ _ _) hp

theorem Goes.rotationStepBoundary (hm : Moves ps s u) {pairs : PairMatching} (hp : [.fm, .ca] ⊆ ps := by decide) :
    Goes ps s (execRotationStepBoundary pairs u) :=
  hm.goes (ps := [.fm, .ca]) (.ite (.next Moves.self) ((Moves.self.modCa (by decide) _).goes
      (.next (.ite (Moves.self.interleave) Moves.self)) (List.Subset.refl _))) hp

theorem Moves.refCheck (hm : Moves ps s u) {n : Nat} {dev : Int} (hp : [.fm, .ca] ⊆ ps := by decide) :
    Moves ps s (u.refCheck n dev) :=
  hm.then (ps := [.fm, .ca]) ((Moves.self.modCa (by decide) _).trans
      (.ite ((Moves.self.modSlice).trans (.ite (((Moves.ite Moves.self
      (Moves.self.trans (.foldl (fun _ _ => (Moves.self.modSlice)) _ _))).modCa (by decide) _).raiseCond (by decide) _ _)
      Moves.self)) ((Moves.self.modSlice).trans (.ite (Moves.self.clearCond (by decide) _) Moves.self)))) hp

theorem Goes.calibrationMeasurementDone (hm : Moves ps s u) {value : Int} (hp : [.fm, .ca] ⊆ ps := by decide) :
    Goes ps s (execCalibrationMeasurementDone value u) :=
  hm.goes (ps := [.fm, .ca]) (.ite (.next Moves.self) (((Moves.self.modCa (by decide) _).modSlice).goes
      (.ite (.next Moves.self) (((Moves.self.modSlice).refCheck).goes (.next (.ite (Moves.self.retire) Moves.self))
      (List.Subset.refl _))) (List.Subset.refl _))) hp

theorem Goes.handOverPhaseBegin (hm : Moves ps s u) (hp : [.ca, .tb] ⊆ ps := by decide) :
    Goes ps s (execHandOverPhaseBegin u) := by
  refine hm.goes (ps := [.ca, .tb]) ?_ hp
  unfold execHandOverPhaseBegin
  refine .ite (.next Moves.self) ?_
  split
  · exact .next Moves.self
  · exact .next ((Moves.self.runTo (by decide) _).modCa (by decide) _)

theorem Moves.switchDuty (hm : Moves ps s u) (hp : [.ca] ⊆ ps := by decide) :
    Moves ps s u.switchDuty :=
  hm.then (ps := [.ca]) (((Moves.self.modDuty).modCa (by decide) _).trans
      (.ite ((Moves.self.modDuty).modCa (by decide) _) (Moves.self.modCa (by decide) _))) hp

theorem Goes.handOverSwitch (hm : Moves ps s u) {incoming : List (Nat × Int)} (hp : [.fm, .ca, .tb] ⊆ ps := by decide) :
    Goes ps s (execHandOverSwitch incoming u) :=
  hm.goes (ps := [.fm, .ca, .tb]) (.next (.ite .self ((Moves.self.runTo (by decide) _).trans
      (.ite (Moves.self.modCa (by decide) _) (.ite (Moves.self.switchDuty)
      (((Moves.self.modCa (by decide) _).raiseEvent (by decide) _ _).trans
      (.ite (Moves.self.switchDuty) (Moves.self.modCa (by decide) _)))))))) hp

theorem Moves.deferHandOver (hm : Moves ps s u) {d : Nat} (hp : [.ca] ⊆ ps := by decide) :
    Moves ps s (u.deferHandOver d) :=
  hm.then (ps := [.ca]) (.ite (Moves.self.modCa (by decide) _) Moves.self) hp

theorem Moves.rotationPattern (hm : Moves ps s u) (hp : [.ca] ⊆ ps := by decide) :
    Moves ps s u.rotationPattern :=
  hm.then (ps := [.ca]) (.ite ((Moves.self.modDuty).modCa (by decide) _) Moves.self) hp

theorem Moves.precisionPattern (hm : Moves ps s u) (hp : [.ca] ⊆ ps := by decide) :
    Moves ps s u.precisionPattern :=
  hm.then (ps := [.ca]) (Moves.self.modCa (by decide) _) hp

theorem Moves.modPair (hm : Moves ps s u) {p : Nat} {f : Pair → Pair} (hp : [.ca] ⊆ ps := by decide) :
    Moves ps s (u.modPair p f) :=
  hm.then (ps := [.ca]) (Moves.self.modCa (by decide) _) hp

theorem Moves.ringTrigger (hm : Moves ps s u) {p : Nat} {ring : List Int} (hp : [.fm, .ca] ⊆ ps := by decide) :
    Moves ps s (u.ringTrigger p ring) :=
  hm.then (ps := [.fm, .ca]) (.ite ((Moves.self.modPair).raiseEvent (by decide) _ _)
      ((Moves.self.modPair).raiseEvent (by decide) _ _)) hp

theorem Goes.fastPairEvent (hm : Moves ps s u) {pair : Nat} {samples : List Int} {ring : List Int}
    (hp : [.fm, .pm, .ca, .pc, .de, .si, .os, .nv] ⊆ ps := by decide) :
    Goes ps s (execFastPairEvent pair samples ring u) :=
  hm.goes (ps := [.fm, .pm, .ca, .pc, .de, .si, .os, .nv]) (.ite (.next Moves.self)
      ((Moves.self.modPair).goes ((((Moves.ite ((Moves.self.modSi (by decide) _).take)
      ((Moves.self.modSi (by decide) _).take)).cutOutputs).assertXtripOut).goes
      (.next (.ite (Moves.self.ringTrigger) Moves.self)) (List.Subset.refl _)) (List.Subset.refl _))) hp

theorem Goes.sarStuckDetect (hm : Moves ps s u) {pair : Nat} {stuck : Bool} (hp : [.fm, .ca] ⊆ ps := by decide) :
    Goes ps s (execSarStuckDetect pair stuck u) :=
  hm.goes (ps := [.fm, .ca]) ((Moves.self.modPair).goes (.next
      (.ite (Moves.self.raiseCond (by decide) _ _) (.ite .self (Moves.self.clearCond (by decide) _)))) (List.Subset.refl _))
      hp

theorem Moves.ringArmAct (hm : Moves ps s u) {pair : Nat} (hp : [.ca] ⊆ ps := by decide) :
    Moves ps s (u.ringArmAct pair).1 :=
  hm.then (ps := [.ca]) (Moves.self.modPair).ok hp

theorem Goes.ringArm (hm : Moves ps s u) {r : Req} {pair : Nat} (hp : [.ca, .sy] ⊆ ps := by decide) :
    Goes ps s (execRingArm r pair u) :=
  hm.goes (ps := [.ca, .sy]) (.next (Moves.self.liveReq (fun _ _ => (Moves.self.ringArmAct)))) hp

theorem Goes.ringSoftwareTrigger (hm : Moves ps s u) {r : Req} {pair : Nat} {ring : List Int}
    (hp : [.fm, .ca, .sy] ⊆ ps := by decide) :
    Goes ps s (execRingSoftwareTrigger r pair ring u) :=
  hm.goes (ps := [.fm, .ca, .sy]) (.next (Moves.self.liveReq (fun _ _ => ((Moves.self.ringTrigger).ok)))) hp

theorem Moves.softTrigAct (hm : Moves ps s u) {lines : Nat} (hp : [.ca] ⊆ ps := by decide) :
    Moves ps s (u.softTrigAct lines).1 :=
  hm.then (ps := [.ca]) (.iteFst (Moves.self.no) ((Moves.self.modCa (by decide) _).ok)) hp

theorem Goes.softwareTrigger (hm : Moves ps s u) {r : Req} {lines : Nat} (hp : [.ca, .sy] ⊆ ps := by decide) :
    Goes ps s (execSoftwareTrigger r lines u) :=
  hm.goes (ps := [.ca, .sy]) (.next (Moves.self.liveReq (fun _ _ => (Moves.self.softTrigAct)))) hp

theorem Moves.pairPattern (hm : Moves ps s u) (hp : [.fm, .ca] ⊆ ps := by decide) :
    Moves ps s u.pairPattern :=
  hm.then (ps := [.fm, .ca]) ((Moves.self.modCa (by decide) _).cond (by decide) _ _ _) hp

theorem Moves.pairRow (hm : Moves ps s u) {l : RowLatch} (hp : [.ca] ⊆ ps := by decide) :
    Moves ps s (u.pairRow l) :=
  hm.then (ps := [.ca]) (Moves.self.modCa (by decide) _) hp

theorem Moves.hostWord (hm : Moves ps s u) {w : Nat} (hp : [.sy] ⊆ ps := by decide) :
    Moves ps s (u.hostWord w) :=
  hm.then (ps := [.sy]) (Moves.self.modSy (by decide) _) hp

theorem Moves.pairNow (hm : Moves ps s u) {slot : Nat} {code : Int} {stamp : Nat} (hp : [.ca] ⊆ ps := by decide) :
    Moves ps s (u.pairNow slot code stamp) :=
  hm.then (ps := [.ca]) (.ite (Moves.self.modPair) Moves.self) hp

theorem Goes.converterWord0Read (hm : Moves ps s u) {r : SlotRead} (hp : [.ca, .sy] ⊆ ps := by decide) :
    Goes ps s (execConverterWord0Read r u) :=
  hm.goes (ps := [.ca, .sy]) (.next (.ite .self (((Moves.self.pairNow).modCa (by decide) _).hostWord))) hp

theorem Goes.converterWord1Read (hm : Moves ps s u) {r : SlotRead} (hp : [.ca, .sy] ⊆ ps := by decide) :
    Goes ps s (execConverterWord1Read r u) := by
  refine hm.goes (ps := [.ca, .sy]) ?_ hp
  unfold execConverterWord1Read
  refine .next (.ite .self ?_)
  split
  · exact (Moves.self.modCa (by decide) _).hostWord
  · exact (Moves.self.pairNow).hostWord

theorem Moves.modPat (hm : Moves ps s u) {stamp : Nat} {f : PatResults → PatResults} (hp : [.ss] ⊆ ps := by decide) :
    Moves ps s (u.modPat stamp f) :=
  hm.then (ps := [.ss]) (Moves.self.modSs (by decide) _) hp

theorem Moves.shuntTemp (hm : Moves ps s u) {o : Option Int} (hp : [.fm, .ss] ⊆ ps := by decide) :
    Moves ps s (u.shuntTemp o) := by
  refine hm.then (ps := [.fm, .ss]) ?_ hp
  unfold State.shuntTemp
  split
  · exact ((Moves.self.modSs (by decide) _).modSs (by decide) _).raiseCond (by decide) _ _
  · exact (((Moves.self.modSs (by decide) _).modSs (by decide) _).clearCond (by decide) _).cond (by decide) _ _ _

theorem Moves.judgeHall (hm : Moves ps s u) (hp : [.fm, .ss] ⊆ ps := by decide) :
    Moves ps s u.judgeHall :=
  hm.then (ps := [.fm, .ss]) ((Moves.self.modSs (by decide) _).cond (by decide) _ _ _) hp

theorem Moves.d1Result (hm : Moves ps s u) {value : Int} {settle : Bool} {stamp : Nat} (hp : [.fm, .ss] ⊆ ps := by decide) :
    Moves ps s (u.d1Result value settle stamp) :=
  hm.then (ps := [.fm, .ss]) (.ite Moves.self (.ite ((Moves.self.modSs (by decide) _).judgeHall)
      ((Moves.self.modSs (by decide) _).trans ((Moves.ite Moves.self (Moves.self.modPat)).judgeHall)))) hp

theorem Goes.hallNoResultTimeout (hm : Moves ps s u) (hp : [.fm, .ss] ⊆ ps := by decide) :
    Goes ps s (execHallNoResultTimeout u) :=
  hm.goes (ps := [.fm, .ss]) (.next ((Moves.self.modSs (by decide) _).judgeHall)) hp

theorem Moves.gapResult (hm : Moves ps s u) {i : ℚ} {dq : ℚ} {dt : Nat} {stamp : Nat} (hp : [.fm, .ss] ⊆ ps := by decide) :
    Moves ps s (u.gapResult i dq dt stamp) :=
  hm.then (ps := [.fm, .ss]) (((Moves.self.modPat).modSs (by decide) _).trans
      (.ite (Moves.self.raiseCond (by decide) _ _) Moves.self)) hp

theorem Moves.goodResult (hm : Moves ps s u) {value : Int} {i : ℚ} {stamp : Nat} (hp : [.fm, .ss] ⊆ ps := by decide) :
    Moves ps s (u.goodResult value i stamp) :=
  hm.then (ps := [.fm, .ss]) ((((Moves.self.modPat).modSs (by decide) _).clearCond (by decide) _).clearCond (by decide) _) hp

theorem Moves.d0Result (hm : Moves ps s u) {value : Int} {settle : Bool} {stamp : Nat} (hp : [.fm, .ss] ⊆ ps := by decide) :
    Moves ps s (u.d0Result value settle stamp).1 :=
  hm.then (ps := [.fm, .ss]) (((Moves.self.modSs (by decide) _).cond (by decide) _ _ _).trans
      (.iteFst Moves.self ((Moves.self.modSs (by decide) _).trans (.ite (Moves.self.gapResult) (Moves.self.goodResult))))) hp

theorem Goes.blindGapTimeout (hm : Moves ps s u) (hp : [.fm] ⊆ ps := by decide) :
    Goes ps s (execBlindGapTimeout u) :=
  hm.goes (ps := [.fm]) (.next (.ite (Moves.self.raiseCond (by decide) _ _) Moves.self)) hp

theorem Goes.chargeJournalWrite (hm : Moves ps s u) (hp : [.nv] ⊆ ps := by decide) :
    Goes ps s (execChargeJournalWrite u) :=
  hm.goes (ps := [.nv]) (.next (Moves.self.journal (by decide) _ _)) hp

theorem Moves.voltResult (hm : Moves ps s u) {d : Nat} {value : Int} {settle : Bool} {stamp : Nat}
    (hp : [.ss] ⊆ ps := by decide) :
    Moves ps s (u.voltResult d value settle stamp) :=
  hm.then (ps := [.ss]) Moves.self.modPat hp

theorem Moves.dividerPass (hm : Moves ps s u) {tap : Nat} {gain : Nat} {value : Int} (hp : [.fm, .ca, .ss] ⊆ ps := by decide) :
    Moves ps s (u.dividerPass tap gain value) :=
  hm.then (ps := [.fm, .ca, .ss]) (.ite Moves.self (.ite ((Moves.self.modSs (by decide) _).trans
      (.ite ((Moves.self.modCa (by decide) _).raiseCond (by decide) _ _) Moves.self))
      ((Moves.self.modSs (by decide) _).trans (.ite (Moves.self.clearCond (by decide) _) Moves.self)))) hp

theorem Moves.monitorResult (hm : Moves ps s u) {input : Nat} {gain : Nat} {value : Int} {last : Bool}
    (hp : [.fm, .ca, .ss] ⊆ ps := by decide) :
    Moves ps s (u.monitorResult input gain value last) := by
  refine hm.then (ps := [.fm, .ca, .ss]) ?_ hp
  unfold State.monitorResult
  split
  · exact Moves.self.shuntTemp
  · exact (Moves.self.modSs (by decide) _).judgeHall
  · exact (Moves.self.modSs (by decide) _).judgeHall
  · exact .ite (Moves.self.dividerPass) Moves.self
  · exact .ite ((Moves.self.dividerPass).modSs (by decide) _) Moves.self
  · exact .self

theorem Goes.captureResult (hm : Moves ps s u) {duty : Nat} {levels : List (Nat × Int)} {stamp : Nat}
    (hp : [.ca, .ss] ⊆ ps := by decide) :
    Goes ps s (execCaptureResult duty levels stamp u) :=
  hm.goes (ps := [.ca, .ss]) (.ite (.next Moves.self) ((Moves.self.storeCapture).goes
      (.next (.ite (Moves.self.modSs (by decide) _) Moves.self)) (List.Subset.refl _))) hp

theorem Moves.crossCheck (hm : Moves ps s u) (hp : [.fm, .ss] ⊆ ps := by decide) :
    Moves ps s u.crossCheck := by
  refine hm.then (ps := [.fm, .ss]) ?_ hp
  unfold State.crossCheck
  split
  · exact .ite Moves.self (.ite ((Moves.self.modSs (by decide) _).trans
        (.ite ((Moves.self.modSs (by decide) _).raiseCond (by decide) _ _) Moves.self))
        ((Moves.self.modSs (by decide) _).clearCond (by decide) _))
  · exact .self

theorem Moves.publishMeans (hm : Moves ps s u) (hp : [.ss] ⊆ ps := by decide) :
    Moves ps s u.publishMeans :=
  hm.then (ps := [.ss]) (Moves.self.modSs (by decide) _) hp

theorem Moves.sensingPattern (hm : Moves ps s u) (hp : [.fm, .ss] ⊆ ps := by decide) :
    Moves ps s u.sensingPattern :=
  hm.then (ps := [.fm, .ss]) (((Moves.self.crossCheck).modSs (by decide) _).publishMeans) hp

theorem Moves.lateMeans (hm : Moves ps s u) {stamp : Nat} (hp : [.ss] ⊆ ps := by decide) :
    Moves ps s (u.lateMeans stamp) :=
  hm.then (ps := [.ss]) (.ite (Moves.self.publishMeans) Moves.self) hp

theorem Moves.emitToken (hm : Moves ps s u) {kind : Nat} {m : TokenMsg} :
    Moves ps s (u.emitToken kind m) :=
  hm.then (ps := []) (.ite Moves.self (Moves.self.sendTelemetry)) (List.nil_subset _)

theorem Moves.sendToken (hm : Moves ps s u) {kind : Nat} {target : Nat} :
    Moves ps s (u.sendToken kind target) :=
  hm.then (ps := []) Moves.self.emitToken (List.nil_subset _)

theorem Moves.voidCycle (hm : Moves ps s u) (hp : [.im] ⊆ ps := by decide) :
    Moves ps s u.voidCycle :=
  hm.then (ps := [.im]) (Moves.self.modIm (by decide) _) hp

theorem Moves.passToken (hm : Moves ps s u) (hp : [.im] ⊆ ps := by decide) :
    Moves ps s u.passToken := by
  refine hm.then (ps := [.im]) ?_ hp
  unfold State.passToken
  split
  · exact (Moves.self.modIm (by decide) _).sendToken
  · exact .self

theorem Moves.isoLimit (hm : Moves ps s u) {code : Nat} {limit : Nat} {run : Nat} {riso : Nat} (hp : [.fm] ⊆ ps := by decide) :
    Moves ps s (u.isoLimit code limit run riso).1 :=
  hm.then (ps := [.fm]) (.iteFst (Moves.self.raiseCond (by decide) _ _)
      (.iteFst (.ite (Moves.self.clearCond (by decide) _) Moves.self) Moves.self)) hp

theorem Moves.isoLimits (hm : Moves ps s u) {riso : Nat} (hp : [.fm, .im] ⊆ ps := by decide) :
    Moves ps s (u.isoLimits riso) :=
  hm.then (ps := [.fm, .im]) (((Moves.self.isoLimit).isoLimit).modIm (by decide) _) hp

theorem Moves.isoSolve (hm : Moves ps s u) {a : ℚ} {b : ℚ} (hp : [.im, .freeCount] ⊆ ps := by decide) :
    Moves ps s (u.isoSolve a b).1 :=
  hm.then (ps := [.im, .freeCount]) (.iteFst ((((Moves.self.takeFree (by decide)).takeFree (by decide)).takeFree
      (by decide)).modIm (by decide) _) (Moves.self.modIm (by decide) _)) hp

theorem Moves.sendResult (hm : Moves ps s u) :
    Moves ps s u.sendResult :=
  hm.then (ps := []) (.ite (Moves.self.emitToken) Moves.self) (List.nil_subset _)

theorem Moves.isoRatio (hm : Moves ps s u) {vP : Int} {vN : Int} (hp : [.freeCount] ⊆ ps := by decide) :
    Moves ps s (u.isoRatio vP vN).2 :=
  hm.then (ps := [.freeCount]) (.iteSnd (Moves.self.takeFree (by decide)) Moves.self) hp

theorem Goes.isoStateEnd (hm : Moves ps s u) {vP : Int} {vN : Int} {ce : Nat} {pe : Int}
    (hp : [.fm, .im, .freeCount] ⊆ ps := by decide) :
    Goes ps s (execIsoStateEnd vP vN ce pe u) :=
  hm.goes (ps := [.fm, .im, .freeCount]) (.ite (.next Moves.self)
      (.ite (.next ((Moves.self.isoRatio).modIm (by decide) _))
      (((Moves.self.isoRatio).modIm (by decide) _).goes (.next
      ((Moves.ite ((Moves.self.modIm (by decide) _).raiseCond (by decide) _ _)
      ((((Moves.self.clearCond (by decide) _).isoSolve).isoLimits).clearCond (by decide) _)).sendResult))
      (List.Subset.refl _)))) hp

theorem Goes.isoStateTimeout (hm : Moves ps s u) (hp : [.im] ⊆ ps := by decide) :
    Goes ps s (execIsoStateTimeout u) :=
  hm.goes (ps := [.im]) (.next (.ite (Moves.self.voidCycle) Moves.self)) hp

theorem Moves.releaseToken (hm : Moves ps s u) {bus : Nat} (hp : [.im] ⊆ ps := by decide) :
    Moves ps s (u.releaseToken bus) :=
  hm.then (ps := [.im]) (.ite (Moves.self.modIm (by decide) _)
      (((Moves.self.modIm (by decide) _).emitToken).trans (.ite .self ((Moves.self.modIm (by decide) _).passToken)))) hp

theorem Moves.joinBus (hm : Moves ps s u) (hp : [.im] ⊆ ps := by decide) :
    Moves ps s u.joinBus :=
  hm.then (ps := [.im]) (Moves.self.modIm (by decide) _) hp

theorem Moves.isoPattern (hm : Moves ps s u) (hp : [.im] ⊆ ps := by decide) :
    Moves ps s u.isoPattern :=
  hm.then (ps := [.im]) (((Moves.ite (Moves.self.voidCycle) Moves.self).modIm (by decide) _).trans
      (.ite (Moves.self.modIm (by decide) _) (.ite ((Moves.ite (Moves.self.releaseToken)
      (.ite .self (Moves.self.modIm (by decide) _))).modIm (by decide) _)
      (.ite (Moves.self.modIm (by decide) _) (.ite (((Moves.self.releaseToken).voidCycle).joinBus)
      (.ite (Moves.self.joinBus) Moves.self)))))) hp

theorem Moves.takeIso (hm : Moves ps s u) {x : IsoShare} (hp : [.fm, .im] ⊆ ps := by decide) :
    Moves ps s (u.takeIso x) := by
  refine hm.then (ps := [.fm, .im]) ?_ hp
  unfold State.takeIso
  refine .ite (Moves.self.modIm (by decide) _) ?_
  split
  · exact (Moves.self.modIm (by decide) _).isoLimits
  · exact Moves.self.modIm (by decide) _

theorem Goes.tokenPeriodicSend (hm : Moves ps s u) (hp : [.im] ⊆ ps := by decide) :
    Goes ps s (execTokenPeriodicSend u) :=
  hm.goes (ps := [.im]) ((Moves.self.modIm (by decide) _).goes
      (.next (.ite .self (.ite (Moves.self.sendToken) (.ite (Moves.self.sendToken) Moves.self)))) (List.Subset.refl _)) hp

theorem Moves.heardSeq (hm : Moves ps s u) {m : TokenMsg} (hp : [.im] ⊆ ps := by decide) :
    Moves ps s (u.heardSeq m) :=
  hm.then (ps := [.im]) (Moves.self.modIm (by decide) _) hp

theorem Moves.tokenNeed (hm : Moves ps s u) {m : TokenMsg} (hp : [.im] ⊆ ps := by decide) :
    Moves ps s (u.tokenNeed m) :=
  hm.then (ps := [.im]) (.ite Moves.self (Moves.self.modIm (by decide) _)) hp

theorem Moves.tokenHold (hm : Moves ps s u) {m : TokenMsg} (hp : [.im] ⊆ ps := by decide) :
    Moves ps s (u.tokenHold m) :=
  hm.then (ps := [.im]) (.ite Moves.self (.ite (.ite (((Moves.self.heardSeq).modIm (by decide) _).voidCycle) Moves.self)
      ((Moves.self.heardSeq).modIm (by decide) _))) hp

theorem Moves.tokenPass (hm : Moves ps s u) {m : TokenMsg} (hp : [.im] ⊆ ps := by decide) :
    Moves ps s (u.tokenPass m) :=
  hm.then (ps := [.im]) (.ite Moves.self ((Moves.self.heardSeq).trans
      (.ite ((Moves.self.modIm (by decide) _).sendToken) Moves.self))) hp

theorem Moves.tokenAccept (hm : Moves ps s u) {m : TokenMsg} (hp : [.im] ⊆ ps := by decide) :
    Moves ps s (u.tokenAccept m) :=
  hm.then (ps := [.im]) (.ite Moves.self (((Moves.self.heardSeq).modIm (by decide) _).trans
      (.ite ((Moves.self.modIm (by decide) _).voidCycle) Moves.self))) hp

theorem Moves.tokenResult (hm : Moves ps s u) {m : TokenMsg} (hp : [.fm, .im] ⊆ ps := by decide) :
    Moves ps s (u.tokenResult m) := by
  refine hm.then (ps := [.fm, .im]) ?_ hp
  unfold State.tokenResult
  refine .ite Moves.self (.ite ?_ (Moves.self.heardSeq))
  dsimp only
  split
  · exact (((Moves.self.heardSeq).modIm (by decide) _).clearCond (by decide) _).isoLimits
  · exact ((Moves.self.heardSeq).modIm (by decide) _).clearCond (by decide) _

theorem Moves.tokenClaim (hm : Moves ps s u) {m : TokenMsg} (hp : [.im] ⊆ ps := by decide) :
    Moves ps s (u.tokenClaim m) :=
  hm.then (ps := [.im]) (.ite Moves.self ((Moves.self.heardSeq).modIm (by decide) _)) hp

theorem Moves.tokenRelease (hm : Moves ps s u) {m : TokenMsg} (hp : [.im] ⊆ ps := by decide) :
    Moves ps s (u.tokenRelease m) :=
  hm.then (ps := [.im]) (.ite Moves.self ((Moves.self.heardSeq).modIm (by decide) _)) hp

theorem Goes.tokenNeed (hm : Moves ps s u) {m : TokenMsg} (hp : [.im] ⊆ ps := by decide) :
    Goes ps s (execTokenNeed m u) :=
  hm.goes (ps := [.im]) (.next (Moves.self.tokenNeed)) hp

theorem Goes.tokenHold (hm : Moves ps s u) {m : TokenMsg} (hp : [.im] ⊆ ps := by decide) :
    Goes ps s (execTokenHold m u) :=
  hm.goes (ps := [.im]) (.next (Moves.self.tokenHold)) hp

theorem Goes.tokenPass (hm : Moves ps s u) {m : TokenMsg} (hp : [.im] ⊆ ps := by decide) :
    Goes ps s (execTokenPass m u) :=
  hm.goes (ps := [.im]) (.next (Moves.self.tokenPass)) hp

theorem Goes.tokenAccept (hm : Moves ps s u) {m : TokenMsg} (hp : [.im] ⊆ ps := by decide) :
    Goes ps s (execTokenAccept m u) :=
  hm.goes (ps := [.im]) (.next (Moves.self.tokenAccept)) hp

theorem Goes.tokenResult (hm : Moves ps s u) {m : TokenMsg} (hp : [.fm, .im] ⊆ ps := by decide) :
    Goes ps s (execTokenResult m u) :=
  hm.goes (ps := [.fm, .im]) (.next (Moves.self.tokenResult)) hp

theorem Goes.tokenClaim (hm : Moves ps s u) {m : TokenMsg} (hp : [.im] ⊆ ps := by decide) :
    Goes ps s (execTokenClaim m u) :=
  hm.goes (ps := [.im]) (.next (Moves.self.tokenClaim)) hp

theorem Goes.tokenRelease (hm : Moves ps s u) {m : TokenMsg} (hp : [.im] ⊆ ps := by decide) :
    Goes ps s (execTokenRelease m u) :=
  hm.goes (ps := [.im]) (.next (Moves.self.tokenRelease)) hp

theorem Moves.tokenReceived (hm : Moves ps s u) {kind : Nat} {m : TokenMsg} (hp : [.fm, .im] ⊆ ps := by decide) :
    Moves ps s (u.tokenReceived kind m) := by
  refine hm.then (ps := [.fm, .im]) ?_ hp
  unfold State.tokenReceived
  split
  · exact Moves.self.tokenNeed
  · exact Moves.self.tokenHold
  · exact Moves.self.tokenPass
  · exact Moves.self.tokenAccept
  · exact Moves.self.tokenResult
  · exact Moves.self.tokenClaim
  · exact Moves.self.tokenRelease
  · exact .self

theorem Goes.tokenRotateExpiry (hm : Moves ps s u) (hp : [.im] ⊆ ps := by decide) :
    Goes ps s (execTokenRotateExpiry u) :=
  hm.goes (ps := [.im]) (.next (.ite (Moves.self.passToken) Moves.self)) hp

theorem Goes.tokenAcceptTimeout (hm : Moves ps s u) (hp : [.im] ⊆ ps := by decide) :
    Goes ps s (execTokenAcceptTimeout u) :=
  hm.goes (ps := [.im]) (.next (.ite (Moves.self.modIm (by decide) _) Moves.self)) hp

theorem Goes.tokenHoldSilence (hm : Moves ps s u) (hp : [.im] ⊆ ps := by decide) :
    Goes ps s (execTokenHoldSilence u) :=
  hm.goes (ps := [.im]) (.next (.ite ((Moves.self.modIm (by decide) _).sendToken) Moves.self)) hp

theorem Goes.tokenClaimWindowEnd (hm : Moves ps s u) (hp : [.fm, .im] ⊆ ps := by decide) :
    Goes ps s (execTokenClaimWindowEnd u) :=
  hm.goes (ps := [.fm, .im]) (.next (.ite .self (.ite (Moves.self.modIm (by decide) _)
      ((Moves.self.modIm (by decide) _).raiseEvent (by decide) _ _)))) hp

theorem Goes.foreignInjectionCheckEnd (hm : Moves ps s u) {vpMove : Nat} {vstrMove : Nat} (hp : [.fm, .im] ⊆ ps := by decide) :
    Goes ps s (execForeignInjectionCheckEnd vpMove vstrMove u) :=
  hm.goes (ps := [.fm, .im]) (.next (.ite .self ((Moves.self.modIm (by decide) _).trans
      (.ite (Moves.self.raiseCond (by decide) _ _) ((Moves.self.modIm (by decide) _).clearCond (by decide) _))))) hp

theorem Goes.foreignInjectionRetry (hm : Moves ps s u) (hp : [.im] ⊆ ps := by decide) :
    Goes ps s (execForeignInjectionRetry u) :=
  hm.goes (ps := [.im]) (.next (.ite (Moves.self.modIm (by decide) _) Moves.self)) hp

theorem Goes.tokenStarveTimeout (hm : Moves ps s u) (hp : [.fm] ⊆ ps := by decide) :
    Goes ps s (execTokenStarveTimeout u) :=
  hm.goes (ps := [.fm]) (.next (.ite (Moves.self.raiseCond (by decide) _ _) Moves.self)) hp

theorem Moves.orFree (hm : Moves ps s u) {o : Option Int} (hp : [.freeCount] ⊆ ps := by decide) :
    Moves ps s (u.orFree o).2 := by
  refine hm.then (ps := [.freeCount]) ?_ hp
  unfold State.orFree
  split
  · exact .self
  · exact Moves.self.takeFree (by decide)

theorem Moves.abortSequence (hm : Moves ps s u) (hp : [.pm, .pc, .de, .os, .nv] ⊆ ps := by decide) :
    Moves ps s u.abortSequence :=
  hm.then (ps := [.pm, .pc, .de, .os, .nv]) ((Moves.self.trans
      (.foldl (fun _ _ => (Moves.self.coilOff (by decide) (by decide) _)) _ _)).trans
      (.ite (((Moves.self.beginOpening (by decide) (by decide) _ _).modDe (by decide) _).trans
      (.ite (Moves.self.journalEnergy (by decide)) Moves.self)) ((Moves.self.modPc (by decide) _).modDe (by decide) _))) hp

theorem Moves.refuseConnect (hm : Moves ps s u) {reason : Nat} (hp : [.pc, .de] ⊆ ps := by decide) :
    Moves ps s (u.refuseConnect reason) :=
  hm.then (ps := [.pc, .de]) ((Moves.self.modPc (by decide) _).modDe (by decide) _) hp

theorem Moves.weldFound (hm : Moves ps s u) {code : Nat} {bits : Nat} (hp : [.fm, .pc] ⊆ ps := by decide) :
    Moves ps s (u.weldFound code bits) :=
  hm.then (ps := [.fm, .pc]) ((Moves.self.modPc (by decide) _).raiseEvent (by decide) _ _) hp

theorem Moves.connectBegin (hm : Moves ps s u) (hp : [.fm, .pm, .pc, .de, .os, .nv, .freeCount] ⊆ ps := by decide) :
    Moves ps s u.connectBegin :=
  hm.then (ps := [.fm, .pm, .pc, .de, .os, .nv, .freeCount])
      (.ite (Moves.self.refuseConnect) (((((((Moves.self.orFree).orFree).orFree).modPc (by decide) _).modDe (by decide)
      _).modPm (by decide) _).trans (.ite ((Moves.self.weldFound).abortSequence) Moves.self))) hp

theorem Moves.connectStep2 (hm : Moves ps s u) (hp : [.fm, .pm, .pc, .de] ⊆ ps := by decide) :
    Moves ps s u.connectStep2 :=
  hm.then (ps := [.fm, .pm, .pc, .de]) (.ite (((Moves.self.refuseConnect).modPc (by decide) _).raiseEvent (by decide) _ _)
      ((Moves.self.modPc (by decide) _).requestPullIn)) hp

theorem Moves.connectStep3 (hm : Moves ps s u) (hp : [.pm, .pc] ⊆ ps := by decide) :
    Moves ps s u.connectStep3 :=
  hm.then (ps := [.pm, .pc]) ((Moves.self.modPc (by decide) _).requestPullIn) hp

theorem Moves.connectStep4 (hm : Moves ps s u) (hp : [.pm, .pc, .nv] ⊆ ps := by decide) :
    Moves ps s u.connectStep4 :=
  hm.then (ps := [.pm, .pc, .nv]) (((Moves.self.modPc (by decide) _).journalEnergy (by decide)).requestPullIn) hp

theorem Moves.pullInEnded (hm : Moves ps s u) {n : Nat} (hp : [.pm, .pc, .os] ⊆ ps := by decide) :
    Moves ps s (u.pullInEnded n) :=
  hm.then (ps := [.pm, .pc, .os]) (.ite (Moves.self.connectStep3)
      (.ite ((Moves.self.coilOff (by decide) (by decide) _).modPc (by decide) _) Moves.self)) hp

theorem Goes.weldTestWindowEnd (hm : Moves ps s u) (hp : [.fm, .pm, .pc, .de, .os, .nv] ⊆ ps := by decide) :
    Goes ps s (execWeldTestWindowEnd u) :=
  hm.goes (ps := [.fm, .pm, .pc, .de, .os, .nv]) (.next (.ite .self
      (.ite ((Moves.self.weldFound).abortSequence) (Moves.self.connectStep3)))) hp

theorem Moves.currentDue (hm : Moves ps s u) (hp : [.pc] ⊆ ps := by decide) :
    Moves ps s u.currentDue :=
  hm.then (ps := [.pc]) (.ite (Moves.self.modPc (by decide) _) Moves.self) hp

theorem Goes.mainNegClosureTimeout (hm : Moves ps s u) (hp : [.fm, .pm, .pc, .de, .os, .nv] ⊆ ps := by decide) :
    Goes ps s (execMainNegClosureTimeout u) :=
  hm.goes (ps := [.fm, .pm, .pc, .de, .os, .nv]) (.next (.ite .self
      (.ite (((Moves.self.currentDue).raiseCond (by decide) _ _).abortSequence) (Moves.self.currentDue)))) hp

theorem Goes.prechargeTimeLimit (hm : Moves ps s u) (hp : [.fm, .pm, .pc, .de, .os, .nv] ⊆ ps := by decide) :
    Goes ps s (execPrechargeTimeLimit u) :=
  hm.goes (ps := [.fm, .pm, .pc, .de, .os, .nv]) (.next (.ite ((Moves.self.raiseCond (by decide) _ _).abortSequence)
      Moves.self)) hp

theorem Moves.prechargeT0 (hm : Moves ps s u) (hp : [.pc] ⊆ ps := by decide) :
    Moves ps s u.prechargeT0 :=
  hm.then (ps := [.pc]) (.ite (Moves.self.modPc (by decide) _) Moves.self) hp

theorem Moves.resPattern (hm : Moves ps s u) (hp : [.fm, .pm, .pc, .de, .os, .nv] ⊆ ps := by decide) :
    Moves ps s u.resPattern := by
  refine hm.then (ps := [.fm, .pm, .pc, .de, .os, .nv]) ?_ hp
  unfold State.resPattern
  split
  · exact Moves.self.modPc (by decide) _
  · exact (Moves.self.modPc (by decide) _).trans (.ite ((Moves.self.raiseCond (by decide) _ _).abortSequence) Moves.self)

theorem Moves.prechargePattern (hm : Moves ps s u) (hp : [.fm, .pm, .pc, .de, .os, .nv] ⊆ ps := by decide) :
    Moves ps s u.prechargePattern := by
  refine hm.then (ps := [.fm, .pm, .pc, .de, .os, .nv]) ?_ hp
  unfold State.prechargePattern
  split
  · exact Moves.self.modPc (by decide) _
  · exact ((Moves.self.modPc (by decide) _).modPc (by decide) _).trans
        (.ite ((Moves.self.raiseCond (by decide) _ _).abortSequence)
        (.ite ((Moves.self.raiseCond (by decide) _ _).abortSequence) Moves.self))

theorem Moves.step3Pattern (hm : Moves ps s u) (hp : [.fm, .pm, .pc, .de, .os, .nv] ⊆ ps := by decide) :
    Moves ps s u.step3Pattern :=
  hm.then (ps := [.fm, .pm, .pc, .de, .os, .nv]) ((Moves.ite (Moves.self.modPc (by decide) _) Moves.self).trans
      (.ite .self ((Moves.ite (Moves.self.prechargePattern) (Moves.self.prechargeT0)).trans
      ((Moves.ite (Moves.self.resPattern) Moves.self).trans (.ite
      ((Moves.self.modPc (by decide) _).trans (.ite (Moves.self.connectStep4) Moves.self))
      (.ite (Moves.self.connectStep4) Moves.self)))))) hp

theorem Moves.currentPattern (hm : Moves ps s u) (hp : [.fm, .pm, .pc, .de, .os, .nv] ⊆ ps := by decide) :
    Moves ps s u.currentPattern :=
  hm.then (ps := [.fm, .pm, .pc, .de, .os, .nv]) (.ite Moves.self
      ((Moves.self.modPc (by decide) _).trans (.ite .self (.ite ((Moves.self.raiseCond (by decide) _ _).abortSequence)
      (Moves.self.raiseCond (by decide) _ _))))) hp

theorem Moves.step2Pattern (hm : Moves ps s u) (hp : [.pc] ⊆ ps := by decide) :
    Moves ps s u.step2Pattern := by
  refine hm.then (ps := [.pc]) ?_ hp
  unfold State.step2Pattern
  split
  · exact .self
  · exact .ite (Moves.self.modPc (by decide) _) Moves.self

theorem Moves.step5Fails (hm : Moves ps s u) (hp : [.fm, .pc] ⊆ ps := by decide) :
    Moves ps s u.step5Fails :=
  hm.then (ps := [.fm, .pc]) ((Moves.self.modPc (by decide) _).raiseCond (by decide) _ _) hp

theorem Moves.step5Pattern (hm : Moves ps s u) (hp : [.fm, .pc, .de] ⊆ ps := by decide) :
    Moves ps s u.step5Pattern := by
  refine hm.then (ps := [.fm, .pc, .de]) ?_ hp
  unfold State.step5Pattern
  split
  · exact .self
  · exact .ite (Moves.self.step5Fails) (.ite ((Moves.self.modPc (by decide) _).modDe (by decide) _)
        (Moves.self.modPc (by decide) _))

theorem Moves.step6Pattern (hm : Moves ps s u) (hp : [.fm, .pc] ⊆ ps := by decide) :
    Moves ps s u.step6Pattern :=
  hm.then (ps := [.fm, .pc]) ((Moves.self.modPc (by decide) _).cond (by decide) _ _ _) hp

theorem Moves.sequenceFaultsEnd (hm : Moves ps s u) (hp : [.fm] ⊆ ps := by decide) :
    Moves ps s u.sequenceFaultsEnd :=
  hm.then (ps := [.fm]) (Moves.self.trans (.foldl (fun _ _ => (Moves.self.clearCond (by decide) _)) _ _)) hp

theorem Moves.contactorPattern (hm : Moves ps s u) (hp : [.fm, .pm, .pc, .de, .os, .nv] ⊆ ps := by decide) :
    Moves ps s u.contactorPattern := by
  refine hm.then (ps := [.fm, .pm, .pc, .de, .os, .nv]) ?_ hp
  unfold State.contactorPattern
  split
  · dsimp only
    split
    · exact .ite ((Moves.self.modPc (by decide) _).currentPattern)
          (((Moves.self.modPc (by decide) _).currentPattern).sequenceFaultsEnd)
    · exact ((Moves.self.modPc (by decide) _).currentPattern).connectStep2
    · exact ((Moves.self.modPc (by decide) _).currentPattern).step2Pattern
    · exact ((Moves.self.modPc (by decide) _).currentPattern).step3Pattern
    · exact ((Moves.self.modPc (by decide) _).currentPattern).step5Pattern
    · exact ((Moves.self.modPc (by decide) _).currentPattern).step6Pattern
    · exact (Moves.self.modPc (by decide) _).currentPattern
  · dsimp only
    split
    · exact .ite (Moves.self.currentPattern) ((Moves.self.currentPattern).sequenceFaultsEnd)
    · exact (Moves.self.currentPattern).connectStep2
    · exact (Moves.self.currentPattern).step2Pattern
    · exact (Moves.self.currentPattern).step3Pattern
    · exact (Moves.self.currentPattern).step5Pattern
    · exact (Moves.self.currentPattern).step6Pattern
    · exact Moves.self.currentPattern

theorem Moves.openSequenced (hm : Moves ps s u) (hp : [.pm, .pc, .de, .os, .nv] ⊆ ps := by decide) :
    Moves ps s u.openSequenced :=
  hm.then (ps := [.pm, .pc, .de, .os, .nv]) ((((Moves.self.coilOff (by decide) (by decide) _).coilOff (by decide) (by decide)
      _).beginOpening (by decide) (by decide) _ _).trans (.ite (Moves.self.journalEnergy (by decide)) Moves.self)) hp

theorem Goes.mainPosOpenStagger (hm : Moves ps s u) (hp : [.pm, .pc, .os] ⊆ ps := by decide) :
    Goes ps s (execMainPosOpenStagger u) :=
  hm.goes (ps := [.pm, .pc, .os]) (.next (.ite ((Moves.self.coilOff (by decide) (by decide) _).modPc (by decide) _)
      Moves.self)) hp

theorem Goes.openingWeldTest (hm : Moves ps s u) (hp : [.fm, .pc, .de, .si] ⊆ ps := by decide) :
    Goes ps s (execOpeningWeldTest u) :=
  hm.goes (ps := [.fm, .pc, .de, .si]) (.next (.ite .self (.ite (.ite (Moves.self.weldFound) Moves.self)
      (((Moves.ite ((Moves.self.weldFound).modSi (by decide) _) Moves.self).modPc (by decide) _).modDe (by decide) _)))) hp

theorem Moves.auxCoilAct (hm : Moves ps s u) {value : Nat} (hp : [.pm, .os, .cfg] ⊆ ps := by decide) :
    Moves ps s (u.auxCoilAct value).1 :=
  hm.then (ps := [.pm, .os, .cfg]) (.iteFst (Moves.self.no) (((Moves.ite (Moves.self.requestPullIn)
      (Moves.self.coilOff (by decide) (by decide) _)).cfgPut).ok)) hp

theorem Goes.auxCoilCommand (hm : Moves ps s u) {r : Req} {value : Nat} (hp : [.pm, .os, .sy, .cfg] ⊆ ps := by decide) :
    Goes ps s (execAuxCoilCommand r value u) :=
  hm.goes (ps := [.pm, .os, .sy, .cfg]) (.next (Moves.self.liveReq (fun _ _ => (Moves.self.auxCoilAct)))) hp

theorem Moves.prechargeHeat (hm : Moves ps s u) {i : ℚ} {dt : Nat} (hp : [.fm, .pm, .pc, .de, .os, .nv] ⊆ ps := by decide) :
    Moves ps s (u.prechargeHeat i dt) :=
  hm.then (ps := [.fm, .pm, .pc, .de, .os, .nv]) (.ite ((Moves.self.modPc (by decide) _).trans
      (.ite ((Moves.self.raiseCond (by decide) _ _).abortSequence) Moves.self)) Moves.self) hp

theorem Moves.modCmu (hm : Moves ps s u) {c : Nat} {f : Cmu → Cmu} (hp : [.cl] ⊆ ps := by decide) :
    Moves ps s (u.modCmu c f) :=
  hm.then (ps := [.cl]) (Moves.self.modCl (by decide) _) hp

theorem Moves.modGroup (hm : Moves ps s u) {g : Nat} {f : Group → Group} (hp : [.cl] ⊆ ps := by decide) :
    Moves ps s (u.modGroup g f) :=
  hm.then (ps := [.cl]) (Moves.self.modCl (by decide) _) hp

theorem Moves.modSensor (hm : Moves ps s u) {n : Nat} {f : Sensor → Sensor} (hp : [.cl] ⊆ ps := by decide) :
    Moves ps s (u.modSensor n f) :=
  hm.then (ps := [.cl]) (Moves.self.modCl (by decide) _) hp

theorem Moves.ringOut (hm : Moves ps s u) {port : Nat} {kind : Nat} {dest : Nat} {pattern : Nat} {payload : Bytes}
    (hp : [.cl] ⊆ ps := by decide) :
    Moves ps s (u.ringOut port kind dest pattern payload) :=
  hm.then (ps := [.cl]) ((Moves.self.emit _).modCl (by decide) _) hp

theorem Moves.ringTo (hm : Moves ps s u) {ports : List Nat} {kind : Nat} {dest : Nat} {payload : Bytes}
    (hp : [.cl] ⊆ ps := by decide) :
    Moves ps s (u.ringTo ports kind dest payload) :=
  hm.then (ps := [.cl]) (.ite Moves.self (.ite (Moves.self.modCl (by decide) _) (Moves.self.ringOut))) hp

theorem Moves.ringSend (hm : Moves ps s u) {kind : Nat} {dest : Nat} {payload : Bytes} (hp : [.cl] ⊆ ps := by decide) :
    Moves ps s (u.ringSend kind dest payload) :=
  hm.then (ps := [.cl]) Moves.self.ringTo hp

theorem Moves.ringServe (hm : Moves ps s u) (hp : [.cl] ⊆ ps := by decide) :
    Moves ps s u.ringServe := by
  refine hm.then (ps := [.cl]) ?_ hp
  unfold State.ringServe
  refine .ite Moves.self (Moves.self.trans (.foldl (fun _ _ => ?_) _ _))
  split
  · exact .self
  · exact (Moves.self.modCl (by decide) _).ringOut

theorem Moves.repeatFrame (hm : Moves ps s u) {f : RingRx} :
    Moves ps s (u.repeatFrame f) :=
  hm.then (ps := []) (.ite Moves.self (Moves.self.emit _)) (List.nil_subset _)

theorem Moves.configAll (hm : Moves ps s u) (hp : [.cl] ⊆ ps := by decide) :
    Moves ps s u.configAll :=
  hm.then (ps := [.cl]) (Moves.self.trans (.foldl (fun _ _ => (Moves.self.ringSend)) _ _)) hp

theorem Moves.stopApply (hm : Moves ps s u) {lo : Nat} {hi : Nat} (hp : [.cfg, .stopWait] ⊆ ps := by decide) :
    Moves ps s (u.stopApply lo hi) :=
  hm.then (ps := [.cfg, .stopWait]) ((Moves.self.trans (.foldl (fun _ _ => (.ite (Moves.self.cfgPut) Moves.self)) _
      _)).modStopWait (by decide) _) hp

theorem Moves.countCheck (hm : Moves ps s u) (hp : [.fm] ⊆ ps := by decide) :
    Moves ps s u.countCheck :=
  hm.then (ps := [.fm]) (Moves.self.cond (by decide) _ _ _) hp

theorem Moves.ringStart (hm : Moves ps s u) (hp : [.pm, .cl, .cfg, .stopWait] ⊆ ps := by decide) :
    Moves ps s u.ringStart :=
  hm.then (ps := [.pm, .cl, .cfg, .stopWait]) ((Moves.self.stopApply).trans
      (.ite ((Moves.self.modCl (by decide) _).emit _) (Moves.self.modPm (by decide) _))) hp

theorem Moves.sendEnum (hm : Moves ps s u) {a : Nat} (hp : [.cl] ⊆ ps := by decide) :
    Moves ps s (u.sendEnum a) :=
  hm.then (ps := [.cl]) Moves.self.ringTo hp

theorem Moves.enumStart (hm : Moves ps s u) (hp : [.cl] ⊆ ps := by decide) :
    Moves ps s u.enumStart :=
  hm.then (ps := [.cl]) ((Moves.self.modCl (by decide) _).sendEnum) hp

theorem Moves.step8Start (hm : Moves ps s u) (hp : [.cl] ⊆ ps := by decide) :
    Moves ps s u.step8Start :=
  hm.then (ps := [.cl]) (Moves.self.modCl (by decide) _) hp

theorem Moves.step7Start (hm : Moves ps s u) (hp : [.cl] ⊆ ps := by decide) :
    Moves ps s u.step7Start :=
  hm.then (ps := [.cl]) ((Moves.self.modCl (by decide) _).trans (.ite (Moves.self.configAll) (Moves.self.step8Start))) hp

theorem Moves.afterLoads (hm : Moves ps s u) (hp : [.cl] ⊆ ps := by decide) :
    Moves ps s u.afterLoads :=
  hm.then (ps := [.cl]) (.ite (Moves.self.step7Start) Moves.self) hp

theorem Moves.noCellData (hm : Moves ps s u) {c : Nat} (hp : [.cl] ⊆ ps := by decide) :
    Moves ps s (u.noCellData c) :=
  hm.then (ps := [.cl]) ((Moves.self.trans (.foldl (fun _ _ => (Moves.self.modGroup)) _ _)).trans
      (.foldl (fun _ _ => (Moves.self.modSensor)) _ _)) hp

theorem Moves.loadFailed (hm : Moves ps s u) {c : Nat} (hp : [.fm, .cl] ⊆ ps := by decide) :
    Moves ps s (u.loadFailed c) :=
  hm.then (ps := [.fm, .cl]) (((Moves.self.modCmu).noCellData).raiseCond (by decide) _ _) hp

theorem Moves.sendBlocks (hm : Moves ps s u) {dest : Nat} {blocks : List Nat} (hp : [.cl] ⊆ ps := by decide) :
    Moves ps s (u.sendBlocks dest blocks) :=
  hm.then (ps := [.cl]) ((Moves.self.trans (.foldl (fun _ _ => (Moves.self.ringSend)) _ _)).ringSend) hp

theorem Moves.loadRun (hm : Moves ps s u) {want : List Nat} (hp : [.fm, .cl] ⊆ ps := by decide) :
    Moves ps s (u.loadRun want) :=
  hm.then (ps := [.fm, .cl]) ((Moves.self.trans (.foldl (fun _ _ => (Moves.self.loadFailed)) _ _)).trans
      (.ite (Moves.self.afterLoads) (.ite ((Moves.self.trans (.foldl (fun _ _ => (Moves.self.loadFailed)) _ _)).afterLoads)
      ((((Moves.self.trans (.foldl (fun _ _ => (Moves.self.modCmu)) _ _)).modCl (by decide) _).ringSend).sendBlocks)))) hp

theorem Moves.loadStart (hm : Moves ps s u) (hp : [.fm, .cl] ⊆ ps := by decide) :
    Moves ps s u.loadStart :=
  hm.then (ps := [.fm, .cl]) ((Moves.self.modCl (by decide) _).trans (.ite (Moves.self.afterLoads) (Moves.self.loadRun))) hp

theorem Moves.delaysEnd (hm : Moves ps s u) (hp : [.fm, .cl] ⊆ ps := by decide) :
    Moves ps s u.delaysEnd :=
  hm.then (ps := [.fm, .cl]) (.ite (Moves.self.modCl (by decide) _) (Moves.self.loadStart)) hp

theorem Moves.delaysDone (hm : Moves ps s u) (hp : [.fm, .cl] ⊆ ps := by decide) :
    Moves ps s u.delaysDone :=
  hm.then (ps := [.fm, .cl]) (.ite (.ite (Moves.self.delaysEnd) (Moves.self.modCl (by decide) _)) Moves.self) hp

theorem Moves.sendEchoes (hm : Moves ps s u) {portB : Bool} {c : Nat} (hp : [.cl] ⊆ ps := by decide) :
    Moves ps s (u.sendEchoes portB c) :=
  hm.then (ps := [.cl]) (Moves.self.trans (.foldl (fun _ _ => (Moves.self.ringTo)) _ _)) hp

theorem Moves.reachSet (hm : Moves ps s u) (hp : [.cl] ⊆ ps := by decide) :
    Moves ps s u.reachSet :=
  hm.then (ps := [.cl]) (Moves.self.modCl (by decide) _) hp

theorem Moves.echoCmu (hm : Moves ps s u) {c : Nat} (hp : [.cl] ⊆ ps := by decide) :
    Moves ps s (u.echoCmu c) :=
  hm.then (ps := [.cl]) ((Moves.ite (Moves.self.sendEchoes) Moves.self).trans (.ite (Moves.self.sendEchoes) Moves.self)) hp

theorem Moves.step5Start (hm : Moves ps s u) (hp : [.fm, .cl] ⊆ ps := by decide) :
    Moves ps s u.step5Start :=
  hm.then (ps := [.fm, .cl]) ((((Moves.self.modCl (by decide) _).reachSet).countCheck).trans
      (((Moves.ite Moves.self (Moves.self.clearCond (by decide) _)).trans
      (.foldl (fun _ _ => (Moves.self.echoCmu)) _ _)).delaysDone)) hp

theorem Moves.enumFromB (hm : Moves ps s u) (hp : [.fm, .cl] ⊆ ps := by decide) :
    Moves ps s u.enumFromB :=
  hm.then (ps := [.fm, .cl]) (.ite ((Moves.self.modCl (by decide) _).sendEnum) (Moves.self.step5Start)) hp

theorem Moves.enumEnd (hm : Moves ps s u) (hp : [.fm, .cl] ⊆ ps := by decide) :
    Moves ps s u.enumEnd :=
  hm.then (ps := [.fm, .cl]) (.ite (Moves.self.step5Start) (Moves.self.enumFromB)) hp

theorem Goes.enumTimeout (hm : Moves ps s u) {returned : Bool} (hp : [.fm, .cl] ⊆ ps := by decide) :
    Goes ps s (execEnumTimeout returned u) :=
  hm.goes (ps := [.fm, .cl]) (.next (.ite .self (.ite ((Moves.self.modCl (by decide) _).step5Start) (Moves.self.enumEnd)))) hp

theorem Moves.enumIdent (hm : Moves ps s u) {m : IdentMsg} (hp : [.fm, .cl] ⊆ ps := by decide) :
    Moves ps s (u.enumIdent m) :=
  hm.then (ps := [.fm, .cl]) (.ite ((Moves.self.modCl (by decide) _).enumEnd)
      (.ite ((((Moves.self.modCmu).modCl (by decide) _).raiseCond (by decide) _ _).enumEnd)
      (((Moves.self.modCmu).modCl (by decide) _).trans (.ite (.ite (Moves.self.step5Start) (Moves.self.sendEnum))
      (.ite ((Moves.self.modCl (by decide) _).sendEnum) (Moves.self.sendEnum)))))) hp

theorem Moves.loadCond (hm : Moves ps s u) (hp : [.fm] ⊆ ps := by decide) :
    Moves ps s u.loadCond :=
  hm.then (ps := [.fm]) (Moves.self.cond (by decide) _ _ _) hp

theorem Goes.identFrame (hm : Moves ps s u) {m : IdentMsg} (hp : [.fm, .cl] ⊆ ps := by decide) :
    Goes ps s (execIdentFrame m u) :=
  hm.goes (ps := [.fm, .cl]) (.next (.ite (Moves.self.repeatFrame)
      (.ite (Moves.self.enumIdent) (.ite ((Moves.ite ((Moves.self.modCmu).loadCond) (Moves.self.loadFailed)).afterLoads)
      Moves.self)))) hp

theorem Goes.echo (hm : Moves ps s u) {cmu : Nat} {portB : Bool} {rtt : Nat} (hp : [.fm, .cl] ⊆ ps := by decide) :
    Goes ps s (execEcho cmu portB rtt u) :=
  hm.goes (ps := [.fm, .cl]) (.next (.ite (Moves.self.repeatFrame)
      (.ite .self (.ite (Moves.self.modCmu) (.ite ((Moves.self.modCmu).sendEchoes)
      ((Moves.self.modCmu).trans ((Moves.ite (Moves.self.raiseEvent (by decide) _ _) Moves.self).delaysDone))))))) hp

theorem Goes.ack (hm : Moves ps s u) {cmu : Nat} {status : Nat} (hp : [.cl] ⊆ ps := by decide) :
    Goes ps s (execAck cmu status u) :=
  hm.goes (ps := [.cl]) (.next (.ite (Moves.self.repeatFrame)
      (.ite .self ((Moves.self.modCmu).trans (.ite (Moves.self.step8Start) Moves.self))))) hp

theorem Moves.loadRound (hm : Moves ps s u) (hp : [.fm, .cl] ⊆ ps := by decide) :
    Moves ps s u.loadRound :=
  hm.then (ps := [.fm, .cl]) (.ite Moves.self (.ite (Moves.self.afterLoads)
      (.ite ((Moves.self.trans (.foldl (fun _ _ => (Moves.self.loadFailed)) _ _)).afterLoads)
      (((Moves.self.trans (.foldl (fun _ _ => (Moves.self.modCmu)) _ _)).modCl (by decide) _).sendBlocks)))) hp

theorem Goes.cmuLoadStatus (hm : Moves ps s u) {cmu : Nat} {m : LoadReport} (hp : [.fm, .cl] ⊆ ps := by decide) :
    Goes ps s (execCmuLoadStatus cmu m u) := by
  refine hm.goes (ps := [.fm, .cl]) ?_ hp
  unfold execCmuLoadStatus
  refine .next (.ite (Moves.self.repeatFrame) (.ite .self ?_))
  split
  · exact ((Moves.self.modCmu).ringSend).loadRound
  · exact (Moves.self.modCmu).loadRound
  · exact (Moves.self.loadFailed).loadRound

theorem Moves.ringDone (hm : Moves ps s u) (hp : [.fm, .pm, .cl] ⊆ ps := by decide) :
    Moves ps s u.ringDone :=
  hm.then (ps := [.fm, .pm, .cl]) (((Moves.self.modCl (by decide) _).modPm (by decide) _).cond (by decide) _ _ _) hp

theorem Goes.ringStartTimeout (hm : Moves ps s u) (hp : [.fm, .pm, .cl] ⊆ ps := by decide) :
    Goes ps s (execRingStartTimeout u) :=
  hm.goes (ps := [.fm, .pm, .cl]) (.next (.ite ((((Moves.ite (Moves.self.reachSet) Moves.self).modCl (by decide) _).modPm
      (by decide) _).raiseEvent (by decide) _ _) Moves.self)) hp

theorem Moves.renewalStart (hm : Moves ps s u) (hp : [.fm, .cl, .cfg, .stopWait] ⊆ ps := by decide) :
    Moves ps s u.renewalStart :=
  hm.then (ps := [.fm, .cl, .cfg, .stopWait]) (((((Moves.self.stopApply).modCl (by decide) _).raiseEvent (by decide) _
      _).ringTo).trans ((Moves.ite Moves.self ((Moves.self.ringTo).modCl (by decide) _)).enumStart)) hp

theorem Goes.wakeToneEnd (hm : Moves ps s u) (hp : [.fm, .cl, .cfg, .stopWait] ⊆ ps := by decide) :
    Goes ps s (execWakeToneEnd u) :=
  hm.goes (ps := [.fm, .cl, .cfg, .stopWait]) (.next (.ite .self
      (.ite ((Moves.self.modCl (by decide) _).renewalStart) (((Moves.self.modCl (by decide) _).ringTo).enumStart)))) hp

theorem Goes.renewalTimeout (hm : Moves ps s u) (hp : [.fm, .cl] ⊆ ps := by decide) :
    Goes ps s (execRenewalTimeout u) :=
  hm.goes (ps := [.fm, .cl]) (.next (.ite ((Moves.self.modCl (by decide) _).raiseEvent (by decide) _ _) Moves.self)) hp

theorem Goes.renewalRetry (hm : Moves ps s u) (hp : [.fm, .cl, .cfg, .stopWait] ⊆ ps := by decide) :
    Goes ps s (execRenewalRetry u) :=
  hm.goes (ps := [.fm, .cl, .cfg, .stopWait]) (.next (.ite (Moves.self.renewalStart) Moves.self)) hp

theorem Moves.wakeHeld (hm : Moves ps s u) (hp : [.cl] ⊆ ps := by decide) :
    Moves ps s u.wakeHeld :=
  hm.then (ps := [.cl]) ((Moves.self.modCl (by decide) _).trans (.ite ((Moves.self.modCl (by decide) _).emit _) Moves.self)) hp

theorem Goes.renewRing (hm : Moves ps s u) {r : Req} (hp : [.cl, .sy] ⊆ ps := by decide) :
    Goes ps s (execRenewRing r u) :=
  hm.goes (ps := [.cl, .sy]) (.next (Moves.self.writeReq (fun _ _ =>
      (.iteFst (Moves.self.no) ((Moves.self.modCl (by decide) _).ok))))) hp

theorem Moves.discardFrame (hm : Moves ps s u) (hp : [.fm, .cl] ⊆ ps := by decide) :
    Moves ps s u.discardFrame :=
  hm.then (ps := [.fm, .cl]) ((Moves.self.modCl (by decide) _).cond (by decide) _ _ _) hp

theorem Goes.symbolGapTimeout (hm : Moves ps s u) (hp : [.fm, .cl] ⊆ ps := by decide) :
    Goes ps s (execSymbolGapTimeout u) :=
  hm.goes (ps := [.fm, .cl]) (.next (Moves.self.discardFrame)) hp

theorem Moves.dataGroups (hm : Moves ps s u) {m : CellData} {late : Bool} (hp : [.cl] ⊆ ps := by decide) :
    Moves ps s (u.dataGroups m late) :=
  hm.then (ps := [.cl]) (Moves.self.trans (.foldl (fun _ _ => (Moves.self.modGroup)) _ _)) hp

theorem Moves.dataSensors (hm : Moves ps s u) {m : CellData} {late : Bool} (hp : [.cl] ⊆ ps := by decide) :
    Moves ps s (u.dataSensors m late) := by
  refine hm.then (ps := [.cl]) ?_ hp
  unfold State.dataSensors
  refine Moves.self.trans (.foldl (fun _ _ => (.ite .self ?_)) _ _)
  split
  · exact Moves.self.modSensor
  · exact Moves.self.modSensor

theorem Moves.acceptData (hm : Moves ps s u) {m : CellData} {late : Bool} (hp : [.cl] ⊆ ps := by decide) :
    Moves ps s (u.acceptData m late) :=
  hm.then (ps := [.cl]) ((Moves.self.modCmu).trans (.ite .self ((Moves.self.dataGroups).dataSensors))) hp

theorem Goes.dataFrame (hm : Moves ps s u) {m : CellData} (hp : [.fm, .cl] ⊆ ps := by decide) :
    Goes ps s (execDataFrame m u) :=
  hm.goes (ps := [.fm, .cl]) (.next (.ite (Moves.self.discardFrame)
      (.ite (Moves.self.repeatFrame) (.ite ((Moves.self.repeatFrame).modCl (by decide) _)
      (.ite ((Moves.self.repeatFrame).modCl (by decide) _) ((Moves.ite ((Moves.self.repeatFrame).modCl (by decide) _)
      (Moves.self.repeatFrame)).trans (.ite (.ite .self (Moves.self.modCmu))
      ((Moves.self.acceptData).trans (.ite (Moves.self.modCl (by decide) _) Moves.self))))))))) hp

theorem Moves.lateData (hm : Moves ps s u) (hp : [.cl] ⊆ ps := by decide) :
    Moves ps s u.lateData := by
  refine hm.then (ps := [.cl]) ?_ hp
  unfold State.lateData
  refine Moves.self.trans (.foldl (fun _ _ => ?_) _ _)
  split
  split
  · exact .ite (((Moves.self.modCmu).dataGroups).dataSensors) Moves.self
  · exact .self

theorem Moves.ages (hm : Moves ps s u) {accept : Bool} (hp : [.cl] ⊆ ps := by decide) :
    Moves ps s (u.ages accept) :=
  hm.then (ps := [.cl]) (((Moves.ite (Moves.self.lateData) Moves.self).trans
      (.foldl (fun _ _ => (Moves.self.modGroup)) _ _)).trans (.foldl (fun _ _ => (Moves.self.modSensor)) _ _)) hp

theorem Moves.lostData (hm : Moves ps s u) (hp : [.fm, .cl] ⊆ ps := by decide) :
    Moves ps s u.lostData :=
  hm.then (ps := [.fm, .cl]) (((Moves.self.modCl (by decide) _).trans
      (.foldl (fun _ _ => (.ite (Moves.self.modCmu) Moves.self)) _ _)).trans
      (.ite ((Moves.self.modCl (by decide) _).raiseCond (by decide) _ _)
      (.ite (((Moves.self.modCl (by decide) _).clearCond (by decide) _).clearCond (by decide) _)
      (Moves.self.clearCond (by decide) _)))) hp

theorem Moves.acceptKept (hm : Moves ps s u) (hp : [.cl] ⊆ ps := by decide) :
    Moves ps s u.acceptKept := by
  refine hm.then (ps := [.cl]) ?_ hp
  unfold State.acceptKept
  refine Moves.self.trans (.foldl (fun _ _ => ?_) _ _)
  split
  split
  · exact .ite (Moves.self.acceptData) Moves.self
  · exact .self

theorem Moves.cutoffOwn (hm : Moves ps s u) (hp : [.cl] ⊆ ps := by decide) :
    Moves ps s u.cutoffOwn :=
  hm.then (ps := [.cl]) ((Moves.ite (Moves.self.acceptKept) Moves.self).ages) hp

theorem Moves.cutoffAgreed (hm : Moves ps s u) (hp : [.fm, .pm, .cl] ⊆ ps := by decide) :
    Moves ps s u.cutoffAgreed :=
  hm.then (ps := [.fm, .pm, .cl]) ((Moves.ite ((Moves.self.lostData).ringDone) (Moves.self.lostData)).trans
      (.ite (Moves.self.modCl (by decide) _) Moves.self)) hp

theorem Goes.cellDataLostOpen (hm : Moves ps s u) (hp : [.fm] ⊆ ps := by decide) :
    Goes ps s (execCellDataLostOpen u) :=
  hm.goes (ps := [.fm]) (.next (.ite (Moves.self.raiseCond (by decide) _ _) Moves.self)) hp

theorem Goes.urgent (hm : Moves ps s u) {addr : Nat} {reason : Nat} (hp : [.fm, .cl] ⊆ ps := by decide) :
    Goes ps s (execUrgent addr reason u) :=
  hm.goes (ps := [.fm, .cl]) ((Moves.self.repeatFrame).goes (.next
      (.ite (Moves.self.modCl (by decide) _) ((Moves.self.modCl (by decide) _).trans
      (.ite (Moves.self.raiseEvent (by decide) _ _) Moves.self)))) (List.Subset.refl _)) hp

theorem Moves.breakFound (hm : Moves ps s u) {lastA : Nat} {firstB : Nat} (hp : [.cl] ⊆ ps := by decide) :
    Moves ps s (u.breakFound lastA firstB) :=
  hm.then (ps := [.cl]) (.ite Moves.self (Moves.self.modCl (by decide) _)) hp

theorem Goes.breakTriple (hm : Moves ps s u) {addr : Nat} {lastA : Nat} {firstB : Nat} (hp : [.cl] ⊆ ps := by decide) :
    Goes ps s (execBreakTriple addr lastA firstB u) :=
  hm.goes (ps := [.cl]) ((Moves.self.repeatFrame).goes (.next (.ite .self (Moves.self.breakFound))) (List.Subset.refl _)) hp

theorem Goes.portLockLoss (hm : Moves ps s u) {lastA : Nat} {firstB : Nat} (hp : [.cl] ⊆ ps := by decide) :
    Goes ps s (execPortLockLoss lastA firstB u) :=
  hm.goes (ps := [.cl]) (.next (Moves.self.breakFound)) hp

theorem Moves.loadAgain (hm : Moves ps s u) (hp : [.fm, .cl] ⊆ ps := by decide) :
    Moves ps s u.loadAgain :=
  hm.then (ps := [.fm, .cl]) (.ite Moves.self ((Moves.self.modCl (by decide) _).loadRun)) hp

theorem Moves.breakRow (hm : Moves ps s u) (hp : [.fm, .cl] ⊆ ps := by decide) :
    Moves ps s u.breakRow := by
  refine hm.then (ps := [.fm, .cl]) ?_ hp
  unfold State.breakRow
  refine .ite Moves.self ?_
  dsimp only
  split
  · exact ((((((Moves.self.modCl (by decide) _).ringOut).ringOut).trans (.foldl (fun _ _ => (Moves.self.modCmu)) _ _)).modCl
        (by decide) _).raiseCond (by decide) _ _).loadAgain
  · exact (((((((Moves.self.modCl (by decide) _).ringOut).ringOut).trans (.foldl (fun _ _ => (Moves.self.modCmu)) _ _)).modCl
        (by decide) _).raiseCond (by decide) _ _).loadAgain).raiseCond (by decide) _ _

theorem Moves.modeRow (hm : Moves ps s u) (hp : [.fm, .cl] ⊆ ps := by decide) :
    Moves ps s u.modeRow :=
  hm.then (ps := [.fm, .cl]) (.ite Moves.self ((((Moves.self.ringOut).modCl (by decide) _).reachSet).loadStart)) hp

theorem Moves.slotRow (hm : Moves ps s u) (hp : [.fm, .cl] ⊆ ps := by decide) :
    Moves ps s u.slotRow :=
  hm.then (ps := [.fm, .cl]) (.ite ((Moves.self.modCl (by decide) _).delaysEnd) Moves.self) hp

theorem Moves.timeRow (hm : Moves ps s u) (hp : [.cl] ⊆ ps := by decide) :
    Moves ps s u.timeRow :=
  hm.then (ps := [.cl]) ((Moves.self.modCl (by decide) _).trans
      (.ite .self ((Moves.self.trans (.foldl (fun _ _ => (Moves.self.ringOut)) _ _)).modCl (by decide) _))) hp

theorem Moves.stepRow (hm : Moves ps s u) (hp : [.cl] ⊆ ps := by decide) :
    Moves ps s u.stepRow :=
  hm.then (ps := [.cl]) (.ite Moves.self ((Moves.self.trans (.foldl (fun _ _ => (Moves.self.ringOut)) _ _)).modCl (by decide)
      _)) hp

theorem Moves.cellRow (hm : Moves ps s u) (hp : [.fm, .cl] ⊆ ps := by decide) :
    Moves ps s u.cellRow :=
  hm.then (ps := [.fm, .cl]) (((((((Moves.self.modCl (by decide) _).breakRow).modeRow).timeRow).stepRow).slotRow).trans
      (.ite .self (Moves.self.ringServe))) hp

theorem Moves.takeRing (hm : Moves ps s u) (hp : [.cl] ⊆ ps := by decide) :
    Moves ps s u.takeRing :=
  hm.then (ps := [.cl]) (((Moves.self.modCl (by decide) _).configAll).trans
      (.ite (.ite (Moves.self.breakFound) (Moves.self.breakFound)) Moves.self)) hp

theorem Moves.driverPattern (hm : Moves ps s u) (hp : [.cl] ⊆ ps := by decide) :
    Moves ps s u.driverPattern :=
  hm.then (ps := [.cl]) (.ite (Moves.self.takeRing) (.ite (Moves.self.modCl (by decide) _) Moves.self)) hp

theorem Moves.closePattern (hm : Moves ps s u) (hp : [.fm, .cl] ⊆ ps := by decide) :
    Moves ps s u.closePattern :=
  hm.then (ps := [.fm, .cl]) (.ite ((Moves.self.modCl (by decide) _).trans
      (.ite .self (.ite (Moves.self.modCl (by decide) _) ((((Moves.self.ringOut).ringOut).modCl (by decide) _).clearCond
      (by decide) _)))) Moves.self) hp

theorem Moves.deferredLoads (hm : Moves ps s u) (hp : [.fm, .cl] ⊆ ps := by decide) :
    Moves ps s u.deferredLoads :=
  hm.then (ps := [.fm, .cl]) (.ite (Moves.self.loadStart) Moves.self) hp

theorem Moves.stepPattern (hm : Moves ps s u) (hp : [.cl] ⊆ ps := by decide) :
    Moves ps s u.stepPattern :=
  hm.then (ps := [.cl]) (.ite (Moves.self.modCl (by decide) _) Moves.self) hp

theorem Moves.cellPattern (hm : Moves ps s u) (hp : [.fm, .cl, .cfg, .stopWait] ⊆ ps := by decide) :
    Moves ps s u.cellPattern :=
  hm.then (ps := [.fm, .cl, .cfg, .stopWait]) ((((Moves.self.driverPattern).closePattern).stepPattern).trans
      (((Moves.ite (Moves.self.renewalStart) (Moves.self.deferredLoads)).cond (by decide) _ _ _).ringServe)) hp

theorem Moves.slotTaken (hm : Moves ps s u) {on : Bool} (hp : [.cl] ⊆ ps := by decide) :
    Moves ps s (u.slotTaken on) :=
  hm.then (ps := [.cl]) (.ite ((Moves.self.modCl (by decide) _).trans (.foldl (fun _ _ => (Moves.self.echoCmu)) _ _))
      (.ite (Moves.self.modCl (by decide) _) Moves.self)) hp

theorem Moves.takeRingShare (hm : Moves ps s u) {x : RingShare} (hp : [.cl, .cfg, .stopWait] ⊆ ps := by decide) :
    Moves ps s (u.takeRingShare x) :=
  hm.then (ps := [.cl, .cfg, .stopWait]) (.ite Moves.self ((((Moves.ite (Moves.self.stopApply) Moves.self).modCl (by decide)
      _).trans (.foldl (fun _ _ => (Moves.self.modCmu)) _ _)).slotTaken)) hp

theorem Moves.requestStep (hm : Moves ps s u) {ts : Stamp} (hp : [.fm, .cl] ⊆ ps := by decide) :
    Moves ps s (u.requestStep ts).1 :=
  hm.then (ps := [.fm, .cl]) (.iteFst Moves.self (.iteFst ((Moves.self.modCl (by decide) _).raiseEvent (by decide) _ _)
      (Moves.self.modCl (by decide) _))) hp

theorem Moves.stepRequestAct (hm : Moves ps s u) {ts : Stamp} (hp : [.fm, .cl] ⊆ ps := by decide) :
    Moves ps s (u.stepRequestAct ts).1 :=
  hm.then (ps := [.fm, .cl]) (.iteFst (Moves.self.no) (.iteFst ((Moves.self.requestStep).ok) ((Moves.self.requestStep).no))) hp

theorem Goes.stepRequest (hm : Moves ps s u) {r : Req} {ts : Stamp} (hp : [.fm, .cl, .sy] ⊆ ps := by decide) :
    Goes ps s (execStepRequest r ts u) :=
  hm.goes (ps := [.fm, .cl, .sy]) (.next (Moves.self.liveReq (fun _ _ => (Moves.self.stepRequestAct)))) hp

theorem Goes.stepLocalDetect (hm : Moves ps s u) (hp : [.fm, .cl] ⊆ ps := by decide) :
    Goes ps s (execStepLocalDetect u) := by
  refine hm.goes (ps := [.fm, .cl]) ?_ hp
  unfold execStepLocalDetect
  refine .next ?_
  split
  · exact .ite ((Moves.self.modCl (by decide) _).requestStep) (Moves.self.modCl (by decide) _)
  · exact Moves.self.modCl (by decide) _

theorem Moves.modCtx (hm : Moves ps s u) {g : Nat} {f : Ctx → Ctx} (hp : [.ef] ⊆ ps := by decide) :
    Moves ps s (u.modCtx g f) :=
  hm.then (ps := [.ef]) (Moves.self.modEf (by decide) _) hp

theorem Moves.fabricStart (hm : Moves ps s u) (hp : [.fm, .ef, .cfg, .stopWait, .bytesWait, .bytes] ⊆ ps := by decide) :
    Moves ps s u.fabricStart :=
  hm.then (ps := [.fm, .ef, .cfg, .stopWait, .bytesWait, .bytes])
      (((((Moves.self.stopApply).modBytes (by decide) _).modBytesWait (by decide) _).modEf (by decide) _).cond (by decide) _ _
      _) hp

theorem Moves.fabricStopAct (hm : Moves ps s u) {value : Nat} (hp : [.ef] ⊆ ps := by decide) :
    Moves ps s (u.fabricStopAct value).1 :=
  hm.then (ps := [.ef]) (.iteFst (Moves.self.no) (.iteFst (Moves.self.no) ((Moves.self.modEf (by decide) _).ok))) hp

theorem Goes.fabricStop (hm : Moves ps s u) {r : Req} {value : Nat} (hp : [.ef, .sy] ⊆ ps := by decide) :
    Goes ps s (execFabricStop r value u) :=
  hm.goes (ps := [.ef, .sy]) (.next (Moves.self.liveReq (fun _ _ => (Moves.self.fabricStopAct)))) hp

theorem Moves.fabricStopPattern (hm : Moves ps s u) (hp : [.fm, .ef, .cfg, .stopWait, .bytesWait, .bytes] ⊆ ps := by decide) :
    Moves ps s u.fabricStopPattern := by
  refine hm.then (ps := [.fm, .ef, .cfg, .stopWait, .bytesWait, .bytes]) ?_ hp
  unfold State.fabricStopPattern
  split
  · exact .self
  · exact ((Moves.self.modEf (by decide) _).cfgPut).trans (.ite (Moves.self.modEf (by decide) _)
        (.ite (Moves.self.fabricStart) Moves.self))

theorem Moves.writeCap (hm : Moves ps s u) {g : Nat} (hp : [.nv] ⊆ ps := by decide) :
    Moves ps s (u.writeCap g) :=
  hm.then (ps := [.nv]) (Moves.self.journal (by decide) _ _) hp

theorem Moves.restReference (hm : Moves ps s u) {g : Nat} {zr : ℚ} {sr : ℚ} (hp : [.ef, .nv] ⊆ ps := by decide) :
    Moves ps s (u.restReference g zr sr) := by
  refine hm.then (ps := [.ef, .nv]) ?_ hp
  unfold State.restReference
  dsimp only
  split
  · exact (Moves.self.modCtx).writeCap
  · exact .ite (Moves.self.modCtx) (.ite ((Moves.self.modCtx).writeCap) Moves.self)

theorem Moves.restPoint (hm : Moves ps s u) {g : Nat} {zr : ℚ} {sr : ℚ} (hp : [.ef, .nv] ⊆ ps := by decide) :
    Moves ps s (u.restPoint g zr sr) :=
  hm.then (ps := [.ef, .nv]) ((((Moves.self.restReference).modCtx).modEf (by decide) _).trans
      (.ite (Moves.self.modEf (by decide) _) Moves.self)) hp

theorem Moves.offTimeRest (hm : Moves ps s u) {g : Nat} {tw : Nat × ℚ} {vg : ℚ} (hp : [.ef, .nv] ⊆ ps := by decide) :
    Moves ps s (u.offTimeRest g tw vg) := by
  refine hm.then (ps := [.ef, .nv]) ?_ hp
  unfold State.offTimeRest
  refine .ite Moves.self ?_
  split
  · exact Moves.self.modCtx
  · exact (Moves.self.modCtx).trans (.ite (Moves.self.restPoint) Moves.self)

theorem Moves.groupUpdate (hm : Moves ps s u) {g : Nat} (hp : [.fm, .cl, .ef, .nv] ⊆ ps := by decide) :
    Moves ps s (u.groupUpdate g) := by
  refine hm.then (ps := [.fm, .cl, .ef, .nv]) ?_ hp
  unfold State.groupUpdate
  refine .ite ?_ ?_
  · split
    · exact (Moves.self.modCtx).modGroup
    · exact Moves.self.modCtx
  · split
    · exact (((Moves.ite (Moves.self.raiseEvent (by decide) _ _) Moves.self).modCtx).modGroup).offTimeRest
    · exact ((Moves.self.modCtx).modGroup).offTimeRest
    · exact (Moves.self.modCtx).modGroup

theorem Moves.fabricSnap (hm : Moves ps s u) (hp : [.ef] ⊆ ps := by decide) :
    Moves ps s u.fabricSnap :=
  hm.then (ps := [.ef]) (Moves.self.modEf (by decide) _) hp

theorem Moves.lateSnap (hm : Moves ps s u) {stamp : Nat} (hp : [.ef] ⊆ ps := by decide) :
    Moves ps s (u.lateSnap stamp) :=
  hm.then (ps := [.ef]) (.ite (Moves.self.modEf (by decide) _) Moves.self) hp

theorem Moves.smooth (hm : Moves ps s u) {dt : Nat} (hp : [.ef] ⊆ ps := by decide) :
    Moves ps s (u.smooth dt) := by
  refine hm.then (ps := [.ef]) ?_ hp
  unfold State.smooth
  split
  · exact .self
  · exact .ite (Moves.self.modEf (by decide) _) (Moves.self.modEf (by decide) _)

theorem Moves.restClock (hm : Moves ps s u) {rest : Bool} {g : Nat} (hp : [.ef] ⊆ ps := by decide) :
    Moves ps s (u.restClock rest g) :=
  hm.then (ps := [.ef]) Moves.self.modCtx hp

theorem Moves.restClocks (hm : Moves ps s u) (hp : [.ef] ⊆ ps := by decide) :
    Moves ps s u.restClocks :=
  hm.then (ps := [.ef]) (.ite Moves.self ((Moves.ite Moves.self (Moves.self.modEf (by decide) _)).trans
      (.foldl (fun _ _ => (Moves.self.restClock)) _ _))) hp

theorem Moves.stringHead (hm : Moves ps s u) {dIn : Int} {dOut : Int} (hp : [.ef] ⊆ ps := by decide) :
    Moves ps s (u.stringHead dIn dOut) :=
  hm.then (ps := [.ef]) ((((Moves.self.modEf (by decide) _).trans (.foldl (fun _ _ => (Moves.self.modCtx)) _ _)).smooth).modEf
      (by decide) _) hp

theorem Moves.dispatchable (hm : Moves ps s u) {dn : ℚ} {up : ℚ} (hp : [.fm, .ef] ⊆ ps := by decide) :
    Moves ps s (u.dispatchable dn up) :=
  hm.then (ps := [.fm, .ef]) ((Moves.self.modEf (by decide) _).cond (by decide) _ _ _) hp

theorem Moves.tailFigures (hm : Moves ps s u) {gs : List Nat} (hp : [.ef] ⊆ ps := by decide) :
    Moves ps s (u.tailFigures gs) :=
  hm.then (ps := [.ef]) (Moves.self.modEf (by decide) _) hp

theorem Moves.stringTail (hm : Moves ps s u) (hp : [.fm, .ef] ⊆ ps := by decide) :
    Moves ps s u.stringTail := by
  refine hm.then (ps := [.fm, .ef]) ?_ hp
  unfold State.stringTail
  refine (((Moves.tailFigures ?_).cond (by decide) _ _ _).cond (by decide) _ _ _).cond (by decide) _ _ _
  split
  · exact (((Moves.self.trans (.foldl (fun _ _ => (.ite .self (Moves.self.modCtx))) _ _)).modEf (by decide) _).modEf
        (by decide) _).trans (.ite (Moves.self.dispatchable) Moves.self)
  · exact (Moves.self.trans (.foldl (fun _ _ => (.ite .self (Moves.self.modCtx))) _ _)).modEf (by decide) _

theorem Goes.groupUpdateComplete (hm : Moves ps s u) {group : Nat} (hp : [.fm, .cl, .ef, .nv] ⊆ ps := by decide) :
    Goes ps s (execGroupUpdateComplete group u) :=
  hm.goes (ps := [.fm, .cl, .ef, .nv]) (.next (.ite .self (((Moves.self.groupUpdate).modEf (by decide) _).trans
      (.ite (Moves.self.stringTail) Moves.self)))) hp

theorem Moves.skipGroups (hm : Moves ps s u) {gs : List Nat} (hp : [.fm, .ef] ⊆ ps := by decide) :
    Moves ps s (u.skipGroups gs) :=
  hm.then (ps := [.fm, .ef]) (((Moves.self.trans (.foldl (fun _ _ => (Moves.self.modCtx)) _ _)).modEf (by decide) _).trans
      (.foldl (fun _ _ => (Moves.self.raiseEvent (by decide) _ _)) _ _)) hp

theorem Goes.fabricSkipDeadline (hm : Moves ps s u) (hp : [.fm, .ef, .tb] ⊆ ps := by decide) :
    Goes ps s (execFabricSkipDeadline () u) :=
  hm.goes (ps := [.fm, .ef, .tb]) ((Moves.self.runTo (by decide) _).goes
      (.next (.ite .self ((Moves.self.skipGroups).modEf (by decide) _))) (List.Subset.refl _)) hp

theorem Goes.fabricAbandonDeadline (hm : Moves ps s u) (hp : [.fm, .ef, .tb] ⊆ ps := by decide) :
    Goes ps s (execFabricAbandonDeadline u) :=
  hm.goes (ps := [.fm, .ef, .tb]) ((Moves.self.runTo (by decide) _).goes
      (.next (.ite .self (((Moves.self.skipGroups).modEf (by decide) _).stringTail))) (List.Subset.refl _)) hp

theorem Moves.writeSoc (hm : Moves ps s u) (hp : [.nv] ⊆ ps := by decide) :
    Moves ps s u.writeSoc :=
  hm.then (ps := [.nv]) ((Moves.self.trans (.foldl (fun _ _ => (Moves.self.journal (by decide) _ _)) _ _)).journal (by decide)
      _ _) hp

theorem Moves.writeImp (hm : Moves ps s u) (hp : [.ef, .nv] ⊆ ps := by decide) :
    Moves ps s u.writeImp :=
  hm.then (ps := [.ef, .nv]) ((Moves.self.trans (.foldl (fun _ _ => (Moves.self.journal (by decide) _ _)) _ _)).modEf
      (by decide) _) hp

theorem Moves.writeLearned (hm : Moves ps s u) (hp : [.ef, .nv] ⊆ ps := by decide) :
    Moves ps s u.writeLearned :=
  hm.then (ps := [.ef, .nv]) (((Moves.self.trans (.foldl (fun _ _ => (Moves.self.journal (by decide) _ _)) _
      _)).writeSoc).writeImp) hp

theorem Goes.learnedStateWrite (hm : Moves ps s u) (hp : [.nv] ⊆ ps := by decide) :
    Goes ps s (execLearnedStateWrite u) :=
  hm.goes (ps := [.nv]) (.next (Moves.self.writeSoc)) hp

theorem Goes.impRecordWrite (hm : Moves ps s u) (hp : [.ef, .nv] ⊆ ps := by decide) :
    Goes ps s (execImpRecordWrite u) :=
  hm.goes (ps := [.ef, .nv]) (.next (.ite (Moves.self.writeImp) Moves.self)) hp

theorem Moves.restoreLearned (hm : Moves ps s u) {powerFail : Bool} (hp : [.ef, .freeCount] ⊆ ps := by decide) :
    Moves ps s (u.restoreLearned powerFail) :=
  hm.then (ps := [.ef, .freeCount]) ((Moves.self.modEf (by decide) _).trans
      (.ite (Moves.self.modEf (by decide) _) ((Moves.self.modEf (by decide) _).modFreeCount (by decide) _))) hp

theorem Moves.formatFault (hm : Moves ps s u) (hp : [.fm, .ef] ⊆ ps := by decide) :
    Moves ps s u.formatFault :=
  hm.then (ps := [.fm, .ef]) (.ite ((Moves.self.modEf (by decide) _).raiseEvent (by decide) _ _) Moves.self) hp

theorem Moves.learnedResetAct (hm : Moves ps s u) (hp : [.ef] ⊆ ps := by decide) :
    Moves ps s (u.learnedResetAct).1 :=
  hm.then (ps := [.ef]) (.iteFst (Moves.self.no) ((Moves.self.modEf (by decide) _).ok)) hp

theorem Moves.learnedResetPattern (hm : Moves ps s u) (hp : [.ef, .nv] ⊆ ps := by decide) :
    Moves ps s u.learnedResetPattern :=
  hm.then (ps := [.ef, .nv]) (.ite Moves.self ((Moves.self.modEf (by decide) _).writeLearned)) hp

theorem Goes.learnedStateReset (hm : Moves ps s u) {r : Req} (hp : [.ef, .sy] ⊆ ps := by decide) :
    Goes ps s (execLearnedStateReset r u) :=
  hm.goes (ps := [.ef, .sy]) (.next (Moves.self.liveReq (fun _ _ => (Moves.self.learnedResetAct)))) hp

theorem Moves.restEnd (hm : Moves ps s u) {g : Nat} {v1 : ℚ} {v2 : ℚ} (hp : [.ef, .nv] ⊆ ps := by decide) :
    Moves ps s (u.restEnd g v1 v2) :=
  hm.then (ps := [.ef, .nv]) ((Moves.self.modCtx).trans (.ite (Moves.self.restPoint) Moves.self)) hp

theorem Goes.restSampleTime (hm : Moves ps s u) {group : Nat} (hp : [.ef, .nv] ⊆ ps := by decide) :
    Goes ps s (execRestSampleTime group u) := by
  refine hm.goes (ps := [.ef, .nv]) ?_ hp
  unfold execRestSampleTime
  refine .next (.ite .self ?_)
  split
  · exact .ite (Moves.self.modCtx) Moves.self
  · exact .ite (Moves.self.modCtx) Moves.self
  · exact .ite (Moves.self.restEnd) Moves.self

theorem Goes.capacityLearningEvent (hm : Moves ps s u) {group : Nat} (hp : [.fm, .ef, .nv] ⊆ ps := by decide) :
    Goes ps s (execCapacityLearningEvent group u) := by
  refine hm.goes (ps := [.fm, .ef, .nv]) ?_ hp
  unfold execCapacityLearningEvent
  refine .next (.ite .self ?_)
  split
  · exact .ite ((((Moves.self.modCtx).modEf (by decide) _).writeCap).raiseEvent (by decide) _ _)
        ((Moves.self.modCtx).modEf (by decide) _)
  · exact .self

theorem Moves.learnedPattern (hm : Moves ps s u) (hp : [.ef, .nv] ⊆ ps := by decide) :
    Moves ps s u.learnedPattern := by
  refine hm.then (ps := [.ef, .nv]) ?_ hp
  unfold State.learnedPattern
  refine .ite Moves.self (Moves.self.trans (.foldl (fun _ _ => ?_) _ _))
  split
  · exact .self
  · exact (Moves.self.modCtx).writeCap

theorem Moves.msSample (hm : Moves ps s u) {i : ℚ} {stamp : Nat} (hp : [.ef] ⊆ ps := by decide) :
    Moves ps s (u.msSample i stamp) :=
  hm.then (ps := [.ef]) (Moves.self.modEf (by decide) _) hp

theorem Moves.capGroup (hm : Moves ps s u) {d : ℚ} {g : Nat} (hp : [.fm, .ef] ⊆ ps := by decide) :
    Moves ps s (u.capGroup d g).1 :=
  hm.then (ps := [.fm, .ef]) (.iteFst Moves.self (.iteFst (Moves.self.raiseEvent (by decide) _ _)
      ((Moves.self.modCtx).modEf (by decide) _))) hp

theorem Moves.captureDone (hm : Moves ps s u) (hp : [.fm, .ef] ⊆ ps := by decide) : Moves ps s u.captureDone := by
  refine hm.then (ps := [.fm, .ef]) ?_ hp
  have hfold (d : Rat) (gs : List Nat) (q : State × Bool) : Moves [.fm, .ef] q.1 (gs.foldl (fun (v, any) g =>
      let (w, b) := v.capGroup d g
      (w, any || b)) q).1 := by
    induction gs generalizing q with
    | nil => exact .self
    | cons g gs ih => exact Moves.self.capGroup.trans (ih _)
  unfold State.captureDone
  refine Moves.modEf ?_ (by decide) _
  split
  · exact .self
  next d _ => exact hfold d _ (u, false)

theorem Goes.stepData (hm : Moves ps s u) {cmu : Nat} {ident : Nat} {group : Nat} {first : Nat} {samples : List Nat}
    (hp : [.fm, .cl, .ef] ⊆ ps := by decide) :
    Goes ps s (execStepData cmu ident group first samples u) :=
  hm.goes (ps := [.fm, .cl, .ef]) (.next (.ite (Moves.self.repeatFrame)
      ((Moves.self.repeatFrame).trans ((((Moves.ite (Moves.self.modTyTraffic) Moves.self).modCl (by decide) _).modCl
      (by decide) _).trans (.ite .self (.ite (Moves.self.modCl (by decide) _)
      ((Moves.self.modCl (by decide) _).trans (.ite (Moves.self.captureDone) Moves.self)))))))) hp

theorem Moves.joinMs (hm : Moves ps s u) {i : ℚ} {stamp : Nat} (hp : [.ef] ⊆ ps := by decide) :
    Moves ps s (u.joinMs i stamp) :=
  hm.then (ps := [.ef]) (.ite (Moves.self.msSample) Moves.self) hp

theorem Goes.resultDelivered (hm : Moves ps s u) {duty : Nat} {levels : List (Nat × Int)} {stamp : Nat} {input : Nat}
    (hp : [.fm, .pm, .ca, .ss, .pc, .cl, .ef, .de, .os, .nv] ⊆ ps := by decide) :
    Goes ps s (execResultDelivered duty levels stamp input u) := by
  refine hm.goes (ps := [.fm, .pm, .ca, .ss, .pc, .cl, .ef, .de, .os, .nv]) ?_ hp
  unfold execResultDelivered
  refine .ite (.next Moves.self) (Moves.goes ?_ (.next (.ite ((Moves.self.lateMeans).lateSnap) (Moves.self.lateMeans)))
      (List.Subset.refl _))
  split
  · exact (((((Moves.ite (Moves.self.d5Input) Moves.self).storeResult).d0Result).modCl (by decide) _).prechargeHeat).joinMs
  · exact ((Moves.ite (Moves.self.d5Input) Moves.self).storeResult).d1Result
  · exact (Moves.ite (Moves.self.d5Input) Moves.self).storeResult
  · exact .ite ((Moves.ite (Moves.self.d5Input) Moves.self).storeResult)
        (((Moves.ite (Moves.self.d5Input) Moves.self).storeResult).monitorResult)
  · exact .ite ((Moves.ite (Moves.self.d5Input) Moves.self).storeResult)
        (((Moves.ite (Moves.self.d5Input) Moves.self).storeResult).monitorResult)
  · exact ((Moves.ite (Moves.self.d5Input) Moves.self).storeResult).voltResult

theorem Moves.judgeSensors (hm : Moves ps s u) (hp : [.fm, .cl, .tm] ⊆ ps := by decide) :
    Moves ps s u.judgeSensors := by
  refine hm.then (ps := [.fm, .cl, .tm]) ?_ hp
  unfold State.judgeSensors
  dsimp only
  split
  · exact Moves.self.trans (.foldl (fun _ _ => (Moves.self.modSensor)) _ _)
  · exact ((Moves.self.trans (.foldl (fun _ _ => (Moves.self.modSensor)) _ _)).modTm (by decide) _).raiseEvent (by decide) _ _

theorem Moves.validityFaults (hm : Moves ps s u) (hp : [.fm, .tm] ⊆ ps := by decide) :
    Moves ps s u.validityFaults :=
  hm.then (ps := [.fm, .tm]) (((Moves.self.modTm (by decide) _).cond (by decide) _ _ _).cond (by decide) _ _ _) hp

theorem Moves.evalSensor (hm : Moves ps s u) {n : Nat} (hp : [.cl] ⊆ ps := by decide) :
    Moves ps s (u.evalSensor n) := by
  refine hm.then (ps := [.cl]) ?_ hp
  unfold State.evalSensor
  dsimp only
  split
  · exact .self
  · exact Moves.self.modSensor

theorem Moves.extremes (hm : Moves ps s u) (hp : [.tm] ⊆ ps := by decide) :
    Moves ps s u.extremes := by
  refine hm.then (ps := [.tm]) ?_ hp
  unfold State.extremes
  dsimp only
  split
  · exact Moves.self.modTm (by decide) _
  · exact Moves.self.modTm (by decide) _

theorem Moves.throttle (hm : Moves ps s u) (hp : [.fm, .tm] ⊆ ps := by decide) :
    Moves ps s u.throttle :=
  hm.then (ps := [.fm, .tm]) ((Moves.self.modTm (by decide) _).trans
      (.ite (Moves.self.raiseEvent (by decide) _ _) Moves.self)) hp

theorem Goes.throttleRecoverExpiry (hm : Moves ps s u) (hp : [.fm, .cl, .tm] ⊆ ps := by decide) :
    Goes ps s (execThrottleRecoverExpiry u) :=
  hm.goes (ps := [.fm, .cl, .tm]) ((Moves.self.trans (.foldl (fun _ _ => (Moves.self.modSensor)) _ _)).goes
      (.next (.ite .self ((Moves.self.modTm (by decide) _).throttle))) (List.Subset.refl _)) hp

theorem Moves.chargeWindow (hm : Moves ps s u) (hp : [.fm, .tm] ⊆ ps := by decide) :
    Moves ps s u.chargeWindow :=
  hm.then (ps := [.fm, .tm]) ((Moves.self.modTm (by decide) _).cond (by decide) _ _ _) hp

theorem Moves.ownWindow (hm : Moves ps s u) (hp : [.cl, .si] ⊆ ps := by decide) :
    Moves ps s u.ownWindow := by
  refine hm.then (ps := [.cl, .si]) ?_ hp
  unfold State.ownWindow
  refine (Moves.self.trans (.foldl (fun _ _ => (.ite .self ?_)) _ _)).modSi (by decide) _
  split
  · exact .self
  · exact Moves.self.modSensor

theorem Moves.shutdown (hm : Moves ps s u) {junction : Bool} {item : Nat} (hp : [.fm, .tm, .si, .nv] ⊆ ps := by decide) :
    Moves ps s (u.shutdown junction item) :=
  hm.then (ps := [.fm, .tm, .si, .nv]) ((((Moves.self.modTm (by decide) _).modSi (by decide) _).raiseCond (by decide) _
      _).journal6 (by decide)) hp

theorem Moves.cellCritical (hm : Moves ps s u) (hp : [.fm, .cl, .tm, .si, .nv] ⊆ ps := by decide) :
    Moves ps s u.cellCritical := by
  refine hm.then (ps := [.fm, .cl, .tm, .si, .nv]) ?_ hp
  unfold State.cellCritical
  dsimp only
  split
  · exact Moves.self.trans (.foldl (fun _ _ => (Moves.self.modSensor)) _ _)
  · exact .ite (Moves.self.trans (.foldl (fun _ _ => (Moves.self.modSensor)) _ _))
        ((Moves.self.trans (.foldl (fun _ _ => (Moves.self.modSensor)) _ _)).shutdown)

theorem Goes.junctionSample (hm : Moves ps s u) {temp : Int} (hp : [.fm, .tm, .si, .nv] ⊆ ps := by decide) :
    Goes ps s (execJunctionSample temp u) :=
  hm.goes (ps := [.fm, .tm, .si, .nv]) ((Moves.self.modTm (by decide) _).goes (.next (.ite (Moves.self.shutdown) Moves.self))
      (List.Subset.refl _)) hp

theorem Moves.groupTemps (hm : Moves ps s u) (hp : [.tm] ⊆ ps := by decide) :
    Moves ps s u.groupTemps :=
  hm.then (ps := [.tm]) (Moves.self.trans (.foldl (fun _ _ => (Moves.self.modTm (by decide) _)) _ _)) hp

theorem Moves.localTemp (hm : Moves ps s u) {n : Nat} {mOhm : ℚ} (hp : [.freeCount] ⊆ ps := by decide) :
    Moves ps s (u.localTemp n mOhm).2 := by
  refine hm.then (ps := [.freeCount]) ?_ hp
  unfold State.localTemp
  split
  · exact .self
  · exact .iteSnd (Moves.self.takeFree (by decide)) Moves.self
  · exact .self

theorem Moves.modLocal (hm : Moves ps s u) {n : Nat} {f : LocalT → LocalT} (hp : [.tm] ⊆ ps := by decide) :
    Moves ps s (u.modLocal n f) :=
  hm.then (ps := [.tm]) (Moves.self.modTm (by decide) _) hp

theorem Goes.localSensorSample (hm : Moves ps s u) {ohms : List Nat} {board : Option Int} (hp : [.tm] ⊆ ps := by decide) :
    Goes ps s (execLocalSensorSample ohms board u) :=
  hm.goes (ps := [.tm]) (.next ((Moves.self.trans (.foldl (fun _ _ => (Moves.self.modLocal)) _ _)).modTm (by decide) _)) hp

theorem Moves.localPattern (hm : Moves ps s u) {n : Nat} (hp : [.tm, .freeCount] ⊆ ps := by decide) :
    Moves ps s (u.localPattern n) := by
  refine hm.then (ps := [.tm, .freeCount]) ?_ hp
  unfold State.localPattern
  dsimp only
  refine Moves.modLocal ?_
  split
  · exact .self
  · exact Moves.self.localTemp

theorem Moves.localsPattern (hm : Moves ps s u) (hp : [.tm, .freeCount] ⊆ ps := by decide) :
    Moves ps s u.localsPattern :=
  hm.then (ps := [.tm, .freeCount]) ((Moves.self.trans (.foldl (fun _ _ => (Moves.self.localPattern)) _ _)).modTm (by decide)
      _) hp

theorem Moves.evalLocal (hm : Moves ps s u) {n : Nat} (hp : [.tm] ⊆ ps := by decide) :
    Moves ps s (u.evalLocal n) := by
  refine hm.then (ps := [.tm]) ?_ hp
  unfold State.evalLocal
  dsimp only
  split
  · exact .self
  · exact Moves.self.modLocal

theorem Moves.thermalCutoff (hm : Moves ps s u) (hp : [.fm, .cl, .tm, .si, .nv] ⊆ ps := by decide) :
    Moves ps s u.thermalCutoff :=
  hm.then (ps := [.fm, .cl, .tm, .si, .nv]) (((((((((((Moves.self.judgeSensors).validityFaults).cellCritical).trans
      (.foldl (fun _ _ => (Moves.self.evalSensor)) _ _)).extremes).throttle).chargeWindow).ownWindow).trans
      (.foldl (fun _ _ => (Moves.self.evalLocal)) _ _)).cond (by decide) _ _ _).groupTemps) hp

theorem Moves.modPwm (hm : Moves ps s u) {k : Nat} {f : Pwm → Pwm} (hp : [.tm] ⊆ ps := by decide) :
    Moves ps s (u.modPwm k f) :=
  hm.then (ps := [.tm]) (Moves.self.modTm (by decide) _) hp

theorem Moves.pwmPattern (hm : Moves ps s u) {k : Nat} (hp : [.tm] ⊆ ps := by decide) :
    Moves ps s (u.pwmPattern k) :=
  hm.then (ps := [.tm]) Moves.self.modPwm hp

theorem Moves.coolingPattern (hm : Moves ps s u) (hp : [.tm] ⊆ ps := by decide) :
    Moves ps s u.coolingPattern :=
  hm.then (ps := [.tm]) ((Moves.self.trans (.foldl (fun _ _ => (Moves.self.pwmPattern)) _ _)).modTm (by decide) _) hp

theorem Goes.pwmOvercurrentOff (hm : Moves ps s u) {output : Nat} (hp : [.fm, .tm] ⊆ ps := by decide) :
    Goes ps s (execPwmOvercurrentOff output u) :=
  hm.goes (ps := [.fm, .tm]) (.next ((Moves.self.modPwm).raiseEvent (by decide) _ _)) hp

theorem Goes.pwmRestart (hm : Moves ps s u) {output : Nat} (hp : [.tm] ⊆ ps := by decide) :
    Goes ps s (execPwmRestart output u) :=
  hm.goes (ps := [.tm]) (.next (.ite (Moves.self.modPwm) Moves.self)) hp

theorem Moves.nvWindow (hm : Moves ps s u) (hp : [.fm, .tm, .nv, .ld] ⊆ ps := by decide) :
    Moves ps s u.nvWindow :=
  hm.then (ps := [.fm, .tm, .nv, .ld]) ((Moves.self.modTm (by decide) _).trans
      ((Moves.ite Moves.self ((Moves.self.nvKick (by decide)).progKick)).cond (by decide) _ _ _)) hp

theorem Moves.thermalPattern (hm : Moves ps s u) (hp : [.fm, .tm, .nv, .ld, .freeCount] ⊆ ps := by decide) :
    Moves ps s u.thermalPattern :=
  hm.then (ps := [.fm, .tm, .nv, .ld, .freeCount]) ((Moves.self.localsPattern).coolingPattern).nvWindow hp

theorem Moves.confirmMask (hm : Moves ps s u) {g : Nat} {n : Nat} {mask : Nat} (hp : [.cl, .bs] ⊆ ps := by decide) :
    Moves ps s (State.confirmMask g n u mask) :=
  hm.then (ps := [.cl, .bs]) (((Moves.self.modGroup).modBs (by decide) _).trans (.ite (Moves.self.modCmu) Moves.self)) hp

theorem Moves.confirmGroup (hm : Moves ps s u) {g : Nat} (hp : [.cl, .bs] ⊆ ps := by decide) :
    Moves ps s (u.confirmGroup g) :=
  hm.then (ps := [.cl, .bs]) ((Moves.self.modGroup).trans (.foldl (fun _ _ => (Moves.self.confirmMask)) _ _)) hp

theorem Moves.bleedConfirm (hm : Moves ps s u) (hp : [.fm, .cl, .bs] ⊆ ps := by decide) :
    Moves ps s u.bleedConfirm :=
  hm.then (ps := [.fm, .cl, .bs]) (((((Moves.self.trans (.foldl (fun _ _ => (Moves.self.confirmGroup)) _ _)).trans
      (.foldl (fun _ _ => (Moves.self.modCmu)) _ _)).cond (by decide) _ _ _).cond (by decide) _ _ _).cond (by decide) _ _ _)
      hp

theorem Moves.commandCmu (hm : Moves ps s u) {want : List (Nat × ℚ)} {slice : Nat} {c : Nat} (hp : [.cl] ⊆ ps := by decide) :
    Moves ps s (u.commandCmu want slice c) :=
  hm.then (ps := [.cl]) ((Moves.self.trans (.foldl (fun _ _ => (Moves.self.modGroup)) _ _)).modCmu) hp

theorem Moves.balanceFlags (hm : Moves ps s u) {cands : List Nat} {want : List (Nat × ℚ)} {needs : List (Nat × ℚ)} {g : Nat}
    (hp : [.cl] ⊆ ps := by decide) :
    Moves ps s (u.balanceFlags cands want needs g) :=
  hm.then (ps := [.cl]) Moves.self.modGroup hp

theorem Moves.balance (hm : Moves ps s u) (hp : [.fm, .cl, .bs] ⊆ ps := by decide) :
    Moves ps s u.balance :=
  hm.then (ps := [.fm, .cl, .bs]) ((((((Moves.self.modBs (by decide) _).bleedConfirm).trans
      (.foldl (fun _ _ => (Moves.self.commandCmu)) _ _)).trans (.foldl (fun _ _ => (Moves.self.balanceFlags)) _ _)).modBs
      (by decide) _).cond (by decide) _ _ _) hp

theorem Moves.sendBalance (hm : Moves ps s u) {c : Nat} (hp : [.cl] ⊆ ps := by decide) :
    Moves ps s (u.sendBalance c) :=
  hm.then (ps := [.cl]) (Moves.self.ringSend).modCmu hp

theorem Moves.balancePattern (hm : Moves ps s u) (hp : [.cl] ⊆ ps := by decide) :
    Moves ps s u.balancePattern :=
  hm.then (ps := [.cl]) (Moves.self.trans (.foldl (fun _ _ => (Moves.self.sendBalance)) _ _)) hp

theorem Moves.stopBleeding (hm : Moves ps s u) (hp : [.cl, .bs] ⊆ ps := by decide) :
    Moves ps s u.stopBleeding :=
  hm.then (ps := [.cl, .bs]) ((Moves.self.trans (.foldl (fun _ _ => (Moves.self.commandCmu)) _ _)).modBs (by decide) _) hp

theorem Moves.balanceEnableAct (hm : Moves ps s u) {value : Nat} (hp : [.cl, .bs, .cfg] ⊆ ps := by decide) :
    Moves ps s (u.balanceEnableAct value).1 :=
  hm.then (ps := [.cl, .bs, .cfg]) (.iteFst (Moves.self.no) ((Moves.self.cfgPut).trans
      ((Moves.ite (Moves.self.stopBleeding) Moves.self).ok))) hp

theorem Goes.balanceEnable (hm : Moves ps s u) {r : Req} {value : Nat} (hp : [.cl, .bs, .sy, .cfg] ⊆ ps := by decide) :
    Goes ps s (execBalanceEnable r value u) :=
  hm.goes (ps := [.cl, .bs, .sy, .cfg]) (.next (Moves.self.liveReq (fun _ _ => (Moves.self.balanceEnableAct)))) hp

theorem Moves.startRamp (hm : Moves ps s u) {fault : Bool} (hp : [.de] ⊆ ps := by decide) :
    Moves ps s (u.startRamp fault) :=
  hm.then (ps := [.de]) (Moves.self.modDe (by decide) _) hp

theorem Moves.armedStart (hm : Moves ps s u) (hp : [.fm, .pm, .pc, .de, .os, .nv, .freeCount] ⊆ ps := by decide) :
    Moves ps s u.armedStart :=
  hm.then (ps := [.fm, .pm, .pc, .de, .os, .nv, .freeCount]) (.ite (Moves.self.connectBegin) Moves.self) hp

theorem Moves.disconnectHere (hm : Moves ps s u) (hp : [.pm, .pc, .de, .os, .nv] ⊆ ps := by decide) :
    Moves ps s u.disconnectHere :=
  hm.then (ps := [.pm, .pc, .de, .os, .nv]) (.ite (Moves.self.abortSequence) (.ite (Moves.self.startRamp) Moves.self)) hp

theorem Moves.noIntent (hm : Moves ps s u) (hp : [.fm, .de] ⊆ ps := by decide) :
    Moves ps s u.noIntent :=
  hm.then (ps := [.fm, .de]) ((Moves.self.modDe (by decide) _).trans
      ((Moves.ite (Moves.self.startRamp) Moves.self).cond (by decide) _ _ _)) hp

theorem Moves.intentUpdate (hm : Moves ps s u) (hp : [.fm, .pm, .pc, .de, .os, .nv, .freeCount] ⊆ ps := by decide) :
    Moves ps s u.intentUpdate :=
  hm.then (ps := [.fm, .pm, .pc, .de, .os, .nv, .freeCount])
      ((Moves.self.modDe (by decide) _).trans ((((Moves.ite (Moves.self.modDe (by decide) _)
      Moves.self).noIntent).armedStart).disconnectHere)) hp

theorem Moves.faultRamp (hm : Moves ps s u) (hp : [.de] ⊆ ps := by decide) :
    Moves ps s u.faultRamp :=
  hm.then (ps := [.de]) (.ite (Moves.self.startRamp) Moves.self) hp

theorem Moves.rampRow (hm : Moves ps s u) (hp : [.de] ⊆ ps := by decide) :
    Moves ps s u.rampRow :=
  hm.then (ps := [.de]) (.ite (Moves.self.modDe (by decide) _) Moves.self) hp

theorem Moves.rampOpen (hm : Moves ps s u) (hp : [.pm, .pc, .de, .os, .nv] ⊆ ps := by decide) :
    Moves ps s u.rampOpen :=
  hm.then (ps := [.pm, .pc, .de, .os, .nv]) ((Moves.self.openSequenced).modDe (by decide) _) hp

theorem Goes.rampDownWaitEnd (hm : Moves ps s u) (hp : [.fm, .pm, .pc, .de, .si, .os, .nv, .freeCount] ⊆ ps := by decide) :
    Goes ps s (execRampDownWaitEnd u) := by
  refine hm.goes (ps := [.fm, .pm, .pc, .de, .si, .os, .nv, .freeCount]) ?_ hp
  unfold execRampDownWaitEnd
  refine .next (.ite .self (.ite (Moves.rampOpen ?_) (.ite (((Moves.rampOpen ?_).modDe (by decide) _).raiseEvent (by decide) _
      _) (((Moves.take ?_).modDe (by decide) _).raiseEvent (by decide) _ _))))
  · split
    · exact .self
    · exact Moves.self.takeFree (by decide)
  · split
    · exact .self
    · exact Moves.self.takeFree (by decide)
  · split
    · exact .self
    · exact Moves.self.takeFree (by decide)

theorem Moves.restStart (hm : Moves ps s u) (hp : [.de] ⊆ ps := by decide) :
    Moves ps s u.restStart :=
  hm.then (ps := [.de]) (Moves.self.modDe (by decide) _) hp

theorem Moves.restGrant (hm : Moves ps s u) {l : Lease} (hp : [.de] ⊆ ps := by decide) :
    Moves ps s (u.restGrant l) :=
  hm.then (ps := [.de]) ((Moves.self.modDe (by decide) _).trans
      (.ite (Moves.self.restStart) (Moves.self.modDe (by decide) _))) hp

theorem Moves.restUpdate (hm : Moves ps s u) (hp : [.fm, .de] ⊆ ps := by decide) :
    Moves ps s u.restUpdate := by
  refine hm.then (ps := [.fm, .de]) ?_ hp
  unfold State.restUpdate
  split
  · split
    · exact .self
    · exact .ite (Moves.self.restGrant) (Moves.self.modDe (by decide) _)
  · exact .ite Moves.self (Moves.self.modDe (by decide) _)
  · exact .ite Moves.self ((Moves.self.modDe (by decide) _).raiseEvent (by decide) _ _)
  · exact .self

theorem Moves.leasesActed (hm : Moves ps s u) (hp : [.fm, .pm, .pc, .de, .os, .nv, .freeCount] ⊆ ps := by decide) :
    Moves ps s u.leasesActed :=
  hm.then (ps := [.fm, .pm, .pc, .de, .os, .nv, .freeCount]) (Moves.self.intentUpdate).restUpdate hp

theorem Goes.restWindowStart (hm : Moves ps s u) (hp : [.de] ⊆ ps := by decide) :
    Goes ps s (execRestWindowStart u) :=
  hm.goes (ps := [.de]) (.next (.ite (Moves.self.restStart) Moves.self)) hp

theorem Goes.restWindowEnd (hm : Moves ps s u) (hp : [.de] ⊆ ps := by decide) :
    Goes ps s (execRestWindowEnd u) :=
  hm.goes (ps := [.de]) (.next (.ite (Moves.self.modDe (by decide) _) Moves.self)) hp

theorem Goes.restRetryExpiry (hm : Moves ps s u) (hp : [.fm, .de] ⊆ ps := by decide) :
    Goes ps s (execRestRetryExpiry u) :=
  hm.goes (ps := [.fm, .de]) (.next (.ite .self (.ite ((Moves.self.modDe (by decide) _).restUpdate)
      (Moves.self.modDe (by decide) _)))) hp

theorem Moves.putLease (hm : Moves ps s u) {l : Lease} (hp : [.fm, .pm, .pc, .de, .os, .nv, .freeCount] ⊆ ps := by decide) :
    Moves ps s (u.putLease l).1 := by
  refine hm.then (ps := [.fm, .pm, .pc, .de, .os, .nv, .freeCount]) ?_ hp
  unfold State.putLease
  extract_lets others set counted
  have hset (ls : List Lease) (t : State) : Moves [.fm, .pm, .pc, .de, .os, .nv, .freeCount] t (set ls t) :=
    (Moves.self.modDe (by decide) _).leasesActed
  have hcounted : Moves [.fm, .pm, .pc, .de, .os, .nv, .freeCount] u counted :=
    (Moves.self.modDe (by decide) _).raiseEvent (by decide) _ _
  clear_value set counted
  refine .iteFst (hset _ _) (.iteFst (hset _ _) ?_)
  split
  · exact hcounted.trans (hset _ _)
  · exact hcounted

theorem Moves.leaseAct (hm : Moves ps s u) {x : Session} {value : Bytes}
    (hp : [.fm, .pm, .pc, .de, .os, .nv, .freeCount] ⊆ ps := by decide) :
    Moves ps s (u.leaseAct x value).1 :=
  hm.then (ps := [.fm, .pm, .pc, .de, .os, .nv, .freeCount])
      (.iteFst (Moves.self.no) (.iteFst (Moves.self.no) (.iteFst ((Moves.self.putLease).ok) ((Moves.self.putLease).no)))) hp

theorem Goes.leaseWrite (hm : Moves ps s u) {r : Req} {value : Bytes}
    (hp : [.fm, .pm, .pc, .de, .os, .sy, .nv, .freeCount] ⊆ ps := by decide) :
    Goes ps s (execLeaseWrite r value u) :=
  hm.goes (ps := [.fm, .pm, .pc, .de, .os, .sy, .nv, .freeCount])
      (.next (Moves.self.liveReq (fun _ _ => (Moves.self.leaseAct)))) hp

theorem Moves.leaseRow (hm : Moves ps s u) (hp : [.de] ⊆ ps := by decide) :
    Moves ps s u.leaseRow :=
  hm.then (ps := [.de]) (.ite Moves.self (Moves.self.modDe (by decide) _)) hp

theorem Goes.leaseExpiry (hm : Moves ps s u) (hp : [.fm, .pm, .pc, .de, .os, .nv, .freeCount] ⊆ ps := by decide) :
    Goes ps s (execLeaseExpiry u) :=
  hm.goes (ps := [.fm, .pm, .pc, .de, .os, .nv, .freeCount]) (.next ((Moves.self.modDe (by decide) _).leasesActed)) hp

theorem Moves.alertBit (hm : Moves ps s u) {k : Nat} {n : Nat} (hp : [.cn] ⊆ ps := by decide) :
    Moves ps s (u.alertBit k n) :=
  hm.then (ps := [.cn]) (.ite (Moves.self.modCtl) Moves.self) hp

theorem Moves.errorUpdate (hm : Moves ps s u) {k : Nat} (hp : [.fm, .cn] ⊆ ps := by decide) :
    Moves ps s (u.errorUpdate k) :=
  hm.then (ps := [.fm, .cn]) ((Moves.self.modCtl).trans (((Moves.ite (Moves.self.alertBit) Moves.self).cond (by decide) _ _
      _).cond (by decide) _ _ _)) hp

theorem Moves.takeMode (hm : Moves ps s u) {k : Nat} {mode : Nat} (hp : [.fm, .cn] ⊆ ps := by decide) :
    Moves ps s (u.takeMode k mode) :=
  hm.then (ps := [.fm, .cn]) (.ite (Moves.self.modCtl) ((Moves.self.modCtl).errorUpdate)) hp

theorem Moves.frameEnd (hm : Moves ps s u) {k : Nat} (hp : [.fm, .cn] ⊆ ps := by decide) :
    Moves ps s (u.frameEnd k) :=
  hm.then (ps := [.fm, .cn]) (.ite (Moves.self.takeMode) Moves.self) hp

theorem Moves.controllerModeAct (hm : Moves ps s u) {ctl : Nat} {value : Nat} (hp : [.fm, .cn, .cfg] ⊆ ps := by decide) :
    Moves ps s (u.controllerModeAct ctl value).1 :=
  hm.then (ps := [.fm, .cn, .cfg]) (.iteFst (Moves.self.no) (.iteFst (Moves.self.no) (((Moves.self.cfgPut).takeMode).ok))) hp

theorem Goes.controllerMode (hm : Moves ps s u) {r : Req} {ctl : Nat} {value : Nat}
    (hp : [.fm, .cn, .sy, .cfg] ⊆ ps := by decide) :
    Goes ps s (execControllerMode r ctl value u) :=
  hm.goes (ps := [.fm, .cn, .sy, .cfg]) (.next (Moves.self.liveReq (fun _ _ => (Moves.self.controllerModeAct)))) hp

theorem Moves.buildLists (hm : Moves ps s u) (hp : [.cn] ⊆ ps := by decide) :
    Moves ps s u.buildLists :=
  hm.then (ps := [.cn]) (Moves.self.trans (.foldl (fun _ _ => (.ite (Moves.self.modCtl) Moves.self)) _ _)) hp

theorem Moves.storeFrame (hm : Moves ps s u) {k : Nat} {e : Nat} {sof : Nat} {f : CanFrame}
    (hp : [.fm, .cn] ⊆ ps := by decide) :
    Moves ps s (u.storeFrame k e sof f).1 := by
  refine hm.then (ps := [.fm, .cn]) ?_ hp
  unfold State.storeFrame
  refine .iteFst (.iteFst (((Moves.self.modCtl).alertBit).raiseEvent (by decide) _ _) ?_) ?_
  · exact .ite ((Moves.self.modCtl).alertBit) (Moves.self.modCtl)
  · exact .ite ((Moves.self.modCtl).alertBit) (Moves.self.modCtl)

theorem Moves.rxAck (hm : Moves ps s u) {k : Nat} {n : Nat} {upd : Nat} (hp : [.cn] ⊆ ps := by decide) :
    Moves ps s (u.rxAck k n upd) :=
  hm.then (ps := [.cn]) (.ite (Moves.self.modCtl) Moves.self) hp

theorem Goes.can2Rxack (hm : Moves ps s u) {buffer : Nat} {upd : Nat} (hp : [.cn] ⊆ ps := by decide) :
    Goes ps s (execCan2Rxack buffer upd u) :=
  hm.goes (ps := [.cn]) (.next (.ite (Moves.self.rxAck) Moves.self)) hp

theorem Moves.fireFrame (hm : Moves ps s u) {d : Bytes} (hp : [.fm, .cn, .sy] ⊆ ps := by decide) :
    Moves ps s (u.fireFrame d) := by
  refine hm.then (ps := [.fm, .cn, .sy]) ?_ hp
  unfold State.fireFrame
  dsimp only
  split
  · exact .self
  · exact .ite Moves.self ((((Moves.ite ((Moves.self.modCn (by decide) _).raiseEvent (by decide) _ _)
        (Moves.self.modCn (by decide) _)).clearCond (by decide) _).travel _).modSy (by decide) _)

theorem Moves.fireRecord (hm : Moves ps s u) {c : CmdRecord} (hp : [.cn, .sy] ⊆ ps := by decide) :
    Moves ps s (u.fireRecord c) :=
  hm.then (ps := [.cn, .sy]) (.ite ((Moves.self.modSy (by decide) _).modTyTraffic)
      (.ite .self ((Moves.self.modCn (by decide) _).modSy (by decide) _))) hp

theorem Goes.fireTimeout (hm : Moves ps s u) (hp : [.fm] ⊆ ps := by decide) :
    Goes ps s (execFireTimeout u) :=
  hm.goes (ps := [.fm]) (.next (.ite (Moves.self.raiseCond (by decide) _ _) Moves.self)) hp

theorem Goes.fireLeaseRenew (hm : Moves ps s u) (hp : [.fm, .pm, .pc, .de, .os, .nv, .freeCount] ⊆ ps := by decide) :
    Goes ps s (execFireLeaseRenew u) :=
  hm.goes (ps := [.fm, .pm, .pc, .de, .os, .nv, .freeCount]) (.next (.ite (Moves.self.putLease) Moves.self)) hp

theorem Moves.sybenFrame (hm : Moves ps s u) {k : Nat} {ident : Nat} {xl : Bool} {d : Bytes} (hp : [.cn] ⊆ ps := by decide) :
    Moves ps s (u.sybenFrame k ident xl d) := by
  refine hm.then (ps := [.cn]) ?_ hp
  unfold State.sybenFrame
  refine .ite Moves.self (.ite .self (.ite ?_ ?_))
  · exact Moves.self.modCn (by decide) _
  · split
    · exact .self
    · exact .ite (Moves.self.modCn (by decide) _) (Moves.self.modCn (by decide) _)

theorem Goes.canReassemblyTimeout (hm : Moves ps s u) {ctl : Nat} {channel : Nat} {node : Nat} (hp : [.cn] ⊆ ps := by decide) :
    Goes ps s (execCanReassemblyTimeout ctl channel node u) :=
  hm.goes (ps := [.cn]) (.next (Moves.self.modCn (by decide) _)) hp

theorem Moves.firmwareFrame (hm : Moves ps s u) {k : Nat} {f : CanFrame} (hp : [.fm, .cn, .sy] ⊆ ps := by decide) :
    Moves ps s (u.firmwareFrame k f) :=
  hm.then (ps := [.fm, .cn, .sy]) (.ite (Moves.self.fireFrame)
      (.ite (Moves.self.sybenFrame) (.ite (Moves.self.sybenFrame) Moves.self))) hp

theorem Moves.goodRec (hm : Moves ps s u) {k : Nat} (hp : [.cn, .freeCount] ⊆ ps := by decide) :
    Moves ps s (u.goodRec k) :=
  hm.then (ps := [.cn, .freeCount]) (.ite ((Moves.self.modCtl).takeFree (by decide)) (Moves.self.modCtl)) hp

theorem Moves.receiveFrame (hm : Moves ps s u) {k sof : Nat} {f : CanFrame} (hp : [.fm, .cn, .sy] ⊆ ps := by decide) :
    Moves ps s (u.receiveFrame k sof f) := by
  refine hm.then (ps := [.fm, .cn, .sy]) ?_ hp
  unfold State.receiveFrame
  split
  · exact .self
  next e _ =>
    have ht : Moves [.fm, .cn, .sy] u (u.storeFrame k e sof f).1 := Moves.self.storeFrame
    generalize u.storeFrame k e sof f = q at ht ⊢
    obtain ⟨t, n⟩ := q
    refine .ite .self ?_
    cases n with
    | none => exact ht
    | some b => exact .ite (Moves.rxAck ht).firmwareFrame ht

theorem Goes.canFrameReceive (hm : Moves ps s u) {ctl : Nat} {frame : CanFrame} {sof : Nat}
    (hp : [.fm, .cn, .sy, .freeCount] ⊆ ps := by decide) :
    Goes ps s (execCanFrameReceive ctl frame sof u) :=
  hm.goes (ps := [.fm, .cn, .sy, .freeCount]) (.next (.ite .self (((Moves.self.goodRec).receiveFrame).errorUpdate))) hp

theorem Moves.txRefused (hm : Moves ps s u) {k : Nat} (hp : [.fm, .cn] ⊆ ps := by decide) :
    Moves ps s (u.txRefused k) :=
  hm.then (ps := [.fm, .cn]) ((Moves.self.modCtl).raiseEvent (by decide) _ _) hp

theorem Moves.txFinish (hm : Moves ps s u) {k : Nat} {n : Nat} {state : Nat} {late : Bool} (hp : [.cn] ⊆ ps := by decide) :
    Moves ps s (u.txFinish k n state late) := by
  refine hm.then (ps := [.cn]) ?_ hp
  unfold State.txFinish
  split
  · split
    · split
      · dsimp only
        split
        · exact .ite ((Moves.self.modCtl).alertBit) (Moves.self.modCtl)
        · exact (Moves.ite ((Moves.self.modCtl).alertBit) (Moves.self.modCtl)).modCtl
      · dsimp only
        split
        · exact .ite ((Moves.self.modCtl).alertBit) (Moves.self.modCtl)
        · exact (Moves.ite ((Moves.self.modCtl).alertBit) (Moves.self.modCtl)).modCtl
    · split
      · dsimp only
        split
        · exact .ite ((Moves.self.modCtl).alertBit) (Moves.self.modCtl)
        · exact (Moves.ite ((Moves.self.modCtl).alertBit) (Moves.self.modCtl)).modCtl
      · dsimp only
        split
        · exact .ite ((Moves.self.modCtl).alertBit) (Moves.self.modCtl)
        · exact (Moves.ite ((Moves.self.modCtl).alertBit) (Moves.self.modCtl)).modCtl
  · split
    · split
      · dsimp only
        split
        · exact .ite ((Moves.self.modCtl).alertBit) (Moves.self.modCtl)
        · exact (Moves.ite ((Moves.self.modCtl).alertBit) (Moves.self.modCtl)).modCtl
      · dsimp only
        split
        · exact .ite ((Moves.self.modCtl).alertBit) (Moves.self.modCtl)
        · exact (Moves.ite ((Moves.self.modCtl).alertBit) (Moves.self.modCtl)).modCtl
    · split
      · dsimp only
        split
        · exact .ite ((Moves.self.modCtl).alertBit) (Moves.self.modCtl)
        · exact (Moves.ite ((Moves.self.modCtl).alertBit) (Moves.self.modCtl)).modCtl
      · dsimp only
        split
        · exact .ite ((Moves.self.modCtl).alertBit) (Moves.self.modCtl)
        · exact (Moves.ite ((Moves.self.modCtl).alertBit) (Moves.self.modCtl)).modCtl

theorem Moves.fwSend (hm : Moves ps s u) {k : Nat} {n : Nat} {f : CanFrame} (hp : [.fm, .cn] ⊆ ps := by decide) :
    Moves ps s (u.fwSend k n f) :=
  hm.then (ps := [.fm, .cn]) (.ite Moves.self (.ite (Moves.self.modCtl) (Moves.self.txRefused))) hp

theorem Moves.fwReplace (hm : Moves ps s u) {k : Nat} {n : Nat} {f : CanFrame} (hp : [.cn] ⊆ ps := by decide) :
    Moves ps s (u.fwReplace k n f) :=
  hm.then (ps := [.cn]) (.ite Moves.self (.ite (Moves.self.modCtl) (Moves.self.modCtl))) hp

theorem Moves.chainStep (hm : Moves ps s u) {k : Nat} (hp : [.fm, .cn] ⊆ ps := by decide) :
    Moves ps s (u.chainStep k) := by
  refine hm.then (ps := [.fm, .cn]) ?_ hp
  unfold State.chainStep
  split
  · exact .self
  · exact .ite ((Moves.self.modCtl).fwSend) Moves.self

theorem Goes.canTxRequest (hm : Moves ps s u) {buffer : Nat} (hp : [.fm, .cn] ⊆ ps := by decide) :
    Goes ps s (execCanTxRequest buffer u) :=
  hm.goes (ps := [.fm, .cn]) (.next (.ite .self (.ite (Moves.self.modCtl) (Moves.self.txRefused)))) hp

theorem Goes.canTxCancel (hm : Moves ps s u) {buffer : Nat} (hp : [.cn] ⊆ ps := by decide) :
    Goes ps s (execCanTxCancel buffer u) := by
  refine hm.goes (ps := [.cn]) ?_ hp
  unfold execCanTxCancel
  refine .next (.ite .self ?_)
  split
  · exact Moves.self.txFinish
  · exact Moves.self.modCtl
  · exact .self

theorem Goes.canTxReplace (hm : Moves ps s u) {buffer : Nat} (hp : [.cn] ⊆ ps := by decide) :
    Goes ps s (execCanTxReplace buffer u) :=
  hm.goes (ps := [.cn]) (.next (.ite .self (.ite (Moves.self.modCtl) (Moves.self.modCtl)))) hp

theorem Goes.canTxSelect (hm : Moves ps s u) {ctl : Nat} (hp : [.fm, .cn] ⊆ ps := by decide) :
    Goes ps s (execCanTxSelect ctl u) := by
  refine hm.goes (ps := [.fm, .cn]) ?_ hp
  unfold execCanTxSelect
  refine .next (.ite .self ?_)
  split
  · exact Moves.self.chainStep
  · exact (Moves.self.chainStep).modCtl

theorem Moves.envelopeOnCan (hm : Moves ps s u) {k : Nat} {n : Nat} (hp : [.de] ⊆ ps := by decide) :
    Moves ps s (u.envelopeOnCan k n) :=
  hm.then (ps := [.de]) (.ite (Moves.self.modDe (by decide) _) Moves.self) hp

theorem Goes.canTxComplete (hm : Moves ps s u) {ctl : Nat} (hp : [.fm, .de, .cn, .sy] ⊆ ps := by decide) :
    Goes ps s (execCanTxComplete ctl u) := by
  refine hm.goes (ps := [.fm, .de, .cn, .sy]) ?_ hp
  unfold execCanTxComplete
  refine .next ?_
  split
  · exact .self
  · exact (((Moves.self.modCtl).txFinish).envelopeOnCan).trans
        (((Moves.ite (Moves.self.receiveFrame) Moves.self).errorUpdate).frameEnd)

theorem Moves.frameFails (hm : Moves ps s u) {k : Nat} (hp : [.cn] ⊆ ps := by decide) :
    Moves ps s (u.frameFails k) := by
  refine hm.then (ps := [.cn]) ?_ hp
  unfold State.frameFails
  split
  · exact .self
  · exact .ite (Moves.self.txFinish) (Moves.self.modCtl)

theorem Goes.canArbitrationLost (hm : Moves ps s u) {ctl : Nat} (hp : [.fm, .cn] ⊆ ps := by decide) :
    Goes ps s (execCanArbitrationLost ctl u) :=
  hm.goes (ps := [.fm, .cn]) (.next ((Moves.self.frameFails).frameEnd)) hp

theorem Moves.purge (hm : Moves ps s u) {k : Nat} (hp : [.cn] ⊆ ps := by decide) :
    Moves ps s (u.purge k) :=
  hm.then (ps := [.cn]) (Moves.self.trans (.foldl (fun _ _ => ((Moves.self.txFinish).modCtl)) _ _)) hp

theorem Moves.fallbackBegin (hm : Moves ps s u) (hp : [.fm, .de] ⊆ ps := by decide) :
    Moves ps s u.fallbackBegin :=
  hm.then (ps := [.fm, .de]) (.ite Moves.self ((Moves.self.modDe (by decide) _).raiseEvent (by decide) _ _)) hp

theorem Moves.busOff (hm : Moves ps s u) {k : Nat} (hp : [.fm, .de, .cn] ⊆ ps := by decide) :
    Moves ps s (u.busOff k) :=
  hm.then (ps := [.fm, .de, .cn]) ((Moves.self.modCtl).trans
      ((Moves.ite (Moves.self.purge) Moves.self).trans (.ite (Moves.self.fallbackBegin) Moves.self))) hp

theorem Goes.canBusError (hm : Moves ps s u) {ctl : Nat} {code : Nat} {add : Nat} {transmitting : Bool}
    (hp : [.fm, .de, .cn] ⊆ ps := by decide) :
    Goes ps s (execCanBusError ctl code add transmitting u) :=
  hm.goes (ps := [.fm, .de, .cn]) (.next (.ite .self ((Moves.self.modCtl).trans
      ((Moves.ite (Moves.self.frameFails) Moves.self).trans (((Moves.ite (Moves.self.busOff)
      Moves.self).errorUpdate).frameEnd))))) hp

theorem Goes.busOffRecoveryComplete (hm : Moves ps s u) {ctl : Nat} (hp : [.fm, .cn] ⊆ ps := by decide) :
    Goes ps s (execBusOffRecoveryComplete ctl u) :=
  hm.goes (ps := [.fm, .cn]) (.next (.ite ((Moves.self.modCtl).errorUpdate) Moves.self)) hp

theorem Moves.recoverAct (hm : Moves ps s u) {ctl : Nat} {value : Nat} (hp : [.fm, .cn] ⊆ ps := by decide) :
    Moves ps s (u.recoverAct ctl value).1 :=
  hm.then (ps := [.fm, .cn]) (.iteFst (Moves.self.no) (.iteFst (Moves.self.no)
      (.iteFst (Moves.self.no) (((Moves.self.modCtl).errorUpdate).ok)))) hp

theorem Goes.recoverRequest (hm : Moves ps s u) {r : Req} {ctl : Nat} {value : Nat} (hp : [.fm, .cn, .sy] ⊆ ps := by decide) :
    Goes ps s (execRecoverRequest r ctl value u) :=
  hm.goes (ps := [.fm, .cn, .sy]) (.next (Moves.self.liveReq (fun _ _ => (Moves.self.recoverAct)))) hp

theorem Goes.canTransceiverFault (hm : Moves ps s u) {ctl : Nat} (hp : [.fm] ⊆ ps := by decide) :
    Goes ps s (execCanTransceiverFault ctl u) :=
  hm.goes (ps := [.fm]) (.next (Moves.self.raiseEvent (by decide) _ _)) hp

theorem Goes.can2Txfin (hm : Moves ps s u) {buffers : Nat} (hp : [.cn] ⊆ ps := by decide) :
    Goes ps s (execCan2Txfin buffers u) :=
  hm.goes (ps := [.cn]) (.next (.ite (Moves.self.modCtl) Moves.self)) hp

theorem Goes.can2Alert (hm : Moves ps s u) {bits : Nat} (hp : [.cn] ⊆ ps := by decide) :
    Goes ps s (execCan2Alert bits u) :=
  hm.goes (ps := [.cn]) (.next (.ite (Moves.self.modCtl) Moves.self)) hp

theorem Moves.hvacPattern (hm : Moves ps s u) (hp : [.fm, .cn] ⊆ ps := by decide) : Moves ps s u.hvacPattern := by
  refine hm.then (ps := [.fm, .cn]) ?_ hp
  unfold State.hvacPattern
  have ht : Moves [.fm, .cn] u (u.numberMsg false).2 := Moves.self.numberMsg
  generalize u.numberMsg false = q at ht ⊢
  exact .ite .self ht.fwSend

theorem Moves.restAgeEnd (hm : Moves ps s u) (hp : [.de] ⊆ ps := by decide) :
    Moves ps s u.restAgeEnd :=
  hm.then (ps := [.de]) (.ite (Moves.self.modDe (by decide) _) Moves.self) hp

theorem Moves.computeEnvelope (hm : Moves ps s u) (hp : [.de] ⊆ ps := by decide) :
    Moves ps s u.computeEnvelope :=
  hm.then (ps := [.de]) (Moves.self.modDe (by decide) _) hp

theorem Goes.envelopeCompute (hm : Moves ps s u) (hp : [.de, .tb] ⊆ ps := by decide) :
    Goes ps s (execEnvelopeCompute u) :=
  hm.goes (ps := [.de, .tb]) (.next (((Moves.self.runTo (by decide) _).restAgeEnd).computeEnvelope)) hp

theorem Moves.sendEnvelope (hm : Moves ps s u) (hp : [.cn] ⊆ ps := by decide) :
    Moves ps s u.sendEnvelope :=
  hm.then (ps := [.cn]) ((Moves.ite (Moves.self.fwReplace) Moves.self).trans (.ite (Moves.self.emit _) Moves.self)) hp

theorem Goes.envelopeAck (hm : Moves ps s u) {node : Nat} {afterMs : Nat} (hp : [.de] ⊆ ps := by decide) :
    Goes ps s (execEnvelopeAck node afterMs u) :=
  hm.goes (ps := [.de]) (.next (.ite (Moves.self.modDe (by decide) _) Moves.self)) hp

theorem Moves.deliveryPattern (hm : Moves ps s u) (hp : [.fm, .de] ⊆ ps := by decide) :
    Moves ps s u.deliveryPattern :=
  hm.then (ps := [.fm, .de]) (.ite Moves.self ((Moves.self.modDe (by decide) _).trans
      ((Moves.ite (Moves.self.fallbackBegin) (.ite (Moves.self.modDe (by decide) _) Moves.self)).cond (by decide) _ _ _))) hp

theorem Moves.enforcePattern (hm : Moves ps s u) (hp : [.fm, .de] ⊆ ps := by decide) :
    Moves ps s u.enforcePattern := by
  refine hm.then (ps := [.fm, .de]) ?_ hp
  unfold State.enforcePattern
  split
  · exact Moves.self.modDe (by decide) _
  · exact ((Moves.self.modDe (by decide) _).cond (by decide) _ _ _).cond (by decide) _ _ _

theorem Moves.hardFault (hm : Moves ps s u) (hp : [.fm] ⊆ ps := by decide) :
    Moves ps s u.hardFault :=
  hm.then (ps := [.fm]) (Moves.self.cond (by decide) _ _ _) hp

theorem Moves.hardCutoff (hm : Moves ps s u) (hp : [.fm, .cl] ⊆ ps := by decide) :
    Moves ps s u.hardCutoff :=
  hm.then (ps := [.fm, .cl]) ((Moves.self.trans (.foldl (fun _ _ => (Moves.self.modGroup)) _ _)).hardFault) hp

theorem Moves.restPatternStart (hm : Moves ps s u) (hp : [.fm, .de] ⊆ ps := by decide) :
    Moves ps s u.restPatternStart := by
  refine hm.then (ps := [.fm, .de]) ?_ hp
  unfold State.restPatternStart
  extract_lets asks t v
  have ht : Moves [.fm, .de] u t := Moves.self.cond (by decide) _ _ _
  have hv : Moves [.fm, .de] u v := by
    unfold v
    split
    · exact .ite (ht.modDe (by decide) _) (ht.modDe (by decide) _)
    · exact .ite (ht.modDe (by decide) _) (ht.modDe (by decide) _)
    · exact ht
    · exact ht
    · exact .ite ht (ht.modDe (by decide) _)
  exact hv.restUpdate

theorem Moves.dispatchPattern (hm : Moves ps s u) (hp : [.fm, .pm, .pc, .de, .os, .nv, .freeCount] ⊆ ps := by decide) :
    Moves ps s u.dispatchPattern :=
  hm.then (ps := [.fm, .pm, .pc, .de, .os, .nv, .freeCount])
      (((((((((Moves.self.modDe (by decide)
      _).enforcePattern).hardFault).deliveryPattern).restPatternStart).noIntent).armedStart).disconnectHere).faultRamp) hp

theorem Moves.sendPtp (hm : Moves ps s u) {port : Nat} {m : PtpMsg} :
    Moves ps s (u.sendPtp port m) :=
  hm.then (ps := []) ((Moves.self.frameOut _).emit _) (List.nil_subset _)

theorem Moves.stampTx (hm : Moves ps s u) {port : Nat} {kind : Nat} {seq : Nat} {stamp : Int}
    (hp : [.fm, .tb] ⊆ ps := by decide) :
    Moves ps s (u.stampTx port kind seq stamp) :=
  hm.then (ps := [.fm, .tb]) (.ite (Moves.self.modTb (by decide) _)
      ((Moves.self.modTb (by decide) _).raiseEvent (by decide) _ _)) hp

theorem Moves.drainTx (hm : Moves ps s u) {port : Nat} (hp : [.tb] ⊆ ps := by decide) :
    Moves ps s (u.drainTx port) :=
  hm.then (ps := [.tb]) (.ite Moves.self (Moves.self.modTb (by decide) _)) hp

theorem Moves.sendEventMsg (hm : Moves ps s u) {port : Nat} {m : PtpMsg} {stamp : Int} (hp : [.fm, .tb] ⊆ ps := by decide) :
    Moves ps s (u.sendEventMsg port m stamp) :=
  hm.then (ps := [.fm, .tb]) ((Moves.self.sendPtp).stampTx).drainTx hp

theorem Moves.rawReceive (hm : Moves ps s u) {m : PtpMsg} (hp : [.sy] ⊆ ps := by decide) :
    Moves ps s (u.rawReceive m) := by
  refine hm.then (ps := [.sy]) ?_ hp
  unfold State.rawReceive
  split
  · exact .self
  · refine .ite (Moves.self.modSy (by decide) _) ?_
    refine Moves.getD (fun _ he => Moves.toReceiveSlot ?_ he) ?_ <;> exact Moves.self.originate

theorem Moves.stepped (hm : Moves ps s u) {d : Int} (hp : [.freeCount] ⊆ ps := by decide) :
    Moves ps s (u.stepped d).2 :=
  hm.then (ps := [.freeCount]) (.iteSnd Moves.self (Moves.self.takeFree (by decide))) hp

theorem Moves.applyStep (hm : Moves ps s u) {d : Int} (hp : [.fm, .rows, .pm, .ca, .ss, .cl, .ef, .os, .tb, .en, .nv, .lg,
    .freeCount] ⊆ ps := by decide) :
    Moves ps s (u.applyStep d) :=
  hm.then (ps := [.fm, .rows, .pm, .ca, .ss, .cl, .ef, .os, .tb, .en, .nv, .lg, .freeCount])
      (((((((((((((((Moves.self.stepped).modTb (by decide) _).modRows (by decide) _).modCl (by decide) _).modEf (by decide)
      _).modPm (by decide) _).modOs (by decide) _).modSyTraffic).modEn (by decide) _).modCa (by decide) _).modSs (by decide)
      _).journal (by decide) _ _).clearCond (by decide) _).raiseEvent (by decide) _ _).logKind (by decide) (by decide)
      (by decide) _ _) hp

theorem Moves.acceptStep (hm : Moves ps s u) {d : Int} (hp :
    [.fm, .rows, .pm, .ca, .ss, .cl, .ef, .os, .tb, .en, .nv, .lg, .freeCount] ⊆ ps := by decide) :
    Moves ps s (u.acceptStep d) :=
  hm.then (ps := [.fm, .rows, .pm, .ca, .ss, .cl, .ef, .os, .tb, .en, .nv, .lg, .freeCount])
      (.ite ((Moves.self.modTb (by decide) _).raiseCond (by decide) _ _)
      (.ite ((Moves.self.modTyTraffic).modTb (by decide) _) (Moves.self.applyStep))) hp

theorem Moves.agreedStep (hm : Moves ps s u) (hp : [.fm, .rows, .pm, .ca, .ss, .cl, .ef, .os, .tb, .en, .nv, .lg, .freeCount]
    ⊆ ps := by decide) :
    Moves ps s u.agreedStep := by
  refine hm.then (ps := [.fm, .rows, .pm, .ca, .ss, .cl, .ef, .os, .tb, .en, .nv, .lg, .freeCount]) ?_ hp
  unfold State.agreedStep
  split
  · exact Moves.self.applyStep
  · split
    · exact .ite (Moves.self.applyStep) Moves.self
    · exact .self

theorem Moves.servo (hm : Moves ps s u) {e : ℚ} {delta : ℚ} (hp : [.fm, .tb] ⊆ ps := by decide) :
    Moves ps s (u.servo e delta) :=
  hm.then (ps := [.fm, .tb]) ((Moves.self.modTb (by decide) _).cond (by decide) _ _ _) hp

theorem Moves.holdIncrement (hm : Moves ps s u) (hp : [.tb] ⊆ ps := by decide) :
    Moves ps s u.holdIncrement :=
  hm.then (ps := [.tb]) (Moves.self.modTb (by decide) _) hp

theorem Moves.refuseOffset (hm : Moves ps s u) {e : Int} {gap : Bool}
    (hp : [.fm, .rows, .pm, .ca, .ss, .cl, .ef, .os, .tb, .en, .nv, .lg, .freeCount] ⊆ ps := by decide) :
    Moves ps s (u.refuseOffset e gap) :=
  hm.then (ps := [.fm, .rows, .pm, .ca, .ss, .cl, .ef, .os, .tb, .en, .nv, .lg, .freeCount])
      (((Moves.self.modTb (by decide) _).raiseCond (by decide) _ _).trans (.ite (Moves.self.acceptStep) Moves.self)) hp

theorem Moves.slew (hm : Moves ps s u) {e : Int} {delta : ℚ} (hp : [.fm, .tb] ⊆ ps := by decide) :
    Moves ps s (u.slew e delta) :=
  hm.then (ps := [.fm, .tb]) ((((Moves.self.modTb (by decide) _).clearCond (by decide) _).clearCond (by decide) _).trans
      (.ite (Moves.self.servo) Moves.self)) hp

theorem Moves.offsetMeasured (hm : Moves ps s u) {e : Int} {delta : ℚ} {gap : Bool}
    (hp : [.fm, .rows, .pm, .ca, .ss, .cl, .ef, .os, .tb, .en, .nv, .lg, .freeCount] ⊆ ps := by decide) :
    Moves ps s (u.offsetMeasured e delta gap) :=
  hm.then (ps := [.fm, .rows, .pm, .ca, .ss, .cl, .ef, .os, .tb, .en, .nv, .lg, .freeCount])
      (.ite (Moves.self.acceptStep) (.ite (Moves.self.slew) (Moves.self.refuseOffset))) hp

theorem Moves.parentLost (hm : Moves ps s u) (hp : [.fm, .tb] ⊆ ps := by decide) :
    Moves ps s u.parentLost :=
  hm.then (ps := [.fm, .tb]) (((Moves.self.modTb (by decide) _).clearCond (by decide) _).trans
      (.ite ((Moves.ite (Moves.self.holdIncrement) Moves.self).raiseCond (by decide) _ _) Moves.self)) hp

theorem Moves.adopt (hm : Moves ps s u) {m : Master} (hp : [.fm, .tb] ⊆ ps := by decide) :
    Moves ps s (u.adopt m) :=
  hm.then (ps := [.fm, .tb]) ((Moves.self.modTb (by decide) _).clearCond (by decide) _) hp

theorem Moves.decideMaster (hm : Moves ps s u) (hp : [.fm, .tb] ⊆ ps := by decide) :
    Moves ps s u.decideMaster := by
  refine hm.then (ps := [.fm, .tb]) ?_ hp
  unfold State.decideMaster
  split
  · split
    · dsimp only
      exact (Moves.self.parentLost).modTb (by decide) _
    · refine .ite ?_ (Moves.self.adopt)
      exact (Moves.self.parentLost).modTb (by decide) _
  · split
    · dsimp only
      exact Moves.self.modTb (by decide) _
    · refine .ite ?_ (Moves.self.adopt)
      exact Moves.self.modTb (by decide) _

theorem Moves.grandmasterLost (hm : Moves ps s u) (hp : [.fm, .tb] ⊆ ps := by decide) :
    Moves ps s u.grandmasterLost := by
  refine hm.then (ps := [.fm, .tb]) ?_ hp
  unfold State.grandmasterLost
  split
  · exact .ite (Moves.self.modTb (by decide) _) Moves.self
  · exact (Moves.self.modTb (by decide) _).decideMaster

theorem Moves.ptpStartStop (hm : Moves ps s u) (hp : [.fm, .tb] ⊆ ps := by decide) :
    Moves ps s u.ptpStartStop :=
  hm.then (ps := [.fm, .tb]) (.ite (.ite (Moves.self.modTb (by decide) _) Moves.self)
      ((Moves.ite (Moves.self.parentLost) Moves.self).modTb (by decide) _)) hp

theorem Moves.syncDone (hm : Moves ps s u) {port : Nat} {seq : Nat} {t1 : Int} {t2 : Int}
    (hp : [.fm, .rows, .pm, .ca, .ss, .cl, .ef, .os, .tb, .en, .nv, .lg, .freeCount] ⊆ ps := by decide) :
    Moves ps s (u.syncDone port seq t1 t2) :=
  hm.then (ps := [.fm, .rows, .pm, .ca, .ss, .cl, .ef, .os, .tb, .en, .nv, .lg, .freeCount])
      ((Moves.self.modTb (by decide) _).offsetMeasured) hp

theorem Moves.ptpReceive (hm : Moves ps s u) {m : PtpMsg} {act : State → State} (hact : ∀ v, Moves ps v (act v))
    (hp : [.sy] ⊆ ps := by decide) : Moves ps s (u.ptpReceive m act) := by
  unfold State.ptpReceive
  have ht := hm.frameIn m.port
  exact .ite hm (.ite (ht.rawReceive hp) (.ite (ht.trans (hact _)) ht))

theorem Goes.syncFrame (hm : Moves ps s u) {m : PtpMsg} {bin : Nat}
    (hp : [.fm, .rows, .pm, .ca, .ss, .cl, .ef, .os, .tb, .en, .sy, .nv, .lg, .freeCount] ⊆ ps := by decide) :
    Goes ps s (execSyncFrame m bin u) :=
  hm.goes (ps := [.fm, .rows, .pm, .ca, .ss, .cl, .ef, .os, .tb, .en, .sy, .nv, .lg, .freeCount])
      (.next (Moves.self.ptpReceive (fun _ => (.ite .self (.ite (Moves.self.modTb (by decide) _) (Moves.self.syncDone)))))) hp

theorem Goes.followUp (hm : Moves ps s u) {m : PtpMsg} (hp :
    [.fm, .rows, .pm, .ca, .ss, .cl, .ef, .os, .tb, .en, .sy, .nv, .lg, .freeCount] ⊆ ps := by decide) :
    Goes ps s (execFollowUp m u) := by
  refine hm.goes (ps := [.fm, .rows, .pm, .ca, .ss, .cl, .ef, .os, .tb, .en, .sy, .nv, .lg, .freeCount]) ?_ hp
  unfold execFollowUp
  refine .next (Moves.self.ptpReceive (fun _ => ?_))
  split
  · exact .self
  · exact .ite (Moves.self.syncDone) Moves.self

theorem Goes.announce (hm : Moves ps s u) {m : PtpMsg} (hp : [.fm, .tb, .sy] ⊆ ps := by decide) :
    Goes ps s (execAnnounce m u) :=
  hm.goes (ps := [.fm, .tb, .sy]) (.next (Moves.self.ptpReceive
      (fun _ => (.ite .self ((Moves.self.modTb (by decide) _).decideMaster))))) hp

theorem Goes.delayReq (hm : Moves ps s u) {m : PtpMsg} {bin : Nat} (hp : [.sy] ⊆ ps := by decide) :
    Goes ps s (execDelayReq m bin u) :=
  hm.goes (ps := [.sy]) (.next (Moves.self.ptpReceive (fun _ => (.ite (Moves.self.sendPtp) Moves.self)))) hp

theorem Moves.delayValue (hm : Moves ps s u) {d : Int} (hp : [.freeCount] ⊆ ps := by decide) :
    Moves ps s (u.delayValue d).2 :=
  hm.then (ps := [.freeCount]) (.iteSnd Moves.self (Moves.self.takeFree (by decide))) hp

theorem Goes.delayResp (hm : Moves ps s u) {m : PtpMsg} (hp : [.tb, .sy, .freeCount] ⊆ ps := by decide) :
    Goes ps s (execDelayResp m u) := by
  refine hm.goes (ps := [.tb, .sy, .freeCount]) ?_ hp
  unfold execDelayResp
  refine .next (Moves.self.ptpReceive (fun _ => ?_))
  split
  · exact .ite ((Moves.self.delayValue).modTb (by decide) _) Moves.self
  · exact .self

theorem Goes.pdelayReq (hm : Moves ps s u) {m : PtpMsg} {bin : Nat} {after : Nat} (hp : [.fm, .tb, .sy] ⊆ ps := by decide) :
    Goes ps s (execPdelayReq m bin after u) :=
  hm.goes (ps := [.fm, .tb, .sy]) (.next (Moves.self.ptpReceive (fun _ => (.ite .self ((Moves.self.sendEventMsg).sendPtp))))) hp

theorem Goes.pdelayResp (hm : Moves ps s u) {m : PtpMsg} {bin : Nat} (hp : [.tb, .sy, .freeCount] ⊆ ps := by decide) :
    Goes ps s (execPdelayResp m bin u) := by
  refine hm.goes (ps := [.tb, .sy, .freeCount]) ?_ hp
  unfold execPdelayResp
  refine .next (Moves.self.ptpReceive (fun _ => ?_))
  split
  · exact .self
  · exact .ite ((Moves.self.delayValue).modTb (by decide) _) Moves.self

theorem Goes.transparentClockForward (hm : Moves ps s u) {m : PtpMsg} {residence : Nat} (hp : [.tb] ⊆ ps := by decide) :
    Goes ps s (execTransparentClockForward m residence u) := by
  refine hm.goes (ps := [.tb]) ?_ hp
  unfold execTransparentClockForward
  refine .next (.ite .self ?_)
  split
  · split
    · split
      · refine .ite ?_ ?_
        · exact ((((Moves.self.frameIn _).modTb (by decide) _).modTb (by decide) _).frameOut _).emit _
        · exact (((((Moves.self.frameIn _).modTb (by decide) _).frameOut _).emit _).frameOut _).emit _
      · dsimp only
        exact ((((Moves.self.frameIn _).modTb (by decide) _).modTb (by decide) _).frameOut _).emit _
      · dsimp only
        exact ((((Moves.self.frameIn _).modTb (by decide) _).modTb (by decide) _).frameOut _).emit _
      · dsimp only
        exact ((((Moves.self.frameIn _).modTb (by decide) _).modTb (by decide) _).frameOut _).emit _
      · dsimp only
        exact (((Moves.self.frameIn _).modTb (by decide) _).frameOut _).emit _
      · dsimp only
        exact (((Moves.self.frameIn _).modTb (by decide) _).frameOut _).emit _
      · dsimp only
        exact (((Moves.self.frameIn _).modTb (by decide) _).frameOut _).emit _
      · dsimp only
        exact ((Moves.self.frameIn _).frameOut _).emit _
    · split
      · refine .ite ?_ ?_
        · exact ((((Moves.self.frameIn _).modTb (by decide) _).modTb (by decide) _).frameOut _).emit _
        · exact (((((Moves.self.frameIn _).modTb (by decide) _).frameOut _).emit _).frameOut _).emit _
      · dsimp only
        exact ((((Moves.self.frameIn _).modTb (by decide) _).modTb (by decide) _).frameOut _).emit _
      · dsimp only
        exact ((((Moves.self.frameIn _).modTb (by decide) _).modTb (by decide) _).frameOut _).emit _
      · dsimp only
        exact ((((Moves.self.frameIn _).modTb (by decide) _).modTb (by decide) _).frameOut _).emit _
      · dsimp only
        exact (((Moves.self.frameIn _).modTb (by decide) _).frameOut _).emit _
      · dsimp only
        exact (((Moves.self.frameIn _).modTb (by decide) _).frameOut _).emit _
      · dsimp only
        exact (((Moves.self.frameIn _).modTb (by decide) _).frameOut _).emit _
      · dsimp only
        exact ((Moves.self.frameIn _).frameOut _).emit _
  · split
    · split
      · refine .ite ?_ ?_
        · exact ((((Moves.self.frameIn _).modTb (by decide) _).modTb (by decide) _).frameOut _).emit _
        · exact (((((Moves.self.frameIn _).modTb (by decide) _).frameOut _).emit _).frameOut _).emit _
      · dsimp only
        exact ((((Moves.self.frameIn _).modTb (by decide) _).modTb (by decide) _).frameOut _).emit _
      · dsimp only
        exact ((((Moves.self.frameIn _).modTb (by decide) _).modTb (by decide) _).frameOut _).emit _
      · dsimp only
        exact ((((Moves.self.frameIn _).modTb (by decide) _).modTb (by decide) _).frameOut _).emit _
      · dsimp only
        exact (((Moves.self.frameIn _).modTb (by decide) _).frameOut _).emit _
      · dsimp only
        exact (((Moves.self.frameIn _).modTb (by decide) _).frameOut _).emit _
      · dsimp only
        exact (((Moves.self.frameIn _).modTb (by decide) _).frameOut _).emit _
      · dsimp only
        exact ((Moves.self.frameIn _).frameOut _).emit _
    · split
      · refine .ite ?_ ?_
        · exact ((((Moves.self.frameIn _).modTb (by decide) _).modTb (by decide) _).frameOut _).emit _
        · exact (((((Moves.self.frameIn _).modTb (by decide) _).frameOut _).emit _).frameOut _).emit _
      · dsimp only
        exact ((((Moves.self.frameIn _).modTb (by decide) _).modTb (by decide) _).frameOut _).emit _
      · dsimp only
        exact ((((Moves.self.frameIn _).modTb (by decide) _).modTb (by decide) _).frameOut _).emit _
      · dsimp only
        exact ((((Moves.self.frameIn _).modTb (by decide) _).modTb (by decide) _).frameOut _).emit _
      · dsimp only
        exact (((Moves.self.frameIn _).modTb (by decide) _).frameOut _).emit _
      · dsimp only
        exact (((Moves.self.frameIn _).modTb (by decide) _).frameOut _).emit _
      · dsimp only
        exact (((Moves.self.frameIn _).modTb (by decide) _).frameOut _).emit _
      · dsimp only
        exact ((Moves.self.frameIn _).frameOut _).emit _

theorem Goes.announceReceiptTimeout (hm : Moves ps s u) (hp : [.fm, .tb] ⊆ ps := by decide) :
    Goes ps s (execAnnounceReceiptTimeout u) :=
  hm.goes (ps := [.fm, .tb]) (.next (.ite (Moves.self.grandmasterLost) Moves.self)) hp

theorem Goes.syncReceiptTimeout (hm : Moves ps s u) (hp : [.fm, .tb] ⊆ ps := by decide) :
    Goes ps s (execSyncReceiptTimeout u) :=
  hm.goes (ps := [.fm, .tb]) (.next (.ite (Moves.self.grandmasterLost) Moves.self)) hp

theorem Goes.syncIntervalSend (hm : Moves ps s u) {bin1 : Nat} {bin2 : Nat} (hp : [.fm, .tb] ⊆ ps := by decide) :
    Goes ps s (execSyncIntervalSend bin1 bin2 u) := by
  refine hm.goes (ps := [.fm, .tb]) ?_ hp
  unfold execSyncIntervalSend
  refine .next (.ite (Moves.modTb ?_ (by decide) _) Moves.self)
  exact (((Moves.self.sendEventMsg).sendPtp).sendEventMsg).sendPtp

theorem Goes.announceIntervalSend (hm : Moves ps s u) (hp : [.tb] ⊆ ps := by decide) :
    Goes ps s (execAnnounceIntervalSend u) :=
  hm.goes (ps := [.tb]) (.next (.ite (((Moves.self.sendPtp).sendPtp).modTb (by decide) _) Moves.self)) hp

theorem Goes.delayReqSend (hm : Moves ps s u) {port : Nat} {bin : Nat} (hp : [.fm, .tb] ⊆ ps := by decide) :
    Goes ps s (execDelayReqSend port bin u) := by
  refine hm.goes (ps := [.fm, .tb]) ?_ hp
  unfold execDelayReqSend
  refine .next (.ite .self (.ite ?_ (.ite ?_ Moves.self)))
  · exact ((Moves.self.sendEventMsg).modTb (by decide) _).modTb (by decide) _
  · exact ((Moves.self.sendEventMsg).modTb (by decide) _).modTb (by decide) _

theorem Moves.stepAcceptAct (hm : Moves ps s u) {value : Nat}
    (hp : [.fm, .rows, .pm, .ca, .ss, .cl, .ef, .os, .tb, .en, .nv, .lg, .freeCount] ⊆ ps := by decide) :
    Moves ps s (u.stepAcceptAct value).1 :=
  hm.then (ps := [.fm, .rows, .pm, .ca, .ss, .cl, .ef, .os, .tb, .en, .nv, .lg, .freeCount])
      (.iteFst (Moves.self.no) (.iteFst (Moves.self.ok) (.iteFst (Moves.self.no) ((Moves.self.acceptStep).ok)))) hp

theorem Goes.stepAccept (hm : Moves ps s u) {r : Req} {value : Nat}
    (hp : [.fm, .rows, .pm, .ca, .ss, .cl, .ef, .os, .tb, .en, .sy, .nv, .lg, .freeCount] ⊆ ps := by decide) :
    Goes ps s (execStepAccept r value u) :=
  hm.goes (ps := [.fm, .rows, .pm, .ca, .ss, .cl, .ef, .os, .tb, .en, .sy, .nv, .lg, .freeCount])
      (.next (Moves.self.liveReq (fun _ _ => (Moves.self.stepAcceptAct)))) hp

theorem Moves.timeStepAct (hm : Moves ps s u) {offset : Int}
    (hp : [.fm, .rows, .pm, .ca, .ss, .cl, .ef, .os, .tb, .en, .nv, .lg, .freeCount] ⊆ ps := by decide) :
    Moves ps s (u.timeStepAct offset).1 :=
  hm.then (ps := [.fm, .rows, .pm, .ca, .ss, .cl, .ef, .os, .tb, .en, .nv, .lg, .freeCount])
      (.iteFst ((Moves.self.acceptStep).ok) (.iteFst ((Moves.self.slew).ok) ((Moves.self.refuseOffset).ok))) hp

theorem Goes.timeStepRequest (hm : Moves ps s u) {r : Req} {offset : Int}
    (hp : [.fm, .rows, .pm, .ca, .ss, .cl, .ef, .os, .tb, .en, .sy, .nv, .lg, .freeCount] ⊆ ps := by decide) :
    Goes ps s (execTimeStepRequest r offset u) :=
  hm.goes (ps := [.fm, .rows, .pm, .ca, .ss, .cl, .ef, .os, .tb, .en, .sy, .nv, .lg, .freeCount])
      (.next (Moves.self.liveReq (fun _ _ => (Moves.self.timeStepAct)))) hp

theorem Moves.incrementAct (hm : Moves ps s u) {value : Nat} (hp : [.tb] ⊆ ps := by decide) :
    Moves ps s (u.incrementAct value).1 :=
  hm.then (ps := [.tb]) (.iteFst (Moves.self.no) (.iteFst (Moves.self.no) ((Moves.self.modTb (by decide) _).ok))) hp

theorem Goes.incrementWrite (hm : Moves ps s u) {r : Req} {value : Nat} (hp : [.tb, .sy] ⊆ ps := by decide) :
    Goes ps s (execIncrementWrite r value u) :=
  hm.goes (ps := [.tb, .sy]) (.next (Moves.self.liveReq (fun _ _ => (Moves.self.incrementAct)))) hp

theorem Goes.incrementHi (hm : Moves ps s u) {word : Nat} (hp : [.tb] ⊆ ps := by decide) :
    Goes ps s (execIncrementHi word u) :=
  hm.goes (ps := [.tb]) (.next (.ite .self (.ite (Moves.self.modTb (by decide) _) (Moves.self.modTb (by decide) _)))) hp

theorem Goes.timeShort (hm : Moves ps s u) (hp : [.tb, .sy] ⊆ ps := by decide) :
    Goes ps s (execTimeShort u) :=
  hm.goes (ps := [.tb, .sy]) (.next (.ite .self ((Moves.self.modTb (by decide) _).hostWord))) hp

theorem Goes.timeShadowRead (hm : Moves ps s u) {field : Nat} (hp : [.tb, .sy] ⊆ ps := by decide) :
    Goes ps s (execTimeShadowRead field u) := by
  refine hm.goes (ps := [.tb, .sy]) ?_ hp
  unfold execTimeShadowRead
  refine .next (.ite .self ?_)
  split
  · exact (Moves.self.modTb (by decide) _).hostWord
  · exact (Moves.self.modTb (by decide) _).hostWord
  · exact (Moves.self.modTb (by decide) _).hostWord

theorem Goes.qentry (hm : Moves ps s u) {port : Nat} (hp : [.tb, .sy] ⊆ ps := by decide) :
    Goes ps s (execQentry port u) := by
  refine hm.goes (ps := [.tb, .sy]) ?_ hp
  unfold execQentry
  refine .next (.ite .self (.ite (Moves.self.hostWord) ?_))
  split
  · exact Moves.self.hostWord
  · exact (Moves.self.modTb (by decide) _).hostWord

theorem Goes.qstatus (hm : Moves ps s u) {port : Nat} {word : Nat} (hp : [.tb] ⊆ ps := by decide) :
    Goes ps s (execQstatus port word u) :=
  hm.goes (ps := [.tb]) (.next (.ite .self (Moves.self.modTb (by decide) _))) hp

theorem Moves.mailboxError (hm : Moves ps s u) (hp : [.fm, .sy] ⊆ ps := by decide) :
    Moves ps s u.mailboxError :=
  hm.then (ps := [.fm, .sy]) ((Moves.self.modSy (by decide) _).raiseEvent (by decide) _ _) hp

theorem Moves.flushHeld (hm : Moves ps s u) {k : Nat} : Moves ps s (u.flushHeld k) := by
  induction k generalizing u with
  | zero => exact hm
  | succ k ih =>
    unfold State.flushHeld
    split
    · exact hm
    · split
      · exact hm
      next he => exact ih (hm.toReceiveSlot he).modSyTraffic

theorem Moves.slotHeader (hm : Moves ps s u) {n : Nat} (hp : [.sy] ⊆ ps := by decide) :
    Moves ps s (u.slotHeader n) :=
  hm.then (ps := [.sy]) (.ite (Moves.self.returnSlot) (.ite (Moves.self.modSyTraffic)
      ((Moves.self.modSyTraffic).request (fun _ _ => (Moves.self.no))))) hp

theorem Moves.postSlot (hm : Moves ps s u) {n : Nat} (hp : [.fm, .sy] ⊆ ps := by decide) :
    Moves ps s (u.postSlot n) :=
  hm.then (ps := [.fm, .sy]) (.ite (Moves.self.mailboxError)
      ((Moves.self.modSyTraffic).trans (.ite ((Moves.self.modSyTraffic).flushHeld) (Moves.self.slotHeader)))) hp

theorem Moves.mbPost (hm : Moves ps s u) {bits : Nat} (hp : [.fm, .sy] ⊆ ps := by decide) :
    Moves ps s (u.mbPost bits) :=
  hm.then (ps := [.fm, .sy]) (Moves.self.trans (.foldl (fun _ _ => (.ite (Moves.self.postSlot) Moves.self)) _ _)) hp

theorem Goes.mbPost (hm : Moves ps s u) {bits : Nat} (hp : [.fm, .sy] ⊆ ps := by decide) :
    Goes ps s (execMbPost bits u) :=
  hm.goes (ps := [.fm, .sy]) (.next (.ite (Moves.self.mbPost) Moves.self)) hp

theorem Goes.mbDone (hm : Moves ps s u) {bits : Nat} :
    Goes ps s (execMbDone bits u) :=
  hm.goes (ps := []) (.next (.ite (Moves.self.modSyTraffic) Moves.self)) (List.nil_subset _)

theorem Goes.mbReset (hm : Moves ps s u) {value : Nat} (hp : [.ty, .sy, .ld] ⊆ ps := by decide) :
    Goes ps s (execMbReset value u) :=
  hm.goes (ps := [.ty, .sy, .ld]) (.next (.ite .self ((((Moves.self.trans
      (.foldl (fun _ _ => (.ite (Moves.self.returnSlot) Moves.self)) _ _)).modSy (by decide) _).modLd (by decide) _).modTy
      (by decide) _))) hp

theorem Goes.mbAlert (hm : Moves ps s u) {bits : Nat} (hp : [.sy] ⊆ ps := by decide) :
    Goes ps s (execMbAlert bits u) :=
  hm.goes (ps := [.sy]) (.next (.ite (Moves.self.modSy (by decide) _) Moves.self)) hp

theorem Moves.slotWrite (hm : Moves ps s u) {n : Nat} {off : Nat} {word : Nat} (hp : [.fm, .sy] ⊆ ps := by decide) :
    Moves ps s (u.slotWrite n off word) :=
  hm.then (ps := [.fm, .sy]) (.ite (Moves.self.mailboxError) (Moves.self.modSyTraffic)) hp

theorem Moves.modEngine (hm : Moves ps s u) {k : Nat} {f : Engine → Engine} (hp : [.ck] ⊆ ps := by decide) :
    Moves ps s (u.modEngine k f) :=
  hm.then (ps := [.ck]) (Moves.self.modCk (by decide) _) hp

theorem Moves.feed (hm : Moves ps s u) {k : Nat} {bs : Bytes} (hp : [.ck, .freeCount] ⊆ ps := by decide) :
    Moves ps s (u.feed k bs) :=
  hm.then (ps := [.ck, .freeCount]) (.ite (Moves.self.modEngine) ((Moves.self.modEngine).takeFree (by decide))) hp

theorem Goes.data8 (hm : Moves ps s u) {engine : Nat} {byte : Nat} (hp : [.ck, .freeCount] ⊆ ps := by decide) :
    Goes ps s (execData8 engine byte u) :=
  hm.goes (ps := [.ck, .freeCount]) (.next (.ite (Moves.self.feed) Moves.self)) hp

theorem Goes.data32 (hm : Moves ps s u) {engine : Nat} {word : Nat} (hp : [.ck, .freeCount] ⊆ ps := by decide) :
    Goes ps s (execData32 engine word u) :=
  hm.goes (ps := [.ck, .freeCount]) (.next (.ite (Moves.self.feed) Moves.self)) hp

theorem Moves.ceCtrl (hm : Moves ps s u) {k : Nat} {word : Nat} (hp : [.ck] ⊆ ps := by decide) :
    Moves ps s (u.ceCtrl k word) :=
  hm.then (ps := [.ck]) Moves.self.modEngine hp

theorem Goes.ceCtrlLoadInit (hm : Moves ps s u) {engine : Nat} {word : Nat} (hp : [.ck] ⊆ ps := by decide) :
    Goes ps s (execCeCtrlLoadInit engine word u) :=
  hm.goes (ps := [.ck]) (.next (.ite (Moves.self.ceCtrl) Moves.self)) hp

theorem Moves.ceHigh (hm : Moves ps s u) {k : Nat} {off : Nat} {word : Nat} (hp : [.ck] ⊆ ps := by decide) :
    Moves ps s (u.ceHigh k off word) :=
  hm.then (ps := [.ck]) Moves.self.modEngine hp

theorem Goes.ceHighWordCommit (hm : Moves ps s u) {engine : Nat} {offset : Nat} {word : Nat} (hp : [.ck] ⊆ ps := by decide) :
    Goes ps s (execCeHighWordCommit engine offset word u) :=
  hm.goes (ps := [.ck]) (.next (.ite (Moves.self.ceHigh) Moves.self)) hp

theorem Goes.ceLowWordRead (hm : Moves ps s u) {engine : Nat} {offset : Nat} (hp : [.sy, .ck] ⊆ ps := by decide) :
    Goes ps s (execCeLowWordRead engine offset u) :=
  hm.goes (ps := [.sy, .ck]) (.next (.ite .self (.ite (Moves.self.hostWord)
      (.ite ((Moves.self.modEngine).hostWord) ((Moves.self.modEngine).hostWord))))) hp

theorem Goes.ceHighWordRead (hm : Moves ps s u) {engine : Nat} {offset : Nat} (hp : [.sy, .ck] ⊆ ps := by decide) :
    Goes ps s (execCeHighWordRead engine offset u) :=
  hm.goes (ps := [.sy, .ck]) (.next (.ite .self (.ite (Moves.self.hostWord)
      (.ite ((Moves.self.modEngine).hostWord) ((Moves.self.modEngine).hostWord))))) hp

theorem Moves.aliveWrite (hm : Moves ps s u) {k : Nat} {word : Nat} (hp : [.ck] ⊆ ps := by decide) :
    Moves ps s (u.aliveWrite k word) :=
  hm.then (ps := [.ck]) Moves.self.modEngine hp

theorem Goes.alive (hm : Moves ps s u) {engine : Nat} {word : Nat} (hp : [.ck] ⊆ ps := by decide) :
    Goes ps s (execAlive engine word u) :=
  hm.goes (ps := [.ck]) (.next (.ite (Moves.self.aliveWrite) Moves.self)) hp

theorem Moves.aliveCfgWrite (hm : Moves ps s u) {k : Nat} {word : Nat} (hp : [.ck] ⊆ ps := by decide) :
    Moves ps s (u.aliveCfgWrite k word) :=
  hm.then (ps := [.ck]) Moves.self.modEngine hp

theorem Goes.aliveCfgForget (hm : Moves ps s u) {engine : Nat} {word : Nat} (hp : [.ck] ⊆ ps := by decide) :
    Goes ps s (execAliveCfgForget engine word u) :=
  hm.goes (ps := [.ck]) (.next (.ite (Moves.self.aliveCfgWrite) Moves.self)) hp

theorem Moves.engineClaimAct (hm : Moves ps s u) {x : Session} {engine : Nat} (hp : [.ck] ⊆ ps := by decide) :
    Moves ps s (u.engineClaimAct x engine).1 :=
  hm.then (ps := [.ck]) (.iteFst (Moves.self.no) (.iteFst (Moves.self.no)
      (.iteFst (Moves.self.no) ((Moves.self.modEngine).ok)))) hp

theorem Goes.hostEngineClaim (hm : Moves ps s u) {r : Req} {engine : Nat} (hp : [.sy, .ck] ⊆ ps := by decide) :
    Goes ps s (execHostEngineClaim r engine u) :=
  hm.goes (ps := [.sy, .ck]) (.next (Moves.self.liveReq (fun _ _ => (Moves.self.engineClaimAct)))) hp

theorem Moves.engineReleaseAct (hm : Moves ps s u) {x : Session} {engine : Nat} (hp : [.ck] ⊆ ps := by decide) :
    Moves ps s (u.engineReleaseAct x engine).1 :=
  hm.then (ps := [.ck]) (.iteFst (Moves.self.no) (.iteFst (Moves.self.no) ((Moves.self.modEngine).ok))) hp

theorem Goes.hostEngineRelease (hm : Moves ps s u) {r : Req} {engine : Nat} (hp : [.sy, .ck] ⊆ ps := by decide) :
    Goes ps s (execHostEngineRelease r engine u) :=
  hm.goes (ps := [.sy, .ck]) (.next (Moves.self.liveReq (fun _ _ => (Moves.self.engineReleaseAct)))) hp

theorem Moves.ceWrite (hm : Moves ps s u) {k : Nat} {off : Nat} {word : Nat} (hp : [.ck, .freeCount] ⊆ ps := by decide) :
    Moves ps s (u.ceWrite k off word) := by
  refine hm.then (ps := [.ck, .freeCount]) ?_ hp
  unfold State.ceWrite
  refine .ite Moves.self ?_
  split
  · exact Moves.self.ceCtrl
  · exact Moves.self.modEngine
  · exact Moves.self.modEngine
  · exact Moves.self.modEngine
  · exact Moves.self.modEngine
  · exact Moves.self.ceHigh
  · exact Moves.self.ceHigh
  · exact Moves.self.ceHigh
  · exact Moves.self.ceHigh
  · exact Moves.self.feed
  · exact Moves.self.feed
  · exact Moves.self.aliveCfgWrite
  · exact Moves.self.aliveWrite
  · exact .self

theorem Moves.can2Write (hm : Moves ps s u) {off : Nat} {word : Nat} (hp : [.fm, .cn] ⊆ ps := by decide) :
    Moves ps s (u.can2Write off word) := by
  refine hm.then (ps := [.fm, .cn]) ?_ hp
  unfold State.can2Write
  refine .ite Moves.self (.ite (Moves.outcome (Goes.can2Rxack Moves.self))
      (.ite ?_ (.ite (Moves.outcome (Goes.can2Txfin Moves.self))
      (.ite (Moves.outcome (Goes.can2Txfin Moves.self)) (.ite (Moves.outcome (Goes.can2Alert Moves.self))
      (.ite (Moves.self.modCtl) (.ite (Moves.self.modCtl) (.ite (.ite (Moves.self.modCtl) Moves.self)
      (.ite (Moves.self.modCtl) Moves.self)))))))))
  split
  · exact Moves.outcome (Goes.canTxRequest Moves.self)
  · exact Moves.outcome (Goes.canTxCancel Moves.self)
  · exact Moves.outcome (Goes.canTxReplace Moves.self)
  · exact .self

theorem Moves.windowWrite (hm : Moves ps s u) {offset : Nat} {word : Nat}
    (hp : [.fm, .ty, .tb, .cn, .sy, .ck, .ld, .freeCount] ⊆ ps := by decide) :
    Moves ps s (u.windowWrite offset word) :=
  hm.then (ps := [.fm, .ty, .tb, .cn, .sy, .ck, .ld, .freeCount])
      (.ite (Moves.self.mbPost) (.ite (Moves.outcome (Goes.mbDone Moves.self))
      (.ite (Moves.self.modSy (by decide) _) (.ite (Moves.outcome (Goes.mbAlert Moves.self))
      (.ite (Moves.outcome (Goes.mbReset Moves.self)) (.ite (Moves.self.slotWrite)
      (.ite (Moves.self.modTb (by decide) _) (.ite (Moves.outcome (Goes.incrementHi Moves.self))
      (.ite (Moves.outcome (Goes.qstatus Moves.self)) (.ite (Moves.outcome (Goes.qstatus Moves.self))
      (.ite (Moves.self.ceWrite) (.ite (Moves.self.can2Write) Moves.self)))))))))))) hp

theorem Goes.hostWindowWrite (hm : Moves ps s u) {offset : Nat} {word : Nat}
    (hp : [.fm, .ty, .tb, .cn, .sy, .ck, .ld, .freeCount] ⊆ ps := by decide) :
    Goes ps s (execHostWindowWrite offset word u) :=
  hm.goes (ps := [.fm, .ty, .tb, .cn, .sy, .ck, .ld, .freeCount]) (.next (.ite (Moves.self.windowWrite) Moves.self)) hp

theorem Moves.plainRequest (hm : Moves ps s u) {r : Req} {unit : Bool} {opcode : Nat} {payload : Bytes} {fixed : Nat}
    {act : State → State} (hact : ∀ v, Moves ps v (act v)) (hp : [.sy] ⊆ ps := by decide) :
    Moves ps s (u.plainRequest r unit opcode payload fixed act) := by
  unfold State.plainRequest
  extract_lets t p
  have ht : Moves ps s t := hm.arrived
  clear_value t
  exact .ite hm (.ite ht (.ite ht.answerSlot (.ite (ht.modSy (hp (by decide)) _).answerSlot
    (.ite ht.plainAnswer (ht.trans (hact t))))))

theorem Goes.hello (hm : Moves ps s u) {r : Req} (hp : [.sy] ⊆ ps := by decide) :
    Goes ps s (execHello r u) :=
  hm.goes (ps := [.sy]) (.next (Moves.self.plainRequest (fun _ => (Moves.self.plainAnswer)))) hp

theorem Moves.proofFailed (hm : Moves ps s u) {src : Source} (hp : [.fm, .sy] ⊆ ps := by decide) :
    Moves ps s (u.proofFailed src) :=
  hm.then (ps := [.fm, .sy]) ((Moves.self.modSy (by decide) _).trans
      (.ite ((Moves.self.modSy (by decide) _).raiseEvent (by decide) _ _) Moves.self)) hp

theorem Goes.lockoutExpiry (hm : Moves ps s u) {source : Option Source} (hp : [.sy] ⊆ ps := by decide) :
    Goes ps s (execLockoutExpiry source u) :=
  hm.goes (ps := [.sy]) (.next (Moves.self.modSy (by decide) _)) hp

theorem Moves.passOn (hm : Moves ps s u) {r : Req} {opcode : Nat} {payload : Bytes} (hp : [.ty] ⊆ ps := by decide) :
    Moves ps s (u.passOn r opcode payload) :=
  hm.then (ps := [.ty]) (((Moves.self.popSlot).emit _).modTy (by decide) _) hp

theorem Moves.addOpen (hm : Moves ps s u) {o : PendingOpen} (hp : [.sy] ⊆ ps := by decide) :
    Moves ps s (u.addOpen o) :=
  hm.then (ps := [.sy]) (Moves.self.modSy (by decide) _) hp

theorem Moves.nonce (hm : Moves ps s u) (hp : [.freeCount] ⊆ ps := by decide) :
    Moves ps s (u.nonce).2 :=
  hm.then (ps := [.freeCount]) (Moves.self.takeFree (by decide)) hp

theorem Moves.sendLong (hm : Moves ps s u) {c : LongCommand} :
    Moves ps s (u.sendLong c) :=
  hm.then (ps := []) (.ite (Moves.self.modTyTraffic) Moves.self) (List.nil_subset _)

theorem Moves.decline (hm : Moves ps s u) {twin : Bool} {r : Req} {opcode : Nat} {status : Nat} :
    Moves ps s (u.decline twin r opcode status) :=
  hm.then (ps := []) (Moves.self.sendLong).plainAnswer (List.nil_subset _)

theorem Moves.openHere (hm : Moves ps s u) {twin : Bool} {r : Req} {role : Nat} {options : Nat} {client : Nat} {version : Nat}
    {nc : Bytes} (hp : [.sy, .freeCount] ⊆ ps := by decide) :
    Moves ps s (u.openHere twin r role options client version nc) := by
  refine hm.then (ps := [.sy, .freeCount]) ?_ hp
  unfold State.openHere
  split
  · exact Moves.self.decline
  · exact (((Moves.self.nonce).addOpen).sendLong).plainAnswer

theorem Goes.openRequest (hm : Moves ps s u) {r : Req} {role : Nat} {options : Nat} {client : Nat} {version : Nat}
    {nc : Bytes} (hp : [.ty, .sy, .freeCount] ⊆ ps := by decide) :
    Goes ps s (execOpenRequest r role options client version nc u) :=
  hm.goes (ps := [.ty, .sy, .freeCount]) (.next (Moves.self.plainRequest
      (fun _ => (.ite (Moves.self.openHere) (Moves.self.passOn))))) hp

theorem Moves.openSession (hm : Moves ps s u) {o : PendingOpen} {num : Nat} {r : Req} {source : Source}
    (hp : [.fm, .sy, .ck, .ld] ⊆ ps := by decide) :
    Moves ps s (u.openSession o num r source) := by
  refine hm.then (ps := [.fm, .sy, .ck, .ld]) ?_ hp
  unfold State.openSession
  refine Moves.modSy ?_ (by decide) _
  split
  · exact Moves.self.closeSession
  · exact .self

theorem Moves.proofHere (hm : Moves ps s u) {twin : Bool} {r : Req} {nc : Bytes} {proof : Bytes}
    (hp : [.fm, .sy, .ck, .ld] ⊆ ps := by decide) :
    Moves ps s (u.proofHere twin r nc proof) := by
  refine hm.then (ps := [.fm, .sy, .ck, .ld]) ?_ hp
  unfold State.proofHere
  refine .ite (Moves.self.decline) ?_
  split
  · exact Moves.self.decline
  · exact .ite ((Moves.self.proofFailed).decline) (.ite (Moves.self.decline)
        (.ite (Moves.self.plainAnswer) (((Moves.self.openSession).sendLong).plainAnswer)))

theorem Goes.proof (hm : Moves ps s u) {r : Req} {nc : Bytes} {proof : Bytes}
    (hp : [.fm, .ty, .sy, .ck, .ld] ⊆ ps := by decide) :
    Goes ps s (execProof r nc proof u) :=
  hm.goes (ps := [.fm, .ty, .sy, .ck, .ld]) (.next (Moves.self.plainRequest
      (fun _ => (.ite (Moves.self.proofHere) (Moves.self.passOn))))) hp

theorem Goes.pendingOpenExpiry (hm : Moves ps s u) (hp : [.sy] ⊆ ps := by decide) :
    Goes ps s (execPendingOpenExpiry u) :=
  hm.goes (ps := [.sy]) (.next (Moves.self.modSy (by decide) _)) hp

theorem Moves.answerPassed (hm : Moves ps s u) {own : Bool} {r : Req} {opcode : Nat} {status : Nat} {body : Bytes}
    (hp : [.ty] ⊆ ps := by decide) :
    Moves ps s (u.answerPassed own r opcode status body) := by
  refine hm.then (ps := [.ty]) ?_ hp
  unfold State.answerPassed
  split
  · exact ((Moves.self.modTy (by decide) _).pushSlot).plainAnswer
  · exact Moves.self.plainAnswer

theorem Moves.takePassed (hm : Moves ps s u) {r : Req} {opcode : Nat} {p : Bytes}
    (hp : [.fm, .sy, .ck, .ld, .freeCount] ⊆ ps := by decide) :
    Moves ps s (u.takePassed r opcode p) :=
  hm.then (ps := [.fm, .sy, .ck, .ld, .freeCount]) (.ite (.ite .self (Moves.self.openHere))
      (.ite .self (Moves.self.proofHere))) hp

theorem Moves.takeDeclined (hm : Moves ps s u) {own : Bool} {r : Req} {opcode : Nat} {status : Nat}
    (hp : [.fm, .ty, .sy] ⊆ ps := by decide) :
    Moves ps s (u.takeDeclined own r opcode status) :=
  hm.then (ps := [.fm, .ty, .sy]) ((Moves.ite (Moves.self.proofFailed) Moves.self).answerPassed) hp

theorem Moves.takeChallenge (hm : Moves ps s u) {own : Bool} {r : Req} {role : Nat} {options : Nat} {client : Nat}
    {version : Nat} {nc : Bytes} {nm : Bytes} (hp : [.ty, .sy] ⊆ ps := by decide) :
    Moves ps s (u.takeChallenge own r role options client version nc nm) :=
  hm.then (ps := [.ty, .sy]) (Moves.self.addOpen).answerPassed hp

theorem Moves.takeAcceptance (hm : Moves ps s u) {own : Bool} {r : Req} {nc : Bytes} {num : Nat}
    (hp : [.fm, .ty, .sy, .ck, .ld] ⊆ ps := by decide) :
    Moves ps s (u.takeAcceptance own r nc num) := by
  refine hm.then (ps := [.fm, .ty, .sy, .ck, .ld]) ?_ hp
  unfold State.takeAcceptance
  dsimp only
  split
  · exact .self
  · exact (Moves.self.openSession).answerPassed

theorem Goes.closeRequest (hm : Moves ps s u) {r : Req} (hp : [.fm, .sy, .ck, .ld] ⊆ ps := by decide) :
    Goes ps s (execCloseRequest r u) := by
  refine hm.goes (ps := [.fm, .sy, .ck, .ld]) ?_ hp
  have he := (u.enter_moves r false 0x04 [] 0 anyRole).mono (by decide : [Part.sy] ⊆ [.fm, .sy, .ck, .ld])
  unfold execCloseRequest
  generalize u.enter r false 0x04 [] 0 anyRole = e at he
  match e with
  | .isOver t => exact .next he
  | .on t x (some status) => exact .next he.finish
  | .on t x none => exact .next he.finish.closeSession

theorem Goes.keepalive (hm : Moves ps s u) {r : Req} (hp : [.sy] ⊆ ps := by decide) :
    Goes ps s (execKeepalive r u) :=
  hm.goes (ps := [.sy]) (.next (Moves.self.request (fun _ _ => Moves.self))) hp

theorem Goes.sessionIdleTimeout (hm : Moves ps s u) {session : Nat} (hp : [.fm, .sy, .ck, .ld] ⊆ ps := by decide) :
    Goes ps s (execSessionIdleTimeout session u) :=
  hm.goes (ps := [.fm, .sy, .ck, .ld]) (.next (Moves.self.closeSession)) hp

theorem Moves.readEffect (hm : Moves ps s u) {index : Nat} {sub : Nat} (hp : [.ca] ⊆ ps := by decide) :
    Moves ps s (u.readEffect index sub) :=
  hm.then (ps := [.ca]) (.ite (Moves.self.modCa (by decide) _) (.ite (Moves.self.modCa (by decide) _) Moves.self)) hp

theorem Moves.readPart (hm : Moves ps s u) {index : Nat} {sub : Nat} {offset : Nat} {length : Nat}
    (hp : [.ca] ⊆ ps := by decide) :
    Moves ps s (u.readPart index sub offset length).1 := by
  refine hm.then (ps := [.ca]) ?_ hp
  unfold State.readPart
  split
  · exact Moves.self.no
  · exact .iteFst (Moves.self.no) (.iteFst (Moves.self.no) (Moves.self.readEffect))

theorem Goes.read (hm : Moves ps s u) {r : Req} {index : Nat} {sub : Nat} {offset : Nat} {length : Nat}
    (hp : [.sy] ⊆ ps := by decide) :
    Goes ps s (execRead r index sub offset length u) :=
  hm.goes (ps := [.sy]) (.next (Moves.self.latchReq)) hp

theorem Moves.readItems (hm : Moves ps s u) {count : Nat} {items : List (Nat × Nat)} (hp : [.ca] ⊆ ps := by decide) :
    Moves ps s (u.readItems count items).1 :=
  hm.then (ps := [.ca]) (.iteFst (Moves.self.no) (.iteFst (Moves.self.no)
      (Moves.self.trans (.foldl (fun _ _ => (Moves.self.readEffect)) _ _)))) hp

theorem Goes.readList (hm : Moves ps s u) {r : Req} {count : Nat} {items : List (Nat × Nat)} (hp : [.sy] ⊆ ps := by decide) :
    Goes ps s (execReadList r count items u) :=
  hm.goes (ps := [.sy]) (.next (Moves.self.latchReq)) hp

theorem Goes.logRead (hm : Moves ps s u) {r : Req} {first : Nat} {count : Nat} (hp : [.sy] ⊆ ps := by decide) :
    Goes ps s (execLogRead r first count u) :=
  hm.goes (ps := [.sy]) (.next (Moves.self.request (fun _ _ => Moves.self))) hp

theorem Goes.stepAnnounce (hm : Moves ps s u) {r : Req} {ts : Stamp} (hp : [.fm, .cl, .sy] ⊆ ps := by decide) :
    Goes ps s (execStepAnnounce r ts u) :=
  hm.goes (ps := [.fm, .cl, .sy]) (.next (Moves.self.request
      (fun _ _ => (.iteFst (Moves.self.no) (.iteFst ((Moves.self.requestStep).ok) ((Moves.self.requestStep).no)))))) hp

theorem Moves.telemetryAct (hm : Moves ps s u) {port : Nat} {p : Bytes} (hp : [.fm, .im, .cl, .en] ⊆ ps := by decide) :
    Moves ps s (u.telemetryAct port p) := by
  refine hm.then (ps := [.fm, .im, .cl, .en]) ?_ hp
  unfold State.telemetryAct
  split
  · exact .ite ((Moves.self.modEn (by decide) _).raiseEvent (by decide) _ _) (Moves.self.tokenReceived)
  · exact .ite (Moves.self.requestStep) Moves.self
  · exact .self

theorem Moves.telemetryPattern (hm : Moves ps s u) :
    Moves ps s u.telemetryPattern :=
  hm.then (ps := []) (.ite (Moves.self.sendTelemetry) Moves.self) (List.nil_subset _)

theorem Moves.rawStamp (hm : Moves ps s u) {port : Nat} {bin : Nat} {f : Bytes} (hp : [.fm, .tb] ⊆ ps := by decide) :
    Moves ps s (u.rawStamp port bin f) := by
  refine hm.then (ps := [.fm, .tb]) ?_ hp
  unfold State.rawStamp
  split
  · exact .self
  · exact .ite (Moves.self.stampTx) Moves.self

theorem Goes.rawSend (hm : Moves ps s u) {r : Req} {port : Nat} {frame : Bytes} {bin : Nat}
    (hp : [.fm, .tb, .sy] ⊆ ps := by decide) :
    Goes ps s (execRawSend r port frame bin u) :=
  hm.goes (ps := [.fm, .tb, .sy]) (.next (Moves.self.request
      (fun _ _ => (.iteFst (Moves.self.no) (.iteFst (Moves.self.no)
      (.iteFst (Moves.self.no) (((((Moves.self.modSy (by decide) _).emit _).frameOut _).rawStamp).ok))))))) hp

theorem Moves.putKey (hm : Moves ps s u) {slot : Nat} {salt : Bytes} {key : Bytes} (hp : [.sy, .nv] ⊆ ps := by decide) :
    Moves ps s (u.putKey slot salt key) :=
  hm.then (ps := [.sy, .nv]) ((Moves.self.modSy (by decide) _).journal (by decide) _ _) hp

theorem Moves.adoptKeys (hm : Moves ps s u) {slots : List (Bytes × Bytes)} (hp : [.fm, .sy, .nv] ⊆ ps := by decide) :
    Moves ps s (u.adoptKeys slots) :=
  hm.then (ps := [.fm, .sy, .nv]) (((Moves.self.trans (.foldl (fun _ _ => (Moves.self.modSy (by decide) _)) _
      _)).putKey).raiseEvent (by decide) _ _) hp

theorem Moves.writeCopy (hm : Moves ps s u) {id : Nat} {payload : List Int} {good : Bool} (hp : [.nv, .ld] ⊆ ps := by decide) :
    Moves ps s (u.writeCopy id payload good) :=
  hm.then (ps := [.nv, .ld]) ((Moves.self.modNv (by decide) _).modLd (by decide) _) hp

theorem Moves.flushJournal (hm : Moves ps s u) (hp : [.nv, .ld] ⊆ ps := by decide) :
    Moves ps s u.flushJournal :=
  hm.then (ps := [.nv, .ld]) (.ite Moves.self ((Moves.self.trans (.foldl (fun _ _ => (Moves.self.writeCopy)) _ _)).modNv
      (by decide) _)) hp

theorem Goes.lifetimeCounterWrite (hm : Moves ps s u) (hp : [.nv] ⊆ ps := by decide) :
    Goes ps s (execLifetimeCounterWrite u) :=
  hm.goes (ps := [.nv]) (.next (.ite (Moves.self.journal (by decide) _ _) Moves.self)) hp

theorem Goes.frequencyRecordWrite (hm : Moves ps s u) (hp : [.nv] ⊆ ps := by decide) :
    Goes ps s (execFrequencyRecordWrite u) :=
  hm.goes (ps := [.nv]) (.next (.ite (Moves.self.journal (by decide) _ _) Moves.self)) hp

theorem Moves.logAppend (hm : Moves ps s u) {r : LogRec} (hp : [.lg] ⊆ ps := by decide) :
    Moves ps s (u.logAppend r) :=
  hm.then (ps := [.lg]) (Moves.self.modLg (by decide) _) hp

theorem Moves.logWrite (hm : Moves ps s u) {r : LogRec} (hp : [.lg] ⊆ ps := by decide) :
    Moves ps s (u.logWrite r) :=
  hm.then (ps := [.lg]) ((Moves.ite ((Moves.self.logAppend).modLg (by decide) _) Moves.self).logAppend) hp

theorem Moves.restoreTime (hm : Moves ps s u) (hp : [.fm, .tb] ⊆ ps := by decide) :
    Moves ps s u.restoreTime :=
  hm.then (ps := [.fm, .tb]) ((Moves.self.modTb (by decide) _).trans
      (.ite (Moves.self.raiseEvent (by decide) _ _) Moves.self)) hp

theorem Moves.copyFaults (hm : Moves ps s u) (hp : [.fm, .ld] ⊆ ps := by decide) :
    Moves ps s u.copyFaults :=
  hm.then (ps := [.fm, .ld]) (Moves.self.trans (.foldl (fun _ _ =>
      (.ite .self (.ite ((Moves.self.modLd (by decide) _).raiseEvent (by decide) _ _)
      (.ite (Moves.self.raiseEvent (by decide) _ _) (Moves.self.raiseEvent (by decide) _ _))))) _ _)) hp

theorem Moves.putStored (hm : Moves ps s u) {p : Nat × Nat} (hp : [.cfg, .bytes] ⊆ ps := by decide) :
    Moves ps s (u.putStored p) :=
  hm.then (ps := [.cfg, .bytes]) (.ite (Moves.self.cfgPut) (Moves.self.modBytes (by decide) _)) hp

theorem Moves.restoreSettings (hm : Moves ps s u) {id : Nat} (hp : [.fm, .si, .nv, .cfg, .bytes] ⊆ ps := by decide) :
    Moves ps s (u.restoreSettings id) := by
  refine hm.then (ps := [.fm, .si, .nv, .cfg, .bytes]) ?_ hp
  unfold State.restoreSettings
  split
  · exact .self
  · exact .ite (((Moves.self.journal (by decide) _ _).raiseEvent (by decide) _ _).modSi (by decide) _)
        (Moves.self.trans (.foldl (fun _ _ => (Moves.self.putStored)) _ _))

theorem Moves.restoreIds (hm : Moves ps s u) (hp : [.ty, .cfg, .bytes] ⊆ ps := by decide) :
    Moves ps s u.restoreIds := by
  refine hm.then (ps := [.ty, .cfg, .bytes]) ?_ hp
  unfold State.restoreIds
  split
  · exact Moves.self.modTy (by decide) _
  · exact (Moves.self.trans (.foldl (fun _ _ => (Moves.self.putStored)) _ _)).modTy (by decide) _

theorem Moves.nodeFromCfg (hm : Moves ps s u) (hp : [.id] ⊆ ps := by decide) :
    Moves ps s u.nodeFromCfg :=
  hm.then (ps := [.id]) (Moves.self.modId (by decide) _) hp

theorem Moves.restoreKeys (hm : Moves ps s u) (hp : [.sy] ⊆ ps := by decide) :
    Moves ps s u.restoreKeys :=
  hm.then (ps := [.sy]) (Moves.self.modSy (by decide) _) hp

theorem Moves.restoreCounters (hm : Moves ps s u) (hp : [.pc, .de, .si, .tb, .ld, .id] ⊆ ps := by decide) :
    Moves ps s u.restoreCounters :=
  hm.then (ps := [.pc, .de, .si, .tb, .ld, .id]) (((((((Moves.self.modId (by decide) _).modDe (by decide) _).modSi (by decide)
      _).modTb (by decide) _).modLd (by decide) _).modPc (by decide) _).modSi (by decide) _) hp

theorem Moves.restoreLatches (hm : Moves ps s u) {release : Bool} (hp : [.fm, .pm, .tm, .nv] ⊆ ps := by decide) :
    Moves ps s (u.restoreLatches release) :=
  hm.then (ps := [.fm, .pm, .tm, .nv]) ((((Moves.self.modFm (by decide) _).modTm (by decide) _).modPm (by decide) _).trans
      ((Moves.ite (Moves.self.journal6 (by decide)) Moves.self).trans
      ((Moves.ite (Moves.self.raiseCond (by decide) _ _) Moves.self).trans
      (.ite (Moves.self.raiseCond (by decide) _ _) Moves.self)))) hp

theorem Moves.restoreCharge (hm : Moves ps s u) (hp : [.ss] ⊆ ps := by decide) :
    Moves ps s u.restoreCharge :=
  hm.then (ps := [.ss]) (Moves.self.modSs (by decide) _) hp

theorem Moves.restoreSafetySet (hm : Moves ps s u) (hp : [.si] ⊆ ps := by decide) :
    Moves ps s u.restoreSafetySet :=
  hm.then (ps := [.si]) ((Moves.self.modSi (by decide) _).modSi (by decide) _) hp

theorem Moves.restoreCounter (hm : Moves ps s u) (hp : [.ty] ⊆ ps := by decide) :
    Moves ps s u.restoreCounter :=
  hm.then (ps := [.ty]) (Moves.self.modTy (by decide) _) hp

theorem Moves.recordFaults (hm : Moves ps s u) (hp : [.fm] ⊆ ps := by decide) :
    Moves ps s u.recordFaults :=
  hm.then (ps := [.fm]) (Moves.self.trans (.foldl (fun _ _ => (.ite (Moves.self.raiseEvent (by decide) _ _) Moves.self)) _ _))
      hp

theorem Moves.restoreAll (hm : Moves ps s u) {release powerFail : Bool}
    (hp : [.fm, .pm, .ss, .pc, .ef, .tm, .de, .si, .ty, .tb, .sy, .nv, .ld, .id, .cfg, .bytes, .freeCount] ⊆ ps := by decide) :
    Moves ps s (u.restoreAll release powerFail) := by
  refine hm.then (ps := [.fm, .pm, .ss, .pc, .ef, .tm, .de, .si, .ty, .tb, .sy, .nv, .ld, .id, .cfg, .bytes, .freeCount]) ?_ hp
  unfold State.restoreAll
  have ht : Moves [.fm, .pm, .ss, .pc, .ef, .tm, .de, .si, .ty, .tb, .sy, .nv, .ld, .id, .cfg, .bytes, .freeCount] u
      (settingsIds.foldl State.restoreSettings u.restoreTime.copyFaults.restoreIds) :=
    Moves.self.restoreTime.copyFaults.restoreIds.trans (.foldl (fun _ _ => Moves.self.restoreSettings) _ _)
  exact ht.nodeFromCfg.restoreKeys.restoreSafetySet.restoreCounters.restoreLatches.restoreCharge.restoreCounter.recordFaults.restoreLearned

theorem Moves.discardAt (hm : Moves ps s u) {port : Nat} {n : Nat} (hp : [.en] ⊆ ps := by decide) :
    Moves ps s (u.discardAt port n) :=
  hm.then (ps := [.en]) Moves.self.modSfp hp

theorem Goes.arpRequest (hm : Moves ps s u) {port : Nat} {mac : Nat} {sender : Nat} {target : Nat}
    (hp : [.fm, .en] ⊆ ps := by decide) :
    Goes ps s (execArpRequest port mac sender target u) :=
  hm.goes (ps := [.fm, .en]) (.ite (.next Moves.self) ((Moves.self.frameIn _).goes
      ((Moves.ite ((Moves.self.modEn (by decide) _).raiseEvent (by decide) _ _) Moves.self).goes
      (.next (.ite ((Moves.self.emit _).frameOut _) Moves.self)) (List.Subset.refl _)) (List.Subset.refl _))) hp

theorem Goes.icmpEcho (hm : Moves ps s u) {port : Nat} {sender : Nat} {target : Nat} {ident : Nat} {seq : Nat} {data : Bytes}
    (hp : [.en] ⊆ ps := by decide) :
    Goes ps s (execIcmpEcho port sender target ident seq data u) :=
  hm.goes (ps := [.en]) (.ite (.next Moves.self) ((Moves.self.frameIn _).goes
      (.next (.ite ((Moves.self.emit _).frameOut _) (Moves.self.discardAt))) (List.Subset.refl _))) hp

theorem Goes.ipv4Fragment (hm : Moves ps s u) {port : Nat} {source : Nat} {ident : Nat} {offset : Nat} {more : Bool}
    {data : Bytes} (hp : [.en] ⊆ ps := by decide) :
    Goes ps s (execIpv4Fragment port source ident offset more data u) :=
  hm.goes (ps := [.en]) (.ite (.next Moves.self) ((Moves.self.frameIn _).goes
      (.ite (.next (Moves.self.discardAt)) (.ite (.next (Moves.self.discardAt))
      (.ite (.next ((Moves.self.discardAt).modEn (by decide) _)) (.next (Moves.self.modEn (by decide) _)))))
      (List.Subset.refl _))) hp

theorem Goes.ipReassemblyTimeout (hm : Moves ps s u) {source : Nat} {ident : Nat} (hp : [.en] ⊆ ps := by decide) :
    Goes ps s (execIpReassemblyTimeout source ident u) := by
  refine hm.goes (ps := [.en]) ?_ hp
  unfold execIpReassemblyTimeout
  refine .next ?_
  split
  · exact .self
  · exact (Moves.self.discardAt).modEn (by decide) _

theorem Moves.sfpFaults (hm : Moves ps s u) (hp : [.fm] ⊆ ps := by decide) :
    Moves ps s u.sfpFaults :=
  hm.then (ps := [.fm]) ((Moves.self.cond (by decide) _ _ _).cond (by decide) _ _ _) hp

theorem Moves.identifySfp (hm : Moves ps s u) {port : Nat} (hp : [.fm, .en] ⊆ ps := by decide) :
    Moves ps s (u.identifySfp port) :=
  hm.then (ps := [.fm, .en]) (Moves.self.modSfp).sfpFaults hp

theorem Moves.portDown (hm : Moves ps s u) {port : Nat} {link : Nat} (hp : [.fm, .en] ⊆ ps := by decide) :
    Moves ps s (u.portDown port link) := by
  refine hm.then (ps := [.fm, .en]) ?_ hp
  unfold State.portDown
  dsimp only
  split
  · exact (Moves.self.modSfp).sfpFaults
  · exact .ite (((Moves.self.modSfp).sfpFaults).raiseEvent (by decide) _ _) ((Moves.self.modSfp).sfpFaults)

theorem Goes.sfpInsertion (hm : Moves ps s u) {port : Nat} {byte6 : Nat} {byte3 : Nat} (hp : [.fm, .en] ⊆ ps := by decide) :
    Goes ps s (execSfpInsertion port byte6 byte3 u) :=
  hm.goes (ps := [.fm, .en]) (.next ((Moves.self.modSfp).identifySfp)) hp

theorem Goes.sfpRemoval (hm : Moves ps s u) {port : Nat} (hp : [.fm, .en] ⊆ ps := by decide) :
    Goes ps s (execSfpRemoval port u) :=
  hm.goes (ps := [.fm, .en]) (.next ((Moves.self.portDown).modSfp)) hp

theorem Goes.sfpOvercurrent (hm : Moves ps s u) {port : Nat} (hp : [.fm, .en] ⊆ ps := by decide) :
    Goes ps s (execSfpOvercurrent port u) :=
  hm.goes (ps := [.fm, .en]) (.next ((Moves.self.modSfp).portDown)) hp

theorem Goes.sfpLinkUp (hm : Moves ps s u) {port : Nat} (hp : [.en] ⊆ ps := by decide) :
    Goes ps s (execSfpLinkUp port u) :=
  hm.goes (ps := [.en]) (.next (.ite (Moves.self.modSfp) Moves.self)) hp

theorem Moves.cagesOff (hm : Moves ps s u) (hp : [.fm, .en] ⊆ ps := by decide) :
    Moves ps s u.cagesOff :=
  hm.then (ps := [.fm, .en]) (((Moves.self.trans (.foldl (fun _ _ => (.ite (Moves.self.portDown) Moves.self)) _ _)).modEn
      (by decide) _).sfpFaults) hp

theorem Moves.cagesBack (hm : Moves ps s u) (hp : [.fm, .en] ⊆ ps := by decide) :
    Moves ps s u.cagesBack :=
  hm.then (ps := [.fm, .en]) (.ite Moves.self (Moves.self.trans
      (.foldl (fun _ _ => (.ite ((Moves.self.modSfp).identifySfp) Moves.self)) _ _))) hp

theorem Goes.linkDown (hm : Moves ps s u) {port : Nat} (hp : [.fm, .en] ⊆ ps := by decide) :
    Goes ps s (execLinkDown port u) :=
  hm.goes (ps := [.fm, .en]) (.next (.ite (Moves.self.portDown) Moves.self)) hp

theorem Moves.sayBye (hm : Moves ps s u) {reason : Nat} :
    Moves ps s (u.sayBye reason) :=
  hm.then (ps := []) (.ite (Moves.self.toTwin) Moves.self) (List.nil_subset _)

theorem Moves.clearRam (hm : Moves ps s u) {x : PowerState}
    (hp : [.fm, .rows, .pm, .ca, .ss, .im, .pc, .cl, .ef, .bs, .tm, .de, .si, .os, .ty, .tb, .en, .cn, .sy, .ck, .nv, .ld,
      .lg, .cfg, .stopWait, .bytesWait, .bytes] ⊆ ps := by decide) : Moves ps s (u.clearRam x) := by
  refine hm.then ?_ hp
  have hl (p : Part) (h : p ∉ [.nv, .lg, .ld]) : p.same u u.landBegun := u.landBegun_alters p h
  intro p h
  cases p
  case id => exact hl .id (by decide)
  case freeCount => exact hl .freeCount (by decide)
  case pending => exact hl .pending (by decide)
  case out => exact ⟨[], by rw [State.clearRam_out, List.append_nil]⟩
  all_goals exact absurd (by decide) h

theorem Moves.beginStep (hm : Moves ps s u) {k : Nat} (hp : [.pm, .cl, .ty, .cfg, .stopWait] ⊆ ps := by decide) :
    Moves ps s (u.beginStep k) :=
  hm.then (ps := [.pm, .cl, .ty, .cfg, .stopWait]) (.ite (Moves.self.modPm (by decide) _)
      ((Moves.self.modPm (by decide) _).trans (.ite ((Moves.ite (Moves.self.ringStart) (Moves.self.modPm (by decide) _)).trans
      (.ite ((Moves.self.modTy (by decide) _).modPm (by decide) _) (Moves.self.modTy (by decide) _))) Moves.self))) hp

theorem Moves.resetTo (hm : Moves ps s u) {kind : Nat} {offLong : Bool}
    (hp : [.fm, .rows, .pm, .ca, .ss, .im, .pc, .cl, .ef, .bs, .tm, .de, .si, .os, .ty, .tb, .en, .cn, .sy, .ck, .nv, .ld,
    .lg, .cfg, .stopWait, .bytesWait, .bytes] ⊆ ps := by decide) :
    Moves ps s (u.resetTo kind offLong) :=
  hm.then (ps := [.fm, .rows, .pm, .ca, .ss, .im, .pc, .cl, .ef, .bs, .tm, .de, .si, .os, .ty, .tb, .en, .cn, .sy, .ck, .nv,
      .ld, .lg, .cfg, .stopWait, .bytesWait, .bytes]) (((Moves.self.clearRam).modPm (by decide) _).trans
      (.ite .self (Moves.self.beginStep))) hp

theorem Goes.auxPowerRise (hm : Moves ps s u) {offLong : Bool}
    (hp : [.fm, .rows, .pm, .ca, .ss, .im, .pc, .cl, .ef, .bs, .tm, .de, .si, .os, .ty, .tb, .en, .cn, .sy, .ck, .nv, .ld,
    .lg, .cfg, .stopWait, .bytesWait, .bytes] ⊆ ps := by decide) :
    Goes ps s (execAuxPowerRise offLong u) :=
  hm.goes (ps := [.fm, .rows, .pm, .ca, .ss, .im, .pc, .cl, .ef, .bs, .tm, .de, .si, .os, .ty, .tb, .en, .cn, .sy, .ck, .nv,
      .ld, .lg, .cfg, .stopWait, .bytesWait, .bytes]) (.next (.ite (Moves.self.resetTo) Moves.self)) hp

theorem Goes.startSlotExpiry (hm : Moves ps s u) (hp : [.pm, .cl, .ty, .cfg, .stopWait] ⊆ ps := by decide) :
    Goes ps s (execStartSlotExpiry u) :=
  hm.goes (ps := [.pm, .cl, .ty, .cfg, .stopWait]) (.next (.ite ((Moves.self.modPm (by decide) _).beginStep)
      (.ite ((Moves.self.modPm (by decide) _).beginStep) Moves.self))) hp

theorem Moves.step1End (hm : Moves ps s u) {c : CastOnInp} (hp : [.fm, .pm, .cl, .ty, .cfg, .stopWait] ⊆ ps := by decide) :
    Moves ps s (u.step1End c) :=
  hm.then (ps := [.fm, .pm, .cl, .ty, .cfg, .stopWait]) (((Moves.self.modPm (by decide) _).modTy (by decide) _).trans
      ((Moves.ite (Moves.self.raiseCond (by decide) _ _) Moves.self).beginStep)) hp

theorem Moves.enterRecovery (hm : Moves ps s u) {reason : Nat} {c : CastOnInp} (hp : [.pm, .ld] ⊆ ps := by decide) :
    Moves ps s (u.enterRecovery reason c) :=
  hm.then (ps := [.pm, .ld]) ((Moves.self.modLd (by decide) _).modPm (by decide) _) hp

theorem Moves.startFaults (hm : Moves ps s u) (hp : [.fm, .pm, .ld] ⊆ ps := by decide) :
    Moves ps s u.startFaults := by
  refine hm.then (ps := [.fm, .pm, .ld]) ?_ hp
  unfold State.startFaults
  refine (Moves.modPm ?_ (by decide) _).modLd (by decide) _
  exact .ite ((Moves.ite ((Moves.ite ((Moves.ite ((Moves.ite
      ((Moves.ite ((Moves.ite (Moves.self.raiseEvent (by decide) _ _) Moves.self).raiseEvent (by decide) _ _)
      (.ite (Moves.self.raiseEvent (by decide) _ _) Moves.self)).raiseEvent (by decide) _ _)
      (.ite ((Moves.ite (Moves.self.raiseEvent (by decide) _ _) Moves.self).raiseEvent (by decide) _ _)
      (.ite (Moves.self.raiseEvent (by decide) _ _) Moves.self))).raiseEvent (by decide) _ _)
      (.ite ((Moves.ite ((Moves.ite (Moves.self.raiseEvent (by decide) _ _) Moves.self).raiseEvent (by decide) _ _)
      (.ite (Moves.self.raiseEvent (by decide) _ _) Moves.self)).raiseEvent (by decide) _ _)
      (.ite ((Moves.ite (Moves.self.raiseEvent (by decide) _ _) Moves.self).raiseEvent (by decide) _ _)
      (.ite (Moves.self.raiseEvent (by decide) _ _) Moves.self)))).raiseEvent (by decide) _ _)
      (.ite ((Moves.ite ((Moves.ite ((Moves.ite (Moves.self.raiseEvent (by decide) _ _) Moves.self).raiseEvent (by decide) _
      _) (.ite (Moves.self.raiseEvent (by decide) _ _) Moves.self)).raiseEvent (by decide) _ _)
      (.ite ((Moves.ite (Moves.self.raiseEvent (by decide) _ _) Moves.self).raiseEvent (by decide) _ _)
      (.ite (Moves.self.raiseEvent (by decide) _ _) Moves.self))).raiseEvent (by decide) _ _)
      (.ite ((Moves.ite ((Moves.ite (Moves.self.raiseEvent (by decide) _ _) Moves.self).raiseEvent (by decide) _ _)
      (.ite (Moves.self.raiseEvent (by decide) _ _) Moves.self)).raiseEvent (by decide) _ _)
      (.ite ((Moves.ite (Moves.self.raiseEvent (by decide) _ _) Moves.self).raiseEvent (by decide) _ _)
      (.ite (Moves.self.raiseEvent (by decide) _ _) Moves.self))))).raiseEvent (by decide) _ _)
      (.ite ((Moves.ite ((Moves.ite ((Moves.ite ((Moves.ite (Moves.self.raiseEvent (by decide) _ _) Moves.self).raiseEvent
      (by decide) _ _) (.ite (Moves.self.raiseEvent (by decide) _ _) Moves.self)).raiseEvent (by decide) _ _)
      (.ite ((Moves.ite (Moves.self.raiseEvent (by decide) _ _) Moves.self).raiseEvent (by decide) _ _)
      (.ite (Moves.self.raiseEvent (by decide) _ _) Moves.self))).raiseEvent (by decide) _ _)
      (.ite ((Moves.ite ((Moves.ite (Moves.self.raiseEvent (by decide) _ _) Moves.self).raiseEvent (by decide) _ _)
      (.ite (Moves.self.raiseEvent (by decide) _ _) Moves.self)).raiseEvent (by decide) _ _)
      (.ite ((Moves.ite (Moves.self.raiseEvent (by decide) _ _) Moves.self).raiseEvent (by decide) _ _)
      (.ite (Moves.self.raiseEvent (by decide) _ _) Moves.self)))).raiseEvent (by decide) _ _)
      (.ite ((Moves.ite ((Moves.ite ((Moves.ite (Moves.self.raiseEvent (by decide) _ _) Moves.self).raiseEvent (by decide) _
      _) (.ite (Moves.self.raiseEvent (by decide) _ _) Moves.self)).raiseEvent (by decide) _ _)
      (.ite ((Moves.ite (Moves.self.raiseEvent (by decide) _ _) Moves.self).raiseEvent (by decide) _ _)
      (.ite (Moves.self.raiseEvent (by decide) _ _) Moves.self))).raiseEvent (by decide) _ _)
      (.ite ((Moves.ite ((Moves.ite (Moves.self.raiseEvent (by decide) _ _) Moves.self).raiseEvent (by decide) _ _)
      (.ite (Moves.self.raiseEvent (by decide) _ _) Moves.self)).raiseEvent (by decide) _ _)
      (.ite ((Moves.ite (Moves.self.raiseEvent (by decide) _ _) Moves.self).raiseEvent (by decide) _ _)
      (.ite (Moves.self.raiseEvent (by decide) _ _) Moves.self)))))).raiseEvent (by decide) _ _)
      (.ite ((Moves.ite ((Moves.ite ((Moves.ite ((Moves.ite ((Moves.ite (Moves.self.raiseEvent (by decide) _ _)
      Moves.self).raiseEvent (by decide) _ _) (.ite (Moves.self.raiseEvent (by decide) _ _) Moves.self)).raiseEvent
      (by decide) _ _) (.ite ((Moves.ite (Moves.self.raiseEvent (by decide) _ _) Moves.self).raiseEvent (by decide) _ _)
      (.ite (Moves.self.raiseEvent (by decide) _ _) Moves.self))).raiseEvent (by decide) _ _)
      (.ite ((Moves.ite ((Moves.ite (Moves.self.raiseEvent (by decide) _ _) Moves.self).raiseEvent (by decide) _ _)
      (.ite (Moves.self.raiseEvent (by decide) _ _) Moves.self)).raiseEvent (by decide) _ _)
      (.ite ((Moves.ite (Moves.self.raiseEvent (by decide) _ _) Moves.self).raiseEvent (by decide) _ _)
      (.ite (Moves.self.raiseEvent (by decide) _ _) Moves.self)))).raiseEvent (by decide) _ _)
      (.ite ((Moves.ite ((Moves.ite ((Moves.ite (Moves.self.raiseEvent (by decide) _ _) Moves.self).raiseEvent (by decide) _
      _) (.ite (Moves.self.raiseEvent (by decide) _ _) Moves.self)).raiseEvent (by decide) _ _)
      (.ite ((Moves.ite (Moves.self.raiseEvent (by decide) _ _) Moves.self).raiseEvent (by decide) _ _)
      (.ite (Moves.self.raiseEvent (by decide) _ _) Moves.self))).raiseEvent (by decide) _ _)
      (.ite ((Moves.ite ((Moves.ite (Moves.self.raiseEvent (by decide) _ _) Moves.self).raiseEvent (by decide) _ _)
      (.ite (Moves.self.raiseEvent (by decide) _ _) Moves.self)).raiseEvent (by decide) _ _)
      (.ite ((Moves.ite (Moves.self.raiseEvent (by decide) _ _) Moves.self).raiseEvent (by decide) _ _)
      (.ite (Moves.self.raiseEvent (by decide) _ _) Moves.self))))).raiseEvent (by decide) _ _)
      (.ite ((Moves.ite ((Moves.ite ((Moves.ite ((Moves.ite (Moves.self.raiseEvent (by decide) _ _) Moves.self).raiseEvent
      (by decide) _ _) (.ite (Moves.self.raiseEvent (by decide) _ _) Moves.self)).raiseEvent (by decide) _ _)
      (.ite ((Moves.ite (Moves.self.raiseEvent (by decide) _ _) Moves.self).raiseEvent (by decide) _ _)
      (.ite (Moves.self.raiseEvent (by decide) _ _) Moves.self))).raiseEvent (by decide) _ _)
      (.ite ((Moves.ite ((Moves.ite (Moves.self.raiseEvent (by decide) _ _) Moves.self).raiseEvent (by decide) _ _)
      (.ite (Moves.self.raiseEvent (by decide) _ _) Moves.self)).raiseEvent (by decide) _ _)
      (.ite ((Moves.ite (Moves.self.raiseEvent (by decide) _ _) Moves.self).raiseEvent (by decide) _ _)
      (.ite (Moves.self.raiseEvent (by decide) _ _) Moves.self)))).raiseEvent (by decide) _ _)
      (.ite ((Moves.ite ((Moves.ite ((Moves.ite (Moves.self.raiseEvent (by decide) _ _) Moves.self).raiseEvent (by decide) _
      _) (.ite (Moves.self.raiseEvent (by decide) _ _) Moves.self)).raiseEvent (by decide) _ _)
      (.ite ((Moves.ite (Moves.self.raiseEvent (by decide) _ _) Moves.self).raiseEvent (by decide) _ _)
      (.ite (Moves.self.raiseEvent (by decide) _ _) Moves.self))).raiseEvent (by decide) _ _)
      (.ite ((Moves.ite ((Moves.ite (Moves.self.raiseEvent (by decide) _ _) Moves.self).raiseEvent (by decide) _ _)
      (.ite (Moves.self.raiseEvent (by decide) _ _) Moves.self)).raiseEvent (by decide) _ _)
      (.ite ((Moves.ite (Moves.self.raiseEvent (by decide) _ _) Moves.self).raiseEvent (by decide) _ _)
      (.ite (Moves.self.raiseEvent (by decide) _ _) Moves.self))))))

theorem Moves.installed (hm : Moves ps s u) (hp : [.fm, .nv, .ld, .lg] ⊆ ps := by decide) :
    Moves ps s u.installed :=
  hm.then (ps := [.fm, .nv, .ld, .lg]) (.ite (((Moves.self.modLd (by decide) _).raiseEvent (by decide) _ _).logKind
      (by decide) (by decide) (by decide) _ _) Moves.self) hp

theorem Moves.loadSections (hm : Moves ps s u) {mask : Nat} (hp : [.fm, .cl, .ef, .ld, .cfg, .stopWait, .bytesWait, .bytes] ⊆
    ps := by decide) :
    Moves ps s (u.loadSections mask) :=
  hm.then (ps := [.fm, .cl, .ef, .ld, .cfg, .stopWait, .bytesWait, .bytes])
      (((Moves.self.modLd (by decide) _).trans (.foldl (fun _ _ => (Moves.self.raiseCond (by decide) _ _)) _ _)).trans
      ((Moves.ite (Moves.self.modCl (by decide) _) Moves.self).trans
      (.ite (Moves.self.modEf (by decide) _) (.ite (Moves.self.modEf (by decide) _) (Moves.self.fabricStart))))) hp

theorem Moves.step2End (hm : Moves ps s u) {c : CastOnInp} (hp :
    [.fm, .pm, .ss, .pc, .cl, .ef, .tm, .de, .si, .ty, .tb, .sy, .nv, .ld, .lg, .id, .cfg, .stopWait, .bytesWait, .bytes,
    .freeCount] ⊆ ps := by decide) :
    Moves ps s (u.step2End c) :=
  hm.then (ps := [.fm, .pm, .ss, .pc, .cl, .ef, .tm, .de, .si, .ty, .tb, .sy, .nv, .ld, .lg, .id, .cfg, .stopWait, .bytesWait,
      .bytes, .freeCount]) (.ite (Moves.self.enterRecovery) ((((((((Moves.self.restoreAll).loadSections).modId (by decide)
      _).modPm (by decide) _).logKind (by decide) (by decide) (by decide) _ _).startFaults).installed).beginStep)) hp

theorem Moves.step3End (hm : Moves ps s u) {c : CastOnInp} (hp : [.fm, .pm, .ca, .cl, .ty, .cfg, .stopWait] ⊆ ps := by decide) :
    Moves ps s (u.step3End c) :=
  hm.then (ps := [.fm, .pm, .ca, .cl, .ty, .cfg, .stopWait])
      ((Moves.self.modPm (by decide) _).trans ((Moves.ite (Moves.self.startModulators)
      (Moves.self.raiseCond (by decide) _ _)).beginStep)) hp

theorem Moves.step4End (hm : Moves ps s u) {c : CastOnInp} (hp : [.fm, .pm, .cl, .ty, .tb, .en, .cn, .cfg, .stopWait] ⊆
    ps := by decide) :
    Moves ps s (u.step4End c) :=
  hm.then (ps := [.fm, .pm, .cl, .ty, .tb, .en, .cn, .cfg, .stopWait])
      (((((((((Moves.ite Moves.self (Moves.self.raiseCond (by decide) _ _)).takeMode).takeMode).buildLists).modEn (by decide)
      _).identifySfp).identifySfp).ptpStartStop).beginStep) hp

theorem Moves.enterReady (hm : Moves ps s u) {c : CastOnInp} (hp : [.fm, .pm, .si, .os, .nv, .ld] ⊆ ps := by decide) :
    Moves ps s (u.enterReady c) :=
  hm.then (ps := [.fm, .pm, .si, .os, .nv, .ld]) ((((((Moves.ite Moves.self (Moves.self.raiseCond (by decide) _ _)).modSi
      (by decide) _).cond (by decide) _ _ _).modOs (by decide) _).modPm (by decide) _).trans
      ((Moves.ite (Moves.self.raiseCond (by decide) _ _) Moves.self).trans
      (.ite ((Moves.self.modLd (by decide) _).journal (by decide) _ _) Moves.self))) hp

theorem Goes.castOnStepEnd (hm : Moves ps s u) {step : Nat} {c : CastOnInp}
    (hp : [.fm, .pm, .ca, .ss, .pc, .cl, .ef, .tm, .de, .si, .os, .ty, .tb, .en, .cn, .sy, .nv, .ld, .lg, .id, .cfg,
    .stopWait, .bytesWait, .bytes, .freeCount] ⊆ ps := by decide) :
    Goes ps s (execCastOnStepEnd step c u) := by
  refine hm.goes (ps := [.fm, .pm, .ca, .ss, .pc, .cl, .ef, .tm, .de, .si, .os, .ty, .tb, .en, .cn, .sy, .nv, .ld, .lg, .id,
      .cfg, .stopWait, .bytesWait, .bytes, .freeCount]) ?_ hp
  unfold execCastOnStepEnd
  refine .next (.ite .self (.ite (.ite .self (.ite ((Moves.self.formatFault).beginStep)
      (.ite (Moves.self.modPm (by decide) _) Moves.self))) (.ite .self ?_)))
  split
  · exact Moves.self.step1End
  · exact Moves.self.step2End
  · exact Moves.self.step3End
  · exact Moves.self.step4End
  · exact Moves.self.beginStep
  · exact Moves.self.enterReady
  · exact .self

theorem Goes.holdupChargeTimeout (hm : Moves ps s u) {capUf : Nat}
    (hp : [.fm, .pm, .cl, .ty, .cfg, .stopWait] ⊆ ps := by decide) :
    Goes ps s (execHoldupChargeTimeout capUf u) :=
  hm.goes (ps := [.fm, .pm, .cl, .ty, .cfg, .stopWait]) (.next
      (.ite (((Moves.self.modPm (by decide) _).raiseCond (by decide) _ _).beginStep) Moves.self)) hp

theorem Goes.startPeriodEnd (hm : Moves ps s u) (hp : [.pm] ⊆ ps := by decide) :
    Goes ps s (execStartPeriodEnd u) :=
  hm.goes (ps := [.pm]) (.next (.ite (Moves.self.modPm (by decide) _) Moves.self)) hp

theorem Goes.sagPauseBegin (hm : Moves ps s u) (hp : [.fm, .pm] ⊆ ps := by decide) :
    Goes ps s (execSagPauseBegin u) :=
  hm.goes (ps := [.fm, .pm]) (.next (.ite .self (.ite (Moves.self.modPm (by decide) _)
      (((Moves.self.modPm (by decide) _).raiseEvent (by decide) _ _).trans
      (.ite ((Moves.self.raiseCond (by decide) _ _).modPm (by decide) _) Moves.self))))) hp

theorem Goes.auxAboveResumeThreshold (hm : Moves ps s u) (hp : [.pm] ⊆ ps := by decide) :
    Goes ps s (execAuxAboveResumeThreshold u) :=
  hm.goes (ps := [.pm]) (.next (.ite (Moves.self.modPm (by decide) _) Moves.self)) hp

theorem Goes.sagPauseEnd (hm : Moves ps s u) (hp : [.fm, .pm, .cl, .ty, .tb, .en, .cfg, .stopWait] ⊆ ps := by decide) :
    Goes ps s (execSagPauseEnd u) :=
  hm.goes (ps := [.fm, .pm, .cl, .ty, .tb, .en, .cfg, .stopWait])
      (.next (.ite ((((Moves.self.runPast).modPm (by decide) _).cagesBack).trans (.ite (Moves.self.beginStep) Moves.self))
      Moves.self)) hp

theorem Goes.auxUndervoltageTimeout (hm : Moves ps s u) (hp : [.fm] ⊆ ps := by decide) :
    Goes ps s (execAuxUndervoltageTimeout u) :=
  hm.goes (ps := [.fm]) (.next (.ite (Moves.self.raiseCond (by decide) _ _) Moves.self)) hp

theorem Goes.pullInStart (hm : Moves ps s u) (hp : [.pm, .si, .os, .tb] ⊆ ps := by decide) :
    Goes ps s (execPullInStart u) := by
  refine hm.goes (ps := [.pm, .si, .os, .tb]) ?_ hp
  unfold execPullInStart
  refine .next ?_
  split
  · exact .self
  · exact .ite Moves.self ((((Moves.self.runPast).modPm (by decide) _).modSi (by decide) _).trans
        (.ite .self ((Moves.self.modCoil (by decide) _ _).modPm (by decide) _)))

theorem Goes.pullInEnd (hm : Moves ps s u) (hp : [.pm, .pc, .os, .tb] ⊆ ps := by decide) :
    Goes ps s (execPullInEnd u) :=
  hm.goes (ps := [.pm, .pc, .os, .tb]) (.next (.ite .self ((((Moves.self.runPast).modPm (by decide) _).modCoil (by decide) _
      _).pullInEnded))) hp

theorem Moves.supplyLost (hm : Moves ps s u) (hp : [.fm, .pm, .pc, .tm, .de, .si, .os, .en, .nv] ⊆ ps := by decide) :
    Moves ps s u.supplyLost :=
  hm.then (ps := [.fm, .pm, .pc, .tm, .de, .si, .os, .en, .nv])
      ((((((((Moves.self.dropCoils (by decide) (by decide) (by decide) (by decide) (by decide)).dropUvr).modOs (by decide)
      _).modSi (by decide) _).cutOutputs).cagesOff).modTm (by decide) _).modPm (by decide) _) hp

theorem Moves.failRecords (hm : Moves ps s u) (hp : [.nv] ⊆ ps := by decide) :
    Moves ps s u.failRecords :=
  hm.then (ps := [.nv]) (.ite ((Moves.self.journal (by decide) _ _).writeSoc) Moves.self) hp

theorem Goes.powerFailEntry (hm : Moves ps s u) (hp : [.fm, .pm, .pc, .tm, .de, .si, .os, .en, .nv] ⊆ ps := by decide) :
    Goes ps s (execPowerFailEntry u) :=
  hm.goes (ps := [.fm, .pm, .pc, .tm, .de, .si, .os, .en, .nv])
      (.next (.ite ((Moves.self.supplyLost).failRecords) Moves.self)) hp

theorem Goes.storeLow (hm : Moves ps s u) (hp : [.fm, .rows, .pm, .ca, .ss, .im, .pc, .cl, .ef, .bs, .tm, .de, .si, .os, .ty,
    .tb, .en, .cn, .sy, .ck, .nv, .ld, .lg, .cfg, .stopWait, .bytesWait, .bytes] ⊆ ps := by decide) :
    Goes ps s (execStoreLow u) :=
  hm.goes (ps := [.fm, .rows, .pm, .ca, .ss, .im, .pc, .cl, .ef, .bs, .tm, .de, .si, .os, .ty, .tb, .en, .cn, .sy, .ck, .nv,
      .ld, .lg, .cfg, .stopWait, .bytesWait, .bytes]) (.next
      (.ite (((Moves.self.sayBye).clearRam).modPm (by decide) _) Moves.self)) hp

theorem Goes.powerFailRideThrough (hm : Moves ps s u) (hp : [.fm, .pm, .en] ⊆ ps := by decide) :
    Goes ps s (execPowerFailRideThrough u) :=
  hm.goes (ps := [.fm, .pm, .en]) (.next (.ite (((Moves.self.modPm (by decide) _).cagesBack).trans
      (.ite (Moves.self.raiseEvent (by decide) _ _) Moves.self)) Moves.self)) hp

theorem Goes.overvoltageDisconnect (hm : Moves ps s u) (hp : [.fm, .pm, .pc, .tm, .de, .si, .os, .en, .nv] ⊆ ps := by decide) :
    Goes ps s (execOvervoltageDisconnect u) :=
  hm.goes (ps := [.fm, .pm, .pc, .tm, .de, .si, .os, .en, .nv])
      (.next (.ite ((Moves.ite Moves.self ((Moves.self.supplyLost).failRecords)).modPm (by decide) _) Moves.self)) hp

theorem Goes.overvoltageRestart (hm : Moves ps s u) {offLong : Bool}
    (hp : [.fm, .rows, .pm, .ca, .ss, .im, .pc, .cl, .ef, .bs, .tm, .de, .si, .os, .ty, .tb, .en, .cn, .sy, .ck, .nv, .ld,
    .lg, .cfg, .stopWait, .bytesWait, .bytes] ⊆ ps := by decide) :
    Goes ps s (execOvervoltageRestart offLong u) :=
  hm.goes (ps := [.fm, .rows, .pm, .ca, .ss, .im, .pc, .cl, .ef, .bs, .tm, .de, .si, .os, .ty, .tb, .en, .cn, .sy, .ck, .nv,
      .ld, .lg, .cfg, .stopWait, .bytesWait, .bytes]) (.next (.ite ((Moves.self.modPm (by decide) _).resetTo) Moves.self)) hp

theorem Moves.yieldStart (hm : Moves ps s u) (hp : [.ty] ⊆ ps := by decide) :
    Moves ps s (u.yieldStart).2 :=
  hm.then (ps := [.ty]) (.iteSnd (Moves.self.modTy (by decide) _) Moves.self) hp

theorem Goes.resetNChange (hm : Moves ps s u) {low : Bool} (hp : [.pm] ⊆ ps := by decide) :
    Goes ps s (execResetNChange low u) :=
  hm.goes (ps := [.pm]) (.next (Moves.self.modPm (by decide) _)) hp

theorem Goes.resetNAssertRecognised (hm : Moves ps s u) (hp : [.pm, .ty] ⊆ ps := by decide) :
    Goes ps s (execResetNAssertRecognised u) :=
  hm.goes (ps := [.pm, .ty]) (.next (.ite ((Moves.self.modPm (by decide) _).yieldStart) Moves.self)) hp

theorem Goes.resetEntry (hm : Moves ps s u) (hp : [.fm, .rows, .pm, .ca, .ss, .im, .pc, .cl, .ef, .bs, .tm, .de, .si, .os,
    .ty, .tb, .en, .cn, .sy, .ck, .nv, .ld, .lg, .cfg, .stopWait, .bytesWait, .bytes] ⊆ ps := by decide) :
    Goes ps s (execResetEntry u) :=
  hm.goes (ps := [.fm, .rows, .pm, .ca, .ss, .im, .pc, .cl, .ef, .bs, .tm, .de, .si, .os, .ty, .tb, .en, .cn, .sy, .ck, .nv,
      .ld, .lg, .cfg, .stopWait, .bytesWait, .bytes]) (.next
      (.ite (((Moves.self.sayBye).clearRam).modPm (by decide) _) Moves.self)) hp

theorem Goes.resetNReleaseRecognised (hm : Moves ps s u) (hp :
    [.fm, .rows, .pm, .ca, .ss, .im, .pc, .cl, .ef, .bs, .tm, .de, .si, .os, .ty, .tb, .en, .cn, .sy, .ck, .nv, .ld, .lg,
    .cfg, .stopWait, .bytesWait, .bytes] ⊆ ps := by decide) :
    Goes ps s (execResetNReleaseRecognised u) :=
  hm.goes (ps := [.fm, .rows, .pm, .ca, .ss, .im, .pc, .cl, .ef, .bs, .tm, .de, .si, .os, .ty, .tb, .en, .cn, .sy, .ck, .nv,
      .ld, .lg, .cfg, .stopWait, .bytesWait, .bytes]) (.next
      (.ite .self ((Moves.self.modPm (by decide) _).trans (.ite (Moves.self.resetTo) Moves.self)))) hp

theorem Goes.stuckReset (hm : Moves ps s u) (hp : [.fm, .rows, .pm, .ca, .ss, .im, .pc, .cl, .ef, .bs, .tm, .de, .si, .os,
    .ty, .tb, .en, .cn, .sy, .ck, .nv, .ld, .lg, .cfg, .stopWait, .bytesWait, .bytes] ⊆ ps := by decide) :
    Goes ps s (execStuckReset u) :=
  hm.goes (ps := [.fm, .rows, .pm, .ca, .ss, .im, .pc, .cl, .ef, .bs, .tm, .de, .si, .os, .ty, .tb, .en, .cn, .sy, .ck, .nv,
      .ld, .lg, .cfg, .stopWait, .bytesWait, .bytes]) (.next (.ite ((Moves.self.modPm (by decide) _).resetTo) Moves.self)) hp

theorem Goes.resetNRearm (hm : Moves ps s u) (hp : [.pm] ⊆ ps := by decide) :
    Goes ps s (execResetNRearm u) :=
  hm.goes (ps := [.pm]) (.next (.ite (Moves.self.modPm (by decide) _) Moves.self)) hp

theorem Moves.softReset (hm : Moves ps s u) (hp : [.fm, .rows, .pm, .ca, .ss, .im, .pc, .cl, .ef, .bs, .tm, .de, .si, .os,
    .ty, .tb, .en, .cn, .sy, .ck, .nv, .ld, .lg, .cfg, .stopWait, .bytesWait, .bytes] ⊆ ps := by decide) :
    Moves ps s u.softReset :=
  hm.then (ps := [.fm, .rows, .pm, .ca, .ss, .im, .pc, .cl, .ef, .bs, .tm, .de, .si, .os, .ty, .tb, .en, .cn, .sy, .ck, .nv,
      .ld, .lg, .cfg, .stopWait, .bytesWait, .bytes]) (.ite Moves.self
      ((((Moves.self.liveAnswers).modPm (by decide) _).sayBye).resetTo)) hp

theorem Moves.resetAct (hm : Moves ps s u) {value : Nat} {good : Nat} {kind : Nat} (hp : [.pm, .ty] ⊆ ps := by decide) :
    Moves ps s (u.resetAct value good kind).1 :=
  hm.then (ps := [.pm, .ty]) (.iteFst (Moves.self.no) (.iteFst (Moves.self.no)
      (((Moves.self.modPm (by decide) _).yieldStart).ok))) hp

theorem Goes.softwareReset (hm : Moves ps s u) {r : Req} {value : Nat} (hp : [.pm, .ty, .sy] ⊆ ps := by decide) :
    Goes ps s (execSoftwareReset r value u) :=
  hm.goes (ps := [.pm, .ty, .sy]) (.next (Moves.self.liveReq (fun _ _ => (Moves.self.resetAct)))) hp

theorem Goes.recoveryRequest (hm : Moves ps s u) {r : Req} {value : Nat} (hp : [.pm, .ty, .sy] ⊆ ps := by decide) :
    Goes ps s (execRecoveryRequest r value u) :=
  hm.goes (ps := [.pm, .ty, .sy]) (.next (Moves.self.liveReq (fun _ _ => (Moves.self.resetAct)))) hp

theorem Moves.bindOpen (hm : Moves ps s u) (hp : [.pm, .ca, .cl, .nv] ⊆ ps := by decide) :
    Moves ps s u.bindOpen :=
  hm.then (ps := [.pm, .ca, .cl, .nv]) ((((Moves.self.modCl (by decide) _).modCa (by decide) _).modPm (by decide) _).journal6
      (by decide)) hp

theorem Moves.bindWritten (hm : Moves ps s u) (hp : [.fm, .pm, .tm, .os, .ty, .en, .cn] ⊆ ps := by decide) :
    Moves ps s u.bindWritten :=
  hm.then (ps := [.fm, .pm, .tm, .os, .ty, .en, .cn]) (.ite ((((((((Moves.self.modPm (by decide) _).modOs (by decide) _).modTy
      (by decide) _).takeMode).takeMode).modEn (by decide) _).sayBye).modTm (by decide) _) Moves.self) hp

theorem Moves.bindHeld (hm : Moves ps s u) (hp : [.fm, .pm, .ca, .cl, .tm, .os, .ty, .en, .cn, .nv] ⊆ ps := by decide) :
    Moves ps s u.bindHeld :=
  hm.then (ps := [.fm, .pm, .ca, .cl, .tm, .os, .ty, .en, .cn, .nv]) (.ite ((Moves.self.bindOpen).bindWritten) Moves.self) hp

theorem Moves.bindFlushed (hm : Moves ps s u) (hp : [.fm, .pm, .ca, .cl, .tm, .os, .ty, .en, .cn, .nv] ⊆ ps := by decide) :
    Moves ps s u.bindFlushed :=
  hm.then (ps := [.fm, .pm, .ca, .cl, .tm, .os, .ty, .en, .cn, .nv])
      (.ite (((Moves.self.modPm (by decide) _).ringSend).bindHeld) Moves.self) hp

theorem Moves.bindOn (hm : Moves ps s u) (hp : [.fm, .pm, .ca, .cl, .tm, .os, .ty, .en, .cn, .nv] ⊆ ps := by decide) :
    Moves ps s u.bindOn :=
  hm.then (ps := [.fm, .pm, .ca, .cl, .tm, .os, .ty, .en, .cn, .nv]) (Moves.self.bindFlushed).bindWritten hp

theorem Moves.flushAll (hm : Moves ps s u) (hp : [.ef, .nv] ⊆ ps := by decide) :
    Moves ps s u.flushAll :=
  hm.then (ps := [.ef, .nv]) (((((((Moves.self.writeLearned).trans
      (.foldl (fun _ _ => (.ite .self (Moves.self.journal (by decide) _ _))) _ _)).journal (by decide) _ _).journal
      (by decide) _ _).journal (by decide) _ _).journal9).journal6 (by decide)) hp

theorem Moves.bindStart (hm : Moves ps s u) (hp : [.fm, .pm, .ca, .cl, .ef, .tm, .os, .ty, .en, .cn, .nv] ⊆ ps := by decide) :
    Moves ps s u.bindStart :=
  hm.then (ps := [.fm, .pm, .ca, .cl, .ef, .tm, .os, .ty, .en, .cn, .nv])
      (((Moves.self.modPm (by decide) _).flushAll).bindFlushed) hp

theorem Moves.bindRefuse (hm : Moves ps s u) {k : Nat} (hp : [.fm, .pm] ⊆ ps := by decide) :
    Moves ps s (u.bindRefuse k) :=
  hm.then (ps := [.fm, .pm]) ((Moves.self.modPm (by decide) _).raiseEvent (by decide) _ _) hp

theorem Moves.bindAct (hm : Moves ps s u) {value : Nat} {wakeLow : Bool} {twinAccepts : Bool}
    (hp : [.fm, .pm, .ca, .cl, .ef, .tm, .os, .ty, .en, .cn, .nv] ⊆ ps := by decide) :
    Moves ps s (u.bindAct value wakeLow twinAccepts).1 :=
  hm.then (ps := [.fm, .pm, .ca, .cl, .ef, .tm, .os, .ty, .en, .cn, .nv])
      (.iteFst (Moves.self.no) (.iteFst (Moves.self.ok) (.iteFst ((Moves.self.bindRefuse).no) ((Moves.self.bindStart).ok))))
      hp

theorem Goes.bindOff (hm : Moves ps s u) {r : Req} {value : Nat} {wakeLow : Bool} {twinAccepts : Bool}
    (hp : [.fm, .pm, .ca, .cl, .ef, .tm, .os, .ty, .en, .cn, .sy, .nv] ⊆ ps := by decide) :
    Goes ps s (execBindOff r value wakeLow twinAccepts u) :=
  hm.goes (ps := [.fm, .pm, .ca, .cl, .ef, .tm, .os, .ty, .en, .cn, .sy, .nv])
      (.next (Moves.self.liveReq (fun _ _ => (Moves.self.bindAct)))) hp

theorem Goes.holdResponse (hm : Moves ps s u) {cmu : Nat} (hp : [.fm, .pm, .ca, .cl, .tm, .os, .ty, .en, .cn, .nv] ⊆
    ps := by decide) :
    Goes ps s (execHoldResponse cmu u) :=
  hm.goes (ps := [.fm, .pm, .ca, .cl, .tm, .os, .ty, .en, .cn, .nv])
      ((Moves.self.repeatFrame).goes (.next (.ite ((Moves.self.modCmu).bindHeld) Moves.self)) (List.Subset.refl _)) hp

theorem Goes.cmuHoldTimeout (hm : Moves ps s u) (hp : [.fm, .pm, .cl] ⊆ ps := by decide) :
    Goes ps s (execCmuHoldTimeout u) :=
  hm.goes (ps := [.fm, .pm, .cl]) (.next (.ite (((Moves.self.modPm (by decide) _).wakeHeld).bindRefuse) Moves.self)) hp

theorem Goes.holdRelayRelease (hm : Moves ps s u) (hp : [.fm, .rows, .pm, .ca, .ss, .im, .pc, .cl, .ef, .bs, .tm, .de, .si,
    .os, .ty, .tb, .en, .cn, .sy, .ck, .nv, .ld, .lg, .cfg, .stopWait, .bytesWait, .bytes] ⊆ ps := by decide) :
    Goes ps s (execHoldRelayRelease u) :=
  hm.goes (ps := [.fm, .rows, .pm, .ca, .ss, .im, .pc, .cl, .ef, .bs, .tm, .de, .si, .os, .ty, .tb, .en, .cn, .sy, .ck, .nv,
      .ld, .lg, .cfg, .stopWait, .bytesWait, .bytes]) (.next
      (.ite (((Moves.self.modPm (by decide) _).clearRam).modPm (by decide) _) Moves.self)) hp

theorem Moves.wake (hm : Moves ps s u) {source : Nat} {aux : Bool} {offLong : Bool}
    (hp : [.fm, .rows, .pm, .ca, .ss, .im, .pc, .cl, .ef, .bs, .tm, .de, .si, .os, .ty, .tb, .en, .cn, .sy, .ck, .nv, .ld,
    .lg, .cfg, .stopWait, .bytesWait, .bytes] ⊆ ps := by decide) :
    Moves ps s (u.wake source aux offLong) :=
  hm.then (ps := [.fm, .rows, .pm, .ca, .ss, .im, .pc, .cl, .ef, .bs, .tm, .de, .si, .os, .ty, .tb, .en, .cn, .sy, .ck, .nv,
      .ld, .lg, .cfg, .stopWait, .bytesWait, .bytes]) ((Moves.self.modPm (by decide) _).trans
      (.ite .self (.ite (Moves.self.resetTo) (Moves.self.modPm (by decide) _)))) hp

theorem Goes.busWake (hm : Moves ps s u) {aux : Bool} {offLong : Bool}
    (hp : [.fm, .rows, .pm, .ca, .ss, .im, .pc, .cl, .ef, .bs, .tm, .de, .si, .os, .ty, .tb, .en, .cn, .sy, .ck, .nv, .ld,
    .lg, .cfg, .stopWait, .bytesWait, .bytes] ⊆ ps := by decide) :
    Goes ps s (execBusWake aux offLong u) :=
  hm.goes (ps := [.fm, .rows, .pm, .ca, .ss, .im, .pc, .cl, .ef, .bs, .tm, .de, .si, .os, .ty, .tb, .en, .cn, .sy, .ck, .nv,
      .ld, .lg, .cfg, .stopWait, .bytesWait, .bytes]) (.next (.ite (Moves.self.wake) Moves.self)) hp

theorem Goes.wakeNWake (hm : Moves ps s u) {offLong : Bool} (hp :
    [.fm, .rows, .pm, .ca, .ss, .im, .pc, .cl, .ef, .bs, .tm, .de, .si, .os, .ty, .tb, .en, .cn, .sy, .ck, .nv, .ld, .lg,
    .cfg, .stopWait, .bytesWait, .bytes] ⊆ ps := by decide) :
    Goes ps s (execWakeNWake offLong u) :=
  hm.goes (ps := [.fm, .rows, .pm, .ca, .ss, .im, .pc, .cl, .ef, .bs, .tm, .de, .si, .os, .ty, .tb, .en, .cn, .sy, .ck, .nv,
      .ld, .lg, .cfg, .stopWait, .bytesWait, .bytes]) (.next (.ite (Moves.self.wake) Moves.self)) hp

theorem Goes.auxAppliedAfterWake (hm : Moves ps s u) {offLong : Bool}
    (hp : [.fm, .rows, .pm, .ca, .ss, .im, .pc, .cl, .ef, .bs, .tm, .de, .si, .os, .ty, .tb, .en, .cn, .sy, .ck, .nv, .ld,
    .lg, .cfg, .stopWait, .bytesWait, .bytes] ⊆ ps := by decide) :
    Goes ps s (execAuxAppliedAfterWake offLong u) :=
  hm.goes (ps := [.fm, .rows, .pm, .ca, .ss, .im, .pc, .cl, .ef, .bs, .tm, .de, .si, .os, .ty, .tb, .en, .cn, .sy, .ck, .nv,
      .ld, .lg, .cfg, .stopWait, .bytesWait, .bytes]) (.next (.ite (Moves.self.resetTo) Moves.self)) hp

theorem Goes.operatingHourTick (hm : Moves ps s u) (hp : [.fm, .si, .nv, .id] ⊆ ps := by decide) :
    Goes ps s (execOperatingHourTick u) :=
  hm.goes (ps := [.fm, .si, .nv, .id]) (.next (.ite ((((Moves.self.modId (by decide) _).modSi (by decide) _).journal9).trans
      (.ite (Moves.self.raiseCond (by decide) _ _) Moves.self)) Moves.self)) hp

theorem Goes.journalWriteComplete (hm : Moves ps s u) {good : Bool}
    (hp : [.fm, .pm, .ca, .cl, .tm, .os, .ty, .en, .cn, .nv, .ld] ⊆ ps := by decide) :
    Goes ps s (execJournalWriteComplete good u) := by
  refine hm.goes (ps := [.fm, .pm, .ca, .cl, .tm, .os, .ty, .en, .cn, .nv, .ld]) ?_ hp
  unfold execJournalWriteComplete
  split
  · exact .next Moves.self
  · exact (Moves.self.writeCopy).goes ((Moves.ite Moves.self
        ((Moves.self.modLd (by decide) _).raiseEvent (by decide) _ _)).goes
        (.next (.ite (((Moves.self.modNv (by decide) _).nvKick (by decide)).bindOn) (Moves.self.modNv (by decide) _)))
        (List.Subset.refl _)) (List.Subset.refl _)

theorem Goes.eventLogWriteComplete (hm : Moves ps s u) {good : Bool}
    (hp : [.fm, .pm, .ca, .cl, .tm, .os, .ty, .en, .cn, .nv, .ld, .lg] ⊆ ps := by decide) :
    Goes ps s (execEventLogWriteComplete good u) := by
  refine hm.goes (ps := [.fm, .pm, .ca, .cl, .tm, .os, .ty, .en, .cn, .nv, .ld, .lg]) ?_ hp
  unfold execEventLogWriteComplete
  split
  · exact .next Moves.self
  · exact (Moves.self.modNv (by decide) _).goes (.next (.ite (((Moves.self.logWrite).nvKick (by decide)).bindOn)
        ((((Moves.self.modLd (by decide) _).raiseEvent (by decide) _ _).nvKick (by decide)).bindOn))) (List.Subset.refl _)

theorem Moves.writeHeader (hm : Moves ps s u) (hp : [.ld, .id] ⊆ ps := by decide) :
    Moves ps s u.writeHeader :=
  hm.then (ps := [.ld, .id]) ((Moves.self.modLd (by decide) _).modId (by decide) _) hp

theorem Moves.loadRefuse (hm : Moves ps s u) {k : Nat} (hp : [.fm, .ld] ⊆ ps := by decide) :
    Moves ps s (u.loadRefuse k) :=
  hm.then (ps := [.fm, .ld]) ((Moves.self.modLd (by decide) _).raiseEvent (by decide) _ _) hp

theorem Moves.loaderStart (hm : Moves ps s u) {session : Nat}
    (hp : [.fm, .pm, .pc, .de, .si, .os, .ty, .sy, .ck, .nv, .ld] ⊆ ps := by decide) :
    Moves ps s (u.loaderStart session) :=
  hm.then (ps := [.fm, .pm, .pc, .de, .si, .os, .ty, .sy, .ck, .nv, .ld])
      (((((((Moves.self.flushJournal).sayBye).trans (.foldl (fun _ _ => (Moves.self.closeSession)) _ _)).allSafe).modOs
      (by decide) _).modTy (by decide) _).modLd (by decide) _) hp

theorem Moves.answerWaiting (hm : Moves ps s u) {r : Req} {slot : Option Nat} {opcode : Nat} {status : Nat} {body : Bytes} :
    Moves ps s (u.answerWaiting r slot opcode status body) := by
  refine hm.then (ps := []) ?_ (List.nil_subset _)
  unfold State.answerWaiting
  dsimp only
  split
  · exact (Moves.self.pushSlot).finish
  · exact (Moves.self.pushSlot).answerSlot

theorem Moves.loadHandedOver (hm : Moves ps s u) {taken : Bool}
    (hp : [.fm, .pm, .pc, .de, .si, .os, .ty, .sy, .ck, .nv, .ld] ⊆ ps := by decide) :
    Moves ps s (u.loadHandedOver taken) := by
  refine hm.then (ps := [.fm, .pm, .pc, .de, .si, .os, .ty, .sy, .ck, .nv, .ld]) ?_ hp
  unfold State.loadHandedOver
  split
  · exact .self
  · exact .ite ((Moves.self.loaderStart).answerWaiting) (((Moves.self.modLd (by decide) _).loadRefuse).answerWaiting)

theorem Goes.loadBegin (hm : Moves ps s u) {r : Req} {total : Nat} {header : Bytes}
    (hp : [.fm, .pm, .pc, .de, .si, .os, .ty, .sy, .ck, .nv, .ld] ⊆ ps := by decide) : Goes ps s
        (execLoadBegin r total header u) := by
  refine hm.goes (ps := [.fm, .pm, .pc, .de, .si, .os, .ty, .sy, .ck, .nv, .ld]) ?_ hp
  have he := (u.enter_moves r false 0x60 (leBytes 4 total ++ header) 1092 engineer).mono
    (by decide : [Part.sy] ⊆ [.fm, .pm, .pc, .de, .si, .os, .ty, .sy, .ck, .nv, .ld])
  unfold execLoadBegin
  generalize u.enter r false 0x60 (leBytes 4 total ++ header) 1092 engineer = e at he
  match e with
  | .isOver t => exact .next he
  | .on t x (some status) => exact .next he.finish
  | .on t x none =>
    have hheader := Moves.modLd he (by decide) fun l => { l with header, total }
    exact .ite (.next (Moves.loadRefuse he).finish) (.ite
      (.next ((hheader.popSlot.modLd (by decide) _).yieldStart.modPm (by decide) _)) (.next hheader.loaderStart.finish))

theorem Goes.loadData (hm : Moves ps s u) {r : Req} {offset : Nat} {chunk : Bytes}
    (hp : [.sy, .ld] ⊆ ps := by decide) : Goes ps s (execLoadData r offset chunk u) := by
  refine hm.goes (ps := [.sy, .ld]) ?_ hp
  have he := (u.enter_moves r false 0x61 (leBytes 4 offset ++ chunk) 5 engineer).mono (by decide : [Part.sy] ⊆ [.sy, .ld])
  unfold execLoadData
  generalize u.enter r false 0x61 (leBytes 4 offset ++ chunk) 5 engineer = e at he
  match e with
  | .isOver t => exact .next he
  | .on t x (some status) => exact .next he.finish
  | .on t x none =>
    exact .ite (.next (Moves.finish he)) (.ite (.next (Moves.finish he)) (.ite (.next (Moves.finish he))
      (.next ((Moves.popSlot he).modLd (by decide) _).progKick)))

theorem Goes.loadDataProgrammed (hm : Moves ps s u) {good : Bool} (hp : [.fm, .ld] ⊆ ps := by decide) :
    Goes ps s (execLoadDataProgrammed good u) := by
  refine hm.goes (ps := [.fm, .ld]) ?_ hp
  unfold execLoadDataProgrammed
  split
  · exact .next Moves.self
  · exact .ite (.next Moves.self) (.ite (.next ((Moves.self.modLd (by decide) _).answerWaiting))
        (.next (((((Moves.self.pushSlot).answerSlot).modLd (by decide) _).raiseEvent (by decide) _ _).loadAbort)))

theorem Goes.loadEnd (hm : Moves ps s u) {r : Req} (hp : [.fm, .rows, .pm, .ca, .ss, .im, .pc, .cl, .ef, .bs, .tm, .de, .si,
    .os, .ty, .tb, .en, .cn, .sy, .ck, .nv, .ld, .lg, .id, .cfg, .stopWait, .bytesWait, .bytes] ⊆ ps := by decide) :
    Goes ps s (execLoadEnd r u) := by
  refine hm.goes (ps := [.fm, .rows, .pm, .ca, .ss, .im, .pc, .cl, .ef, .bs, .tm, .de, .si, .os, .ty, .tb, .en, .cn, .sy, .ck,
      .nv, .ld, .lg, .id, .cfg, .stopWait, .bytesWait, .bytes]) ?_ hp
  have he := (u.enter_moves r false 0x62 [] 0 engineer).mono
    (by decide : [Part.sy] ⊆ [.fm, .rows, .pm, .ca, .ss, .im, .pc, .cl, .ef, .bs, .tm, .de, .si, .os, .ty, .tb, .en, .cn, .sy, .ck, .nv, .ld, .lg, .id, .cfg, .stopWait, .bytesWait, .bytes])
  unfold execLoadEnd
  generalize u.enter r false 0x62 [] 0 engineer = e at he
  match e with
  | .isOver t => exact .next he
  | .on t x (some status) => exact .next he.finish
  | .on t x none =>
    exact .ite (.next (Moves.finish he)) (.ite (.next (Moves.loadRefuse he).finish.loadAbort)
      (.next (Moves.writeHeader he).finish.resetTo))

theorem Goes.loadIdleTimeout (hm : Moves ps s u) (hp : [.ld] ⊆ ps := by decide) :
    Goes ps s (execLoadIdleTimeout u) :=
  hm.goes (ps := [.ld]) (.next (.ite (Moves.self.loadAbort) Moves.self)) hp

theorem Moves.sendRecovery (hm : Moves ps s u) {seq : Nat} {kind : Nat} {p : Bytes} :
    Moves ps s (u.sendRecovery seq kind p) :=
  hm.then (ps := []) (Moves.self.emit _) (List.nil_subset _)

theorem Moves.recoveryRequest (hm : Moves ps s u) {seq kind : Nat} {act : State → State × Option Bytes}
    (hact : ∀ v, Moves ps v (act v).1) (hp : [.ld] ⊆ ps := by decide) : Moves ps s (u.recoveryRequest seq kind act) := by
  unfold State.recoveryRequest
  refine .ite hm (.ite ?_ ?_)
  · split
    · exact hm
    · exact hm.sendRecovery
  · have ht := (hm.modLd (hp (by decide)) fun l => { l with recSeq := some seq, recCached := [] }).trans (hact _)
    generalize act _ = q at ht ⊢
    obtain ⟨t, b⟩ := q
    cases b with
    | none => exact ht
    | some p => exact (Moves.sendRecovery ht).modLd (hp (by decide)) _

theorem Goes.recoveryIdentSend (hm : Moves ps s u) (hp : [.freeCount] ⊆ ps := by decide) :
    Goes ps s (execRecoveryIdentSend u) :=
  hm.goes (ps := [.freeCount]) (.next (.ite ((Moves.self.takeFree (by decide)).sendRecovery) Moves.self)) hp

theorem Goes.probe (hm : Moves ps s u) {seq : Nat} (hp : [.ld] ⊆ ps := by decide) :
    Goes ps s (execProbe seq u) :=
  hm.goes (ps := [.ld]) (.next (Moves.self.recoveryRequest (fun _ => (Moves.self.modLd (by decide) _)))) hp

theorem Goes.recoveryBegin (hm : Moves ps s u) {seq : Nat} {payload : Bytes} (hp : [.ld] ⊆ ps := by decide) :
    Goes ps s (execRecoveryBegin seq payload u) :=
  hm.goes (ps := [.ld]) (.next (Moves.self.recoveryRequest (fun _ =>
      (.iteFst Moves.self (.iteFst Moves.self (Moves.self.modLd (by decide) _)))))) hp

theorem Goes.recoveryData (hm : Moves ps s u) {seq : Nat} {payload : Bytes} {good : Bool} (hp : [.ld] ⊆ ps := by decide) :
    Goes ps s (execRecoveryData seq payload good u) :=
  hm.goes (ps := [.ld]) (.next (Moves.self.recoveryRequest (fun _ =>
      (.iteFst Moves.self (.iteFst Moves.self (.iteFst Moves.self
      (.iteFst (Moves.self.modLd (by decide) _) (Moves.self.modLd (by decide) _)))))))) hp

theorem Goes.recoveryEnd (hm : Moves ps s u) {seq : Nat} (hp : [.ld, .id] ⊆ ps := by decide) :
    Goes ps s (execRecoveryEnd seq u) :=
  hm.goes (ps := [.ld, .id]) (.next (Moves.self.recoveryRequest
      (fun _ => (.iteFst Moves.self (.iteFst (Moves.self.modLd (by decide) _)
      ((Moves.self.writeHeader).modLd (by decide) _)))))) hp

theorem Goes.boot (hm : Moves ps s u) {seq : Nat} {rcvyLow : Bool}
    (hp : [.fm, .rows, .pm, .ca, .ss, .im, .pc, .cl, .ef, .bs, .tm, .de, .si, .os, .ty, .tb, .en, .cn, .sy, .ck, .nv, .ld,
    .lg, .cfg, .stopWait, .bytesWait, .bytes] ⊆ ps := by decide) :
    Goes ps s (execBoot seq rcvyLow u) :=
  hm.goes (ps := [.fm, .rows, .pm, .ca, .ss, .im, .pc, .cl, .ef, .bs, .tm, .de, .si, .os, .ty, .tb, .en, .cn, .sy, .ck, .nv,
      .ld, .lg, .cfg, .stopWait, .bytesWait, .bytes]) ((Moves.self.recoveryRequest (fun _ => Moves.self)).goes
      (.next (.ite (Moves.self.resetTo) Moves.self)) (List.Subset.refl _)) hp

theorem Goes.recoveryLog (hm : Moves ps s u) {seq : Nat} {payload : Bytes} (hp : [.ld] ⊆ ps := by decide) :
    Goes ps s (execRecoveryLog seq payload u) :=
  hm.goes (ps := [.ld]) (.next (Moves.self.recoveryRequest (fun _ => Moves.self))) hp

theorem Goes.claimFrame (hm : Moves ps s u) {word : Nat} {row : Nat} {crcOk : Bool} (hp : [.ty] ⊆ ps := by decide) :
    Goes ps s (execClaimFrame word row crcOk u) :=
  hm.goes (ps := [.ty]) (.next (.ite .self (Moves.self.modTy (by decide) _))) hp

theorem Moves.handOverAct (hm : Moves ps s u) {value : Nat} (hp : [.ty] ⊆ ps := by decide) :
    Moves ps s (u.handOverAct value).1 :=
  hm.then (ps := [.ty]) (.iteFst (Moves.self.no) (.iteFst ((Moves.self.yieldStart).ok) (Moves.self.no))) hp

theorem Goes.handOverRequest (hm : Moves ps s u) {r : Req} {value : Nat} (hp : [.ty, .sy] ⊆ ps := by decide) :
    Goes ps s (execHandOverRequest r value u) :=
  hm.goes (ps := [.ty, .sy]) (.next (Moves.self.liveReq (fun _ _ => (Moves.self.handOverAct)))) hp

theorem Moves.yieldEnd (hm : Moves ps s u) {taken : Bool} (hp :
    [.fm, .rows, .pm, .ca, .ss, .im, .pc, .cl, .ef, .bs, .tm, .de, .si, .os, .ty, .tb, .en, .cn, .sy, .ck, .nv, .ld, .lg,
    .cfg, .stopWait, .bytesWait, .bytes] ⊆ ps := by decide) :
    Moves ps s (u.yieldEnd taken) :=
  hm.then (ps := [.fm, .rows, .pm, .ca, .ss, .im, .pc, .cl, .ef, .bs, .tm, .de, .si, .os, .ty, .tb, .en, .cn, .sy, .ck, .nv,
      .ld, .lg, .cfg, .stopWait, .bytesWait, .bytes]) ((Moves.self.modTy (by decide) _).trans
      (.ite (Moves.self.softReset) (.ite ((Moves.self.modPm (by decide) _).loadHandedOver) Moves.self))) hp

theorem Goes.yieldTimeout (hm : Moves ps s u) (hp : [.fm, .rows, .pm, .ca, .ss, .im, .pc, .cl, .ef, .bs, .tm, .de, .si, .os,
    .ty, .tb, .en, .cn, .sy, .ck, .nv, .ld, .lg, .cfg, .stopWait, .bytesWait, .bytes] ⊆ ps := by decide) :
    Goes ps s (execYieldTimeout u) :=
  hm.goes (ps := [.fm, .rows, .pm, .ca, .ss, .im, .pc, .cl, .ef, .bs, .tm, .de, .si, .os, .ty, .tb, .en, .cn, .sy, .ck, .nv,
      .ld, .lg, .cfg, .stopWait, .bytesWait, .bytes]) (.next (.ite .self (Moves.self.yieldEnd))) hp

theorem Moves.joinStart (hm : Moves ps s u) (hp : [.ty] ⊆ ps := by decide) :
    Moves ps s u.joinStart :=
  hm.then (ps := [.ty]) (.ite ((Moves.self.modTy (by decide) _).toTwin) Moves.self) hp

theorem Moves.rejoinAct (hm : Moves ps s u) {value : Nat} (hp : [.ty] ⊆ ps := by decide) :
    Moves ps s (u.rejoinAct value).1 :=
  hm.then (ps := [.ty]) (.iteFst (Moves.self.no) (.iteFst (Moves.self.no) (((Moves.self.modTy (by decide) _).joinStart).ok))) hp

theorem Goes.rejoinRequest (hm : Moves ps s u) {r : Req} {value : Nat} (hp : [.ty, .sy] ⊆ ps := by decide) :
    Goes ps s (execRejoinRequest r value u) :=
  hm.goes (ps := [.ty, .sy]) (.next (Moves.self.liveReq (fun _ _ => (Moves.self.rejoinAct)))) hp

theorem Moves.startHandler (hm : Moves ps s u) {p : Pending} (hp : [.fm, .nv, .lg] ⊆ ps := by decide) :
    Moves ps s (u.startHandler p) :=
  hm.then (ps := [.fm, .nv, .lg]) (((Moves.self.modFm (by decide) _).logAdmit (by decide) (by decide) (by decide) _).trans
      (.ite (Moves.self.journal6 (by decide)) Moves.self)) hp

theorem Goes.faultHandlerStart (hm : Moves ps s u) (hp : [.fm, .nv, .lg] ⊆ ps := by decide) :
    Goes ps s (execFaultHandlerStart u) := by
  refine hm.goes (ps := [.fm, .nv, .lg]) ?_ hp
  unfold execFaultHandlerStart
  refine .next (.ite .self ?_)
  split
  · exact .self
  · split
    · exact Moves.self.startHandler
    · exact .ite (Moves.self.startHandler) Moves.self

theorem Goes.faultHandlerComplete (hm : Moves ps s u) (hp : [.fm, .nv, .lg] ⊆ ps := by decide) :
    Goes ps s (execFaultHandlerComplete u) := by
  refine hm.goes (ps := [.fm, .nv, .lg]) ?_ hp
  unfold execFaultHandlerComplete
  refine .next (.ite .self ?_)
  split
  · exact .self
  · split
    · dsimp only
      exact Moves.self.modFm (by decide) _
    · refine Moves.trans ?_ (.ite (Moves.self.clearCond (by decide) _) Moves.self)
      exact ((Moves.ite ((Moves.self.modFm (by decide) _).journal6 (by decide)) (Moves.self.modFm (by decide) _)).logAdmit
          (by decide) (by decide) (by decide) _).modFm (by decide) _

theorem Moves.acknowledge (hm : Moves ps s u) {value : Nat} (hp : [.fm, .pc, .si, .nv, .lg] ⊆ ps := by decide) :
    Moves ps s (u.acknowledge value) :=
  hm.then (ps := [.fm, .pc, .si, .nv, .lg]) ((Moves.self.modFm (by decide) _).trans
      ((Moves.ite (Moves.self.modPc (by decide) _) Moves.self).trans
      (((Moves.ite (Moves.self.journal6 (by decide)) Moves.self).logKind (by decide) (by decide) (by decide) _ _).unblock)))
      hp

theorem Moves.ackAct (hm : Moves ps s u) {x : Session} {value : Nat} (hp : [.fm, .pc, .si, .nv, .lg] ⊆ ps := by decide) :
    Moves ps s (u.ackAct x value).1 :=
  hm.then (ps := [.fm, .pc, .si, .nv, .lg]) (.iteFst (Moves.self.no)
      (.iteFst (Moves.self.no) (.iteFst (Moves.self.no) ((Moves.self.acknowledge).ok)))) hp

theorem Goes.faultAcknowledge (hm : Moves ps s u) {r : Req} {value : Nat}
    (hp : [.fm, .pc, .si, .sy, .nv, .lg] ⊆ ps := by decide) :
    Goes ps s (execFaultAcknowledge r value u) :=
  hm.goes (ps := [.fm, .pc, .si, .sy, .nv, .lg]) (.next (Moves.self.liveReq (fun _ _ => (Moves.self.ackAct)))) hp

theorem Moves.dropLogs (hm : Moves ps s u) {need k : Nat} (hp : [.fm, .nv, .lg] ⊆ ps := by decide) :
    Moves ps s (u.dropLogs need k) := by
  induction k generalizing u with
  | zero => exact hm
  | succ k ih =>
    unfold State.dropLogs
    split
    · exact hm
    · split
      · exact hm
      · exact ih ((hm.modNv (hp (by decide)) _).logDropped (hp (by decide)) (hp (by decide)) (hp (by decide)) _)

theorem Moves.storeSettings (hm : Moves ps s u) {v t : State} {indices : List Nat} (e : v.storeSettings u indices = some t)
    (hp : [.fm, .nv, .lg] ⊆ ps := by decide) : Moves ps s t := by
  refine hm.then (ps := [.fm, .nv, .lg]) ?_ hp
  unfold State.storeSettings at e
  extract_lets changed need free at e
  split at e
  · cases e
  · cases e
    exact Moves.self.dropLogs.trans (.foldl (fun _ _ => Moves.self.journal (by decide) _ _) _ _)

theorem Moves.settingsRefused (hm : Moves ps s u) (hp : [.nv] ⊆ ps := by decide) :
    Moves ps s u.settingsRefused :=
  hm.then (ps := [.nv]) (Moves.self.modNv (by decide) _) hp

theorem Moves.settleChange (hm : Moves ps s u) {v : State} {d : Nat} (hp : [.ca] ⊆ ps := by decide) :
    Moves ps s (v.settleChange u d) :=
  hm.then (ps := [.ca]) (.ite Moves.self.modDuty (.ite Moves.self.modDuty .self)) hp

theorem Moves.valuesActed (hm : Moves ps s u) {v : State} {indices : List Nat} (hp : [.fm, .ca, .tb, .cn] ⊆ ps := by decide) :
    Moves ps s (v.valuesActed u indices) := by
  refine hm.then (ps := [.fm, .ca, .tb, .cn]) ?_ hp
  unfold State.valuesActed
  extract_lets on duties t1 t2
  have h1 : Moves [.fm, .ca, .tb, .cn] u t1 :=
    .ite ((Moves.self.trans (.foldl (fun _ _ => Moves.self.settleChange) _ _)).trans
      (.foldl (fun _ _ => .ite Moves.self.deferHandOver .self) _ _)) .self
  have h2 : Moves [.fm, .ca, .tb, .cn] u t2 := .ite h1.buildLists h1
  exact .ite h2.ptpStartStop h2

theorem Moves.putWrites (hm : Moves ps s u) {ws : List (Nat × Nat × Bytes)} (hp : [.cfg] ⊆ ps := by decide) :
    Moves ps s (u.putWrites ws) :=
  hm.then (ps := [.cfg]) (Moves.self.trans (.foldl (fun _ _ => (Moves.self.cfgPut)) _ _)) hp

theorem Moves.agreeCommit (hm : Moves ps s u) {c : Commit} (hp : [.sy] ⊆ ps := by decide) :
    Moves ps s (u.agreeCommit c) :=
  hm.then (ps := [.sy]) (Moves.self.modSy (by decide) _) hp

theorem Goes.commit (hm : Moves ps s u) {r : Req} (hp : [.sy] ⊆ ps := by decide) :
    Goes ps s (execCommit r u) := by
  refine hm.goes (ps := [.sy]) ?_ hp
  have he := (u.enter_moves r false 0x13 [] 0 operator).mono (by decide : [Part.sy] ⊆ [.sy])
  unfold execCommit
  generalize u.enter r false 0x13 [] 0 operator = e at he
  match e with
  | .isOver t => exact .next he
  | .on t x (some status) => exact .next he.finish
  | .on t x none => exact .next (Moves.popSlot he).agreeCommit

theorem Goes.discard (hm : Moves ps s u) {r : Req} (hp : [.sy] ⊆ ps := by decide) :
    Goes ps s (execDiscard r u) :=
  hm.goes (ps := [.sy]) (.next (Moves.self.request (fun _ _ => ((Moves.self.modSession).ok)))) hp

theorem Moves.commitAnswer (hm : Moves ps s u) {c : Commit} {status : Nat} {body : Bytes} :
    Moves ps s (u.commitAnswer c status body) := by
  refine hm.then (ps := []) ?_ (List.nil_subset _)
  unfold State.commitAnswer
  split
  · exact (Moves.self.pushSlot).trans (.ite (Moves.self.answerSlot) Moves.self)
  · split
    · dsimp only
      split
      · exact (Moves.self.pushSlot).answerSlot
      · exact (Moves.self.pushSlot).finish
    · dsimp only
      split
      · exact Moves.self.pushSlot
      · exact (Moves.self.pushSlot).finish

theorem Moves.writeStaged (hm : Moves ps s u) {x : Session} {o : Obj} {sub : Nat} {v : Nat} :
    Moves ps s (u.writeStaged x o sub v).1 :=
  hm.then (ps := []) (.iteFst (Moves.self.no) (.iteFst (Moves.self.no) ((Moves.self.modSession).ok))) (List.nil_subset _)

theorem Moves.writeModel (hm : Moves ps s u) {index offset n : Nat} {value : Bytes}
    (hp : [.fm, .nv, .lg, .bytesWait] ⊆ ps := by decide) :
    Moves ps s (u.writeModel index offset n value).1 := by
  refine hm.then (ps := [.fm, .nv, .lg, .bytesWait]) ?_ hp
  unfold State.writeModel
  refine .iteFst .self (.iteFst .self ?_)
  dsimp only
  split
  · exact Moves.self.settingsRefused
  next he => exact (Moves.self.modBytesWait (by decide) _).storeSettings he

theorem Moves.writeLive (hm : Moves ps s u) {o : Obj} {sub : Nat} {v : Nat} (hp : [.cfg] ⊆ ps := by decide) :
    Moves ps s (u.writeLive o sub v).1 :=
  hm.then (ps := [.cfg]) (.iteFst ((Moves.self.cfgPut).ok) (Moves.self.no)) hp

theorem Moves.applyRequest (hm : Moves ps s u) {x : Session} {c : CmdRecord}
    (hp : [.fm, .cl, .sy, .ck, .ld] ⊆ ps := by decide) :
    Moves ps s (u.applyRequest x c) := by
  refine hm.then (ps := [.fm, .cl, .sy, .ck, .ld]) ?_ hp
  unfold State.applyRequest
  split
  · exact (Moves.self.modSession).closeSession
  · exact (Moves.self.modSession).trans (.ite (Moves.self.agreeCommit) Moves.self)
  · exact (Moves.self.modSession).trans (.ite (Moves.self.modSession) Moves.self)
  · exact (Moves.self.modSession).trans (.ite (Moves.self.requestStep) Moves.self)
  · exact Moves.self.modSession

theorem Goes.helloSend (hm : Moves ps s u) :
    Goes ps s (execHelloSend u) :=
  hm.goes (ps := []) (.next (.ite .self (Moves.self.toTwin))) (List.nil_subset _)

theorem Moves.observe (hm : Moves ps s u) {reason : Nat} (hp : [.pm, .ty] ⊆ ps := by decide) :
    Moves ps s (u.observe reason) :=
  hm.then (ps := [.pm, .ty]) ((Moves.self.modTy (by decide) _).modPm (by decide) _) hp

theorem Moves.goSolo (hm : Moves ps s u) (hp : [.fm, .pm, .ty] ⊆ ps := by decide) :
    Moves ps s u.goSolo :=
  hm.then (ps := [.fm, .pm, .ty]) (((Moves.self.clearCond (by decide) _).modTy (by decide) _).modPm (by decide) _) hp

theorem Moves.lockSend (hm : Moves ps s u) {h : Hello} (hp : [.fm, .pm, .ty] ⊆ ps := by decide) :
    Moves ps s (u.lockSend h) :=
  hm.then (ps := [.fm, .pm, .ty]) (.ite (.ite ((Moves.self.observe).raiseCond (by decide) _ _) (Moves.self.goSolo))
      (.ite .self ((Moves.self.modTy (by decide) _).toTwin))) hp

theorem Moves.setsDisagree (hm : Moves ps s u) {h : Hello} (hp : [.fm, .si, .ty] ⊆ ps := by decide) :
    Moves ps s (u.setsDisagree h) :=
  hm.then (ps := [.fm, .si, .ty]) (.ite Moves.self (((Moves.self.modTy (by decide) _).raiseEvent (by decide) _ _).trans
      (.ite .self ((Moves.self.modSi (by decide) _).raiseCond (by decide) _ _)))) hp

theorem Moves.sendTransfers (hm : Moves ps s u) {keys : Bool} {learned : Bool} :
    Moves ps s (u.sendTransfers keys learned) :=
  hm.then (ps := []) Moves.self.modTyTraffic (List.nil_subset _)

theorem Moves.relate (hm : Moves ps s u) {h : Hello} (hp : [.fm, .pm, .si, .ty] ⊆ ps := by decide) :
    Moves ps s (u.relate h) :=
  hm.then (ps := [.fm, .pm, .si, .ty]) ((Moves.self.setsDisagree).trans
      (.ite (.ite ((Moves.self.goSolo).sendTransfers) ((Moves.self.observe).raiseCond (by decide) _ _))
      (.ite (.ite (((Moves.self.modPm (by decide) _).modTy (by decide) _).joinStart)
      ((Moves.self.observe).raiseCond (by decide) _ _)) (.ite .self ((Moves.self.modTy (by decide) _).lockSend))))) hp

theorem Moves.pairUp (hm : Moves ps s u) {h : Hello} (hp : [.fm, .pm, .si, .ty, .nv] ⊆ ps := by decide) :
    Moves ps s (u.pairUp h) :=
  hm.then (ps := [.fm, .pm, .si, .ty, .nv]) ((((((Moves.self.modTy (by decide) _).toTwin).journal (by decide) _ _).clearCond
      (by decide) _).clearCond (by decide) _).relate) hp

theorem Goes.twinHello (hm : Moves ps s u) {h : Hello} (hp : [.fm, .pm, .si, .ty, .nv] ⊆ ps := by decide) :
    Goes ps s (execTwinHello h u) :=
  hm.goes (ps := [.fm, .pm, .si, .ty, .nv]) (.next (.ite .self
      ((Moves.self.modTy (by decide) _).trans (.ite .self (.ite ((Moves.self.modTy (by decide) _).raiseCond (by decide) _ _)
      (.ite (.ite .self (Moves.self.modTy (by decide) _)) (.ite (Moves.self.pairUp) Moves.self))))))) hp

theorem Goes.pairWaitExpiry (hm : Moves ps s u) (hp : [.fm, .pm, .ty] ⊆ ps := by decide) :
    Goes ps s (execPairWaitExpiry u) :=
  hm.goes (ps := [.fm, .pm, .ty]) (.next (.ite .self (.ite (.ite ((Moves.self.goSolo).raiseCond (by decide) _ _)
      ((Moves.self.modTy (by decide) _).modPm (by decide) _)) (Moves.self.modPm (by decide) _)))) hp

theorem Goes.lockFrame (hm : Moves ps s u) {pl : Nat} {source : Nat} {seq : Nat} (hp : [.ty] ⊆ ps := by decide) :
    Goes ps s (execLockFrame pl source seq u) :=
  hm.goes (ps := [.ty]) (.next (.ite .self (.ite (.ite .self (((Moves.self.modTy (by decide) _).toTwin).sendTransfers))
      (.ite ((Moves.self.modTy (by decide) _).sendTransfers) Moves.self)))) hp

theorem Moves.adoptRecords (hm : Moves ps s u) {rs : List (Nat × List Int)}
    (hp : [.fm, .ef, .nv, .freeCount] ⊆ ps := by decide) :
    Moves ps s (u.adoptRecords rs) :=
  hm.then (ps := [.fm, .ef, .nv, .freeCount]) (.ite Moves.self
      ((((((Moves.self.modNv (by decide) _).restoreLearned).modNv (by decide) _).trans
      (.foldl (fun _ _ => (Moves.self.journal (by decide) _ _)) _ _)).modEf (by decide) _).trans
      (.ite .self (Moves.self.raiseEvent (by decide) _ _)))) hp

theorem Moves.takeKeys (hm : Moves ps s u) {slots : List (Bytes × Bytes)} (hp : [.fm, .sy, .nv] ⊆ ps := by decide) :
    Moves ps s (u.takeKeys slots) :=
  hm.then (ps := [.fm, .sy, .nv]) (.ite Moves.self (Moves.self.adoptKeys)) hp

theorem Moves.lockstep (hm : Moves ps s u) (hp : [.fm, .pm, .ef, .ty, .freeCount] ⊆ ps := by decide) :
    Moves ps s u.lockstep :=
  hm.then (ps := [.fm, .pm, .ef, .ty, .freeCount]) ((Moves.self.modTy (by decide) _).trans
      (((Moves.ite Moves.self (Moves.self.restoreLearned)).clearCond (by decide) _).modPm (by decide) _)) hp

theorem Goes.rowInput (hm : Moves ps s u) {m : RowInput} (hp : [.ty] ⊆ ps := by decide) :
    Goes ps s (execRowInput m u) :=
  hm.goes (ps := [.ty]) (.next (.ite .self (Moves.self.modTy (by decide) _))) hp

theorem Goes.cellIndex (hm : Moves ps s u) {crcs : List Nat} (hp : [.ty] ⊆ ps := by decide) :
    Goes ps s (execCellIndex crcs u) :=
  hm.goes (ps := [.ty]) (.next (.ite .self (Moves.self.modTy (by decide) _))) hp

theorem Goes.digest (hm : Moves ps s u) {m : DigestMsg} (hp : [.ty] ⊆ ps := by decide) :
    Goes ps s (execDigest m u) :=
  hm.goes (ps := [.ty]) (.next (.ite .self (Moves.self.modTy (by decide) _))) hp

theorem Moves.holdFrame (hm : Moves ps s u) {c : Nat} {waits : Bool} (hp : [.cl] ⊆ ps := by decide) :
    Moves ps s (u.holdFrame c waits) :=
  hm.then (ps := [.cl]) (((Moves.self.trans (.foldl (fun _ _ => (Moves.self.modGroup)) _ _)).trans
      (.foldl (fun _ _ => (Moves.self.modSensor)) _ _)).modCmu) hp

theorem Moves.agreeCells (hm : Moves ps s u) {twin : List Nat} (hp : [.cl] ⊆ ps := by decide) :
    Moves ps s (u.agreeCells twin) :=
  hm.then (ps := [.cl]) ((Moves.self.trans (.foldl (fun _ _ => (Moves.self.holdFrame)) _ _)).modTyTraffic) hp

theorem Moves.takeFrame (hm : Moves ps s u) {m : CellData} (hp : [.cl] ⊆ ps := by decide) :
    Moves ps s (u.takeFrame m) :=
  hm.then (ps := [.cl]) (.ite Moves.self (Moves.self.modCmu)) hp

theorem Moves.loadSnapshot (hm : Moves ps s u) {m : Snapshot}
    (hp : [.fm, .pc, .ef, .de, .ty, .nv, .freeCount] ⊆ ps := by decide) :
    Moves ps s (u.loadSnapshot m) :=
  hm.then (ps := [.fm, .pc, .ef, .de, .ty, .nv, .freeCount])
      (((((Moves.self.adoptRecords).modTy (by decide) _).modPc (by decide) _).modDe (by decide) _).modSyTraffic) hp

theorem Moves.unpair (hm : Moves ps s u) (hp : [.ty] ⊆ ps := by decide) :
    Moves ps s u.unpair :=
  hm.then (ps := [.ty]) (Moves.self.modTy (by decide) _) hp

theorem Goes.bye (hm : Moves ps s u) {reason : Nat} (hp : [.fm, .pm, .ty] ⊆ ps := by decide) :
    Goes ps s (execBye reason u) :=
  hm.goes (ps := [.fm, .pm, .ty]) (.next (.ite .self ((Moves.self.unpair).trans
      (.ite (Moves.self.modTy (by decide) _) (Moves.self.goSolo))))) hp

theorem Goes.joinRequest (hm : Moves ps s u) (hp : [.ty] ⊆ ps := by decide) :
    Goes ps s (execJoinRequest u) :=
  hm.goes (ps := [.ty]) (.next (.ite .self ((Moves.self.modTy (by decide) _).toTwin))) hp

theorem Goes.joinSnapshotBegins (hm : Moves ps s u) {ps' : Nat} (hp : [.ty] ⊆ ps := by decide) :
    Goes ps s (execJoinSnapshotBegins ps' u) :=
  hm.goes (ps := [.ty]) (.next (.ite .self (Moves.self.modTy (by decide) _))) hp

theorem Goes.joinJoined (hm : Moves ps s u) (hp : [.ty] ⊆ ps := by decide) :
    Goes ps s (execJoinJoined u) :=
  hm.goes (ps := [.ty]) (.next (.ite .self (Moves.self.modTy (by decide) _))) hp

theorem Moves.joinFail (hm : Moves ps s u) (hp : [.fm, .ty] ⊆ ps := by decide) :
    Moves ps s u.joinFail :=
  hm.then (ps := [.fm, .ty]) ((Moves.self.modTy (by decide) _).trans
      (.ite (Moves.self.raiseEvent (by decide) _ _) Moves.self)) hp

theorem Goes.joinCatchUpTimeout (hm : Moves ps s u) (hp : [.fm, .ty] ⊆ ps := by decide) :
    Goes ps s (execJoinCatchUpTimeout u) :=
  hm.goes (ps := [.fm, .ty]) (.next (.ite (Moves.self.joinFail) Moves.self)) hp

theorem Goes.joinRetry (hm : Moves ps s u) (hp : [.ty] ⊆ ps := by decide) :
    Goes ps s (execJoinRetry u) :=
  hm.goes (ps := [.ty]) (.next (.ite (Moves.self.joinStart) Moves.self)) hp

theorem Moves.takeClaim (hm : Moves ps s u) {kind : Nat} (hp : [.fm, .pm, .os, .ty] ⊆ ps := by decide) :
    Moves ps s (u.takeClaim kind) := by
  refine hm.then (ps := [.fm, .pm, .os, .ty]) ?_ hp
  unfold State.takeClaim
  refine ((Moves.self.modTy (by decide) _).trans (.foldl (fun _ _ => ?_) _ _)).trans
      (((Moves.ite Moves.self (Moves.self.modPm (by decide) _)).raiseEvent (by decide) _ _).trans
      (.ite (Moves.self.goSolo) (.ite (Moves.self.goSolo) Moves.self)))
  exact .ite (Moves.self.modCoil (by decide) _ _) Moves.self

theorem Moves.agreeLive (hm : Moves ps s u) (hp : [.sy] ⊆ ps := by decide) :
    Moves ps s u.agreeLive :=
  hm.then (ps := [.sy]) (Moves.self.modSy (by decide) _) hp

theorem Moves.rowAt (hm : Moves ps s u) {after : Nat} (hp : [.tb] ⊆ ps := by decide) :
    Moves ps s (u.rowAt after) :=
  hm.then (ps := [.tb]) (Moves.self.runTo (by decide) _) hp

theorem Moves.latchWord (hm : Moves ps s u) (hp : [.ty] ⊆ ps := by decide) :
    Moves ps s u.latchWord := by
  refine hm.then (ps := [.ty]) ?_ hp
  unfold State.latchWord
  split
  · exact Moves.self.modTy (by decide) _
  · exact Moves.self.modTy (by decide) _

theorem Moves.urgentList (hm : Moves ps s u) (hp : [.ty] ⊆ ps := by decide) :
    Moves ps s u.urgentList :=
  hm.then (ps := [.ty]) (Moves.self.modTy (by decide) _) hp

theorem Moves.sendInput (hm : Moves ps s u) {l : RowLatch} {before : Nat} (hp : [.ty] ⊆ ps := by decide) :
    Moves ps s (u.sendInput l before) :=
  hm.then (ps := [.ty]) (.ite (Moves.self.modTy (by decide) _)
      (((Moves.self.modTy (by decide) _).toTwin).trans (.ite (Moves.self.toTwin) Moves.self))) hp

theorem Moves.restartRow (hm : Moves ps s u) (hp : [.fm, .rows, .freeCount] ⊆ ps := by decide) :
    Moves ps s u.restartRow :=
  hm.then (ps := [.fm, .rows, .freeCount]) (.ite Moves.self ((Moves.self.takeFree (by decide)).trans
      (.ite ((Moves.self.modRows (by decide) _).clearCond (by decide) _) Moves.self))) hp

theorem Moves.latchRow (hm : Moves ps s u) {l : RowLatch} (hp : [.fm, .rows, .pm, .ca, .ty] ⊆ ps := by decide) :
    Moves ps s (u.latchRow l) :=
  hm.then (ps := [.fm, .rows, .pm, .ca, .ty]) ((Moves.self.modPm (by decide) _).trans
      (((((Moves.ite (Moves.self.clearCond (by decide) _) Moves.self).modRows (by decide) _).modTy (by decide)
      _).pairRow).latchWord)) hp

theorem Goes.speedIndexWindowEnd (hm : Moves ps s u) {completions : Nat} {reference : Nat}
    (hp : [.fm, .rows] ⊆ ps := by decide) :
    Goes ps s (execSpeedIndexWindowEnd completions reference u) :=
  hm.goes (ps := [.fm, .rows]) (.next (.ite .self ((Moves.self.modRows (by decide) _).cond (by decide) _ _ _))) hp

theorem Moves.fallbackWord (hm : Moves ps s u) (hp : [.ty] ⊆ ps := by decide) :
    Moves ps s u.fallbackWord := by
  refine hm.then (ps := [.ty]) ?_ hp
  unfold State.fallbackWord
  refine .ite Moves.self ?_
  split
  · exact Moves.self.modTy (by decide) _
  · exact Moves.self.modTy (by decide) _

theorem Moves.claimPairRow (hm : Moves ps s u) {framed : Bool} (hp : [.ty] ⊆ ps := by decide) :
    Moves ps s (u.claimPairRow framed) :=
  hm.then (ps := [.ty]) (.ite Moves.self (Moves.self.modTy (by decide) _)) hp

theorem Moves.agreeMeans (hm : Moves ps s u) {m : RowInput} (hp : [.ty] ⊆ ps := by decide) :
    Moves ps s (u.agreeMeans m) :=
  hm.then (ps := [.ty]) (Moves.self.modTy (by decide) _) hp

theorem Moves.agreedPattern (hm : Moves ps s u) (hp : [.ty] ⊆ ps := by decide) :
    Moves ps s u.agreedPattern :=
  hm.then (ps := [.ty]) (Moves.self.modTy (by decide) _) hp

theorem Moves.agreeCurrent (hm : Moves ps s u) {m : RowInput} (hp : [.rows] ⊆ ps := by decide) :
    Moves ps s (u.agreeCurrent m) :=
  hm.then (ps := [.rows]) (Moves.self.modRows (by decide) _) hp

theorem Moves.differences (hm : Moves ps s u) {m : RowInput} (hp : [.ty] ⊆ ps := by decide) :
    Moves ps s (u.differences m) :=
  hm.then (ps := [.ty]) (Moves.self.modTy (by decide) _) hp

theorem Moves.followCoil (hm : Moves ps s u) {m : RowInput} {n : Nat} (hp : [.pm, .os] ⊆ ps := by decide) :
    Moves ps s (State.followCoil m u n) :=
  hm.then (ps := [.pm, .os]) (.ite Moves.self (.ite (Moves.self.coilOff (by decide) (by decide) _)
      ((Moves.self.modCoil (by decide) _ _).modPm (by decide) _))) hp

theorem Moves.followOutputs (hm : Moves ps s u) {m : RowInput}
    (hp : [.fm, .pm, .im, .pc, .cl, .de, .os, .ty, .cfg, .stopWait] ⊆ ps := by decide) :
    Moves ps s (u.followOutputs m) := by
  refine hm.then (ps := [.fm, .pm, .im, .pc, .cl, .de, .os, .ty, .cfg, .stopWait]) ?_ hp
  unfold State.followOutputs
  extract_lets t0 t v w
  have ht0 : Moves [.fm, .pm, .im, .pc, .cl, .de, .os, .ty, .cfg, .stopWait] u t0 := by
    unfold t0
    cases m.ring with
    | none => exact .self
    | some x => exact Moves.self.takeRingShare
  have ht : Moves [.fm, .pm, .im, .pc, .cl, .de, .os, .ty, .cfg, .stopWait] u t := ht0.modTy (by decide) _
  have hw : Moves [.fm, .pm, .im, .pc, .cl, .de, .os, .ty, .cfg, .stopWait] u w :=
    ((ht.trans (.foldl (fun _ _ => Moves.self.followCoil) _ _)).modPc (by decide) _).modDe (by decide) _
  refine .ite ht ?_
  cases m.iso with
  | none => exact hw
  | some x => exact hw.takeIso

theorem Moves.twinTime (hm : Moves ps s u) {m : RowInput} (hp : [.fm, .tb] ⊆ ps := by decide) :
    Moves ps s (u.twinTime m) :=
  hm.then (ps := [.fm, .tb]) (((Moves.self.modTb (by decide) _).cond (by decide) _ _ _).trans
      (.ite .self (.ite ((Moves.self.modTb (by decide) _).trans (.ite (Moves.self.servo) Moves.self))
      (.ite (Moves.self.modTb (by decide) _) Moves.self)))) hp

theorem Moves.yarnLost (hm : Moves ps s u) (hp : [.fm, .pm, .ty] ⊆ ps := by decide) :
    Moves ps s u.yarnLost :=
  hm.then (ps := [.fm, .pm, .ty]) (.ite (Moves.self.unpair) (.ite
      ((((Moves.self.unpair).raiseCond (by decide) _ _).modTy (by decide) _).goSolo)
      ((((Moves.self.unpair).raiseCond (by decide) _ _).observe).modTy (by decide) _))) hp

theorem Moves.agreeUrgent (hm : Moves ps s u) {m : RowInput} (hp : [.fm] ⊆ ps := by decide) :
    Moves ps s (u.agreeUrgent m) :=
  hm.then (ps := [.fm]) (Moves.self.trans (.foldl (fun _ _ => (Moves.self.raiseEvent (by decide) _ _)) _ _)) hp

theorem Moves.sendSegment (hm : Moves ps s u) (hp : [.ty] ⊆ ps := by decide) :
    Moves ps s u.sendSegment := by
  refine hm.then (ps := [.ty]) ?_ hp
  unfold State.sendSegment
  refine .ite Moves.self ?_
  split
  · exact Moves.self.modTy (by decide) _
  · exact (Moves.self.modTy (by decide) _).toTwin

theorem Moves.agreedHead (hm : Moves ps s u) (hp : [.ss, .ef] ⊆ ps := by decide) :
    Moves ps s u.agreedHead := by
  refine hm.then (ps := [.ss, .ef]) ?_ hp
  unfold State.agreedHead
  refine Moves.modEf ?_ (by decide) _
  split
  · exact .ite ((((Moves.self.modSs (by decide) _).modEf (by decide) _).stringHead).modSs (by decide) _)
        ((Moves.self.stringHead).modEf (by decide) _)
  · exact Moves.self.stringHead

theorem Moves.commitOutputs (hm : Moves ps s u) {c : CommitInp}
    (hp : [.fm, .rows, .pm, .pc, .de, .si, .os, .nv] ⊆ ps := by decide) :
    Moves ps s (u.commitOutputs c) :=
  hm.then (ps := [.fm, .rows, .pm, .pc, .de, .si, .os, .nv])
      (((Moves.self.cond (by decide) _ _ _).cond (by decide) _ _ _).trans
      ((Moves.ite (Moves.self.modRows (by decide) _) Moves.self).trans
      (((Moves.ite (Moves.self.modSi (by decide) _) Moves.self).modSi (by decide) _).trans
      (.ite (Moves.self.allSafe) (Moves.self.safetyCommit))))) hp

theorem Moves.pinCheck (hm : Moves ps s u) {driving : Bool} (hp : [.fm, .ty] ⊆ ps := by decide) :
    Moves ps s (u.pinCheck driving) :=
  hm.then (ps := [.fm, .ty]) (.ite ((Moves.self.modTy (by decide) _).clearCond (by decide) _)
      (.ite ((Moves.self.modTy (by decide) _).raiseCond (by decide) _ _) Moves.self)) hp

theorem Moves.driveWord (hm : Moves ps s u) {word : Nat} {driving : Bool}
    (hp : [.fm, .pm, .pc, .de, .os, .ty, .nv] ⊆ ps := by decide) :
    Moves ps s (u.driveWord word driving) :=
  hm.then (ps := [.fm, .pm, .pc, .de, .os, .ty, .nv]) (((Moves.self.modTy (by decide) _).modOs (by decide) _).trans
      (.ite ((Moves.self.modTy (by decide) _).takeClaim) (.ite (Moves.self.safeOff) Moves.self))) hp

theorem Moves.healthRow (hm : Moves ps s u) {word : Nat} (hp : [.ty] ⊆ ps := by decide) :
    Moves ps s (u.healthRow word) :=
  hm.then (ps := [.ty]) (.ite ((Moves.self.modTy (by decide) _).yieldStart) (Moves.self.modTy (by decide) _)) hp

theorem Moves.claimPairCheck (hm : Moves ps s u) {good : Bool} (hp : [.fm, .ty] ⊆ ps := by decide) :
    Moves ps s (u.claimPairCheck good) :=
  hm.then (ps := [.fm, .ty]) ((Moves.self.modTy (by decide) _).cond (by decide) _ _ _) hp

theorem Moves.sendDigest (hm : Moves ps s u) (hp : [.ty] ⊆ ps := by decide) :
    Moves ps s u.sendDigest :=
  hm.then (ps := [.ty]) ((Moves.self.modTy (by decide) _).trans
      ((Moves.ite (Moves.self.toTwin) Moves.self).trans ((Moves.ite Moves.self (Moves.self.toTwin)).modTy (by decide) _))) hp

theorem Goes.outputCommit (hm : Moves ps s u) {c : CommitInp}
    (hp : [.fm, .rows, .pm, .ca, .ss, .im, .pc, .cl, .ef, .bs, .tm, .de, .si, .os, .ty, .tb, .en, .cn, .sy, .ck, .nv, .ld,
    .lg, .cfg, .stopWait, .bytesWait, .bytes] ⊆ ps := by decide) :
    Goes ps s (execOutputCommit c u) :=
  hm.goes (ps := [.fm, .rows, .pm, .ca, .ss, .im, .pc, .cl, .ef, .bs, .tm, .de, .si, .os, .ty, .tb, .en, .cn, .sy, .ck, .nv,
      .ld, .lg, .cfg, .stopWait, .bytesWait, .bytes]) (.next
      (.ite .self (((Moves.self.rowAt).modRows (by decide) _).trans
      ((Moves.ite (Moves.self.yieldEnd) Moves.self).trans (.ite .self
      (.ite (Moves.self.softReset) (((((((((Moves.self.modSi (by decide)
      _).commitOutputs).pinCheck).driveWord).takeCommands).healthRow).claimPairCheck).sendDigest).sendSegment))))))) hp

theorem Moves.memberRow (hm : Moves ps s u) (hp : [.fm, .ty] ⊆ ps := by decide) :
    Moves ps s u.memberRow :=
  hm.then (ps := [.fm, .ty]) (((Moves.self.modTy (by decide) _).cond (by decide) _ _ _).trans
      (.ite (Moves.self.raiseCond (by decide) _ _) (.ite (Moves.self.clearCond (by decide) _) Moves.self))) hp

theorem Moves.joinRow (hm : Moves ps s u) (hp : [.fm, .ty] ⊆ ps := by decide) :
    Moves ps s u.joinRow := by
  refine hm.then (ps := [.fm, .ty]) ?_ hp
  unfold State.joinRow
  refine .ite Moves.self ?_
  split
  · exact Moves.self.modTy (by decide) _
  · exact .ite (((Moves.self.modTy (by decide) _).toTwin).raiseEvent (by decide) _ _) (Moves.self.joinFail)

theorem Goes.digestDeadline (hm : Moves ps s u) (hp : [.fm, .rows, .ty, .tb] ⊆ ps := by decide) :
    Goes ps s (execDigestDeadline u) :=
  hm.goes (ps := [.fm, .rows, .ty, .tb]) (.next (.ite .self (((Moves.self.rowAt).modRows (by decide) _).trans
      (.ite (Moves.self.memberRow) (.ite (Moves.self.joinRow) Moves.self))))) hp

theorem Moves.supplyPattern (hm : Moves ps s u) (hp : [.fm, .rows] ⊆ ps := by decide) :
    Moves ps s u.supplyPattern :=
  hm.then (ps := [.fm, .rows]) (.ite Moves.self ((Moves.self.modRows (by decide) _).cond (by decide) _ _ _)) hp

theorem Moves.comparePattern (hm : Moves ps s u) (hp : [.fm, .ty] ⊆ ps := by decide) :
    Moves ps s u.comparePattern :=
  hm.then (ps := [.fm, .ty]) ((Moves.self.modTy (by decide) _).cond (by decide) _ _ _) hp

theorem Moves.pairStart (hm : Moves ps s u) (hp : [.fm, .pm, .ef, .ty, .freeCount] ⊆ ps := by decide) :
    Moves ps s u.pairStart :=
  hm.then (ps := [.fm, .pm, .ef, .ty, .freeCount]) ((Moves.ite (Moves.self.lockstep) Moves.self).trans
      ((Moves.ite ((Moves.self.modTy (by decide) _).trans (.ite .self (Moves.self.joinStart))) Moves.self).trans
      ((Moves.ite (Moves.self.modTy (by decide) _) Moves.self).trans
      (.ite ((Moves.self.clearCond (by decide) _).modTy (by decide) _) Moves.self)))) hp

theorem Goes.cpCoreMismatch (hm : Moves ps s u) (hp : [.fm, .rows, .bs, .tm, .sy, .ck, .ld] ⊆ ps := by decide) :
    Goes ps s (execCpCoreMismatch u) :=
  hm.goes (ps := [.fm, .rows, .bs, .tm, .sy, .ck, .ld]) (.next
      (.ite .self ((((((Moves.self.trans (.foldl (fun _ _ => (Moves.self.closeSession)) _ _)).modSy (by decide) _).modTm
      (by decide) _).modBs (by decide) _).modRows (by decide) _).raiseCond (by decide) _ _))) hp

theorem Goes.referenceOutOfLimits (hm : Moves ps s u) {khz : Nat} (hp : [.rows, .pm] ⊆ ps := by decide) :
    Goes ps s (execReferenceOutOfLimits khz u) :=
  hm.goes (ps := [.rows, .pm]) (.next (.ite .self ((Moves.self.modRows (by decide) _).modPm (by decide) _))) hp

theorem Goes.rowWatchdogExpiry (hm : Moves ps s u) (hp : [.pm, .pc, .de, .si, .os, .ty, .nv] ⊆ ps := by decide) :
    Goes ps s (execRowWatchdogExpiry u) :=
  hm.goes (ps := [.pm, .pc, .de, .si, .os, .ty, .nv]) (.next
      (.ite .self (((((Moves.self.allSafe).cutOutputs).modOs (by decide) _).modTy (by decide) _).modSi (by decide) _))) hp

theorem Goes.referenceRecovery (hm : Moves ps s u) (hp : [.fm, .rows, .pm, .ca, .ss, .im, .pc, .cl, .ef, .bs, .tm, .de, .si,
    .os, .ty, .tb, .en, .cn, .sy, .ck, .nv, .ld, .lg, .cfg, .stopWait, .bytesWait, .bytes] ⊆ ps := by decide) :
    Goes ps s (execReferenceRecovery u) :=
  hm.goes (ps := [.fm, .rows, .pm, .ca, .ss, .im, .pc, .cl, .ef, .bs, .tm, .de, .si, .os, .ty, .tb, .en, .cn, .sy, .ck, .nv,
      .ld, .lg, .cfg, .stopWait, .bytesWait, .bytes]) (.next (.ite (Moves.self.resetTo) Moves.self)) hp

theorem Moves.withFetchWord (hm : Moves ps s u) {nbits : Nat} {w : Nat} :
    Moves ps s (u.withFetchWord nbits w) :=
  hm.then (ps := []) .self (List.nil_subset _)

end

end Sys2Proof.Machine
end

section
/-! What the writes, the agreement of the twins and the instants of rows and patterns may change, and from that: every
command completes (spec/00, assumption 1). -/

namespace Sys2Proof.Machine

/-- Every part of the state but the queue of waiting commands and what has left the ports. -/
def Part.inner : List Part :=
  [.fm, .rows, .pm, .ca, .ss, .im, .pc, .cl, .ef, .bs, .tm, .de, .si, .os, .ty, .tb, .en, .cn, .sy, .ck, .nv, .ld, .lg, .id,
   .cfg, .stopWait, .bytesWait, .bytes, .freeCount]

section
set_option Elab.async false
variable {ps : List Part} {s u : State}

/-! ### Requests with a state of their own -/

theorem Goes.envelopePublish (hm : Moves ps s u) (hp : [.de, .tb, .cn] ⊆ ps := by decide) :
    Goes ps s (execEnvelopePublish u) := by
  have ht : Moves [.de, .tb, .cn] u (u.runTo (u.patStart + 8500000)) := Moves.self.runTo (by decide) _
  have hn := ht.numberMsg (unit := false)
  unfold execEnvelopePublish
  exact hm.goes (.next (hn.modDe (by decide) _).sendEnvelope) hp

theorem Moves.acceptPair (hm : Moves ps s u) {v : State} {node pairSeq : Nat} (e : u.acceptPair node pairSeq = some v)
    (hp : [.ty] ⊆ ps := by decide) : Moves ps s v := by
  refine hm.then (ps := [.ty]) ?_ hp
  unfold State.acceptPair at e
  dsimp only at e
  generalize (u.ty.receivers.find? fun v => v.node == node && v.origin == pairSeq / 2 ^ 30 % 4) = o at e
  cases o with
  | none =>
    obtain rfl := Option.some.inj e
    exact Moves.self.modTy (by decide) _
  | some r =>
    obtain ⟨w, -, rfl⟩ := Option.map_eq_some_iff.1 e
    exact Moves.self.modTy (by decide) _

theorem Goes.telemetry (hm : Moves ps s u) {m : TelemetryMsg} (hp : [.fm, .im, .cl, .ty, .en] ⊆ ps := by decide) :
    Goes ps s (execTelemetry m u) := by
  refine hm.goes (ps := [.fm, .im, .cl, .ty, .en]) (.next ?_) hp
  refine .ite .self (.ite (Moves.self.frameIn _) (.ite (Moves.self.frameIn _).telemetryAct ?_))
  split
  · exact Moves.self.frameIn _
  next v e => exact ((Moves.self.frameIn _).acceptPair e).telemetryAct

theorem Goes.keySet (hm : Moves ps s u) {r : Req} {slot : Nat} {salt wrapped : Bytes}
    (hp : [.sy, .nv, .ck, .ld, .fm] ⊆ ps := by decide) : Goes ps s (execKeySet r slot salt wrapped u) := by
  refine hm.goes (ps := [.sy, .nv, .ck, .ld, .fm]) ?_ hp
  have he := u.enter_moves r false 0x70 ([slot % 256, r.reserved, 0, 0] ++ salt ++ wrapped) 52 commissioning
  unfold execKeySet
  generalize u.enter r false 0x70 ([slot % 256, r.reserved, 0, 0] ++ salt ++ wrapped) 52 commissioning = e at he
  match e with
  | .isOver t => exact .next (he.mono (by decide))
  | .on t x (some status) => exact .next (Moves.finish (he.mono (by decide)))
  | .on t x none =>
    have ht : Moves [.sy, .nv, .ck, .ld, .fm] u t := he.mono (by decide)
    refine .ite (.next ht.finish) (.ite (.next ht.finish) (.next ?_))
    exact .ite (Moves.closeSession (Moves.finish ht.putKey.sendLong)) (Moves.finish ht.putKey.sendLong)

theorem Moves.applyCommit (hm : Moves ps s u) {c : Commit}
    (hp : [.fm, .ca, .tb, .cn, .nv, .lg, .cfg] ⊆ ps := by decide) : Moves ps s (u.applyCommit c) := by
  refine hm.then (ps := [.fm, .ca, .tb, .cn, .nv, .lg, .cfg]) ?_ hp
  unfold State.applyCommit
  extract_lets ws indices t status
  have ht : Moves [.fm, .ca, .tb, .cn, .nv, .lg, .cfg] u t := Moves.self.putWrites
  clear_value t
  refine .ite Moves.self.commitAnswer ?_
  split
  · exact Moves.self.settingsRefused.commitAnswer
  next v e =>
    have hv : Moves [.fm, .ca, .tb, .cn, .nv, .lg, .cfg] u v := ht.storeSettings e
    exact (hv.valuesActed.modSession.logKind (by decide) (by decide) (by decide) _ _).commitAnswer

theorem Goes.commitApply (hm : Moves ps s u) (hp : [.fm, .ca, .tb, .cn, .sy, .nv, .lg, .cfg] ⊆ ps := by decide) :
    Goes ps s (execCommitApply u) := by
  refine hm.goes (ps := [.fm, .ca, .tb, .cn, .sy, .nv, .lg, .cfg]) (.next ?_) hp
  split
  · exact .self
  · exact ((Moves.ite Moves.self (Moves.self.runTo (by decide) _)).modSy (by decide) _).applyCommit

/-! ### Writes -/

theorem Moves.writeStop (hm : Moves ps s u) {o : Obj} {sub v : Nat}
    (hp : [.fm, .ca, .tb, .cn, .nv, .lg, .cfg, .stopWait] ⊆ ps := by decide) : Moves ps s (u.writeStop o sub v).1 := by
  refine hm.then (ps := [.fm, .ca, .tb, .cn, .nv, .lg, .cfg, .stopWait]) ?_ hp
  unfold State.writeStop
  extract_lets k t
  have ht : Moves [.fm, .ca, .tb, .cn, .nv, .lg, .cfg, .stopWait] u t :=
    .ite Moves.self.cfgPut (Moves.self.modStopWait (by decide) _)
  clear_value k t
  refine .iteFst .self (.iteFst .self (.iteFst .self ?_))
  split
  · exact Moves.self.settingsRefused
  next w e => exact .ite (ht.storeSettings e).valuesActed (ht.storeSettings e)

theorem Moves.writeObject (hm : Moves ps s u) {x : Session} {index sub offset : Nat} {value : Bytes}
    (hp : [.fm, .ca, .tb, .cn, .nv, .lg, .cfg, .stopWait, .bytesWait] ⊆ ps := by decide) :
    Moves ps s (u.writeObject x index sub offset value).1 := by
  refine hm.then (ps := [.fm, .ca, .tb, .cn, .nv, .lg, .cfg, .stopWait, .bytesWait]) ?_ hp
  unfold State.writeObject
  cases modelLength index with
  | some n => exact .iteFst Moves.self.writeModel .self
  | none =>
    cases findObj index sub with
    | none => exact .self
    | some o =>
      refine .iteFst .self (.iteFst .self ?_)
      cases o.access with
      | live => exact Moves.self.writeLive
      | staged => exact Moves.self.writeStaged
      | stop => exact Moves.self.writeStop
      | safe => exact .self

/-- A command that may be refused goes where it goes once it is not. -/
theorem Goes.guarded {c : Prop} [Decidable c] {o o' : Host.Outcome State Fault Refusal} (h : Goes ps s o')
    (e : (if c then some o' else none) = some o) : Goes ps s o := by
  split at e
  · exact Option.some.inj e ▸ h
  · cases e

/-- One command or another. -/
theorem Goes.either {c : Prop} [Decidable c] {o o₁ : Host.Outcome State Fault Refusal}
    {r : Option (Host.Outcome State Fault Refusal)} (h : Goes ps s o₁) (k : r = some o → Goes ps s o)
    (e : (if c then some o₁ else r) = some o) : Goes ps s o := by
  split at e
  · exact Option.some.inj e ▸ h
  · exact k e

/-- A write to an object with a row of its own goes as that row does. -/
theorem State.ownRow_goes {r : Req} {index sub : Nat} {value : Bytes} {o : Host.Outcome State Fault Refusal}
    (e : s.ownRow r index sub value = some o) : Goes Part.inner s o := by
  unfold State.ownRow at e
  extract_lets v free t agrees at e
  have ht : Moves Part.inner s t := Moves.self.takeFree (by decide)
  split at e
  · exact .guarded (Goes.faultAcknowledge .self) e
  · exact .guarded (Goes.softwareReset .self) e
  · exact .guarded (Goes.bindOff ht) e
  · exact .guarded (Goes.softwareTrigger .self) e
  · exact .either (Goes.ringArm .self) (.guarded (Goes.ringSoftwareTrigger (Moves.self.modFreeCount (by decide) _))) e
  · exact .either (Goes.ringArm .self) (.guarded (Goes.ringSoftwareTrigger (Moves.self.modFreeCount (by decide) _))) e
  · exact .guarded (Goes.auxCoilCommand .self) e
  · exact .guarded (Goes.stepRequest .self) e
  · exact .guarded (Goes.renewRing .self) e
  · exact .guarded (Goes.fabricStop .self) e
  · exact .guarded (Goes.learnedStateReset .self) e
  · exact .guarded (Goes.balanceEnable .self) e
  · exact .guarded (Goes.leaseWrite .self) e
  · exact .guarded (Goes.safetyInputReset .self) e
  · exact .guarded (Goes.safetySetConfirm ht) e
  · exact .guarded (Goes.safetySetRevert .self) e
  · exact .either (Goes.proofTestAutomated (ht.takeFree (by decide)))
      (.either (Goes.proofTestRecord .self) (.either (Goes.proofTestTrip .self) (.guarded (Goes.proofTestUvrDrop .self)))) e
  · exact .guarded (Goes.handOverRequest .self) e
  · exact .guarded (Goes.rejoinRequest .self) e
  · exact .guarded (Goes.stepAccept .self) e
  · exact .guarded (Goes.incrementWrite .self) e
  · exact .guarded (Goes.timeStepRequest .self) e
  · exact .guarded (Goes.controllerMode .self) e
  · exact .guarded (Goes.recoverRequest .self) e
  · split at e
    · cases e
    · exact .either (Goes.hostEngineClaim .self) (.guarded (Goes.hostEngineRelease .self)) e
  · exact .guarded (Goes.recoveryRequest .self) e
  · split at e
    · exact .guarded (Goes.safeObjectWrite ht) e
    · cases e

theorem Moves.writeAny (hm : Moves ps s u) {r : Req} {index sub offset : Nat} {value : Bytes}
    (hp : Part.inner ⊆ ps := by decide) : Moves ps s (u.writeAny r index sub offset value) := by
  refine hm.then (ps := Part.inner) ?_ hp
  unfold State.writeAny
  split
  next o e =>
    refine Moves.outcome ?_
    split at e
    · exact State.ownRow_goes e
    · cases e
  · exact .ite (Moves.self.liveReq fun _ _ => Moves.self.writeObject) (Moves.self.writeAt fun _ _ => Moves.self.writeObject)

theorem Goes.write (hm : Moves ps s u) {r : Req} {index sub offset : Nat} {value : Bytes}
    (hp : Part.inner ⊆ ps := by decide) : Goes ps s (execWrite r index sub offset value u) :=
  .next (hm.writeAny hp)

theorem Moves.applyWrite (hm : Moves ps s u) {x : Session} {c : CmdRecord} (hp : Part.inner ⊆ ps := by decide) :
    Moves ps s (u.applyWrite x c) := by
  refine hm.then (ps := Part.inner) ?_ hp
  unfold State.applyWrite
  extract_lets f t n v
  have hv : Moves Part.inner u v :=
    ((Moves.self.modSession.writeAny.modSession).modTy (by decide) _).modSy (by decide) _
  clear_value v
  split
  · exact hv
  · exact .ite hv (hv.deliver _ _)

theorem Moves.applyRecord (hm : Moves ps s u) {c : CmdRecord} (hp : Part.inner ⊆ ps := by decide) :
    Moves ps s (u.applyRecord c) := by
  refine hm.then (ps := Part.inner) ?_ hp
  refine .ite (.ite (Moves.self.modTb (by decide) _) .self) (.ite Moves.self.fireRecord (.ite ?_ ?_))
  · split
    · exact .ite Moves.self.takePassed .self
    · exact .self
  · split
    · exact .self
    · exact .ite Moves.self.applyRequest Moves.self.applyWrite

theorem Moves.takeCommand (hm : Moves ps s u) {c : LongCommand} (hp : Part.inner ⊆ ps := by decide) :
    Moves ps s (u.takeCommand c) := by
  refine hm.then (ps := Part.inner) ?_ hp
  cases c with
  | write c => exact Moves.self.applyRecord
  | challenge => exact Moves.self.takeChallenge
  | acceptance => exact Moves.self.takeAcceptance
  | declined => exact Moves.self.takeDeclined
  | keySet client seq slot salt key =>
    unfold State.takeCommand
    dsimp only
    split
    · exact Moves.self.putKey
    · exact .ite Moves.self.modSession.putKey.closeSession Moves.self.modSession.putKey
  | keyStore slots => exact Moves.self.takeKeys

theorem Moves.takeItem (hm : Moves ps s u) {x : PatternItem} (hp : Part.inner ⊆ ps := by decide) :
    Moves ps s (u.takeItem x) := by
  refine hm.then (ps := Part.inner) ?_ hp
  unfold State.takeItem
  refine Moves.modTyTraffic ?_
  cases x with
  | dataFrame m => exact Moves.self.takeFrame
  | stepData cmu ident group first samples => exact .outcome (Goes.stepData .self)
  | command c => exact Moves.self.takeCommand
  | records rs => exact .ite (Moves.self.adoptRecords.modTy (by decide) _) .self
  | snapshot m => exact .ite Moves.self.loadSnapshot .self

theorem Goes.patternData (hm : Moves ps s u) {kind index total bytes : Nat} {item : PatternItem}
    (hp : Part.inner ⊆ ps := by decide) : Goes ps s (execPatternData kind index total bytes item u) := by
  refine hm.goes (ps := Part.inner) (.next (.ite .self ?_)) hp
  dsimp only
  split
  · exact Moves.self.modTy (by decide) _
  · exact .ite (Moves.self.modTy (by decide) _) (Moves.self.modTy (by decide) _).takeItem

/-! ### Live writes and reads -/

theorem Moves.liveAct (hm : Moves ps s u) {x : Session} {c : Instr} (hp : Part.inner ⊆ ps := by decide) :
    Moves ps s (u.liveAct x c).1 := by
  refine hm.then (ps := Part.inner) ?_ hp
  unfold State.liveAct
  split
  · exact Moves.self.ackAct
  · exact Moves.self.resetAct
  · exact Moves.self.resetAct
  · exact Moves.self.bindAct
  · exact Moves.self.ringArmAct
  · exact Moves.self.ringTrigger
  · exact Moves.self.softTrigAct
  · exact Moves.self.auxCoilAct
  · exact Moves.self.stepRequestAct
  · exact Moves.self.fabricStopAct
  · exact Moves.self.learnedResetAct
  · exact Moves.self.balanceEnableAct
  · exact Moves.self.leaseAct
  · exact Moves.self.inputReset
  · exact Moves.self.confirmSet
  · exact Moves.self.revertSet
  · exact Moves.self.proofRun
  · exact Moves.self.proofRecord
  · exact Moves.self.proofTrip
  · exact Moves.self.proofUvr
  · exact Moves.self.rejoinAct
  · exact Moves.self.handOverAct
  · exact Moves.self.stepAcceptAct
  · exact Moves.self.timeStepAct
  · exact Moves.self.incrementAct
  · exact Moves.self.controllerModeAct
  · exact Moves.self.recoverAct
  · exact Moves.self.engineClaimAct
  · exact Moves.self.engineReleaseAct
  · exact Moves.self.readPart
  · exact Moves.self.readItems
  · exact Moves.self.writeObject
  · exact .self

theorem Moves.liveFold (hm : Moves ps s u) {pattern : Bool} {l : List Live} (hp : Part.inner ⊆ ps := by decide) :
    Moves ps s (liveFold pattern l u).2 := by
  refine hm.then (ps := Part.inner) ?_ hp
  clear hm
  induction l generalizing u with
  | nil => exact .self
  | cons x l ih =>
    rw [Machine.liveFold]
    split
    · exact Moves.self.liveAct.trans ih
    · exact ih

theorem Moves.liveRun (hm : Moves ps s u) {pattern : Bool} (hp : Part.inner ⊆ ps := by decide) :
    Moves ps s (u.liveRun pattern) :=
  hm.then (ps := Part.inner) ((Moves.liveFold (Moves.self.modSy (by decide) _)).modSy (by decide) _) hp

theorem Moves.liveRow (hm : Moves ps s u) (hp : Part.inner ⊆ ps := by decide) : Moves ps s u.liveRow :=
  hm.then (ps := Part.inner) (.ite .self Moves.self.liveAnswers.liveRun) hp

/-! ### Rows and patterns -/

theorem Goes.rowStart (hm : Moves ps s u) {l : RowLatch} (hp : Part.inner ⊆ ps := by decide) :
    Goes ps s (execRowStart l u) := by
  refine hm.goes (ps := Part.inner) (.next (.ite .self ?_)) hp
  extract_lets k kept s0 s1
  have h1 : Moves Part.inner u s1 :=
    ((((Moves.self.runTo (by decide) _).modRows (by decide) _).latchRow.restartRow).outputRow.leaseRow).liveRow
  clear_value s1
  have h2 : Moves Part.inner u s1.cellRow.chargeBlockRow := h1.cellRow.chargeBlockRow
  exact .ite h1.chargeBlockRow.latchDemands
    ((Moves.ite h2 h2.rampRow).faultRamp.urgentList.latchDemands.sendInput)

theorem Moves.agreeCommands (hm : Moves ps s u) {m : RowInput} (hp : Part.inner ⊆ ps := by decide) :
    Moves ps s (u.agreeCommands m) :=
  hm.then (ps := Part.inner) (.foldl (fun _ _ => Moves.self.applyRecord) _ _) hp

theorem Moves.agreeSet (hm : Moves ps s u) {m : RowInput} (hp : Part.inner ⊆ ps := by decide) :
    Moves ps s (u.agreeSet m) := by
  refine hm.then (ps := Part.inner) ?_ hp
  unfold State.agreeSet
  extract_lets member adds t v
  have ht : Moves Part.inner u t := ((Moves.self.modTy (by decide) _).followOutputs).twinTime
  have hv : Moves Part.inner u v := .ite (ht.modSi (by decide) _).agreeUrgent ht
  clear_value v
  refine .ite hv ?_
  exact ((((hv.modTy (by decide) _).modDe (by decide) _).agreeMeans.agreeCurrent).differences).agreeCommands

theorem Moves.cutoffWork (hm : Moves ps s u) (hp : [.fm, .ss, .cl, .pm, .ef, .bs, .tm, .de, .si, .nv] ⊆ ps := by decide) :
    Moves ps s u.cutoffWork := by
  refine hm.then (ps := [.fm, .ss, .cl, .pm, .ef, .bs, .tm, .de, .si, .nv]) ?_ hp
  unfold State.cutoffWork
  extract_lets v w
  have hv : Moves [.fm, .ss, .cl, .pm, .ef, .bs, .tm, .de, .si, .nv] u v :=
    (((Moves.self.modEf (by decide) _).cutoffAgreed).hardCutoff).agreedHead
  have hw : Moves [.fm, .ss, .cl, .pm, .ef, .bs, .tm, .de, .si, .nv] u w :=
    (Moves.ite hv.restClocks hv.thermalCutoff.restClocks.balance).faultRamp
  clear_value w
  exact .ite hw.stringTail hw

theorem Moves.agreeCutoff (hm : Moves ps s u) (hp : [.fm, .ss, .cl, .pm, .ef, .bs, .tm, .de, .si, .nv] ⊆ ps := by decide) :
    Moves ps s u.agreeCutoff := by
  refine hm.then (ps := [.fm, .ss, .cl, .pm, .ef, .bs, .tm, .de, .si, .nv]) (.ite .self ?_) hp
  split
  · exact Moves.self.agreeCells.cutoffWork
  · exact Moves.self.cutoffWork

theorem Goes.inputSetFixed (hm : Moves ps s u) (hp : Part.inner ⊆ ps := by decide) : Goes ps s (execInputSetFixed u) := by
  refine hm.goes (ps := Part.inner) (.next (.ite .self ?_)) hp
  extract_lets s0 s1 member n t s2 s3
  have h1 : Moves Part.inner u s1 := ((Moves.self.rowAt).modRows (by decide) _).claimPairRow.fallbackWord
  clear_value s1
  have h2 : Moves Part.inner u s2 := by
    unfold s2
    split
    · exact h1.agreeSet
    · exact .ite h1 (.ite (h1.modTy (by decide) _).yarnLost (h1.modTy (by decide) _))
  clear_value s2
  have h3 : Moves Part.inner u s3 := .ite h2.rampRow h2
  exact ((h3.agreeCutoff.sendSegment).agreeLive).agreedStep

theorem Moves.waitingPattern (hm : Moves ps s u) (hp : [.fm, .ca, .tb, .cn, .sy, .cfg, .stopWait] ⊆ ps := by decide) :
    Moves ps s u.waitingPattern := by
  refine hm.then (ps := [.fm, .ca, .tb, .cn, .sy, .cfg, .stopWait]) ?_ hp
  unfold State.waitingPattern
  extract_lets mine now t v
  have ht : Moves [.fm, .ca, .tb, .cn, .sy, .cfg, .stopWait] u t :=
    Moves.modStopWait (.foldl (fun _ _ => Moves.self.cfgPut) _ _) (by decide) _
  have hv : Moves [.fm, .ca, .tb, .cn, .sy, .cfg, .stopWait] u v := .ite (ht.modSy (by decide) _) ht
  clear_value v
  exact .ite .self hv.valuesActed

theorem Moves.patternWork (hm : Moves ps s u) (hp : Part.inner ⊆ ps := by decide) : Moves ps s u.patternWork := by
  refine hm.then (ps := Part.inner) ?_ hp
  unfold State.patternWork
  extract_lets t v
  have ht : Moves Part.inner u t := by
    have h := (Moves.self (ps := Part.inner) (s := u)).rotationPattern.pairPattern.sensingPattern.comparePattern
    exact h.precisionPattern.fabricSnap.learnedPattern.liveRun.fabricStopPattern.learnedResetPattern
  clear_value t
  have hv : Moves Part.inner u v := ht.isoPattern.agreedPattern.contactorPattern.cellPattern
  exact .ite hv.dispatchPattern.balancePattern
    hv.thermalPattern.dispatchPattern.balancePattern.hvacPattern.telemetryPattern

theorem Goes.patternStart (hm : Moves ps s u) (hp : Part.inner ⊆ ps := by decide) : Goes ps s (execPatternStart u) := by
  refine hm.goes (ps := Part.inner) (.next (.ite .self ?_)) hp
  extract_lets k t v
  have hv : Moves Part.inner u v :=
    (((Moves.self.runTo (by decide) _).modRows (by decide) _).modTy (by decide) _).supplyPattern
  clear_value v
  exact .ite hv (hv.waitingPattern.pairStart).patternWork

theorem Goes.cellLinkCutoff (hm : Moves ps s u) (hp : Part.inner ⊆ ps := by decide) : Goes ps s (execCellLinkCutoff u) := by
  refine hm.goes (ps := Part.inner) (.next (.ite .self ?_)) hp
  have ht : Moves Part.inner u (u.runTo (u.rows.lastPat.getD 0 * 10000000 + 1000000)).cutoffOwn :=
    (Moves.self.runTo (by decide) _).cutoffOwn
  exact .ite (ht.modEf (by decide) _) ht.cutoffWork

end

end Sys2Proof.Machine
end

section
/-! Every command completes (spec/00, assumption 1): the frames of the commands put together. -/

namespace Sys2Proof.Machine

-- One theorem after another: each thread of the checker takes 256 MB of stack.
set_option Elab.async false

/-- What a command moves: every part but the queue of waiting commands, and what left the ports only grows. -/
theorem exec_goes (c : Instr) (s : State) : Goes Part.inner s (exec c s) := by
  cases c with
  | faultAcknowledge => exact Goes.faultAcknowledge .self
  | softwareReset => exact Goes.softwareReset .self
  | bindOff => exact Goes.bindOff .self
  | ringArm => exact Goes.ringArm .self
  | ringSoftwareTrigger => exact Goes.ringSoftwareTrigger .self
  | softwareTrigger => exact Goes.softwareTrigger .self
  | auxCoilCommand => exact Goes.auxCoilCommand .self
  | stepRequest => exact Goes.stepRequest .self
  | fabricStop => exact Goes.fabricStop .self
  | learnedStateReset => exact Goes.learnedStateReset .self
  | balanceEnable => exact Goes.balanceEnable .self
  | leaseWrite => exact Goes.leaseWrite .self
  | safetyInputReset => exact Goes.safetyInputReset .self
  | safetySetConfirm => exact Goes.safetySetConfirm .self
  | safetySetRevert => exact Goes.safetySetRevert .self
  | proofTestAutomated => exact Goes.proofTestAutomated .self
  | proofTestRecord => exact Goes.proofTestRecord .self
  | proofTestTrip => exact Goes.proofTestTrip .self
  | proofTestUvrDrop => exact Goes.proofTestUvrDrop .self
  | rejoinRequest => exact Goes.rejoinRequest .self
  | handOverRequest => exact Goes.handOverRequest .self
  | stepAccept => exact Goes.stepAccept .self
  | timeStepRequest => exact Goes.timeStepRequest .self
  | incrementWrite => exact Goes.incrementWrite .self
  | recoverRequest => exact Goes.recoverRequest .self
  | controllerMode => exact Goes.controllerMode .self
  | read => exact Goes.read .self
  | readList => exact Goes.readList .self
  | write => exact Goes.write .self
  | hostEngineClaim => exact Goes.hostEngineClaim .self
  | hostEngineRelease => exact Goes.hostEngineRelease .self
  | recoveryRequest => exact Goes.recoveryRequest .self
  | rowStart => exact Goes.rowStart .self
  | speedIndexWindowEnd => exact Goes.speedIndexWindowEnd .self
  | inputSetFixed => exact Goes.inputSetFixed .self
  | outputCommit => exact Goes.outputCommit .self
  | digestDeadline => exact Goes.digestDeadline .self
  | patternStart => exact Goes.patternStart .self
  | cellLinkCutoff => exact Goes.cellLinkCutoff .self
  | groupUpdateComplete => exact Goes.groupUpdateComplete .self
  | fabricSkipDeadline => exact Goes.fabricSkipDeadline .self
  | fabricAbandonDeadline => exact Goes.fabricAbandonDeadline .self
  | envelopeCompute => exact Goes.envelopeCompute .self
  | envelopePublish => exact Goes.envelopePublish .self
  | faultHandlerStart => exact Goes.faultHandlerStart .self
  | faultHandlerComplete => exact Goes.faultHandlerComplete .self
  | cpCoreMismatch => exact Goes.cpCoreMismatch .self
  | referenceOutOfLimits => exact Goes.referenceOutOfLimits .self
  | rowWatchdogExpiry => exact Goes.rowWatchdogExpiry .self
  | referenceRecovery => exact Goes.referenceRecovery .self
  | auxPowerRise => exact Goes.auxPowerRise .self
  | startSlotExpiry => exact Goes.startSlotExpiry .self
  | castOnStepEnd => exact Goes.castOnStepEnd .self
  | holdupChargeTimeout => exact Goes.holdupChargeTimeout .self
  | startPeriodEnd => exact Goes.startPeriodEnd .self
  | sagPauseBegin => exact Goes.sagPauseBegin .self
  | auxAboveResumeThreshold => exact Goes.auxAboveResumeThreshold .self
  | sagPauseEnd => exact Goes.sagPauseEnd .self
  | pullInStart => exact Goes.pullInStart .self
  | pullInEnd => exact Goes.pullInEnd .self
  | powerFailEntry => exact Goes.powerFailEntry .self
  | storeLow => exact Goes.storeLow .self
  | powerFailRideThrough => exact Goes.powerFailRideThrough .self
  | overvoltageDisconnect => exact Goes.overvoltageDisconnect .self
  | overvoltageRestart => exact Goes.overvoltageRestart .self
  | resetNChange => exact Goes.resetNChange .self
  | resetNAssertRecognised => exact Goes.resetNAssertRecognised .self
  | resetEntry => exact Goes.resetEntry .self
  | resetNReleaseRecognised => exact Goes.resetNReleaseRecognised .self
  | stuckReset => exact Goes.stuckReset .self
  | resetNRearm => exact Goes.resetNRearm .self
  | cmuHoldTimeout => exact Goes.cmuHoldTimeout .self
  | holdRelayRelease => exact Goes.holdRelayRelease .self
  | busWake => exact Goes.busWake .self
  | wakeNWake => exact Goes.wakeNWake .self
  | auxAppliedAfterWake => exact Goes.auxAppliedAfterWake .self
  | resultDelivered => exact Goes.resultDelivered .self
  | dutyOverrangeTimeout => exact Goes.dutyOverrangeTimeout .self
  | hallNoResultTimeout => exact Goes.hallNoResultTimeout .self
  | blindGapTimeout => exact Goes.blindGapTimeout .self
  | captureTrigger => exact Goes.captureTrigger .self
  | captureResult => exact Goes.captureResult .self
  | rotationStepBoundary => exact Goes.rotationStepBoundary .self
  | calibrationMeasurementDone => exact Goes.calibrationMeasurementDone .self
  | handOverPhaseBegin => exact Goes.handOverPhaseBegin .self
  | handOverSwitch => exact Goes.handOverSwitch .self
  | fastPairEvent => exact Goes.fastPairEvent .self
  | sarStuckDetect => exact Goes.sarStuckDetect .self
  | chargeJournalWrite => exact Goes.chargeJournalWrite .self
  | isoStateEnd => exact Goes.isoStateEnd .self
  | isoStateTimeout => exact Goes.isoStateTimeout .self
  | tokenPeriodicSend => exact Goes.tokenPeriodicSend .self
  | tokenNeed => exact Goes.tokenNeed .self
  | tokenHold => exact Goes.tokenHold .self
  | tokenPass => exact Goes.tokenPass .self
  | tokenAccept => exact Goes.tokenAccept .self
  | tokenResult => exact Goes.tokenResult .self
  | tokenClaim => exact Goes.tokenClaim .self
  | tokenRelease => exact Goes.tokenRelease .self
  | tokenRotateExpiry => exact Goes.tokenRotateExpiry .self
  | tokenAcceptTimeout => exact Goes.tokenAcceptTimeout .self
  | tokenHoldSilence => exact Goes.tokenHoldSilence .self
  | tokenClaimWindowEnd => exact Goes.tokenClaimWindowEnd .self
  | foreignInjectionCheckEnd => exact Goes.foreignInjectionCheckEnd .self
  | foreignInjectionRetry => exact Goes.foreignInjectionRetry .self
  | tokenStarveTimeout => exact Goes.tokenStarveTimeout .self
  | weldTestWindowEnd => exact Goes.weldTestWindowEnd .self
  | mainNegClosureTimeout => exact Goes.mainNegClosureTimeout .self
  | prechargeTimeLimit => exact Goes.prechargeTimeLimit .self
  | openingWeldTest => exact Goes.openingWeldTest .self
  | mainPosOpenStagger => exact Goes.mainPosOpenStagger .self
  | wakeToneEnd => exact Goes.wakeToneEnd .self
  | identFrame => exact Goes.identFrame .self
  | enumTimeout => exact Goes.enumTimeout .self
  | echo => exact Goes.echo .self
  | ack => exact Goes.ack .self
  | dataFrame => exact Goes.dataFrame .self
  | cmuLoadStatus => exact Goes.cmuLoadStatus .self
  | holdResponse => exact Goes.holdResponse .self
  | stepData => exact Goes.stepData .self
  | urgent => exact Goes.urgent .self
  | breakTriple => exact Goes.breakTriple .self
  | portLockLoss => exact Goes.portLockLoss .self
  | symbolGapTimeout => exact Goes.symbolGapTimeout .self
  | ringStartTimeout => exact Goes.ringStartTimeout .self
  | renewalTimeout => exact Goes.renewalTimeout .self
  | renewalRetry => exact Goes.renewalRetry .self
  | cellDataLostOpen => exact Goes.cellDataLostOpen .self
  | renewRing => exact Goes.renewRing .self
  | stepLocalDetect => exact Goes.stepLocalDetect .self
  | restSampleTime => exact Goes.restSampleTime .self
  | capacityLearningEvent => exact Goes.capacityLearningEvent .self
  | learnedStateWrite => exact Goes.learnedStateWrite .self
  | impRecordWrite => exact Goes.impRecordWrite .self
  | throttleRecoverExpiry => exact Goes.throttleRecoverExpiry .self
  | localSensorSample => exact Goes.localSensorSample .self
  | junctionSample => exact Goes.junctionSample .self
  | pwmOvercurrentOff => exact Goes.pwmOvercurrentOff .self
  | pwmRestart => exact Goes.pwmRestart .self
  | leaseExpiry => exact Goes.leaseExpiry .self
  | rampDownWaitEnd => exact Goes.rampDownWaitEnd .self
  | envelopeAck => exact Goes.envelopeAck .self
  | restWindowStart => exact Goes.restWindowStart .self
  | restWindowEnd => exact Goes.restWindowEnd .self
  | restRetryExpiry => exact Goes.restRetryExpiry .self
  | safetyInputSample => exact Goes.safetyInputSample .self
  | testPulseStart => exact Goes.testPulseStart .self
  | discrepancyGridTick => exact Goes.discrepancyGridTick .self
  | chargeBlockTimeout => exact Goes.chargeBlockTimeout .self
  | xtripInAssert => exact Goes.xtripInAssert .self
  | xtripInRelease => exact Goes.xtripInRelease .self
  | xtripConfirmTimeout => exact Goes.xtripConfirmTimeout .self
  | xtripOutHoldEnd => exact Goes.xtripOutHoldEnd .self
  | offPulseTest => exact Goes.offPulseTest .self
  | offPulseEnd => exact Goes.offPulseEnd .self
  | tripSwitchTest => exact Goes.tripSwitchTest .self
  | tripContinuityTimeout => exact Goes.tripContinuityTimeout .self
  | tripPulseEnd => exact Goes.tripPulseEnd .self
  | tripPulseRepeat => exact Goes.tripPulseRepeat .self
  | coilShortCircuit => exact Goes.coilShortCircuit .self
  | safeObjectWrite => exact Goes.safeObjectWrite .self
  | proofTestDueExpiry => exact Goes.proofTestDueExpiry .self
  | helloSend => exact Goes.helloSend .self
  | twinHello => exact Goes.twinHello .self
  | pairWaitExpiry => exact Goes.pairWaitExpiry .self
  | lockFrame => exact Goes.lockFrame .self
  | rowInput => exact Goes.rowInput .self
  | cellIndex => exact Goes.cellIndex .self
  | digest => exact Goes.digest .self
  | patternData => exact Goes.patternData .self
  | bye => exact Goes.bye .self
  | joinRequest => exact Goes.joinRequest .self
  | joinSnapshotBegins => exact Goes.joinSnapshotBegins .self
  | joinJoined => exact Goes.joinJoined .self
  | joinCatchUpTimeout => exact Goes.joinCatchUpTimeout .self
  | joinRetry => exact Goes.joinRetry .self
  | claimFrame => exact Goes.claimFrame .self
  | yieldTimeout => exact Goes.yieldTimeout .self
  | syncFrame => exact Goes.syncFrame .self
  | followUp => exact Goes.followUp .self
  | announce => exact Goes.announce .self
  | delayReq => exact Goes.delayReq .self
  | delayResp => exact Goes.delayResp .self
  | pdelayReq => exact Goes.pdelayReq .self
  | pdelayResp => exact Goes.pdelayResp .self
  | transparentClockForward => exact Goes.transparentClockForward .self
  | announceReceiptTimeout => exact Goes.announceReceiptTimeout .self
  | syncReceiptTimeout => exact Goes.syncReceiptTimeout .self
  | syncIntervalSend => exact Goes.syncIntervalSend .self
  | announceIntervalSend => exact Goes.announceIntervalSend .self
  | incrementHi => exact Goes.incrementHi .self
  | timeShort => exact Goes.timeShort .self
  | qentry => exact Goes.qentry .self
  | qstatus => exact Goes.qstatus .self
  | canFrameReceive => exact Goes.canFrameReceive .self
  | canReassemblyTimeout => exact Goes.canReassemblyTimeout .self
  | fireTimeout => exact Goes.fireTimeout .self
  | fireLeaseRenew => exact Goes.fireLeaseRenew .self
  | canTxSelect => exact Goes.canTxSelect .self
  | canTxComplete => exact Goes.canTxComplete .self
  | canArbitrationLost => exact Goes.canArbitrationLost .self
  | canBusError => exact Goes.canBusError .self
  | busOffRecoveryComplete => exact Goes.busOffRecoveryComplete .self
  | canTransceiverFault => exact Goes.canTransceiverFault .self
  | can2Rxack => exact Goes.can2Rxack .self
  | canTxRequest => exact Goes.canTxRequest .self
  | canTxCancel => exact Goes.canTxCancel .self
  | canTxReplace => exact Goes.canTxReplace .self
  | can2Txfin => exact Goes.can2Txfin .self
  | can2Alert => exact Goes.can2Alert .self
  | arpRequest => exact Goes.arpRequest .self
  | icmpEcho => exact Goes.icmpEcho .self
  | ipReassemblyTimeout => exact Goes.ipReassemblyTimeout .self
  | hello => exact Goes.hello .self
  | openRequest => exact Goes.openRequest .self
  | proof => exact Goes.proof .self
  | closeRequest => exact Goes.closeRequest .self
  | keepalive => exact Goes.keepalive .self
  | commit => exact Goes.commit .self
  | commitApply => exact Goes.commitApply .self
  | discard => exact Goes.discard .self
  | logRead => exact Goes.logRead .self
  | telemetry => exact Goes.telemetry .self
  | stepAnnounce => exact Goes.stepAnnounce .self
  | rawSend => exact Goes.rawSend .self
  | keySet => exact Goes.keySet .self
  | loadBegin => exact Goes.loadBegin .self
  | loadData => exact Goes.loadData .self
  | loadDataProgrammed => exact Goes.loadDataProgrammed .self
  | loadEnd => exact Goes.loadEnd .self
  | loadIdleTimeout => exact Goes.loadIdleTimeout .self
  | sessionIdleTimeout => exact Goes.sessionIdleTimeout .self
  | pendingOpenExpiry => exact Goes.pendingOpenExpiry .self
  | lockoutExpiry => exact Goes.lockoutExpiry .self
  | mbPost => exact Goes.mbPost .self
  | mbDone => exact Goes.mbDone .self
  | mbReset => exact Goes.mbReset .self
  | mbAlert => exact Goes.mbAlert .self
  | hostWindowWrite => exact Goes.hostWindowWrite .self
  | converterWord0Read => exact Goes.converterWord0Read .self
  | ceCtrlLoadInit => exact Goes.ceCtrlLoadInit .self
  | ceHighWordCommit => exact Goes.ceHighWordCommit .self
  | ceLowWordRead => exact Goes.ceLowWordRead .self
  | data8 => exact Goes.data8 .self
  | data32 => exact Goes.data32 .self
  | alive => exact Goes.alive .self
  | aliveCfgForget => exact Goes.aliveCfgForget .self
  | sfpInsertion => exact Goes.sfpInsertion .self
  | sfpRemoval => exact Goes.sfpRemoval .self
  | sfpOvercurrent => exact Goes.sfpOvercurrent .self
  | linkDown => exact Goes.linkDown .self
  | journalWriteComplete => exact Goes.journalWriteComplete .self
  | recoveryIdentSend => exact Goes.recoveryIdentSend .self
  | probe => exact Goes.probe .self
  | recoveryBegin => exact Goes.recoveryBegin .self
  | recoveryData => exact Goes.recoveryData .self
  | recoveryEnd => exact Goes.recoveryEnd .self
  | boot => exact Goes.boot .self
  | recoveryLog => exact Goes.recoveryLog .self
  | sfpLinkUp => exact Goes.sfpLinkUp .self
  | auxUndervoltageTimeout => exact Goes.auxUndervoltageTimeout .self
  | lifetimeCounterWrite => exact Goes.lifetimeCounterWrite .self
  | frequencyRecordWrite => exact Goes.frequencyRecordWrite .self
  | operatingHourTick => exact Goes.operatingHourTick .self
  | converterWord1Read => exact Goes.converterWord1Read .self
  | timeShadowRead => exact Goes.timeShadowRead .self
  | ceHighWordRead => exact Goes.ceHighWordRead .self
  | ipv4Fragment => exact Goes.ipv4Fragment .self
  | eventLogWriteComplete => exact Goes.eventLogWriteComplete .self
  | delayReqSend => exact Goes.delayReqSend .self

theorem Moves.pending_eq {s t : State} (h : Moves Part.inner s t) : t.pending = s.pending :=
  h .pending (by decide)

theorem Moves.out_prefix {s t : State} (h : Moves Part.inner s t) : s.out <+: t.out :=
  h .out (by decide)

/-- Settles O55: every command's arm ends in a next state, within the parts of `Part.inner`. -/
theorem everyCommandCompletes : Obligations.EveryCommandCompletes := by
  unfold Obligations.EveryCommandCompletes
  intro c s
  obtain ⟨t, e, h⟩ := exec_goes c s
  exact ⟨t, e, h.pending_eq, h.out_prefix⟩

end Sys2Proof.Machine
end

section
/-! The claim gate at an output commit (R390, R391): it opens only for a unit whose own word exceeds the twin's, so the gates
of a pair never open together. -/

namespace Sys2Proof.Machine

-- One theorem after another: each thread of the checker takes 256 MB of stack.
set_option Elab.async false

section
variable {s t u : State}

/-! ### Plant time runs on -/

@[simp] theorem Timebase.ticks_running (b : Timebase) (k : Nat) : (b.ticks k).running = b.running := by
  cases b
  rfl

@[simp] theorem State.runTo_running (n : Nat) : (s.runTo n).tb.running = s.tb.running := by
  unfold State.runTo
  split
  · rw [State.modTb_tb, Timebase.ticks_running]
  · rfl

/-- The control processor's reach over rows stands on what a change of plant time leaves. -/
@[simp] theorem State.inRow_rowAt (n : Nat) : (s.rowAt n).inRow = s.inRow := by
  simp [State.rowAt, State.inRow, State.rowsRun, State.coreUp]

/-! ### What leaves the gate as it is -/

/-- Coils that are commanded off change the table of coils alone. -/
theorem State.coilsOff_os (l : List Nat) :
    (l.foldl State.coilOff s).os = { s.os with coils := (l.foldl State.coilOff s).os.coils } := by
  induction l generalizing s with
  | nil => rfl
  | cons n l ih => exact ih

theorem State.dropCoils_os : s.dropCoils.os = { s.os with coils := s.dropCoils.os.coils } := by
  unfold State.dropCoils
  extract_lets t v
  have ht : t.os = { s.os with coils := t.os.coils } := State.coilsOff_os _
  split
  · split
    · have hj : Moves [.nv] v v.journalEnergy := Moves.self.journalEnergy (by decide)
      rw [hj .os (by decide)]
      exact ht
    · exact ht
  · split
    · exact ht
    · exact ht

@[simp] theorem State.coilsOff_gate (l : List Nat) : (l.foldl State.coilOff s).os.gate = s.os.gate := by
  rw [State.coilsOff_os]

@[simp] theorem State.dropCoils_gate : s.dropCoils.os.gate = s.os.gate := by
  rw [State.dropCoils_os]

theorem State.safeOff_os : s.safeOff.os = { s.os with coils := s.safeOff.os.coils } := by
  unfold State.safeOff
  split
  · exact State.coilsOff_os _
  · exact State.dropCoils_os

@[simp] theorem State.safeOff_gate : s.safeOff.os.gate = s.os.gate := by
  rw [State.safeOff_os]

@[simp] theorem State.startPulse_gate : s.startPulse.os.gate = s.os.gate := by
  unfold State.startPulse
  split
  · rfl
  · split <;> rfl

@[simp] theorem State.takeCommands_gate : s.takeCommands.os.gate = s.os.gate := by
  unfold State.takeCommands
  dsimp only
  rw [State.startPulse_gate]
  split <;> rfl

/-- A fold of updates that each change the table of coils alone. -/
theorem foldl_coils {α : Type} {f : State → α → State} (h : ∀ u x, (f u x).os = { u.os with coils := (f u x).os.coils })
    (l : List α) : (l.foldl f s).os = { s.os with coils := (l.foldl f s).os.coils } := by
  induction l generalizing s with
  | nil => rfl
  | cons x l ih =>
    rw [List.foldl_cons, ih, h]

/-- A claim taken over drives coils and leaves all else of the output stages (R393). -/
theorem State.takeClaim_os (kind : Nat) : (s.takeClaim kind).os = { s.os with coils := (s.takeClaim kind).os.coils } := by
  unfold State.takeClaim
  extract_lets t drive v ago w z
  have hd : ∀ u n, (drive u n).os = { u.os with coils := (drive u n).os.coils } := by
    intro u n
    unfold drive
    split
    · rfl
    · rfl
  have hv : v.os = { s.os with coils := v.os.coils } := foldl_coils hd _
  have hw : w.os = v.os := by
    unfold w
    split
    · rfl
    · rfl
  have hz : Moves [.fm, .pm, .ty] w z := Moves.self.raiseEvent (by decide) _ _
  have ho : Moves [.fm, .pm, .ty] w (if kind == 3 then z.goSolo
      else if kind == 2 && (s.ty.state == .observer || s.ty.state == .joining) then z.goSolo else z) :=
    .ite hz.goSolo (.ite hz.goSolo hz)
  rw [ho .os (by decide), hw]
  exact hv

@[simp] theorem State.takeClaim_gate (kind : Nat) : (s.takeClaim kind).os.gate = s.os.gate := by
  rw [State.takeClaim_os]

/-- What the unit's word drives is the gate and, through it, the coils (R390). -/
theorem State.driveWord_os (word : Nat) (driving : Bool) : (s.driveWord word driving).os =
    { s.os with gate := s.gateAt word driving, coils := (s.driveWord word driving).os.coils } := by
  unfold State.driveWord
  extract_lets open' t
  split
  · rw [State.takeClaim_os]
    rfl
  · split
    · rw [State.safeOff_os]
      rfl
    · rfl

/-! ### What opens it -/

theorem State.gateAt_lt {word : Nat} {driving : Bool} (h : s.gateAt word driving = true) :
    wordValue s.ty.wordTwin < wordValue s.ty.wordOwn ∧ wordValue s.ty.wordTwin < wordValue word := by
  simp only [State.gateAt, Bool.and_eq_true, decide_eq_true_eq] at h
  exact h.1.1

@[simp] theorem State.driveWord_gate (word : Nat) (driving : Bool) :
    (s.driveWord word driving).os.gate = s.gateAt word driving := by
  rw [State.driveWord_os]

theorem Twin.traffic.words {a b : Twin} (h : a.traffic b) : b.wordTwin = a.wordTwin ∧ b.wordOwn = a.wordOwn := by
  rw [h]
  exact ⟨rfl, rfl⟩

/-- The words of the claim pair before the row's outputs are driven. -/
theorem State.pinCheck_words (driving : Bool) :
    (s.pinCheck driving).ty.wordTwin = s.ty.wordTwin ∧ (s.pinCheck driving).ty.wordOwn = s.ty.wordOwn := by
  unfold State.pinCheck
  split
  · simp
  · split
    · have h := State.raiseCond_moves (s.modTy fun y => { y with drivingNoClaim := true }) 0x0F0B 0xFFFF .ty (by decide)
      obtain ⟨htwin, hown⟩ := Twin.traffic.words h
      exact ⟨htwin, hown⟩
    · exact ⟨rfl, rfl⟩

/-- What a row's outputs come to, once its commit is neither late for a yield nor a reset. -/
def State.committed (s : State) (c : CommitInp) : State :=
  let driving := c.twinDriving && s.sharedCoil
  let t := ((s.modSi fun i => { i with rowLoss := false }).commitOutputs c).pinCheck driving
  let word := t.rowWord (c.late || c.mismatch)
  ((((((t.driveWord word driving).takeCommands).healthRow word).claimPairCheck c.readbackOk).sendDigest).sendSegment)

/-- The state at the instant of a row's output commit, 55 us into the row. -/
def State.atCommit (s : State) : State := (s.rowAt 55000).modRows fun r => { r with committed := true }

theorem execOutputCommit_eq (c : CommitInp) (hr : s.inRow = true) (hc : s.rows.committed = false)
    (hy : s.ty.yielding = 0) : execOutputCommit c s =
      .next (if s.pm.softDue = 1 ∨ s.pm.softDue = 2 then (s.atCommit).softReset else (s.atCommit).committed c) := by
  have hi : s.atCommit.inRow = true := by
    rw [← hr, ← State.inRow_rowAt (s := s) 55000]
    rfl
  have hy' : s.atCommit.ty.yielding = 0 := by simpa [State.atCommit, State.rowAt] using hy
  have hp : s.atCommit.pm = s.pm := by simp [State.atCommit, State.rowAt]
  unfold execOutputCommit
  rw [if_neg (by simp [hr, hc])]
  congr 1
  extract_lets s0 s1 driving s2 word
  have e1 : s1 = s.atCommit := if_neg (by simp [show s0.ty.yielding = 0 from hy'])
  have e2 : (((((s2.driveWord word driving).takeCommands).healthRow word).claimPairCheck c.readbackOk).sendDigest).sendSegment =
      s1.committed c := rfl
  rw [e2]
  clear_value s1
  subst e1
  simp only [hi, hp, hy', Bool.not_true, Bool.false_eq_true, if_false, beq_self_eq_true, Bool.and_true, Bool.or_eq_true,
    beq_iff_eq]

theorem State.committed_gate {c : CommitInp} (h : (s.committed c).os.gate = true) :
    wordValue s.ty.wordTwin < wordValue s.ty.wordOwn := by
  unfold State.committed at h
  extract_lets driving t word at h
  have ho : Moves [.fm, .ty] (t.driveWord word driving).takeCommands
      ((((((t.driveWord word driving).takeCommands).healthRow word).claimPairCheck c.readbackOk).sendDigest).sendSegment) :=
    Moves.self.healthRow.claimPairCheck.sendDigest.sendSegment
  rw [ho .os (by decide), State.takeCommands_gate, State.driveWord_gate] at h
  have hm : Moves [.fm, .rows, .pm, .pc, .de, .si, .os, .nv] s
      ((s.modSi fun i => { i with rowLoss := false }).commitOutputs c) := (Moves.self.modSi (by decide) _).commitOutputs
  have hw := State.pinCheck_words (s := (s.modSi fun i => { i with rowLoss := false }).commitOutputs c) driving
  have hk := Twin.traffic.words (hm .ty (by decide))
  have := (State.gateAt_lt h).1
  rwa [hw.1, hw.2, hk.1, hk.2] at this

theorem State.softReset_gate (h : s.pm.softDue = 1 ∨ s.pm.softDue = 2) : s.softReset.os.gate = false := by
  unfold State.softReset
  rw [if_neg (by simpa [Classical.or_iff_not_imp_left] using h)]
  obtain ⟨_, _, _, _, _, _, _, _, _, _, _, hos, _⟩ :=
    Cleared.resetTo ((s.liveAnswers.modPm fun p => { p with recoveryWanted := p.recoveryWanted || p.softDue == 2 }).sayBye 1) 5 false
  rw [hos]

theorem outputCommit_gate {c : CommitInp} (hr : s.inRow = true) (hc : s.rows.committed = false)
    (hy : s.ty.yielding = 0) (e : exec (.outputCommit c) s = .next t) (h : t.os.gate = true) :
    wordValue s.ty.wordTwin < wordValue s.ty.wordOwn := by
  have e : execOutputCommit c s = .next t := e
  rw [execOutputCommit_eq c hr hc hy] at e
  have hp : s.atCommit.pm = s.pm := by simp [State.atCommit, State.rowAt]
  have ht : s.atCommit.ty.wordTwin = s.ty.wordTwin ∧ s.atCommit.ty.wordOwn = s.ty.wordOwn :=
    Twin.traffic.words ((Moves.self.rowAt.modRows (by decide) _ : Moves [.tb, .rows] s s.atCommit) .ty (by decide))
  split at e
  next hs =>
    cases e
    rw [State.softReset_gate (by rwa [hp])] at h
    cases h
  · cases e
    have := State.committed_gate h
    rwa [ht.1, ht.2] at this

/-- Settles O60: an open gate means that the own word of the commit before exceeds the twin's. -/
theorem gatesNeverBoth : Obligations.GatesNeverBoth := by
  unfold Obligations.GatesNeverBoth
  intro a b ta tb c d ha hb hca hcb hya hyb hab hba ea eb ⟨ga, gb⟩
  have h1 := outputCommit_gate ha hca hya ea ga
  have h2 := outputCommit_gate hb hcb hyb eb gb
  rw [hab] at h1
  rw [hba] at h2
  exact absurd h1 (Nat.lt_asymm h2)

end
end Sys2Proof.Machine
end

section
/-! The queue of commands and the state after reset (spec/00, assumption 2). -/

namespace Sys2Proof.Machine

-- One theorem after another: each thread of the checker takes 256 MB of stack.
set_option Elab.async false

/-! ### Time stamps -/

theorem stampNs_stampAt (epoch n : Nat) : stampNs (stampAt epoch n) = n := by
  simp only [stampNs, stampAt]
  omega

theorem stampAt_epoch (epoch n : Nat) : (stampAt epoch n).epoch = epoch := rfl

theorem stampAt_ns_lt (epoch n : Nat) : (stampAt epoch n).ns < 1000000000 := Nat.mod_lt _ (by decide)

/-- Ticks move plant time by as many increments, exactly (R409). -/
theorem Timebase.fine_ticks (b : Timebase) (k : Nat) : (b.ticks k).fine = b.fine + k * b.incr.toNat := by
  simp only [Timebase.ticks, Timebase.fine, stampNs_stampAt]
  omega

theorem Timebase.ticks_frac_lt (b : Timebase) (k : Nat) : (b.ticks k).frac < 2 ^ 32 := Nat.mod_lt _ (by decide)

theorem Timebase.ticks_eq (b : Timebase) (k : Nat) :
    b.ticks k = { b with now := (b.ticks k).now, frac := (b.ticks k).frac } := by
  cases b
  rfl

theorem Timebase.ticks_now (b : Timebase) (k : Nat) :
    (b.ticks k).now = stampAt b.now.epoch ((b.fine + k * b.incr.toNat) / 2 ^ 32) := by
  cases b
  rfl

theorem Timebase.ticks_epoch (b : Timebase) (k : Nat) : (b.ticks k).now.epoch = b.now.epoch := by
  rw [Timebase.ticks_now, stampAt_epoch]

/-- Settles O51, by the front of the queue. -/
theorem stepTakesFront : Obligations.StepTakesFront := by
  unfold Obligations.StepTakesFront
  refine ⟨fun s c rest h => ?_, fun s h hr => ?_, fun s h hr _ _ => ?_, fun s n w => ⟨rfl, rfl⟩⟩
  · unfold step
    rw [h]
  · unfold step
    rw [h]
    exact congrArg _ (if_neg (by simp [hr]))
  · have e : step s = .next (s.modTb fun b => b.ticks 1) := by
      unfold step
      rw [h]
      exact congrArg _ (if_pos hr)
    have hf := s.tb.fine_ticks 1
    refine ⟨_, e, ?_⟩
    rw [State.modTb_tb]
    refine ⟨s.tb.ticks_epoch 1, stampAt_ns_lt _ _, s.tb.ticks_frac_lt 1, ?_, s.tb.ticks_eq 1, Alters.modTb (.refl _ _) (by decide) _⟩
    rw [Nat.one_mul] at hf
    exact hf

/-- Settles O52. -/
theorem resetState : Obligations.ResetState := by
  unfold Obligations.ResetState
  refine ⟨rfl, rfl, rfl, rfl, rfl, ?_, rfl, rfl, rfl, rfl, rfl, rfl, rfl, rfl, rfl, fun _ _ => rfl, fun _ => rfl⟩
  intro n _
  rfl

/-- Settles O53. -/
theorem resetInv : Obligations.ResetInv := by
  unfold Obligations.ResetInv
  exact ⟨rfl, ⟨by decide, by decide, by decide⟩, rfl, rfl, rfl, by decide⟩

end Sys2Proof.Machine
end

section
/-! How the effect of a command is stated: the state it ends in, faults raised within a frame, what leaves a port, and
accepted requests that act at once, wait or are refused. -/

namespace Sys2Proof.Machine

-- One theorem after another: each thread of the checker takes 256 MB of stack.
set_option Elab.async false

section
variable {s t u : State}

/-- A command that ends in a state of which the claim holds. -/
theorem exists_next {o : Host.Outcome State Fault Refusal} {P : State → Prop} (e : o = .next t) (h : P t) :
    ∃ t, o = .next t ∧ P t := ⟨t, e, h⟩

/-- A command that acts where its guard holds. -/
theorem next_of_pos {c : Prop} [Decidable c] (h : c) :
    (Host.Outcome.next (if c then t else u) : Host.Outcome State Fault Refusal) = .next t := congrArg _ (if_pos h)

/-! ### Faults within a frame -/

/-- A fault enters the fault manager as it does before a frame that leaves fault manager, time, pair and safety alone. -/
theorem Moves.eventFm {ps : List Part} (h : Moves ps s t) (hp : ∀ p ∈ [Part.fm, .tb, .ty, .si], p ∉ ps) (code item : Nat) :
    t.eventFm code item = s.eventFm code item := by
  have hf : t.fm = s.fm := h .fm (hp _ (by decide))
  have hb : t.tb = s.tb := h .tb (hp _ (by decide))
  rw [State.eventFm, State.eventFm, hf, hb, h.inPair (hp _ (by decide)) (hp _ (by decide))]

theorem Moves.condFm {ps : List Part} (h : Moves ps s t) (hp : ∀ p ∈ [Part.fm, .tb, .ty, .si], p ∉ ps) (code item : Nat) :
    t.condFm code item = s.condFm code item := by
  have hf : t.fm = s.fm := h .fm (hp _ (by decide))
  have hb : t.tb = s.tb := h .tb (hp _ (by decide))
  rw [State.condFm, State.condFm, hf, hb, h.inPair (hp _ (by decide)) (hp _ (by decide))]

theorem State.emit_mem (o : Out) : o ∈ (s.emit o).out := List.mem_append_right _ (List.mem_singleton.2 rfl)

/-! ### Requests -/

section Requests
variable {r : Req} {index sub : Nat} {value : Bytes} {role : Nat → Bool} {x : Session} {cmd : Instr}

/-- A record of a short write always finds its place in the row (R377). -/
theorem State.notAgreed_of_short {c : CmdRecord} (h : c.value.length ≤ 142) (ho : c.offset = 0) : s.notAgreed r (recordSize c) = false := by
  have : ¬ 152 < recordSize c := by
    simp only [recordSize, ho, beq_self_eq_true, if_true]
    omega
  simp [State.notAgreed, this]

/-- An accepted LIVE write that its check refuses is answered at once. -/
theorem State.liveReq_refused (unit : Bool) (act : State → Session → Answer) (hl : value.length ≤ 142)
    (h : Accepted s r 0x11 (writePayload r index sub 0 value) 8 role x)
    (ha : ∀ s1, Moves [] s s1 → (act s1 x).2.1 ≠ 0) :
    ∃ s1, Moves [] s s1 ∧ Moves [] (act s1 x).1 (s.liveReq r unit index sub value role cmd act) ∧
      Answered (s.liveReq r unit index sub value role cmd act) r 0x11 (act s1 x).2.1 (act s1 x).2.2 := by
  obtain ⟨s1, he, hm⟩ := State.enter_accepted unit h
  have e : s.liveReq r unit index sub value role cmd act =
      (act s1 x).1.finish r unit x 0x11 (act s1 x).2.1 (act s1 x).2.2 := by
    unfold State.liveReq
    rw [he]
    dsimp only
    rw [State.notAgreed_of_short hl rfl, Bool.and_false, if_neg Bool.false_ne_true, if_pos (by simpa using ha s1 hm)]
  rw [e]
  exact ⟨s1, hm, State.finish_moves _ _ _ _ _ _ _, State.finish_answered _ _ _ _ _ _ _⟩

end Requests

end
end Sys2Proof.Machine
end

section
/-! Cast-on, sag pauses and power fail (R87 to R104). -/

namespace Sys2Proof.Machine

-- One theorem after another: each thread of the checker takes 256 MB of stack.
set_option Elab.async false

section
variable {s t u : State}

/-! ### Steps of the cast-on -/

theorem State.beginStep_eq {k : Nat} (hp : s.pm.sagPaused = false) (hk : k ≠ 6) :
    s.beginStep k = s.modPm fun p => { p with step := k, stepWait := 0 } := by
  simp [State.beginStep, hp, hk]

/-- What the end of step 1 takes of the measurement, before step 2 begins. -/
def State.taken1 (s : State) (c : CastOnInp) : State :=
  let t := (s.modPm fun p => { p with capUf := c.capUf, vholdMv := c.vholdMv }).modTy fun y => { y with sideB := c.sideB }
  if c.capUf < 600 then t.raiseCond 0x0202 else t

/-- What a reset of a start of a kind of its own leaves (R87). -/
theorem auxPowerRise_clause (long : Bool) (hs : s.pm.state = .off) (hr : s.pm.holdRelay = true)
    (hw : s.pm.wakeWait = false) (hd : s.pm.disconnected = false) :
    execAuxPowerRise long s = .next (s.resetTo 1 long) := by
  simp [execAuxPowerRise, hs, hr, hw, hd]

/-- Settles O1. -/
theorem castOnCommands : Obligations.CastOnCommands := by
  unfold Obligations.CastOnCommands
  refine ⟨fun s long hs hr hw hd => ?_, fun s hs hp => ?_, fun s c hs h1 hw hp hr => ?_, fun s c hs h3 hw hp hr hf => ?_,
    fun s cap hs h1 hw hp => ?_, fun s h9 => ?_⟩
  · obtain ⟨hkind, hlong, hstate, hslot, -, hsource, -⟩ := s.resetTo_pm 1 long
    exact exists_next (auxPowerRise_clause long hs hr hw hd)
      ⟨Cleared.resetTo s 1 long, hstate, hkind, hlong, hsource, hslot, State.resetTo_pending s 1 long,
        by rw [State.resetTo_out]⟩
  · refine exists_next (t := s.modPm fun p => { p with state := .castOn, step := 1, stepWait := 0 }) ?_
      ⟨rfl, (Alters.refl _ _).modPm (by decide) _⟩
    show execStartSlotExpiry s = _
    simp [execStartSlotExpiry, hs, State.beginStep, hp]
    rfl
  · refine exists_next (t := s.step1End c) ?_ ?_
    · show execCastOnStepEnd 1 c s = _
      simp [execCastOnStepEnd, State.castingOn, hs, h1, hw, hr]
    · have hb : s.step1End c = ((s.taken1 c).modPm fun p => { p with step := 2, stepWait := 0 }) :=
        State.beginStep_eq (by simp [hp, apply_ite State.pm]) (by decide)
      rw [hb]
      by_cases hc : c.capUf < 600
      · rw [State.taken1, if_pos hc]
        exact ⟨by simp, State.raiseCond_moves _ 0x0202 0xFFFF .ty (by decide), by simp [hc]; rfl,
          (((Moves.self.modPm (by decide) _).modTy (by decide) _).raiseCond (by decide) _ _).modPm (by decide) _⟩
      · rw [State.taken1, if_neg hc]
        exact ⟨by simp, rfl, by simp [hc], ((Moves.self.modPm (by decide) _).modTy (by decide) _).modPm (by decide) _⟩
  · refine exists_next (t := ((s.modPm fun p => { p with hvRelays := true }).raiseCond c.fault).modPm fun p =>
      { p with step := 4, stepWait := 0 }) ?_ ⟨by simp, by simp,
        ((Moves.self.modPm (by decide) _).raiseCond (by decide) _ _).modPm (by decide) _⟩
    show execCastOnStepEnd 3 c s = _
    simp [execCastOnStepEnd, State.castingOn, hs, h3, hw, hr, State.step3End, hf, State.beginStep, hp]
  · refine exists_next (t := ((s.modPm fun p => { p with capUf := cap }).raiseCond 0x0202).modPm fun p =>
      { p with step := 2, stepWait := 0 }) ?_ ⟨by simp, by simp,
        ((Moves.self.modPm (by decide) _).raiseCond (by decide) _ _).modPm (by decide) _⟩
    have hc : s.castingOn = true := by simpa [State.castingOn] using hs
    show execHoldupChargeTimeout cap s = _
    simp [execHoldupChargeTimeout, hc, h1, hw, State.beginStep, hp]
  · refine exists_next (t := s.modPm fun p => { p with startOpen := false }) (by exact congrArg _ (if_pos (by simp [h9])))
      ⟨rfl, (Alters.refl _ _).modPm (by decide) _⟩

/-! ### Sag pauses -/

/-- A sag pause that begins (R96). -/
def State.sagBegun (s : State) : State :=
  (s.modPm fun p => { p with
    sagPaused := true, resumeTimer := false, sagTotal := p.sagTotal + 1
    sagThisStart := min 255 (if s.inStart then s.pm.sagThisStart + 1 else s.pm.sagThisStart) }).raiseEvent 0x0204

theorem execSagPauseBegin_of_paused (hp : s.powered = true) (hs : s.pm.sagPaused = true) :
    execSagPauseBegin s = .next (s.modPm fun p => { p with resumeTimer := false }) := by
  simp [execSagPauseBegin, hp, hs]

theorem execSagPauseBegin_of_running (hp : s.powered = true) (hs : s.pm.sagPaused = false) :
    execSagPauseBegin s = .next (if s.inStart = true ∧ s.pm.sagThisStart = 9 then
      (s.sagBegun.raiseCond 0x0203).modPm fun p => { p with queue := [], closingRefused := true }
    else s.sagBegun) := by
  unfold execSagPauseBegin State.sagBegun
  by_cases hi : s.inStart = true
  · simp [hp, hs, hi]
  · simp [hp, hs, hi]

theorem State.cagesBack_of_on (h1 : s.en.p1.cageBack = false) (h2 : s.en.p2.cageBack = false) : s.cagesBack = s := by
  simp [State.cagesBack, State.sfp, h1, h2]

theorem Alters.runPast {ps : List Part} (h : Alters ps s u) (hp : [.tb] ⊆ ps) (x : Option Stamp) (n : Nat) :
    Alters ps s (u.runPast x n) := by
  unfold State.runPast
  split
  · exact .ite (h.runTo (hp (by decide)) _) h
  · exact h

@[simp] theorem State.runPast_pm (x : Option Stamp) (n : Nat) : (s.runPast x n).pm = s.pm :=
  (Alters.refl [.tb] s).runPast (by decide) x n .pm (by decide)

@[simp] theorem State.runPast_en (x : Option Stamp) (n : Nat) : (s.runPast x n).en = s.en :=
  (Alters.refl [.tb] s).runPast (by decide) x n .en (by decide)

theorem execSagPauseEnd_of_due (hs : s.pm.sagPaused = true) (hr : s.pm.resumeTimer = true)
    (h1 : s.en.p1.cageBack = false) (h2 : s.en.p2.cageBack = false) :
    execSagPauseEnd s = .next (
      let t := (s.runPast s.pm.resumeFrom 50000000).modPm fun p => { p with sagPaused := false, resumeTimer := false }
      if s.pm.stepWait ≠ 0 then t.beginStep s.pm.stepWait else t) := by
  unfold execSagPauseEnd
  rw [if_pos (by simp [hs, hr]), State.cagesBack_of_on (by simp [h1]) (by simp [h2])]
  simp

/-- Settles O2. -/
theorem sagCommands : Obligations.SagCommands := by
  unfold Obligations.SagCommands
  refine ⟨fun s hp hs h9 => ?_, fun s hp hs hi h9 => ?_, fun s hs => ?_, fun s hp hs => ?_, fun s hs hr h6 h1 h2 => ?_,
    fun s hc => ?_⟩
  · refine exists_next ((execSagPauseBegin_of_running hp hs).trans (congrArg _ (if_neg h9))) ⟨?_, ?_, ?_⟩
    · simp [State.sagBegun]
    · simp [State.sagBegun]
    · exact (Moves.self.modPm (by decide) _).raiseEvent (by decide) _ _
  · refine exists_next ((execSagPauseBegin_of_running hp hs).trans (congrArg _ (if_pos ⟨hi, h9⟩))) ⟨?_, ?_, ?_⟩
    · simp [State.sagBegun, hi, h9]
    · simp [State.sagBegun, State.condFm]
      rfl
    · exact (((Moves.self.modPm (by decide) _).raiseEvent (by decide) _ _).raiseCond (by decide) _ _).modPm (by decide) _
  · exact exists_next (next_of_pos hs) ⟨rfl, (Alters.refl _ _).modPm (by decide) _⟩
  · exact exists_next (execSagPauseBegin_of_paused hp hs) ⟨rfl, (Alters.refl _ _).modPm (by decide) _⟩
  · have he := execSagPauseEnd_of_due hs hr h1 h2
    by_cases hw : s.pm.stepWait = 0
    · rw [if_neg (by simpa using hw)] at he
      exact exists_next he ⟨by simp [hw], rfl, ((Alters.refl _ _).runPast (by decide) _ _).modPm (by decide) _⟩
    · rw [if_pos hw, State.beginStep_eq rfl h6] at he
      exact exists_next he ⟨by simp [hw], rfl,
        (((Alters.refl _ _).runPast (by decide) _ _).modPm (by decide) _).modPm (by decide) _⟩
  · exact exists_next (next_of_pos hc) ⟨by simp, Moves.self.raiseCond (by decide) _ _⟩

/-! ### Power fail -/

/-- A module that rides through a power fail which began while it was off: not a state it comes into, and the statement does
not leave it out. -/
def failedOff : State := { State.reset with pm := { State.reset.pm with state := .powerFail, failFrom := .off } }

/-- Refutes O3: POWER_FAIL_RIDE_THROUGH gives 0x0206 only where the core runs again; back in OFF it does not, and the
statement's second clause asks for the fault in every state that the power fail came from. -/
theorem not_powerFailCommands : ¬ Obligations.PowerFailCommands := by
  unfold Obligations.PowerFailCommands
  rintro ⟨-, h, -⟩
  obtain ⟨t, e, -, hf, -⟩ := h failedOff rfl rfl (by decide) rfl rfl rfl
  have ht : t.fm = {} := by
    cases e
    rfl
  rw [ht] at hf
  have hp : (failedOff.eventFm 0x0206 0xFFFF).pending ≠ [] := by decide
  exact hp (congrArg FaultMgr.pending hf).symm

end
end Sys2Proof.Machine
end

section
/-! Resets and the transport hold (R105 to R117). -/

namespace Sys2Proof.Machine

-- One theorem after another: each thread of the checker takes 256 MB of stack.
set_option Elab.async false

section
variable {s t u : State}

/-! ### What a reset leaves -/

theorem State.resetTo_failFrom {kind : Nat} (long : Bool) (h : kind ∉ [1, 2, 6]) :
    (s.resetTo kind long).pm.failFrom = .castOn := by
  obtain ⟨h1, h2, h6⟩ : kind ≠ 1 ∧ kind ≠ 2 ∧ kind ≠ 6 := by simpa using h
  unfold State.resetTo
  simp only [beq_eq_false_iff_ne.2 h1, beq_eq_false_iff_ne.2 h2, beq_eq_false_iff_ne.2 h6, Bool.or_self, Bool.false_eq_true,
    if_false]
  unfold State.beginStep
  split <;> rfl

/-- BYE leaves for a twin that is paired, before the RAM is cleared (R368). -/
theorem State.sayBye_out {reason : Nat} (h : s.ty.paired = true) : ∃ b, .twin (.bye reason) b ∈ (s.sayBye reason).out := by
  rw [State.sayBye, if_pos h]
  exact ⟨_, List.mem_append_right _ (List.mem_singleton.2 rfl)⟩

@[simp] theorem State.sayBye_pm (reason : Nat) : (s.sayBye reason).pm = s.pm :=
  (Moves.self.sayBye : Moves [] s _) .pm (by decide)

@[simp] theorem State.sayBye_pending (reason : Nat) : (s.sayBye reason).pending = s.pending :=
  (Moves.self.sayBye : Moves [] s _) .pending (by decide)

theorem Alters.yieldStart {ps : List Part} (h : Alters ps s u) (hp : .ty ∈ ps) : Alters ps s u.yieldStart.2 := by
  unfold State.yieldStart
  split
  · exact h.modTy hp _
  · exact h

theorem State.yieldStart_ty :
    s.yieldStart.2.ty = if s.os.gate && s.twinHealthy then { s.ty with yielding := 1 } else s.ty := by
  unfold State.yieldStart
  split <;> simp

@[simp] theorem State.yieldStart_pm : s.yieldStart.2.pm = s.pm := (Alters.refl [.ty] s).yieldStart (by decide) .pm (by decide)

/-- The release of RESET_N is taken (R107). -/
def State.released (s : State) : State := s.modPm fun p => { p with resetLow := false, resetTimer := false }

theorem execResetNReleaseRecognised_of_low (hr : s.pm.resetPin = false) (hi : s.pm.resetIgnored = false)
    (hl : s.pm.resetLow = true) (hs : s.inReset = true) :
    execResetNReleaseRecognised s = .next (s.released.resetTo 3 false) := by
  simp [execResetNReleaseRecognised, State.released, hr, hi, hl, hs]

/-- Settles O4. -/
theorem resetCommands : Obligations.ResetCommands := by
  unfold Obligations.ResetCommands
  refine ⟨fun s low => ?_, fun s hp hr hi hl => ?_, fun s hd ho => ?_, fun s hd ho => ?_, fun s hr hi hl hs ho => ?_,
    fun s hr hi hl hs ho => ?_, fun s hs ho hr => ?_, fun s hi hr => ?_⟩
  · exact exists_next rfl ⟨rfl, (Alters.refl _ _).modPm (by decide) _⟩
  · refine exists_next (next_of_pos (by simp [hp, hr, hi, hl])) ⟨by simp, ?_, ((Alters.refl _ _).modPm (by decide) _).yieldStart (by decide)⟩
    exact State.yieldStart_ty
  · refine exists_next (next_of_pos hd) ⟨(State.clearRam_cleared (s.sayBye 1) .reset).modPm _, ?_, rfl, ?_, fun hp => ?_⟩
    · simp [State.clearRam_pm, ho]
    · simp
    · simpa using State.sayBye_out hp
  · refine exists_next (next_of_pos hd) ⟨(State.clearRam_cleared (s.sayBye 1) .reset).modPm _, ?_, rfl, ?_, ?_⟩
    · simp [State.clearRam_pm, ho]
    · simp [State.clearRam_pm, ho]
    · simp
  · obtain ⟨hkind, -, hstate, -, -, -, -, -, hlow, -⟩ := s.released.resetTo_pm 3 false
    exact exists_next (execResetNReleaseRecognised_of_low hr hi hl hs) 
      ⟨Cleared.resetTo _ _ _, by simpa [State.released, ho] using hstate, hkind, hlow, by simp [State.released]⟩
  · obtain ⟨hkind, -, hstate, -, -, -, -, -, hlow, -⟩ := s.released.resetTo_pm 3 false
    exact exists_next (execResetNReleaseRecognised_of_low hr hi hl hs) 
      ⟨Cleared.resetTo _ _ _, by simpa [State.released, ho] using hstate, State.resetTo_failFrom _ (by decide), hkind,
        by simp [State.released]⟩
  · obtain ⟨hkind, -, hstate, -, -, -, -, -, -, hign, -⟩ := (s.modPm fun p => { p with resetIgnored := true }).resetTo_pm 4 false
    exact exists_next (next_of_pos (by simp [hs, hr]))
      ⟨Cleared.resetTo _ _ _, by simpa [ho] using hstate, hkind, hign, by simp⟩
  · exact exists_next (next_of_pos (by simp [hi, hr])) ⟨rfl, (Alters.refl _ _).modPm (by decide) _⟩

/-! ### Transport hold -/

/-- What the module notes of a wake (R116). -/
def State.woken (s : State) (source : Nat) : State :=
  s.modPm fun p => { p with wakeSource := p.wakeSource ||| source, holdRelay := true }

theorem State.wake_of_aux (hs : s.pm.state = .hold) (source : Nat) (long : Bool) :
    s.wake source true long = (s.woken source).resetTo 6 long := by
  simp [State.wake, State.woken, hs]

theorem State.wake_of_no_aux (hs : s.pm.state = .hold) (source : Nat) (long : Bool) :
    s.wake source false long = (s.woken source).modPm fun p => { p with state := .off, wakeWait := true } := by
  simp [State.wake, State.woken, hs]

theorem State.canWake_of_hold (hs : s.pm.state = .hold) : s.canWake = true := by simp [State.canWake, hs]

/-- A HOLD that times out wakes the CMUs again where this module drives the ring (R113). -/
theorem State.wakeHeld_out (hd : s.cl.driver = true) : .wakeTone ∈ s.wakeHeld.out := by
  unfold State.wakeHeld
  extract_lets t
  rw [if_pos (by exact hd)]
  exact State.emit_mem _

/-- The bind-off that its CMUs did not answer is over (R113). -/
def State.holdAborted (s : State) : State := s.modPm fun p => { p with
  state := if p.onStore then p.state else .ready, failFrom := if p.onStore then .ready else p.failFrom
  readyStamp := if p.onStore then p.readyStamp else s.tb.now, bindStep := 0 }

/-- Settles O5. -/
theorem transportHoldCommands : Obligations.TransportHoldCommands := by
  unfold Obligations.TransportHoldCommands
  refine ⟨fun s n hb hd hh => ?_, fun s hb ho => ?_, fun s hb => ?_, fun s long hs => ?_, fun s long hs => ?_,
    fun s long hs => ?_, fun s long hw hs => ?_⟩
  · have e : execHoldResponse n s = .next (s.modCmu n fun c => { c with held := true }) := by
      have hr : s.repeatFrame (.hold n) = s := if_pos (by simp [hd])
      have hk : (s.modCmu n fun c => { c with held := true }).bindHeld = s.modCmu n fun c => { c with held := true } := by
        refine if_neg ?_
        rw [hh]
        simp [State.modCmu, hd]
      simp [execHoldResponse, hr, hb, hk]
    exact exists_next e ⟨rfl, (Alters.refl _ _).modCl (by decide) _⟩
  · have hv : Moves [.pm] s s.holdAborted := Moves.self.modPm (by decide) _
    have hw : Moves [.cl] s.holdAborted s.holdAborted.wakeHeld := Moves.self.wakeHeld
    have hm : Moves [.pm, .cl] s (s.holdAborted.wakeHeld.modPm fun p => { p with bindReason := 7 }) :=
      (hv.mono (by decide)).wakeHeld.modPm (by decide) _
    refine exists_next (next_of_pos (by simp [hb])) ⟨?_, ?_, fun hd => ?_, ?_⟩
    · have hpm : s.holdAborted.wakeHeld.pm = s.holdAborted.pm := hw .pm (by decide)
      show (s.holdAborted.wakeHeld.bindRefuse 7).pm = _
      rw [State.bindRefuse, State.raiseEvent_pm, State.modPm_pm, hpm]
      simp [State.holdAborted, ho]
    · exact (State.raiseEvent_fm _ _ _).trans (hm.eventFm (by decide) _ _)
    · exact (State.raiseEvent_moves (s.holdAborted.wakeHeld.modPm fun p => { p with bindReason := 7 }) 0x0208 0xFFFF .out (by decide)).subset
        (State.wakeHeld_out (s := s.holdAborted) hd)
    · exact (hv.mono (by decide)).wakeHeld.bindRefuse
  · refine exists_next (next_of_pos (by simpa using hb)) ⟨(State.clearRam_cleared _ .hold).modPm _, ?_⟩
    simp [State.clearRam_pm]
  · obtain ⟨hkind, hlong, hstate, -, -, hsource, -, hrelay, -⟩ := (s.woken 1).resetTo_pm 6 long
    refine exists_next ((next_of_pos (State.canWake_of_hold hs)).trans (congrArg _ (State.wake_of_aux hs 1 long)))
      ⟨Cleared.resetTo _ _ _, hstate, hkind, hrelay, hlong, hsource⟩
  · refine exists_next ((next_of_pos (State.canWake_of_hold hs)).trans (congrArg _ (State.wake_of_no_aux hs 1 long)))
      ⟨rfl, ((Alters.refl _ _).modPm (by decide) _).modPm (by decide) _⟩
  · obtain ⟨hkind, hlong, hstate, -, -, hsource, -, hrelay, -⟩ := (s.woken 2).resetTo_pm 6 long
    refine exists_next ((next_of_pos (State.canWake_of_hold hs)).trans (congrArg _ (State.wake_of_aux hs 2 long)))
      ⟨Cleared.resetTo _ _ _, hstate, hkind, hrelay, hsource⟩
  · obtain ⟨hkind, hlong, hstate, -, hwait, hsource, -⟩ := s.resetTo_pm 6 long
    exact exists_next (next_of_pos (by simp [hw, hs])) ⟨Cleared.resetTo _ _ _, hstate, hkind, hlong, hwait, hsource⟩

end
end Sys2Proof.Machine
end

section
/-! SOFTWARE_RESET, RECOVERY_REQUEST and BIND_OFF (R111 to R113, R549). -/

namespace Sys2Proof.Machine

-- One theorem after another: each thread of the checker takes 256 MB of stack.
set_option Elab.async false

section
variable {s t u : State}

/-! ### What the checks read -/

theorem Moves.anyCoil {ps : List Part} (h : Moves ps s t) (hp : .os ∉ ps) : t.anyCoil = s.anyCoil := by
  have ho : t.os = s.os := h .os hp
  simp only [State.anyCoil, State.coil, ho]

theorem Moves.resetRefused (h : Moves [] s t) : t.resetRefused = s.resetRefused := by
  rw [State.resetRefused, State.resetRefused, h.anyCoil (by decide), h.twinHealthy (by decide) (by decide)]

theorem Moves.bindRefusal (h : Moves [] s t) (low agrees : Bool) : t.bindRefusal low agrees = s.bindRefusal low agrees := by
  have hopen : t.provenOpen = s.provenOpen := by
    have ho : t.os = s.os := h .os (by decide)
    have hc : t.pc = s.pc := h .pc (by decide)
    simp only [State.provenOpen, State.coil, ho, hc]
  have hdead : t.busDead = s.busDead := by
    have hs : t.ss = s.ss := h .ss (by decide)
    rw [State.busDead, State.busDead, State.vBus, State.vBus, hs]
  have hm : t.tm = s.tm := h .tm (by decide)
  have hp : t.pm = s.pm := h .pm (by decide)
  have hpair : t.ty.paired = s.ty.paired := by rw [h.ty (by decide)]
  have hstate : t.ty.state = s.ty.state := by rw [h.ty (by decide)]
  simp only [State.bindRefusal, h.anyCoil (by decide), hopen, hdead, hm, hp, hpair, hstate]

/-! ### What the writes do -/

theorem State.resetAct_of_good {good : Nat} (kind : Nat) (h : s.resetRefused = false) :
    s.resetAct good good kind = (((s.modPm fun p => { p with softDue := kind }).yieldStart).2, 0, []) := by
  unfold State.resetAct
  rw [if_neg (by simp), if_neg (by simp [h])]
  rfl

theorem State.bindAct_of_refused {low agrees : Bool} (hb : s.pm.bindStep = 0) (h : s.bindRefusal low agrees ≠ 0) :
    s.bindAct 1 low agrees = (s.bindRefuse (s.bindRefusal low agrees), 0x0B, []) := by
  unfold State.bindAct
  rw [if_neg (by decide), if_neg (by simp [hb]), if_pos (by simpa using h)]
  rfl

theorem State.bindAct_of_good {low agrees : Bool} (hb : s.pm.bindStep = 0) (h : s.bindRefusal low agrees = 0) :
    s.bindAct 1 low agrees = (s.bindStart, 0, []) := by
  unfold State.bindAct
  rw [if_neg (by decide), if_neg (by simp [hb]), if_neg (by simpa using h)]
  rfl

/-! ### A bind-off runs through its steps -/

/-- The module is in BIND_OFF, past its first step, with no pull-in waiting. -/
def State.BindingOff (s : State) : Prop :=
  s.pm.queue = [] ∧ s.pm.bindReason = 0 ∧ s.pm.state = .bindOff ∧ s.pm.bindStep ≠ 0

theorem State.BindingOff.of_pm (h : s.BindingOff) (e : t.pm = s.pm) : t.BindingOff := by
  rw [State.BindingOff, e]
  exact h

theorem State.BindingOff.bindOpen (h : s.BindingOff) : s.bindOpen.BindingOff := by
  obtain ⟨hq, hr, hs, -⟩ := h
  refine State.BindingOff.of_pm (s := s.modPm fun p => { p with hvRelays := false, holdFlag := true, bindStep := 5 })
    ⟨hq, hr, hs, by simp⟩ ?_
  exact (Moves.self.journal6 (by decide) : Moves [.nv] _ _) .pm (by decide)

theorem State.BindingOff.bindWritten (h : s.BindingOff) : s.bindWritten.BindingOff := by
  obtain ⟨hq, hr, hs, hb⟩ := h
  unfold State.bindWritten
  split
  · extract_lets v off w
    refine State.BindingOff.of_pm (s := s.modPm fun p => { p with bindStep := 6 }) ⟨hq, hr, hs, by simp⟩ ?_
    have hm : Moves [.fm, .cn, .en, .ty, .os, .tm] (s.modPm fun p => { p with bindStep := 6 })
        ((w.sayBye 2).modTm fun m => { m with pwm := m.pwm.map fun (k, x) => (k, { x with duty := 0 }) }) :=
      (((((Moves.self.modOs (by decide) _).modTy (by decide) _).takeMode).takeMode).modEn (by decide) _).sayBye.modTm
        (by decide) _
    exact hm .pm (by decide)
  · exact ⟨hq, hr, hs, hb⟩

theorem State.BindingOff.bindHeld (h : s.BindingOff) : s.bindHeld.BindingOff := by
  unfold State.bindHeld
  split
  · exact h.bindOpen.bindWritten
  · exact h

theorem State.BindingOff.bindFlushed (h : s.BindingOff) : s.bindFlushed.BindingOff := by
  obtain ⟨hq, hr, hs, hb⟩ := h
  unfold State.bindFlushed
  split
  · refine State.BindingOff.bindHeld (State.BindingOff.of_pm (s := s.modPm fun p => { p with bindStep := 3 })
      ⟨hq, hr, hs, by simp⟩ ?_)
    exact (Moves.self.ringSend : Moves [.cl] _ _) .pm (by decide)
  · exact ⟨hq, hr, hs, hb⟩

theorem State.bindStart_bindingOff (h : s.pm.onStore = false) : s.bindStart.BindingOff := by
  unfold State.bindStart
  refine State.BindingOff.bindFlushed (State.BindingOff.of_pm (s := s.modPm fun p => { p with
    state := if p.onStore then p.state else .bindOff, failFrom := if p.onStore then .bindOff else p.failFrom
    bindStep := 2, queue := [], bindReason := 0 }) ⟨rfl, rfl, by simp [h], by simp⟩ ?_)
  exact (Moves.self.flushAll : Moves [.ef, .nv] _ _) .pm (by decide)

/-! ### A reset at the row's output commit -/

theorem softReset_commit {c : CommitInp} {k : Nat} (hk : k = 1 ∨ k = 2) (hr : s.inRow = true)
    (hc : s.rows.committed = false) (hy : s.ty.yielding = 0) (hd : s.pm.softDue = k) :
    ∃ t, exec (.outputCommit c) s = .next t ∧ Cleared t ∧ t.pm.resetKind = 5 ∧
      t.pm.state = (if s.pm.onStore then .powerFail else .castOn) ∧
      t.pm.recoveryWanted = (s.pm.recoveryWanted || k == 2) ∧ t.pending = s.pending := by
  have hp : s.atCommit.pm = s.pm := by simp [State.atCommit, State.rowAt]
  have he : execOutputCommit c s = .next s.atCommit.softReset := by
    rw [execOutputCommit_eq c hr hc hy, if_pos (by rwa [hd])]
  obtain ⟨v, hv, hpm, hpend⟩ : ∃ v : State, s.atCommit.softReset = v.resetTo 5 false ∧
      v.pm = { s.pm with recoveryWanted := s.pm.recoveryWanted || k == 2 } ∧ v.pending = s.pending := by
    have hl : Moves [.sy, .tb, .rows] s s.atCommit.liveAnswers :=
      (Moves.self.rowAt.modRows (by decide) _ : Moves [.sy, .tb, .rows] s s.atCommit).liveAnswers
    refine ⟨_, if_neg ?_, ?_, ?_⟩
    · rcases hk with rfl | rfl <;> simp [hp, hd]
    · have hlp : s.atCommit.liveAnswers.pm = s.pm := hl .pm (by decide)
      simp [hlp, hd]
    · have hlp : s.atCommit.liveAnswers.pending = s.pending := hl .pending (by decide)
      simp [hlp]
  obtain ⟨hkind, -, hstate, -, -, -, -, -, -, -, hwant⟩ := v.resetTo_pm 5 false
  rw [hpm] at hstate hwant
  refine exists_next he ?_
  rw [hv]
  exact ⟨Cleared.resetTo _ _ _, hkind, by simpa using hstate, hwant, by simpa using hpend⟩

/-- Settles O6. -/
theorem resetRequests : Obligations.ResetRequests := by
  unfold Obligations.ResetRequests
  refine ⟨fun s r x h hn => ?_, fun s r x h hn => ?_, fun s r x low agrees h hb hn => ?_,
    fun s r x low agrees h hb hn => ?_, fun s r x hn hg => ?_, fun s r x hn hg ht => ?_, fun s r x hn => ?_,
    fun s c hr hc hy hd => ?_, fun s c hr hc hy hd => ?_, fun s r x low agrees hb hn ho => ?_⟩
  · refine exists_next rfl (State.liveReq_waits true _ _ (by decide) h fun s1 hm => ?_)
    rw [State.resetAct_of_good 1 (by rwa [hm.resetRefused])]
  · refine exists_next rfl (State.liveReq_waits true _ _ (by decide) h fun s1 hm => ?_)
    rw [State.resetAct_of_good 2 (by rwa [hm.resetRefused])]
  · refine exists_next rfl (State.liveReq_waits false _ _ (by decide) h fun s1 hm => ?_)
    rw [State.bindAct_of_good (by rwa [hm.parts.2.2.1]) (by rwa [hm.bindRefusal])]
  · obtain ⟨s1, h1, h2, h3⟩ := State.liveReq_refused (cmd := .bindOff r 1 low agrees) false
      (fun t _ => t.bindAct 1 low agrees) (by decide) h fun s1 hm => by
        rw [State.bindAct_of_refused (by rwa [hm.parts.2.2.1]) (by rwa [hm.bindRefusal])]
        exact Nat.succ_ne_zero 10
    rw [State.bindAct_of_refused (by rwa [h1.parts.2.2.1]) (by rwa [h1.bindRefusal]), h1.bindRefusal] at h2 h3
    have h1' : Moves [.pm] s (s1.modPm fun p => { p with bindReason := s.bindRefusal low agrees }) :=
      (h1.mono (by decide)).modPm (by decide) _
    have hm : Moves [.pm, .fm] s (s1.bindRefuse (s.bindRefusal low agrees)) :=
      (h1'.mono (by decide)).raiseEvent (by decide) _ _
    refine exists_next rfl ⟨h3, ?_, ?_, hm.then h2 (by decide)⟩
    · have hpm : s1.pm = s.pm := h1 .pm (by decide)
      exact (h2 .pm (by decide)).trans (by simp [State.bindRefuse, hpm])
    · exact (h2 .fm (by decide)).trans ((State.raiseEvent_fm _ _ _).trans (h1'.eventFm (by decide) _ _))
  · refine ⟨_, State.resetAct_of_good 1 hn, by simp, ?_⟩
    have hy : (s.modPm fun p => { p with softDue := 1 }).yieldStart = (false, s.modPm fun p => { p with softDue := 1 }) :=
      if_neg (Bool.eq_false_iff.1 hg)
    rw [hy]
    exact (Alters.refl _ _).modPm (by decide) _
  · refine ⟨_, State.resetAct_of_good 1 hn, by simp, ?_, ((Alters.refl _ _).modPm (by decide) _).yieldStart (by decide)⟩
    rw [State.yieldStart_ty]
    exact if_pos (Bool.and_eq_true_iff.2 ⟨hg, ht⟩)
  · exact ⟨_, State.resetAct_of_good 2 hn, by simp, State.yieldStart_ty, ((Alters.refl _ _).modPm (by decide) _).yieldStart (by decide)⟩
  · simpa using softReset_commit (.inl rfl) hr hc hy hd
  · simpa using softReset_commit (.inr rfl) hr hc hy hd
  · obtain ⟨hq, hreason, hstate, hstep⟩ := State.bindStart_bindingOff ho
    exact ⟨_, State.bindAct_of_good hb hn, hq, hreason, hstate, hstep⟩

end
end Sys2Proof.Machine
end

section
/-! Operating hours and the completion of nonvolatile writes (R300, R360, R520, R545, R546). -/

namespace Sys2Proof.Machine

-- One theorem after another: each thread of the checker takes 256 MB of stack.
set_option Elab.async false

section
variable {s t u : State}

/-! ### The pool of held writes -/

/-- A write of a record with this content is held. -/
def Holds (id : Nat) (payload : List Int) (l : List Held) : Prop :=
  ∃ h ∈ l, h.isLog = false ∧ h.id = id ∧ h.payload = payload

variable {id : Nat} {payload : List Int} {l : List Held}

theorem Holds.beginHead (h : Holds id payload l) (isLog : Bool) : Holds id payload (beginHead isLog l) := by
  induction l with
  | nil => exact h
  | cons g l ih =>
    obtain ⟨x, hx, hlog, hid, hpay⟩ := h
    unfold Machine.beginHead
    split
    · rcases List.mem_cons.1 hx with rfl | hx
      · exact ⟨_, List.mem_cons_self, hlog, hid, hpay⟩
      · exact ⟨x, List.mem_cons_of_mem _ hx, hlog, hid, hpay⟩
    · rcases List.mem_cons.1 hx with rfl | hx
      · exact ⟨x, List.mem_cons_self, hlog, hid, hpay⟩
      · obtain ⟨y, hy, k⟩ := ih ⟨x, hx, hlog, hid, hpay⟩
        exact ⟨y, List.mem_cons_of_mem _ hy, k⟩

theorem Holds.beginFirst (h : Holds id payload l) (isLog : Bool) : Holds id payload (beginFirst isLog l) := by
  unfold Machine.beginFirst
  split
  · exact h
  · exact h.beginHead isLog

theorem Holds.nvKick (h : Holds id payload s.nv.held) : Holds id payload s.nvKick.nv.held := by
  unfold State.nvKick
  split
  · exact (h.beginFirst false).beginFirst true
  · exact h

/-- A write that joins the pool is held, on its own or in the place of one of its record that has not begun. -/
theorem holds_coalesce (id : Nat) (payload : List Int) (l : List Held) : Holds id payload (coalesce { id, payload } l) := by
  unfold coalesce
  split
  next hc =>
    obtain ⟨g, hg, hk⟩ := List.any_eq_true.1 hc
    have hk' := hk
    simp only [Bool.and_eq_true, Bool.not_eq_true', beq_iff_eq] at hk'
    refine ⟨{ g with payload }, List.mem_map.2 ⟨g, hg, if_pos hk⟩, ?_⟩
    exact ⟨hk'.1.1, hk'.1.2, rfl⟩
  · exact ⟨_, List.mem_append_right _ (List.mem_singleton.2 rfl), rfl, rfl, rfl⟩

theorem State.journal_holds (id : Nat) (payload : List Int) : Holds id payload (s.journal id payload).nv.held :=
  Holds.nvKick (s := s.modNv fun n => { n with held := coalesce { id, payload } n.held }) (holds_coalesce id payload _)

@[simp] theorem State.nvKick_records : s.nvKick.nv.records = s.nv.records := by
  unfold State.nvKick
  split
  · rfl
  · rfl

@[simp] theorem State.nvKick_retrying : s.nvKick.nv.retrying = s.nv.retrying := by
  unfold State.nvKick
  split
  · rfl
  · rfl

/-- A completed write moves a bind-off on; without one there is nothing to move. -/
theorem State.bindOn_of_none (h : s.pm.bindStep = 0) : s.bindOn = s := by
  have hf : s.bindFlushed = s := if_neg (by simp [h])
  rw [State.bindOn, hf]
  exact if_neg (by simp [h])

/-- Settles O7. -/
theorem nonvolatileCommands : Obligations.NonvolatileCommands := by
  unfold Obligations.NonvolatileCommands
  refine ⟨fun s hs hd => ?_, fun s h hf hb => ?_, fun s h hf hr => ?_, fun s h hf hb hl => ?_, fun s hc hl h4 => ?_,
    fun s hc => ?_⟩
  · have he : execOperatingHourTick s = .next ((s.modId fun i => { i with hours := i.hours + 1 }).modSi fun i =>
        { i with proofDue := i.proofDue - 1 }).journal9 := by
      unfold execOperatingHourTick
      rw [if_pos (by simp [hs])]
      refine congrArg _ (if_neg ?_)
      simp [State.journal9]
      omega
    exact exists_next he ⟨by simp [State.journal9], by simp [State.journal9],
      (((Alters.refl _ _).modId (by decide) _).modSi (by decide) _).journal (by decide) _ _⟩
  · have he : execJournalWriteComplete true s = .next ((s.writeCopy h.id h.payload true).modNv fun n =>
        { n with held := n.held.erase h, retrying := false }).nvKick := by
      unfold execJournalWriteComplete
      rw [hf]
      refine congrArg _ (State.bindOn_of_none ?_)
      simpa [State.writeCopy] using hb
    exact exists_next he ⟨by simp [State.writeCopy], by simp, by simp [State.writeCopy],
      (((s.writeCopy_alters h.id h.payload true).modNv (by decide) _)).nvKick (by decide)⟩
  · have he : execJournalWriteComplete false s = .next ((((s.writeCopy h.id h.payload false).modLd fun l =>
        { l with verifyFails := l.verifyFails + 1 }).raiseEvent 0x1404 h.id).modNv fun n => { n with retrying := true }) := by
      unfold execJournalWriteComplete
      rw [hf]
      simp [hr]
    have hm : Moves [.nv, .ld] s ((s.writeCopy h.id h.payload false).modLd fun l => { l with verifyFails := l.verifyFails + 1 }) :=
      (s.writeCopy_alters h.id h.payload false).moves.modLd (by decide) _
    refine exists_next he ⟨rfl, ?_, ?_, ?_, ((hm.mono (by decide)).raiseEvent (by decide) _ _).modNv (by decide) _⟩
    · simp [State.writeCopy]
    · exact (State.raiseEvent_fm _ _ _).trans (hm.eventFm (by decide) _ _)
    · simp [State.writeCopy]
  · have he : execEventLogWriteComplete true s =
        .next ((s.modNv fun n => { n with held := n.held.erase h }).logAppend h.log).nvKick := by
      unfold execEventLogWriteComplete
      rw [hf]
      refine congrArg _ ((State.bindOn_of_none ?_).trans ?_)
      · simpa [State.logWrite, State.logAppend, hl] using hb
      · simp [State.logWrite, hl]
    exact exists_next he ⟨by simp [State.logAppend], by simp [State.logAppend],
      (((Alters.refl _ _).modNv (by decide) _).modLg (by decide) _).nvKick (by decide)⟩
  · exact exists_next (next_of_pos (by simpa [hc, hl] using h4))
      ⟨State.journal_holds _ _, (Alters.refl _ _).journal (by decide) _ _⟩
  · exact exists_next (next_of_pos hc) ⟨State.journal_holds _ _, (Alters.refl _ _).journal (by decide) _ _⟩

end
end Sys2Proof.Machine
end

section
/-! Pull-ins and the auxiliary coil (R65, R93 to R95, R179, R180, R334). -/

namespace Sys2Proof.Machine

-- One theorem after another: each thread of the checker takes 256 MB of stack.
set_option Elab.async false

section
variable {s t u : State}

/-- Whether closing is refused reads neither the power manager nor plant time. -/
theorem Alters.closeRefusal (h : Alters [.pm, .tb] s t) : t.closeRefusal = s.closeRefusal := by
  have hsi : t.si = s.si := h .si (by decide)
  have hld : t.ld = s.ld := h .ld (by decide)
  have hty : t.ty = s.ty := h .ty (by decide)
  have hfm : t.fm = s.fm := h .fm (by decide)
  have hos : t.os = s.os := h .os (by decide)
  have hin : t.inputBlocked = s.inputBlocked := by simp only [State.inputBlocked, hsi]
  have hset : t.setsConfirmed = s.setsConfirmed := by simp only [State.setsConfirmed, hsi, hld, hty]
  have hact : t.acting = s.acting := by simp only [State.acting, hty, hfm]
  have hfault : t.outputFault = s.outputFault := by simp only [State.outputFault, hfm]
  simp only [State.closeRefusal, State.demands, State.restartBlocked, hset, hact, hfault, hsi, hos, hin]
  rfl

/-- The front of the pull-in queue is taken (R179). -/
def State.pullTaken (s : State) (rest : List (Nat × Nat)) : State :=
  (s.runPast s.pm.lastPullIn (s.cfgGet 0x2280 4 * 1000000)).modPm fun p => { p with queue := rest }

theorem State.pullTaken_alters (rest : List (Nat × Nat)) : Alters [.pm, .tb] s (s.pullTaken rest) :=
  ((Alters.refl _ _).runPast (by decide) _ _).modPm (by decide) _

theorem execPullInStart_of_front {n k : Nat} {rest : List (Nat × Nat)} (hq : s.pm.queue = (n, k) :: rest)
    (hh : s.pullInHeld = false) (hc : s.coreUp = true) :
    execPullInStart s = .next (
      let u := (s.pullTaken rest).modSi fun i => { i with closeRefusal := s.closeRefusal }
      if s.closeRefusal ≠ 0 ∨ s.pm.closingRefused = true ∨ s.pm.state = .bindOff then u
      else (u.modCoil n Coil.on).modPm fun p => { p with pullIn := n, lastPullIn := some (s.pullTaken rest).tb.now }) := by
  unfold execPullInStart
  rw [hq]
  dsimp only
  rw [if_neg (by simp [hh, hc])]
  rw [show ((s.runPast s.pm.lastPullIn (s.cfgGet 0x2280 4 * 1000000)).modPm fun p => { p with queue := rest }) =
    s.pullTaken rest from rfl, (State.pullTaken_alters rest).closeRefusal]
  simp [or_assoc]

theorem State.coilOff_pm (n : Nat) : (s.coilOff n).pm = { s.pm with
    pullIn := if s.pm.pullIn == n then 0 else s.pm.pullIn, queue := s.pm.queue.filter (·.1 != n) } := rfl

theorem State.modCoil_coil_same {s : State} (n : Nat) (f : Coil → Coil) (h : tabWf {} s.os.coils = true) :
    (s.modCoil n f).coil n = f (s.coil n) := tabGet_tabMod_same ({} : Coil) n f _ h

theorem State.modCoil_coil_other {j n : Nat} (f : Coil → Coil) (h : j ≠ n) : (s.modCoil n f).coil j = s.coil j :=
  tabGet_tabMod_other ({} : Coil) j n f _ h

/-- The coil whose pull-in ends goes to economised hold (R94). -/
def State.economised (s : State) (n : Nat) : State :=
  ((s.runPast s.pm.lastPullIn 100000000).modPm fun p => { p with pullIn := 0 }).modCoil n fun c =>
    { c with phase := if c.cmd then 2 else 0 }

theorem State.economised_alters (n : Nat) : Alters [.os, .pm, .tb] s (s.economised n) :=
  (((Alters.refl _ _).runPast (by decide) _ _).modPm (by decide) _).modCoil (by decide) _ _

theorem execPullInEnd_of_driven (hn : s.pm.pullIn ≠ 0) (hd : (s.coil s.pm.pullIn).drive = true) :
    execPullInEnd s = .next ((s.economised s.pm.pullIn).pullInEnded s.pm.pullIn) := by
  unfold execPullInEnd
  rw [if_neg (by simp [hn, hd])]
  rfl

@[simp] theorem State.runPast_os (x : Option Stamp) (n : Nat) : (s.runPast x n).os = s.os :=
  (Alters.refl [.tb] s).runPast (by decide) x n .os (by decide)

@[simp] theorem State.runPast_pc (x : Option Stamp) (n : Nat) : (s.runPast x n).pc = s.pc :=
  (Alters.refl [.tb] s).runPast (by decide) x n .pc (by decide)

@[simp] theorem State.runPast_si (x : Option Stamp) (n : Nat) : (s.runPast x n).si = s.si :=
  (Alters.refl [.tb] s).runPast (by decide) x n .si (by decide)

theorem State.auxCoilAct_on : s.auxCoilAct 1 = ((s.requestPullIn 4).cfgPut 0x2781 0 1, 0, []) := rfl

theorem State.auxCoilAct_off : s.auxCoilAct 0 = ((s.coilOff 4).cfgPut 0x2781 0 0, 0, []) := rfl

/-- Settles O8. -/
theorem pullInCommands : Obligations.PullInCommands := by
  unfold Obligations.PullInCommands
  refine ⟨fun s n k rest hq hh hc hr hcl hb => ?_, fun s n k rest hq hh hc hr => ?_, fun s hn hd h3 h1 => ?_,
    fun s hn hd hs hw => ?_, fun s r x h => ?_, fun s r x h => ?_, fun s r x hc hq => ?_, fun s r x hw => ?_⟩
  · have he := execPullInStart_of_front hq hh hc
    rw [if_neg (by simp [hr, hcl, hb])] at he
    refine exists_next he ⟨?_, ?_, ?_, ?_, ?_⟩
    · simp [State.modCoil, State.pullTaken]
    · simp [State.pullTaken]
    · simp [State.pullTaken]
    · simp [State.pullTaken, hr]
    · exact ((((State.pullTaken_alters rest).mono (by decide)).modSi (by decide) _).modCoil (by decide) _ _).modPm (by decide) _
  · have he := execPullInStart_of_front hq hh hc
    rw [if_pos (.inl hr)] at he
    refine exists_next he ⟨?_, ?_, ?_⟩
    · simp [State.pullTaken]
    · simp [State.pullTaken]
    · exact ((State.pullTaken_alters rest).mono (by decide)).modSi (by decide) _
  · have he := execPullInEnd_of_driven hn hd
    have hi : (s.economised s.pm.pullIn).pullInEnded s.pm.pullIn = s.economised s.pm.pullIn := by
      have hpc : (s.economised s.pm.pullIn).pc = s.pc := State.economised_alters _ .pc (by decide)
      unfold State.pullInEnded
      rw [hpc, if_neg (fun h => h3 ?_), if_neg (fun h => h1 (by simpa using h))]
      simp only [Bool.and_eq_true, beq_iff_eq] at h
      exact h.1
    rw [hi] at he
    exact exists_next he ⟨by simp [State.economised, State.modCoil], by simp [State.economised],
      by simp [State.economised], State.economised_alters _⟩
  · have he := execPullInEnd_of_driven (s := s) (by simp [hn]) (by simpa [hn] using hd)
    have hpc : (s.economised 1).pc = s.pc := State.economised_alters _ .pc (by decide)
    have hi : (s.economised 1).pullInEnded 1 = ((s.economised 1).coilOff 3).modPc fun c => { c with seq := 5, step5 := 0 } := by
      unfold State.pullInEnded
      rw [if_neg (by simp), if_pos (by simp [hpc, hs])]
    rw [hn, hi] at he
    have hw' : tabWf {} (s.economised 1).os.coils = true := by
      simpa [State.economised, State.modCoil] using tabWf_tabMod ({} : Coil) 1 _ hw
    refine exists_next he ⟨by simp [hpc], ?_, ?_, ?_, ?_⟩
    · exact congrArg Coil.cmd (State.coilOff_coil_same _ 3 hw')
    · have hone := ((s.runPast s.pm.lastPullIn 100000000).modPm fun p => { p with pullIn := 0 }).modCoil_coil_same 1
        (fun c => { c with phase := if c.cmd then 2 else 0 }) (by simpa using hw)
      refine (State.coilOff_coil_other _ 1 3 (by decide)).trans (hone.trans ?_)
      simp only [State.coil, State.modPm_os, State.runPast_os]
      rfl
    · simp [State.coilOff_pm, State.economised]
    · exact (((State.economised_alters 1).mono (by decide)).coilOff (by decide) (by decide) _).modPc (by decide) _
  · refine exists_next rfl (State.liveReq_waits false _ _ (by decide) h fun s1 hm => ?_)
    rw [State.auxCoilAct_on]
  · refine exists_next rfl (State.liveReq_waits false _ _ (by decide) h fun s1 hm => ?_)
    rw [State.auxCoilAct_off]
  · have hr : s.requestPullIn 4 = s.modPm fun p => { p with queue := [(4, rowKey s.tb.now)] } := by
      unfold State.requestPullIn
      rw [if_neg (by simp [hc, hq])]
      simp [State.modPm, hq, insertPull]
    refine ⟨_, State.auxCoilAct_on, ?_, ?_⟩
    · rw [hr]
      rfl
    · rw [hr]
      exact ((Alters.refl _ _).modPm (by decide) _).modCfg (by decide) _
  · refine ⟨_, State.auxCoilAct_off, State.coilOff_coil_same _ 4 hw, fun q hq => ?_, ?_, ?_⟩
    · simpa using (List.mem_filter.1 hq).2
    · show (if s.pm.pullIn == 4 then 0 else s.pm.pullIn) ≠ 4
      split
      · decide
      next h => simpa using h
    · exact ((Alters.refl _ _).coilOff (by decide) (by decide) _).modCfg (by decide) _

end
end Sys2Proof.Machine
end

section
/-! The contactor supervisor: weld tests, closure and precharge time-outs, the stages of an opening (R179 to R191). -/

namespace Sys2Proof.Machine

-- One theorem after another: each thread of the checker takes 256 MB of stack.
set_option Elab.async false

section
variable {s t u : State}

/-! ### An aborted sequence -/

/-- The coils of the main contactors and of precharge are commanded off. -/
def MainsOff (t : State) : Prop := ∀ n ∈ [1, 2, 3], (t.coil n).cmd = false

theorem mainsOff_foldl (h : tabWf {} s.os.coils = true) : MainsOff ([1, 2, 3].foldl State.coilOff s) := by
  have h1 := s.coilOff_wf 1 h
  have h2 := (s.coilOff 1).coilOff_wf 2 h1
  intro n hn
  simp only [List.mem_cons, List.not_mem_nil, or_false] at hn
  simp only [List.foldl_cons, List.foldl_nil]
  rcases hn with rfl | rfl | rfl
  · rw [State.coilOff_coil_other _ _ _ (by decide), State.coilOff_coil_other _ _ _ (by decide), State.coilOff_coil_same _ _ h]
    rfl
  · rw [State.coilOff_coil_other _ _ _ (by decide), State.coilOff_coil_same _ _ h1]
    rfl
  · rw [State.coilOff_coil_same _ _ h2]
    rfl

theorem MainsOff.of_os (h : MainsOff s) (e : t.os = s.os) : MainsOff t := by
  intro n hn
  rw [State.coil, e]
  exact h n hn

theorem State.mains_alters : Alters [.os, .pm] s ([1, 2, 3].foldl State.coilOff s) :=
  Alters.foldl (fun _ n => (Alters.refl _ _).coilOff (by decide) (by decide) n) _ _

@[simp] theorem State.mains_pc : ([1, 2, 3].foldl State.coilOff s).pc = s.pc := State.mains_alters .pc (by decide)

@[simp] theorem State.mains_de : ([1, 2, 3].foldl State.coilOff s).de = s.de := State.mains_alters .de (by decide)

/-- Before step 3 an abort rests at once (R191). -/
theorem State.abortSequence_of_early (h : ¬(3 ≤ s.pc.seq ∧ s.pc.seq ≤ 6)) :
    s.abortSequence = (([1, 2, 3].foldl State.coilOff s).modPc fun c =>
      { c with seq := 0, timing := false, preDone := false, slowRun := 0, fastRun := 0, resRun := 0 }).modDe fun d =>
        { d with connect := 0, armed := false } := by
  unfold State.abortSequence
  rw [if_neg (by simpa using h)]

/-- From step 3 on an abort is an opening (R191). -/
theorem State.abortSequence_of_three (h : s.pc.seq = 3) :
    s.abortSequence = ((([1, 2, 3].foldl State.coilOff s).beginOpening false true).modDe fun d =>
      { d with armed := false }).journalEnergy := by
  unfold State.abortSequence
  rw [if_pos (by simp [h]), if_pos (by simp [h])]

/-- What an abort of step 3 leaves of a module whose fault is raised (R183, R191). -/
theorem State.abortSequence_three {ps : List Part} (h : s.pc.seq = 3) (hw : tabWf {} s.os.coils = true)
    (hm : Moves ps u s) (hp : [.os, .pm, .pc, .de, .nv] ⊆ ps) :
    s.abortSequence.fm = s.fm ∧ s.abortSequence.pc.seq = 7 ∧ s.abortSequence.pc.opening2 = true ∧
      s.abortSequence.pc.curDue = s.pc.curDue ∧ MainsOff s.abortSequence ∧ s.abortSequence.de.armed = false ∧
      Moves ps u s.abortSequence := by
  rw [State.abortSequence_of_three h]
  generalize hv : (([1, 2, 3].foldl State.coilOff s).beginOpening false true).modDe (fun d => { d with armed := false }) = v
  have hj : Alters [.nv] v v.journalEnergy := (Alters.refl _ _).journalEnergy (by decide)
  have hs : Alters [.os, .pm, .pc, .de] s v := by
    rw [← hv]
    exact ((State.mains_alters.mono (by decide)).beginOpening (by decide) (by decide) _ _).modDe (by decide) _
  have hpc : v.journalEnergy.pc = v.pc := hj .pc (by decide)
  have hde : v.journalEnergy.de = v.de := hj .de (by decide)
  refine ⟨(hj .fm (by decide)).trans (hs .fm (by decide)), ?_, ?_, ?_, ?_, ?_, ?_⟩
  · rw [hpc, ← hv]
    rfl
  · rw [hpc, ← hv]
    rfl
  · rw [hpc, ← hv]
    rfl
  · refine MainsOff.of_os (s := v) ?_ (hj .os (by decide))
    rw [← hv]
    exact MainsOff.of_os (mainsOff_foldl hw) rfl
  · rw [hde, ← hv]
    rfl
  · exact hm.then ((hs.moves.mono (by decide)).trans (hj.moves.mono (by decide))) hp

theorem State.currentDue_pc : s.currentDue.pc = { s.pc with
    curDue := s.pc.curDue || (decide (60000 ≤ s.pc.dv0) && !s.pc.timing && !s.pc.preDone) } := by
  unfold State.currentDue
  split
  next h => simp only [h, Bool.or_true, State.modPc_pc]
  next h => simp only [Bool.eq_false_iff.2 h, Bool.or_false]

theorem State.currentDue_alters : Alters [.pc] s s.currentDue := by
  unfold State.currentDue
  split
  · exact (Alters.refl _ _).modPc (by decide) _
  · exact .refl _ _

/-- The coils are those of a state that only raised a fault. -/
theorem State.raiseCond_coils (code item : Nat) : (s.raiseCond code item).os.coils = s.os.coils := by
  have h : (s.raiseCond code item).os = s.os := s.raiseCond_moves code item .os (by decide)
  rw [h]

/-! ### The opening's weld test -/

/-- The end of an opening (R190). -/
def State.opened (s : State) : State :=
  (s.modPc fun c => { c with seq := 0, opening2 := false, sequenced := false }).modDe fun d =>
    { d with connect := if d.connect == 6 then 6 else 0, waitRows := 0, lowRows := 0 }

theorem execOpeningWeldTest_of_both (h7 : s.pc.seq = 7) (ho : s.pc.opening2 = true) :
    execOpeningWeldTest s = .next (if s.pc.openBothI = true ∧ (s.cfgGet 0x2780 11 : Rat) ≤ s.latchedAbs then
      ((s.weldFound 0x0708 3).modSi fun i => { i with sf11 := true }).opened else s.opened) := by
  unfold execOpeningWeldTest
  simp only [h7, ho, bne_self_eq_false, Bool.false_eq_true, if_false, Bool.not_true, Bool.and_eq_true, decide_eq_true_eq]
  split
  · rfl
  · rfl

/-- Settles O9. -/
theorem sequenceCommands : Obligations.SequenceCommands := by
  unfold Obligations.SequenceCommands
  refine ⟨fun s h2 hb hc hw hl => ?_, fun s h2 hb hc h3 hq hi hv => ?_, fun s h3 hcl hw => ?_, fun s h3 hcl => ?_,
    fun s h3 hd ht hw => ?_, fun s h7 hs ho hw => ?_, fun s h7 ho hn => ?_, fun s h7 ho hb hl => ?_⟩
  · have he : execWeldTestWindowEnd s = .next (s.weldFound 0x0706 1).abortSequence := by
      unfold execWeldTestWindowEnd
      rw [if_neg (by simp [h2, hb, hc]), if_pos (by simpa using hl)]
    have hm : Moves [.fm, .pc] s (s.weldFound 0x0706 1) := Moves.self.weldFound
    have hpc : (s.weldFound 0x0706 1).pc = { s.pc with weld := s.pc.weld ||| 1 } := by simp [State.weldFound]
    have hos : (s.weldFound 0x0706 1).os = s.os := hm .os (by decide)
    rw [State.abortSequence_of_early (by simp [hpc, h2])] at he
    have hfm : ([1, 2, 3].foldl State.coilOff (s.weldFound 0x0706 1)).fm = (s.weldFound 0x0706 1).fm :=
      State.mains_alters .fm (by decide)
    refine exists_next he ⟨?_, ?_, ?_, ?_, ?_, ?_, ?_⟩
    · exact hfm.trans (State.raiseEvent_fm _ _ _)
    · simp [hpc]
    · rfl
    · exact MainsOff.of_os (mainsOff_foldl (by simpa [hos] using hw)) rfl
    · rfl
    · rfl
    · exact (((hm.mono (by decide)).trans (State.mains_alters.moves.mono (by decide))).modPc (by decide) _).modDe (by decide) _
  · have he : execWeldTestWindowEnd s = .next s.connectStep3 := by
      unfold execWeldTestWindowEnd
      rw [if_neg (by simp [h2, hb, hc]), if_neg (by simp; omega)]
    have hr : s.connectStep3 = (s.modPc fun c => { c with seq := 3, closed3 := false, timing := false, preMs := 0, preDone := false }).modPm
        fun p => { p with queue := [(2, rowKey s.tb.now)] } := by
      unfold State.connectStep3 State.requestPullIn
      have hn : ¬((s.coil 2).cmd || s.pm.queue.any (·.1 == 2)) = true := by simp [h3, hq]
      refine (if_neg hn).trans ?_
      simp [State.modPm, hq, insertPull]
    rw [hr] at he
    exact exists_next he ⟨rfl, rfl, ((Alters.refl _ _).modPc (by decide) _).modPm (by decide) _⟩
  · have he : execMainNegClosureTimeout s = .next (s.currentDue.raiseCond 0x070A).abortSequence := by
      unfold execMainNegClosureTimeout
      rw [if_neg (by simp [h3]), if_pos (by simp [hcl])]
    have hd : Alters [.pc] s s.currentDue := State.currentDue_alters
    have hw' : tabWf {} (s.currentDue.raiseCond 0x070A).os.coils = true := by
      have hos : s.currentDue.os = s.os := hd .os (by decide)
      rw [State.raiseCond_coils, hos]
      exact hw
    obtain ⟨hfm, hseq, hop, hcur, hoff, harm, hm⟩ := State.abortSequence_three (s := s.currentDue.raiseCond 0x070A)
      (by simp [State.currentDue_pc, h3]) hw'
      ((hd.moves.mono (by decide)).raiseCond (by decide) _ _ : Moves [.fm, .os, .pm, .pc, .de, .nv] s _) (by decide)
    refine exists_next he ⟨?_, hseq, hop, ?_, hoff, harm, hm⟩
    · exact hfm.trans ((State.raiseCond_fm _ _ _).trans (hd.moves.condFm (by decide) _ _))
    · rw [hcur]
      simp [State.currentDue_pc]
  · have he : execMainNegClosureTimeout s = .next s.currentDue := by
      unfold execMainNegClosureTimeout
      rw [if_neg (by simp [h3]), if_neg (by simp [hcl])]
    exact exists_next he ⟨State.currentDue_pc, State.currentDue_alters⟩
  · obtain ⟨hfm, hseq, hop, -, hoff, harm, hm⟩ := State.abortSequence_three (s := s.raiseCond 0x0702)
      (by simp [h3]) (by simpa [State.raiseCond_coils] using hw)
      (Moves.self.raiseCond (by decide) _ _ : Moves [.fm, .os, .pm, .pc, .de, .nv] s _) (by decide)
    exact exists_next (next_of_pos (by simp [h3, hd, ht]))
      ⟨hfm.trans (State.raiseCond_fm _ _ _), hseq, hop, hoff, harm, hm⟩
  · refine exists_next (next_of_pos (by simp [h7, hs, ho])) ⟨rfl, h7, ?_, rfl,
      (((Alters.refl _ _).coilOff (by decide) (by decide) _).modPc (by decide) _)⟩
    exact State.coilOff_coil_same _ 1 hw
  · have he := execOpeningWeldTest_of_both h7 ho
    rw [if_neg hn] at he
    refine exists_next he ⟨rfl, ?_, ((Alters.refl _ _).modPc (by decide) _).modDe (by decide) _⟩
    by_cases hc : s.de.connect = 6
    · simp [State.opened, hc]
    · simp [State.opened, hc]
  · have he := execOpeningWeldTest_of_both h7 ho
    rw [if_pos ⟨hb, hl⟩] at he
    have hm : Moves [.fm, .pc, .de, .si] s (s.weldFound 0x0708 3) := Moves.self.weldFound
    refine exists_next he ⟨?_, ?_, rfl, ?_, ?_⟩
    · exact (State.raiseEvent_fm _ _ _)
    · simp [State.opened, State.weldFound]
    · simp [State.opened, State.weldFound]
    · exact ((hm.modSi (by decide) _).modPc (by decide) _).modDe (by decide) _

end
end Sys2Proof.Machine
end

section
/-! Dual-channel safety inputs and the charge block (R340, R342 to R347). -/

namespace Sys2Proof.Machine

-- One theorem after another: each thread of the checker takes 256 MB of stack.
set_option Elab.async false

section
variable {s t u : State}

/-- An update of numbered entries in turn: each entry is what its own update makes of it. `rd` reads an entry, `I` is what
the updates keep. -/
theorem foldl_entry {α : Type} {f : State → Nat → State} (rd : State → Nat → α) (I : State → Prop)
    (hI : ∀ u k, I u → I (f u k)) (ho : ∀ u k n, I u → k ≠ n → rd (f u k) n = rd u n) {l : List Nat} (hl : l.Nodup)
    (hs : I s) {n : Nat} (hn : n ∈ l) : ∃ u, I u ∧ rd u n = rd s n ∧ rd (l.foldl f s) n = rd (f u n) n := by
  have rest : ∀ (m : List Nat) (u : State), n ∉ m → I u → rd (m.foldl f u) n = rd u n := by
    intro m
    induction m with
    | nil => exact fun _ _ _ => rfl
    | cons k m ih =>
      intro u hm hu
      obtain ⟨hk, hm⟩ := not_or.1 (List.mem_cons.not.1 hm)
      exact (ih _ hm (hI u k hu)).trans (ho u k n hu (Ne.symm hk))
  induction l generalizing s with
  | nil => cases hn
  | cons k l ih =>
    obtain ⟨hk, hl⟩ := List.nodup_cons.1 hl
    by_cases h : n = k
    · subst h
      exact ⟨s, hs, rfl, rest l _ hk (hI s n hs)⟩
    · obtain ⟨u, hu, hr, he⟩ := ih hl (hI s k hs) ((List.mem_cons.1 hn).resolve_left h)
      exact ⟨u, hu, hr.trans (ho s k n hs (Ne.symm h)), he⟩

/-! ### One input -/

theorem State.modSin_sin_same {s : State} {n : Nat} (f : Sin → Sin) (h : tabWf {} s.si.sins = true) :
    (s.modSin n f).sin n = f (s.sin n) := tabGet_tabMod_same ({} : Sin) n f _ h

theorem State.modSin_sin_other {s : State} {k n : Nat} (f : Sin → Sin) (h : k ≠ n) : (s.modSin k f).sin n = s.sin n :=
  tabGet_tabMod_other ({} : Sin) n k f _ (Ne.symm h)

/-- The inputs' table is canonical, and all else of the safety island is as in `s`. -/
def SinsOnly (s u : State) : Prop := tabWf {} u.si.sins = true ∧ u.si = { s.si with sins := u.si.sins } ∧ u.id = s.id

theorem SinsOnly.modSin {n : Nat} {f : Sin → Sin} (h : SinsOnly s u) : SinsOnly s (u.modSin n f) := by
  obtain ⟨hw, hs, hi⟩ := h
  refine ⟨tabWf_tabMod ({} : Sin) n f hw, ?_, hi⟩
  show ({ u.si with sins := _ } : Safety) = _
  rw [hs]
  rfl

theorem SinsOnly.of_moves (h : SinsOnly s u) (hm : Moves [.fm] u t) : SinsOnly s t := by
  have hs : t.si = u.si := hm .si (by decide)
  have hi : t.id = u.id := hm .id (by decide)
  obtain ⟨hw, hu, hd⟩ := h
  exact ⟨by rwa [hs], by rw [hs]; exact hu, hi.trans hd⟩

theorem SinsOnly.safeGet (h : SinsOnly s u) (index sub : Nat) : u.safeGet index sub = s.safeGet index sub := by
  obtain ⟨-, hs, hi⟩ := h
  rw [State.safeGet, State.safeGet, hs, hi]

/-- A sample notes the level. -/
theorem Chan.sample_raw (c : Chan) (filter : Nat) (tested : Bool) (window own : Nat) (level : Bool) :
    (c.sample filter tested window own level).raw = level := by
  unfold Chan.sample
  dsimp only
  split
  · rfl
  · split
    · rfl
    · split <;> rfl

theorem Chan.windowEnd_raw (c : Chan) (tested : Bool) (window own : Nat) : (c.windowEnd tested window own).raw = c.raw := by
  unfold Chan.windowEnd
  dsimp only
  split
  · rfl
  · split
    · split
      · split <;> rfl
      · split <;> rfl
    · rfl

theorem Sin.crossCheck_chans (i : Sin) (x : Nat) : (i.crossCheck x).a = i.a ∧ (i.crossCheck x).b = i.b := by
  unfold Sin.crossCheck
  split
  · exact ⟨rfl, rfl⟩
  · split
    · dsimp only
      split
      · exact ⟨rfl, rfl⟩
      · exact ⟨rfl, rfl⟩
    · exact ⟨rfl, rfl⟩

theorem State.sampleInput_raw (levels n : Nat) (h : tabWf {} s.si.sins = true) :
    ((s.sampleInput levels n).sin n).a.raw = bit levels (2 * (n - 1)) ∧
      ((s.sampleInput levels n).sin n).b.raw = bit levels (2 * (n - 1) + 1) := by
  unfold State.sampleInput
  dsimp only
  split
  · rw [State.modSin_sin_same _ h]
    exact ⟨rfl, rfl⟩
  · rw [State.modSin_sin_same _ h]
    show (if _ then _ else _ : Sin).a.raw = _ ∧ (if _ then _ else _ : Sin).b.raw = _
    split
    · rw [(Sin.crossCheck_chans _ _).1, (Sin.crossCheck_chans _ _).2, Chan.windowEnd_raw, Chan.windowEnd_raw,
        Chan.sample_raw, Chan.sample_raw]
      exact ⟨rfl, rfl⟩
    · exact ⟨Chan.sample_raw _ _ _ _ _ _, Chan.sample_raw _ _ _ _ _ _⟩

theorem SinsOnly.sampleInput (h : SinsOnly s u) (levels n : Nat) : SinsOnly s (u.sampleInput levels n) := by
  unfold State.sampleInput
  dsimp only
  split
  · exact h.modSin
  · exact h.modSin

theorem State.sampleInput_other (levels : Nat) {k n : Nat} (h : k ≠ n) : (s.sampleInput levels k).sin n = s.sin n := by
  unfold State.sampleInput
  dsimp only
  split
  · exact State.modSin_sin_other _ h
  · exact State.modSin_sin_other _ h

/-- All eight inputs have taken a sample. -/
def State.sampled (s : State) (levels : Nat) : State := [1, 2, 3, 4, 5, 6, 7, 8].foldl (fun u n => u.sampleInput levels n) s

/-- The window of a test pulse has one sample less (R344). -/
def State.windowed (s : State) : State := s.modSi fun i => { i with
  windowLeft := i.windowLeft - 1, sourceX := if i.windowLeft ≤ 1 then 0 else i.sourceX }

theorem State.windowed_sin (n : Nat) : s.windowed.sin n = s.sin n := rfl

theorem SinsOnly.sampled (levels : Nat) (h : tabWf {} s.si.sins = true) : SinsOnly s (s.sampled levels) :=
  List.foldlRecOn _ _ (motive := SinsOnly s) ⟨h, rfl, rfl⟩ fun _ h n _ => h.sampleInput levels n

theorem State.sampled_moves (levels : Nat) : Moves [.si] s (s.sampled levels) :=
  .foldl (fun _ _ => Moves.self.sampleInput) _ _

theorem State.sampled_raw (levels : Nat) (h : tabWf {} s.si.sins = true) {n : Nat} (hn : n ∈ [1, 2, 3, 4, 5, 6, 7, 8]) :
    ((s.sampled levels).sin n).a.raw = bit levels (2 * (n - 1)) ∧
      ((s.sampled levels).sin n).b.raw = bit levels (2 * (n - 1) + 1) := by
  obtain ⟨u, hu, -, hr⟩ := foldl_entry (f := fun u n => u.sampleInput levels n) State.sin (SinsOnly s)
    (fun u k h => h.sampleInput levels k) (fun u k n _ h => State.sampleInput_other levels h) (by decide)
    ⟨h, rfl, rfl⟩ hn
  rw [State.sampled, hr]
  exact State.sampleInput_raw levels n hu.1

/-- A disagreement that goes on counts, and latches its block at SinDiscrepancy (R346). -/
def State.Disagrees (s : State) (n : Nat) : Prop :=
  s.safeGet 0x2D80 n ≠ 0 ∧ chanDemand (s.safeGet 0x2D80 n) false (s.sin n).a.filt ≠
    chanDemand (s.safeGet 0x2D80 n) true (s.sin n).b.filt

theorem State.gridInput_of_disagrees {n : Nat} (h : s.Disagrees n) :
    s.gridInput n =
      let t := s.modSin n fun i => { i with
        discCount := (s.sin n).discCount + 1, discMax := max i.discMax ((s.sin n).discCount + 1)
        discBlock := i.discBlock || s.safeGet 0x2D82 n ≤ (s.sin n).discCount + 1
        bothDemanded := i.discBlock && i.bothDemanded, bothEnded := i.discBlock && i.bothEnded }
      if s.safeGet 0x2D82 n ≤ (s.sin n).discCount + 1 then t.raiseCond 0x0D02 n else t := by
  unfold State.gridInput
  dsimp only
  rw [if_neg (by simpa using h.1), if_pos (by simpa using h.2)]

theorem State.gridInput_of_agrees {n : Nat} (h : ¬ s.Disagrees n) :
    s.gridInput n = s.modSin n fun i => { i with discCount := 0 } := by
  unfold State.gridInput
  dsimp only
  split
  · rfl
  next hm => exact if_neg fun hd => h ⟨by simpa using hm, by simpa using hd⟩

theorem SinsOnly.gridInput (h : SinsOnly s u) (n : Nat) : SinsOnly s (u.gridInput n) := by
  by_cases hd : u.Disagrees n
  · rw [State.gridInput_of_disagrees hd]
    dsimp only
    split
    · exact h.modSin.of_moves (State.raiseCond_moves _ _ _)
    · exact h.modSin
  · rw [State.gridInput_of_agrees hd]
    exact h.modSin

theorem State.sin_of_moves (h : Moves [.fm] s t) (n : Nat) : t.sin n = s.sin n := by
  have hs : t.si = s.si := h .si (by decide)
  rw [State.sin, State.sin, hs]

theorem State.gridInput_other {k n : Nat} (h : k ≠ n) : (s.gridInput k).sin n = s.sin n := by
  by_cases hd : s.Disagrees k
  · rw [State.gridInput_of_disagrees hd]
    dsimp only
    split
    · rw [State.sin_of_moves (State.raiseCond_moves _ _ _), State.modSin_sin_other _ h]
    · exact State.modSin_sin_other _ h
  · rw [State.gridInput_of_agrees hd]
    exact State.modSin_sin_other _ h

theorem State.gridInput_same {n : Nat} (hw : tabWf {} s.si.sins = true) (h : s.Disagrees n) :
    ((s.gridInput n).sin n).discCount = (s.sin n).discCount + 1 ∧
      ((s.gridInput n).sin n).discBlock = ((s.sin n).discBlock || decide (s.safeGet 0x2D82 n ≤ (s.sin n).discCount + 1)) := by
  rw [State.gridInput_of_disagrees h]
  dsimp only
  split
  · rw [State.sin_of_moves (State.raiseCond_moves _ _ _), State.modSin_sin_same _ hw]
    exact ⟨rfl, rfl⟩
  · rw [State.modSin_sin_same _ hw]
    exact ⟨rfl, rfl⟩

/-! ### The reset of inputs -/

/-- What SafetyInputReset clears of an input (R347). -/
def Sin.cleared (i : Sin) : Sin := { i with discBlock := false, restartBlock := false, bothDemanded := false, bothEnded := false }

/-- The inputs that a SafetyInputReset names. -/
def namedInputs (bits : Nat) : List Nat := [1, 2, 3, 4, 5, 6, 7, 8].filter fun n => bit bits (n - 1)

theorem State.inputReset_of_resettable {bits : Nat} (hb : ∃ n ∈ [1, 2, 3, 4, 5, 6, 7, 8], bit bits (n - 1) = true)
    (hr : ∀ n ∈ [1, 2, 3, 4, 5, 6, 7, 8], bit bits (n - 1) = true → (s.sin n).resettable = true) :
    s.inputReset bits = (let u := (namedInputs bits).foldl (fun v n => v.modSin n Sin.cleared) s
      (u.cond 0x0D02 (u.si.sins.any fun (_, i) => i.discBlock), 0, [])) := by
  obtain ⟨n, hn, hbit⟩ := hb
  have hne : (namedInputs bits).isEmpty = false := by
    have hmem : n ∈ namedInputs bits := List.mem_filter.2 ⟨hn, hbit⟩
    simpa using List.ne_nil_of_mem hmem
  have hall : ((namedInputs bits).all fun n => (s.sin n).resettable) = true := by
    rw [List.all_eq_true]
    intro k hk
    obtain ⟨hm, hk⟩ := List.mem_filter.1 hk
    exact hr k hm hk
  exact if_neg (by simp only [← namedInputs.eq_1, hne, hall]; simp)

theorem Moves.sin (h : Moves [] s t) (n : Nat) : t.sin n = s.sin n := State.sin_of_moves (h.mono (by decide)) n

theorem namedInputs_fold_sin {bits n : Nat} (hw : tabWf {} s.si.sins = true) (hn : n ∈ [1, 2, 3, 4, 5, 6, 7, 8]) :
    ((namedInputs bits).foldl (fun v n => v.modSin n Sin.cleared) s).sin n =
      if bit bits (n - 1) then (s.sin n).cleared else s.sin n := by
  have hw0 : SinsOnly s s := ⟨hw, rfl, rfl⟩
  have hnd : (namedInputs bits).Nodup := List.Nodup.filter _ (by decide)
  split
  next hb =>
    obtain ⟨u, hu, hr, he⟩ := foldl_entry (f := fun v n => v.modSin n Sin.cleared) State.sin (SinsOnly s)
      (fun u k h => h.modSin) (fun u k n _ h => State.modSin_sin_other _ h) hnd hw0 (List.mem_filter.2 ⟨hn, hb⟩)
    rw [he, State.modSin_sin_same _ hu.1, hr]
  next hb =>
    have key : ∀ (l : List Nat) (u : State), n ∉ l → (l.foldl (fun v n => v.modSin n Sin.cleared) u).sin n = u.sin n := by
      intro l
      induction l with
      | nil => exact fun _ _ => rfl
      | cons k l ih =>
        intro u hl
        obtain ⟨hk, hl⟩ := not_or.1 (List.mem_cons.not.1 hl)
        exact (ih _ hl).trans (State.modSin_sin_other _ (Ne.symm hk))
    exact key _ _ fun h => hb (List.mem_filter.1 h).2

/-- Settles O10. -/
theorem safetyInputCommands : Obligations.SafetyInputCommands := by
  unfold Obligations.SafetyInputCommands
  refine ⟨fun s levels hw => ?_, fun s => ?_, fun s hw => ?_, fun s r x bits h hb hr => ?_, fun s r x bits hw hb hr => ?_,
    fun s ht hc hr => ?_⟩
  · have hs : SinsOnly s (s.sampled levels) := SinsOnly.sampled levels hw
    have hm : Moves [.fm] (s.sampled levels).windowed (s.sampled levels).windowed.inputFaults := Moves.self.inputFaults
    have hsi : (s.sampled levels).windowed.inputFaults.si = (s.sampled levels).windowed.si := hm .si (by decide)
    refine exists_next (t := (s.sampled levels).windowed.inputFaults) rfl ⟨fun n hn => ?_, ?_, fun hl => ?_, ?_⟩
    · rw [State.sin_of_moves hm, State.windowed_sin]
      exact State.sampled_raw levels hw hn
    · rw [hsi, State.windowed, State.modSi_si, hs.2.1]
    · rw [hsi, State.windowed, State.modSi_si, hs.2.1]
      exact if_pos hl
    · exact ((State.sampled_moves levels).mono (by decide)).trans
        (((Moves.self.modSi (by decide) _ : Moves [.si] _ _).mono (by decide)).trans (hm.mono (by decide)))
  · exact exists_next rfl ⟨rfl, (Alters.refl _ _).modSi (by decide) _⟩
  · refine exists_next rfl ⟨fun n hn => ?_, Moves.self.trans (.foldl (fun _ _ => Moves.self.gridInput) _ _)⟩
    obtain ⟨u, hu, hr, he⟩ := foldl_entry (f := State.gridInput) State.sin (SinsOnly s)
      (fun u k h => h.gridInput k) (fun u k n _ h => State.gridInput_other h) (by decide) (show SinsOnly s s from ⟨hw, rfl, rfl⟩) hn
    have hd : u.Disagrees n ↔ s.Disagrees n := by simp only [State.Disagrees, hu.safeGet, hr]
    rw [he]
    by_cases h : s.Disagrees n
    · refine Eq.mpr (if_pos h) ?_
      have := State.gridInput_same hu.1 (hd.2 h)
      rwa [hr, hu.safeGet] at this
    · refine Eq.mpr (if_neg h) ?_
      rw [State.gridInput_of_agrees (mt hd.1 h), State.modSin_sin_same _ hu.1, hr]
  · refine exists_next rfl (State.liveReq_waits false _ _ (by simp [leBytes]) h fun s1 hm => ?_)
    rw [State.inputReset_of_resettable hb fun n hn h => by rw [hm.sin]; exact hr n hn h]
  · refine ⟨_, State.inputReset_of_resettable hb hr, fun n hn => ?_, ?_⟩
    · rw [State.sin_of_moves (State.cond_moves _ _ _ _)]
      exact namedInputs_fold_sin hw hn
    · exact (Moves.self.trans (.foldl (fun _ _ => Moves.self.modSin) _ _)).cond (by decide) _ _ _
  · exact exists_next (next_of_pos (by simp [ht, hc, hr])) ⟨rfl, (Alters.refl _ _).modSi (by decide) _⟩

end
end Sys2Proof.Machine
end

section
/-! Cross-trip (R351, R352). -/

namespace Sys2Proof.Machine

-- One theorem after another: each thread of the checker takes 256 MB of stack.
set_option Elab.async false

section
variable {s t u : State}

/-! ### The output stages follow what is commanded off -/

/-- A table of which every entry changes in the same way. -/
theorem tabGet_map {α : Type} (d : α) (k : Nat) {f : α → α} (hf : f d = d) (l : Tab α) :
    tabGet d k (l.map fun (j, c) => (j, f c)) = f (tabGet d k l) := by
  induction l with
  | nil => exact hf.symm
  | cons p l ih =>
    obtain ⟨j, c⟩ := p
    simp only [List.map_cons, tabGet]
    split
    · rfl
    · exact ih

theorem State.startPulse_coil (n : Nat) : s.startPulse.coil n = s.coil n := by
  unfold State.startPulse
  split
  · rfl
  · split
    · rfl
    · rfl

theorem State.cutOutputs_coil (n : Nat) :
    s.cutOutputs.coil n = { s.coil n with drive := (s.coil n).drive && (s.coil n).cmd } := by
  rw [State.cutOutputs, State.startPulse_coil]
  exact tabGet_map ({} : Coil) n (f := fun c => { c with drive := c.drive && c.cmd }) rfl s.os.coils

/-- Coils that are all off are driven no longer. -/
theorem CoilsOff.cutOutputs (h : CoilsOff s) :
    CoilsOff s.cutOutputs ∧ ∀ n ∈ [1, 2, 3, 4], (s.cutOutputs.coil n).drive = false := by
  refine ⟨fun n hn => ?_, fun n hn => ?_⟩
  · rw [State.cutOutputs_coil]
    exact h n hn
  · rw [State.cutOutputs_coil]
    show ((s.coil n).drive && (s.coil n).cmd) = false
    rw [h n hn, Bool.and_false]

/-- A pulse that starts counts, and is all that the safety island notes of it. -/
theorem State.startPulse_si : s.startPulse.si =
    { s.si with tripPulses := s.startPulse.si.tripPulses, demandPulses := s.startPulse.si.demandPulses } := by
  unfold State.startPulse
  split
  · rfl
  · split
    · rfl
    · rfl

theorem State.startPulse_of_none (h : s.os.tripDue = false) : s.startPulse = s := if_pos (by simp [h])

theorem State.cutOutputs_si_of_none (h : s.os.tripDue = false) : s.cutOutputs.si = s.si := by
  rw [State.cutOutputs, State.startPulse_of_none (by exact h)]
  rfl

/-! ### Cross-trip -/

/-- The coils drop at once, stage included, and the reaction is noted (R351). -/
def State.crossed (s : State) : State := ((s.take .coils).cutOutputs).modSi fun i => { i with xtripIn := true, xtripMatched := false }

theorem State.crossed_moves : Moves [.os, .pm, .pc, .de, .nv, .si] s s.crossed :=
  (Moves.self.take.cutOutputs).modSi (by decide) _

theorem State.crossed_si : s.crossed.si = { s.si with
    xtripIn := true, xtripMatched := false, lastReaction := 1, lastReactionStamp := s.tb.now
    tripPulses := s.crossed.si.tripPulses, demandPulses := s.crossed.si.demandPulses } := by
  have hd : s.dropCoils.si = s.si := State.dropCoils_si s
  obtain ⟨a, b, hp⟩ : ∃ a b, (s.take .coils).cutOutputs.si = { (s.take .coils).si with tripPulses := a, demandPulses := b } :=
    ⟨_, _, State.startPulse_si⟩
  have hc : s.crossed.si = { s.si with
      xtripIn := true, xtripMatched := false, lastReaction := 1, lastReactionStamp := s.tb.now
      tripPulses := a, demandPulses := b } := by
    rw [State.crossed, State.modSi_si, hp]
    show ({ s.dropCoils.si with
      xtripIn := true, xtripMatched := false, lastReaction := 1, lastReactionStamp := s.tb.now
      tripPulses := a, demandPulses := b } : Safety) = _
    rw [hd]
  rw [hc]

theorem State.crossed_pulses (h : s.os.tripDue = false) :
    s.crossed.si.tripPulses = s.si.tripPulses ∧ s.crossed.si.demandPulses = s.si.demandPulses := by
  have hd : s.dropCoils.si = s.si := State.dropCoils_si s
  have ht : (s.take .coils).os.tripDue = false := by
    show s.dropCoils.os.tripDue = false
    rw [State.dropCoils_os]
    exact h
  rw [State.crossed, State.modSi_si, State.cutOutputs_si_of_none ht]
  show s.dropCoils.si.tripPulses = _ ∧ s.dropCoils.si.demandPulses = _
  rw [hd]
  exact ⟨rfl, rfl⟩

theorem State.crossed_condFm : s.crossed.condFm 0x0D0B 9 = s.condFm 0x0D0B 9 := by
  have hfm : s.crossed.fm = s.fm := State.crossed_moves .fm (by decide)
  have htb : s.crossed.tb = s.tb := State.crossed_moves .tb (by decide)
  rw [State.condFm, State.condFm, hfm, htb]
  rfl

theorem CoilsOff.of_os (h : CoilsOff s) (e : t.os = s.os) : CoilsOff t := by
  intro n hn
  rw [State.coil, e]
  exact h n hn

theorem execXtripInAssert_of_enabled (hx : s.safeGet 0x2D86 4 = 1) (hc : s.coreUp = true) :
    execXtripInAssert s = .next (s.crossed.raiseCond 0x0D0B 9) := next_of_pos (by simp [hx, hc])

/-- Settles O11. -/
theorem crossTripCommands : Obligations.CrossTripCommands := by
  unfold Obligations.CrossTripCommands
  refine ⟨fun s hx hc hw => ?_, fun s hi hm => ?_, fun s => ?_, fun s => ?_⟩
  · have hm : Moves [.fm] s.crossed (s.crossed.raiseCond 0x0D0B 9) := State.raiseCond_moves _ _ _
    have hos : (s.crossed.raiseCond 0x0D0B 9).os = s.crossed.os := hm .os (by decide)
    have hsi : (s.crossed.raiseCond 0x0D0B 9).si = s.crossed.si := hm .si (by decide)
    obtain ⟨hoff, hdrive⟩ : CoilsOff (s.take .coils).cutOutputs ∧ ∀ n ∈ [1, 2, 3, 4], ((s.take .coils).cutOutputs.coil n).drive = false :=
      CoilsOff.cutOutputs (CoilsOff.of_os (s.dropCoils_off hw) rfl)
    refine exists_next (execXtripInAssert_of_enabled hx hc) ⟨hoff.of_os hos, fun n hn => ?_, ?_, fun hd => ?_, ?_, ?_⟩
    · rw [State.coil, hos]
      exact hdrive n hn
    · rw [hsi]
      exact State.crossed_si
    · rw [hsi]
      exact State.crossed_pulses hd
    · rw [State.raiseCond_fm]
      exact State.crossed_condFm
    · exact (State.crossed_moves.mono (by decide)).raiseCond (by decide) _ _
  · exact exists_next (next_of_pos (by simp [hi, hm])) ⟨rfl, (Alters.refl _ _).modSi (by decide) _⟩
  · exact exists_next rfl ⟨rfl, rfl, ((Alters.refl _ _).modSi (by decide) _).modFm (by decide) _⟩
  · exact exists_next rfl ⟨rfl, (Alters.refl _ _).modSi (by decide) _⟩

end
end Sys2Proof.Machine
end

section
/-! Output stages: off-pulses, TRIP_OUT tests and pulses, the short circuit of a coil (R65, R67, R349, R353). -/

namespace Sys2Proof.Machine

-- One theorem after another: each thread of the checker takes 256 MB of stack.
set_option Elab.async false

section
variable {s t u : State}

/-! ### A fault of an output stage -/

theorem State.outputFaultAt_os (code item : Nat) : (s.outputFaultAt code item).os = { s.os with lastFault := s.tb.now } :=
  State.raiseCond_moves _ _ _ .os (by decide)

theorem State.outputFaultAt_fm (code item : Nat) : (s.outputFaultAt code item).fm = s.condFm code item :=
  State.raiseCond_fm _ _ _

/-! ### Off-pulses -/

/-- An off-pulse has ended (R349). -/
def State.pulsed (s : State) : State := s.modOs fun o => { o with pulseSwitch := none, offPulses := o.offPulses + 1 }

theorem execOffPulseEnd_of_uvr {changed : Bool} (hk : s.os.pulseSwitch = some 8) (hu : s.os.uvr = true)
    (ho : s.os.uvrOn = true) : execOffPulseEnd changed s = .next (
      let now := if changed then 0 else s.os.uvrNoChange1 + 1
      let u := s.pulsed.modOs fun o => { o with uvrNoChange1 := now, uvr1 := changed }
      if 2 ≤ now then u.stuckClosed 5 0 else u) := by
  unfold execOffPulseEnd
  rw [hk]
  dsimp only
  rw [if_neg (by simp [hu, ho])]
  rfl

theorem execOffPulseEnd_of_coil {k : Nat} (hk : s.os.pulseSwitch = some k) (h8 : k < 8)
    (hc : (s.coil (k / 2 + 1)).cmd = true) (hd : (s.coil (k / 2 + 1)).drive = true) :
    execOffPulseEnd true s = .next (s.pulsed.modCoil (k / 2 + 1) fun c =>
      if k % 2 = 0 then { c with noChangeHs := 0 } else { c with noChangeLs := 0 }) := by
  have h8' : (k == 8) = false := by simpa using Nat.ne_of_lt h8
  have h9' : (k == 9) = false := by simpa using Nat.ne_of_lt (Nat.lt_succ_of_lt h8)
  unfold execOffPulseEnd
  rw [hk]
  simp only [h8, h8', h9', hc, hd, if_true, Bool.and_self, Bool.not_true, Bool.false_eq_true, if_false, beq_iff_eq]
  rfl

/-! ### A pulse at an output commit -/

/-- What a pulse that is due waits on, from one state to the next. -/
def PulseAlike (s t : State) : Prop :=
  t.os.tripDue = s.os.tripDue ∧ t.pm.onStore = s.pm.onStore ∧ t.si.tripPulses = s.si.tripPulses

theorem PulseAlike.trans (h : PulseAlike s t) (k : PulseAlike t u) : PulseAlike s u := by
  obtain ⟨h1, h2, h3⟩ := h
  obtain ⟨k1, k2, k3⟩ := k
  exact ⟨k1.trans h1, k2.trans h2, k3.trans h3⟩

theorem PulseAlike.of_moves {ps : List Part} (h : Moves ps s t) (hp : ∀ p ∈ [Part.os, .pm, .si], p ∉ ps) : PulseAlike s t := by
  have hos : t.os = s.os := h .os (hp _ (by decide))
  have hpm : t.pm = s.pm := h .pm (hp _ (by decide))
  have hsi : t.si = s.si := h .si (hp _ (by decide))
  exact ⟨by rw [hos], by rw [hpm], by rw [hsi]⟩

/-- Without a demand, a safety commit starts no reaction. -/
theorem State.safetyCommit_pulseAlike (hown : s.si.rowOwn = 0) (ht : s.si.tripTest = false) :
    PulseAlike s (s.safetyCommit 0) := by
  have hbit : ∀ n, bit 0 n = false := fun n => by simp [bit]
  have hnone : ∀ (f : State → Nat → State) (l : List Nat) (u : State),
      l.foldl (fun t n => if bit 0 n then f t n else t) u = u := by
    intro f l
    induction l with
    | nil => exact fun _ => rfl
    | cons n l ih =>
      intro u
      rw [List.foldl_cons, hbit, if_neg Bool.false_ne_true]
      exact ih u
  unfold State.safetyCommit
  extract_lets own pair all before s1 pulses s2 s3
  have hall : all = 0 := by
    unfold all own pair
    rw [hown]
    rfl
  have h1 : s1 = s := by
    unfold s1
    rw [hall, ht, hnone, if_neg Bool.false_ne_true]
  have h2 : PulseAlike s s2 := by
    unfold s2
    rw [h1]
    exact ⟨rfl, rfl, rfl⟩
  have h3 : PulseAlike s s3 :=
    (h2.trans (.of_moves (Moves.self.functionFaults : Moves [.fm] _ _) (by decide))).trans ⟨rfl, rfl, rfl⟩
  rw [ht, if_neg Bool.false_ne_true]
  unfold State.restoreUvr
  split
  · exact h3.trans ⟨rfl, rfl, rfl⟩
  · exact h3

theorem State.commitOutputs_pulseAlike {c : CommitInp} (hl : c.late = false) (hm : c.mismatch = false)
    (hr : s.loaderRuns = false) (hown : s.si.rowOwn = 0) (ht : s.si.tripTest = false) (ha : s.ty.agreedTwin = false) :
    PulseAlike s (s.commitOutputs c) := by
  unfold State.commitOutputs
  rw [hl, hm, hr, ha]
  extract_lets v w x
  have hv : Moves [.fm] s v := (Moves.self.cond (by decide) _ _ _).cond (by decide) _ _ _
  have hx : PulseAlike s x := (PulseAlike.of_moves hv (by decide)).trans ⟨rfl, rfl, rfl⟩
  have hsi : v.si = s.si := hv .si (by decide)
  refine hx.trans (State.safetyCommit_pulseAlike ?_ ?_)
  · show v.si.rowOwn = 0
    rw [hsi]
    exact hown
  · show v.si.tripTest = false
    rw [hsi]
    exact ht

theorem State.coilsOff_onStore (l : List Nat) : (l.foldl State.coilOff s).pm.onStore = s.pm.onStore := by
  induction l generalizing s with
  | nil => rfl
  | cons n l ih => exact ih

theorem State.dropCoils_onStore : s.dropCoils.pm.onStore = s.pm.onStore := by
  unfold State.dropCoils
  extract_lets t v
  have ht : t.pm.onStore = s.pm.onStore := State.coilsOff_onStore _
  split
  · split
    · have hj : Moves [.nv] v v.journalEnergy := Moves.self.journalEnergy (by decide)
      rw [hj .pm (by decide)]
      exact ht
    · exact ht
  · split
    · exact ht
    · exact ht

theorem State.safeOff_onStore : s.safeOff.pm.onStore = s.pm.onStore := by
  unfold State.safeOff
  split
  · exact State.coilsOff_onStore _
  · exact State.dropCoils_onStore

theorem State.takeClaim_onStore (kind : Nat) : (s.takeClaim kind).pm.onStore = s.pm.onStore := by
  unfold State.takeClaim
  extract_lets t drive v ago w z
  have hv : Moves [.os] t v := by
    refine .foldl (fun u n => ?_) _ _
    unfold drive
    exact .ite (Moves.self.modCoil (by decide) _ _) .self
  have hpm : v.pm = t.pm := hv .pm (by decide)
  have hw : w.pm.onStore = s.pm.onStore := by
    have hvs : v.pm.onStore = s.pm.onStore := by rw [hpm]; rfl
    unfold w
    split
    · exact hvs
    · exact hvs
  have hz : Moves [.fm] w z := Moves.self.raiseEvent (by decide) _ _
  have hzp : z.pm = w.pm := hz .pm (by decide)
  have hs : z.goSolo.pm.onStore = w.pm.onStore := by
    rw [← hzp]
    rfl
  split
  · exact hs.trans hw
  · split
    · exact hs.trans hw
    · rw [hzp]
      exact hw

theorem State.driveWord_pulseAlike (word : Nat) (driving : Bool) : PulseAlike s (s.driveWord word driving) := by
  have hm : Moves [.fm, .pm, .pc, .de, .os, .ty, .nv] s (s.driveWord word driving) := Moves.self.driveWord
  have hsi : (s.driveWord word driving).si = s.si := hm .si (by decide)
  refine ⟨?_, ?_, by rw [hsi]⟩
  · rw [State.driveWord_os]
  · unfold State.driveWord
    extract_lets open' t
    split
    · exact State.takeClaim_onStore _
    · split
      · exact State.safeOff_onStore
      · rfl

theorem State.takeCommands_pulse (hd : s.os.tripDue = true) (hi : s.ld.islandStopped = false) (ho : s.pm.onStore = false) :
    s.takeCommands.os.tripActive = true ∧ s.takeCommands.os.tripDue = false ∧
      s.takeCommands.os.lastTrip = some s.takeCommands.tb.now ∧ s.takeCommands.si.tripPulses = s.si.tripPulses + 1 := by
  have key : ∀ v : State, v.os.tripDue = true → v.ld.islandStopped = false → v.pm.onStore = false →
      v.startPulse = (v.modOs fun o => { o with tripActive := true, tripDue := false, lastTrip := some v.tb.now }).modSi fun i =>
        { i with tripPulses := i.tripPulses + 1, demandPulses := i.demandPulses + 1 } := by
    intro v hd hi ho
    unfold State.startPulse
    rw [if_neg (by simp [hd]), if_neg (by simp [hi, ho])]
  unfold State.takeCommands
  extract_lets n begins v
  split
  · rw [key (v.modPm fun p => { p with lastPullIn := some s.tb.now }) hd hi ho]
    exact ⟨rfl, rfl, rfl, rfl⟩
  · rw [key v hd hi ho]
    exact ⟨rfl, rfl, rfl, rfl⟩

/-- A pulse that is due starts at an output commit that nothing holds up (R353). -/
theorem State.committed_pulse {c : CommitInp} (hl : c.late = false) (hm : c.mismatch = false) (hr : s.loaderRuns = false)
    (hown : s.si.rowOwn = 0) (ht : s.si.tripTest = false) (ha : s.ty.agreedTwin = false) (hd : s.os.tripDue = true)
    (hi : s.ld.islandStopped = false) (ho : s.pm.onStore = false) :
    (s.committed c).os.tripActive = true ∧ (s.committed c).os.tripDue = false ∧
      (s.committed c).os.lastTrip = some (s.committed c).tb.now ∧ (s.committed c).si.tripPulses = s.si.tripPulses + 1 := by
  unfold State.committed
  extract_lets driving v word
  have hc : PulseAlike s ((s.modSi fun i => { i with rowLoss := false }).commitOutputs c) :=
    PulseAlike.trans ⟨rfl, rfl, rfl⟩ (State.commitOutputs_pulseAlike hl hm hr hown ht ha)
  have hv : PulseAlike s v := hc.trans (.of_moves (Moves.self.pinCheck : Moves [.fm, .ty] _ v) (by decide))
  obtain ⟨kd, ko, kp⟩ := hv.trans (State.driveWord_pulseAlike word driving)
  have hmv : Moves [.fm, .rows, .pm, .pc, .de, .si, .os, .nv, .ty] s (v.driveWord word driving) :=
    ((Moves.self.modSi (by decide) _).commitOutputs.pinCheck).driveWord
  have hld : (v.driveWord word driving).ld = s.ld := hmv .ld (by decide)
  obtain ⟨h1, h2, h3, h4⟩ := State.takeCommands_pulse (s := v.driveWord word driving) (by rw [kd]; exact hd)
    (by rw [hld]; exact hi) (by rw [ko]; exact ho)
  have hrest : Moves [.fm, .ty] (v.driveWord word driving).takeCommands
      ((((((v.driveWord word driving).takeCommands).healthRow word).claimPairCheck c.readbackOk).sendDigest).sendSegment) :=
    Moves.self.healthRow.claimPairCheck.sendDigest.sendSegment
  rw [hrest .os (by decide), hrest .tb (by decide), hrest .si (by decide)]
  exact ⟨h1, h2, h3, h4.trans (by rw [kp])⟩

/-- Settles O12. -/
theorem outputStageCommands : Obligations.OutputStageCommands := by
  unfold Obligations.OutputStageCommands
  refine ⟨fun s hon => ?_, fun s hk hu ho => ?_, fun s hk hu ho h1 => ?_, fun s k hk h8 hc hd => ?_, fun s ha => ?_,
    fun s ha h1 => ?_, fun s => ?_, fun s => ?_, fun s i hd ha h1 h3 hi => ?_,
    fun s c hr hc hd ha hi ho hs hl hm hld ht hown hag hy => ?_, fun s n hn hw => ?_⟩
  · exact exists_next (next_of_pos hon) ⟨rfl, (Alters.refl _ _).modOs (by decide) _⟩
  · exact exists_next (execOffPulseEnd_of_uvr hk hu ho) ⟨rfl, ((Alters.refl _ _).modOs (by decide) _).modOs (by decide) _⟩
  · have he := execOffPulseEnd_of_uvr (changed := false) hk hu ho
    rw [h1] at he
    have hm : Moves [.os] s ((s.pulsed.modOs fun o => { o with uvrNoChange1 := 2, uvr1 := false }).dropUvr.modOs fun o =>
        { o with stuckAny := true }) :=
      ((((Moves.self.modOs (by decide) _).modOs (by decide) _).modOs (by decide) _).modOs (by decide) _)
    refine exists_next he ⟨?_, ?_, ?_, ?_, (hm.mono (by decide)).outputFaultAt⟩
    · exact congrArg Outputs.uvr (State.outputFaultAt_os 0x0E01 6)
    · exact congrArg Outputs.stuckAny (State.outputFaultAt_os 0x0E01 6)
    · exact congrArg Outputs.lastFault (State.outputFaultAt_os 0x0E01 6)
    · exact (State.outputFaultAt_fm _ _).trans (hm.condFm (by decide) _ _)
  · exact exists_next (execOffPulseEnd_of_coil hk h8 hc hd) ⟨rfl, rfl, rfl, ((Alters.refl _ _).modOs (by decide) _).modCoil (by decide) _ _⟩
  · have he : execTripSwitchTest 1 false s = .next ((s.modOs fun o => { o with trip1 := false, trip1Stuck := true }).outputFaultAt 0x0E07 5) :=
      if_neg (by simp [ha])
    have hm : Moves [.os] s (s.modOs fun o => { o with trip1 := false, trip1Stuck := true }) := Moves.self.modOs (by decide) _
    refine exists_next he ⟨?_, ?_, ?_, (hm.mono (by decide)).outputFaultAt⟩
    · exact congrArg Outputs.trip1 (State.outputFaultAt_os 0x0E07 5)
    · exact congrArg Outputs.trip1Stuck (State.outputFaultAt_os 0x0E07 5)
    · exact (State.outputFaultAt_fm _ _).trans (hm.condFm (by decide) _ _)
  · have he : execTripSwitchTest 2 true s = .next ((s.modOs fun o => { o with trip2 := true, trip2Stuck := false }).clearCond 0x0E07) := by
      unfold execTripSwitchTest
      rw [if_neg (by simp [ha])]
      exact congrArg _ (if_neg (by simp [h1]))
    exact exists_next he ⟨rfl, rfl, ((Alters.refl _ _).modOs (by decide) _).modFm (by decide) _⟩
  · have hm : Moves [.os] s (s.modOs fun o => { o with tripCont := false }) := Moves.self.modOs (by decide) _
    exact exists_next rfl ⟨State.outputFaultAt_os _ _, (State.outputFaultAt_fm _ _).trans (hm.condFm (by decide) _ _),
      (hm.mono (by decide)).outputFaultAt⟩
  · exact exists_next rfl ⟨rfl, (Alters.refl _ _).modOs (by decide) _⟩
  · refine exists_next (next_of_pos (by simp [hd, ha, h1, h3, hi])) ⟨by simp, rfl, ?_⟩
    exact ((Alters.refl _ _).runPast (by decide) _ _).modOs (by decide) _
  · have he := execOutputCommit_eq c hr hc hy
    rw [if_neg (by simp [hs])] at he
    have hv : Alters [.tb, .rows] s s.atCommit := ((Alters.refl _ _).runTo (by decide) _).modRows (by decide) _
    have hos : s.atCommit.os = s.os := hv .os (by decide)
    have hsi : s.atCommit.si = s.si := hv .si (by decide)
    have hld' : s.atCommit.ld = s.ld := hv .ld (by decide)
    have hpm : s.atCommit.pm = s.pm := hv .pm (by decide)
    have hty : s.atCommit.ty = s.ty := hv .ty (by decide)
    have hcu : s.atCommit.loaderRuns = s.loaderRuns := by simp only [State.loaderRuns, hld']
    obtain ⟨h1, h2, h3, h4⟩ := State.committed_pulse (s := s.atCommit) (c := c) hl hm (by rw [hcu]; exact hld)
      (by rw [hsi]; exact hown) (by rw [hsi]; exact ht) (by rw [hty]; exact hag) (by rw [hos]; exact hd)
      (by rw [hld']; exact hi) (by rw [hpm]; exact ho)
    exact exists_next he ⟨h1, h2, h3, by rw [h4, hsi]⟩
  · have hm : Moves [.os, .pm] s ((s.coilOff n).modCoil n fun c =>
        { c with drive := false, shorted := true, faults := setBit c.faults 4 true }) :=
      (Moves.self.coilOff (by decide) (by decide) _).modCoil (by decide) _ _
    have hf : ∀ u : State, (u.outputFaultAt 0x0E04 n).os.coils = u.os.coils := fun u => by rw [State.outputFaultAt_os]
    refine exists_next rfl ⟨?_, fun k hk => ?_, fun q hq => ?_, ?_, (hm.mono (by decide)).outputFaultAt⟩
    · rw [State.coil, hf]
      refine (State.modCoil_coil_same n _ (s.coilOff_wf n hw)).trans ?_
      rw [State.coilOff_coil_same _ _ hw]
      rfl
    · rw [State.coil, hf]
      exact (State.modCoil_coil_other _ hk).trans (State.coilOff_coil_other _ _ _ hk)
    · have hpm : (((s.coilOff n).modCoil n fun c =>
          { c with drive := false, shorted := true, faults := setBit c.faults 4 true }).outputFaultAt 0x0E04 n).pm =
            (s.coilOff n).pm :=
        State.raiseCond_moves _ 0x0E04 n .pm (by decide)
      rw [hpm, State.coilOff_pm] at hq
      simpa using (List.mem_filter.1 hq).2
    · exact (State.outputFaultAt_fm _ _).trans (hm.condFm (by decide) _ _)

end
end Sys2Proof.Machine
end

section
/-! The safety set and the proof test (R355 to R361). -/

namespace Sys2Proof.Machine

-- One theorem after another: each thread of the checker takes 256 MB of stack.
set_option Elab.async false

/-- A module whose pool of held writes is full of event log records (R300). -/
def logPoolFull : State := { State.reset with nv := { State.reset.nv with held := List.replicate 21 { isLog := true } } }

/-- A confirmation of the safety set enters the event log, and the full pool drops a record for it: 0x0B06 (R300). -/
theorem logPoolFull_confirm : ((logPoolFull.confirmSet 0 true).1.fm.pending.map (·.code)) = [0x0B06] := by
  decide

/-- Refutes O13: the third clause lets a confirmed safety set change no fault but 0x0D0C, and leaves out that its event log
record may find the pool full. -/
theorem not_safetySetCommands : ¬ Obligations.SafetySetCommands := by
  unfold Obligations.SafetySetCommands
  rintro ⟨-, -, h, -⟩
  obtain ⟨t, e, -, hf, -⟩ := h logPoolFull {} {} (by decide)
  have e : logPoolFull.confirmSet 0 true = (t, 0, []) := e
  have hp := logPoolFull_confirm
  rw [e, hf] at hp
  exact absurd hp (by decide)

end Sys2Proof.Machine
end

section
/-! Fault handlers and the acknowledge (R42 to R45), and the room of the pool of held writes (R300). -/

namespace Sys2Proof.Machine

-- One theorem after another: each thread of the checker takes 256 MB of stack.
set_option Elab.async false

section
variable {s t u : State}

/-! ### Log records in the pool -/

/-- A log record with this kind, code and stamp is held. -/
def HoldsLog (kind code : Nat) (stamp : Stamp) (l : List Held) : Prop :=
  ∃ h ∈ l, h.isLog = true ∧ h.log.kind = kind ∧ h.log.code = code ∧ h.log.stamp = stamp

section Pool
variable {kind code : Nat} {stamp : Stamp} {l : List Held}

theorem HoldsLog.beginHead (h : HoldsLog kind code stamp l) (isLog : Bool) : HoldsLog kind code stamp (beginHead isLog l) := by
  induction l with
  | nil => exact h
  | cons g l ih =>
    obtain ⟨x, hx, hlog⟩ := h
    unfold Machine.beginHead
    split
    · rcases List.mem_cons.1 hx with rfl | hx
      · exact ⟨_, List.mem_cons_self, hlog⟩
      · exact ⟨x, List.mem_cons_of_mem _ hx, hlog⟩
    · rcases List.mem_cons.1 hx with rfl | hx
      · exact ⟨x, List.mem_cons_self, hlog⟩
      · obtain ⟨y, hy, k⟩ := ih ⟨x, hx, hlog⟩
        exact ⟨y, List.mem_cons_of_mem _ hy, k⟩

theorem HoldsLog.beginFirst (h : HoldsLog kind code stamp l) (isLog : Bool) : HoldsLog kind code stamp (beginFirst isLog l) := by
  unfold Machine.beginFirst
  split
  · exact h
  · exact h.beginHead isLog

theorem HoldsLog.nvKick (h : HoldsLog kind code stamp s.nv.held) : HoldsLog kind code stamp s.nvKick.nv.held := by
  unfold State.nvKick
  split
  · exact (h.beginFirst false).beginFirst true
  · exact h

/-- A log record stays held when a record joins the pool. -/
theorem HoldsLog.coalesce (h : HoldsLog kind code stamp l) (g : Held) : HoldsLog kind code stamp (coalesce g l) := by
  obtain ⟨x, hx, hlog, k⟩ := h
  unfold Machine.coalesce
  split
  · exact ⟨x, List.mem_map.2 ⟨x, hx, if_neg (by simp [hlog])⟩, hlog, k⟩
  · exact ⟨x, List.mem_append_left _ hx, hlog, k⟩

theorem HoldsLog.journal (h : HoldsLog kind code stamp s.nv.held) (id : Nat) (payload : List Int) :
    HoldsLog kind code stamp (s.journal id payload).nv.held :=
  HoldsLog.nvKick (s := s.modNv fun n => { n with held := Machine.coalesce { id, payload } n.held }) (h.coalesce _)

/-! ### Room in the pool -/

theorem sharedCount_beginHead (isLog : Bool) (l : List Held) : sharedCount (beginHead isLog l) = sharedCount l := by
  induction l with
  | nil => rfl
  | cons h l ih =>
    have hs : ({ h with begun := true } : Held).shared = h.shared := rfl
    unfold sharedCount at *
    unfold beginHead
    split
    · simp only [List.filter_cons, hs]
      split
      · rfl
      · rfl
    · simp only [List.filter_cons]
      split
      · simp [ih]
      · exact ih

theorem sharedCount_beginFirst (isLog : Bool) (l : List Held) : sharedCount (beginFirst isLog l) = sharedCount l := by
  unfold beginFirst
  split
  · rfl
  · exact sharedCount_beginHead isLog l

theorem State.sharedCount_nvKick : sharedCount s.nvKick.nv.held = sharedCount s.nv.held := by
  unfold State.nvKick
  split
  · exact (sharedCount_beginFirst true _).trans (sharedCount_beginFirst false _)
  · rfl

/-- A record that joins the pool takes no place from the shared ones, when it is not a settings record. -/
theorem sharedCount_coalesce {g : Held} (hg : g.shared = false) (l : List Held) :
    sharedCount (coalesce g l) = sharedCount l := by
  unfold coalesce sharedCount
  split
  · have hf : (Held.shared ∘ fun x : Held => if !x.isLog && x.id == g.id && !x.begun then { x with payload := g.payload } else x) =
        Held.shared := by
      funext x
      show Held.shared (if _ then _ else x) = _
      split
      · rfl
      · rfl
    rw [List.filter_map, List.length_map, hf]
  · simp [hg]

theorem State.sharedCount_journal {id : Nat} (h : settingsRecord id = false) (payload : List Int) :
    sharedCount (s.journal id payload).nv.held = sharedCount s.nv.held := by
  rw [State.journal, State.sharedCount_nvKick]
  exact sharedCount_coalesce (g := { id, payload }) h _

theorem State.logAdmit_of_room (h : sharedCount s.nv.held < 21) (r : LogRec) :
    ∃ f, s.logAdmit r = (s.modNv fun n =>
      { n with held := n.held ++ [{ isLog := true, log := { r with flags := f } }] }).nvKick := by
  unfold State.logAdmit
  dsimp only
  rw [if_pos h]
  split
  · exact ⟨_, rfl⟩
  · exact ⟨r.flags, rfl⟩

theorem State.logAdmit_holds (h : sharedCount s.nv.held < 21) (r : LogRec) :
    HoldsLog r.kind r.code r.stamp (s.logAdmit r).nv.held := by
  obtain ⟨f, e⟩ := s.logAdmit_of_room h r
  rw [e]
  exact HoldsLog.nvKick ⟨_, List.mem_append_right _ (List.mem_singleton.2 rfl), rfl, rfl, rfl, rfl⟩

theorem State.logAdmit_alters (h : sharedCount s.nv.held < 21) (r : LogRec) : Alters [.nv] s (s.logAdmit r) := by
  obtain ⟨f, e⟩ := s.logAdmit_of_room h r
  rw [e]
  exact ((Alters.refl _ _).modNv (by decide) _).nvKick (by decide)

theorem State.logKind_alters (h : sharedCount s.nv.held < 21) (kind detail : Nat) : Alters [.nv] s (s.logKind kind detail) :=
  State.logAdmit_alters h _

end Pool

/-! ### Handlers -/

/-- A handler that begins, before its log record (R42). -/
def State.handlerTaken (s : State) (p : Pending) : State :=
  s.modFm fun m => { m with
    handling := some p.code, suspended := m.handling.toList ++ m.suspended
    pending := m.pending.map fun q => if q.code == p.code then { q with started := true } else q }

/-- A handler that begins, with its log record. -/
def State.handlerBegun (s : State) (p : Pending) : State := (s.handlerTaken p).logAdmit ((s.handlerTaken p).faultRec p 1)

theorem State.startHandler_eq (p : Pending) :
    s.startHandler p = if p.severity == 4 then (s.handlerBegun p).journal6 else s.handlerBegun p := rfl

theorem execFaultHandlerStart_of_none {p : Pending} (hc : s.coreUp = true)
    (hp : (s.fm.pending.find? fun p => !p.started) = some p) (hh : s.fm.handling = none) :
    execFaultHandlerStart s = .next (s.startHandler p) := by
  unfold execFaultHandlerStart
  rw [if_neg (by simp [hc]), hp, hh]

theorem State.handlerTaken_fm {p : Pending} (h : s.fm.handling = none) : (s.handlerTaken p).fm = { s.fm with
    handling := some p.code
    pending := s.fm.pending.map fun q => if q.code == p.code then { q with started := true } else q } := by
  rw [State.handlerTaken, State.modFm_fm, h]
  rfl

/-- The journal write that a latch of more than one count leaves at its handler's end (R45). -/
def State.handled (s : State) (p : Pending) : State :=
  let t := s.modFm fun m => m.complete p
  if p.severity == 4 && 1 < p.count then t.journal6 else t

theorem State.handled_fm (p : Pending) : (s.handled p).fm = s.fm.complete p := by
  unfold State.handled
  dsimp only
  split
  · exact State.journal6_alters _ .fm (by decide)
  · rfl

theorem State.handled_alters (p : Pending) : Alters [.fm, .nv] s (s.handled p) :=
  Alters.ite (((Alters.refl _ _).modFm (by decide) _).journal6 (by decide)) ((Alters.refl _ _).modFm (by decide) _)

theorem State.handled_shared (p : Pending) : sharedCount (s.handled p).nv.held = sharedCount s.nv.held := by
  unfold State.handled
  dsimp only
  split
  · exact State.sharedCount_journal rfl _
  · rfl

theorem FaultMgr.complete_pending (m : FaultMgr) (p : Pending) :
    (m.complete p).pending = m.pending.filter (·.code != p.code) := by
  unfold FaultMgr.complete
  dsimp only
  split
  · rfl
  · split
    · rfl
    · rfl

theorem FaultMgr.complete_rest (m : FaultMgr) (p : Pending) :
    (m.complete p).suspended = m.suspended ∧ (m.complete p).reaction = m.reaction ∧ (m.complete p).latchKept = m.latchKept := by
  unfold FaultMgr.complete
  dsimp only
  split
  · exact ⟨rfl, rfl, rfl⟩
  · split
    · exact ⟨rfl, rfl, rfl⟩
    · exact ⟨rfl, rfl, rfl⟩

/-- A handler that ends hands back to the one suspended last (R43). -/
def State.resumed (s : State) : State := s.modFm fun m => { m with handling := m.suspended.head?, suspended := m.suspended.drop 1 }

/-- What a handler's end leaves of its fault, without the overflow that the queue may note (R41). -/
def State.afterHandler (s : State) (p : Pending) : State := ((s.handled p).logAdmit ((s.handled p).faultRec p 2)).resumed

theorem execFaultHandlerComplete_of_entry {c : Nat} {p : Pending} (hc : s.coreUp = true) (hh : s.fm.handling = some c)
    (he : s.fm.entry c = some p) :
    execFaultHandlerComplete s = .next (
      if (s.afterHandler p).fm.pending.length < 64 then (s.afterHandler p).clearCond 0x0105 else s.afterHandler p) := by
  unfold execFaultHandlerComplete
  rw [hh]
  dsimp only
  rw [he]
  dsimp only
  rw [if_neg (by simp [hc])]
  rfl

/-! ### Acknowledge -/

theorem Moves.acting {ps : List Part} (h : Moves ps s t) (hf : .fm ∉ ps) (hy : .ty ∉ ps) : t.acting = s.acting := by
  have hty : Twin.traffic s.ty t.ty := h .ty hy
  have hfm : t.fm = s.fm := h .fm hf
  rw [State.acting, State.acting, hfm, hty]

theorem Alters.unblock {ps : List Part} (h : Alters ps s t) (hp : .si ∈ ps := by decide) : Alters ps s t.unblock := h.modSi hp _

/-- What an acknowledge does before its log record (R44). -/
def State.fallen (s : State) (value : Nat) : State :=
  let level := levelOf s.fm.active
  let t := s.modFm fun m => { m with
    reaction := level, pairOwn := levelOf (m.active.filter s.inPair), lastAck := s.tb.now
    latchKept := level == .latch }
  if value == 4 && level != .latch then t.modPc fun c => { c with weld := 0 } else t

/-- The latch is kept through a restart as it is now (R45). -/
def State.latchSaved (t s : State) : State := if s.fm.latchKept != t.fm.latchKept then t.journal6 else t

theorem State.latchSaved_alters : Alters [.nv] t (t.latchSaved s) :=
  .ite ((Alters.refl _ _).journal6 (by decide)) (.refl _ _)

theorem State.latchSaved_shared : sharedCount (t.latchSaved s).nv.held = sharedCount t.nv.held := by
  unfold State.latchSaved
  split
  · exact State.sharedCount_journal rfl _
  · rfl

theorem State.acknowledge_eq (value : Nat) :
    s.acknowledge value = (((s.fallen value).latchSaved s).logKind 3 value).unblock := rfl

theorem State.fallen_fm (value : Nat) : (s.fallen value).fm = { s.fm with
    reaction := levelOf s.fm.active, pairOwn := levelOf (s.fm.active.filter s.inPair), lastAck := s.tb.now
    latchKept := levelOf s.fm.active == .latch } := by
  unfold State.fallen
  dsimp only
  split
  · rfl
  · rfl

theorem State.fallen_of_low {value : Nat} (h : value ≠ 4) :
    s.fallen value = s.modFm fun m => { m with
      reaction := levelOf s.fm.active, pairOwn := levelOf (m.active.filter s.inPair), lastAck := s.tb.now
      latchKept := levelOf s.fm.active == .latch } := if_neg (by simp [h])

/-- A latch that falls releases a weld. -/
theorem State.fallen_of_latch (h : levelOf s.fm.active ≠ .latch) :
    s.fallen 4 = (s.modFm fun m => { m with
      reaction := levelOf s.fm.active, pairOwn := levelOf (m.active.filter s.inPair), lastAck := s.tb.now
      latchKept := levelOf s.fm.active == .latch }).modPc fun c => { c with weld := 0 } := if_pos (by simpa using h)

/-- An acknowledge while the pool has room changes nothing more than its effect, the pool and the blocks. -/
theorem State.acknowledge_alters (value : Nat) (h : sharedCount s.nv.held < 20) :
    Alters [.nv, .si] (s.fallen value) (s.acknowledge value) := by
  have hroom : sharedCount ((s.fallen value).latchSaved s).nv.held < 21 := by
    have hnv : (s.fallen value).nv = s.nv := by
      unfold State.fallen
      dsimp only
      split
      · rfl
      · rfl
    rw [State.latchSaved_shared, hnv]
    omega
  have hkept : Alters [.nv, .si] (s.fallen value) ((s.fallen value).latchSaved s) := State.latchSaved_alters.mono (by decide)
  rw [State.acknowledge_eq]
  exact (hkept.trans ((State.logKind_alters hroom 3 value).mono (by decide))).unblock

/-- Settles O14. -/
theorem faultHandlerCommands : Obligations.FaultHandlerCommands := by
  unfold Obligations.FaultHandlerCommands
  refine ⟨fun s p hc hp hh hr => ?_, fun s c p hc hh he hr => ?_, fun s r x v h hv h4 => ?_, fun s r x h ha hx hl hj => ?_,
    fun s r x v hv h4 hr => ?_, fun s r x ha hx hl hj hn hr => ?_⟩
  · have hroom : sharedCount (s.handlerTaken p).nv.held < 21 := hr
    have hlog : HoldsLog 1 p.code p.stamp (s.handlerBegun p).nv.held :=
      State.logAdmit_holds hroom ((s.handlerTaken p).faultRec p 1)
    have hal : Alters [.nv] (s.handlerTaken p) (s.handlerBegun p) := State.logAdmit_alters hroom _
    have hbegun : Alters [.fm, .nv] s (s.handlerBegun p) :=
      ((Alters.refl _ _).modFm (by decide) _).trans (hal.mono (by decide))
    have hfm : (s.handlerBegun p).fm = _ := (hal .fm (by decide)).trans (State.handlerTaken_fm hh)
    refine exists_next (execFaultHandlerStart_of_none hc hp hh) ?_
    rw [State.startHandler_eq]
    split
    · exact ⟨(State.journal6_alters _ .fm (by decide)).trans hfm, hlog.journal _ _, hbegun.journal6 (by decide)⟩
    · exact ⟨hfm, hlog, hbegun⟩
  · have hcode : p.code = c := by simpa using List.find?_some he
    have hroom : sharedCount (s.handled p).nv.held < 21 := by rwa [State.handled_shared]
    have hal : Alters [.nv] (s.handled p) _ := State.logAdmit_alters hroom ((s.handled p).faultRec p 2)
    have hafter : Alters [.fm, .nv] s (s.afterHandler p) :=
      ((State.handled_alters p).trans (hal.mono (by decide))).modFm (by decide) _
    have hfm : ((s.handled p).logAdmit ((s.handled p).faultRec p 2)).fm = s.fm.complete p :=
      (hal .fm (by decide)).trans (State.handled_fm p)
    obtain ⟨hsus, hrea, hkept⟩ := s.fm.complete_rest p
    have hlog : HoldsLog 2 c s.tb.now (s.afterHandler p).nv.held := by
      have htb : (s.handled p).tb = s.tb := State.handled_alters p .tb (by decide)
      rw [← hcode, ← htb]
      exact State.logAdmit_holds hroom ((s.handled p).faultRec p 2)
    have hdone : (s.afterHandler p).fm = { s.fm.complete p with
        handling := s.fm.suspended.head?, suspended := s.fm.suspended.drop 1 } := by
      rw [State.afterHandler, State.resumed, State.modFm_fm, hfm, hsus]
    refine exists_next (execFaultHandlerComplete_of_entry hc hh he) ?_
    split
    · refine ⟨?_, ?_, ?_, ?_, ?_, hlog, hafter.clearCond (by decide) _⟩
      all_goals simp only [State.clearCond, State.modFm_fm, FaultMgr.deactivate, hdone, FaultMgr.complete_pending, hcode, hrea, hkept]
    · refine ⟨?_, ?_, ?_, ?_, ?_, hlog, hafter⟩
      all_goals simp only [hdone, FaultMgr.complete_pending, hcode, hrea, hkept]
  · refine exists_next rfl (State.liveReq_waits false _ _ (Nat.le_of_ble_eq_true rfl) h fun s1 hm => ?_)
    have hv1 : v = s1.acting.code := by rw [hm.acting (by decide) (by decide), hv]
    simp [State.ackAct, ← hv1, h4, ok]
  · refine exists_next rfl (State.liveReq_waits false _ _ (by decide) h fun s1 hm => ?_)
    have ha1 : s1.acting = .latch := (hm.acting (by decide) (by decide)).trans ha
    have htm : s1.tm = s.tm := hm .tm (by decide)
    simp [State.ackAct, ha1, hx, htm, hl, hj, ok, Reaction.code]
  · have he : s.liveAct x (.faultAcknowledge r v) = (s.acknowledge v, 0, []) := by
      simp [State.liveAct, State.ackAct, ← hv, h4, ok]
    have hal := State.acknowledge_alters v hr
    have hfm := (hal .fm (by decide)).trans (State.fallen_fm v)
    have hfallen : Alters [.fm] s (s.fallen v) := by
      rw [State.fallen_of_low h4]
      exact (Alters.refl _ _).modFm (by decide) _
    refine ⟨_, he, ?_⟩
    rw [hfm]
    exact ⟨rfl, rfl, rfl, rfl, rfl, ((hfallen.mono (by decide)).trans (hal.mono (by decide))).moves⟩
  · have he : s.liveAct x (.faultAcknowledge r 4) = (s.acknowledge 4, 0, []) := by
      simp [State.liveAct, State.ackAct, ha, hx, hl, hj, ok, Reaction.code]
    have hal := State.acknowledge_alters 4 hr
    have hfm := (hal .fm (by decide)).trans (State.fallen_fm 4)
    have hpc : (s.fallen 4).pc = { s.pc with weld := 0 } := by
      rw [State.fallen_of_latch hn]
      rfl
    have hfallen : Alters [.fm, .pc] s (s.fallen 4) := by
      rw [State.fallen_of_latch hn]
      exact ((Alters.refl _ _).modFm (by decide) _).modPc (by decide) _
    refine ⟨_, he, ?_⟩
    rw [hfm]
    exact ⟨rfl, by simpa using hn, (hal .pc (by decide)).trans hpc,
      ((hfallen.mono (by decide)).trans (hal.mono (by decide))).moves⟩

end
end Sys2Proof.Machine
end

section
/-! The Ethernet ports: ARP, ICMP, IPv4 fragments and SFP modules (R81, R461, R518, R519). -/

namespace Sys2Proof.Machine

-- One theorem after another: each thread of the checker takes 256 MB of stack.
set_option Elab.async false

section
variable {s t u : State} {port : Nat}

/-! ### What a frame leaves readable -/

theorem Moves.cfgGet {ps : List Part} (h : Moves ps s t) (index sub : Nat) (hc : .cfg ∉ ps := by decide)
    (hi : .id ∉ ps := by decide) : t.cfgGet index sub = s.cfgGet index sub := by
  have hcfg : t.cfg = s.cfg := h .cfg hc
  have hid : t.id = s.id := h .id hi
  rw [State.cfgGet, State.cfgGet, hcfg, hid]

theorem Moves.coreUp {ps : List Part} (h : Moves ps s t) (hp : .pm ∉ ps := by decide) (hl : .ld ∉ ps := by decide) :
    t.coreUp = s.coreUp := by
  have hpm : t.pm = s.pm := h .pm hp
  have hld : t.ld = s.ld := h .ld hl
  rw [State.coreUp, State.coreUp, hpm, hld]

/-! ### A port -/

@[simp] theorem State.sfp_modSfp (f : Sfp → Sfp) : (s.modSfp port f).sfp port = f (s.sfp port) := by
  unfold State.sfp State.modSfp State.modEn
  by_cases h : port = 1
  · simp [h]
  · simp [h]

theorem Alters.modSfp {ps : List Part} (h : Alters ps s t) {f : Sfp → Sfp} (hp : .en ∈ ps := by decide) :
    Alters ps s (t.modSfp port f) := h.modEn hp _

@[simp] theorem State.sfp_frameIn : (s.frameIn port).sfp port = { s.sfp port with rx := (s.sfp port).rx + 1 } :=
  State.sfp_modSfp _

@[simp] theorem State.sfp_frameOut : (s.frameOut port).sfp port = { s.sfp port with tx := (s.sfp port).tx + 1 } :=
  State.sfp_modSfp _

@[simp] theorem State.sfp_discardAt (n : Nat) : (s.discardAt port n).sfp port =
    { s.sfp port with discarded := (s.sfp port).discarded + BitVec.ofNat 32 n } := State.sfp_modSfp _

/-- A frame that comes in and is answered counts on both sides of its port. -/
theorem State.sfp_answered (o : Out) : (((s.frameIn port).emit o).frameOut port).sfp port =
    { s.sfp port with rx := (s.sfp port).rx + 1, tx := (s.sfp port).tx + 1 } := by
  have he : ((s.frameIn port).emit o).sfp port = (s.frameIn port).sfp port := rfl
  rw [State.sfp_frameOut, he, State.sfp_frameIn]

/-- Under a frame that leaves the ports alone, a port differs by its counts of frames. -/
theorem Moves.sfp {ps : List Part} (h : Moves ps s t) (port : Nat) (hp : .en ∉ ps := by decide) :
    t.sfp port = { s.sfp port with rx := (t.sfp port).rx, tx := (t.sfp port).tx } := by
  have ht : Ethernet.traffic s.en t.en := h .en hp
  unfold State.sfp
  rw [ht]
  split
  · rfl
  · rfl

theorem Moves.conflicts {ps : List Part} (h : Moves ps s t) (hp : .en ∉ ps := by decide) : t.en.conflicts = s.en.conflicts := by
  have ht : Ethernet.traffic s.en t.en := h .en hp
  rw [ht]

/-! ### Addresses -/

theorem State.isUs_eq (a : Nat) : s.isUs a = (s.coreUp && s.cfgGet 0x3180 1 != 0 && a == s.cfgGet 0x3180 1) := rfl

theorem Moves.isUs {ps : List Part} (h : Moves ps s t) (a : Nat) (hp : ∀ p ∈ [Part.cfg, .id, .pm, .ld], p ∉ ps := by decide) :
    t.isUs a = s.isUs a := by
  rw [State.isUs, State.isUs, h.coreUp (hp _ (by decide)) (hp _ (by decide)), h.cfgGet _ _ (hp _ (by decide)) (hp _ (by decide))]

theorem State.frameIn_isUs (a : Nat) : (s.frameIn port).isUs a = s.isUs a := Moves.isUs (State.frameIn_moves _ _) a

theorem State.isUs_self (hc : s.coreUp = true) (ha : s.cfgGet 0x3180 1 ≠ 0) : s.isUs (s.cfgGet 0x3180 1) = true := by
  simp [State.isUs_eq, hc, ha]

theorem State.isUs_other {a : Nat} (h : a ≠ s.cfgGet 0x3180 1) : s.isUs a = false := by simp [State.isUs_eq, h]

theorem execArpRequest_of_target {mac sender : Nat} (hc : s.coreUp = true) (ha : s.cfgGet 0x3180 1 ≠ 0)
    (hs : sender ≠ s.cfgGet 0x3180 1) :
    execArpRequest port mac sender (s.cfgGet 0x3180 1) s =
      .next (((s.frameIn port).emit (.arpReply port sender)).frameOut port) := by
  simp [execArpRequest, hc, State.frameIn_isUs, State.isUs_self hc ha, State.isUs_other hs]

theorem execArpRequest_of_conflict {mac target : Nat} (hc : s.coreUp = true) (ha : s.cfgGet 0x3180 1 ≠ 0)
    (hm : mac ≠ s.id.mac) (ht : target ≠ s.cfgGet 0x3180 1) :
    execArpRequest port mac (s.cfgGet 0x3180 1) target s =
      .next (((s.frameIn port).modEn fun e => { e with conflicts := e.conflicts + 1 }).raiseEvent 0x1104 port) := by
  have hmoves : Moves [.en, .fm] s (((s.frameIn port).modEn fun e => { e with conflicts := e.conflicts + 1 }).raiseEvent 0x1104 port) :=
    ((Moves.self.frameIn _).modEn (by decide) _).raiseEvent (by decide) _ _
  have hus := (hmoves.isUs target).trans (State.isUs_other ht)
  unfold execArpRequest
  extract_lets t u
  have hu : u = ((s.frameIn port).modEn fun e => { e with conflicts := e.conflicts + 1 }).raiseEvent 0x1104 port :=
    if_pos (by simp [t, State.frameIn_isUs, State.isUs_self hc ha, hm])
  rw [if_neg (by simp [hc]), hu, if_neg (by rw [hus]; exact Bool.false_ne_true)]

theorem execIcmpEcho_of_short {sender ident seq : Nat} {d : Bytes} (hc : s.coreUp = true) (ha : s.cfgGet 0x3180 1 ≠ 0)
    (hd : d.length ≤ 1472) :
    execIcmpEcho port sender (s.cfgGet 0x3180 1) ident seq d s =
      .next (((s.frameIn port).emit (.echoReply port sender ident seq d)).frameOut port) := by
  simp [execIcmpEcho, hc, State.frameIn_isUs, State.isUs_self hc ha, hd]

theorem execIcmpEcho_of_long {sender target ident seq : Nat} {d : Bytes} (hc : s.coreUp = true) (hd : 1472 < d.length) :
    execIcmpEcho port sender target ident seq d s = .next ((s.frameIn port).discardAt port 1) := by
  simp [execIcmpEcho, hc, hd]

/-! ### Fragments -/

theorem dropIp_of_none {src ident : Nat} (h : s.ipReasm src ident = none) : dropIp s.en.reasm src ident = s.en.reasm := by
  refine List.filter_eq_self.2 fun m hm => ?_
  simpa [imp_iff_not_or] using List.find?_eq_none.1 h m hm

theorem State.frameIn_conflicts : (s.frameIn port).en.conflicts = s.en.conflicts := by
  unfold State.frameIn State.modSfp State.modEn
  dsimp only
  split
  · rfl
  · rfl

theorem State.frameIn_reasm : (s.frameIn port).en.reasm = s.en.reasm := by
  unfold State.frameIn State.modSfp State.modEn
  dsimp only
  split
  · rfl
  · rfl

theorem State.discardAt_reasm (n : Nat) : (s.discardAt port n).en.reasm = s.en.reasm := by
  unfold State.discardAt State.modSfp State.modEn
  dsimp only
  split
  · rfl
  · rfl

theorem execIpv4Fragment_of_first {src ident offset : Nat} {d : Bytes} (hc : s.coreUp = true)
    (ha : s.cfgGet 0x3180 1 ≠ 0) (hn : s.ipReasm src ident = none) (h8 : s.en.reasm.length < 8)
    (ho : offset + d.length ≤ 2056) :
    execIpv4Fragment port src ident offset true d s = .next ((s.frameIn port).modEn fun e =>
      { e with reasm := s.en.reasm ++ [{ port, src, ident, parts := [(offset, d)] }] }) := by
  have hn' : (s.frameIn port).ipReasm src ident = none := by rw [State.ipReasm, State.frameIn_reasm]; exact hn
  have hdrop : dropIp (s.frameIn port).en.reasm src ident = s.en.reasm := by rw [State.frameIn_reasm, dropIp_of_none hn]
  unfold execIpv4Fragment
  rw [if_neg (by simp [hc])]
  simp only [hn', hdrop]
  rw [if_neg (by simpa using ha), if_neg (by simpa [State.frameIn_reasm] using h8), if_neg (by simpa using ho)]
  simp [IpReasm.complete]

/-- Settles O15. -/
theorem networkCommands : Obligations.NetworkCommands := by
  unfold Obligations.NetworkCommands
  refine ⟨fun s port mac sender hc ha hs => ?_, fun s port mac target hc ha hm ht => ?_,
    fun s port sender ident seq d hc ha hd => ?_, fun s port sender ident seq d hc hd => ?_,
    fun s port src ident offset d hc ha hn h8 ho => ?_, fun s src ident m hm => ?_⟩
  · exact exists_next (execArpRequest_of_target hc ha hs)
      ⟨rfl, State.sfp_answered _, ((Moves.self.frameIn _).emit _).frameOut _⟩
  · have hm1 : Moves [.en] s ((s.frameIn port).modEn fun e => { e with conflicts := e.conflicts + 1 }) :=
      (Moves.self.frameIn _).modEn (by decide) _
    refine exists_next (execArpRequest_of_conflict hc ha hm ht) ⟨?_, ?_, (hm1.mono (by decide)).raiseEvent (by decide) _ _⟩
    · exact (State.raiseEvent_moves _ _ _).conflicts.trans (congrArg (· + 1) State.frameIn_conflicts)
    · exact (State.raiseEvent_fm _ _ _).trans (hm1.eventFm (by decide) _ _)
  · exact exists_next (execIcmpEcho_of_short hc ha hd)
      ⟨rfl, State.sfp_answered _, ((Moves.self.frameIn _).emit _).frameOut _⟩
  · exact exists_next (execIcmpEcho_of_long hc hd)
      ⟨rfl, by simp, (Alters.refl _ _).modSfp.modSfp⟩
  · exact exists_next (execIpv4Fragment_of_first hc ha hn h8 ho)
      ⟨rfl, State.sfp_frameIn, (Alters.refl _ _).modSfp.modEn (by decide) _⟩
  · have he : execIpReassemblyTimeout src ident s = .next ((s.discardAt m.port m.parts.length).modEn fun e =>
        { e with reasm := dropIp e.reasm src ident }) := by
      unfold execIpReassemblyTimeout
      rw [hm]
    exact exists_next he ⟨by rw [State.modEn_en, State.discardAt_reasm], State.sfp_discardAt _, (Alters.refl _ _).modSfp.modEn (by decide) _⟩

/-! ### SFP modules -/

/-- Beside its link state, a port that goes down raises faults alone (R519). -/
theorem State.portDown_moves (link : Nat) :
    Moves [.fm] (s.modSfp port fun p => { p with link, upSince := none }) (s.portDown port link) := by
  unfold State.portDown
  dsimp only
  split
  · exact Moves.self.sfpFaults
  · exact .ite (Moves.self.sfpFaults.raiseEvent (by decide) _ _) Moves.self.sfpFaults

theorem State.portDown_sfp (link : Nat) : (s.portDown port link).sfp port =
    { s.sfp port with link, upSince := none, rx := ((s.portDown port link).sfp port).rx, tx := ((s.portDown port link).sfp port).tx } := by
  have h := (State.portDown_moves (s := s) (port := port) link).sfp port
  rw [State.sfp_modSfp] at h
  exact h

/-- What an SFP's identity makes of its port in a supplied cage (R81). -/
def Sfp.identified (p : Sfp) : Sfp :=
  if sfpRate p.fitted = 0 then { p with compliance := p.fitted, link := 1, txDisable := true, upSince := none }
  else { p with compliance := p.fitted, link := 3, txDisable := false, upSince := none }

theorem State.identifySfp_sfp (hi : (s.sfp port).inserted = true) (hc : (s.sfp port).cageOn = true) :
    (s.identifySfp port).sfp port = { (s.sfp port).identified with
      rx := ((s.identifySfp port).sfp port).rx, tx := ((s.identifySfp port).sfp port).tx } := by
  unfold State.identifySfp
  refine ((Moves.self.sfpFaults : Moves [.fm] _ _).sfp port).trans ?_
  rw [State.sfp_modSfp, if_neg (by simp [hi, hc]), Sfp.identified]
  simp

/-- The port that an SFP with these bytes is put into. -/
def Sfp.put (p : Sfp) (b6 b3 : Nat) : Sfp := { p with inserted := true, fitted := b6 % 256 + 256 * (b3 % 256) }

theorem State.inserted_sfp (b6 b3 : Nat) (hc : (s.sfp port).cageOn = true) :
    ((s.modSfp port fun p => p.put b6 b3).identifySfp port).sfp port = { ((s.sfp port).put b6 b3).identified with
      rx := (((s.modSfp port fun p => p.put b6 b3).identifySfp port).sfp port).rx
      tx := (((s.modSfp port fun p => p.put b6 b3).identifySfp port).sfp port).tx } := by
  have hp : (s.modSfp port fun p => p.put b6 b3).sfp port = (s.sfp port).put b6 b3 := State.sfp_modSfp _
  have h := State.identifySfp_sfp (s := s.modSfp port fun p => p.put b6 b3) (by rw [hp]; rfl) (by rw [hp]; exact hc)
  rwa [hp] at h

/-- Settles O16. -/
theorem sfpCommands : Obligations.SfpCommands := by
  unfold Obligations.SfpCommands
  refine ⟨fun s port b6 b3 hc hr => ?_, fun s port b6 b3 hc hr => ?_, fun s port hl => ?_, fun s port => ?_,
    fun s port hl => ?_, fun s port hl => ?_⟩
  · have hp := State.inserted_sfp b6 b3 hc
    rw [Sfp.identified, if_neg (by exact hr)] at hp
    exact exists_next rfl ⟨hp, Moves.self.modSfp.identifySfp⟩
  · have hp := State.inserted_sfp b6 b3 hc
    rw [Sfp.identified, if_pos (by exact hr)] at hp
    exact exists_next rfl ⟨hp, Moves.self.modSfp.identifySfp⟩
  · have he : execSfpRemoval port s = .next ((s.portDown port 0).modSfp port fun p =>
        { p with inserted := false, fitted := 0, compliance := 0 }) := by
      unfold execSfpRemoval
      rw [if_neg (by simpa using hl)]
    refine exists_next he ?_
    rw [State.sfp_modSfp, State.portDown_sfp]
    exact ⟨rfl, rfl, rfl, rfl, Moves.self.portDown.modSfp⟩
  · refine exists_next (rfl : execSfpOvercurrent port s = _) ?_
    rw [State.portDown_sfp, State.sfp_modSfp]
    exact ⟨rfl, rfl, rfl, Moves.self.modSfp.portDown⟩
  · refine exists_next (next_of_pos (by simp [hl])) ⟨?_, (Alters.refl _ _).modSfp⟩
    rw [State.sfp_modSfp]
    simp
  · refine exists_next (next_of_pos (by simpa using hl)) ?_
    rw [State.portDown_sfp]
    exact ⟨rfl, rfl, Moves.self.portDown⟩

end
end Sys2Proof.Machine
end

section
/-! The converter array (R127 to R141). -/

namespace Sys2Proof.Machine

-- One theorem after another: each thread of the checker takes 256 MB of stack.
set_option Elab.async false

/-- A hand-over of duty D0 with no spare needle, in a table that lists D0 twice: not a state the module comes into, and the
statement does not leave it out. -/
def dutyListedTwice : State :=
  { State.reset with ca := { State.reset.ca with
      hoActive := true, hoDuty := 0, spare := 0xFF, duties := [(0, { slice := 1 }), (0, { slice := 2 })] } }

/-- The switch takes the first entry out of the table, and D0 then reads as its second one. -/
theorem dutyListedTwice_switch (t : State) (h : execHandOverSwitch [] dutyListedTwice = .next t) :
    (t.duty 0).slice = 2 := by
  obtain rfl := Host.Outcome.next.inj h
  decide

/-- Refutes O17: the tenth clause asks that a hand-over leaves its duty with the spare needle, also where the table of duties
lists that duty twice. -/
theorem not_converterCommands : ¬ Obligations.ConverterCommands := by
  unfold Obligations.ConverterCommands
  rintro ⟨-, -, -, -, -, -, -, -, -, h, -⟩
  obtain ⟨t, e, hs, -⟩ := h dutyListedTwice [] rfl rfl (by decide) rfl
  exact absurd ((dutyListedTwice_switch t e).symm.trans hs) (by decide)

end Sys2Proof.Machine
end

section
/-! The fast pairs: events, stuck SARs and rings (R136, R147, R149, R150, R336). -/

namespace Sys2Proof.Machine

-- One theorem after another: each thread of the checker takes 256 MB of stack.
set_option Elab.async false

section
variable {s t u : State} {a : Action} {p e : Nat} {ring : List Int}

/-! ### The safety functions' actions at once -/

/-- Every action but the unit's drops the coils, whatever else it does. -/
theorem State.take_coils (h : a ≠ .unit) : (s.take a).os.coils = s.dropCoils.os.coils := by
  unfold State.take State.askPulse
  rw [if_neg (by simpa using h)]
  match a, h with
  | .coils, _ => rfl
  | .open, _ =>
    dsimp only
    split
    · split
      · rfl
      · rfl
    · rfl
  | .trip, _ =>
    dsimp only
    split
    · rfl
    · rfl
  | .unit, h => exact absurd rfl h

theorem State.askPulse_si : s.askPulse.si = { s.si with tripDemand := true } := by
  unfold State.askPulse
  dsimp only
  split
  · rfl
  · rfl

/-- An action is noted, and may ask for a pulse. -/
theorem State.take_si (h : a ≠ .unit) : ∃ d, (s.take a).si =
    { s.si with lastReaction := a.code, lastReactionStamp := s.tb.now, tripDemand := d } := by
  have hd : s.dropCoils.si = s.si := State.dropCoils_si s
  have ht : (s.dropCoils.modSi fun i => { i with lastReaction := a.code, lastReactionStamp := s.tb.now }).si =
      { s.si with lastReaction := a.code, lastReactionStamp := s.tb.now } := by rw [State.modSi_si, hd]
  unfold State.take
  rw [if_neg (by simpa using h)]
  match a, h, ht with
  | .coils, _, ht => exact ⟨_, ht⟩
  | .open, _, ht =>
    dsimp only
    split
    · exact ⟨true, State.askPulse_si.trans (congrArg (fun i : Safety => { i with tripDemand := true }) ht)⟩
    · exact ⟨_, ht⟩
  | .trip, _, ht => exact ⟨true, State.askPulse_si.trans (congrArg (fun i : Safety => { i with tripDemand := true }) ht)⟩
  | .unit, h, _ => exact absurd rfl h

theorem State.askPulse_uvr : s.askPulse.os.uvr = s.os.uvr := by
  unfold State.askPulse
  dsimp only
  split
  · rfl
  · rfl

theorem State.take_trip_uvr : (s.take .trip).os.uvr = false := State.askPulse_uvr

theorem State.startPulse_uvr : s.startPulse.os.uvr = s.os.uvr := by
  unfold State.startPulse
  split
  · rfl
  · split
    · rfl
    · rfl

/-- The outputs that an action has off are off once the stages follow. -/
theorem State.take_cutOutputs_off (h : a ≠ .unit) (hw : tabWf {} s.os.coils = true) :
    CoilsOff (s.take a).cutOutputs ∧ ∀ n ∈ [1, 2, 3, 4], ((s.take a).cutOutputs.coil n).drive = false := by
  refine CoilsOff.cutOutputs fun n hn => ?_
  rw [State.coil, State.take_coils h]
  exact s.dropCoils_off hw n hn

theorem State.take_cutOutputs_si (h : a ≠ .unit) : ∃ d n m, (s.take a).cutOutputs.si = { s.si with
    lastReaction := a.code, lastReactionStamp := s.tb.now, tripDemand := d, tripPulses := n, demandPulses := m } := by
  obtain ⟨d, hd⟩ := State.take_si (s := s) h
  obtain ⟨n, m, hp⟩ : ∃ n m, (s.take a).cutOutputs.si = { (s.take a).si with tripPulses := n, demandPulses := m } :=
    ⟨_, _, State.startPulse_si⟩
  exact ⟨d, n, m, by rw [hp, hd]⟩

theorem State.assertXtripOut_si : s.assertXtripOut.si =
    { s.si with xtripOut := s.si.xtripOut || s.safeGet 0x2D86 4 == 1 } := by
  unfold State.assertXtripOut
  split
  next h => simp [h]
  next h => simp [h]

theorem State.assertXtripOut_os : s.assertXtripOut.os = s.os := by
  unfold State.assertXtripOut
  split
  · rfl
  · rfl

/-! ### The event of a pair -/

theorem State.modPair_pair (f : Pair → Pair) : (s.modPair p f).pair p = f (s.pair p) := by
  unfold State.pair State.modPair State.modCa
  by_cases h : p = 0
  · simp [h]
  · simp [h]

theorem Moves.pair {ps : List Part} (h : Moves ps s t) (p : Nat) (hp : .ca ∉ ps := by decide) : t.pair p = s.pair p := by
  have hca : t.ca = s.ca := h .ca hp
  rw [State.pair, State.pair, hca]

/-- What the event's pair and its safety function note (R147). -/
def State.pairNoted (s : State) (p e : Nat) : State :=
  let t := s.modPair p fun x => { x with cmp := 4 + e, insideRows := 0, evAt := some s.tb.now }
  if p = 0 then t.modSi fun i => { i with sf1 := true } else t.modSi fun i => { i with sf2 := true }

/-- The action that the event of a pair takes: SF1's and SF2's (R336). -/
def pairAction (p : Nat) : Action := if p = 0 then .trip else .open

theorem pairAction_ne (p : Nat) : pairAction p ≠ .unit := by
  unfold pairAction
  split
  · simp
  · simp

/-- What an event does before it triggers its ring. -/
def State.pairActed (s : State) (p e : Nat) : State := ((s.pairNoted p e).take (pairAction p)).cutOutputs.assertXtripOut

theorem execFastPairEvent_of_event {samples : List Int} (he : s.pairEvent p ((s.pair p).corrected samples) = e)
    (h0 : e ≠ 0) (hc : s.coreUp = true) : execFastPairEvent p samples ring s = .next (
      if bit (s.cfgGet 0x2482 (p + 1)) (e - 1) then (s.pairActed p e).ringTrigger p ring else s.pairActed p e) := by
  unfold execFastPairEvent State.pairActed State.pairNoted pairAction
  rw [he]
  dsimp only
  rw [if_neg (by simp [hc, h0])]
  by_cases hp : p = 0
  · simp [hp]
  · simp [hp]

theorem State.pairNoted_moves : Moves [.ca, .si] s (s.pairNoted p e) :=
  .ite (Moves.self.modPair.modSi (by decide) _) (Moves.self.modPair.modSi (by decide) _)

theorem State.pairActed_moves : Moves [.ca, .os, .pm, .pc, .de, .nv, .si] s (s.pairActed p e) :=
  ((State.pairNoted_moves.mono (by decide)).take.cutOutputs).assertXtripOut

theorem State.pairActed_pair : (s.pairActed p e).pair p =
    { s.pair p with cmp := 4 + e, insideRows := 0, evAt := some s.tb.now } := by
  have hm : Moves [.os, .pm, .pc, .de, .nv, .si] (s.pairNoted p e) (s.pairActed p e) :=
    Moves.self.take.cutOutputs.assertXtripOut
  rw [hm.pair]
  unfold State.pairNoted
  dsimp only
  split
  · exact (Moves.pair (ps := [.si]) (Moves.self.modSi (by decide) _) p).trans (State.modPair_pair _)
  · exact (Moves.pair (ps := [.si]) (Moves.self.modSi (by decide) _) p).trans (State.modPair_pair _)

theorem State.pairActed_si : ∃ d n m, (s.pairActed p e).si = { (s.pairNoted p e).si with
    lastReaction := (pairAction p).code, lastReactionStamp := s.tb.now, tripDemand := d, tripPulses := n, demandPulses := m
    xtripOut := (s.pairNoted p e).si.xtripOut || s.safeGet 0x2D86 4 == 1 } := by
  have htb : (s.pairNoted p e).tb = s.tb := State.pairNoted_moves .tb (by decide)
  obtain ⟨d, n, m, hcut⟩ := State.take_cutOutputs_si (s := s.pairNoted p e) (pairAction_ne p)
  have hact : (((s.pairNoted p e).take (pairAction p)).cutOutputs).safeGet 0x2D86 4 = s.safeGet 0x2D86 4 := by
    have hnoted : Moves [.ca, .si, .os, .pm, .pc, .de, .nv] s (s.pairNoted p e) := State.pairNoted_moves.mono (by decide)
    have hcuts : Moves [.ca, .si, .os, .pm, .pc, .de, .nv] s ((s.pairNoted p e).take (pairAction p)).cutOutputs :=
      hnoted.take.cutOutputs
    have hid : ((s.pairNoted p e).take (pairAction p)).cutOutputs.id = s.id := hcuts .id (by decide)
    have hset : (s.pairNoted p e).si.active = s.si.active := by
      unfold State.pairNoted
      dsimp only
      split
      · rfl
      · rfl
    rw [State.safeGet, State.safeGet, hid, hcut, hset]
  refine ⟨d, n, m, ?_⟩
  rw [State.pairActed, State.assertXtripOut_si, hact, hcut, htb]

theorem State.pairActed_uvr (h : p = 0) : (s.pairActed p e).os.uvr = false := by
  subst h
  rw [State.pairActed, State.assertXtripOut_os]
  unfold State.cutOutputs
  rw [State.startPulse_uvr]
  exact State.take_trip_uvr

theorem State.pairActed_off (hw : tabWf {} s.os.coils = true) :
    CoilsOff (s.pairActed p e) ∧ ∀ n ∈ [1, 2, 3, 4], ((s.pairActed p e).coil n).drive = false := by
  have hos : (s.pairNoted p e).os = s.os := State.pairNoted_moves .os (by decide)
  obtain ⟨hoff, hdrive⟩ := State.take_cutOutputs_off (s := s.pairNoted p e) (pairAction_ne p) (by rw [hos]; exact hw)
  refine ⟨hoff.of_os State.assertXtripOut_os, fun n hn => ?_⟩
  rw [State.coil, State.pairActed, State.assertXtripOut_os]
  exact hdrive n hn

/-- A ring that is triggered keeps what the event noted of its pair. -/
theorem State.ringTrigger_pair : ((s.ringTrigger p ring).pair p).cmp = (s.pair p).cmp ∧
    ((s.ringTrigger p ring).pair p).insideRows = (s.pair p).insideRows ∧
    ((s.ringTrigger p ring).pair p).evAt = (s.pair p).evAt := by
  unfold State.ringTrigger
  split
  · rw [(State.raiseEvent_moves _ _ _).pair, State.modPair_pair]
    exact ⟨rfl, rfl, rfl⟩
  · rw [(State.raiseEvent_moves _ _ _).pair, State.modPair_pair]
    simp [Pair.record]

/-- What an event of a pair comes to, with its ring triggered or not (R149). -/
inductive PairEventEnds (s : State) (p e : Nat) : State → Prop
  | ring {ring : List Int} : PairEventEnds s p e ((s.pairActed p e).ringTrigger p ring)
  | quiet : PairEventEnds s p e (s.pairActed p e)

theorem PairEventEnds.moves (h : PairEventEnds s p e t) : Moves [.fm, .ca] (s.pairActed p e) t := by
  cases h with
  | ring => exact Moves.ringTrigger (u := s.pairActed p e) .self
  | quiet => exact .self

theorem PairEventEnds.pair (h : PairEventEnds s p e t) :
    (t.pair p).cmp = 4 + e ∧ (t.pair p).insideRows = 0 ∧ (t.pair p).evAt = some s.tb.now := by
  have hacted := State.pairActed_pair (s := s) (p := p) (e := e)
  cases h with
  | ring =>
    obtain ⟨hcmp, hrows, hat⟩ := State.ringTrigger_pair (s := s.pairActed p e) (p := p)
    rw [hcmp, hrows, hat, hacted]
    exact ⟨rfl, rfl, rfl⟩
  | quiet =>
    rw [hacted]
    exact ⟨rfl, rfl, rfl⟩

/-! ### Triggers -/

theorem State.softTrigAct_of_range {l : Nat} (h : l < 16) : s.softTrigAct l = ok (s.modCa fun c => { c with
    softAt := ([0, 1, 2, 3].filter (bit l)).foldl (fun m k => tabPut none (k + 1) (some s.tb.now) m) c.softAt }) :=
  if_neg (by omega)

theorem State.ringTrigger_of_frozen (h : (s.pair p).frozen = true) : s.ringTrigger p ring =
    (s.modPair p fun x => { x with lost := x.lost + 1 }).raiseEvent 0x0404 (9 + p) := if_pos h

theorem State.ringTrigger_of_armed (h : (s.pair p).frozen = false) : s.ringTrigger p ring =
    (s.modPair p fun x => { x.record ring with
      frozen := true, trigStamp := s.tb.now, trigIdx := s.cfgGet 0x2481 (p + 1) }).raiseEvent 0x0403 (9 + p) :=
  if_neg (by simp [h])

/-- A table into which each of some lines has been put at its place. -/
theorem tabGet_foldl_put {α : Type} [DecidableEq α] (v : α) (k : Nat) (l : List Nat) (t : Tab (Option α)) :
    tabGet none (k + 1) (l.foldl (fun m j => tabPut none (j + 1) (some v) m) t) =
      if k ∈ l then some v else tabGet none (k + 1) t := by
  induction l generalizing t with
  | nil => simp
  | cons j l ih =>
    rw [List.foldl_cons, ih]
    by_cases hl : k ∈ l
    · simp [hl]
    · by_cases hk : k = j
      · subst hk
        simp [hl, tabGet_tabPut_ne (none : Option α) (k + 1) (some v) t (by simp)]
      · simp [hl, hk, tabGet_tabPut_other (none : Option α) (k + 1) (j + 1) (some v) t (by omega)]

/-- Settles O18. -/
theorem fastPairCommands : Obligations.FastPairCommands := by
  unfold Obligations.FastPairCommands
  refine ⟨fun s p e samples ring hp h0 hc he hw => ?_, fun s p samples ring he => ?_, fun s p => ?_, fun s hb => ?_,
    fun s r x p h => ?_, fun s r x p => ?_, fun s r x p ring h => ?_, fun s r x p ring hf => ?_, fun s r x p ring hf => ?_,
    fun s r x l h hl => ?_, fun s r x l hl => ?_⟩
  · refine exists_next (execFastPairEvent_of_event he h0 hc) ?_
    have hend : PairEventEnds s p e (if bit (s.cfgGet 0x2482 (p + 1)) (e - 1) then (s.pairActed p e).ringTrigger p ring
        else s.pairActed p e) := by
      split
      · exact .ring
      · exact .quiet
    have hm := (State.pairActed_moves.mono (by decide) : Moves [.ca, .os, .pm, .pc, .de, .nv, .si, .fm] _ _).trans
      (hend.moves.mono (by decide))
    have hos : _ = (s.pairActed p e).os := hend.moves .os (by decide)
    have hsi : _ = (s.pairActed p e).si := hend.moves .si (by decide)
    obtain ⟨hoff, hdrive⟩ := s.pairActed_off (p := p) (e := e) hw
    obtain ⟨hcmp, hrows, hat⟩ := hend.pair
    obtain ⟨d, n, m, hacted⟩ := State.pairActed_si (s := s) (p := p) (e := e)
    refine ⟨hoff.of_os hos, fun n hn => ?_, fun hp0 => ?_, fun hp1 => ?_, ?_, hcmp, hrows, hat, fun hx => ?_, hm⟩
    · rw [State.coil, hos]
      exact hdrive n hn
    · rw [hsi, hos, hacted, State.pairActed_uvr hp0]
      subst hp0
      exact ⟨rfl, rfl, rfl⟩
    · rw [hsi, hacted]
      subst hp1
      exact ⟨rfl, rfl⟩
    · rw [hsi, hacted]
    · rw [hsi, hacted]
      simp [hx]
  · unfold exec execFastPairEvent
    simp [he]
  · have hm : Moves [.ca] s (s.modPair p fun x => { x with stuck := true }) := Moves.self.modPair
    refine exists_next (next_of_pos rfl) ⟨(State.raiseCond_fm _ _ _).trans (hm.condFm (by decide) _ _), ?_,
      (hm.mono (by decide)).raiseCond (by decide) _ _⟩
    rw [(State.raiseCond_moves _ _ _).pair, State.modPair_pair]
  · have he : execSarStuckDetect 0 false s =
        .next ((s.modPair 0 fun x => { x with stuck := false }).clearCond 0x0405) := by
      unfold execSarStuckDetect
      dsimp only
      rw [if_neg Bool.false_ne_true, if_neg (by simpa [State.modPair] using hb)]
    exact exists_next he ⟨rfl, rfl, ((Alters.refl _ _).modCa (by decide) _).clearCond (by decide) _⟩
  · exact exists_next rfl (State.liveReq_waits false _ _ (by decide) h fun s1 hm => rfl)
  · exact ⟨_, rfl, State.modPair_pair _, (Alters.refl _ _).modCa (by decide) _⟩
  · exact exists_next rfl (State.liveReq_waits false _ _ (by decide) h fun s1 hm => rfl)
  · have hm : Moves [.ca] s (s.modPair p fun x => { x.record ring with
        frozen := true, trigStamp := s.tb.now, trigIdx := s.cfgGet 0x2481 (p + 1) }) := Moves.self.modPair
    refine ⟨s.ringTrigger p ring, rfl, ?_⟩
    rw [State.ringTrigger_of_armed hf, (State.raiseEvent_moves _ _ _).pair, State.modPair_pair]
    exact ⟨rfl, (State.raiseEvent_fm _ _ _).trans (hm.eventFm (by decide) _ _), (hm.mono (by decide)).raiseEvent (by decide) _ _⟩
  · have hm : Moves [.ca] s (s.modPair p fun x => { x with lost := x.lost + 1 }) := Moves.self.modPair
    refine ⟨s.ringTrigger p ring, rfl, ?_⟩
    rw [State.ringTrigger_of_frozen hf, (State.raiseEvent_moves _ _ _).pair, State.modPair_pair]
    exact ⟨rfl, (State.raiseEvent_fm _ _ _).trans (hm.eventFm (by decide) _ _), (hm.mono (by decide)).raiseEvent (by decide) _ _⟩
  · refine exists_next rfl (State.liveReq_waits false _ _ (Nat.le_of_ble_eq_true rfl) h fun s1 hm => ?_)
    rw [State.softTrigAct_of_range hl, ok]
  · refine ⟨_, State.softTrigAct_of_range hl, fun k hk => ?_, rfl, (Alters.refl _ _).modCa (by decide) _⟩
    rw [State.modCa_ca]
    refine (tabGet_foldl_put s.tb.now k _ _).trans ?_
    have hk' : k ∈ [0, 1, 2, 3] := by simp; omega
    simp only [List.mem_filter, hk', true_and]

end
end Sys2Proof.Machine
end

section
/-! Host reads of the converter's slots (R143, R144). -/

namespace Sys2Proof.Machine

-- One theorem after another: each thread of the checker takes 256 MB of stack.
set_option Elab.async false

section
variable {s t u : State} {n : Nat} {code : Int} {stamp : Nat}

theorem State.pairNow_alters : Alters [.ca] s (s.pairNow n code stamp) :=
  .ite ((Alters.refl _ _).modCa (by decide) _) (.refl _ _)

theorem State.pairNow_of_other (h : n ≠ 64) (k : n ≠ 65) : s.pairNow n code stamp = s := if_neg (by simp [h, k])

theorem State.pairNow_shadows : (s.pairNow n code stamp).ca.shadows = s.ca.shadows := by
  unfold State.pairNow State.modPair
  split
  · simp only [State.modCa_ca]
    split
    · rfl
    · rfl
  · rfl

theorem execConverterWord0Read_of_up (hc : s.coreUp = true) : execConverterWord0Read ⟨n, code, stamp⟩ s = .next (
    ((s.pairNow n code stamp).modCa fun c =>
      { c with shadows := tabPut none n (some ((s.pairNow n code stamp).slotWords n).2) c.shadows }).hostWord
        ((s.pairNow n code stamp).slotWords n).1) := congrArg _ (if_neg (by simp [hc]))

theorem execConverterWord1Read_of_shadow {w : Nat} (hc : s.coreUp = true) (h : tabGet none n s.ca.shadows = some w) :
    execConverterWord1Read ⟨n, code, stamp⟩ s =
      .next ((s.modCa fun c => { c with shadows := tabPut none n none c.shadows }).hostWord w) := by
  unfold execConverterWord1Read
  rw [if_neg (by simp [hc])]
  simp only [h]

theorem execConverterWord1Read_of_none (hc : s.coreUp = true) (h : tabGet none n s.ca.shadows = none) :
    execConverterWord1Read ⟨n, code, stamp⟩ s =
      .next ((s.pairNow n code stamp).hostWord ((s.pairNow n code stamp).slotWords n).2) := by
  unfold execConverterWord1Read
  rw [if_neg (by simp [hc])]
  simp only [h]

/-- Settles O19. -/
theorem converterReadCommands : Obligations.ConverterReadCommands := by
  unfold Obligations.ConverterReadCommands
  refine ⟨fun s n code stamp hc => ?_, fun s n w code stamp hc h => ?_, fun s n code stamp hc h => ?_⟩
  · have hal : Alters [.ca] s (s.pairNow n code stamp) := State.pairNow_alters
    have hsy : (s.pairNow n code stamp).sy = s.sy := hal .sy (by decide)
    refine exists_next (execConverterWord0Read_of_up hc) ⟨?_, ?_, fun k hk => ?_, rfl, State.pairNow_of_other, ?_⟩
    · rw [State.hostWord, State.modSy_sy, State.modCa_sy, hsy]
    · exact tabGet_tabPut_ne _ _ _ _ (by simp)
    · refine (tabGet_tabPut_other _ _ _ _ _ hk).trans ?_
      rw [State.pairNow_shadows]
    · exact ((hal.mono (by decide)).modCa (by decide) _).modSy (by decide) _
  · exact exists_next (execConverterWord1Read_of_shadow hc h)
      ⟨rfl, rfl, ((Alters.refl _ _).modCa (by decide) _).modSy (by decide) _⟩
  · have hal : Alters [.ca] s (s.pairNow n code stamp) := State.pairNow_alters
    have hsy : (s.pairNow n code stamp).sy = s.sy := hal .sy (by decide)
    refine exists_next (execConverterWord1Read_of_none hc h) ⟨?_, rfl, (hal.mono (by decide)).modSy (by decide) _⟩
    rw [State.hostWord, State.modSy_sy, hsy]

end
end Sys2Proof.Machine
end

section
/-! Results delivered and the string current (R125, R141, R155 to R166). -/

namespace Sys2Proof.Machine

-- One theorem after another: each thread of the checker takes 256 MB of stack.
set_option Elab.async false

section
variable {s t u : State} {d stamp : Nat} {value : Int}

/-! ### What a result stores -/

theorem State.keepOutgoing_tables : (s.keepOutgoing d value stamp).ca.results = s.ca.results ∧
    (s.keepOutgoing d value stamp).ca.duties = s.ca.duties := by
  unfold State.keepOutgoing
  split
  · exact ⟨rfl, rfl⟩
  · exact ⟨rfl, rfl⟩

theorem State.overTrack_ca (b : Bool) :
    (s.overTrack d b).ca = (s.modDuty d fun u => { u with isOver := b, overMs := b && u.overMs }).ca := by
  unfold State.overTrack
  dsimp only
  split
  · rfl
  · rfl

/-- The result that a duty's slot gets (R141). -/
def State.resultOf (s : State) (d : Nat) (value : Int) (stamp : Nat) : Result :=
  { stamp := BitVec.ofNat 32 stamp, value, upd := ((tabGet {} (s.dutyInput d) s.ca.results).upd + 1) % 16
    settle := (s.duty d).settle != 0, remain := (s.duty d).settle - 1, slice := s.resultSlice d stamp
    input := s.dutyInput d, held := s.ca.precisionHeld }

/-- A result that no sequence steps on is put into the slot of its input, and moves its own duty alone. -/
theorem State.storeResult_tables (h6 : d ≠ 6) (h7 : d ≠ 7) :
    (s.storeResult d value stamp).ca.results = tabPut {} (s.dutyInput d) (s.resultOf d value stamp) s.ca.results ∧
    ∃ f g, (s.storeResult d value stamp).ca.duties = tabMod {} d f (tabMod {} d g s.ca.duties) := by
  obtain ⟨hres, hdut⟩ := State.keepOutgoing_tables (s := s) (d := d) (value := value) (stamp := stamp)
  unfold State.storeResult
  dsimp only
  rw [if_neg (by simp [h6, h7]), State.overTrack_ca]
  simp only [State.modDuty, State.modCa_ca, hres, hdut]
  exact ⟨rfl, _, _, rfl⟩

theorem State.storeResult_duty {k : Nat} (h6 : d ≠ 6) (h7 : d ≠ 7) (hk : k ≠ d) :
    (s.storeResult d value stamp).duty k = s.duty k := by
  obtain ⟨-, f, g, h⟩ := State.storeResult_tables (s := s) (value := value) (stamp := stamp) h6 h7
  rw [State.duty, h, tabGet_tabMod_other _ _ _ _ _ hk, tabGet_tabMod_other _ _ _ _ _ hk]
  rfl

theorem State.storeResult_result (h6 : d ≠ 6) (h7 : d ≠ 7) (hi : s.dutyInput d ≠ 0) :
    tabGet {} (s.dutyInput d) (s.storeResult d value stamp).ca.results = s.resultOf d value stamp := by
  rw [(State.storeResult_tables h6 h7).1]
  refine tabGet_tabPut_ne _ _ _ _ fun h => hi ?_
  exact congrArg Result.input h

theorem State.storeResult_result_other {k : Nat} (h6 : d ≠ 6) (h7 : d ≠ 7) (hk : k ≠ s.dutyInput d) :
    tabGet {} k (s.storeResult d value stamp).ca.results = tabGet {} k s.ca.results := by
  rw [(State.storeResult_tables h6 h7).1, tabGet_tabPut_other _ _ _ _ _ hk]

theorem State.storeResult_moves : Moves [.fm, .ca] s (s.storeResult d value stamp) := Moves.self.storeResult

/-! ### What the results' book-keeping reads -/

theorem Moves.late {ps : List Part} (h : Moves ps s t) (stamp : Nat) (hr : .rows ∉ ps := by decide) (hb : .tb ∉ ps := by decide) :
    t.late stamp = s.late stamp := by
  have hrows : t.rows = s.rows := h .rows hr
  have htb : t.tb = s.tb := h .tb hb
  simp only [State.late, State.centreOf, State.short, State.ns, hrows, htb]
  rfl

theorem Moves.cfgInt {ps : List Part} (h : Moves ps s t) (index sub bits : Nat) (hc : .cfg ∉ ps := by decide)
    (hi : .id ∉ ps := by decide) : t.cfgInt index sub bits = s.cfgInt index sub bits := by
  rw [State.cfgInt, State.cfgInt, h.cfgGet _ _ hc hi]

theorem Moves.dutyGain {ps : List Part} (h : Moves ps s t) (h6 : d ≠ 6) (h7 : d ≠ 7) (hc : .cfg ∉ ps := by decide)
    (hi : .id ∉ ps := by decide) : t.dutyGain d = s.dutyGain d := by
  unfold State.dutyGain State.dutyWord
  rw [if_neg (by simp [h6, h7]), if_neg (by simp [h6, h7]), h.cfgGet _ _ hc hi]

theorem Moves.voltMean {ps : List Part} (h : Moves ps s t) (h6 : d ≠ 6) (h7 : d ≠ 7) (l : List Int) (b : Bool)
    (hc : .cfg ∉ ps := by decide) (hi : .id ∉ ps := by decide) : t.voltMean d l b = s.voltMean d l b := by
  have hid : t.id = s.id := h .id hi
  rw [State.voltMean, State.voltMean, h.dutyGain h6 h7 hc hi, State.hvScale, State.hvScale, hid]

theorem Moves.iP {ps : List Part} (h : Moves ps s t) (value : Int) (hs : .ss ∉ ps := by decide) (hc : .cfg ∉ ps := by decide)
    (hi : .id ∉ ps := by decide) : t.iP value = s.iP value := by
  have hss : t.ss = s.ss := h .ss hs
  simp only [State.iP, State.rSh, State.shuntOhm, hss, h.dutyGain (by decide : (0 : Nat) ≠ 6) (by decide) hc hi,
    h.cfgInt _ _ _ hc hi, h.cfgGet _ _ hc hi]
  rfl

theorem State.lateMeans_of_now (h : s.late stamp = false) : s.lateMeans stamp = s := if_neg (by simp [h])

theorem State.lateMeans_of_late (h : s.late stamp = true) : s.lateMeans stamp = s.publishMeans := if_pos h

theorem State.modPat_of_now (h : s.late stamp = false) (f : PatResults → PatResults) :
    s.modPat stamp f = s.modSs fun x => { x with pat := f x.pat } := by simp [State.modPat, h]

theorem State.modPat_of_late (h : s.late stamp = true) (f : PatResults → PatResults) :
    s.modPat stamp f = s.modSs fun x => { x with prev := f x.prev } := by simp [State.modPat, h]

/-- Means published late leave what the results themselves have entered (R161). -/
theorem State.lateMeans_ss : ∃ a b c d e f g, (s.lateMeans stamp).ss = { s.ss with
    current := a, source := b, hall := c, vStr := d, busP := e, busN := f, prevMean := g } := by
  unfold State.lateMeans
  split
  · exact ⟨_, _, _, _, _, _, _, rfl⟩
  · exact ⟨_, _, _, _, _, _, _, rfl⟩

/-- A pattern's results are those of the present pattern and of the one before. -/
theorem State.modPat_ss (f : PatResults → PatResults) : ∃ a b, (s.modPat stamp f).ss = { s.ss with pat := a, prev := b } := by
  unfold State.modPat
  rw [State.modSs_ss]
  split
  · exact ⟨_, _, rfl⟩
  · exact ⟨_, _, rfl⟩

/-! ### Voltages -/

/-- A D2 result with a value joins the voltages (R161). -/
def PatResults.addV (p : PatResults) (value : Int) : PatResults := { p with v := value :: p.v }

theorem State.voltResult_of_valid (h : overrange value = false) :
    s.voltResult 2 value false stamp = s.modPat stamp fun p => p.addV value := by
  simp [State.voltResult, h, PatResults.addV]

theorem execResultDelivered_two {levels : List (Nat × Int)} {input : Nat} (hc : s.ca.started = true)
    (hs : (s.duty 2).slice ≠ 0xFF) (h0 : (s.duty 2).settle = 0) :
    execResultDelivered 2 levels stamp input s = .next (((s.storeResult 2 (s.filtered 2 levels) stamp).voltResult 2
      (s.filtered 2 levels) false stamp).lateMeans stamp) := by
  simp [execResultDelivered, hc, hs, h0]

/-! ### The Hall channel -/

theorem State.judgeHall_ss : s.judgeHall.ss = { s.ss with
    hallInvalid := s.ss.hallBad, pat := { s.ss.pat with hallBad := s.ss.pat.hallBad || s.ss.hallBad } } := by
  unfold State.judgeHall
  rw [State.cond_ss, State.modSs_ss]

theorem State.judgeHall_of_bad (hs : s.ss.hallSeen = true) (hb : s.ss.hallBad = true) : s.judgeHall =
    (s.modSs fun x => { x with hallInvalid := x.hallBad, pat := { x.pat with hallBad := x.pat.hallBad || x.hallBad } }).raiseCond
      0x0504 := by
  unfold State.judgeHall
  rw [hs, hb]
  rfl

/-- The current that a Hall value stands for (R160). -/
def State.hallCurrent (s : State) (value : Int) : Rat :=
  (value : Rat) * 5 / (8388608 * (s.dutyGain 1 : Rat)) * (s.cfgInt 0x2581 1 32 : Rat) - (s.cfgInt 0x2581 2 32 : Rat)

theorem Moves.hallCurrent {ps : List Part} (h : Moves ps s t) (value : Int) (hc : .cfg ∉ ps := by decide)
    (hi : .id ∉ ps := by decide) : t.hallCurrent value = s.hallCurrent value := by
  simp only [State.hallCurrent, h.dutyGain (by decide : (1 : Nat) ≠ 6) (by decide) hc hi, h.cfgInt _ _ _ hc hi]

theorem keepHall_head (stamp : Nat) (i : Rat) (l : List (Nat × Rat)) :
    (keepHall stamp ((stamp, i) :: l)).head? = some (stamp, i) := by
  unfold keepHall
  split
  · rfl
  · rfl

/-- A valid Hall result makes the channel seen, and invalid only by its reference or its supply (R158, R160). -/
theorem State.d1Result_hall (h : overrange value = false) :
    (s.d1Result value false stamp).ss.hallSeen = true ∧ (s.d1Result value false stamp).ss.hallLate = false ∧
    (s.d1Result value false stamp).ss.hallOver = false ∧
    (s.d1Result value false stamp).ss.hallInvalid = (s.ss.hallRefBad || s.ss.hallSupBad) ∧
    (s.d1Result value false stamp).ss.ihHist.head? = some (stamp, s.hallCurrent value) := by
  obtain ⟨t, ht, he⟩ : ∃ t : State, t.ss = { s.ss with
      hallOver := false, hallLate := false, hallSeen := true
      ihHist := keepHall stamp ((stamp, s.hallCurrent value) :: s.ss.ihHist) } ∧
      s.d1Result value false stamp =
        (if t.ss.hallBad then t else t.modPat stamp fun p => { p with ih := s.hallCurrent value :: p.ih }).judgeHall := by
    refine ⟨s.modSs fun x => { x with
      hallOver := false, hallLate := false, hallSeen := true
      ihHist := keepHall stamp ((stamp, s.hallCurrent value) :: x.ihHist) }, rfl, ?_⟩
    unfold State.d1Result
    simp only [h, Bool.false_eq_true, if_false]
    rfl
  obtain ⟨a, b, hp⟩ : ∃ a b, (if t.ss.hallBad then t else t.modPat stamp fun p => { p with ih := s.hallCurrent value :: p.ih }).ss =
      { t.ss with pat := a, prev := b } := by
    split
    · exact ⟨_, _, rfl⟩
    · exact State.modPat_ss _
  rw [he, State.judgeHall_ss, hp, ht]
  refine ⟨rfl, rfl, rfl, ?_, keepHall_head _ _ _⟩
  simp [Sensing.hallBad]

theorem execResultDelivered_one {levels : List (Nat × Int)} {input : Nat} (hc : s.ca.started = true)
    (hs : (s.duty 1).slice ≠ 0xFF) (h0 : (s.duty 1).settle = 0) :
    execResultDelivered 1 levels stamp input s = .next (((s.storeResult 1 (s.filtered 1 levels) stamp).d1Result
      (s.filtered 1 levels) false stamp).lateMeans stamp) := by
  simp [execResultDelivered, hc, hs, h0]

/-! ### The string current -/

theorem Sensing.addCharge_net (x : Sensing) (dq : Rat) :
    ((x.addCharge dq).charge : Rat) + (x.addCharge dq).remNet = (x.charge : Rat) + x.remNet + dq := by
  simp only [Sensing.addCharge]
  push_cast
  ring

theorem ratMax_sub (q : Rat) : ratMax q 0 - ratMax (-q) 0 = q := by
  unfold ratMax
  rcases lt_trichotomy q 0 with h | h | h
  · have hn : ¬ -q < 0 := by linarith
    simp [h, hn]
  · simp [h]
  · have hq : ¬ q < 0 := by linarith
    have hn : -q < 0 := by linarith
    simp [hq, hn]

theorem Sensing.addCharge_gross (x : Sensing) (dq : Rat) :
    ((x.addCharge dq).chargeIn : Rat) + (x.addCharge dq).remIn - (((x.addCharge dq).chargeOut : Rat) + (x.addCharge dq).remOut) =
      (x.chargeIn : Rat) + x.remIn - ((x.chargeOut : Rat) + x.remOut) + dq := by
  have h := ratMax_sub dq
  simp only [Sensing.addCharge]
  push_cast
  linarith

theorem State.goodResult_ss (i : Rat) : ∃ a b c, (s.goodResult value i stamp).ss = { s.ss with
    pat := a, prev := b, biasHist := c, inGap := false, blind := false, gapNs := 0, integrating := true, lastValidIP := i } := by
  obtain ⟨a, b, h⟩ := State.modPat_ss (s := s) (stamp := stamp) fun p => { p with ip := i :: p.ip, d0 := value :: p.d0 }
  unfold State.goodResult
  simp only [State.clearCond, State.modFm_ss, State.modSs_ss, h]
  exact ⟨_, _, _, rfl⟩

/-- What a valid D0 result leaves while charge is integrated (R163 to R165). -/
theorem State.d0Result_of_valid {p : Nat} (h : overrange value = false) (hi : s.ss.integrating = true)
    (hp : s.ss.lastD0 = some p) : ∃ v, s.d0Result value false stamp = (v, s.iP value, (shortDiff stamp p).toNat) ∧
      Moves [.fm, .ss] s v ∧ ∃ a b c, v.ss =
        { ({ s.ss with d0Over := false, lastD0 := some stamp } : Sensing).addCharge
            (s.iP value * ((shortDiff stamp p).toNat : Rat) / 1000000) with
          chargeStamp := s.fullStamp stamp, pat := a, prev := b, biasHist := c, inGap := false, blind := false, gapNs := 0
          integrating := true, lastValidIP := s.iP value } := by
  have hm : Moves [.fm, .ss] s (s.d0Result value false stamp).1 := Moves.self.d0Result
  obtain ⟨t, ht, he⟩ : ∃ t : State, t.ss =
      { ({ s.ss with d0Over := false, lastD0 := some stamp } : Sensing).addCharge
          (s.iP value * ((shortDiff stamp p).toNat : Rat) / 1000000) with chargeStamp := s.fullStamp stamp } ∧
      s.d0Result value false stamp = (t.goodResult value (s.iP value) stamp, s.iP value, (shortDiff stamp p).toNat) := by
    refine ⟨((s.modSs fun x => { x with d0Over := false, lastD0 := some stamp }).cond 0x0508 false).modSs fun x =>
      { x.addCharge (s.iP value * ((shortDiff stamp p).toNat : Rat) / 1000000) with chargeStamp := s.fullStamp stamp }, ?_, ?_⟩
    · rw [State.modSs_ss, State.cond_ss, State.modSs_ss]
    · simp [State.d0Result, h, hi, hp, State.d0Current]
  obtain ⟨a, b, c, hg⟩ := State.goodResult_ss (s := t) (stamp := stamp) (value := value) (s.iP value)
  rw [he] at hm
  exact ⟨_, he, hm, a, b, c, by rw [hg, ht]⟩

theorem State.prechargeHeat_of_other {i : Rat} {dt : Nat} (h : s.pc.seq ≠ 3) : s.prechargeHeat i dt = s := if_neg (by simp [h])

theorem execResultDelivered_zero {levels : List (Nat × Int)} {input : Nat} (hc : s.ca.started = true)
    (hs : (s.duty 0).slice ≠ 0xFF) (h0 : (s.duty 0).settle = 0) :
    execResultDelivered 0 levels stamp input s =
      let (v, i, dt) := (s.storeResult 0 (s.filtered 0 levels) stamp).d0Result (s.filtered 0 levels) false stamp
      .next (((((v.modCl fun c => { c with localNow := if v.ss.integrating then i :: c.localNow else c.localNow }).prechargeHeat
        i dt).joinMs i stamp).lateMeans stamp).lateSnap stamp) := by
  simp [execResultDelivered, hc, hs, h0]

/-- Settles O20. -/
theorem sensingCommands : Obligations.SensingCommands := by
  unfold Obligations.SensingCommands
  refine ⟨fun s levels value stamp input hc hs h0 hv hr hl => ?_, fun s levels value stamp input hc hs h0 hv hr hl => ?_,
    fun s levels value stamp input hc hs h0 hv hr => ?_, fun s levels value stamp p input hc hs h0 hv hr hi hp hq => ?_,
    fun s hh => ?_, fun s hg hb => ?_, fun s => ?_⟩
  · subst hv
    have hu : Moves [.fm, .ca] s (s.storeResult 2 (s.filtered 2 levels) stamp) := State.storeResult_moves
    have hss : (s.storeResult 2 (s.filtered 2 levels) stamp).ss = s.ss := hu .ss (by decide)
    have hw : Moves [.ca, .ss, .fm] s ((s.storeResult 2 (s.filtered 2 levels) stamp).modSs fun x =>
        { x with pat := x.pat.addV (s.filtered 2 levels) }) :=
      (hu.mono (by decide)).modSs (by decide) _
    have he := execResultDelivered_two (levels := levels) (stamp := stamp) (input := input) hc hs h0
    rw [State.voltResult_of_valid hr, State.modPat_of_now ((hu.late stamp).trans hl),
      State.lateMeans_of_now ((hw.late stamp).trans hl)] at he
    refine exists_next he ⟨?_, fun k hk => ?_, fun k hk => ?_, ?_, hw⟩
    · refine (State.storeResult_result (d := 2) (by decide) (by decide) (by simp [State.dutyInput])).trans ?_
      simp [State.resultOf, h0, State.dutyInput]
    · exact State.storeResult_result_other (by decide) (by decide) hk
    · exact State.storeResult_duty (by decide) (by decide) hk
    · rw [State.modSs_ss, hss, PatResults.addV]
  · subst hv
    have hu : Moves [.fm, .ca] s (s.storeResult 2 (s.filtered 2 levels) stamp) := State.storeResult_moves
    have hss : (s.storeResult 2 (s.filtered 2 levels) stamp).ss = s.ss := hu .ss (by decide)
    have hw : Moves [.ca, .ss, .fm] s ((s.storeResult 2 (s.filtered 2 levels) stamp).modSs fun x =>
        { x with prev := x.prev.addV (s.filtered 2 levels) }) :=
      (hu.mono (by decide)).modSs (by decide) _
    have he := execResultDelivered_two (levels := levels) (stamp := stamp) (input := input) hc hs h0
    rw [State.voltResult_of_valid hr, State.modPat_of_late ((hu.late stamp).trans hl),
      State.lateMeans_of_late ((hw.late stamp).trans hl)] at he
    refine exists_next he ?_
    rw [State.publishMeans, State.modSs_ss, hw.voltMean (by decide) (by decide), State.modSs_ss, hss, PatResults.addV]
    exact ⟨rfl, rfl, rfl, hw.modSs (by decide) _⟩
  · subst hv
    have hu : Moves [.fm, .ca] s (s.storeResult 1 (s.filtered 1 levels) stamp) := State.storeResult_moves
    have hss : (s.storeResult 1 (s.filtered 1 levels) stamp).ss = s.ss := hu .ss (by decide)
    obtain ⟨hseen, hlate, hover, hinv, hhead⟩ := State.d1Result_hall (s := s.storeResult 1 (s.filtered 1 levels) stamp) (stamp := stamp) hr
    have hca : Moves [.fm, .ss] (s.storeResult 1 (s.filtered 1 levels) stamp)
        (((s.storeResult 1 (s.filtered 1 levels) stamp).d1Result (s.filtered 1 levels) false stamp).lateMeans stamp) :=
      Moves.self.d1Result.lateMeans
    have hcaeq : _ = (s.storeResult 1 (s.filtered 1 levels) stamp).ca := hca .ca (by decide)
    obtain ⟨a, b, c, d, e, f, g, hmeans⟩ := State.lateMeans_ss (stamp := stamp)
      (s := (s.storeResult 1 (s.filtered 1 levels) stamp).d1Result (s.filtered 1 levels) false stamp)
    refine exists_next (execResultDelivered_one hc hs h0) ?_
    rw [hmeans, hcaeq]
    refine ⟨hseen, hlate, hover, ?_, ?_, ?_, fun k hk => ?_, (hu.mono (by decide)).then hca (by decide)⟩
    · exact hinv.trans (by rw [hss])
    · exact hhead.trans (by rw [hu.hallCurrent, State.hallCurrent])
    · exact congrArg Result.upd (State.storeResult_result (d := 1) (by decide) (by decide) (by simp [State.dutyInput]))
    · exact State.storeResult_result_other (by decide) (by decide) hk
  · subst hv
    have hu : Moves [.fm, .ca] s (s.storeResult 0 (s.filtered 0 levels) stamp) := State.storeResult_moves
    have hss : (s.storeResult 0 (s.filtered 0 levels) stamp).ss = s.ss := hu .ss (by decide)
    obtain ⟨v, hv, hm, a, b, c, hvs⟩ := State.d0Result_of_valid (s := s.storeResult 0 (s.filtered 0 levels) stamp)
      (stamp := stamp) (p := p) hr (by rw [hss]; exact hi) (by rw [hss]; exact hp)
    have he := execResultDelivered_zero (levels := levels) (stamp := stamp) (input := input) hc hs h0
    rw [hv] at he
    have hpc : v.pc = s.pc := (hm .pc (by decide)).trans (hu .pc (by decide))
    have hheat : ∀ f i dt, (v.modCl f).prechargeHeat i dt = v.modCl f := fun f i dt =>
      State.prechargeHeat_of_other (by rw [State.modCl_pc, hpc]; exact hq)
    simp only [hheat] at he
    refine exists_next he ?_
    generalize hw : (v.modCl fun c => { c with
      localNow := if v.ss.integrating then (s.storeResult 0 (s.filtered 0 levels) stamp).iP (s.filtered 0 levels) :: c.localNow
        else c.localNow }).joinMs ((s.storeResult 0 (s.filtered 0 levels) stamp).iP (s.filtered 0 levels)) stamp = w
    have hvw : Moves [.cl, .ef] v w := by
      rw [← hw]
      exact (Moves.self.modCl (by decide) _).joinMs
    have hsnap : ((w.lateMeans stamp).lateSnap stamp).ss = (w.lateMeans stamp).ss :=
      Moves.lateSnap (ps := [.ef]) .self (by decide) .ss (by decide)
    obtain ⟨a', b', c', d', e', f', g', hmeans⟩ := State.lateMeans_ss (stamp := stamp) (s := w)
    have hwss : w.ss = v.ss := hvw .ss (by decide)
    have hnet := Sensing.addCharge_net { s.ss with d0Over := false, lastD0 := some stamp }
      (s.iP (s.filtered 0 levels) * ((shortDiff stamp p).toNat : Rat) / 1000000)
    have hgross := Sensing.addCharge_gross { s.ss with d0Over := false, lastD0 := some stamp }
      (s.iP (s.filtered 0 levels) * ((shortDiff stamp p).toNat : Rat) / 1000000)
    rw [hsnap, hmeans, hwss, hvs, hss, hu.iP]
    refine ⟨rfl, rfl, rfl, rfl, rfl, hnet, hgross, ?_⟩
    have hall : Moves [.ca, .ss, .fm, .cl, .ef] s w :=
      ((hu.mono (by decide)).then hm (by decide)).then hvw (by decide)
    exact hall.lateMeans.lateSnap
  · have hbad : (s.modSs fun x => { x with hallLate := true }).ss.hallBad = true := by simp [Sensing.hallBad]
    have he : execHallNoResultTimeout s = .next (s.modSs fun x => { x with hallLate := true }).judgeHall := rfl
    refine exists_next he ⟨?_, ?_, (Moves.self.modSs (by decide) _).judgeHall⟩
    · rw [State.judgeHall_ss, hbad, Bool.or_true, State.modSs_ss]
    · rw [State.judgeHall_of_bad (by simpa using hh) hbad, State.raiseCond_fm]
      exact Moves.condFm (ps := [.ss]) ((Moves.self.modSs (by decide) _).modSs (by decide) _) (by decide) _ _
  · exact exists_next (next_of_pos (by simp [hg, hb])) ⟨State.raiseCond_fm _ _ _, Moves.self.raiseCond (by decide) _ _⟩
  · exact exists_next rfl ⟨State.journal_holds _ _, (Alters.refl _ _).journal (by decide) _ _⟩

end
end Sys2Proof.Machine
end

section
/-! The insulation monitor and the injection token (R167 to R177). -/

namespace Sys2Proof.Machine

-- One theorem after another: each thread of the checker takes 256 MB of stack.
set_option Elab.async false

section
variable {s t u : State} {kind target : Nat} {m : TokenMsg}

theorem next_of_eq (h : u = t) : (Host.Outcome.next u : Host.Outcome State Fault Refusal) = .next t := congrArg _ h

/-! ### Token messages -/

theorem Moves.telemetryMac {ps : List Part} (h : Moves ps s t) (covered : Bytes) (hy : .sy ∉ ps := by decide)
    : t.telemetryMac covered = s.telemetryMac covered := by
  have hsy : Syben.traffic s.sy t.sy := h .sy hy
  rw [State.telemetryMac, State.telemetryMac, State.keySlot, State.keySlot, hsy]
  rfl

/-- A message to the module's group, as it leaves through both ports (R493). -/
def State.telemetryOut (v : State) (group : Nat) (x : Msg) : State :=
  ((v.emit (.message (.udp group 48621) x)).datagram 1 group 48621 x.bytes).datagram 2 group 48621 x.bytes

theorem State.sendTelemetry_eq (ha : s.cfgGet 0x3180 1 ≠ 0) (hn : s.id.nodeId ≠ 0) (body : Bytes) :
    ∃ (v : State) (x : Msg), s.sendTelemetry body = v.telemetryOut (239 * 2 ^ 24 + 192 * 2 ^ 16 + 86 * 256 + s.cfgGet 0x2182 1) x ∧
      v.out = s.out ∧ x.opcode = 0x30 ∧ x.payload = body ∧ x.mac = some (s.telemetryMac x.covered) := by
  unfold State.sendTelemetry
  rw [if_neg (by simp [hn, ha])]
  exact ⟨_, _, rfl, rfl, rfl, rfl, rfl⟩

theorem State.telemetryOut_mem {v : State} {group : Nat} {x : Msg} (h : v.out = s.out) :
    .message (.udp group 48621) x ∈ (v.telemetryOut group x).out.drop s.out.length := by
  have hm : Moves [] (v.emit (.message (.udp group 48621) x)) (v.telemetryOut group x) := Moves.self.datagram.datagram
  obtain ⟨l, hl⟩ : (v.emit (.message (.udp group 48621) x)).out <+: _ := hm .out (by decide)
  rw [← hl, ← h]
  show _ ∈ ((v.out ++ [Out.message (.udp group 48621) x]) ++ l).drop v.out.length
  rw [List.append_assoc, List.drop_left]
  exact List.mem_cons_self

/-- A token message that is sent with an address leaves as telemetry. -/
theorem State.emitToken_sent (kind : Nat) (m : TokenMsg) : TokenSent s (s.emitToken kind m) kind m := by
  unfold TokenSent State.emitToken
  by_cases hn : s.id.nodeId = 0
  · rw [if_pos (.inr hn), if_pos (by simp [hn])]
  rw [if_neg (by simp [hn] : ¬(s.id.nodeId == 0) = true)]
  by_cases ha : s.cfgGet 0x3180 1 = 0
  · rw [if_pos (.inl ha), State.sendTelemetry, if_pos (by simp [ha])]
  obtain ⟨v, x, he, ho, hop, hpay, hmac⟩ := State.sendTelemetry_eq ha hn ([1, 0] ++ leBytes 2 s.id.nodeId ++ tokenBytes kind m)
  rw [if_neg (by simp [hn, ha]), he]
  exact ⟨x, hop, hpay, hmac, State.telemetryOut_mem ho⟩

/-- A token message that leaves after nothing else, or after something else where it has an address, is sent. -/
theorem TokenSent.after {ps : List Part} (h : TokenSent u t kind m) (hm : Moves ps s u)
    (ho : u.out = s.out ∨ s.cfgGet 0x3180 1 ≠ 0 ∧ s.id.nodeId ≠ 0)
    (hc : ∀ p ∈ [Part.cfg, .id, .sy, .out], p ∉ ps := by decide) : TokenSent s t kind m := by
  have hcfg : ∀ i j, u.cfgGet i j = s.cfgGet i j := fun i j => hm.cfgGet i j (hc _ (by decide)) (hc _ (by decide))
  have hid : u.id = s.id := hm .id (hc _ (by decide))
  have hout : s.out <+: u.out := hm .out (hc _ (by decide))
  unfold TokenSent at h ⊢
  rw [hcfg, hid] at h
  split
  next hn =>
    rw [if_pos hn] at h
    exact h.trans (ho.resolve_right fun ⟨ha, hi⟩ => hn.elim ha hi)
  next hn =>
    rw [if_neg hn] at h
    obtain ⟨x, hop, hpay, hmac, hx⟩ := h
    refine ⟨x, hop, hpay, hmac.trans (congrArg some (hm.telemetryMac _ (hc _ (by decide)))), ?_⟩
    obtain ⟨l, hl⟩ := hout
    rw [hcfg, ← hl, List.length_append, ← List.drop_drop] at hx
    exact List.mem_of_mem_drop hx

theorem Moves.tokenMsg {ps : List Part} (h : Moves ps s t) (target : Nat) (hi : t.im.sequence = s.im.sequence)
    (hc : ∀ p ∈ [Part.cfg, .id, .tb], p ∉ ps := by decide) : t.tokenMsg target = s.tokenMsg target := by
  have hid : t.id = s.id := h .id (hc _ (by decide))
  have htb : t.tb = s.tb := h .tb (hc _ (by decide))
  simp only [State.tokenMsg, State.isoBus, h.cfgGet 0x2680 1 (hc _ (by decide)) (hc _ (by decide)), hid, htb, hi]

/-- A change to the monitor alone, and a message of what it then knows. -/
theorem State.modIm_sendToken_sent (f : Insulation → Insulation) (hf : (f s.im).sequence = s.im.sequence) :
    TokenSent s ((s.modIm f).sendToken kind target) kind (s.tokenMsg target) := by
  have hm : Moves [.im] s (s.modIm f) := Moves.self.modIm (by decide) _
  rw [← hm.tokenMsg target hf]
  exact (State.emitToken_sent kind _).after hm (.inl rfl)

theorem State.sendToken_im : (s.sendToken kind target).im = s.im :=
  (Moves.self.sendToken : Moves [] s _) .im (by decide)

/-! ### The limits (R170) -/

theorem State.isoLimit_im (code limit run riso : Nat) : (s.isoLimit code limit run riso).1.im = s.im := by
  unfold State.isoLimit
  split
  · exact State.raiseCond_moves _ _ _ .im (by decide)
  · split
    · dsimp only
      split
      · rfl
      · rfl
    · rfl

theorem State.isoLimits_im (s : State) (riso : Nat) :
    ∃ p a, (s.isoLimits riso).im = { s.im with prewarnClear := p, alarmClear := a } := by
  unfold State.isoLimits
  dsimp only
  rw [State.modIm_im, State.isoLimit_im, State.isoLimit_im]
  exact ⟨_, _, rfl⟩

/-! ### The token (R173 to R177) -/

/-- A resistance as a RESULT reports it (R174). -/
def reported (n : Nat) : Option Nat := if n == 0xFFFFFFFF then none else some n

/-- A RESULT with a value taken as the module's own, before its limits (R177). -/
def State.resultTaken (s : State) (m : TokenMsg) : State :=
  ((s.heardSeq m).modIm fun x => { x with
    riso := some m.riso, rp := reported m.rp, rn := reported m.rn, ce := reported m.ce, stamp := m.stamp
    source := m.sender, busResult := true, holder := m.sender }).clearCond 0x0604

theorem State.tokenResult_of_value (hb : s.onBus m = true) (hc : s.mainClosed = true) (hh : s.holdsToken = false)
    (h6 : s.im.tokenState ≠ 6) (hr : m.riso ≠ 0xFFFFFFFF) : s.tokenResult m = (s.resultTaken m).isoLimits m.riso := by
  unfold State.tokenResult
  rw [if_neg (by simp [hb])]
  dsimp only
  rw [if_pos (by simp [hc, hh, h6]), if_neg (by simpa using hr)]
  rfl

/-- Settles O22. -/
theorem tokenCommands : Obligations.TokenCommands := by
  unfold Obligations.TokenCommands
  refine ⟨fun s hb h1 => ?_, fun s hb hh => ?_, fun s m hb => ?_, fun s m hb hh => ?_, fun s m hb hh hl => ?_,
    fun s m hb ht h1 => ?_, fun s m hb ht h4 hp hc => ?_, fun s m hb hc hh h6 hr => ?_, fun s m hb => ?_, fun s m hb => ?_,
    fun s n h3 hr hn => ?_, fun s h4 hc => ?_, fun s h1 hb => ?_, fun s h5 hl => ?_, fun s h5 hl => ?_⟩
  · have he : execTokenPeriodicSend s = .next ((s.modIm fun m =>
        { m with needs := m.needs.map fun n => { n with fresh := n.fresh - 1 } }).sendToken 1 0xFFFF) := by
      simp [execTokenPeriodicSend, hb, h1]
    exact exists_next he ⟨State.modIm_sendToken_sent _ rfl, State.sendToken_im, (Moves.self.modIm (by decide) _).sendToken⟩
  · have he : execTokenPeriodicSend s = .next ((s.modIm fun m =>
        { m with needs := m.needs.map fun n => { n with fresh := n.fresh - 1 } }).sendToken 2 0xFFFF) := by
      have h2 := hh
      simp only [State.holdsToken, Bool.and_eq_true, decide_eq_true_eq] at h2
      have h1 : s.im.tokenState ≠ 1 := by omega
      have h5 : s.im.tokenState ≠ 5 := by omega
      simp [execTokenPeriodicSend, hb, hh, h1, h5]
    exact exists_next he ⟨State.modIm_sendToken_sent _ rfl, State.sendToken_im, (Moves.self.modIm (by decide) _).sendToken⟩
  · have he : s.tokenNeed m = _ := if_neg (by simp [hb])
    exact exists_next (next_of_eq he) ⟨rfl, (Alters.refl _ _).modIm (by decide) _⟩
  · have he : s.tokenHold m = (s.heardSeq m).modIm fun x => { x with
        holder := m.sender, claimLost := x.claimLost || (x.tokenState == 5 && m.sender < s.id.nodeId) } := by
      simp [State.tokenHold, hb, hh]
    exact exists_next (next_of_eq he) ⟨rfl, ((Alters.refl _ _).modIm (by decide) _).modIm (by decide) _⟩
  · have he : s.tokenHold m = ((s.heardSeq m).modIm fun x => { x with
        connected := false, tokenState := if s.mainClosed then 1 else 0, holder := m.sender, checking := false }).voidCycle := by
      simp [State.tokenHold, hb, hh, hl]
    refine exists_next (next_of_eq he) ⟨rfl, rfl, ?_, rfl, rfl, rfl,
      (((Alters.refl _ _).modIm (by decide) _).modIm (by decide) _).modIm (by decide) _⟩
    simp only [State.holdsToken, State.voidCycle, State.modIm_im]
    split
    · rfl
    · rfl
  · have he : s.tokenPass m = ((s.heardSeq m).modIm fun x => { x with
        tokenState := 2, holder := s.id.nodeId, sequence := x.sequence + 1, checking := true }).sendToken 4 m.sender := by
      simp [State.tokenPass, hb, ht, h1]
    have hm : Moves [.im] s ((s.heardSeq m).modIm fun x => { x with
        tokenState := 2, holder := s.id.nodeId, sequence := x.sequence + 1, checking := true }) :=
      (Moves.self.modIm (by decide) _).modIm (by decide) _
    refine exists_next (next_of_eq he) ⟨State.sendToken_im, ?_, hm.sendToken⟩
    rw [Moves.tokenMsg (ps := []) Moves.self.sendToken m.sender (congrArg _ State.sendToken_im)]
    exact (State.emitToken_sent _ _).after hm (.inl rfl)
  · have he : s.tokenAccept m = (((s.heardSeq m).modIm fun x => { x with holder := m.sender }).modIm fun x => { x with
        connected := x.connected && !s.mainClosed, tokenState := if s.mainClosed then 1 else 0, passTo := 0 }).voidCycle := by
      simp [State.tokenAccept, hb, h4, ht, hp]
    refine exists_next (next_of_eq he) ⟨?_, ?_, rfl, rfl,
      ((((Alters.refl _ _).modIm (by decide) _).modIm (by decide) _).modIm (by decide) _).modIm (by decide) _⟩
    · simp [State.voidCycle, hc]
    · simp [State.voidCycle, hc]
  · have hv := State.tokenResult_of_value hb hc hh h6 hr
    obtain ⟨p, a, hi⟩ := (s.resultTaken m).isoLimits_im m.riso
    refine exists_next (next_of_eq hv) ?_
    rw [hi]
    exact ⟨rfl, rfl, rfl, rfl, rfl, (Moves.isoLimits
      (((Moves.self.modIm (by decide) _).modIm (by decide) _).clearCond (by decide) _))⟩
  · have he : s.tokenClaim m = _ := if_neg (by simp [hb])
    exact exists_next (next_of_eq he) ⟨rfl, ((Alters.refl _ _).modIm (by decide) _).modIm (by decide) _⟩
  · have he : s.tokenRelease m = _ := if_neg (by simp [hb])
    refine exists_next (next_of_eq he) ⟨?_, ((Alters.refl _ _).modIm (by decide) _).modIm (by decide) _⟩
    simp only [State.heardSeq, State.modIm_im, beq_iff_eq]
    rfl
  · have he : execTokenRotateExpiry s = .next ((s.modIm fun m => { m with passTo := n, tokenState := 4 }).sendToken 3 n) := by
      simp [execTokenRotateExpiry, h3, hr, State.passToken, hn]
    exact exists_next he ⟨State.sendToken_im, State.modIm_sendToken_sent _ rfl, (Moves.self.modIm (by decide) _).sendToken⟩
  · refine exists_next (next_of_pos (by simp [h4])) ⟨?_, (Alters.refl _ _).modIm (by decide) _⟩
    simp [hc]
  · exact exists_next (next_of_pos (by simp [h1, hb])) ⟨State.sendToken_im, State.modIm_sendToken_sent _ rfl,
      (Moves.self.modIm (by decide) _).sendToken⟩
  · have he : execTokenClaimWindowEnd s = .next ((s.modIm fun x => { x with
        tokenState := 2, holder := s.id.nodeId, sequence := x.sequence + 1, checking := true }).raiseEvent 0x0607) := by
      simp [execTokenClaimWindowEnd, h5, hl]
    have hm : Moves [.im] s (s.modIm fun x => { x with
        tokenState := 2, holder := s.id.nodeId, sequence := x.sequence + 1, checking := true }) := Moves.self.modIm (by decide) _
    exact exists_next he ⟨State.raiseEvent_moves _ _ _ .im (by decide), (State.raiseEvent_fm _ _ _).trans (hm.eventFm (by decide) _ _),
      (hm.mono (by decide)).raiseEvent (by decide) _ _⟩
  · have he : execTokenClaimWindowEnd s = .next (s.modIm fun x => { x with tokenState := 1, claimLost := false }) := by
      simp [execTokenClaimWindowEnd, h5, hl]
    exact exists_next he ⟨rfl, (Alters.refl _ _).modIm (by decide) _⟩

/-! ### The cycle (R167 to R171) -/

section Cycle
variable {vP vN : Int} {ce : Nat} {pe : Int}

theorem State.isoRatio_of_ne (h : vN ≠ 0) : s.isoRatio vP vN = ((vP : Rat) / (vN : Rat), s) := if_neg (by simpa using h)

theorem execIsoStateEnd_of_a (hc : s.im.connected = true) (hb : s.im.inB = false) (hv : vN ≠ 0) :
    execIsoStateEnd vP vN ce pe s = .next (s.modIm fun m =>
      { m with inB := true, ratioA := (vP : Rat) / (vN : Rat), ce := some (ce % 2 ^ 32) }) := by
  simp [execIsoStateEnd, hc, hb, State.isoRatio_of_ne hv]

/-- A cycle that ends, before its results (R167). -/
def State.cycleEnded (s : State) (bad : Bool) : State :=
  s.modIm fun m => { m with
    inB := false, cycleVoid := false, stamp := s.tb.now, source := s.id.nodeId, busResult := s.mainClosed, earthBad := bad }

theorem execIsoStateEnd_of_disagreed (hc : s.im.connected = true) (hb : s.im.inB = true) (hv : vN ≠ 0)
    (hd : s.earthsDisagree pe = true) : execIsoStateEnd vP vN ce pe s = .next (
      ((((s.cycleEnded true).modIm fun m => { m with riso := none, rp := none, rn := none, ce := none }).raiseCond 0x0603).sendResult)) := by
  unfold execIsoStateEnd
  rw [if_neg (by simp [hc]), State.isoRatio_of_ne hv]
  dsimp only
  rw [if_neg (by simp [hb]), hd]
  rfl

/-- The solution of a cycle with b above a. -/
def State.isoSolved (s : State) (gp gn : Rat) : State :=
  s.modIm fun m => { m with
    rp := some (rangeOhm gp).1, rn := some (rangeOhm gn).1, riso := some (rangeOhm (gp + gn)).1
    belowRange := (rangeOhm gp).2.1 || (rangeOhm gn).2.1 || (rangeOhm (gp + gn)).2.1
    aboveRange := (rangeOhm gp).2.2 || (rangeOhm gn).2.2 || (rangeOhm (gp + gn)).2.2 }

theorem State.isoSolve_of_lt {a b : Rat} (h : a < b) : s.isoSolve a b =
    (s.isoSolved ((1 + a) / ((b - a) * 2000000)) (a * (1 + b) / ((b - a) * 2000000)),
      (rangeOhm ((1 + a) / ((b - a) * 2000000) + a * (1 + b) / ((b - a) * 2000000))).1) := if_neg (not_le.2 h)

theorem execIsoStateEnd_of_b {gp gn : Rat} (hc : s.im.connected = true) (hb : s.im.inB = true) (hv : vN ≠ 0)
    (hd : s.earthsDisagree pe = false) (hab : s.im.ratioA < (vP : Rat) / (vN : Rat))
    (hgp : gp = (1 + s.im.ratioA) / (((vP : Rat) / (vN : Rat) - s.im.ratioA) * 2000000))
    (hgn : gn = s.im.ratioA * (1 + (vP : Rat) / (vN : Rat)) / (((vP : Rat) / (vN : Rat) - s.im.ratioA) * 2000000)) :
    execIsoStateEnd vP vN ce pe s = .next (
      ((((((s.cycleEnded false).clearCond 0x0603).isoSolved gp gn).isoLimits (rangeOhm (gp + gn)).1).clearCond 0x0604).sendResult)) := by
  unfold execIsoStateEnd
  rw [if_neg (by simp [hc]), State.isoRatio_of_ne hv]
  dsimp only
  rw [if_neg (by simp [hb]), hd, if_neg Bool.false_ne_true, State.isoSolve_of_lt hab, hgp, hgn]
  rfl

theorem Moves.isoSolved {ps : List Part} (h : Moves ps s t) {gp gn : Rat} (hp : .im ∈ ps := by decide) :
    Moves ps s (t.isoSolved gp gn) := h.modIm hp _

theorem Moves.cycleEnded {ps : List Part} (h : Moves ps s t) {bad : Bool} (hp : .im ∈ ps := by decide) :
    Moves ps s (t.cycleEnded bad) := h.modIm hp _

theorem State.sendResult_of_holder (h : s.im.tokenState = 3 ∨ s.im.tokenState = 4) (hb : s.isoBus ≠ 0) :
    s.sendResult = s.emitToken 5 { s.tokenMsg 0xFFFF with
      riso := s.im.riso.getD 0xFFFFFFFF, rp := s.im.rp.getD 0xFFFFFFFF, rn := s.im.rn.getD 0xFFFFFFFF
      ce := s.im.ce.getD 0xFFFFFFFF } := if_pos (by simpa [hb] using h)

theorem State.sendResult_im : s.sendResult.im = s.im := (Moves.self.sendResult : Moves [] s _) .im (by decide)

theorem State.sendResult_fm : s.sendResult.fm = s.fm := (Moves.self.sendResult : Moves [] s _) .fm (by decide)

end Cycle

/-- Settles O21. -/
theorem insulationCommands : Obligations.InsulationCommands := by
  unfold Obligations.InsulationCommands
  refine ⟨fun s vP vN ce pe hc hb hv => ?_, fun s vP vN ce pe a b gp gn hc hb hv hd ha hb' hab hgp hgn => ?_,
    fun s vP vN ce pe hc hb hv hd => ?_, fun s hc => ?_, fun s p v h2 hc hp hv => ?_, fun s p v h2 hc hp => ?_,
    fun s h2 => ?_, fun s hc hb => ?_⟩
  · exact exists_next (execIsoStateEnd_of_a hc hb hv) ⟨rfl, (Alters.refl _ _).modIm (by decide) _⟩
  · subst ha hb'
    have hm : Moves [.im, .fm] s ((((s.cycleEnded false).clearCond 0x0603).isoSolved gp gn)) :=
      ((Moves.self.cycleEnded).clearCond (by decide) _).isoSolved
    have hl := (hm.isoLimits (riso := (rangeOhm (gp + gn)).1)).clearCond (by decide) 0x0604
    obtain ⟨p, q, hi⟩ := (((s.cycleEnded false).clearCond 0x0603).isoSolved gp gn).isoLimits_im (rangeOhm (gp + gn)).1
    refine exists_next (execIsoStateEnd_of_b hc hb hv hd hab hgp hgn) ?_
    rw [State.sendResult_im, State.clearCond_im, hi]
    refine ⟨rfl, rfl, rfl, rfl, rfl, rfl, rfl, rfl, rfl, rfl, fun ht hbus ha hn => ?_, hl.sendResult⟩
    generalize hw : (((s.cycleEnded false).clearCond 0x0603).isoSolved gp gn).isoLimits (rangeOhm (gp + gn)).1 = w at hi hl
    have hmsg : (w.clearCond 0x0604).tokenMsg 0xFFFF = s.tokenMsg 0xFFFF := hl.tokenMsg _ (by rw [State.clearCond_im, hi]; rfl)
    have hsent : (w.clearCond 0x0604).sendResult = (w.clearCond 0x0604).emitToken 5 { s.tokenMsg 0xFFFF with
        riso := (rangeOhm (gp + gn)).1, rp := (rangeOhm gp).1, rn := (rangeOhm gn).1, ce := s.im.ce.getD 0xFFFFFFFF } := by
      have hstate : (w.clearCond 0x0604).im.tokenState = s.im.tokenState := by rw [State.clearCond_im, hi]; rfl
      rw [State.sendResult_of_holder (by rwa [hstate]) (by rwa [State.isoBus, hl.cfgGet]), hmsg, State.clearCond_im, hi]
      rfl
    rw [hsent]
    exact (State.emitToken_sent 5 _).after hl (.inr ⟨ha, hn⟩)
  · have hm : Moves [.im] s ((s.cycleEnded true).modIm fun m => { m with riso := none, rp := none, rn := none, ce := none }) :=
      (Moves.self.cycleEnded).modIm (by decide) _
    refine exists_next (execIsoStateEnd_of_disagreed hc hb hv hd) ?_
    rw [State.sendResult_im, State.sendResult_fm, State.raiseCond_fm, hm.condFm (by decide)]
    rw [State.raiseCond_im]
    exact ⟨rfl, rfl, rfl, rfl, rfl, rfl, rfl, ((hm.mono (by decide)).raiseCond (by decide) _ _).sendResult⟩
  · exact exists_next (next_of_pos hc) ⟨rfl, (Alters.refl _ _).modIm (by decide) _⟩
  · have he : execForeignInjectionCheckEnd p v s = .next ((s.modIm fun x => { x with checking := false }).raiseCond 0x0605) := by
      simp [execForeignInjectionCheckEnd, h2, hc, hp, hv]
    have hm : Moves [.im] s (s.modIm fun x => { x with checking := false }) := Moves.self.modIm (by decide) _
    exact exists_next he ⟨State.raiseCond_moves _ _ _ .im (by decide), (State.raiseCond_fm _ _ _).trans (hm.condFm (by decide) _ _),
      (hm.mono (by decide)).raiseCond (by decide) _ _⟩
  · have he : execForeignInjectionCheckEnd p v s = .next (((s.modIm fun x => { x with checking := false }).modIm fun x =>
        { x with connected := s.os.gate, inB := false, tokenState := if s.isoBus == 0 then 0 else 3 }).clearCond 0x0605) := by
      simp [execForeignInjectionCheckEnd, h2, hc, not_lt.2 hp]
    refine exists_next he ⟨?_, rfl, (((Alters.refl _ _).modIm (by decide) _).modIm (by decide) _).clearCond (by decide) _⟩
    simp [State.clearCond]
  · exact exists_next (next_of_pos (by simp [h2])) ⟨rfl, (Alters.refl _ _).modIm (by decide) _⟩
  · exact exists_next (next_of_pos (by simp [hc, hb])) ⟨State.raiseCond_fm _ _ _, Moves.self.raiseCond (by decide) _ _⟩

end
end Sys2Proof.Machine
end

section
/-! The ring procedure (R205 to R213, R229, R236). -/

namespace Sys2Proof.Machine

-- One theorem after another: each thread of the checker takes 256 MB of stack.
set_option Elab.async false

section
variable {s t u : State} {c d : Nat}

/-! ### CMUs and ring frames -/

theorem State.modCmu_cmu_same {f : Cmu → Cmu} (h : f (s.cmu c) ≠ {}) : (s.modCmu c f).cmu c = f (s.cmu c) :=
  tabGet_tabPut_ne _ _ _ _ h

theorem State.modCmu_cmu_other (f : Cmu → Cmu) (h : d ≠ c) : (s.modCmu c f).cmu d = s.cmu d :=
  tabGet_tabMod_other _ _ _ _ _ h

theorem State.cmu_of_cl (h : t.cl.cmus = s.cl.cmus) (c : Nat) : t.cmu c = s.cmu c := by rw [State.cmu, State.cmu, h]

theorem Cmu.ne_default_of_state {x : Cmu} (h : x.state ≠ 0) : x ≠ {} := fun hx => h (congrArg Cmu.state hx)

theorem Alters.modCmu {ps : List Part} (h : Alters ps s t) {f : Cmu → Cmu} (hp : .cl ∈ ps := by decide) :
    Alters ps s (t.modCmu c f) := h.modCl hp _

section Frames
variable {ports : List Nat} {kind dest : Nat} {payload : Bytes}

/-- In chain mode the driver's frames wait for the next row start (R203). -/
theorem State.ringTo_of_chain (hd : s.cl.driver = true) (hc : s.cl.chainMode = true) : s.ringTo ports kind dest payload =
    s.modCl fun l => { l with txWait := l.txWait ++ ports.map fun port => { port, kind, dest, payload } } := by
  unfold State.ringTo
  rw [if_neg (by simp [hd]), if_pos hc]

theorem State.ringTo_of_closed (hd : s.cl.driver = true) (hc : s.cl.chainMode = false) :
    s.ringTo ports kind dest payload = s.ringOut 1 kind dest s.patNo payload := by
  unfold State.ringTo
  rw [if_neg (by simp [hd]), if_neg (by simp [hc])]

end Frames

theorem State.sendEnum_of_chain (hd : s.cl.driver = true) (hc : s.cl.chainMode = true) (a : Nat) :
    s.sendEnum a = s.modCl fun l => { l with
      txWait := l.txWait ++ [{ port := if s.cl.fromB then 2 else 1, kind := 0x04, dest := 0xFE, payload := [a] }] } :=
  State.ringTo_of_chain hd hc

/-! ### The enumeration (R206 to R208) -/

theorem enumStart_cmus (l : Tab Cmu) : ∀ e ∈ l.map (fun (e : Nat × Cmu) => (e.1, { e.2 with
    state := 0, configured := false, delivered := none, echoA := [], echoB := [], spreadA := 0, spreadB := 0
    delayA := none, delayB := none, rounds := 0, needsLoad := false, loadBad := false, awaits := false, missing := false
    missBits := [] })), e.2.state = 0 := by
  intro e he
  obtain ⟨x, -, rfl⟩ := List.mem_map.1 he
  rfl

theorem State.enumStart_cl (hd : s.cl.driver = true) (hc : s.cl.chainMode = true) : ∃ l : Tab Cmu,
    (∀ e ∈ l, e.2.state = 0) ∧ s.enumStart.cl = { s.cl with
      ring := if s.cl.renewing then .renewing else .enumerating, proc := 3, fromB := false, nextAddr := 1, lastA := 0
      probe := false, tooMany := false, foreignAt := 0, foundClosed := false, found := 0, resends := 0, slotEnd := none
      modeDue := false, cmus := l
      txWait := s.cl.txWait ++ [{ port := 1, kind := 0x04, dest := 0xFE, payload := [1] }] } := by
  unfold State.enumStart
  rw [State.sendEnum_of_chain (by exact hd) (by exact hc)]
  exact ⟨_, enumStart_cmus s.cl.cmus, rfl⟩

theorem State.enumStart_alters (hd : s.cl.driver = true) (hc : s.cl.chainMode = true) : Alters [.cl] s s.enumStart := by
  unfold State.enumStart
  rw [State.sendEnum_of_chain (by exact hd) (by exact hc)]
  exact ((Alters.refl _ _).modCl (by decide) _).modCl (by decide) _

/-- An enumeration from port A turns to port B while places are left. -/
theorem State.enumEnd_of_left (ha : s.cl.fromB = false) (hl : max s.cl.lastA s.cl.foreignAt < s.cmuCount)
    (hd : s.cl.driver = true) (hc : s.cl.chainMode = true) : s.enumEnd = s.modCl fun l => { l with
      proc := 4, fromB := true, nextAddr := s.cmuCount, probe := false
      txWait := l.txWait ++ [{ port := 2, kind := 0x04, dest := 0xFE, payload := [s.cmuCount] }] } := by
  unfold State.enumEnd State.enumFromB
  rw [if_neg (by simp [ha]), if_pos hl, State.sendEnum_of_chain (by exact hd) (by exact hc)]
  rfl

/-- A CMU that takes the next place (R207). -/
def Cmu.identified (x : Cmu) (s : State) (m : IdentMsg) : Cmu :=
  { x with
    state := if m.image && m.digest == s.cl.imageDigest then 3 else 1
    needsLoad := !(s.cl.renewing && (m.image && m.digest == s.cl.imageDigest)), lowVer := m.lowVer, highVer := m.highVer
    serial := m.serial % 2 ^ 32, turnNs := m.turnNs, digest := m.digest }

section Ident
variable {m : IdentMsg}

theorem execIdentFrame_of_place (h3 : s.cl.proc = 3) (hp : s.cl.probe = false) (hm : m.deviceType = 0x1624)
    (ha : s.cl.fromB = false) (hn : s.cl.nextAddr ≠ 32) (hd : s.cl.driver = true) :
    execIdentFrame m s = .next (((s.modCmu s.cl.nextAddr fun x => x.identified s m).modCl fun l => { l with
      found := l.found + 1, lastA := if l.fromB then l.lastA else s.cl.nextAddr
      nextAddr := if l.fromB then s.cl.nextAddr - 1 else s.cl.nextAddr + 1 }).sendEnum (s.cl.nextAddr + 1)) := by
  simp [execIdentFrame, hd, h3, State.enumIdent, hp, hm, ha, hn, Cmu.identified]

theorem execIdentFrame_of_foreign (h3 : s.cl.proc = 3) (hp : s.cl.probe = false) (hm : m.deviceType ≠ 0x1624)
    (hd : s.cl.driver = true) : execIdentFrame m s = .next ((((s.modCmu s.cl.nextAddr fun _ =>
      { state := 5, serial := m.serial % 2 ^ 32 }).modCl fun l =>
        { l with foreignAt := if l.fromB then l.foreignAt else s.cl.nextAddr }).raiseCond 0x0802 s.cl.nextAddr).enumEnd) := by
  simp [execIdentFrame, hd, h3, State.enumIdent, hp, hm]

end Ident

/-- A renewal that begins, before its fault and its frames (R229). -/
def State.renewed (s : State) : State :=
  (s.stopApply 0x2880 0x2888).modCl fun l => { l with
    renewing := true, renewDue := false, retryDue := false, renewals := l.renewals + 1, txWait := [] }

theorem State.renewed_cl : s.renewed.cl = { s.cl with
    renewing := true, renewDue := false, retryDue := false, renewals := s.cl.renewals + 1, txWait := [] } := by
  have h : (s.stopApply 0x2880 0x2888).cl = s.cl := (Moves.self.stopApply : Moves [.cfg, .stopWait] s _) .cl (by decide)
  rw [State.renewed, State.modCl_cl, h]

theorem State.renewalStart_eq : s.renewalStart =
    let t := (s.renewed.raiseEvent 0x0809).ringTo [1, 2] 0x03 0xFF [0xD5]
    (if t.cl.chainMode then t else (t.ringTo [1] 0x09 0xFF [1]).modCl fun l => { l with chainMode := true }).enumStart := rfl

/-! ### Delays and loads (R209, R211 to R213) -/

theorem State.delaysDone_of_other (h : s.cl.proc ≠ 5) : s.delaysDone = s := if_neg (by simp [h])

/-- A round goes on while a loading CMU's report is awaited. -/
theorem State.loadRound_of_awaited (hd : d ∈ s.enumerated) (hs : (s.cmu d).state = 2) (ha : (s.cmu d).awaits = true) :
    s.loadRound = s := by
  unfold State.loadRound
  refine if_pos (List.any_eq_true.2 ⟨d, List.mem_filter.2 ⟨hd, ?_⟩, ha⟩)
  simp [hs]

theorem mem_tabPut_of_ne {α : Type} [DecidableEq α] {v0 v x : α} {j k : Nat} (hv : v ≠ v0) (hj : j ≠ k) :
    ∀ {l : Tab α}, (j, x) ∈ tabPut v0 k v l ↔ (j, x) ∈ l := by
  intro l
  induction l with
  | nil => simp [tabPut, hv, hj]
  | cons p l ih =>
    obtain ⟨i, w⟩ := p
    unfold tabPut
    split
    · simp [ih]
    · split
      next _ hi =>
        subst hi
        simp [hj]
      · simp [hj]

theorem State.mem_enumerated : c ∈ s.enumerated ↔ ∃ x, (c, x) ∈ s.cl.cmus ∧ x.state ≠ 0 ∧ x.state ≠ 5 := by
  unfold State.enumerated
  simp only [List.mem_map, List.mem_filter, Prod.exists]
  constructor
  · rintro ⟨a, x, ⟨h, hx⟩, rfl⟩
    exact ⟨x, h, by simpa using hx⟩
  · rintro ⟨x, h, hx⟩
    exact ⟨c, x, ⟨h, by simpa using hx⟩, rfl⟩

/-- The CMUs that are enumerated stay so when another one changes. -/
theorem State.mem_enumerated_modCmu {f : Cmu → Cmu} (hf : f (s.cmu c) ≠ {}) (hd : d ≠ c) :
    d ∈ (s.modCmu c f).enumerated ↔ d ∈ s.enumerated := by
  rw [State.mem_enumerated, State.mem_enumerated]
  refine exists_congr fun x => and_congr_left fun _ => ?_
  exact mem_tabPut_of_ne hf hd

theorem echoDelay_cons (rtt : Nat) (l : List Nat) (turn : Nat) :
    echoDelay (rtt :: l) turn = ((rtt + l.sum) / 16 - 10 * turn) / 2 := by
  rw [echoDelay, List.sum_cons, Nat.mul_comm]

theorem Moves.provenOpen (h : Moves [] s t) : t.provenOpen = s.provenOpen := by
  have hpc : t.pc = s.pc := h .pc (by decide)
  have hos : t.os = s.os := h .os (by decide)
  simp only [State.provenOpen, State.coil, hpc, hos]

/-- Settles O23. -/
theorem ringStartCommands : Obligations.RingStartCommands := by
  unfold Obligations.RingStartCommands
  refine ⟨fun s h1 hd hr hc => ?_, fun s m h3 hp hm ha hn hd hc => ?_, fun s m h3 hp hm hd ha hl hc => ?_,
    fun s h3 ha hl hd hc => ?_, fun s c rtt hd h5 hs hl => ?_, fun s c rtt he h0 hs hl hw => ?_, fun s c hd h7 hall => ?_,
    fun s c d n map hs hde hdc hds hda hd hc => ?_, fun s c d n map hs hde hdc hds hda hd => ?_,
    fun s m c n map hd hc he p hp => ?_, fun s h5 hr => ?_, fun s h0 hr => ?_, fun s hr hd hc => ?_, fun s r x h hp => ?_⟩
  · have he : execWakeToneEnd s = .next
        ((s.modCl fun l => { l with quietUntil := s.ns + 200000 }).ringTo [1, 2] 0x02 0xFF [0x5A]).enumStart := by
      simp [execWakeToneEnd, h1, hr]
    rw [State.ringTo_of_chain (by exact hd) (by exact hc)] at he
    obtain ⟨l, hl, hcl⟩ := State.enumStart_cl
      (s := (s.modCl fun l => { l with quietUntil := s.ns + 200000 }).modCl fun l => { l with
        txWait := l.txWait ++ [1, 2].map fun port => { port, kind := 0x02, dest := 0xFF, payload := [0x5A] } }) hd hc
    refine exists_next he ?_
    rw [hcl]
    refine ⟨by simp, rfl, rfl, rfl, rfl, rfl, rfl, hl, ?_⟩
    exact (((Alters.refl _ _).modCl (by decide) _).modCl (by decide) _).trans (State.enumStart_alters hd hc)
  · have he := execIdentFrame_of_place h3 hp hm ha hn hd
    rw [State.sendEnum_of_chain (by exact hd) (by exact hc)] at he
    have hst : (if m.image && m.digest == s.cl.imageDigest then 3 else 1) ≠ 0 := by
      split
      · decide
      · decide
    have hcmu := State.modCmu_cmu_same (s := s) (c := s.cl.nextAddr) (f := fun x => x.identified s m) (Cmu.ne_default_of_state hst)
    refine exists_next he ⟨congrArg Cmu.state hcmu, congrArg Cmu.serial hcmu, fun c hc' => ?_, ?_, ?_⟩
    · exact State.modCmu_cmu_other (fun x => x.identified s m) hc'
    · simp [State.modCmu, ha]
    · exact ((Alters.refl _ _).modCmu.modCl (by decide) _).modCl (by decide) _
  · have hm' : Moves [.cl] s ((s.modCmu s.cl.nextAddr fun _ => { state := 5, serial := m.serial % 2 ^ 32 }).modCl fun l =>
        { l with foreignAt := if l.fromB then l.foreignAt else s.cl.nextAddr }) := Moves.self.modCmu.modCl (by decide) _
    have hcl := State.raiseCond_cl ((s.modCmu s.cl.nextAddr fun _ => { state := 5, serial := m.serial % 2 ^ 32 }).modCl fun l =>
        { l with foreignAt := if l.fromB then l.foreignAt else s.cl.nextAddr }) 0x0802 s.cl.nextAddr
    have hraise := (hm'.mono (by decide) : Moves [.cl, .fm] _ _).raiseCond (by decide) 0x0802 s.cl.nextAddr
    have hcount := hraise.cfgGet 0x2880 0
    have he := execIdentFrame_of_foreign h3 hp hm hd
    rw [State.enumEnd_of_left (by rw [hcl]; exact ha) (by
        rw [hcl, State.cmuCount, hcount]
        simpa [State.modCmu, ha, State.cmuCount] using hl) (by rw [hcl]; exact hd) (by rw [hcl]; exact hc)] at he
    refine exists_next he ⟨?_, fun c hc' => ?_, ?_, ?_, hraise.modCl (by decide) _⟩
    · exact (State.cmu_of_cl (congrArg CellLink.cmus hcl) _).trans
        (State.modCmu_cmu_same (f := fun _ => { state := 5, serial := m.serial % 2 ^ 32 }) (Cmu.ne_default_of_state (Nat.succ_ne_zero 4)))
    · exact (State.cmu_of_cl (congrArg CellLink.cmus hcl) _).trans
        (State.modCmu_cmu_other (fun _ => { state := 5, serial := m.serial % 2 ^ 32 }) hc')
    · rw [State.modCl_cl, hcl, State.cmuCount, hcount]
      simp [State.modCmu, ha, hp, State.cmuCount]
    · exact (State.raiseCond_fm _ _ _).trans (hm'.condFm (by decide) _ _)
  · have he : execEnumTimeout false s = .next s.enumEnd := by
      simp [execEnumTimeout, h3]
    rw [State.enumEnd_of_left ha hl hd hc] at he
    exact exists_next he ⟨rfl, (Alters.refl _ _).modCl (by decide) _⟩
  · have he : execEcho c false rtt s = .next (s.modCmu c fun x => { x with echoA := rtt :: (s.cmu c).echoA }) := by
      simp [execEcho, hd, h5, hs, hl]
    exact exists_next he ⟨State.modCmu_cmu_same (Cmu.ne_default_of_state hs), fun d hdc => State.modCmu_cmu_other _ hdc, rfl,
      (Alters.refl _ _).modCmu⟩
  · have hn : ¬ 40 < echoSpread (rtt :: (s.cmu c).echoB) := not_lt.2 hw
    have he' : execEcho c true rtt s = .next (s.modCmu c fun x => { x with
        echoB := [], spreadB := 0, delayB := some (echoDelay (rtt :: (s.cmu c).echoB) (s.cmu c).turnNs) }) := by
      simp only [execEcho, he, Bool.not_true, Bool.and_false, Bool.false_eq_true, if_false, beq_eq_false_iff_ne.2 hs, if_true,
        List.length_cons, hl, hn, decide_false, Bool.false_and, lt_self_iff_false]
      exact congrArg _ (State.delaysDone_of_other (by simp [State.modCmu, h0]))
    refine exists_next he' ⟨?_, fun d hdc => State.modCmu_cmu_other _ hdc, rfl, (Alters.refl _ _).modCmu⟩
    rw [State.modCmu_cmu_same (Cmu.ne_default_of_state hs), echoDelay_cons]
  · have hne : ({ s.cmu c with configured := true } : Cmu) ≠ {} := fun h => Bool.noConfusion (congrArg Cmu.configured h)
    have hcmu := State.modCmu_cmu_same (s := s) (c := c) (f := fun x => { x with configured := true }) hne
    have hoth : ∀ e, e ≠ c → (s.modCmu c fun x => { x with configured := true }).cmu e = s.cmu e :=
      fun e he => State.modCmu_cmu_other _ he
    have he : execAck c 0 s = .next (s.modCmu c fun x => { x with configured := true }).step8Start := by
      unfold execAck
      rw [if_neg (by simp [hd]), if_neg (by simp [h7])]
      refine congrArg _ (if_pos (List.all_eq_true.2 fun e he => ?_))
      by_cases hec : e = c
      · subst hec
        rw [hcmu]
        simp
      · rw [hoth e hec]
        simpa using hall e ((State.mem_enumerated_modCmu hne hec).1 he) hec
    exact exists_next he ⟨rfl, congrArg Cmu.configured hcmu, hoth, (Alters.refl _ _).modCmu.modCl (by decide) _⟩
  · have hne : ({ s.cmu c with awaits := false, missing := false } : Cmu) ≠ {} := Cmu.ne_default_of_state (by simp [hs])
    have hcmu := State.modCmu_cmu_same (s := s) (c := c) (f := fun x => { x with awaits := false, missing := false }) hne
    have hoth : ∀ e, e ≠ c → (s.modCmu c fun x => { x with awaits := false, missing := false }).cmu e = s.cmu e :=
      fun e he => State.modCmu_cmu_other _ he
    have hdd := hoth d hdc
    have hden : d ∈ (s.modCmu c fun x => { x with awaits := false, missing := false }).enumerated :=
      (State.mem_enumerated_modCmu hne hdc).2 hde
    have he : execCmuLoadStatus c ⟨0, n, map⟩ s =
        .next ((s.modCmu c fun x => { x with awaits := false, missing := false }).ringOut 1 0x14 c s.patNo []) := by
      unfold execCmuLoadStatus
      rw [if_neg (by simp [hd]), if_neg (by simp [hs])]
      refine congrArg _ ?_
      show State.loadRound (State.ringTo _ _ 0x14 c []) = _
      rw [State.ringTo_of_closed (by exact hd) (by exact hc)]
      exact State.loadRound_of_awaited (d := d) hden ((congrArg Cmu.state hdd).trans hds) ((congrArg Cmu.awaits hdd).trans hda)
    exact exists_next he ⟨hcmu, hoth, rfl, rfl, ((Alters.refl _ _).modCmu.modOut (by decide) _).modCl (by decide) _⟩
  · have hne : ({ s.cmu c with awaits := false, missing := true, missBits := map } : Cmu) ≠ {} :=
      Cmu.ne_default_of_state (by simp [hs])
    have hcmu := State.modCmu_cmu_same (s := s) (c := c)
      (f := fun x => { x with awaits := false, missing := true, missBits := map }) hne
    have hoth : ∀ e, e ≠ c → (s.modCmu c fun x => { x with awaits := false, missing := true, missBits := map }).cmu e = s.cmu e :=
      fun e he => State.modCmu_cmu_other _ he
    have hdd := hoth d hdc
    have he : execCmuLoadStatus c ⟨1, n, map⟩ s =
        .next (s.modCmu c fun x => { x with awaits := false, missing := true, missBits := map }) := by
      unfold execCmuLoadStatus
      rw [if_neg (by simp [hd]), if_neg (by simp [hs])]
      exact congrArg _ (State.loadRound_of_awaited (d := d) ((State.mem_enumerated_modCmu hne hdc).2 hde)
        ((congrArg Cmu.state hdd).trans hds) ((congrArg Cmu.awaits hdd).trans hda))
    exact exists_next he ⟨hcmu, hoth, rfl, (Alters.refl _ _).modCmu⟩
  · have hrep : ∀ f, s.repeatFrame f = s.emit (.repeated f) := fun f => if_neg (by simp [hd, hc])
    have hem : ∀ f, (s.emit (.repeated f)).out = s.out ++ [.repeated f] ∧ Alters [.out] s (s.emit (.repeated f)) :=
      fun f => ⟨rfl, (Alters.refl _ _).modOut (by decide) _⟩
    simp only [List.mem_cons, List.not_mem_nil, or_false] at hp
    rcases hp with rfl | rfl | rfl | rfl
    · exact exists_next (next_of_eq ((if_pos (by simp [hd])).trans (hrep _))) (hem _)
    · exact exists_next (next_of_eq ((if_pos (by simp [hd])).trans (hrep _))) (hem _)
    · exact exists_next (next_of_eq ((if_pos (by simp [hd, he])).trans (hrep _))) (hem _)
    · exact exists_next (next_of_eq ((if_pos (by simp [hd])).trans (hrep _))) (hem _)
  · have he : execRingStartTimeout s = .next (((s.modCl fun l => { l with
        proc := 0, ring := if l.found == 0 then .lost else s.ringByReach, slotEnd := none, modeDue := false, txWait := [] }).modPm
          fun p => { p with step6Done := true }).raiseEvent 0x080F) := by
      have hp : ¬ s.cl.proc < 5 := not_lt.2 h5
      have hp0 : s.cl.proc ≠ 0 := by omega
      simp [execRingStartTimeout, hr, hp, hp0]
    have hm : Moves [.cl, .pm] s ((s.modCl fun l => { l with
        proc := 0, ring := if l.found == 0 then .lost else s.ringByReach, slotEnd := none, modeDue := false, txWait := [] }).modPm
          fun p => { p with step6Done := true }) := (Moves.self.modCl (by decide) _).modPm (by decide) _
    refine exists_next he ⟨?_, ?_, (State.raiseEvent_fm _ _ _).trans (hm.eventFm (by decide) _ _),
      (hm.mono (by decide)).raiseEvent (by decide) _ _⟩
    · rw [State.raiseEvent_cl]
      simp
    · rw [State.raiseEvent_pm]
      rfl
  · have hm : Moves [.cl] s (s.modCl fun l => { l with proc := 0, retryDue := true, slotEnd := none, modeDue := false, txWait := [] }) :=
      Moves.self.modCl (by decide) _
    refine exists_next (next_of_pos (by simp [h0, hr])) ⟨?_, (State.raiseEvent_fm _ _ _).trans (hm.eventFm (by decide) _ _),
      (hm.mono (by decide)).raiseEvent (by decide) _ _⟩
    rw [State.raiseEvent_cl]
    rfl
  · have hbase : Moves [.cl, .cfg, .stopWait] s s.renewed := (Moves.self.stopApply).modCl (by decide) _
    have hcl : s.renewed.cl = _ := State.renewed_cl
    have hraise : (s.renewed.raiseEvent 0x0809).cl = s.renewed.cl := State.raiseEvent_cl _ _ _
    have hd1 : (s.renewed.raiseEvent 0x0809).cl.driver = true := by rw [hraise, hcl]; exact hd
    have hc1 : (s.renewed.raiseEvent 0x0809).cl.chainMode = true := by rw [hraise, hcl]; exact hc
    obtain ⟨l, -, hend⟩ := State.enumStart_cl (s := (s.renewed.raiseEvent 0x0809).modCl fun l => { l with
        txWait := l.txWait ++ [1, 2].map fun port => { port, kind := 0x03, dest := 0xFF, payload := [0xD5] } }) hd1 hc1
    have he : execRenewalRetry s = .next ((s.renewed.raiseEvent 0x0809).modCl fun l => { l with
        txWait := l.txWait ++ [1, 2].map fun port => { port, kind := 0x03, dest := 0xFF, payload := [0xD5] } }).enumStart := by
      refine next_of_eq ((if_pos (by simp [hr, hd])).trans ?_)
      rw [State.renewalStart_eq, State.ringTo_of_chain hd1 hc1]
      exact congrArg State.enumStart (if_pos hc1)
    refine exists_next he ?_
    have hal := State.enumStart_alters (s := (s.renewed.raiseEvent 0x0809).modCl fun l => { l with
        txWait := l.txWait ++ [1, 2].map fun port => { port, kind := 0x03, dest := 0xFF, payload := [0xD5] } }) hd1 hc1
    have hfm := hal .fm (by decide)
    rw [hend, State.modCl_cl, hraise, hcl]
    refine ⟨rfl, rfl, rfl, rfl, ?_, rfl, ?_⟩
    · exact hfm.trans ((State.raiseEvent_fm _ _ _).trans (hbase.eventFm (by decide) _ _))
    · exact ((hbase.mono (by decide) : Moves [.cl, .cfg, .stopWait, .fm] _ _).raiseEvent (by decide) _ _ |>.modCl (by decide) _).trans
        (hal.moves.mono (by decide))
  · refine State.writeReq_next h (by decide) fun s1 w hm hw ha => ?_
    have hp1 : s1.provenOpen = true := hm.provenOpen.trans hp
    have hact : (if !s1.provenOpen then no s1 0x0C else ok (s1.modCl fun l => { l with renewDue := true })) =
        ok (s1.modCl fun l => { l with renewDue := true }) := if_neg (by simp [hp1])
    rw [hact] at hw ha
    have hcl : w.cl = { s1.cl with renewDue := true } := hw .cl (by decide)
    have hcl1 : s1.cl = s.cl := hm .cl (by decide)
    exact ⟨ha, by rw [hcl, hcl1], ((hm.mono (by decide)).modCl (by decide) _).traffic hw⟩

end
end Sys2Proof.Machine
end

section
/-! Pattern data, urgent triples, breaks and lost data (R218 to R228). -/

namespace Sys2Proof.Machine

-- One theorem after another: each thread of the checker takes 256 MB of stack.
set_option Elab.async false

section
variable {s t u : State} {m : CellData}

/-! ### Repeated frames -/

theorem State.repeatFrame_of_driver (h : s.cl.driver = true) (f : RingRx) : s.repeatFrame f = s := if_pos (by simp [h])

theorem State.repeatFrame_out (f : RingRx) : (s.repeatFrame f).out =
    if s.cl.driver = true ∨ s.coreUp = false then s.out else s.out ++ [.repeated f] := by
  unfold State.repeatFrame
  by_cases h : s.cl.driver = true ∨ s.coreUp = false
  · rw [if_pos (by simpa using h), if_pos h]
  · rw [if_neg (by simpa using h), if_neg h]
    rfl

theorem State.repeatFrame_alters (f : RingRx) : Alters [.out] s (s.repeatFrame f) :=
  .ite (.refl _ _) ((Alters.refl _ _).modOut (by decide) _)

theorem State.repeatFrame_cl (f : RingRx) : (s.repeatFrame f).cl = s.cl := State.repeatFrame_alters f .cl (by decide)

theorem State.discardFrame_cl : s.discardFrame.cl = { s.cl with
    discarded := s.cl.discarded + 1
    discardHist := BitVec.ofNat 32 s.patNo :: s.cl.discardHist.filter fun p => (BitVec.ofNat 32 s.patNo - p).toNat < 1000 } := by
  unfold State.discardFrame
  dsimp only
  rw [State.cond_cl, State.modCl_cl]

/-! ### A frame's voltages and temperatures (R219) -/

/-- What a frame's voltage makes of its group. -/
def Group.given (x : Group) (m : CellData) (g : Nat) (late : Bool) : Group :=
  let v := m.voltages.getD g 0xFFFF
  let f := b2n (bit m.bleed g) * 2 + b2n (bit m.ov g) * 4 + b2n (bit m.uv g) * 8 + b2n (bit m.status 0) * 16 + b2n late * 32
  if v == 0xFFFF || bit m.status 4 then { x with flags := x.flags % 2 + f }
  else { x with
    heldV := if x.fresh == 1 then x.heldV else x.voltage, heldStamp := if x.fresh == 1 then x.heldStamp else x.stamp
    voltage := some v, stamp := BitVec.ofNat 32 m.stamp, fresh := if late then 2 else 1, flags := x.flags % 2 + f }

theorem State.dataGroups_eq (m : CellData) (late : Bool) : s.dataGroups m late =
    (List.range (min (s.groupsOf m.cmu) m.populated)).foldl
      (fun t g => t.modGroup (s.firstGroup m.cmu + g) fun x => x.given m g late) s := rfl

theorem State.modGroup_group_other {g k : Nat} (f : Group → Group) (h : k ≠ g) : (s.modGroup g f).group k = s.group k :=
  tabGet_tabMod_other _ _ _ _ _ h

theorem State.modGroup_group_same {g : Nat} {f : Group → Group} (h : f (s.group g) ≠ {}) :
    (s.modGroup g f).group g = f (s.group g) := tabGet_tabPut_ne _ _ _ _ h

/-- A valid voltage is in its group, fresh. -/
theorem State.dataGroups_given {g : Nat} (hg : g < min (s.groupsOf m.cmu) m.populated)
    (hv : m.voltages.getD g 0xFFFF ≠ 0xFFFF) (h4 : bit m.status 4 = false) :
    ∃ x : Group, (s.dataGroups m false).group (s.firstGroup m.cmu + g) = { x with
      voltage := some (m.voltages.getD g 0xFFFF), stamp := BitVec.ofNat 32 m.stamp, fresh := 1 } := by
  obtain ⟨u, -, -, hr⟩ := foldl_entry (s := s) (f := fun t g => t.modGroup (s.firstGroup m.cmu + g) fun x => x.given m g false)
    (fun t n => t.group (s.firstGroup m.cmu + n)) (fun _ => True) (fun _ _ _ => trivial)
    (fun u k n _ h => State.modGroup_group_other _ (by omega)) List.nodup_range trivial (List.mem_range.2 hg)
  have hgiven : ∀ x : Group, ∃ y : Group, x.given m g false = { y with
      voltage := some (m.voltages.getD g 0xFFFF), stamp := BitVec.ofNat 32 m.stamp, fresh := 1 } := fun x =>
    ⟨x.given m g false, by
      unfold Group.given
      dsimp only
      rw [h4, Bool.or_false, if_neg (fun h => hv (beq_iff_eq.1 h))]
      rfl⟩
  obtain ⟨y, hy⟩ := hgiven (u.group (s.firstGroup m.cmu + g))
  refine ⟨y, ?_⟩
  rw [State.dataGroups_eq, hr, State.modGroup_group_same, hy]
  rw [hy]
  exact fun h => Option.some_ne_none _ (congrArg Group.voltage h)

theorem State.dataGroups_other {g : Nat} {late : Bool}
    (hg : g < s.firstGroup m.cmu ∨ s.firstGroup m.cmu + min (s.groupsOf m.cmu) m.populated ≤ g) :
    (s.dataGroups m late).group g = s.group g := by
  rw [State.dataGroups_eq]
  refine List.foldlRecOn (motive := fun t : State => t.group g = s.group g) _ _ rfl fun t ht k hk => ?_
  have hk := List.mem_range.1 hk
  exact (State.modGroup_group_other _ (by omega)).trans ht

theorem State.dataGroups_cl {late : Bool} : ∃ l, (s.dataGroups m late).cl = { s.cl with groups := l } := by
  rw [State.dataGroups_eq]
  refine List.foldlRecOn (motive := fun t : State => ∃ l, t.cl = { s.cl with groups := l }) _ _ ⟨_, rfl⟩ fun t ht k hk => ?_
  obtain ⟨l, ht⟩ := ht
  exact ⟨_, by rw [State.modGroup, State.modCl_cl, ht]⟩

theorem State.dataSensors_cl {late : Bool} : ∃ l, (s.dataSensors m late).cl = { s.cl with sensors := l } := by
  unfold State.dataSensors
  refine List.foldlRecOn (motive := fun t : State => ∃ l, t.cl = { s.cl with sensors := l }) _ _ ⟨_, rfl⟩ fun t ht k hk => ?_
  obtain ⟨l, ht⟩ := ht
  split
  · exact ⟨l, ht⟩
  · split
    · exact ⟨_, by rw [State.modSensor, State.modCl_cl, ht]⟩
    · exact ⟨_, by rw [State.modSensor, State.modCl_cl, ht]⟩

theorem Alters.dataGroups {ps : List Part} (h : Alters ps s t) {late : Bool} (hp : .cl ∈ ps := by decide) :
    Alters ps s (t.dataGroups m late) := h.trans (.foldl (fun _ _ => (Alters.refl _ _).modCl hp _) _ _)

theorem Alters.dataSensors {ps : List Part} (h : Alters ps s t) {late : Bool} (hp : .cl ∈ ps := by decide) :
    Alters ps s (t.dataSensors m late) := by
  refine h.trans (.foldl (fun u k => ?_) _ _)
  refine .ite (.refl _ _) ?_
  split
  · exact (Alters.refl _ _).modCl hp _
  · exact (Alters.refl _ _).modCl hp _

/-! ### Frames (R218) -/

/-- What an accepted frame makes of its CMU. -/
def Cmu.heard (x : Cmu) (m : CellData) (late : Bool) (patStart : Nat) : Cmu :=
  { x with
    state := if x.state == 4 && !x.lost then 3 else x.state
    status := m.status % 256, link := m.link % 4, dieTemp := dieOf m, bleedMask := m.bleed % 2 ^ 24
    delivered := some m.pattern, dataCrc := m.crc, frame := some m, lost := false, lateFrame := late
    masks := (m.bleed % 2 ^ 24) :: x.masks.take 3
    holdHist := (if bit m.status 0 then [patStart] else []) ++ x.holdHist.filter fun p => patStart < p + 1000000000 }

theorem State.acceptData_eq (m : CellData) (late : Bool) : s.acceptData m late =
    let t := s.modCmu m.cmu fun x => x.heard m late s.patStart
    if late then t else (t.dataGroups m false).dataSensors m false := rfl

theorem State.heard_cmu (late : Bool) :
    (s.modCmu m.cmu fun x => x.heard m late s.patStart).cmu m.cmu = (s.cmu m.cmu).heard m late s.patStart :=
  State.modCmu_cmu_same fun h => Option.some_ne_none _ (congrArg Cmu.delivered h)

/-- DATA of the present pattern, from the ring that this unit drives. -/
structure State.Present (s : State) (m : CellData) : Prop where
  driver : s.cl.driver = true
  intact : m.intact = true
  kind : m.kind = 0x0A
  low : 1 ≤ m.cmu
  high : m.cmu ≤ 32
  renewing : s.cl.renewing = false
  pattern : m.pattern = s.patNo
  stamp : m.stamp = s.patStart % 2 ^ 32
  kept : (s.cmu m.cmu).lost = false

theorem State.Present.exec (h : s.Present m) : execDataFrame m s = .next (
    if 1000000 < s.ns - s.patStart then (s.modCl fun l => { l with late := l.late + 1 }).acceptData m true
    else s.acceptData m false) := by
  have hp : ¬ (m.pattern + 1) % 2 ^ 32 = s.patNo := by
    rw [h.pattern]
    have : s.patNo < 2 ^ 32 := Nat.mod_lt _ (by decide)
    omega
  have hc0 : ¬ m.cmu = 0 := by have := h.low; omega
  have hc32 : ¬ 32 < m.cmu := not_lt.2 h.high
  unfold execDataFrame
  rw [State.repeatFrame_of_driver h.driver]
  dsimp only
  rw [if_neg (by simp [h.intact, h.kind, ringKinds]), if_neg (by simp [h.kind, hc0, hc32, h.renewing]),
    if_neg (by simpa using hp), if_neg (by simp [h.pattern, h.stamp]), if_neg (by simp [h.renewing]), if_neg (by simp [h.kept])]
  by_cases hl : 1000000 < s.ns - s.patStart
  · simp [hl]
  · simp [hl]

/-- Settles O24. -/
theorem cellDataCommands : Obligations.CellDataCommands := by
  unfold Obligations.CellDataCommands
  refine ⟨fun s m hd hi hk h1 h32 hr hp hs hn hl h4 => ?_, fun s m hd hi hk h1 h32 hr hp hs hn hl => ?_, fun s m hi hk => ?_,
    fun s => ?_, fun s a k ha hk => ?_, fun s a k ha h4 hk => ?_, fun s a k h => ?_, fun s a b c ha hc => ?_, fun s b c hc => ?_,
    fun s g hg ha => ?_⟩
  · have hpres : s.Present m := ⟨hd, hi, hk, h1, h32, hr, hp, hs, hl⟩
    have he := hpres.exec
    rw [if_neg (by omega), State.acceptData_eq, if_neg Bool.false_ne_true] at he
    generalize hv : (s.modCmu m.cmu fun x => x.heard m false s.patStart) = v at he
    obtain ⟨lg, hlg⟩ := State.dataGroups_cl (s := v) (m := m) (late := false)
    obtain ⟨ls, hls⟩ := State.dataSensors_cl (s := v.dataGroups m false) (m := m) (late := false)
    have hcmus : ((v.dataGroups m false).dataSensors m false).cl.cmus = v.cl.cmus := by rw [hls, hlg]
    have hgroups : ((v.dataGroups m false).dataSensors m false).cl.groups = (v.dataGroups m false).cl.groups := by rw [hls]
    have hgroup : ∀ g, ((v.dataGroups m false).dataSensors m false).group g = (v.dataGroups m false).group g := fun g => by
      rw [State.group, State.group, hgroups]
    have hown : ((v.dataGroups m false).dataSensors m false).cmu m.cmu = (s.cmu m.cmu).heard m false s.patStart := by
      rw [State.cmu_of_cl hcmus, ← hv, State.heard_cmu]
    have hfirst : ∀ c, v.firstGroup c = s.firstGroup c := by
      subst hv
      exact fun _ => rfl
    have hof : v.groupsOf m.cmu = s.groupsOf m.cmu := by
      subst hv
      rfl
    refine exists_next he ⟨?_, ?_, ?_, ?_, ?_, fun c hc => ?_, fun g hg hgv => ?_, fun g hg => ?_, ?_, ?_⟩
    · rw [hown]
      rfl
    · rw [hown]
      rfl
    · rw [hown]
      rfl
    · rw [hown]
      exact if_neg (by simp [h4])
    · rw [hown]
      rfl
    · rw [State.cmu_of_cl hcmus, ← hv, State.modCmu_cmu_other _ hc]
    · obtain ⟨x, hx⟩ := State.dataGroups_given (s := v) (m := m) (by rw [hof]; exact hg) hgv h4
      rw [hfirst] at hx
      rw [hgroup, hx]
      exact ⟨rfl, rfl, rfl⟩
    · rw [hgroup, State.dataGroups_other (by rw [hfirst, hof]; exact hg), ← hv]
      rfl
    · rw [hls, hlg, ← hv]
      rfl
    · have hal : Alters [.cl] s v := by
        subst hv
        exact (Alters.refl _ _).modCmu
      exact hal.dataGroups.dataSensors
  · have hpres : s.Present m := ⟨hd, hi, hk, h1, h32, hr, hp, hs, hl⟩
    have he := hpres.exec
    rw [if_pos (by omega), State.acceptData_eq, if_pos rfl] at he
    have hown := State.heard_cmu (s := s.modCl fun l => { l with late := l.late + 1 }) (m := m) true
    refine exists_next he ⟨?_, ?_, ?_, fun c hc => ?_, rfl, ((Alters.refl _ _).modCl (by decide) _).modCmu⟩
    · exact congrArg Cmu.frame hown
    · exact congrArg Cmu.lateFrame hown
    · exact congrArg Cmu.bleedMask hown
    · exact State.modCmu_cmu_other _ hc
  · have he : execDataFrame m s = .next s.discardFrame := congrArg _ (if_pos (by simpa [hi] using hk))
    refine exists_next he ⟨?_, Moves.self.discardFrame⟩
    rw [State.discardFrame_cl]
  · refine exists_next (rfl : execSymbolGapTimeout s = _) ?_
    rw [State.discardFrame_cl]
    exact ⟨rfl, rfl, rfl, Moves.self.discardFrame⟩
  · have hk16 : ¬ 16 ≤ k := by omega
    have he : execUrgent a k s = .next ((s.repeatFrame (.urgent a k)).modCl fun l => { l with
        urgentReceived := l.urgentReceived + 1, urgentNow := l.urgentNow ++ [{ addr := a, reason := k }] }) := by
      simp [execUrgent, not_lt.2 ha, hk16, not_le.2 hk]
    have hr := (State.repeatFrame_alters (s := s) (.urgent a k)).mono (by decide : [Part.out] ⊆ [.cl, .out])
    refine exists_next he ⟨?_, State.repeatFrame_out _, hr.modCl (by decide) _⟩
    rw [State.modCl_cl, State.repeatFrame_cl]
  · have he : execUrgent a k s = .next (((s.repeatFrame (.urgent a k)).modCl fun l => { l with
        urgentReceived := l.urgentReceived + 1, urgentNow := l.urgentNow ++ [{ addr := a, reason := k }] }).raiseEvent 0x080B a) := by
      simp [execUrgent, not_lt.2 ha, not_le.2 hk, h4]
    have hm : Moves [.cl] s ((s.repeatFrame (.urgent a k)).modCl fun l => { l with
        urgentReceived := l.urgentReceived + 1, urgentNow := l.urgentNow ++ [{ addr := a, reason := k }] }) :=
      (Moves.self.repeatFrame).modCl (by decide) _
    refine exists_next he ⟨?_, (State.raiseEvent_fm _ _ _).trans (hm.eventFm (by decide) _ _), (hm.mono (by decide)).raiseEvent (by decide) _ _⟩
    rw [State.raiseEvent_cl, State.modCl_cl, State.repeatFrame_cl]
  · have he : execUrgent a k s = .next ((s.repeatFrame (.urgent a k)).modCl fun l => { l with urgentIgnored := l.urgentIgnored + 1 }) :=
      congrArg _ (if_pos (by simpa using h))
    have hr := (State.repeatFrame_alters (s := s) (.urgent a k)).mono (by decide : [Part.out] ⊆ [.cl, .out])
    refine exists_next he ⟨?_, State.repeatFrame_out _, hr.modCl (by decide) _⟩
    rw [State.modCl_cl, State.repeatFrame_cl]
  · have he : execBreakTriple a b c s = .next ((s.repeatFrame (.broken a)).modCl fun l =>
        { l with breakDue := true, breakLastA := b, breakFirstB := c }) := by
      simp [execBreakTriple, not_lt.2 ha, State.breakFound, State.repeatFrame_cl, hc]
    have hr := (State.repeatFrame_alters (s := s) (.broken a)).mono (by decide : [Part.out] ⊆ [.cl, .out])
    refine exists_next he ⟨?_, State.repeatFrame_out _, hr.modCl (by decide) _⟩
    rw [State.modCl_cl, State.repeatFrame_cl]
  · have he : s.breakFound b c = _ := if_neg (by simp [hc])
    exact exists_next (next_of_eq he) ⟨rfl, (Alters.refl _ _).modCl (by decide) _⟩
  · exact exists_next (next_of_pos (List.any_eq_true.2 ⟨g, List.mem_range.2 hg, by simpa using ha⟩))
      ⟨State.raiseCond_fm _ _ _, Moves.self.raiseCond (by decide) _ _⟩

end
end Sys2Proof.Machine
end

section
/-! Step captures: requests, local detection and data (R229 to R235). -/

namespace Sys2Proof.Machine

-- One theorem after another: each thread of the checker takes 256 MB of stack.
set_option Elab.async false

section
variable {s t : State}

/-! ### Requests (R230, R231) -/

/-- A capture at an instant can be taken: none is busy, and the instant is in this epoch, neither too old nor too far ahead. -/
structure State.CanStep (s : State) (t0 : Stamp) : Prop where
  free : s.cl.stepState ≠ 1
  taken : s.cl.stepState ≠ 2
  epoch : t0.epoch = s.tb.now.epoch
  recent : s.rowStartNs + 100000 ≤ stampNs t0 + 100000000
  near : stampNs t0 ≤ s.ns + 1000000000

/-- The cell link once a capture is requested. -/
def CellLink.requested (l : CellLink) (t0 : Stamp) : CellLink := { l with
  stepState := 1, stepId := (l.stepId + 1) % 256, stepTs := t0, stepSend := true, stepGroups := 0, stepMarked := false
  stepData := [] }

theorem State.CanStep.requestStep {ts : Stamp} (h : s.CanStep (stampAt ts.epoch (stampNs ts / 1000000 * 1000000))) :
    s.requestStep ts = (s.modCl fun l => l.requested (stampAt ts.epoch (stampNs ts / 1000000 * 1000000)), true) := by
  have hbusy : (s.cl.stepState == 1 || s.cl.stepState == 2) = false := by simp [h.free, h.taken]
  have hrecent := h.recent
  have hnear := h.near
  unfold State.requestStep
  dsimp only
  rw [hbusy, if_neg (by simp), if_neg]
  · rfl
  · simp only [Bool.false_or, Bool.or_eq_true, bne_iff_ne, ne_eq, decide_eq_true_eq]
    have hepoch := h.epoch
    omega

theorem Moves.ns {ps : List Part} (h : Moves ps s t) (hb : .tb ∉ ps := by decide) : t.ns = s.ns := by
  have htb : t.tb = s.tb := h .tb hb
  unfold State.ns
  rw [htb]

theorem Moves.rowStartNs {ps : List Part} (h : Moves ps s t) (hb : .tb ∉ ps := by decide) : t.rowStartNs = s.rowStartNs := by
  unfold State.rowStartNs
  rw [h.ns hb]

theorem State.CanStep.of_moves {t0 : Stamp} (h : s.CanStep t0) (hm : Moves [] s t) : t.CanStep t0 := by
  have hcl : t.cl = s.cl := hm .cl (by decide)
  have htb : t.tb = s.tb := hm .tb (by decide)
  obtain ⟨hfree, htaken, hepoch, hrecent, hnear⟩ := h
  refine ⟨hcl ▸ hfree, hcl ▸ htaken, htb ▸ hepoch, ?_, ?_⟩
  · rw [hm.rowStartNs]
    exact hrecent
  · rw [hm.ns]
    exact hnear

theorem State.CanStep.stepRequestAct {ts : Stamp} (h : s.CanStep (stampAt ts.epoch (stampNs ts / 1000000 * 1000000)))
    (he : bit (s.cfgGet 0x2885 2) 2 = true) :
    s.stepRequestAct ts =
      ok (s.modCl fun l => l.requested (stampAt ts.epoch (stampNs ts / 1000000 * 1000000))) := by
  unfold State.stepRequestAct
  rw [he, if_neg (by simp), h.requestStep]
  rfl

/-! ### Local detection (R232) -/

/-- The mean of the millisecond is kept, and the next one begins. -/
def State.localKept (s : State) : State := s.modCl fun l => { l with localPrev := ratMean s.cl.localNow, localNow := [] }

theorem execStepLocalDetect_of_off (h : s.cfgGet 0x2885 1 = 0) : execStepLocalDetect s = .next s.localKept := by
  refine next_of_eq ?_
  split
  · exact if_neg (by simp [h])
  · rfl

theorem execStepLocalDetect_of_moved {a b : Rat} (h0 : s.cfgGet 0x2885 1 ≠ 0) (he : bit (s.cfgGet 0x2885 2) 0 = true)
    (ha : ratMean s.cl.localNow = some a) (hb : s.cl.localPrev = some b) (hd : (s.cfgGet 0x2885 1 : Rat) ≤ ratAbs (a - b)) :
    execStepLocalDetect s = .next (s.localKept.requestStep (stampAt s.tb.now.epoch (s.ns - 1000000))).1 := by
  unfold execStepLocalDetect State.localKept
  rw [ha, hb]
  exact next_of_pos (by simp [h0, he, hd])

/-- The instant of a local detection, a millisecond back, can be taken. -/
theorem State.localKept_canStep (h1 : s.cl.stepState ≠ 1) (h2 : s.cl.stepState ≠ 2) (hns : 1000000 ≤ s.ns) :
    s.localKept.CanStep (stampAt s.tb.now.epoch ((s.ns - 1000000) / 1000000 * 1000000)) := by
  have hm : Moves [.cl] s s.localKept := (State.modCl_alters s _).moves
  have hrow : s.rowStartNs ≤ s.ns := Nat.div_mul_le_self _ _
  have htb : s.localKept.tb = s.tb := hm .tb (by decide)
  refine ⟨h1, h2, by rw [htb, stampAt_epoch], ?_, ?_⟩
  · rw [stampNs_stampAt, hm.rowStartNs]
    omega
  · rw [stampNs_stampAt, hm.ns]
    omega

/-! ### Data (R234) -/

/-- A group's samples go on round the ring, and to the twin where they are the group's first. -/
def State.passedOn (s : State) (cmu group : Nat) (samples : List Nat) : State :=
  let u := s.repeatFrame (.stepData cmu s.cl.stepId group 0 samples)
  if u.ty.state == .member && (tabGet [] (s.firstGroup cmu + group) u.cl.stepData).isEmpty then
    u.modTy fun y => { y with longDue := y.longDue ++ [.stepData cmu s.cl.stepId group 0 samples] }
  else u

theorem State.passedOn_alters (cmu group : Nat) (samples : List Nat) :
    Alters [.ty, .out] s (s.passedOn cmu group samples) := by
  have h : Alters [.ty, .out] s (s.repeatFrame (.stepData cmu s.cl.stepId group 0 samples)) :=
    (State.repeatFrame_alters _).mono (by decide)
  exact .ite (h.modTy (by decide) _) h

theorem State.passedOn_out (cmu group : Nat) (samples : List Nat) : (s.passedOn cmu group samples).out =
    if s.cl.driver = true ∨ s.coreUp = false then s.out
    else s.out ++ [.repeated (.stepData cmu s.cl.stepId group 0 samples)] := by
  rw [← State.repeatFrame_out]
  exact (apply_ite State.out _ _ _).trans (ite_self _)

/-- The samples are in the table, and the groups that have come are counted. -/
def CellLink.sampled (l : CellLink) (g : Nat) (samples : List Nat) (held : Bool) : CellLink :=
  let d := tabPut [] g (samples.take 200) l.stepData
  { l with stepState := 2, stepData := d, stepMarked := l.stepMarked || held, stepGroups := d.length }

/-- A CMU held its bleeding while the capture's window ran. -/
def State.stepHeld (s : State) (cmu : Nat) : Bool :=
  (s.cmu cmu).holdHist.any fun p =>
    decide (stampNs s.cl.stepTs < p + 60000000) && decide (p ≤ stampNs s.cl.stepTs + 149000000)

theorem execStepData_of_short {cmu g : Nat} {v : List Nat} (h1 : s.cl.stepState = 1) (hg : g < s.groupsOf cmu)
    (hc : s.firstGroup cmu + g < s.groupCount)
    (hl : (tabPut [] (s.firstGroup cmu + g) (v.take 200) s.cl.stepData).length < s.groupCount) :
    execStepData cmu s.cl.stepId g 0 v s = .next ((s.passedOn cmu g v).modCl fun l =>
      l.sampled (s.firstGroup cmu + g) v (s.stepHeld cmu)) := by
  have hcount : (s.repeatFrame (.stepData cmu s.cl.stepId g 0 v)).groupCount = s.groupCount := by
    unfold State.repeatFrame
    split <;> rfl
  have hcl : (s.passedOn cmu g v).cl = s.cl := State.passedOn_alters cmu g v .cl (by decide)
  unfold execStepData
  extract_lets i f ts held u u0 w n w'
  have hw : u0 = s.passedOn cmu g v := by
    unfold State.passedOn
    dsimp only [u0, u, i, f]
  have hn : n < u.groupCount := by
    have : n = (tabPut [] (s.firstGroup cmu + g) (v.take 200) u0.cl.stepData).length := rfl
    rw [this, hw, hcl, hcount]
    exact hl
  rw [if_neg (by simp [h1, i]; omega), if_pos hn]
  dsimp only [w', n, w]
  rw [hw]
  rfl

/-- Settles O25. -/
theorem stepCaptureCommands : Obligations.StepCaptureCommands := by
  unfold Obligations.StepCaptureCommands
  refine ⟨fun s r x ts t0 h he h1 h2 ht hep hr hn => ?_, fun s r x ts t0 he h1 h2 ht hep hr hn => ?_, fun s h => ?_,
    fun s a b h0 he ha hb hd h1 h2 hns => ?_, fun s cmu g v h1 hg hc hv hl => ?_⟩
  · subst ht
    have hcan : s.CanStep _ := ⟨h1, h2, hep, hr, hn⟩
    refine exists_next rfl (State.liveReq_waits false _ _ (Nat.le_of_ble_eq_true rfl) h fun s1 hm => ?_)
    rw [(hcan.of_moves hm).stepRequestAct (by rwa [hm.cfgGet])]
    rfl
  · subst ht
    have hcan : s.CanStep _ := ⟨h1, h2, hep, hr, hn⟩
    exact ⟨_, hcan.stepRequestAct he, rfl, State.modCl_alters s _⟩
  · exact exists_next (execStepLocalDetect_of_off h) ⟨rfl, State.modCl_alters s _⟩
  · have hcan := State.localKept_canStep h1 h2 hns
    refine exists_next (execStepLocalDetect_of_moved h0 he ha hb hd) ?_
    rw [State.CanStep.requestStep (by rwa [stampNs_stampAt, stampAt_epoch]), stampNs_stampAt, stampAt_epoch]
    exact ⟨rfl, rfl, rfl, rfl, ha, rfl, (State.modCl_alters s _).modCl (by decide) _⟩
  · have hp := State.passedOn_alters (s := s) cmu g v
    have hcl : (s.passedOn cmu g v).cl = s.cl := hp .cl (by decide)
    have hdata : tabGet [] (s.firstGroup cmu + g) (tabPut [] (s.firstGroup cmu + g) (v.take 200) s.cl.stepData) = v.take 200 :=
      tabGet_tabPut_ne _ _ _ _ (by simpa using hv)
    refine exists_next (execStepData_of_short h1 hg hc hl) ⟨rfl, ?_, fun k hk => ?_, State.passedOn_out cmu g v, (hp.mono (by decide)).modCl (by decide) _⟩
    · rw [State.modCl_cl, hcl]
      exact hdata
    · rw [State.modCl_cl, hcl]
      exact tabGet_tabPut_other _ _ _ _ _ hk

end
end Sys2Proof.Machine
end

section
/-! Estimation in a pattern: group updates and deadlines (R244 to R253). -/

namespace Sys2Proof.Machine

-- One theorem after another: each thread of the checker takes 256 MB of stack.
set_option Elab.async false

section
variable {s t u : State}

/-! ### Contexts -/

theorem State.modCtx_ctx_other {g k : Nat} (f : Ctx → Ctx) (h : k ≠ g) : (s.modCtx g f).ctx k = s.ctx k :=
  tabGet_tabMod_other _ _ _ _ _ h

theorem State.modCtx_ctx_same {g : Nat} {f : Ctx → Ctx} (h : f (s.ctx g) ≠ {}) : (s.modCtx g f).ctx g = f (s.ctx g) :=
  tabGet_tabPut_ne _ _ _ _ h

theorem State.modGroup_ctx (g k : Nat) (f : Group → Group) : (s.modGroup g f).ctx k = s.ctx k := rfl

/-- The groups of the string are those of its configuration. -/
theorem Moves.populated {ps : List Part} (h : Moves ps s t) (hc : .cfg ∉ ps := by decide) (hi : .id ∉ ps := by decide) :
    t.populated = s.populated := by
  unfold State.populated State.groupCount State.firstGroup State.groupsOf State.cmuCount
  simp only [h.cfgGet _ _ hc hi]

/-! ### Faults of groups -/

/-- Two states whose fault managers take the same fault in the same way. -/
structure State.SameFaults (s t : State) : Prop where
  fm : t.fm = s.fm
  tb : t.tb = s.tb
  inPair : ∀ code, t.inPair code = s.inPair code

theorem State.SameFaults.raiseEvent (h : s.SameFaults t) (code item : Nat) :
    (s.raiseEvent code item).SameFaults (t.raiseEvent code item) := by
  obtain ⟨hfm, htb, hpair⟩ := h
  have hs : Moves [.fm] s (s.raiseEvent code item) := Moves.self.raiseEvent (by decide) _ _
  have ht : Moves [.fm] t (t.raiseEvent code item) := Moves.self.raiseEvent (by decide) _ _
  refine ⟨?_, ?_, fun c => ?_⟩
  · rw [State.raiseEvent_fm, State.raiseEvent_fm, State.eventFm, State.eventFm, hfm, htb, hpair]
  · exact (ht .tb (by decide)).trans (htb.trans (hs .tb (by decide)).symm)
  · rw [ht.inPair (by decide) (by decide), hpair, hs.inPair (by decide) (by decide)]

theorem State.SameFaults.foldl (code : Nat) {gs : List Nat} (h : s.SameFaults t) :
    (gs.foldl (fun u k => u.raiseEvent code k) s).SameFaults (gs.foldl (fun u k => u.raiseEvent code k) t) := by
  induction gs generalizing s t with
  | nil => exact h
  | cons g gs ih => exact ih (h.raiseEvent code g)

theorem foldl_raiseEvent_moves (code : Nat) (gs : List Nat) : Moves [.fm] s (gs.foldl (fun u k => u.raiseEvent code k) s) :=
  .foldl (fun _ _ => Moves.self.raiseEvent (by decide) _ _) _ _

/-! ### Skipped groups (R253) -/

/-- A group that no lane has come to, or that was not finished. -/
def Ctx.skip (c : Ctx) : Ctx := { c with flags := setBit c.flags 4 true, flagged := true }

theorem Ctx.skip_ne (c : Ctx) : c.skip ≠ {} := fun h => Bool.noConfusion (congrArg Ctx.flagged h)

theorem Ctx.skip_flag (c : Ctx) : bit c.skip.flags 4 = true := (bit_setBit_true _ _ _).2 (.inl rfl)

theorem Ctx.skip_skip (c : Ctx) : c.skip.skip = c.skip := by
  have h : setBit c.skip.flags 4 true = c.skip.flags := by
    rw [setBit, c.skip_flag]
    rfl
  unfold Ctx.skip at h ⊢
  rw [h]

/-- The groups marked as skipped. -/
def State.skipped (s : State) (gs : List Nat) : State := gs.foldl (fun u k => u.modCtx k Ctx.skip) s

theorem State.skipped_ctx (gs : List Nat) (k : Nat) :
    (s.skipped gs).ctx k = if k ∈ gs then (s.ctx k).skip else s.ctx k := by
  induction gs generalizing s with
  | nil => rfl
  | cons g gs ih =>
    rw [State.skipped, List.foldl_cons, ← State.skipped, ih]
    by_cases hk : k = g
    · subst hk
      rw [State.modCtx_ctx_same (Ctx.skip_ne _), Ctx.skip_skip, ite_self, if_pos (List.mem_cons_self ..)]
    · simp only [State.modCtx_ctx_other _ hk, List.mem_cons, hk, false_or]

theorem State.skipped_ef (gs : List Nat) : ∃ l, (s.skipped gs).ef = { s.ef with ctx := l } := by
  refine List.foldlRecOn (motive := fun t : State => ∃ l, t.ef = { s.ef with ctx := l }) _ _ ⟨_, rfl⟩ fun t ht k hk => ?_
  obtain ⟨l, ht⟩ := ht
  exact ⟨_, by rw [State.modCtx, State.modEf_ef, ht]⟩

theorem State.skipped_alters (gs : List Nat) : Alters [.ef] s (s.skipped gs) :=
  .foldl (fun _ _ => (Alters.refl _ _).modEf (by decide) _) _ _

/-- The groups marked and counted. -/
def State.skipCounted (s : State) (gs : List Nat) : State :=
  (s.skipped gs).modEf fun e => { e with skipped := e.skipped + BitVec.ofNat 32 gs.length }

theorem State.skipGroups_eq (gs : List Nat) :
    s.skipGroups gs = gs.foldl (fun u k => u.raiseEvent 0x0901 k) (s.skipCounted gs) := rfl

theorem State.skipGroups_ef (gs : List Nat) : (s.skipGroups gs).ef = (s.skipCounted gs).ef := by
  rw [State.skipGroups_eq]
  exact foldl_raiseEvent_moves _ _ .ef (by decide)

theorem State.skipGroups_ctx (gs : List Nat) (k : Nat) :
    (s.skipGroups gs).ctx k = if k ∈ gs then (s.ctx k).skip else s.ctx k := by
  rw [← State.skipped_ctx, State.ctx, State.skipGroups_ef]
  rfl

theorem State.skipGroups_run (gs : List Nat) : ∃ l, (s.skipGroups gs).ef = { s.ef with
    ctx := l, skipped := s.ef.skipped + BitVec.ofNat 32 gs.length } := by
  obtain ⟨l, h⟩ := s.skipped_ef gs
  exact ⟨l, by rw [State.skipGroups_ef, State.skipCounted, State.modEf_ef, h]⟩

theorem State.skipGroups_fm (gs : List Nat) : (s.skipGroups gs).fm = (gs.foldl (fun u k => u.raiseEvent 0x0901 k) s).fm := by
  have h : Alters [.ef] s (s.skipCounted gs) := (s.skipped_alters gs).modEf (by decide) _
  have hs : s.SameFaults (s.skipCounted gs) :=
    ⟨h .fm (by decide), h .tb (by decide), h.moves.inPair (by decide) (by decide)⟩
  exact (hs.foldl 0x0901 (gs := gs)).fm

/-! ### The string tail (R268, R269) -/

/-- The groups without an update count one more pattern. -/
def State.missed (s : State) : State :=
  s.populated.foldl (fun t g => if (t.ctx g).done then t else t.modCtx g fun c => { c with noUpd := c.noUpd + 1 }) s

theorem State.missed_alters : Alters [.ef] s s.missed :=
  .foldl (fun _ _ => .ite (.refl _ _) ((Alters.refl _ _).modEf (by decide) _)) _ _

theorem State.missed_run : ∃ l, s.missed.ef = { s.ef with ctx := l } := by
  refine List.foldlRecOn (motive := fun t : State => ∃ l, t.ef = { s.ef with ctx := l }) _ _ ⟨_, rfl⟩ fun t ht k hk => ?_
  obtain ⟨l, ht⟩ := ht
  split
  · exact ⟨l, ht⟩
  · exact ⟨_, by rw [State.modCtx, State.modEf_ef, ht]⟩

/-- What a missed pattern makes of a group. -/
def Ctx.miss (c : Ctx) : Ctx := if c.done then c else { c with noUpd := c.noUpd + 1 }

theorem State.miss_ctx (g : Nat) :
    (if (s.ctx g).done then s else s.modCtx g fun c => { c with noUpd := c.noUpd + 1 }).ctx g = (s.ctx g).miss := by
  unfold Ctx.miss
  split
  · rfl
  · exact State.modCtx_ctx_same fun h => Nat.succ_ne_zero _ (congrArg Ctx.noUpd h)

theorem State.miss_ctx_other {g k : Nat} (h : g ≠ k) :
    (if (s.ctx g).done then s else s.modCtx g fun c => { c with noUpd := c.noUpd + 1 }).ctx k = s.ctx k := by
  split
  · rfl
  · exact State.modCtx_ctx_other _ h.symm

theorem State.missed_ctx {k : Nat} (h : k ∈ s.populated) : s.missed.ctx k = (s.ctx k).miss := by
  obtain ⟨u, -, hu, hr⟩ := foldl_entry (s := s)
    (f := fun t g => if (t.ctx g).done then t else t.modCtx g fun c => { c with noUpd := c.noUpd + 1 })
    State.ctx (fun _ => True) (fun _ _ _ => trivial) (fun u g k _ h => State.miss_ctx_other h) List.nodup_range trivial h
  exact hr.trans (State.miss_ctx k |>.trans (by rw [hu]))

theorem State.missed_ctx_out {k : Nat} (h : k ∉ s.populated) : s.missed.ctx k = s.ctx k := by
  refine List.foldlRecOn (motive := fun t : State => t.ctx k = s.ctx k) _ _ rfl fun t ht g hg => ?_
  exact (State.miss_ctx_other fun (e : g = k) => h (e ▸ hg)).trans ht

theorem State.missed_ctx_done {k : Nat} (h : (s.ctx k).done = true) : s.missed.ctx k = s.ctx k := by
  refine List.foldlRecOn (motive := fun t : State => t.ctx k = s.ctx k) _ _ rfl fun t ht g _ => ?_
  by_cases hg : g = k
  · subst hg
    rw [if_pos (by rw [ht, h])]
    exact ht
  · exact (State.miss_ctx_other hg).trans ht

/-- The groups and the pattern's progress are the same, and the tail has run. -/
structure Fabric.Tailed (e f : Fabric) : Prop where
  ctx : f.ctx = e.ctx
  running : f.running = e.running
  order : f.order = e.order
  skipped : f.skipped = e.skipped
  tailRun : f.tailRun = true

theorem Fabric.Tailed.of_eq {e f g : Fabric} (h : e.Tailed f) (hg : g = f) : e.Tailed g := hg ▸ h

theorem Fabric.Tailed.cond {e : Fabric} (h : e.Tailed s.ef) (code : Nat) (b : Bool) (item : Nat) :
    e.Tailed (s.cond code b item).ef :=
  h.of_eq ((Moves.self (ps := [.fm])).cond (by decide) code b item .ef (by decide))

theorem Fabric.Tailed.dispatchable {e : Fabric} (h : e.Tailed s.ef) (dn up : Rat) : e.Tailed (s.dispatchable dn up).ef := by
  unfold State.dispatchable
  extract_lets
  exact Fabric.Tailed.cond (by rw [State.modEf_ef]; exact ⟨h.ctx, h.running, h.order, h.skipped, h.tailRun⟩) _ _ _

theorem Fabric.Tailed.tailFigures {e : Fabric} (h : e.Tailed s.ef) (gs : List Nat) : e.Tailed (s.tailFigures gs).ef := by
  unfold State.tailFigures
  dsimp only
  rw [State.modEf_ef]
  split
  · exact h
  · exact ⟨h.ctx, h.running, h.order, h.skipped, h.tailRun⟩

theorem Fabric.Tailed.began (ns low high : Nat) (valid ask : Bool) :
    s.ef.Tailed (s.modEf fun e => { e with
      tailRun := true, durationNs := ns, durationMax := max e.durationMax ns, steepLow := low, steepHigh := high
      flags := setBit (setBit e.flags 0 valid) 3 ask }).ef := ⟨rfl, rfl, rfl, rfl, rfl⟩

theorem Fabric.Tailed.ends {e : Fabric} (h : e.Tailed s.ef) (w g : Nat) (dn up : Rat) :
    e.Tailed (s.modEf fun e => { e with weakest := w, strongest := g, qdn := some dn, qup := some up }).ef :=
  ⟨h.ctx, h.running, h.order, h.skipped, h.tailRun⟩

/-- The string tail leaves the groups and the pattern's progress as they are once the missed patterns are counted. -/
theorem State.stringTail_tailed : s.missed.ef.Tailed s.stringTail.ef := by
  unfold State.stringTail
  extract_lets gs s0 born valid ns
  have h0 : s.missed = s0 := rfl
  clear_value ns valid born s0
  rw [h0]
  split
  extract_lets s1 s2
  have h1 : s0.ef.Tailed s1.ef := .began _ _ _ _ _
  have h2 : s0.ef.Tailed s2.ef := by
    unfold s2
    split
    · extract_lets u
      have hu : s0.ef.Tailed u.ef := h1.ends _ _ _ _
      split
      · exact hu.dispatchable _ _
      · exact hu
    · exact h1
  exact (((h2.tailFigures _).cond _ _ _).cond _ _ _).cond _ _ _

/-! ### A group without a fresh voltage (R244, R245) -/

/-- The context of a group that advances by its counted charge. -/
def Ctx.Advanced (c x : Ctx) (d : Drive) : Prop :=
  x.done = true ∧ x.everDone = true ∧ x.noUpd = 0 ∧ x.accIn = 0 ∧ x.accOut = 0 ∧ x.accNs = 0 ∧
    x.z = ratMax (rnd64 (-1 / 10)) (ratMin (rnd64 (11 / 10)) (add64 c.z (div64 d.dq c.cap))) ∧ x.qg = add64 c.qg d.dq

theorem State.fillP_charge (c : Ctx) (tw : Nat × Rat) :
    (s.fillP c tw).z = c.z ∧ (s.fillP c tw).cap = c.cap ∧ (s.fillP c tw).qg = c.qg := by
  unfold State.fillP
  split <;> exact ⟨rfl, rfl, rfl⟩

theorem State.driveOf_tg (c : Ctx) (tg : Int) (b : Rat) : s.driveOf { c with tg } b = s.driveOf c b := rfl

theorem State.groupUpdate_of_stale {g : Nat} (hb : (s.ctx g).born = true) (ha : (s.group g).age ≠ 0) :
    ∃ x, (s.ctx g).Advanced x (s.driveOf (s.ctx g) (s.group g).bleedNow) ∧
      s.groupUpdate g = (s.modCtx g fun _ => x).modGroup g fun y => { y with bleedNow := 0 } := by
  unfold State.groupUpdate
  extract_lets x tgo c0 c1 tw vg i0 finish d c2 c3
  have hv : vg = none := if_neg (by simpa using ha)
  have hnot : ¬ (!c0.born) = true := by simp [c0, hb]
  obtain ⟨hz, hcap, hqg⟩ := s.fillP_charge c1 tw
  rw [if_neg hnot, hv]
  refine ⟨_, ?_, rfl⟩
  refine ⟨rfl, rfl, rfl, rfl, rfl, rfl, ?_, ?_⟩
  · exact (congrArg clampZ (congrArg₂ (fun z cap => add64 z (div64 d.dq cap)) hz hcap))
  · exact congrArg (fun q => add64 q d.dq) hqg

/-! ### The three commands -/

/-- The lanes work on the pattern (R251). -/
theorem Fabric.active_of (h2 : s.ef.state = 2) (hh : s.ef.headRun = true) (ht : s.ef.tailRun = false) : s.ef.active = true := by
  simp [Fabric.active, h2, hh, ht]

/-- A lane is free, and takes the next groups. -/
def State.laneFreed (s : State) (g : Nat) : State := s.modEf fun e => { e with running := e.running.filter (· != g) }.fill

theorem execGroupUpdateComplete_of_busy {g k : Nat} (ha : s.ef.active = true) (hg : g ∈ s.ef.running)
    (hk : k ∈ ((s.groupUpdate g).laneFreed g).ef.running) :
    execGroupUpdateComplete g s = .next ((s.groupUpdate g).laneFreed g) := by
  refine next_of_eq ?_
  rw [if_neg (by simp [ha, hg])]
  refine if_neg fun h => ?_
  obtain ⟨-, h⟩ := Bool.and_eq_true_iff.1 h
  have h : ((s.groupUpdate g).laneFreed g).ef.running = [] := List.isEmpty_iff.1 h
  rw [h] at hk
  cases hk

theorem execFabricSkipDeadline_of_active (ha : s.ef.active = true) :
    execFabricSkipDeadline () s = .next (((s.runTo (s.patStart + 6800000)).skipGroups s.ef.order).modEf fun e =>
      { e with order := [] }) := by
  refine next_of_eq ?_
  rw [State.runTo_ef, if_neg (by simp [ha])]

theorem execFabricAbandonDeadline_of_active (ha : s.ef.active = true) :
    execFabricAbandonDeadline s = .next ((((s.runTo (s.patStart + 6900000)).skipGroups
      (s.ef.running ++ s.ef.order)).modEf fun e => { e with running := [], order := [] }).stringTail) := by
  refine next_of_eq ?_
  rw [State.runTo_ef, if_neg (by simp [ha])]

/-- What the skip deadline makes of a state whose time has come. -/
theorem skipDeadline_effects (gs : List Nat) :
    let t := (s.skipGroups gs).modEf fun e => { e with order := [] }
    t.ef.order = [] ∧ t.ef.running = s.ef.running ∧ t.tb = s.tb ∧
      (∀ k, t.ctx k = if k ∈ gs then (s.ctx k).skip else s.ctx k) ∧
      t.ef.skipped = s.ef.skipped + BitVec.ofNat 32 gs.length ∧
      t.fm = (gs.foldl (fun u k => u.raiseEvent 0x0901 k) s).fm ∧ Moves [.ef, .fm] s t := by
  obtain ⟨l, h⟩ := s.skipGroups_run gs
  have hm : Moves [.ef, .fm] s (s.skipGroups gs) := Moves.self.skipGroups
  refine ⟨rfl, ?_, hm .tb (by decide), fun k => ?_, ?_, s.skipGroups_fm gs, hm.modEf (by decide) _⟩
  · rw [State.modEf_ef, h]
  · exact s.skipGroups_ctx gs k
  · rw [State.modEf_ef, h]

/-- What the abandon deadline makes of a state whose time has come. -/
theorem abandonDeadline_effects (gs : List Nat) :
    let t := ((s.skipGroups gs).modEf fun e => { e with running := [], order := [] }).stringTail
    t.tb = s.tb ∧ t.ef.tailRun = true ∧ t.ef.running = [] ∧ t.ef.order = [] ∧
      (∀ k, k ∈ gs → bit (t.ctx k).flags 4 = true ∧ (t.ctx k).flagged = true) ∧
      (∀ k ∈ s.populated, (s.ctx k).done = false → (t.ctx k).noUpd = (s.ctx k).noUpd + 1) ∧
      (∀ k, (s.ctx k).done = true → k ∉ gs → t.ctx k = s.ctx k) ∧
      t.ef.skipped = s.ef.skipped + BitVec.ofNat 32 gs.length ∧ Moves [.ef, .fm] s t := by
  obtain ⟨l, h⟩ := s.skipGroups_run gs
  have hm : Moves [.ef, .fm] s (s.skipGroups gs) := Moves.self.skipGroups
  generalize hu : ((s.skipGroups gs).modEf fun e => { e with running := [], order := [] }) = u
  have hmu : Moves [.ef, .fm] s u := hu ▸ hm.modEf (by decide) _
  have hef : u.ef = { s.ef with
      running := [], order := [], ctx := l, skipped := s.ef.skipped + BitVec.ofNat 32 gs.length } := by
    rw [← hu, State.modEf_ef, h]
  have hctx : ∀ k, u.ctx k = if k ∈ gs then (s.ctx k).skip else s.ctx k := fun k => by
    rw [← s.skipGroups_ctx gs k, ← hu]
    rfl
  obtain ⟨lm, hmiss⟩ := u.missed_run
  obtain ⟨htc, htr, hto, hts, htail⟩ := u.stringTail_tailed
  have hpop : u.populated = s.populated := hmu.populated
  have hlast : ∀ k, u.stringTail.ctx k = u.missed.ctx k := fun k => congrArg (tabGet ({} : Ctx) k) htc
  have hmt : Moves [.ef, .fm] s u.stringTail := hmu.stringTail
  refine ⟨hmt .tb (by decide), htail, by rw [htr, hmiss, hef], by rw [hto, hmiss, hef], fun k hk => ?_, fun k hk hd => ?_,
    fun k hd hk => ?_, by rw [hts, hmiss, hef], hmt⟩
  · have hskip : u.ctx k = (s.ctx k).skip := (hctx k).trans (if_pos hk)
    rw [hlast]
    by_cases hp : k ∈ u.populated
    · rw [State.missed_ctx hp, hskip]
      unfold Ctx.miss
      split <;> exact ⟨(s.ctx k).skip_flag, rfl⟩
    · rw [State.missed_ctx_out hp, hskip]
      exact ⟨(s.ctx k).skip_flag, rfl⟩
  · have hn : (u.ctx k).done = false ∧ (u.ctx k).noUpd = (s.ctx k).noUpd := by
      rw [hctx]
      split <;> exact ⟨hd, rfl⟩
    rw [hlast, State.missed_ctx (hpop ▸ hk), Ctx.miss, if_neg (by simp [hn.1])]
    exact congrArg (· + 1) hn.2
  · have hsame : u.ctx k = s.ctx k := (hctx k).trans (if_neg hk)
    rw [hlast, State.missed_ctx_done (by rw [hsame, hd]), hsame]

/-- Settles O26. -/
theorem fabricPatternCommands : Obligations.FabricPatternCommands := by
  unfold Obligations.FabricPatternCommands
  refine ⟨fun s g k rest h2 hh ht hg hk hkg hrest hb hage => ?_, fun s gs g h2 hh ht ho => ?_, fun s h2 hh ht => ?_⟩
  · obtain ⟨x, hx, he⟩ := s.groupUpdate_of_stale hb hage
    obtain ⟨hdone, hever, hno, hin, hout, hns, hz, hq⟩ := hx
    have hef : (s.groupUpdate g).ef = { s.ef with ctx := tabPut {} g x s.ef.ctx } := by
      rw [he]
      rfl
    have hrun : ((s.groupUpdate g).laneFreed g).ef =
        ({ s.ef with ctx := tabPut {} g x s.ef.ctx, running := rest } : Fabric).fill := by
      rw [State.laneFreed, State.modEf_ef, hef, hrest]
    have hctx : ∀ j, ((s.groupUpdate g).laneFreed g).ctx j = tabGet {} j (tabPut {} g x s.ef.ctx) := fun j => by
      rw [State.ctx, hrun]
      rfl
    have hsame : ((s.groupUpdate g).laneFreed g).ctx g = x :=
      (hctx g).trans (tabGet_tabPut_ne _ _ _ _ fun h => by rw [h] at hdone; exact Bool.noConfusion hdone)
    have hal : Alters [.ef, .cl] s (s.groupUpdate g) := by
      rw [he]
      exact ((Alters.refl _ _).modEf (by decide) _).modCl (by decide) _
    refine exists_next (execGroupUpdateComplete_of_busy (k := k) (Fabric.active_of h2 hh ht) hg ?_) ?_
    · rw [hrun]
      exact List.mem_append_left _ (hrest ▸ List.mem_filter.2 ⟨hk, by simpa using hkg⟩)
    · rw [hsame, hrun]
      exact ⟨hdone, hever, hno, hin, hout, hns, hz, hq, rfl, rfl,
        fun j hj => (hctx j).trans (tabGet_tabPut_other _ _ _ _ _ hj), hal.modEf (by decide) _⟩
  · have hr : Alters [.tb] s (s.runTo (s.patStart + 6800000)) := State.runTo_alters s _
    obtain ⟨h1, h3, h4, h5, h6, h7, h8⟩ := skipDeadline_effects (s := s.runTo (s.patStart + 6800000)) (g :: gs)
    refine exists_next (execFabricSkipDeadline_of_active (Fabric.active_of h2 hh ht)) ?_
    rw [ho]
    refine ⟨h1, h3.trans (by rw [State.runTo_ef]), h4, fun k hk => ?_, fun k hk => ?_, ?_, h7,
      (hr.moves.mono (by decide)).trans (h8.mono (by decide))⟩
    · rw [h5, if_pos hk]
      exact ⟨Ctx.skip_flag _, rfl⟩
    · rw [h5, if_neg hk, State.ctx, State.runTo_ef]
      rfl
    · rw [h6, State.runTo_ef]
      rfl
  · have hr : Alters [.tb] s (s.runTo (s.patStart + 6900000)) := State.runTo_alters s _
    obtain ⟨h1, h3, h4, h5, h6, h7, h8, h9, h10⟩ :=
      abandonDeadline_effects (s := s.runTo (s.patStart + 6900000)) (s.ef.running ++ s.ef.order)
    have hc : ∀ k, (s.runTo (s.patStart + 6900000)).ctx k = s.ctx k := fun k => by
      rw [State.ctx, State.runTo_ef]
      rfl
    have hp : (s.runTo (s.patStart + 6900000)).populated = s.populated := hr.moves.populated
    refine exists_next (execFabricAbandonDeadline_of_active (Fabric.active_of h2 hh ht)) ⟨h1, h3, h4, h5,
      fun k hk => h6 k (List.mem_append.2 hk), fun k hk hd => ?_, fun k hd hk1 hk2 => ?_, ?_,
      (hr.moves.mono (by decide)).trans (h10.mono (by decide))⟩
    · rw [h7 k (hp ▸ hk) (by rw [hc, hd]), hc]
    · rw [h8 k (by rw [hc, hd]) (by simp [hk1, hk2]), hc]
    · rw [h9, State.runTo_ef, List.length_append]

end
end Sys2Proof.Machine
end

section
/-! Capacity learning (R260 to R262). -/

namespace Sys2Proof.Machine

-- One theorem after another: each thread of the checker takes 256 MB of stack.
set_option Elab.async false

/-- A capacity that moves by as much as a twentieth of it in binary64, which is more than the exact twentieth. -/
def movedByTwentieth : Ctx := { cap := 27879426264674499 / 2251799813685248, learn := some (1, 0, 13), ref := some (0, 0, 0) }

/-- Group 0 has a learning event of that move. -/
def learningByTwentieth : State :=
  { State.reset with ef := { State.reset.ef with state := 2, ctx := [(0, movedByTwentieth)] } }

/-- The move is more than the exact twentieth; the twentieth rounded to binary64 is the move itself. -/
theorem movedByTwentieth_move :
    movedByTwentieth.cap / 20 < ratAbs (sub64 (div64 (sub64 13 0) (sub64 1 0)) movedByTwentieth.cap) := by
  decide +kernel

/-- The event is accepted. -/
theorem learningByTwentieth_accepted (t : State) (h : execCapacityLearningEvent 0 learningByTwentieth = .next t) :
    t.ef.capRejected = 0 := by
  obtain rfl := Host.Outcome.next.inj h
  decide +kernel

/-- Refutes O27: the third clause compares the move with the exact twentieth of the capacity, the model with the twentieth
rounded to binary64 (R238), and a move between the two is accepted. -/
theorem not_fabricLearningCommands : ¬ Obligations.FabricLearningCommands := by
  unfold Obligations.FabricLearningCommands
  rintro ⟨-, -, h, -⟩
  obtain ⟨t, e, -, -, hr, -⟩ := h learningByTwentieth 0 1 0 13 0 0 0 rfl rfl rfl rfl movedByTwentieth_move
  exact absurd ((learningByTwentieth_accepted t e).symm.trans hr) (by decide)

end Sys2Proof.Machine
end

section
/-! Balancing commands (R279, R303). -/

namespace Sys2Proof.Machine

-- One theorem after another: each thread of the checker takes 256 MB of stack.
set_option Elab.async false

/-- A table whose entries from a key on are 0 reads 0 there. -/
theorem lookupKey_of_zero {k : Nat} {l : Tab Nat} (h : ∀ p ∈ l, p.1 < k ∨ p.2 = 0) : (lookupKey k l).getD 0 = 0 := by
  induction l with
  | nil => rfl
  | cons p l ih =>
    obtain ⟨j, v⟩ := p
    have htail := ih fun q hq => h q (List.mem_cons_of_mem _ hq)
    unfold lookupKey
    split
    next hk =>
      have hj : j = k := by simpa using hk
      exact (h (j, v) (List.mem_cons_self ..)).resolve_left (by simp [hj])
    next => exact htail

theorem findObj_groupsPerCmu {c : Nat} (h : 32 < c) : findObj 0x2881 c = none := by
  have hall : ∀ o ∈ objTable, o.index = 0x2881 → o.hi ≤ 32 := by decide +kernel
  refine List.find?_eq_none.2 fun o ho hm => ?_
  simp only [Bool.and_eq_true, beq_iff_eq, decide_eq_true_eq] at hm
  obtain ⟨hi, -, hc⟩ := hm
  have := hall o ho hi
  omega

/-- A CMU count far beyond the table's 32: GroupsPerCmu 0x2881 of sub-index 130817 has the key of BalanceEnable 0x2A80.01,
which is 1. The other CMUs have no groups, so the string has the one group of that CMU, and it bleeds. Not a state the module
comes into, and the statement does not leave it out. -/
def balanceKeyShared : State :=
  { State.reset with
    cfg := (objKey 0x2880 0, 130817) :: (List.range 32).map (fun c => (objKey 0x2881 (c + 1), 0)) ++ [(objKey 0x2A80 1, 1)]
    cl := { State.reset.cl with groups := [(0, { voltage := some 1, cmdTime := 5 })] } }

theorem balanceKeyShared_group : 0 < balanceKeyShared.groupCount := by
  have hone : balanceKeyShared.groupsOf (130816 + 1) = 1 := by decide +kernel
  have hcount : balanceKeyShared.cmuCount = 130817 := by decide +kernel
  have hmem : balanceKeyShared.groupsOf (130816 + 1) ∈
      (List.range (balanceKeyShared.cmuCount + 1 - 1)).map fun k => balanceKeyShared.groupsOf (k + 1) :=
    List.mem_map.2 ⟨130816, by rw [hcount]; exact List.mem_range.2 (by omega), rfl⟩
  exact Nat.lt_of_lt_of_le (by omega) (List.le_sum_of_mem hmem)

/-- Once BalanceEnable is 0, no CMU has a group. -/
theorem balanceKeyShared_groupsOf (c : Nat) : (balanceKeyShared.cfgPut 0x2A80 1 0).groupsOf (c + 1) = 0 := by
  by_cases h : c < 32
  · have hall : ∀ c < 32, (balanceKeyShared.cfgPut 0x2A80 1 0).groupsOf (c + 1) = 0 := by decide +kernel
    exact hall c h
  · have hkeys : ∀ p ∈ (balanceKeyShared.cfgPut 0x2A80 1 0).cfg, p.1 < objKey 0x2881 33 ∨ p.2 = 0 := by decide +kernel
    have hkey : objKey 0x2881 33 ≤ objKey 0x2881 (c + 1) := by
      unfold objKey
      omega
    unfold State.groupsOf State.cfgGet objReset
    rw [findObj_groupsPerCmu (by omega)]
    exact lookupKey_of_zero fun p hp => (hkeys p hp).imp_left fun h => Nat.lt_of_lt_of_le h hkey

theorem State.commandCmu_of_no_groups {s : State} {c : Nat} (h : s.groupsOf c = 0) (want : List (Nat × Rat)) (slice : Nat) :
    ∃ f, s.commandCmu want slice c = s.modCmu c f := by
  unfold State.commandCmu
  rw [h]
  exact ⟨_, rfl⟩

theorem State.stopBleeding_of_no_groups {s : State} (h : ∀ c, s.groupsOf (c + 1) = 0) :
    s.stopBleeding.cl.groups = s.cl.groups := by
  refine (List.foldlRecOn (motive := fun u : State => u.cl.groups = s.cl.groups ∧ ∀ c, u.groupsOf (c + 1) = 0)
    (List.range s.cmuCount) (fun u k => u.commandCmu [] 0 (k + 1)) ⟨rfl, h⟩ fun u hu k _ => ?_).1
  obtain ⟨hg, hc⟩ := hu
  obtain ⟨f, hf⟩ := State.commandCmu_of_no_groups (hc k) [] 0
  exact hf ▸ ⟨hg, hc⟩

/-- The group goes on bleeding. -/
theorem balanceKeyShared_bleeds : ((balanceKeyShared.cfgPut 0x2A80 1 0).stopBleeding.group 0).cmdTime = 5 := by
  rw [State.group, State.stopBleeding_of_no_groups balanceKeyShared_groupsOf]
  rfl

theorem State.balanceEnable_off {s t : State} {r : Req} {x : Session} (h : s.liveAct x (.balanceEnable r 0) = (t, 0, [])) :
    t = (s.cfgPut 0x2A80 1 0).stopBleeding := (congrArg Prod.fst h).symm

/-- Refutes O28: the tenth clause asks that BALANCE_ENABLE 0 commands every group of the string as it was before, also where
the write itself takes a CMU's groups away. -/
theorem not_thermalCommands : ¬ Obligations.ThermalCommands := by
  unfold Obligations.ThermalCommands
  rintro ⟨-, -, -, -, -, -, -, -, -, h⟩
  obtain ⟨t, e, -, hg, -⟩ := h balanceKeyShared {} {}
  have hz := hg 0 balanceKeyShared_group (fun h => Option.some_ne_none _ h)
  rw [State.balanceEnable_off e, balanceKeyShared_bleeds] at hz
  exact absurd hz (by decide)

end Sys2Proof.Machine
end

section
/-! Leases, ramp-downs and rest windows (R316 to R328). -/

namespace Sys2Proof.Machine

-- One theorem after another: each thread of the checker takes 256 MB of stack.
set_option Elab.async false

section
variable {s t u : State}

/-! ### What follows a change of the leases (R318 to R320, R326) -/

/-- The leases and the effective intent are the same. -/
structure Dispatch.SameLeases (d e : Dispatch) : Prop where
  leases : e.leases = d.leases
  intent : e.intent = d.intent

section
variable {d : Dispatch}

theorem Dispatch.SameLeases.through {ps : List Part} (h : d.SameLeases s.de) (hm : Moves ps s t) (hp : .de ∉ ps) :
    d.SameLeases t.de := by
  have hd : t.de = s.de := hm .de hp
  rwa [hd]

theorem Dispatch.SameLeases.modDe (h : d.SameLeases s.de) {f : Dispatch → Dispatch} (hf : ∀ e : Dispatch, e.SameLeases (f e)) :
    d.SameLeases (s.modDe f).de := by
  rw [State.modDe_de]
  exact ⟨(hf _).leases.trans h.leases, (hf _).intent.trans h.intent⟩

theorem Dispatch.SameLeases.beginOpening (h : d.SameLeases s.de) (a b : Bool) : d.SameLeases (s.beginOpening a b).de := by
  unfold State.beginOpening
  dsimp only
  exact Dispatch.SameLeases.modDe (s := s.modPc _) h fun _ => ⟨rfl, rfl⟩

theorem Dispatch.SameLeases.abortSequence (h : d.SameLeases s.de) : d.SameLeases s.abortSequence.de := by
  have h0 : d.SameLeases ([1, 2, 3].foldl State.coilOff s).de := h.through State.mains_alters.moves (by decide)
  unfold State.abortSequence
  extract_lets t0 u0
  have hu : d.SameLeases u0.de := (h0.beginOpening false true).modDe fun _ => ⟨rfl, rfl⟩
  split
  · split
    · exact hu.through (ps := [.nv]) (Moves.self.journalEnergy (by decide)) (by decide)
    · exact hu
  · exact Dispatch.SameLeases.modDe (s := t0.modPc _) h0 fun _ => ⟨rfl, rfl⟩

theorem Dispatch.SameLeases.orFree (h : d.SameLeases s.de) (o : Option Int) : d.SameLeases (s.orFree o).2.de :=
  h.through (ps := [.freeCount]) Moves.self.orFree (by decide)

theorem Dispatch.SameLeases.weldFound (h : d.SameLeases s.de) (code bits : Nat) : d.SameLeases (s.weldFound code bits).de :=
  h.through (ps := [.fm, .pc]) Moves.self.weldFound (by decide)

theorem Dispatch.SameLeases.refuseConnect (h : d.SameLeases s.de) (k : Nat) : d.SameLeases (s.refuseConnect k).de :=
  Dispatch.SameLeases.modDe (s := s.modPc _) h fun _ => ⟨rfl, rfl⟩

theorem Dispatch.SameLeases.connectBegin (h : d.SameLeases s.de) : d.SameLeases s.connectBegin.de := by
  unfold State.connectBegin
  dsimp only
  split
  · exact h.refuseConnect _
  · have h3 := ((h.orFree s.supBus).orFree s.supV).orFree s.supP
    generalize (((s.orFree s.supBus).2.orFree s.supV).2.orFree s.supP).2 = s3 at h3 ⊢
    generalize hu : State.modPm _ _ = u
    have hd : d.SameLeases u.de := by
      subst hu
      exact ⟨h3.leases, h3.intent⟩
    split
    · exact (hd.weldFound _ _).abortSequence
    · exact hd

theorem Dispatch.SameLeases.startRamp (h : d.SameLeases s.de) (fault : Bool) : d.SameLeases (s.startRamp fault).de :=
  h.modDe fun _ => ⟨rfl, rfl⟩

theorem Dispatch.SameLeases.noIntent (h : d.SameLeases s.de) : d.SameLeases s.noIntent.de := by
  unfold State.noIntent
  extract_lets action here t0 u0
  have ht : d.SameLeases t0.de := h.modDe fun _ => ⟨rfl, rfl⟩
  have hu : d.SameLeases u0.de := by
    unfold u0
    split
    · exact ht.startRamp _
    · exact ht
  exact hu.through (ps := [.fm]) (Moves.self.cond (by decide) _ _ _) (by decide)

theorem Dispatch.SameLeases.armedStart (h : d.SameLeases s.de) : d.SameLeases s.armedStart.de := by
  unfold State.armedStart
  split
  · exact h.connectBegin
  · exact h

theorem Dispatch.SameLeases.disconnectHere (h : d.SameLeases s.de) : d.SameLeases s.disconnectHere.de := by
  unfold State.disconnectHere
  split
  · exact h.abortSequence
  · split
    · exact h.startRamp _
    · exact h

theorem Dispatch.SameLeases.restGrant (h : d.SameLeases s.de) (l : Lease) : d.SameLeases (s.restGrant l).de := by
  unfold State.restGrant
  extract_lets t0 soon
  have ht : d.SameLeases t0.de := h.modDe fun _ => ⟨rfl, rfl⟩
  split
  · exact ht.modDe fun _ => ⟨rfl, rfl⟩
  · exact ht.modDe fun _ => ⟨rfl, rfl⟩

theorem Dispatch.SameLeases.raiseEvent (h : d.SameLeases s.de) (code item : Nat) : d.SameLeases (s.raiseEvent code item).de :=
  h.through (ps := [.fm]) (Moves.self.raiseEvent (by decide) _ _) (by decide)

theorem Dispatch.SameLeases.restUpdate (h : d.SameLeases s.de) : d.SameLeases s.restUpdate.de := by
  unfold State.restUpdate
  split
  · split
    · exact h
    · split
      · exact h.restGrant _
      · exact h.modDe fun _ => ⟨rfl, rfl⟩
  · split
    · exact h
    · exact h.modDe fun _ => ⟨rfl, rfl⟩
  · split
    · exact h
    · refine Dispatch.SameLeases.raiseEvent (s := s.modDe _) ?_ _ _
      exact ⟨h.leases, h.intent⟩
  · exact h

end

/-- The wanted intent is taken, and an intent to connect is armed. -/
def State.intentTaken (s : State) : State :=
  s.modDe fun d => { d with intent := s.wantedIntent, armed := d.armed || (s.wantedIntent == 1 && d.intent != 1) }

/-- The leases stay, and the effective intent is what they want. -/
theorem State.leasesActed_de : s.leasesActed.de.leases = s.de.leases ∧ s.leasesActed.de.intent = s.leasesActed.wantedIntent := by
  have h : s.intentTaken.de.SameLeases s.leasesActed.de := by
    unfold State.leasesActed State.intentUpdate
    extract_lets new t0 u0
    have hu : s.intentTaken.de.SameLeases u0.de := by
      unfold u0
      split
      · exact Dispatch.SameLeases.modDe (s := t0) ⟨rfl, rfl⟩ fun _ => ⟨rfl, rfl⟩
      · exact ⟨rfl, rfl⟩
    exact hu.noIntent.armedStart.disconnectHere.restUpdate
  have hl : s.leasesActed.de.leases = s.de.leases := h.leases
  refine ⟨hl, h.intent.trans ?_⟩
  unfold State.wantedIntent State.liveLeases
  rw [hl]
  rfl

/-! ### Lease writes (R316, R317) -/

/-- The leases are replaced, and their change acts. -/
def State.leasesSet (s : State) (ls : List Lease) : State := (s.modDe fun d => { d with leases := ls }).leasesActed

theorem State.leasesSet_effects (ls : List Lease) : (s.leasesSet ls).de.leases = ls ∧
    (s.leasesSet ls).de.intent = (s.leasesSet ls).wantedIntent ∧
    Moves [.de, .fm, .pc, .os, .pm, .nv, .freeCount] s (s.leasesSet ls) :=
  have h := State.leasesActed_de (s := s.modDe fun d => { d with leases := ls })
  ⟨h.1, h.2, (Moves.self.modDe (by decide) _).leasesActed⟩

/-- The leases but for the one that a lease replaces. -/
def State.otherLeases (s : State) (l : Lease) : List Lease := s.de.leases.filter fun y => !y.same l

theorem State.putLease_of_zero {l : Lease} (h : l.ttl = 0) : s.putLease l = (s.leasesSet (s.otherLeases l), true) :=
  if_pos (by simp [h])

theorem State.putLease_of_room {l : Lease} (h : 1 ≤ l.ttl) (hr : (s.otherLeases l).length < 16) :
    s.putLease l = (s.leasesSet (s.otherLeases l ++ [l]), true) := by
  unfold State.otherLeases at hr
  unfold State.putLease
  dsimp only
  rw [if_neg (by simp; omega), if_pos (by simp [hr])]
  rfl

/-- A lease that its role may write, in range, of a rising sequence. -/
structure State.MayLease (s : State) (x : Session) (v : Bytes) (l : Lease) : Prop where
  eq : l = leaseOf v x.client s.tb.now
  permitted : classPermitted x.role l.cls = true
  inRange : leaseInRange v l = true
  rises : s.sequenceOk l = true

theorem State.MayLease.leaseAct {x : Session} {v : Bytes} {l : Lease} (h : s.MayLease x v l) (hp : s.putLease l = (t, true)) :
    s.leaseAct x v = (t, 0, []) := by
  obtain ⟨rfl, hperm, hr, hs⟩ := h
  unfold State.leaseAct
  dsimp only
  rw [if_neg (by simp [hperm]), if_neg (by simp [hr, hs]), hp]
  rfl

theorem State.MayLease.of_moves {x : Session} {v : Bytes} {l : Lease} (h : s.MayLease x v l) (hm : Moves [] s t) :
    t.MayLease x v l := by
  have htb : t.tb = s.tb := hm .tb (by decide)
  have hde : t.de = s.de := hm .de (by decide)
  obtain ⟨he, hperm, hr, hs⟩ := h
  refine ⟨by rwa [htb], hperm, hr, ?_⟩
  unfold State.sequenceOk State.heldLease State.liveLeases at hs ⊢
  rwa [hde]

theorem State.MayLease.length_le {x : Session} {v : Bytes} {l : Lease} (h : s.MayLease x v l) : v.length ≤ 142 := by
  have hr := h.inRange
  simp only [leaseInRange, Bool.and_eq_true, beq_iff_eq] at hr
  omega

/-! ### Ramp-downs (R323, R324) -/

theorem execRampDownWaitEnd_of_latched {i : Rat} (hc : s.de.connect = 3 ∨ s.de.connect = 4)
    (hw : 3 ≤ s.de.lowRows ∨ 20000 ≤ s.de.waitRows) (hl : s.rows.latched = some i) :
    execRampDownWaitEnd s = .next (if s.latchedAbs ≤ (s.cfgGet 0x2C81 3 : Rat) then s.rampOpen
      else if s.latchedAbs ≤ (s.cfgGet 0x2C81 4 : Rat) then
        (s.rampOpen.modDe fun d => { d with underLoad := d.underLoad + 1 }).raiseEvent 0x0C08
      else ((s.take .trip).modDe fun d =>
        { d with connect := 6, armed := false, breakerTrips := d.breakerTrips + 1 }).raiseEvent 0x0C09) := by
  refine next_of_eq ?_
  rw [if_neg, hl]
  simp only [Bool.or_eq_true, Bool.not_eq_true', Bool.and_eq_true, decide_eq_true_eq, Bool.or_eq_false_iff, beq_eq_false_iff_ne]
  omega

/-- What an opening of a ramp-down leaves (R190, R323). -/
theorem State.rampOpen_effects (hw : tabWf {} s.os.coils = true) :
    (s.rampOpen.coil 2).cmd = false ∧ (s.rampOpen.coil 3).cmd = false ∧ (s.rampOpen.coil 1).cmd = (s.coil 1).cmd ∧
      s.rampOpen.pc.seq = 7 ∧ s.rampOpen.pc.sequenced = true ∧
      s.rampOpen.de = { s.de with connect := 5, armed := s.de.armed && !(s.de.connect == 4) } ∧
      (s.pc.seq ≠ 3 → s.rampOpen.nv = s.nv) ∧ Alters [.os, .pm, .pc, .de, .nv] s s.rampOpen := by
  have hw2 := s.coilOff_wf 2 hw
  have hoff : Alters [.os, .pm] s ((s.coilOff 2).coilOff 3) :=
    ((Alters.refl _ _).coilOff (by decide) (by decide) 2).coilOff (by decide) (by decide) 3
  generalize ho : ((s.coilOff 2).coilOff 3).beginOpening true false = o
  have hopen : Alters [.pc, .de] ((s.coilOff 2).coilOff 3) o := ho ▸ (Alters.refl _ _).beginOpening (by decide) (by decide) _ _
  have hos : o.os = ((s.coilOff 2).coilOff 3).os := hopen .os (by decide)
  have hde : o.de = { s.de with connect := 5 } := by
    rw [← ho, ← hoff .de (by decide)]
    rfl
  have hpc : o.pc.seq = 7 ∧ o.pc.sequenced = true := ho ▸ ⟨rfl, rfl⟩
  have hjournal : Alters [.nv] o s.openSequenced ∧ (s.pc.seq ≠ 3 → s.openSequenced = o) := by
    unfold State.openSequenced
    rw [ho]
    dsimp only
    split
    next h => exact ⟨(Alters.refl _ _).journalEnergy (by decide), fun h3 => absurd (by simpa using h) h3⟩
    next => exact ⟨.refl _ _, fun _ => rfl⟩
  obtain ⟨hj, hn⟩ := hjournal
  have hall : Alters [.os, .pm, .pc, .de, .nv] s s.openSequenced :=
    ((hoff.mono (by decide)).trans (hopen.mono (by decide))).trans (hj.mono (by decide))
  have hcoil : ∀ n, s.rampOpen.coil n = ((s.coilOff 2).coilOff 3).coil n := fun n =>
    congrArg (fun p : Outputs => tabGet ({} : Coil) n p.coils) ((hj .os (by decide)).trans hos)
  have hpcj : s.rampOpen.pc = o.pc := hj .pc (by decide)
  refine ⟨?_, ?_, ?_, ?_, ?_, ?_, fun h3 => ?_, hall.modDe (by decide) _⟩
  · rw [hcoil, State.coilOff_coil_other _ _ _ (by decide), State.coilOff_coil_same _ _ hw]
    rfl
  · rw [hcoil, State.coilOff_coil_same _ _ hw2]
    rfl
  · rw [hcoil, State.coilOff_coil_other _ _ _ (by decide), State.coilOff_coil_other _ _ _ (by decide)]
  · rw [hpcj, hpc.1]
  · rw [hpcj, hpc.2]
  · unfold State.rampOpen
    dsimp only
    rw [State.modDe_de, hj .de (by decide), hde]
  · have hnv : s.rampOpen.nv = s.openSequenced.nv := rfl
    rw [hnv, hn h3, hopen .nv (by decide), hoff .nv (by decide)]

/-- What the breaker's way out of a ramp-down leaves (R324). -/
def State.breakerTripped (s : State) : State :=
  (s.take .trip).modDe fun d => { d with connect := 6, armed := false, breakerTrips := d.breakerTrips + 1 }

theorem State.breakerTripped_moves : Moves [.os, .pm, .pc, .de, .nv, .si] s s.breakerTripped :=
  have h : Moves [.os, .pm, .pc, .de, .nv, .si] s (s.take .trip) := Moves.self.take
  h.modDe (by decide) _

theorem State.breakerTripped_eventFm (code item : Nat) : s.breakerTripped.eventFm code item = s.eventFm code item := by
  have hfm : s.breakerTripped.fm = s.fm := State.breakerTripped_moves .fm (by decide)
  have htb : s.breakerTripped.tb = s.tb := State.breakerTripped_moves .tb (by decide)
  have hty : s.breakerTripped.ty = { s.ty with
      counter := s.breakerTripped.ty.counter, cmdsDue := s.breakerTripped.ty.cmdsDue, longDue := s.breakerTripped.ty.longDue } :=
    State.breakerTripped_moves .ty (by decide)
  obtain ⟨d, hd⟩ : ∃ d, s.breakerTripped.si = _ := State.take_si (s := s) (a := .trip) (by decide)
  rw [State.eventFm, State.eventFm, hfm, htb, State.inPair, State.inPair, State.twinHealthy, State.twinHealthy, hty, hd]

/-- Dropping the coils may begin an opening; it leaves the counts of the dispatch alone. -/
theorem State.dropCoils_breakerTrips : s.dropCoils.de.breakerTrips = s.de.breakerTrips := by
  have h : ([1, 2, 3, 4].foldl State.coilOff s).de = s.de :=
    Alters.foldl (fun _ n => (Alters.refl [.os, .pm] _).coilOff (by decide) (by decide) n) _ _ .de (by decide)
  unfold State.dropCoils
  extract_lets t0 u0
  have ht : t0.de.breakerTrips = s.de.breakerTrips := congrArg Dispatch.breakerTrips h
  have hu : u0.de.breakerTrips = s.de.breakerTrips := ht
  split
  · split
    · rw [← hu]
      exact congrArg Dispatch.breakerTrips ((Alters.refl [.nv] u0).journalEnergy (by decide) .de (by decide))
    · exact hu
  · split
    · exact ht
    · exact ht

theorem State.askPulse_de : s.askPulse.de = s.de := by
  unfold State.askPulse
  dsimp only
  split
  · rfl
  · rfl

theorem State.breakerTripped_trips : s.breakerTripped.de.breakerTrips = s.de.breakerTrips + 1 := by
  have h : (s.take .trip).de = s.dropCoils.de := State.askPulse_de
  rw [State.breakerTripped, State.modDe_de, h, State.dropCoils_breakerTrips]

/-! ### Rest windows (R326 to R328) -/

theorem execRestRetryExpiry_of_flag_clear (h : s.de.restState = 4) (hb : bit s.ef.flags 3 = false) :
    execRestRetryExpiry s = .next (s.modDe fun d => { d with restState := 0 }) := by
  refine next_of_eq ?_
  rw [if_neg (by simp [h]), if_neg (by simp [hb])]

theorem execRestRetryExpiry_of_undecided (h : s.de.restState = 4) (hb : bit s.ef.flags 3 = true) (hd : s.restDecider = none) :
    execRestRetryExpiry s = .next (s.modDe fun d => { d with restState := 1, restLength := s.restWindow }) := by
  refine next_of_eq ?_
  rw [if_neg (by simp [h]), if_pos hb]
  generalize hu : (s.modDe fun d => { d with restState := 1, restLength := s.restWindow }) = u
  have hstate : u.de.restState = 1 := hu ▸ rfl
  have hnone : u.restDecider = none := hu ▸ hd
  unfold State.restUpdate
  rw [hstate, hnone]
  rfl

/-- Settles O29. -/
theorem leaseCommands : Obligations.LeaseCommands := by
  unfold Obligations.LeaseCommands
  refine ⟨fun s r x v l h hl hp hr hs hroom => ?_, fun s r x v l hl hp hr hs h1 hroom => ?_,
    fun s r x v l hl hp hr hs h0 => ?_, fun s => ?_, fun s i hc hw hl hi hwf => ?_, fun s i hc hw hl hi hj hwf => ?_,
    fun s i hc hw hl hi hj hwf => ?_, fun s h => ?_, fun s h => ?_, fun s h hb => ?_, fun s h hb hd => ?_⟩
  · have hmay : s.MayLease x v l := ⟨hl, hp, hr, hs⟩
    refine exists_next rfl (State.liveReq_waits false _ _ hmay.length_le h fun s1 hm => ?_)
    have hmay1 := hmay.of_moves hm
    have hde : s1.de = s.de := hm .de (by decide)
    by_cases h0 : l.ttl = 0
    · rw [hmay1.leaseAct (State.putLease_of_zero h0)]
    · rw [hmay1.leaseAct (State.putLease_of_room (by omega) ?_)]
      rw [State.otherLeases, hde]
      exact hroom.resolve_left h0
  · have hmay : s.MayLease x v l := ⟨hl, hp, hr, hs⟩
    exact ⟨_, hmay.leaseAct (State.putLease_of_room h1 hroom), State.leasesSet_effects _⟩
  · have hmay : s.MayLease x v l := ⟨hl, hp, hr, hs⟩
    exact ⟨_, hmay.leaseAct (State.putLease_of_zero h0), State.leasesSet_effects _⟩
  · exact exists_next rfl (State.leasesSet_effects _)
  · obtain ⟨h2, h3, h1, hq, hsq, hde, hnv, hal⟩ := s.rampOpen_effects hwf
    refine exists_next (execRampDownWaitEnd_of_latched (.inl hc) (.inl hw) hl) ?_
    rw [if_pos hi, hde]
    exact ⟨h2, h3, h1, hq, hsq, rfl, by simp [hc], hnv, hal⟩
  · obtain ⟨h2, h3, h1, hq, hsq, hde, hnv, hal⟩ := s.rampOpen_effects hwf
    refine exists_next (execRampDownWaitEnd_of_latched (.inr hc) (.inr hw) hl) ?_
    rw [if_neg (not_le.2 hi), if_pos hj]
    generalize hu : (s.rampOpen.modDe fun d => { d with underLoad := d.underLoad + 1 }) = u
    have hus : Alters [.os, .pm, .pc, .de, .nv] s u := hu ▸ hal.modDe (by decide) _
    have hm : Moves [.fm] u (u.raiseEvent 0x0C08) := Moves.self.raiseEvent (by decide) _ _
    have hos : (u.raiseEvent 0x0C08).os = s.rampOpen.os := (hm .os (by decide)).trans (hu ▸ rfl)
    have hpc : (u.raiseEvent 0x0C08).pc = s.rampOpen.pc := (hm .pc (by decide)).trans (hu ▸ rfl)
    have hdu : (u.raiseEvent 0x0C08).de = { s.de with
        connect := 5, armed := s.de.armed && !(s.de.connect == 4), underLoad := s.de.underLoad + 1 } := by
      rw [hm .de (by decide), ← hu, State.modDe_de, hde]
    have hnu : (u.raiseEvent 0x0C08).nv = s.rampOpen.nv := (hm .nv (by decide)).trans (hu ▸ rfl)
    refine ⟨?_, ?_, ?_, ?_, ?_, ?_, ?_, fun h => ?_, (hus.moves.mono (by decide)).raiseEvent (by decide) _ _⟩
    · rw [State.coil, hos]
      exact h2
    · rw [State.coil, hos]
      exact h3
    · rw [hpc, hq]
    · rw [hdu]
    · rw [hdu]
      simp [hc]
    · rw [hdu]
    · rw [State.raiseEvent_fm]
      exact hus.moves.eventFm (by decide) _ _
    · rw [hnu, hnv h]
  · refine exists_next (execRampDownWaitEnd_of_latched (.inr hc) (.inr hw) hl) ?_
    rw [if_neg (not_le.2 hi), if_neg (not_le.2 hj)]
    rw [← State.breakerTripped]
    have hm : Moves [.fm] s.breakerTripped (s.breakerTripped.raiseEvent 0x0C09) := Moves.self.raiseEvent (by decide) _ _
    have hos : (s.breakerTripped.raiseEvent 0x0C09).os = (s.take .trip).os := hm .os (by decide)
    have hsi : (s.breakerTripped.raiseEvent 0x0C09).si = (s.take .trip).si := hm .si (by decide)
    have hde : (s.breakerTripped.raiseEvent 0x0C09).de = s.breakerTripped.de := hm .de (by decide)
    obtain ⟨d, hd⟩ := State.take_si (s := s) (a := .trip) (by decide)
    refine ⟨fun n hn => ?_, ?_, ?_, ?_, ?_, ?_, ?_, (State.breakerTripped_moves.mono (by decide)).raiseEvent (by decide) _ _⟩
    · rw [State.coil, hos, State.take_coils (by decide)]
      exact s.dropCoils_off hwf n hn
    · rw [hos, State.take_trip_uvr]
    · rw [hsi, hd]
      rfl
    · rw [hde]
      rfl
    · rw [hde]
      rfl
    · rw [hde, State.breakerTripped_trips]
    · rw [State.raiseEvent_fm, State.breakerTripped_eventFm]
  · exact exists_next (next_of_pos (by simp [h])) ⟨rfl, State.modDe_alters s _⟩
  · exact exists_next (next_of_pos (by simp [h])) ⟨rfl, State.modDe_alters s _⟩
  · exact exists_next (execRestRetryExpiry_of_flag_clear h hb) ⟨rfl, State.modDe_alters s _⟩
  · exact exists_next (execRestRetryExpiry_of_undecided h hb hd) ⟨rfl, State.modDe_alters s _⟩

end
end Sys2Proof.Machine
end

section
/-! The dispatch envelope (R305 to R314). -/

namespace Sys2Proof.Machine

-- One theorem after another: each thread of the checker takes 256 MB of stack.
set_option Elab.async false

section
variable {s t u : State}

/-! ### Limits (R310) -/

theorem ratMin_le_right (x y : Rat) : ratMin x y ≤ y := by
  unfold ratMin
  split
  next => exact le_rfl
  next h => exact not_lt.1 h

theorem wholeMa_mono {x y : Rat} (h : x ≤ y) : wholeMa x ≤ wholeMa y :=
  min_le_min le_rfl (Int.toNat_le_toNat (Int.floor_mono h))

/-- The limits of a side: a longer horizon never has more than a shorter one. -/
theorem State.formSide_falls (charge : Bool) (computed : Nat → Option Rat) :
    (s.formSide charge computed).1.getD 2 0 ≤ (s.formSide charge computed).1.getD 1 0 ∧
      (s.formSide charge computed).1.getD 1 0 ≤ (s.formSide charge computed).1.getD 0 0 :=
  ⟨wholeMa_mono (ratMin_le_right _ _), wholeMa_mono (ratMin_le_right _ _)⟩

/-- Outside a connection the flags say that the envelope is not valid. -/
theorem State.envelopeFlags_even (h : s.pc.seq ≠ 6) : s.envelopeFlags % 2 = 0 := by
  unfold State.envelopeFlags
  rw [beq_false_of_ne h]
  simp only [Bool.false_and, b2n, Bool.false_eq_true, if_false]
  omega

/-- What a computation leaves of the dispatch (R305 to R311). -/
structure State.Computed (s : State) (t : State) : Prop where
  version : t.de.computed.version = 1
  pattern : t.de.computed.pattern = BitVec.ofNat 32 (s.patNo + 1)
  charge60 : t.de.computed.charge60 ≤ t.de.computed.charge10
  charge10 : t.de.computed.charge10 ≤ t.de.computed.charge2
  dis60 : t.de.computed.dis60 ≤ t.de.computed.dis10
  dis10 : t.de.computed.dis10 ≤ t.de.computed.dis2
  apart : s.pc.seq ≠ 6 → t.de.computed.charge2 = 0 ∧ t.de.computed.dis2 = 0 ∧ t.de.computed.flags % 2 = 0
  next : t.de.next = s.de.next
  envelope : t.de.envelope = s.de.envelope

theorem State.computeEnvelope_computed : s.Computed s.computeEnvelope := by
  unfold State.computeEnvelope
  extract_lets born ls best
  have hch := s.formSide_falls true best
  have hdi := s.formSide_falls false fun k => best (k + 3)
  generalize s.formSide true best = ch at hch ⊢
  generalize (s.formSide false fun k => best (k + 3)) = di at hdi ⊢
  obtain ⟨ch, cc⟩ := ch
  obtain ⟨di, cd⟩ := di
  obtain ⟨hc2, hc1⟩ := hch
  obtain ⟨hd2, hd1⟩ := hdi
  dsimp only
  have hlim : ∀ {a b : Nat}, a ≤ b → (if bit s.envelopeFlags 0 then a else 0) ≤ if bit s.envelopeFlags 0 then b else 0 := by
    intro a b h
    split
    · exact h
    · exact le_rfl
  refine ⟨rfl, rfl, hlim hc2, hlim hc1, hlim hd2, hlim hd1, fun h => ?_, rfl, rfl⟩
  have heven := State.envelopeFlags_even h
  have hbit : ¬ bit s.envelopeFlags 0 = true := by simp [bit, heven]
  exact ⟨if_neg hbit, if_neg hbit, heven⟩

theorem State.restAgeEnd_alters : Alters [.de] s s.restAgeEnd := .ite (State.modDe_alters s _) (.refl _ _)

theorem State.restAgeEnd_kept : s.restAgeEnd.de.next = s.de.next ∧ s.restAgeEnd.de.envelope = s.de.envelope := by
  unfold State.restAgeEnd
  split <;> exact ⟨rfl, rfl⟩

/-! ### Publication (R312) -/

/-- The state at 8.5 ms with its message numbered and the computed envelope published. -/
def State.published (s : State) : State :=
  let m := (s.runTo (s.patStart + 8500000)).numberMsg false
  m.2.modDe fun d => { d with next := { d.computed with pairSeq := BitVec.ofNat 32 m.1 } }

theorem State.computeEnvelope_alters : Alters [.de] s s.computeEnvelope := State.modDe_alters s _

theorem execEnvelopePublish_eq : execEnvelopePublish s = .next s.published.sendEnvelope := rfl

theorem State.published_moves : Moves [.tb, .de] s s.published :=
  have h : Moves [.tb, .de] s (s.runTo (s.patStart + 8500000)) := Moves.self.runTo (by decide) _
  h.numberMsg.modDe (by decide) _

theorem State.sendEnvelope_of_ethernet (hc : bit (s.cfgGet 0x2C82 1) 0 = false) (he : bit (s.cfgGet 0x2C82 1) 1 = true)
    (hn : s.cfgGet 0x2C82 4 ≠ 0) : s.sendEnvelope = s.emit (.envelopeEth (s.cfgGet 0x2C82 4) s.de.next.bytes) := by
  unfold State.sendEnvelope
  dsimp only
  rw [hc, he, if_neg Bool.false_ne_true, if_pos (by simp [hn])]

/-- Settles O30. -/
theorem envelopeCommands : Obligations.EnvelopeCommands := by
  unfold Obligations.EnvelopeCommands
  refine ⟨fun s => ?_, fun s hc he hn => ?_, fun s ms hn hms => ?_⟩
  · have hr : Alters [.tb] s (s.runTo (s.patStart + 7000000)) := State.runTo_alters s _
    have he : execEnvelopeCompute s = .next (s.runTo (s.patStart + 7000000)).restAgeEnd.computeEnvelope := rfl
    refine exists_next he ?_
    generalize s.runTo (s.patStart + 7000000) = r at hr
    have ha := State.restAgeEnd_alters (s := r)
    have hc := State.computeEnvelope_alters (s := r.restAgeEnd)
    have hde : r.de = s.de := hr .de (by decide)
    have hpc : r.restAgeEnd.pc = s.pc := (ha .pc (by decide)).trans (hr .pc (by decide))
    have hpat : r.restAgeEnd.computeEnvelope.patNo = r.restAgeEnd.patNo := by
      rw [State.patNo, State.patNo, hc.moves.ns]
    obtain ⟨hv, hp, h60, h10, d60, d10, h6, hn, hv2⟩ := State.computeEnvelope_computed (s := r.restAgeEnd)
    obtain ⟨hkn, hke⟩ := State.restAgeEnd_kept (s := r)
    refine ⟨(hc .tb (by decide)).trans (ha .tb (by decide)), hv, by rw [hpat, hp], h60, h10, d60, d10,
      fun h => h6 (by rwa [hpc]), ?_, ?_, (hr.mono (by decide)).trans ((ha.trans hc).mono (by decide))⟩
    · rw [hn, hkn, hde]
    · rw [hv2, hke, hde]
  · have hm := State.published_moves (s := s)
    have hr : Alters [.tb] s (s.runTo (s.patStart + 8500000)) := State.runTo_alters s _
    have hout : s.published.out = s.out := (hr .out (by decide))
    have htb : s.published.tb = (s.runTo (s.patStart + 8500000)).tb := rfl
    have hde : s.published.de = { s.de with next := { s.de.computed with pairSeq := s.published.de.next.pairSeq } } := by
      have hd : (s.runTo (s.patStart + 8500000)).de = s.de := hr .de (by decide)
      rw [← hd]
      rfl
    refine exists_next execEnvelopePublish_eq ?_
    rw [State.sendEnvelope_of_ethernet (by rwa [hm.cfgGet]) (by rwa [hm.cfgGet]) (by rwa [hm.cfgGet]), hm.cfgGet]
    refine ⟨htb, hde, ?_, hm.emit _⟩
    rw [← hout]
    rfl
  · exact exists_next (next_of_pos (by simp [hn, hms])) ⟨rfl, State.modDe_alters s _⟩

end
end Sys2Proof.Machine
end

section
/-! CAN transmission (R445 to R448). -/

namespace Sys2Proof.Machine

-- One theorem after another: each thread of the checker takes 256 MB of stack.
set_option Elab.async false

/-- Plant time 0, and a table of transmit buffers of CAN1 that lists buffer 0 twice, in flight in its second entry: not a state
the module comes into, and the statement does not leave it out. -/
def bufferListedTwice : State :=
  { State.reset with cn := { State.reset.cn with c1 := { tx := [(0, {}), (0, { state := 2, eof := 5 })] } } }

/-- The end stamp 0 takes the first entry out of the table, and the second one, which is then done, keeps its own stamp. -/
theorem bufferListedTwice_complete (t : State) (h : execCanTxComplete 1 bufferListedTwice = .next t) :
    ((t.ctl 1).txb 0).eof = 5 := by
  obtain rfl := Host.Outcome.next.inj h
  decide +kernel

/-- Refutes O31: the ninth clause asks for the end stamp in a completed buffer, also where the table of buffers lists that
buffer twice. -/
theorem not_canTransmitCommands : ¬ Obligations.CanTransmitCommands := by
  unfold Obligations.CanTransmitCommands
  rintro ⟨-, -, -, -, -, -, -, -, h, -⟩
  obtain ⟨t, e, -, -, he, -⟩ := h bufferListedTwice 1 0 rfl (by decide) rfl rfl rfl
  exact absurd ((bufferListedTwice_complete t e).symm.trans he) (by decide +kernel)

end Sys2Proof.Machine
end

section
/-! CAN reception (R440 to R443). -/

namespace Sys2Proof.Machine

-- One theorem after another: each thread of the checker takes 256 MB of stack.
set_option Elab.async false

/-- CAN2 of the host hears frames, its first filter entry takes identifier 0 into the ring, and the ring's write index stands
behind the ring's last buffer: not a state the module comes into, and the statement does not leave it out. -/
def indexBehindRing : State :=
  { State.reset with
    pm := { State.reset.pm with state := .ready }
    cfg := [(objKey 0x328B 0, 1)]
    cn := { State.reset.cn with c2 := { mode := 1, errState := 0, wr := 200, filters := [(0, 32534)] } } }

/-- The frame goes into the ring's buffer 0. -/
theorem indexBehindRing_receive (t : State) (h : execCanFrameReceive 2 {} 0 indexBehindRing = .next t) :
    (t.cn.c2.rxb 200).nd = false := by
  obtain rfl := Host.Outcome.next.inj h
  decide +kernel

/-- Refutes O32: the first clause asks for the frame in the buffer of the write index, also where that index stands behind the
ring, and the model then begins the ring again (R442). -/
theorem not_canReceiveCommands : ¬ Obligations.CanReceiveCommands := by
  unfold Obligations.CanReceiveCommands
  rintro ⟨h, -⟩
  obtain ⟨t, e, hx, -⟩ := h indexBehindRing {} 0 0 (by decide) (by decide +kernel) (by decide +kernel) (by decide +kernel)
    (by decide +kernel) (by decide +kernel) (by decide)
  have hnd : (t.cn.c2.rxb 200).nd = true := congrArg CanRx.nd hx
  exact absurd ((indexBehindRing_receive t e).symm.trans hnd) (by decide)

end Sys2Proof.Machine
end

section
/-! CAN errors, bus-off and modes (R434, R436, R449 to R451). -/

namespace Sys2Proof.Machine

-- One theorem after another: each thread of the checker takes 256 MB of stack.
set_option Elab.async false

section
variable {s t u : State} {k : Nat}

/-! ### Controllers -/

theorem State.modCtl_ctl (f : CanCtl → CanCtl) : (s.modCtl k f).ctl k = f (s.ctl k) := by
  unfold State.modCtl State.ctl
  by_cases h : (k == 1) = true
  · simp [h]
  · simp [h]

theorem State.modCtl_alters (k : Nat) (f : CanCtl → CanCtl) : Alters [.cn] s (s.modCtl k f) := State.modCn_alters s _

/-- An alert is all that an alert bit changes of a controller. -/
theorem State.alertBit_ctl (k n : Nat) : ∃ a, (s.alertBit k n).ctl k = { s.ctl k with alert := a } := by
  unfold State.alertBit
  split
  next h =>
    have hk : k = 2 := by
      have := (Bool.and_eq_true_iff.1 h).1
      simpa using this
    subst hk
    exact ⟨_, State.modCtl_ctl _⟩
  next => exact ⟨_, rfl⟩

/-- Sending a message moves only the chain of a controller. -/
theorem Moves.ctl {ps : List Part} (h : Moves ps s t) (k : Nat) (hp : .cn ∉ ps := by decide) :
    ∃ l, t.ctl k = { s.ctl k with chain := l } := by
  have hc : t.cn = { s.cn with c1 := { s.cn.c1 with chain := t.cn.c1.chain }, c2 := { s.cn.c2 with chain := t.cn.c2.chain } } :=
    h .cn hp
  unfold State.ctl
  rw [hc]
  split
  · exact ⟨_, rfl⟩
  · exact ⟨_, rfl⟩

/-- An update of the error state takes it from the mode and the counters, and touches only alerts beside it (R449). -/
theorem State.errorUpdate_ctl (k : Nat) :
    ∃ a l, (s.errorUpdate k).ctl k = { s.ctl k with errState := (s.ctl k).errorNow, alert := a, chain := l } := by
  unfold State.errorUpdate
  extract_lets old new t0 u0 passive off
  have ht : t0.ctl k = { s.ctl k with errState := new } := State.modCtl_ctl _
  obtain ⟨a, ha⟩ : ∃ a, u0.ctl k = { s.ctl k with errState := new, alert := a } := by
    obtain ⟨a, ha⟩ := State.alertBit_ctl (s := t0) k 2
    unfold u0
    split
    · exact ⟨a, by rw [ha, ht]⟩
    · exact ⟨_, ht⟩
  have hm : Moves [.fm] u0 ((u0.cond 0x1201 (!passive.isEmpty) (passive.headD 0)).cond 0x1202 (!off.isEmpty) (off.headD 0)) :=
    (Moves.self.cond (by decide) _ _ _).cond (by decide) _ _ _
  obtain ⟨l, hl⟩ := hm.ctl k
  exact ⟨a, l, by rw [hl, ha]⟩

theorem State.errorUpdate_moves (k : Nat) : Moves [.fm, .cn] s (s.errorUpdate k) := Moves.self.errorUpdate

theorem State.frameEnd_of_running (h : (s.ctl k).stopDue = false) : s.frameEnd k = s := if_neg (by rw [h]; exact Bool.false_ne_true)

/-! ### Errors (R449, R450) -/

/-- An error adds to a counter and leaves its code. -/
def State.errorCounted (s : State) (k code add : Nat) (transmitting : Bool) : State := s.modCtl k fun c => { c with
  lastErr := code % 8, tec := if transmitting then c.tec + add else c.tec
  recv := if transmitting then c.recv else min 65535 (c.recv + add) }

theorem State.errorCounted_ctl (code add : Nat) (transmitting : Bool) :
    (s.errorCounted k code add transmitting).ctl k = { s.ctl k with
      lastErr := code % 8, tec := if transmitting then (s.ctl k).tec + add else (s.ctl k).tec
      recv := if transmitting then (s.ctl k).recv else min 65535 ((s.ctl k).recv + add) } := State.modCtl_ctl _

/-- A controller of the module that takes part in the bus. -/
structure State.OnBus (s : State) (k : Nat) : Prop where
  known : k = 1 ∨ k = 2
  mode : (s.ctl k).mode ≠ 0
  active : (s.ctl k).errState < 2
  stays : (s.ctl k).stopDue = false

theorem State.OnBus.guard (h : s.OnBus k) : ¬ ((k != 1 && k != 2) || (s.ctl k).mode == 0 || decide (2 ≤ (s.ctl k).errState)) = true := by
  obtain ⟨hk, hm, ha, -⟩ := h
  simp only [Bool.or_eq_true, Bool.and_eq_true, bne_iff_ne, ne_eq, beq_iff_eq, decide_eq_true_eq]
  omega

theorem execCanBusError_of_receiving (h : s.OnBus k) (ht : (s.ctl k).tec ≤ 255) (code add : Nat) :
    execCanBusError k code add false s = .next ((s.errorCounted k code add false).errorUpdate k) := by
  have hc := State.errorCounted_ctl (s := s) (k := k) code add false
  have htec : ¬ 255 < ((s.errorCounted k code add false).ctl k).tec := by
    rw [hc]
    exact not_lt.2 ht
  obtain ⟨a, l, hu⟩ := State.errorUpdate_ctl (s := s.errorCounted k code add false) k
  refine next_of_eq ((if_neg h.guard).trans ?_)
  dsimp only
  rw [if_neg Bool.false_ne_true, ← State.errorCounted, if_neg htec]
  exact State.frameEnd_of_running (by rw [hu, hc]; exact h.stays)

/-- A controller goes bus-off, with no buffer in flight and none purged (R450). -/
def State.wentOff (s : State) (k : Nat) : State :=
  s.modCtl k fun c => { c with busOffs := c.busOffs + 1, recovering := bit (s.cfgGet 0x3288 k) 0 }

theorem State.busOff_of_kept (hp : bit (s.cfgGet 0x3288 k) 1 = false) :
    s.busOff k = if s.fwOwns k && s.cfgGet 0x2C82 3 == k then (s.wentOff k).fallbackBegin else s.wentOff k := by
  unfold State.busOff
  dsimp only
  rw [hp, if_neg Bool.false_ne_true]
  rfl

theorem State.fallbackBegin_de : s.fallbackBegin.de.fallback = true := by
  unfold State.fallbackBegin
  split
  next h => exact h
  next =>
    have hm : Moves [.fm] (s.modDe fun d => { d with fallback := true, canRun := 0 })
      ((s.modDe fun d => { d with fallback := true, canRun := 0 }).raiseEvent 0x0C05) := Moves.self.raiseEvent (by decide) _ _
    rw [hm .de (by decide)]
    rfl

theorem State.busOff_ctl (hp : bit (s.cfgGet 0x3288 k) 1 = false) : ∃ l, (s.busOff k).ctl k = { s.ctl k with
    busOffs := (s.ctl k).busOffs + 1, recovering := bit (s.cfgGet 0x3288 k) 0, chain := l } := by
  have hw : (s.wentOff k).ctl k = _ := State.modCtl_ctl _
  rw [State.busOff_of_kept hp]
  split
  · have hm : Moves [.fm, .de] (s.wentOff k) (s.wentOff k).fallbackBegin := Moves.self.fallbackBegin
    obtain ⟨l, hl⟩ := hm.ctl k
    exact ⟨l, by rw [hl, hw]⟩
  · exact ⟨_, hw⟩

theorem State.busOff_fallback (hp : bit (s.cfgGet 0x3288 k) 1 = false) (hf : s.fwOwns k = true) (hk : s.cfgGet 0x2C82 3 = k) :
    (s.busOff k).de.fallback = true := by
  rw [State.busOff_of_kept hp, if_pos (by simp [hf, hk])]
  exact State.fallbackBegin_de

theorem execCanBusError_of_sending (h : s.OnBus k) (ha : (s.ctl k).active = none) {add : Nat} (ht : 255 < (s.ctl k).tec + add)
    (hp : bit (s.cfgGet 0x3288 k) 1 = false) (code : Nat) :
    execCanBusError k code add true s = .next (((s.errorCounted k code add true).busOff k).errorUpdate k) := by
  have hc := State.errorCounted_ctl (s := s) (k := k) code add true
  have htec : 255 < ((s.errorCounted k code add true).ctl k).tec := by
    rw [hc]
    exact ht
  have hfail : (s.errorCounted k code add true).frameFails k = s.errorCounted k code add true := by
    have hn : ((s.errorCounted k code add true).ctl k).active = none := by
      rw [hc]
      exact ha
    unfold State.frameFails
    rw [hn]
  obtain ⟨l, hb⟩ := State.busOff_ctl (s := s.errorCounted k code add true) (k := k) hp
  obtain ⟨a, l', hu⟩ := State.errorUpdate_ctl (s := (s.errorCounted k code add true).busOff k) k
  refine next_of_eq ((if_neg h.guard).trans ?_)
  dsimp only
  rw [if_pos rfl, ← State.errorCounted, hfail, if_pos htec]
  exact State.frameEnd_of_running (by rw [hu, hb, hc]; exact h.stays)

/-! ### Modes and recovery (R436, R451) -/

theorem State.recoverAct_of_off (hk : k = 1 ∨ k = 2) (ht : 255 < (s.ctl k).tec) :
    s.recoverAct k 1 = ok ((s.modCtl k fun c => { c with recovering := true }).errorUpdate k) := by
  unfold State.recoverAct
  rw [if_neg (by simp; omega), if_neg (by simp), if_neg (by omega)]

theorem State.controllerModeAct_eq {v : Nat} (hk : k = 1 ∨ k = 2) (hv : v ≤ 3) :
    s.controllerModeAct k v = ok ((s.cfgPut 0x3280 k v).takeMode k v) := by
  unfold State.controllerModeAct
  rw [if_neg (by simp; omega), if_neg (by omega)]

/-- A mode of a controller that is free to take it. -/
def State.modeTaken (s : State) (k v : Nat) : State :=
  ((s.cfgPut 0x3280 k v).modCtl k fun c => { c with mode := v, stopDue := false }).errorUpdate k

theorem State.controllerModeAct_of_free {v : Nat} (hk : k = 1 ∨ k = 2) (hv : v ≤ 3) (h : v ≠ 0 ∨ (s.ctl k).active = none) :
    s.controllerModeAct k v = ok (s.modeTaken k v) := by
  have ha : ((s.cfgPut 0x3280 k v).ctl k).active = (s.ctl k).active := rfl
  rw [State.controllerModeAct_eq hk hv, State.takeMode, ha, if_neg]
  · rfl
  · rcases h with h | h
    · simp [h]
    · simp [h]

/-- Settles O33. -/
theorem canErrorCommands : Obligations.CanErrorCommands := by
  unfold Obligations.CanErrorCommands
  refine ⟨fun s k code add hk hm he ht hs => ?_, fun s k code add hk hm he ha ht hs hp => ?_, fun s k hr hm => ?_,
    fun s r x k hk h ht hm => ?_, fun s r x k hk ht hm => ?_, fun s r x k v hk hv h => ?_, fun s r x k v hk hv hf => ?_,
    fun s k => ?_⟩
  · obtain ⟨a, l, hu⟩ := State.errorUpdate_ctl (s := s.errorCounted k code add false) k
    refine exists_next (execCanBusError_of_receiving ⟨hk, hm, he, hs⟩ ht code add) ?_
    rw [hu, State.errorCounted_ctl]
    exact ⟨rfl, rfl, rfl, rfl, rfl, ((State.modCtl_alters k _).moves.mono (by decide)).errorUpdate⟩
  · have hc := State.errorCounted_ctl (s := s) (k := k) code add true
    have hal : Alters [.cn] s (s.errorCounted k code add true) := State.modCtl_alters k _
    obtain ⟨l, hb⟩ := State.busOff_ctl (s := s.errorCounted k code add true) (k := k) hp
    obtain ⟨a, l', hu⟩ := State.errorUpdate_ctl (s := (s.errorCounted k code add true).busOff k) k
    have hcfg : (s.errorCounted k code add true).cfgGet 0x3288 k = s.cfgGet 0x3288 k := rfl
    have hnow : (((s.errorCounted k code add true).busOff k).ctl k).errorNow = if bit (s.cfgGet 0x3288 k) 0 then 4 else 2 := by
      rw [hb, hc, hcfg]
      unfold CanCtl.errorNow
      dsimp only
      rw [if_neg (by simpa using hm), if_pos (by simpa using ht)]
    refine exists_next (execCanBusError_of_sending ⟨hk, hm, he, hs⟩ ha ht hp code) ?_
    rw [hu, hnow, hb, hc]
    refine ⟨rfl, rfl, rfl, rfl, rfl, fun hf hk => ?_, ((hal.moves.mono (by decide)).busOff).errorUpdate⟩
    rw [State.errorUpdate_moves k .de (by decide)]
    exact State.busOff_fallback hp hf hk
  · have hc : (s.modCtl k fun c => { c with tec := 0, recv := 0, recovering := false }).ctl k = _ := State.modCtl_ctl _
    obtain ⟨a, l, hu⟩ := State.errorUpdate_ctl (s := s.modCtl k fun c => { c with tec := 0, recv := 0, recovering := false }) k
    refine exists_next (next_of_pos hr) ?_
    rw [hu, hc]
    refine ⟨rfl, rfl, rfl, ?_, rfl, ((State.modCtl_alters k _).moves.mono (by decide)).errorUpdate⟩
    exact if_neg (by simpa using hm)
  · refine exists_next rfl (State.liveReq_waits false _ _ (by decide) h fun s1 hm1 => ?_)
    obtain ⟨l, hl⟩ := hm1.ctl k
    rw [State.recoverAct_of_off hk (by rw [hl]; exact ht)]
    rfl
  · have hc : (s.modCtl k fun c => { c with recovering := true }).ctl k = _ := State.modCtl_ctl _
    obtain ⟨a, l, hu⟩ := State.errorUpdate_ctl (s := s.modCtl k fun c => { c with recovering := true }) k
    refine ⟨_, State.recoverAct_of_off hk ht, ?_⟩
    rw [hu, hc]
    refine ⟨rfl, ?_, rfl, ((State.modCtl_alters k _).moves.mono (by decide)).errorUpdate⟩
    exact (if_neg (by simpa using hm)).trans (if_pos (by simpa using ht))
  · refine exists_next rfl (State.liveReq_waits false _ _ (Nat.le_of_ble_eq_true rfl) h fun s1 hm1 => ?_)
    rw [State.controllerModeAct_eq hk hv]
    rfl
  · have hc : ((s.cfgPut 0x3280 k v).modCtl k fun c => { c with mode := v, stopDue := false }).ctl k = _ := State.modCtl_ctl _
    obtain ⟨a, l, hu⟩ := State.errorUpdate_ctl
      (s := (s.cfgPut 0x3280 k v).modCtl k fun c => { c with mode := v, stopDue := false }) k
    have hm : Moves [.cfg, .cn, .fm] s (s.modeTaken k v) := ((Moves.self.cfgPut).modCtl).errorUpdate
    refine ⟨_, State.controllerModeAct_of_free hk hv hf, ?_⟩
    rw [State.modeTaken, hu, hc]
    exact ⟨rfl, rfl, State.errorUpdate_moves k .cfg (by decide), hm⟩
  · exact exists_next rfl ⟨State.raiseEvent_fm _ _ _, Moves.self.raiseEvent (by decide) _ _⟩

end
end Sys2Proof.Machine
end

section
/-! PTP messages that are sent (R417, R428). -/

namespace Sys2Proof.Machine

-- One theorem after another: each thread of the checker takes 256 MB of stack.
set_option Elab.async false

/-- The VLAN of a PTP message that leaves. -/
def Out.vlan : Out → Nat
  | .ptp _ m => m.vlan
  | _ => 0

/-- A clock on PTP with its messages in VLAN 5 (PtpVlan 0x3080.0B). -/
def ptpInVlan : State :=
  { State.reset with
    pm := { State.reset.pm with state := .ready }
    cfg := [(objKey 0x3080 1, 1), (objKey 0x3080 2, 0), (objKey 0x3080 3, 0), (objKey 0x3080 4, 0), (objKey 0x3080 11, 5)]
    tb := { State.reset.tb with portState := 6, master := some {}, activePort := 1 } }

theorem ptpInVlan_delayReq (t : State) (h : execDelayReq {} 0 ptpInVlan = .next t) : t.out.map Out.vlan = [5] := by
  obtain rfl := Host.Outcome.next.inj h
  decide +kernel

/-- Refutes O34: the fourth clause gives the answer to DELAY_REQ no VLAN, also where PtpVlan is set. -/
theorem not_ptpReceiveCommands : ¬ Obligations.PtpReceiveCommands := by
  unfold Obligations.PtpReceiveCommands
  rintro ⟨-, -, -, h, -⟩
  obtain ⟨t, e, ho, -⟩ := h ptpInVlan {} 0 (by decide +kernel) (by decide +kernel) rfl (by decide +kernel)
  have hv := ptpInVlan_delayReq t e
  rw [ho] at hv
  exact absurd hv (by decide)

theorem ptpInVlan_delayReqSend (t : State) (h : execDelayReqSend 1 0 ptpInVlan = .next t) : t.out.map Out.vlan = [5] := by
  obtain rfl := Host.Outcome.next.inj h
  decide +kernel

/-- Refutes O35: the eighth clause gives a DELAY_REQ no VLAN, also where PtpVlan is set. -/
theorem not_ptpSendCommands : ¬ Obligations.PtpSendCommands := by
  unfold Obligations.PtpSendCommands
  rintro ⟨-, -, -, -, -, -, -, h⟩
  obtain ⟨t, e, ho, -⟩ := h ptpInVlan 1 0 (.inl rfl) (by decide +kernel) (by decide +kernel) rfl rfl (by decide)
  have hv := ptpInVlan_delayReqSend t e
  rw [ho] at hv
  exact absurd hv (by decide)

end Sys2Proof.Machine
end

section
/-! Time steps and the increment (R409, R421 to R426). -/

namespace Sys2Proof.Machine

-- One theorem after another: each thread of the checker takes 256 MB of stack.
set_option Elab.async false

section
variable {s t u : State} {x : Session} {r : Req}

/-! ### A step (R425) -/

theorem State.stepped_of_range {d : Int} {n : Nat} (h : (s.ns : Int) + d = n) (hn : n < 2 ^ 48 * 1000000000) :
    s.stepped d = (n, s) := by
  unfold State.stepped
  dsimp only
  rw [h, if_pos ⟨Int.natCast_nonneg n, by exact_mod_cast hn⟩, Int.toNat_natCast]

/-- Plant time once a step is taken. -/
def Timebase.steppedTo (b : Timebase) (d : Int) (epoch n : Nat) : Timebase := { b with
  now := stampAt epoch n, stepCount := b.stepCount + 1, lastStep := stampAt epoch n, lastSize := d, pendingOff := 0
  pendingCount := 0, firstRefused := 0, lockRun := 0, firstDone := true, stepDue := none, stepAgreed := none
  state := if b.state == .free && b.master.isNone then .free else .acquiring }

/-- The parts that a step moves beside plant time. -/
def Part.stepped : List Part := [.rows, .cl, .ef, .pm, .os, .en, .sy, .ca, .ss]

/-- A step sets plant time, moves what else holds an instant, and is journaled and logged. -/
theorem State.applyStep_eq {d : Int} {n : Nat} (h : s.stepped d = (n, s)) : ∃ u k,
    s.applyStep d = (((u.journal 0x0005 u.record5).clearCond 0x1002).raiseEvent 0x1003).logKind 5 k ∧
      Alters Part.stepped (s.modTb fun b => b.steppedTo d (if d < 0 then s.tb.now.epoch + 1 else s.tb.now.epoch) n) u ∧
      u.rows.seamCount = s.rows.seamCount + 1 ∧ u.cl = { s.cl with stepFlag := true } := by
  unfold State.applyStep
  rw [h]
  refine ⟨_, _, rfl, ?_, rfl, rfl⟩
  exact (((((((((Alters.refl _ _).modRows (by decide) _).modCl (by decide) _).modEf (by decide) _).modPm (by decide) _).modOs
    (by decide) _).modSy (by decide) _).modEn (by decide) _).modCa (by decide) _).modSs (by decide) _

theorem State.applyStep_effects {d : Int} {n : Nat} (h : s.stepped d = (n, s)) :
    (s.applyStep d).tb = s.tb.steppedTo d (if d < 0 then s.tb.now.epoch + 1 else s.tb.now.epoch) n ∧
      (s.applyStep d).rows.seamCount = s.rows.seamCount + 1 ∧ (s.applyStep d).cl = { s.cl with stepFlag := true } ∧
      Moves ([.tb, .nv, .fm, .lg] ++ Part.stepped) s (s.applyStep d) := by
  obtain ⟨u, k, he, hu, hseam, hcl⟩ := State.applyStep_eq h
  have hm : Moves [.nv, .fm, .lg] u (s.applyStep d) := he ▸
    ((((Moves.self.journal (by decide) _ _).clearCond (by decide) _).raiseEvent (by decide) _ _).logKind
      (by decide) (by decide) (by decide) _ _)
  have hrows : (s.applyStep d).rows = u.rows := hm .rows (by decide)
  refine ⟨(hm .tb (by decide)).trans (hu .tb (by decide)), ?_, (hm .cl (by decide)).trans hcl, ?_⟩
  · rw [hrows, hseam]
  · exact (((State.modTb_alters s _).moves.mono (by decide)).trans (hu.moves.mono (by decide))).trans (hm.mono (by decide))

/-! ### Accepting a step (R423, R424) -/

theorem State.acceptStep_of_alone {d : Int} (he : d < 0 → s.tb.now.epoch ≠ 65535) (hm : s.ty.state ≠ .member) :
    s.acceptStep d = s.applyStep d := by
  unfold State.acceptStep
  rw [if_neg, if_neg (by simpa using hm)]
  simpa using he

theorem State.acceptStep_of_member {d : Int} (he : d < 0 → s.tb.now.epoch ≠ 65535) (hm : s.ty.state = .member) :
    s.acceptStep d = (s.modTy fun y => { y with
      cmdsDue := y.cmdsDue ++ [{ node := s.id.nodeId, index := 0x3083, value := leInt 8 d }] }).modTb fun t =>
        { t with stepDue := some d } := by
  unfold State.acceptStep
  rw [if_neg (by simpa using he), if_pos (by simp [hm])]

theorem State.stepAcceptAct_of_following (h : s.followsSteps = true) : s.stepAcceptAct 1 = ok s := by
  unfold State.stepAcceptAct
  rw [if_neg (by decide), if_pos h]

theorem State.stepAcceptAct_of_pending (hf : s.followsSteps = false) (hp : s.tb.state = .stepPending) :
    s.stepAcceptAct 1 = ok (s.acceptStep (-s.tb.pendingOff)) := by
  unfold State.stepAcceptAct
  rw [if_neg (by decide), hf, if_neg Bool.false_ne_true, if_neg (by simp [hp])]

theorem State.followsSteps_of_alone (h : s.ty.state ≠ .member) : s.followsSteps = false := by simp [State.followsSteps, h]

theorem State.followsSteps_of_gate (h : s.os.gate = true) : s.followsSteps = false := by simp [State.followsSteps, h]

theorem Moves.followsSteps (h : Moves [] s t) : t.followsSteps = s.followsSteps := by
  have hos : t.os = s.os := h .os (by decide)
  have hty : t.ty = { s.ty with counter := t.ty.counter, cmdsDue := t.ty.cmdsDue, longDue := t.ty.longDue } := h .ty (by decide)
  rw [State.followsSteps, State.followsSteps, hos, hty]

/-! ### Steps that the host asks for (R421, R425) -/

theorem ofWord_toWord {o : Int} (hl : -(2 ^ 63) ≤ o) (hh : o < 2 ^ 63) : ofWord 64 (toWord 64 o) = o := by
  unfold ofWord toWord
  dsimp only
  split <;> omega

theorem State.timeStepAct_of_small {o : Int} (hl : -(2 ^ 63) ≤ o) (hh : o < 2 ^ 63) (hf : s.tb.state ≠ .free)
    (hs : o.natAbs < s.cfgGet 0x3082 1) : s.timeStepAct o = ok (s.slew o s.syncInterval) := by
  unfold State.timeStepAct
  dsimp only
  rw [ofWord_toWord hl hh, if_neg (by simp [hf]), if_pos hs]

theorem State.timeStepAct_of_large {o : Int} (hl : -(2 ^ 63) ≤ o) (hh : o < 2 ^ 63) (hf : s.tb.state ≠ .free)
    (hs : s.cfgGet 0x3082 1 ≤ o.natAbs) : s.timeStepAct o = ok (s.refuseOffset o false) := by
  unfold State.timeStepAct
  dsimp only
  rw [ofWord_toWord hl hh, if_neg (by simp [hf]), if_neg (not_lt.2 hs)]

theorem State.timeStepAct_status (o : Int) : (s.timeStepAct o).2 = (0, []) := by
  unfold State.timeStepAct
  dsimp only
  split
  · rfl
  · split <;> rfl

/-- A servo update moves the increment alone (R422). -/
theorem State.servo_tb (e delta : Rat) : ∃ y i, (s.servo e delta).tb = { s.tb with yf := y, incr := i } := by
  have h : Moves [.fm] _ (s.servo e delta) := Moves.self.cond (by decide) _ _ _
  exact ⟨_, _, h .tb (by decide)⟩

/-- A slewed offset steps nothing (R422, R423). -/
theorem State.slew_tb (e : Int) (delta : Rat) : ∃ y i k w l, (s.slew e delta).tb = { s.tb with
    pendingOff := 0, pendingCount := 0, firstRefused := 0, lockRun := k, firstDone := true, state := l, wasLocked := w
    yf := y, incr := i } := by
  unfold State.slew
  extract_lets run t0
  have ht : ∃ k w l, t0.tb = { s.tb with
      pendingOff := 0, pendingCount := 0, firstRefused := 0, lockRun := k, firstDone := true, state := l, wasLocked := w } :=
    ⟨_, _, _, rfl⟩
  obtain ⟨k, w, l, ht⟩ := ht
  split
  · obtain ⟨y, i, h⟩ := t0.servo_tb e delta
    exact ⟨y, i, k, w, l, by rw [h, ht]⟩
  · exact ⟨_, _, k, w, l, by rw [ht]⟩

/-- A refused offset is noted and steps nothing (R423, R424). -/
def State.refused (s : State) (e : Int) (gap : Bool) : State :=
  let on := !gap && s.tb.pendingCount != 0 && decide ((s.tb.firstRefused < 0) = (e < 0)) &&
    decide ((e - s.tb.firstRefused).natAbs ≤ (s.cfgGet 0x3082 1 : Int).toNat)
  s.modTb fun t => { t with
    state := .stepPending, pendingOff := e, pendingCount := if on then min 16 (t.pendingCount + 1) else 1
    firstRefused := if on then s.tb.firstRefused else e, lockRun := 0, stepsRefused := t.stepsRefused + 1 }

theorem State.refused_count {e : Int} {gap : Bool} : 1 ≤ (s.refused e gap).tb.pendingCount := by
  unfold State.refused
  dsimp only
  rw [State.modTb_tb]
  dsimp only
  split <;> omega

theorem State.refuseOffset_of_manual {e : Int} {gap : Bool} (h : s.cfgGet 0x3082 2 ≠ 1) :
    s.refuseOffset e gap = (s.refused e gap).raiseCond 0x1002 := by
  unfold State.refuseOffset
  extract_lets thr f on t0
  exact if_neg (by simp [h])

/-! ### The increment (R409, R414) -/

theorem State.incrementAct_of_owner {v : Nat} (ho : s.cfgGet 0x3084 0 = 1 ∨ s.cfgGet 0x3084 0 = 2)
    (hv : incrementOk (v % 2 ^ 64) = true) : s.incrementAct v = ok (s.modTb fun b => { b with incr := BitVec.ofNat 64 v }) := by
  unfold State.incrementAct
  dsimp only
  rw [if_neg (by rcases ho with h | h <;> simp [h]), if_neg (by rw [hv]; exact Bool.false_ne_true)]

theorem execIncrementHi_of_owner {w : Nat} (hc : s.coreUp = true) (ho : s.cfgGet 0x3084 0 = 1 ∨ s.cfgGet 0x3084 0 = 2)
    (hv : incrementOk (w % 2 ^ 32 * 2 ^ 32 + s.tb.incLo) = true) :
    execIncrementHi w s = .next (s.modTb fun t =>
      { t with incr := BitVec.ofNat 64 (w % 2 ^ 32 * 2 ^ 32 + s.tb.incLo), incRefused := false }) := by
  have hown : (s.cfgGet 0x3084 0 == 1 || s.cfgGet 0x3084 0 == 2) = true := by
    rcases ho with h | h <;> simp [h]
  refine next_of_eq ?_
  rw [if_neg (by simp [hc])]
  dsimp only
  rw [hown, hv, Bool.and_true, if_pos rfl]

theorem execIncrementHi_of_firmware (hc : s.coreUp = true) (ho : s.cfgGet 0x3084 0 = 0) (w : Nat) :
    execIncrementHi w s = .next (s.modTb fun t => { t with incRefused := true }) := by
  refine next_of_eq ?_
  rw [if_neg (by simp [hc])]
  dsimp only
  rw [ho]
  exact if_neg Bool.false_ne_true

/-- Settles O36. -/
theorem timeStepCommands : Obligations.TimeStepCommands := by
  unfold Obligations.TimeStepCommands
  refine ⟨fun s r x h hp => ?_, fun s r x n hp ha he hn hm => ?_, fun s r x hp ha hg he => ?_, fun s d h => ?_,
    fun s r x o h hl hh => ?_, fun s r x o hl hh hf hs => ?_, fun s r x o hl hh hf hs hc => ?_, fun s r x v h ho hv => ?_,
    fun s r x v ho hv => ?_, fun s w v hc ho he hv => ?_, fun s w hc ho => ?_⟩
  · refine exists_next rfl (State.liveReq_waits false _ _ (by decide) h fun s1 hm => ?_)
    have hf := hm.followsSteps
    have htb : s1.tb = s.tb := hm .tb (by decide)
    cases hfs : s.followsSteps with
    | true => rw [State.stepAcceptAct_of_following (hf.trans hfs)]; rfl
    | false =>
      rw [State.stepAcceptAct_of_pending (hf.trans hfs) (by rw [htb]; exact hp.resolve_left (by simp [hfs]))]
      rfl
  · have hst := State.stepped_of_range (s := s) (d := -s.tb.pendingOff) hn hm
    obtain ⟨htb, hseam, hcl, hmv⟩ := State.applyStep_effects hst
    refine ⟨_, State.stepAcceptAct_of_pending (State.followsSteps_of_alone ha) hp, ?_⟩
    rw [State.acceptStep_of_alone (fun h => he (by omega)) ha, htb]
    refine ⟨?_, rfl, rfl, rfl, rfl, rfl, ?_, hseam, hcl, hmv.mono (by decide)⟩
    · have hback : -s.tb.pendingOff < 0 ↔ 0 < s.tb.pendingOff := by omega
      rw [if_congr hback rfl rfl]
      rfl
    · exact if_neg (by simp [hp])
  · refine ⟨_, State.stepAcceptAct_of_pending (State.followsSteps_of_gate hg) hp, ?_⟩
    rw [State.acceptStep_of_member (fun h => he (by omega)) ha]
    exact ⟨rfl, rfl, ((Alters.refl _ _).modTy (by decide) _).modTb (by decide) _⟩
  · unfold State.agreedStep
    rw [h]
  · refine exists_next rfl (State.liveReq_waits false _ _ (Nat.le_of_ble_eq_true rfl) h fun s1 hm => ?_)
    rw [State.timeStepAct_status]
  · obtain ⟨y, i, k, w, l, htb⟩ := s.slew_tb o s.syncInterval
    refine ⟨_, State.timeStepAct_of_small hl hh hf hs, ?_⟩
    rw [htb]
    exact ⟨rfl, rfl, rfl, rfl, rfl, Moves.self.slew⟩
  · have hal : Alters [.tb] s (s.refused o false) := State.modTb_alters s _
    have hm : Moves [.fm] (s.refused o false) ((s.refused o false).raiseCond 0x1002) := Moves.self.raiseCond (by decide) _ _
    refine ⟨_, State.timeStepAct_of_large hl hh hf hs, ?_⟩
    rw [State.refuseOffset_of_manual hc, hm .tb (by decide), State.raiseCond_fm]
    refine ⟨rfl, rfl, rfl, rfl, ?_, rfl, ?_, (hal.moves.mono (by decide)).trans (hm.mono (by decide))⟩
    · exact State.refused_count
    · rfl
  · refine exists_next rfl (State.liveReq_waits true _ _ (Nat.le_of_ble_eq_true rfl) h fun s1 hm => ?_)
    rw [State.incrementAct_of_owner (by rwa [hm.cfgGet]) hv]
    rfl
  · exact ⟨_, State.incrementAct_of_owner ho hv, rfl, State.modTb_alters s _⟩
  · exact exists_next (execIncrementHi_of_owner hc ho (he ▸ hv)) ⟨by rw [he]; rfl, State.modTb_alters s _⟩
  · exact exists_next (execIncrementHi_of_firmware hc ho w) ⟨rfl, State.modTb_alters s _⟩

end
end Sys2Proof.Machine
end

section
/-! The host's window of plant time and the stamp queues (R414, R415, R429). -/

namespace Sys2Proof.Machine

-- One theorem after another: each thread of the checker takes 256 MB of stack.
set_option Elab.async false

section
variable {s t u : State}

/-- A host read returns its word over what its own effect left. -/
theorem Alters.hostWord (h : Alters [.tb, .sy] s t) (w : Nat) : Alters [.tb, .sy] s (t.hostWord w) :=
  h.modSy (by decide) _

theorem State.modTb_hostWord_alters (s : State) (f : Timebase → Timebase) (w : Nat) :
    Alters [.tb, .sy] s ((s.modTb f).hostWord w) :=
  ((Alters.refl _ _).modTb (by decide) f).hostWord w

/-- The word of a field of the snapshot, and the live one without a snapshot. -/
theorem State.shadowWord_sy {o : Option Nat} {d n : Nat} (f : Timebase → Timebase) (h : o.getD d = n) :
    ((s.modTb f).hostWord (o.getD d)).sy = { s.sy with miso := BitVec.ofNat 32 n } := by
  rw [h]
  rfl

theorem execQentry_of_queued {q : TxStamp} {rest : List TxStamp} (hc : s.coreUp = true) (ho : s.cfgGet 0x3084 0 = 2)
    (hq : s.tb.tx1 = q :: rest) :
    execQentry 1 s = .next ((s.modTb fun b => { b with tx1 := rest, qstamp1 := q.stamp }).hostWord
      (2 ^ 31 + q.port % 4 * 65536 + q.ident)) := by
  unfold execQentry
  rw [if_neg (by simp [hc]), if_neg (by simp [ho]), if_pos (by decide), hq]
  rfl

theorem execQentry_of_empty (hc : s.coreUp = true) (ho : s.cfgGet 0x3084 0 = 2) (hq : s.tb.tx2 = []) :
    execQentry 2 s = .next (s.hostWord 0) := by
  unfold execQentry
  rw [if_neg (by simp [hc]), if_neg (by simp [ho]), if_neg (by decide), hq]

/-- Settles O37, a read of the window and of the queues at a time. -/
theorem timeWindowCommands : Obligations.TimeWindowCommands := by
  unfold Obligations.TimeWindowCommands
  refine ⟨fun s h => ?_, fun s n h hn => ?_, fun s h hn => ?_, fun s n h hn => ?_, fun s q rest h ho hq => ?_,
    fun s h ho hq => ?_, fun s w h ho hw => ?_⟩
  · exact exists_next (next_of_eq (if_neg (by simp [h]))) ⟨rfl, rfl, State.modTb_hostWord_alters _ _ _⟩
  · exact exists_next (next_of_eq (if_neg (by simp [h]))) ⟨State.shadowWord_sy _ (by rw [hn]; rfl), rfl, State.modTb_hostWord_alters _ _ _⟩
  · exact exists_next (next_of_eq (if_neg (by simp [h]))) ⟨State.shadowWord_sy _ (by rw [hn]; rfl), State.modTb_hostWord_alters _ _ _⟩
  · exact exists_next (next_of_eq (if_neg (by simp [h]))) ⟨State.shadowWord_sy _ (by rw [hn]; rfl), rfl, State.modTb_hostWord_alters _ _ _⟩
  · exact exists_next (execQentry_of_queued h ho hq) ⟨rfl, rfl, State.modTb_hostWord_alters _ _ _⟩
  · exact exists_next (execQentry_of_empty h ho hq) ⟨rfl, State.modSy_alters _ _⟩
  · exact exists_next (next_of_eq (if_neg (by simp [h, ho, hw]))) ⟨rfl, State.modTb_alters _ _⟩

end

end Sys2Proof.Machine
end

section
/-! The mailbox and host window writes (R463 to R465). -/

namespace Sys2Proof.Machine

-- One theorem after another: each thread of the checker takes 256 MB of stack.
set_option Elab.async false

section
variable {s t u : State} {n : Nat}

/-! ### Bits -/

theorem bit_setBit_false (v n k : Nat) : bit (setBit v n false) k = (bit v k && decide (k ≠ n)) := by
  unfold setBit
  cases hset : bit v n with
  | false =>
    by_cases hk : k = n
    · simp [hk, hset]
    · simp [hk]
  | true =>
    have hv : (v - 2 ^ n).testBit n = false ∧ 2 ^ n ≤ v := by
      have hodd : v / 2 ^ n % 2 = 1 := by simpa [bit] using hset
      have hle : 2 ^ n ≤ v := Nat.le_of_not_lt fun h => by simp [Nat.div_eq_of_lt h] at hodd
      refine ⟨?_, hle⟩
      have hdiv : (v - 2 ^ n) / 2 ^ n = v / 2 ^ n - 1 := by simpa using Nat.sub_mul_div v (2 ^ n) 1
      simp only [Nat.testBit_eq_decide_div_mod_eq, hdiv, decide_eq_false_iff_not]
      omega
    have hadd := testBit_add_two_pow hv.1 k
    rw [Nat.sub_add_cancel hv.2] at hadd
    by_cases hk : k = n
    · simp [bit_eq_testBit, hk, hv.1]
    · simp [bit_eq_testBit, hk, hadd]

theorem bit_foldl_setBit_false (bits : Nat) (l : List Nat) (v k : Nat) :
    bit (l.foldl (fun v n => if bit bits n then setBit v n false else v) v) k =
      (bit v k && !(decide (k ∈ l) && bit bits k)) := by
  induction l generalizing v with
  | nil => simp
  | cons n l ih =>
    rw [List.foldl_cons, ih]
    by_cases hk : k = n
    · subst hk
      cases bit bits k <;> simp [bit_setBit_false]
    · cases hb : bit bits n <;> simp [bit_setBit_false, hk]

theorem bit_clearBits (v bits : Nat) (h : n < 16) : bit (clearBits v bits) n = (bit v n && !bit bits n) := by
  unfold clearBits
  rw [bit_foldl_setBit_false]
  simp [h]

theorem bit_two_pow (n k : Nat) : bit (2 ^ n) k = decide (n = k) := by rw [bit_eq_testBit, Nat.testBit_two_pow]

/-! ### Posting one slot -/

theorem State.mbPost_one (s : State) (h : n < 16) : s.mbPost (2 ^ n) = s.postSlot n := by
  have hone : (List.range 16).filter (fun k => bit (2 ^ n) k) = [n] := by
    simp only [bit_two_pow]
    revert n
    decide
  unfold State.mbPost
  rw [← List.foldl_filter, hone]
  rfl

theorem execMbPost_one (hc : s.coreUp = true) (h : n < 16) (e : s.postSlot n = t) : execMbPost (2 ^ n) s = .next t :=
  next_of_eq ((if_pos hc).trans ((s.mbPost_one h).trans e))

/-- The mailbox with one slot taken by the module. -/
def Syben.take (y : Syben) (n : Nat) (receive : Bool) : Syben :=
  { y with slots := tabMod {} n (fun x => { x with module := true, receive }) y.slots }

theorem Syben.take_same (y : Syben) (n : Nat) (b : Bool) :
    tabGet ({} : Slot) n (y.take n b).slots = { tabGet ({} : Slot) n y.slots with module := true, receive := b } :=
  tabGet_tabPut_ne _ _ _ _ fun h => Bool.noConfusion (congrArg Slot.module h)

theorem Syben.take_other (y : Syben) (n : Nat) (b : Bool) {k : Nat} (h : k ≠ n) :
    tabGet ({} : Slot) k (y.take n b).slots = tabGet ({} : Slot) k y.slots := 
  tabGet_tabMod_other ({} : Slot) k n (fun x => { x with module := true, receive := b }) _ h

theorem State.postSlot_of_host (h : (tabGet ({} : Slot) n s.sy.slots).module = false) (b : Bool)
    (hb : ((tabGet ({} : Slot) n s.sy.slots).bytes.getD 0 0 == 0) = b) :
    s.postSlot n = if b then ((s.modSy fun y => y.take n b).modSy fun y => { y with receive := y.receive ++ [n] }).flushHeld 16
      else (s.modSy fun y => y.take n b).slotHeader n := by
  unfold State.postSlot
  dsimp only
  rw [if_neg (by simp [h]), hb]
  rfl

theorem State.flushHeld_of_none (h : s.sy.heldEvents = []) (k : Nat) : s.flushHeld k = s := by
  cases k with
  | zero => rfl
  | succ k => rw [State.flushHeld, h]

theorem State.postSlot_of_taken (h : (tabGet ({} : Slot) n s.sy.slots).module = true) : s.postSlot n = s.mailboxError :=
  if_pos h

theorem State.slotHeader_of_request {b : Bytes} (e : b = padBytes 2048 (tabGet ({} : Slot) n s.sy.slots).bytes)
    (hlen : leNat ((b.drop 4).take 2) ≤ 2016) (hop : b.getD 2 0 ∈ requestOpcodes) :
    s.slotHeader n = s.modSy fun y => { y with queue := y.queue ++ [n] } := by
  unfold State.slotHeader
  dsimp only
  rw [← e, if_neg (Nat.not_lt.2 hlen), if_pos (List.contains_iff_mem.2 hop)]

/-! ### A reset of the mailbox -/

/-- A slot that the module owns goes back with its content. -/
def State.returnOwned (s : State) (n : Nat) : State :=
  if (tabGet ({} : Slot) n s.sy.slots).module then s.returnSlot n (tabGet ({} : Slot) n s.sy.slots).bytes else s

theorem State.returnOwned_alters (s : State) (n : Nat) : Alters [.sy] s (s.returnOwned n) := by
  unfold State.returnOwned
  split
  · exact State.modSy_alters _ _
  · exact .refl _ _

theorem State.returnOwned_slot_other {k : Nat} (h : k ≠ n) :
    tabGet ({} : Slot) n (s.returnOwned k).sy.slots = tabGet ({} : Slot) n s.sy.slots := by
  unfold State.returnOwned
  split
  · exact tabGet_tabMod_other ({} : Slot) n k (fun x => { x with
      module := false, receive := false, bytes := (tabGet ({} : Slot) k s.sy.slots).bytes }) _ (Ne.symm h)
  · rfl

theorem State.returnOwned_slot (h : (tabGet ({} : Slot) n s.sy.slots).module = true)
    (hb : (tabGet ({} : Slot) n s.sy.slots).bytes ≠ []) :
    tabGet ({} : Slot) n (s.returnOwned n).sy.slots =
      { tabGet ({} : Slot) n s.sy.slots with module := false, receive := false } := by
  unfold State.returnOwned
  rw [if_pos h]
  exact tabGet_tabPut_ne ({} : Slot) _ _ _ fun he => hb (congrArg Slot.bytes he)

theorem State.returnOwned_done (k : Nat) (h : bit s.sy.done n = true ∨ (tabGet ({} : Slot) k s.sy.slots).module = true ∧ n = k) :
    bit (s.returnOwned k).sy.done n = true := by
  unfold State.returnOwned
  split
  · exact (bit_setBit_true _ _ _).2 (h.symm.imp And.right fun h => h)
  next hm => exact h.resolve_right fun hk => hm hk.1

theorem State.returnAll_alters (s : State) (l : List Nat) : Alters [.sy] s (l.foldl State.returnOwned s) :=
  List.foldlRecOn l (motive := fun t => Alters [.sy] s t) _ (.refl _ _) fun u hu k _ => hu.trans (u.returnOwned_alters k)

theorem State.returnAll_slot (h : (tabGet ({} : Slot) n s.sy.slots).module = true)
    (hb : (tabGet ({} : Slot) n s.sy.slots).bytes ≠ []) {l : List Nat} (hl : l.Nodup) (hn : n ∈ l) :
    tabGet ({} : Slot) n (l.foldl State.returnOwned s).sy.slots =
      { tabGet ({} : Slot) n s.sy.slots with module := false, receive := false } := by
  obtain ⟨u, -, hu, he⟩ := foldl_entry (fun t n => tabGet ({} : Slot) n t.sy.slots) (fun _ => True) (fun _ _ _ => trivial)
    (fun _ _ _ _ hk => State.returnOwned_slot_other hk) hl trivial hn (s := s)
  rw [he, State.returnOwned_slot (by rw [hu]; exact h) (by rw [hu]; exact hb), hu]

theorem State.returnAll_done (h : (tabGet ({} : Slot) n s.sy.slots).module = true) {l : List Nat} (hn : n ∈ l) :
    bit (l.foldl State.returnOwned s).sy.done n = true := by
  induction l generalizing s with
  | nil => cases hn
  | cons k l ih =>
    have keep : ∀ (l : List Nat) (u : State), bit u.sy.done n = true → bit (l.foldl State.returnOwned u).sy.done n = true :=
      fun l u hu => List.foldlRecOn l (motive := fun t : State => bit t.sy.done n = true) _ hu
        fun v hv k _ => State.returnOwned_done k (.inl hv)
    by_cases hk : n = k
    · exact keep l _ (State.returnOwned_done k (.inr ⟨hk ▸ h, hk⟩))
    · exact ih (by rw [State.returnOwned_slot_other (Ne.symm hk)]; exact h) (List.mem_of_ne_of_mem hk hn)

/-- The mailbox once all slots are back: nothing waits and no answer has a slot. -/
def Syben.emptied (y : Syben) : Syben := { y with
  queue := [], receive := [], live := y.live.map fun l => { l with slot := none }
  commits := y.commits.map fun c => { c with slot := none } }

/-- A reset of the mailbox over the slots that are back. -/
def State.slotsForgotten (s : State) : State :=
  ((s.modSy Syben.emptied).modLd fun l => { l with slot := none }).modTy fun y =>
    { y with passed := y.passed.map fun p => (p.1, none) }

theorem execMbReset_of_key (h : s.coreUp = true) :
    execMbReset 0xA55A s = .next ((List.range 16).foldl State.returnOwned s).slotsForgotten :=
  next_of_eq (if_neg (by simp [h]))

/-- A reset over a state in which all slots are back. -/
theorem State.slotsForgotten_effects (h : Alters [.sy] s u) :
    u.slotsForgotten.sy.queue = [] ∧ u.slotsForgotten.sy.receive = [] ∧ u.slotsForgotten.sy.slots = u.sy.slots ∧
      u.slotsForgotten.sy.done = u.sy.done ∧ (∀ x ∈ u.slotsForgotten.sy.live, x.slot = none) ∧
      (∀ x ∈ u.slotsForgotten.sy.commits, x.slot = none) ∧ u.slotsForgotten.ld = { s.ld with slot := none } ∧
      u.slotsForgotten.ty = { s.ty with passed := s.ty.passed.map fun p => (p.1, none) } := by
  refine ⟨rfl, rfl, rfl, rfl, fun x hx => ?_, fun x hx => ?_, ?_, ?_⟩
  · obtain ⟨y, -, rfl⟩ := List.mem_map.1 hx
    rfl
  · obtain ⟨y, -, rfl⟩ := List.mem_map.1 hx
    rfl
  · exact congrArg (fun l : Loader => { l with slot := none }) (h .ld (by decide))
  · have hty : u.ty = s.ty := h .ty (by decide)
    rw [← hty]
    rfl

theorem State.slotsForgotten_alters (s : State) : Alters [.sy, .ld, .ty] s s.slotsForgotten :=
  (((Alters.refl _ _).modSy (by decide) _).modLd (by decide) _).modTy (by decide) _

/-! ### Window writes -/

theorem writeBytes_ne_nil (b : Bytes) (off w : Nat) : writeBytes b off (leBytes 4 w) ≠ [] := by
  simp [writeBytes, leBytes]

theorem State.windowWrite_slot {k : Nat} (w : Nat) (hn : n < 16) (hk : k < 512) :
    s.windowWrite (0x8000 + 0x800 * n + 4 * k) w = s.slotWrite n (4 * k) w := by
  have hoff : (0x8000 + 0x800 * n + 4 * k) / 4 * 4 = 0x8000 + 0x800 * n + 4 * k := by omega
  unfold State.windowWrite
  dsimp only
  rw [hoff]
  have hslot : (0x8000 + 0x800 * n + 4 * k - 0x8000) / 0x800 = n ∧ (0x8000 + 0x800 * n + 4 * k - 0x8000) % 0x800 = 4 * k := by
    omega
  rw [hslot.1, hslot.2, if_neg, if_neg, if_neg, if_neg, if_neg, if_pos]
  · simp
    omega
  all_goals
    simp only [beq_iff_eq]
    omega

/-- Settles O38, command by command. -/
theorem mailboxCommands : Obligations.MailboxCommands := by
  unfold Obligations.MailboxCommands
  refine ⟨fun s n hc hn hm hb hh => ?_, fun s n b hc hn hm hb he hlen hop => ?_, fun s n hc hn hm => ?_, fun s bits hc => ?_,
    fun s hc => ?_, fun s hc => ?_, fun s n k w hc hn hk hm => ?_⟩
  · have he := (s.postSlot_of_host hm true (by rw [hb]; rfl)).trans ((if_pos rfl).trans (State.flushHeld_of_none (by exact hh) 16))
    exact exists_next (execMbPost_one hc hn he) ⟨s.sy.take_same n true, fun k hk => s.sy.take_other n true hk, rfl,
      ((Alters.refl _ _).modSy (by decide) _).modSy (by decide) _⟩
  · have hsame := s.sy.take_same n false
    have hq : (s.modSy fun y => y.take n false).slotHeader n = _ :=
      State.slotHeader_of_request (b := b) (by rw [he]; exact congrArg _ (congrArg Slot.bytes hsame).symm) hlen hop
    have he := (s.postSlot_of_host hm false (by simpa using hb)).trans ((if_neg (by simp)).trans hq)
    exact exists_next (execMbPost_one hc hn he) ⟨rfl, hsame, fun k hk => s.sy.take_other n false hk,
      ((Alters.refl _ _).modSy (by decide) _).modSy (by decide) _⟩
  · have hu := State.modSy_alters s fun y => { y with mailboxErrors := y.mailboxErrors + 1 }
    have hsy := (State.raiseEvent_moves (s.modSy fun y => { y with mailboxErrors := y.mailboxErrors + 1 }) 0x0109 0xFFFF)
      .sy (by decide)
    exact exists_next (execMbPost_one hc hn (State.postSlot_of_taken hm)) ⟨congrArg Syben.mailboxErrors hsy,
      (State.raiseEvent_fm _ _ _).trans (hu.moves.eventFm (by decide) _ _), (hu.moves.mono (by decide)).raiseEvent (by decide) _ _⟩
  · exact exists_next (next_of_pos hc) ⟨fun n hn => bit_clearBits _ _ hn, rfl, State.modSy_alters _ _⟩
  · have hu := s.returnAll_alters (List.range 16)
    have hslot := fun n (hn : n < 16) => State.returnAll_slot (s := s) (n := n) (l := List.range 16)
    have hdone := fun n (hn : n < 16) => State.returnAll_done (s := s) (n := n) (l := List.range 16)
    have he := execMbReset_of_key hc
    generalize (List.range 16).foldl State.returnOwned s = u at hu hslot hdone he
    obtain ⟨hq, hr, hs, hd, hl, hc, hld, hty⟩ := State.slotsForgotten_effects hu
    refine exists_next he ⟨hq, hr, fun n hn hm hb => ⟨?_, ?_⟩, hl, hc, hld, hty,
      (hu.mono (by decide)).trans (State.slotsForgotten_alters _)⟩
    · rw [hs, hslot n hn hm hb List.nodup_range (List.mem_range.2 hn)]
    · rw [hd, hdone n hn hm (List.mem_range.2 hn)]
  · exact exists_next (next_of_pos (by simp [hc]; decide)) ⟨rfl, State.modSy_alters _ _⟩
  · have he : s.slotWrite n (4 * k) w = _ := if_neg (by simp [hm])
    refine exists_next (next_of_eq ((if_pos hc).trans ((State.windowWrite_slot w hn hk).trans he))) ⟨?_, fun j hj => ?_, rfl,
      State.modSy_alters _ _⟩
    · exact congrArg Slot.bytes (tabGet_tabPut_ne ({} : Slot) _ _ _ fun h => writeBytes_ne_nil _ _ _ (congrArg Slot.bytes h))
    · exact tabGet_tabMod_other ({} : Slot) j n (fun x => { x with bytes := writeBytes x.bytes (4 * k) (leBytes 4 w) }) _ hj

end

end Sys2Proof.Machine
end

section
/-! Check engines (R495 to R499). -/

namespace Sys2Proof.Machine

-- One theorem after another: each thread of the checker takes 256 MB of stack.
set_option Elab.async false

section
variable {s t u : State} {k w : Nat} {e v : Engine} {f : Engine → Engine}

/-- A claimed engine is in its owner's hands after the change, and no other engine changes. -/
theorem State.modEngine_effects (he : e = tabGet {} k s.ck) (hv : f e = v) (ho : v.owner = 1) :
    tabGet {} k (s.modEngine k f).ck = v ∧
      (∀ j, j ≠ k → tabGet ({} : Engine) j (s.modEngine k f).ck = tabGet {} j s.ck) ∧ Alters [.ck] s (s.modEngine k f) := by
  subst he hv
  exact ⟨tabGet_tabPut_ne _ _ _ _ fun h => Nat.zero_ne_one ((congrArg Engine.owner h).symm.trans ho),
    fun j hj => tabGet_tabMod_other ({} : Engine) _ _ f _ hj, (Alters.refl _ _).modCk (by decide) _⟩

/-- The read of an engine's register, with what it leaves in the engine. -/
theorem State.readEngine_effects (w : Nat) (he : e = tabGet {} k s.ck) (hv : f e = v) (ho : v.owner = 1) :
    tabGet {} k ((s.modEngine k f).hostWord w).ck = v ∧
      (∀ j, j ≠ k → tabGet ({} : Engine) j ((s.modEngine k f).hostWord w).ck = tabGet {} j s.ck) ∧
      Alters [.ck, .sy] s ((s.modEngine k f).hostWord w) := by
  obtain ⟨hsame, hother, hm⟩ := State.modEngine_effects he hv ho
  exact ⟨hsame, hother, (hm.mono (by decide)).modSy (by decide) _⟩

theorem State.hostEngine_owner (h : s.hostEngine k = true) (he : e = tabGet {} k s.ck) : s.coreUp = true ∧ e.owner = 1 := by
  subst he
  simp only [State.hostEngine, Bool.and_eq_true, beq_iff_eq] at h
  exact ⟨h.1.1, h.2⟩

theorem State.feed_of_width (bs : Bytes) (he : e = tabGet {} k s.ck) (h3 : 3 ≤ e.width) (h64 : e.width ≤ 64) :
    s.feed k bs = s.modEngine k fun e => { e with
      running := crcRun e.width (e.cut e.poly) (bit e.ctrl 8) (e.cut e.running) bs } := by
  unfold State.feed
  dsimp only
  rw [← he, if_pos (by simp [h3, h64])]

theorem bit_add_two_pow_31 (w : Nat) : bit (w % 2 ^ 31 + 2 ^ 31) 31 = true := by
  rw [bit, beq_iff_eq]
  omega

/-- A register's low word (`off` 0x20, 0x28) read from a claimed engine. -/
theorem execCeLowWordRead_of_claimed (off : Nat) (h : s.hostEngine k = true) (he : e = tabGet {} k s.ck) :
    execCeLowWordRead k off s = .next (if off == 0x20 then
      (s.modEngine k fun e => { e with shRun := some (e.cut e.running / 2 ^ 32) }).hostWord (e.cut e.running % 2 ^ 32)
    else (s.modEngine k fun e => { e with shRes := some (e.resultNow / 2 ^ 32) }).hostWord (e.resultNow % 2 ^ 32)) := by
  unfold execCeLowWordRead
  dsimp only
  rw [← he, if_neg (c := (!s.coreUp) = true) (by simp [(State.hostEngine_owner h he).1]),
    if_neg (c := (!s.hostEngine k) = true) (by simp [h])]

/-- A register's high word (`off` 0x24, 0x2C) read from a claimed engine. -/
theorem execCeHighWordRead_of_claimed (off : Nat) (h : s.hostEngine k = true) (he : e = tabGet {} k s.ck) :
    execCeHighWordRead k off s = .next (if off == 0x24 then
      (s.modEngine k fun e => { e with shRun := none }).hostWord (e.shRun.getD (e.cut e.running / 2 ^ 32))
    else (s.modEngine k fun e => { e with shRes := none }).hostWord (e.shRes.getD (e.resultNow / 2 ^ 32))) := by
  unfold execCeHighWordRead
  dsimp only
  rw [← he, if_neg (c := (!s.coreUp) = true) (by simp [(State.hostEngine_owner h he).1]),
    if_neg (c := (!s.hostEngine k) = true) (by simp [h])]

theorem State.engineClaimAct_of_free {x : Session} (hk : k = 6 ∨ k = 7) (hx : x.source = .spi)
    (ho : (tabGet ({} : Engine) k s.ck).owner ≠ 1) :
    s.engineClaimAct x k = ok (s.modEngine k fun _ => { owner := 1, claimant := x.num }) := by
  unfold State.engineClaimAct
  rw [if_neg (by rcases hk with rfl | rfl <;> decide), if_neg (by simp [hx]), if_neg (by simpa using ho)]

theorem State.engineReleaseAct_of_spi {x : Session} (hk : k = 6 ∨ k = 7) (hx : x.source = .spi) :
    s.engineReleaseAct x k = ok (s.modEngine k fun _ => {}) := by
  unfold State.engineReleaseAct
  rw [if_neg (by rcases hk with rfl | rfl <;> decide), if_neg (by simp [hx])]

theorem State.ceHigh_eq {off : Nat} (h : off ∈ [0x0C, 0x14, 0x1C, 0x24]) :
    s.ceHigh k off w = s.modEngine k fun e => { e with
      poly := if off = 0x0C then e.cut (w % 2 ^ 32 * 2 ^ 32 + e.lowPoly) else e.poly
      init := if off = 0x14 then e.cut (w % 2 ^ 32 * 2 ^ 32 + e.lowInit) else e.init
      xorout := if off = 0x1C then e.cut (w % 2 ^ 32 * 2 ^ 32 + e.lowXor) else e.xorout
      running := if off = 0x24 then e.cut (w % 2 ^ 32 * 2 ^ 32 + e.lowRun) else e.running } := by
  simp only [List.mem_cons, List.not_mem_nil, or_false] at h
  obtain rfl | rfl | rfl | rfl := h <;> simp [State.ceHigh]

/-- Settles O39, register by register. -/
theorem checkEngineCommands : Obligations.CheckEngineCommands := by
  unfold Obligations.CheckEngineCommands
  refine ⟨fun s k b e h he h3 h64 => ?_, fun s k w e h he h3 h64 => ?_, fun s k w e h he => ?_, fun s k off w e h he ho => ?_,
    fun s k e h he => ?_, fun s k e h he => ?_, fun s k v e h he hv => ?_, fun s k e h he hv => ?_,
    fun s k w e wide c h he hwide hc => ?_, fun s k w e h he => ?_, fun s r x k hk h hx ho => ?_, fun s r x k hk hx ho => ?_,
    fun s r x k hk h hx => ?_, fun s r x k hk hx => ?_⟩
  · exact exists_next (next_of_eq ((if_pos h).trans (State.feed_of_width _ he h3 h64)))
      (State.modEngine_effects he rfl (State.hostEngine_owner h he).2)
  · exact exists_next (next_of_eq ((if_pos h).trans (State.feed_of_width _ he h3 h64)))
      (State.modEngine_effects he rfl (State.hostEngine_owner h he).2)
  · have hmod : (w % 2 ^ 31 + 2 ^ 31) % 128 = w % 128 ∧ (w % 2 ^ 31 + 2 ^ 31) / 256 % 4 = w / 256 % 4 := by omega
    refine exists_next (next_of_pos h) (State.modEngine_effects rfl ?_ (by rw [he]; exact (State.hostEngine_owner h rfl).2))
    dsimp only
    rw [hmod.1, hmod.2, if_pos (bit_add_two_pow_31 w)]
    subst he
    rfl
  · exact exists_next (next_of_eq ((if_pos h).trans (State.ceHigh_eq ho)))
      (State.modEngine_effects he rfl (State.hostEngine_owner h he).2)
  · exact exists_next (execCeLowWordRead_of_claimed 0x20 h he)
      ⟨rfl, State.readEngine_effects _ he rfl (State.hostEngine_owner h he).2⟩
  · exact exists_next (execCeLowWordRead_of_claimed 0x28 h he)
      ⟨rfl, State.readEngine_effects _ he rfl (State.hostEngine_owner h he).2⟩
  · refine exists_next (execCeHighWordRead_of_claimed 0x24 h he) ⟨?_,
      State.readEngine_effects _ he rfl (State.hostEngine_owner h he).2⟩
    rw [hv]
    rfl
  · refine exists_next (execCeHighWordRead_of_claimed 0x2C h he) ⟨?_,
      State.readEngine_effects _ he ?_ (State.hostEngine_owner h he).2⟩
    · rw [hv]
      rfl
    · rw [← hv]
  · exact exists_next (next_of_pos h)
      (State.modEngine_effects he (by subst hwide hc; rfl) (State.hostEngine_owner h he).2)
  · have hmod : (w % 2 ^ 31 + 2 ^ 31) % 2 = w % 2 ∧ (w % 2 ^ 31 + 2 ^ 31) / 256 % 32 = w / 256 % 32 ∧
        (w % 2 ^ 31 + 2 ^ 31) / 2 ^ 16 % 16 = w / 2 ^ 16 % 16 := by omega
    refine exists_next (next_of_pos h) (State.modEngine_effects he ?_ (State.hostEngine_owner h he).2)
    dsimp only
    rw [hmod.1, hmod.2.1, hmod.2.2, if_pos (bit_add_two_pow_31 w)]
  · refine exists_next rfl (State.liveReq_waits true _ _ (by decide) h fun s1 hm => ?_)
    rw [State.engineClaimAct_of_free hk hx (by rwa [show s1.ck = s.ck from hm .ck (by decide)])]
    rfl
  · exact ⟨_, State.engineClaimAct_of_free hk hx ho, State.modEngine_effects rfl rfl rfl⟩
  · refine exists_next rfl (State.liveReq_waits true _ _ (by decide) h fun s1 hm => ?_)
    rw [State.engineReleaseAct_of_spi hk hx]
    rfl
  · exact ⟨_, State.engineReleaseAct_of_spi hk hx, rfl, (Alters.refl _ _).modCk (by decide) _⟩

end

end Sys2Proof.Machine
end

section
/-! HELLO, OPEN, PROOF and their expiries (R479 to R482, R485 to R488). -/

namespace Sys2Proof.Machine

-- One theorem after another: each thread of the checker takes 256 MB of stack.
set_option Elab.async false

section
variable {s t u : State} {r : Req}

/-! ### The sessions under message traffic -/

theorem State.numberMsg_sessions (s : State) (unit : Bool) : (s.numberMsg unit).2.sy.sessions = s.sy.sessions := by
  unfold State.numberMsg
  split <;> rfl

theorem State.toReceiveSlot_sessions {b : Bytes} (h : s.toReceiveSlot b = some t) : t.sy.sessions = s.sy.sessions := by
  unfold State.toReceiveSlot at h
  split at h
  · cases h
  · obtain rfl := Option.some.inj h
    rfl

theorem State.answerSlot_sessions (s : State) (p : Source) (b : Option Bytes) : (s.answerSlot p b).sy.sessions = s.sy.sessions := by
  unfold State.answerSlot
  split
  · split <;> rfl
  · rfl

theorem State.deliver_sessions (s : State) (r : Req) (m : Msg) : (s.deliver r m).sy.sessions = s.sy.sessions := by
  have h := s.answerSlot_sessions r.source (some m.bytes)
  unfold State.deliver
  generalize s.answerSlot r.source (some m.bytes) = u at h
  dsimp only
  split <;> exact h

theorem State.plainAnswer_sessions (s : State) (r : Req) (unit : Bool) (opcode status : Nat) (body : Bytes) :
    (s.plainAnswer r unit opcode status body).sy.sessions = s.sy.sessions :=
  (State.deliver_sessions _ _ _).trans (s.numberMsg_sessions unit)

theorem State.plainAnswer_opens (s : State) (r : Req) (unit : Bool) (opcode status : Nat) (body : Bytes) :
    (s.plainAnswer r unit opcode status body).sy.opens = s.sy.opens := by
  have h : Syben.traffic _ _ := (Moves.refl [] s).plainAnswer (r := r) (unit := unit) (opcode := opcode) (status := status)
    (body := body) .sy (by decide)
  unfold Syben.traffic at h
  rw [h]

theorem State.sendLong_sy (s : State) (c : LongCommand) : (s.sendLong c).sy = s.sy := by
  unfold State.sendLong
  split <;> rfl

theorem State.originate_sessions (s : State) (x : Session) (opcode : Nat) (b : Bytes) :
    (s.originate x opcode b).2.sy.sessions = s.sy.sessions := by
  refine Eq.trans ?_ (s.numberMsg_sessions false)
  unfold State.originate
  dsimp only
  split <;> rfl

theorem State.sendEvent_sessions (s : State) (q : LogRec) (x : Session) : (s.sendEvent q x).sy.sessions = s.sy.sessions := by
  have h := s.originate_sessions x 0x31 (logBytes q)
  unfold State.sendEvent
  dsimp only
  generalize s.originate x 0x31 (logBytes q) = p at h
  split
  · split
    · cases hb : p.2.toReceiveSlot p.1 with
      | none => exact h
      | some u => exact (State.toReceiveSlot_sessions hb).trans h
    · exact h
  · exact h

theorem State.raise_sessions (s : State) (event : Bool) (code item : Nat) :
    (s.raise event code item).sy.sessions = s.sy.sessions := by
  unfold State.raise
  extract_lets fresh u
  have hu : u.sy.sessions = s.sy.sessions := rfl
  clear_value u
  split
  · exact List.foldlRecOn _ (motive := fun v : State => v.sy.sessions = s.sy.sessions) _ hu
      fun v hv x _ => (v.sendEvent_sessions _ x).trans hv
  · exact hu

/-! ### Requests outside a session -/

theorem State.plainAnswer_answered (s : State) (r : Req) (unit : Bool) (opcode status : Nat) (body : Bytes) :
    Answered (s.plainAnswer r unit opcode status body) r opcode status body := by
  refine ⟨{ (s.formMsg r unit none opcode status body).1 with mac := some (zeroMac r.shortMac) }, rfl, rfl, rfl, rfl, rfl, ?_,
    fun h => State.deliver_last _ _ _ h⟩
  simp only [State.formMsg, State.respFlags]
  cases unit <;> cases r.shortMac <;> cases s.ty.sideB <;> simp [b2n]

theorem State.plainRequest_of_plain {unit : Bool} {opcode fixed : Nat} {payload : Bytes} {act : State → State}
    (h : Plain s r payload fixed) : s.plainRequest r unit opcode payload fixed act = act (s.arrived r) := by
  obtain ⟨hcore, hcp, hserves, hlen, hmac, hfixed, hres⟩ := h
  unfold State.plainRequest
  extract_lets v p
  have hv : v = s.arrived r := rfl
  rw [if_neg (by rw [hv, State.arrived_coreUp, State.arrived_rows]; simp [hcore, hcp]),
    if_neg (by rw [hv, State.arrived_serves]; simp [hserves]), if_neg (by simpa using hlen), if_neg (by simpa using hmac),
    if_neg (by simpa [hres] using hfixed), hv]

/-- The arrival of a datagram is counted at its port, and nothing else moves. -/
theorem State.arrived_cases (s : State) (r : Req) : s.arrived r = s ∨ s.arrived r = s.frameIn r.sfp := by
  unfold State.arrived
  split
  · exact .inr rfl
  · exact .inl rfl

/-- What the arrival leaves as it was, whatever is read of it. -/
theorem State.arrived_reads {α : Type} (f : State → α) (h : f (s.frameIn r.sfp) = f s) : f (s.arrived r) = f s := by
  rcases s.arrived_cases r with e | e <;> rw [e]
  exact h

theorem State.arrived_moves (s : State) (r : Req) : Moves [] s (s.arrived r) := (Moves.refl [] s).arrived

theorem State.arrived_sy : (s.arrived r).sy = s.sy := State.arrived_reads (·.sy) rfl

/-! ### OPEN -/

theorem padBytes_of_length {n : Nat} {b : Bytes} (h : b.length = n) : padBytes n b = b := by
  simp [padBytes, ← h]

theorem length_leBytes (n v : Nat) : (leBytes n v).length = n := by
  induction n generalizing v with
  | zero => rfl
  | succ n ih => rw [leBytes, List.length_cons, ih]

theorem State.openRefusal_of_granted {role client version : Nat} (hc0 : client ≠ 0) (hc1 : client ≠ 0xFFFF)
    (hv : 0x10 ≤ version) (hb : s.blocked (sourceKey r.source) = false) (h1 : 1 ≤ role) (h6 : role ≤ 6)
    (hk : (s.keySlot role).key ≠ []) (hf : s.contextFree role client = true)
    (hl : s.ty.state = .member → r.longOk = true) : s.openRefusal r role client version = none := by
  have hversion : ¬ version / 16 < 1 := by omega
  have hlong : ¬ (s.ty.state == .member && !r.longOk) = true := by
    simp only [Bool.and_eq_true, beq_iff_eq, Bool.not_eq_true', not_and, Bool.not_eq_false]
    exact hl
  unfold State.openRefusal
  rw [if_neg (by simp [hc0, hc1]), if_neg hversion, if_neg (by simp [hb]), if_neg (by simp [h1, h6]),
    if_neg (by simpa using hk), if_neg (by simp [hf]), if_neg hlong]

/-- A granted OPEN: the pending open joins the table under a fresh nonce, and the challenge is answered. -/
theorem State.openHere_of_granted {role options client version : Nat} {nc : Bytes} (hn : nc.length = 16)
    (hv : 0x10 ≤ version) (h : s.openRefusal r role client version = none) (o : PendingOpen)
    (ho : o = { nc, source := sourceKey r.source, role, client, events := bit options 0, version := 0x10,
                nm := leBytes 16 s.freeNat }) :
    s.openHere false r role options client version (nc.take 16) =
      ((s.takeFree.addOpen o).sendLong (.challenge false r role options client 0x10 nc (leBytes 16 s.freeNat))).plainAnswer r
        false 0x02 0x00 (padBytes 16 (s.keySlot role).salt ++ leBytes 4 100000 ++ leBytes 16 s.freeNat ++ [0x10, 0, 0, 0]) := by
  have hr : atHolder r false = r := rfl
  unfold State.openHere
  rw [hr, h, List.take_of_length_le (Nat.le_of_eq hn), Nat.min_eq_right hv]
  dsimp only [State.nonce, State.openBody]
  rw [padBytes_of_length (length_leBytes _ _), ho]
  rfl

theorem execOpenRequest_of_plain {role options client version : Nat} {nc : Bytes}
    (h : Plain s r ([role % 256, options % 256] ++ leBytes 2 client ++ [version % 256, r.reserved, 0, 0] ++ nc) 24)
    (hd : s.decides = true) : execOpenRequest r role options client version nc s =
      .next ((s.arrived r).openHere false r role options client version (nc.take 16)) :=
  next_of_eq ((State.plainRequest_of_plain h).trans (if_pos ((State.arrived_reads State.decides rfl).trans hd)))

/-! ### PROOF -/

theorem State.session_none_of_free {num : Nat} (h : s.freeSession = some num) : s.session num = none := by
  simpa using List.find?_some h

/-- The sessions with one more. -/
theorem State.session_added {x : Session} {n : Nat} (h : t.sy.sessions = s.sy.sessions ++ [x]) (hx : s.session x.num = none) :
    t.session n = if n = x.num then some x else s.session n := by
  unfold State.session at hx ⊢
  rw [h, List.find?_append]
  split
  next hn => rw [hn, hx]; simp
  next hn => simp [Ne.symm hn]

theorem State.openSession_of_new {o : PendingOpen} (num : Nat) (h : ∀ x ∈ s.sy.sessions, x.client ≠ o.client) :
    s.openSession o num r r.source = s.modSy fun y => { y with
      sessions := y.sessions ++ [sessionOf (s.keySlot o.role).key o num r r.source s.tb.now]
      opens := y.opens.filter (· != o) } := by
  have hnone : (s.sy.sessions.find? (·.client == o.client)) = none := by simpa using h
  unfold State.openSession
  dsimp only
  rw [hnone]

theorem State.numberFor_of_new {o : PendingOpen} {num : Nat} (h : ∀ x ∈ s.sy.sessions, x.client ≠ o.client)
    (hn : s.freeSession = some num) : s.numberFor o = num := by
  have hnone : (s.sy.sessions.find? (·.client == o.client)) = none := by simpa using h
  unfold State.numberFor
  dsimp only
  rw [hnone, hn]
  rfl

theorem State.proofHere_of_right {nc proof : Bytes} {o : PendingOpen} {num : Nat}
    (hb : s.blocked (sourceKey r.source) = false)
    (ho : (s.sy.opens.find? fun o => o.nc == nc && o.source == sourceKey r.source) = some o)
    (hp : proof = proofC (s.keySlot o.role).key o) (hf : s.contextFree o.role o.client = true)
    (hl : s.ty.state = .member → r.longOk = true) (hx : ∀ x ∈ s.sy.sessions, x.client ≠ o.client)
    (hn : s.freeSession = some num) :
    s.proofHere false r nc proof = ((s.openSession o num r r.source).sendLong (.acceptance false r nc num)).plainAnswer r
      false 0x03 0x00 (s.proofBody o num) := by
  have hr : atHolder r false = r := rfl
  have hlong : ¬ (s.ty.state == .member && !r.longOk) = true := by
    simp only [Bool.and_eq_true, beq_iff_eq, Bool.not_eq_true', not_and, Bool.not_eq_false]
    exact hl
  unfold State.proofHere
  rw [hr]
  dsimp only
  rw [if_neg (by simp [hb]), ho]
  dsimp only
  rw [if_neg (by simp [hp]), if_neg (by simp [hf]), if_neg hlong, State.numberFor_of_new hx hn]

theorem execProof_of_plain {nc proof : Bytes} (h : Plain s r (nc ++ proof) 48) (hn : nc.length = 16) (hd : s.decides = true) :
    execProof r nc proof s = .next ((s.arrived r).proofHere false r nc proof) := by
  refine next_of_eq ((State.plainRequest_of_plain h).trans ?_)
  rw [if_pos ((State.arrived_reads State.decides rfl).trans hd), ← hn, List.drop_left, List.take_length]

theorem State.proofHere_of_wrong {nc proof : Bytes} {o : PendingOpen} (hb : s.blocked (sourceKey r.source) = false)
    (ho : (s.sy.opens.find? fun o => o.nc == nc && o.source == sourceKey r.source) = some o)
    (hp : proof ≠ proofC (s.keySlot o.role).key o) :
    s.proofHere false r nc proof = (s.proofFailed (sourceKey r.source)).decline false r 0x03 0x04 := by
  have hr : atHolder r false = r := rfl
  unfold State.proofHere
  rw [hr]
  dsimp only
  rw [if_neg (by simp [hb]), ho]
  dsimp only
  rw [if_pos (by simpa using hp)]

theorem State.proofFailed_effects (s : State) (src : Source) :
    (s.proofFailed src).sy.authFailures = s.sy.authFailures + 1 ∧ (s.proofFailed src).sy.opens = s.sy.opens ∧
      (s.proofFailed src).sy.sessions = s.sy.sessions ∧ Moves [.sy, .fm] s (s.proofFailed src) := by
  unfold State.proofFailed
  dsimp only
  generalize placeFor src s.sy.lockouts = p
  split
  · generalize hu : ((s.modSy _).modSy _ : State) = u
    have hsy := (u.raiseEvent_moves 0x0106 0xFFFF) .sy (by decide)
    have hm : Moves [.sy] s u := hu ▸ (Moves.self.modSy (by decide) _).modSy (by decide) _
    refine ⟨(congrArg Syben.authFailures hsy).trans (hu ▸ rfl), (congrArg Syben.opens hsy).trans (hu ▸ rfl),
      (u.raise_sessions true 0x0106 0xFFFF).trans (hu ▸ rfl), (hm.mono (by decide)).raiseEvent (by decide) _ _⟩
  · exact ⟨rfl, rfl, rfl, Moves.self.modSy (by decide) _⟩

/-- A declined request is answered over a state whose other parts are as they were. -/
theorem State.decline_effects (s : State) (r : Req) (opcode status : Nat) :
    Answered (s.decline false r opcode status) r opcode status [] ∧
      (s.decline false r opcode status).sy.sessions = s.sy.sessions ∧ Moves [] s (s.decline false r opcode status) :=
  ⟨State.plainAnswer_answered _ _ _ _ _ _,
    (State.plainAnswer_sessions _ _ _ _ _ _).trans (congrArg Syben.sessions (s.sendLong_sy _)), Moves.self.decline⟩

/-- The sessions once the twin has word of them and the request is answered. -/
theorem State.answered_sessions {l : List Session} {c : LongCommand} {opcode status : Nat} {body : Bytes}
    (h : s.sy.sessions = l) : ((s.sendLong c).plainAnswer r false opcode status body).sy.sessions = l :=
  (State.plainAnswer_sessions _ _ _ _ _ _).trans ((congrArg Syben.sessions (s.sendLong_sy c)).trans h)

/-- Settles O40, a message of the opening at a time. -/
theorem sessionOpenCommands : Obligations.SessionOpenCommands := by
  unfold Obligations.SessionOpenCommands
  refine ⟨fun s r h => ?_, fun s r role options client version nc h hn hd hc0 hc1 hv hb h1 h6 hk hf hl => ?_,
    fun s r nc proof o num h hn hd hb ho hp hf hl hx hnum => ?_, fun s r nc proof o h hn hd hb ho hp => ?_, fun s => ?_,
    fun s source => ?_⟩
  · refine exists_next (next_of_eq (State.plainRequest_of_plain h)) ⟨?_, (s.arrived_moves r).plainAnswer⟩
    rw [show s.helloBytes = (s.arrived r).helloBytes from (State.arrived_reads State.helloBytes rfl).symm]
    exact State.plainAnswer_answered _ _ _ _ _ _
  · have he := (s.arrived r).openHere_of_granted (options := options) hn hv
      (State.openRefusal_of_granted hc0 hc1 hv ((State.arrived_reads (·.blocked _) rfl).trans hb) h1 h6
        (by rwa [State.arrived_reads (·.keySlot role) rfl]) ((State.arrived_reads (·.contextFree _ _) rfl).trans hf)
        (by rwa [State.arrived_reads (·.ty.state) rfl])) _ rfl
    have hsy := ((s.arrived r).takeFree.addOpen { nc, source := sourceKey r.source, role, client, events := bit options 0
                                                  version := 0x10, nm := leBytes 16 s.freeNat }).sendLong_sy
    rw [State.arrived_reads (·.keySlot role) rfl, State.arrived_reads State.freeNat rfl] at he
    refine ⟨_, _, (execOpenRequest_of_plain h hd).trans (next_of_eq he), length_leBytes 16 s.freeNat,
      State.plainAnswer_answered _ _ _ _ _ _, ?_, ?_, (State.arrived_moves s r).mono (by decide) |>.takeFree (by decide)
        |>.addOpen |>.sendLong |>.plainAnswer⟩
    · refine (State.plainAnswer_opens _ _ _ _ _ _).trans ((congrArg Syben.opens (hsy _)).trans ?_)
      exact State.arrived_reads (fun v : State => (if 32 ≤ v.sy.opens.length then v.sy.opens.drop 1 else v.sy.opens) ++ _) rfl
    · rw [State.plainAnswer_sessions, hsy]
      exact State.arrived_reads (·.sy.sessions) rfl
  · have hsy : (s.arrived r).sy = s.sy := State.arrived_sy
    have he := (s.arrived r).proofHere_of_right (proof := proof) (o := o) (num := num) ((State.arrived_reads (·.blocked _) rfl).trans hb)
      (by rwa [hsy]) (by rwa [State.arrived_reads (·.keySlot o.role) rfl]) ((State.arrived_reads (·.contextFree _ _) rfl).trans hf)
      (by rwa [State.arrived_reads (·.ty.state) rfl]) (by rwa [hsy]) ((State.arrived_reads State.freeSession rfl).trans hnum)
    rw [State.openSession_of_new num (by rwa [hsy]), State.arrived_reads (·.keySlot o.role) rfl,
      State.arrived_reads (·.tb.now) rfl, State.arrived_reads (·.proofBody o num) rfl] at he
    have hadd : (s.arrived r).sy.sessions ++ [sessionOf (s.keySlot o.role).key o num r r.source s.tb.now] = s.sy.sessions ++ _ :=
      congrArg (·.sessions ++ _) hsy
    have hnone : s.session (sessionOf (s.keySlot o.role).key o num r r.source s.tb.now).num = none :=
      State.session_none_of_free hnum
    refine exists_next ((execProof_of_plain h hn hd).trans (next_of_eq he)) ⟨State.plainAnswer_answered _ _ _ _ _ _,
      (State.session_added (State.answered_sessions hadd) hnone).trans (if_pos rfl),
      fun n hne => (State.session_added (State.answered_sessions hadd) hnone).trans (if_neg hne), ?_,
      (State.arrived_moves s r).mono (by decide) |>.modSy (by decide) _ |>.sendLong |>.plainAnswer⟩
    refine (State.plainAnswer_opens _ _ _ _ _ _).trans ((congrArg Syben.opens (State.sendLong_sy _ _)).trans ?_)
    exact congrArg (fun y : Syben => y.opens.filter (· != o)) hsy
  · have hsy : (s.arrived r).sy = s.sy := State.arrived_sy
    have he := (s.arrived r).proofHere_of_wrong (proof := proof) (o := o) ((State.arrived_reads (·.blocked _) rfl).trans hb)
      (by rwa [hsy]) (by rwa [State.arrived_reads (·.keySlot o.role) rfl])
    obtain ⟨hfail, hopens, hses, hm⟩ := (s.arrived r).proofFailed_effects (sourceKey r.source)
    rw [hsy] at hfail hopens hses
    obtain ⟨hans, hses', hm'⟩ := ((s.arrived r).proofFailed (sourceKey r.source)).decline_effects r 0x03 0x04
    have htraffic : Syben.traffic _ _ := hm' .sy (by decide)
    refine exists_next ((execProof_of_plain h hn hd).trans (next_of_eq he)) ⟨hans, (congrArg Syben.authFailures htraffic).trans hfail,
      (congrArg Syben.opens htraffic).trans hopens, fun n hn => ?_, (s.arrived_moves r).mono (by decide) |>.trans hm
        |>.trans (hm'.mono (by decide))⟩
    rw [State.session, hses'.trans hses]
    exact hn
  · exact exists_next rfl ⟨rfl, State.modSy_alters _ _⟩
  · refine exists_next rfl ⟨fun l hl hs => ?_, fun l hl hs hb => ?_, rfl, State.modSy_alters _ _⟩
    · obtain ⟨m, -, rfl⟩ := List.mem_map.1 (List.mem_filter.1 hl).1
      by_cases hm : m.source = source
      · rw [if_pos hm]
      · rw [if_neg hm] at hs
        exact absurd hs hm
    · exact List.mem_filter.2 ⟨List.mem_map.2 ⟨l, hl, if_neg hs⟩, by simpa using hb⟩

end

end Sys2Proof.Machine
end

section
/-! Accepted requests in a session (R477, R484, R488, R490, R499, R504 to R506, R523). -/

namespace Sys2Proof.Machine

-- One theorem after another: each thread of the checker takes 256 MB of stack.
set_option Elab.async false

section
variable {s t u : State} {r : Req} {x : Session} {unit : Bool} {opcode status fixed n : Nat} {payload body : Bytes}
  {role : Nat → Bool}

/-! ### Sessions -/

theorem State.session_of_sessions (h : t.sy.sessions = s.sy.sessions) (n : Nat) : t.session n = s.session n := by
  unfold State.session
  rw [h]

theorem State.session_num (h : s.session n = some x) : x.num = n := by simpa using List.find?_some h

theorem State.session_modSession {f : Session → Session} (hf : ∀ x, (f x).num = x.num) (s : State) (k n : Nat) :
    (s.modSession k f).session n = if n = k then (s.session n).map f else s.session n := by
  have hp : ((fun x : Session => x.num == n) ∘ fun x => if x.num == k then f x else x) = fun x => x.num == n := by
    funext x
    dsimp only [Function.comp]
    split
    · rw [hf]
    · rfl
  have hfind : (s.modSession k f).session n = (s.session n).map fun x => if x.num == k then f x else x := by
    show List.find? _ (List.map _ _) = _
    rw [List.find?_map, hp]
    rfl
  rw [hfind]
  cases hx : s.session n with
  | none => simp
  | some x =>
    by_cases hk : n = k <;> simp [State.session_num hx, hk]

theorem State.travel_sy (s : State) (c : CmdRecord) : (s.travel c).sy = s.sy := by
  unfold State.travel
  split
  · rfl
  · split <;> rfl

/-- The session that took a request, before the request is answered. -/
def Session.entered (x : Session) (r : Req) (now : Stamp) : Session :=
  { x with high := r.seq, idleFrom := now, prio := r.prio, xl := r.xl, sfp := r.sfp, cached := none }

/-- The sessions once a request is accepted: its own took the request, and no other changed. -/
def State.Entered (s t : State) (r : Req) (x : Session) : Prop :=
  ∀ n, t.session n = if n = r.session then some (x.entered r s.tb.now) else s.session n

theorem State.arrived_accepted_entered (hx : s.session r.session = some x) :
    s.Entered ((s.arrived r).accepted r x) r x := by
  intro n
  refine (State.session_modSession ?_ _ _ _).trans ?_
  · exact fun _ => rfl
  rw [State.session_num hx, State.arrived_session]
  split
  next hn =>
    rw [hn, hx, State.arrived_reads (·.tb.now) rfl]
    rfl
  · rfl

theorem State.enter_entered (unit : Bool) (h : Accepted s r opcode payload fixed role x) :
    ∃ s1, s.enter r unit opcode payload fixed role = .on s1 x none ∧ Moves [] s s1 ∧ s.Entered s1 r x := by
  obtain ⟨s1, he, hm⟩ := State.enter_accepted unit h
  obtain ⟨hcore, hcp, hserves, hlen, hx, hmac, hkey, hver, hseq, -, -, -, -⟩ := h
  have hears : s.Hears r := ⟨hcore, hcp, hserves⟩
  have hauth : s.Authentic r opcode payload x := ⟨hlen, hx, hmac⟩
  obtain ⟨c, o, he'⟩ := State.enter_of_newer (fixed := fixed) (role := role) hears
    (State.sessionCheck_of_good (unit := unit) hauth.arrived hkey hver) hseq
  refine ⟨s1, he, hm, ?_⟩
  obtain ⟨hs1, -, -⟩ := Entry.on.inj (he.symm.trans he')
  have hent := State.arrived_accepted_entered hx
  rw [hs1]
  split
  · exact hent
  · exact fun n => (State.session_of_sessions (congrArg Syben.sessions (State.travel_sy _ c)) n).trans (hent n)

/-- What answers a request keeps the answer in its session. -/
theorem State.finish_session (s : State) (r : Req) (unit : Bool) (x : Session) (opcode status : Nat) (body : Bytes) (n : Nat) :
    ∃ m, (s.finish r unit x opcode status body).session n =
      if n = x.num then (s.session n).map fun y => { y with cached := some m } else s.session n := by
  have h : (s.formMsg r unit (some x.m2c) opcode status body).2.session n = s.session n :=
    State.session_of_sessions (s.numberMsg_sessions unit) n
  unfold State.finish
  generalize s.formMsg r unit (some x.m2c) opcode status body = q at h
  refine ⟨q.1, (State.session_of_sessions (State.deliver_sessions _ _ _) n).trans ((State.session_modSession ?_ _ _ _).trans ?_)⟩
  · exact fun _ => rfl
  · rw [h]

/-- A request that its session answers from the state the action left. -/
theorem State.request_of_accepted {act : State → Session → Answer} (unit : Bool)
    (h : Accepted s r opcode payload fixed role x) : ∃ s1, Moves [] s s1 ∧ s.Entered s1 r x ∧
      s.request r unit opcode payload fixed role act = (act s1 x).1.finish r unit x opcode (act s1 x).2.1 (act s1 x).2.2 := by
  obtain ⟨s1, he, hm, hs⟩ := State.enter_entered unit h
  refine ⟨s1, hm, hs, ?_⟩
  unfold State.request
  rw [he]

/-! ### The end of a session (R484, R499) -/

/-- The engines as they are once a session has none. -/
def enginesFreed (num : Nat) (c : Tab Engine) : Tab Engine :=
  [6, 7].foldl (fun c k =>
    if (tabGet ({} : Engine) k c).owner = 1 ∧ (tabGet ({} : Engine) k c).claimant = num then tabPut {} k {} c else c) c

/-- An engine that a session claimed is given up (R499). -/
def State.releaseEngine (num : Nat) (t : State) (k : Nat) : State :=
  if (tabGet {} k t.ck).owner == 1 && (tabGet {} k t.ck).claimant == num then
    (t.modCk fun c => tabPut {} k {} c).raiseEvent 0x1302 k
  else t

theorem State.releaseEngine_ck (num k : Nat) (t : State) : (t.releaseEngine num k).ck =
    if (tabGet ({} : Engine) k t.ck).owner = 1 ∧ (tabGet ({} : Engine) k t.ck).claimant = num then tabPut {} k {} t.ck
    else t.ck := by
  unfold State.releaseEngine
  simp only [Bool.and_eq_true, beq_iff_eq]
  split
  · exact State.raiseEvent_moves _ _ _ .ck (by decide)
  · rfl

theorem releaseEngines_ck (num : Nat) (s : State) : (releaseEngines num s).ck = enginesFreed num s.ck :=
  (List.foldl_hom State.ck (g₁ := State.releaseEngine num) fun t k => (t.releaseEngine_ck num k).symm).symm

theorem State.releaseEngine_sessions (num k : Nat) (t : State) : (t.releaseEngine num k).sy.sessions = t.sy.sessions := by
  unfold State.releaseEngine
  split
  · exact State.raise_sessions _ _ _ _
  · rfl

theorem State.releaseEngine_commits (num k : Nat) (t : State) : (t.releaseEngine num k).sy.commits = t.sy.commits := by
  unfold State.releaseEngine
  split
  · have h : Syben.traffic _ _ := State.raiseEvent_moves (t.modCk fun c => tabPut {} k {} c) 0x1302 k .sy (by decide)
    unfold Syben.traffic at h
    rw [h]
    rfl
  · rfl

theorem releaseEngines_sy (num : Nat) (s : State) :
    (releaseEngines num s).sy.sessions = s.sy.sessions ∧ (releaseEngines num s).sy.commits = s.sy.commits :=
  List.foldlRecOn [6, 7] (motive := fun v : State => v.sy.sessions = s.sy.sessions ∧ v.sy.commits = s.sy.commits)
    (State.releaseEngine num) ⟨rfl, rfl⟩ fun v hv k _ =>
      ⟨(v.releaseEngine_sessions num k).trans hv.1, (v.releaseEngine_commits num k).trans hv.2⟩

theorem releaseEngines_of_none {num : Nat}
    (h : ∀ k ∈ [6, 7], (tabGet ({} : Engine) k s.ck).owner ≠ 1 ∨ (tabGet ({} : Engine) k s.ck).claimant ≠ num) :
    releaseEngines num s = s := by
  have hk : ∀ k ∈ [6, 7], s.releaseEngine num k = s := fun k hk => if_neg (by
    have := h k hk
    simp only [Bool.and_eq_true, beq_iff_eq]
    tauto)
  show State.releaseEngine num (s.releaseEngine num 6) 7 = s
  rw [hk 6 (by decide), hk 7 (by decide)]

/-- The session and its shadows once it has ended. -/
def Syben.without (y : Syben) (num : Nat) (x : Session) : Syben :=
  { y with sessions := y.sessions.filter (·.num != num), commits := keepCommits x y.commits }

theorem State.closeSession_of_idle (hx : s.session n = some x) (hl : s.ld.loadSession ≠ n) :
    s.closeSession n = releaseEngines n (s.modSy fun y => y.without n x) := by
  have hld : (releaseEngines n (s.modSy fun y => y.without n x)).ld = s.ld :=
    (Moves.self.releaseEngines (ps := [.ck, .fm])) .ld (by decide)
  unfold State.closeSession
  rw [hx]
  exact if_neg (by
    rw [beq_iff_eq]
    exact fun h => hl ((congrArg Loader.loadSession hld).symm.trans h))

theorem List.find?_filter_num (l : List Session) (k : Nat) :
    (l.filter (·.num != n)).find? (·.num == k) = if k = n then none else l.find? (·.num == k) := by
  rw [List.find?_filter]
  split
  next h => simp [h]
  next h =>
    congr 1
    funext x
    by_cases hx : x.num = k <;> simp [hx, h]

/-- What ends a session ends that one alone. -/
theorem State.closeSession_effects (hx : s.session n = some x) (hl : s.ld.loadSession ≠ n) :
    (∀ k, (s.closeSession n).session k = if k = n then none else s.session k) ∧
      (s.closeSession n).ck = enginesFreed n s.ck ∧ (s.closeSession n).sy.commits = keepCommits x s.sy.commits ∧
      Moves [.sy, .ck, .fm] s (s.closeSession n) := by
  rw [State.closeSession_of_idle hx hl]
  obtain ⟨hses, hcom⟩ := releaseEngines_sy n (s.modSy fun y => y.without n x)
  exact ⟨fun k => (State.session_of_sessions hses k).trans (List.find?_filter_num _ k), releaseEngines_ck _ _, hcom,
    (Moves.self.modSy (by decide) _).releaseEngines⟩

end

end Sys2Proof.Machine
end

section
/-! What accepted requests in a session do (R477, R484, R488, R490, R499, R504 to R506, R523). -/

namespace Sys2Proof.Machine

-- One theorem after another: each thread of the checker takes 256 MB of stack.
set_option Elab.async false

section
variable {s t u : State} {r : Req} {x : Session} {unit : Bool} {opcode status fixed n : Nat} {payload body : Bytes}
  {role : Nat → Bool}

theorem Accepted.session (h : Accepted s r opcode payload fixed role x) : s.session r.session = some x := by
  obtain ⟨-, -, -, -, hx, -⟩ := h
  exact hx

/-- The own session once its request is answered. -/
theorem State.Entered.finish_own (h : s.Entered t r x) (hx : x.num = r.session) (opcode status : Nat) (body : Bytes) :
    ∃ m, (t.finish r unit x opcode status body).session r.session = some { x.entered r s.tb.now with cached := some m } := by
  obtain ⟨m, hm⟩ := t.finish_session r unit x opcode status body r.session
  refine ⟨m, hm.trans ?_⟩
  rw [if_pos hx.symm, h r.session, if_pos rfl]
  rfl

theorem State.Entered.finish_other (h : s.Entered t r x) (hx : x.num = r.session) (opcode status : Nat) (body : Bytes)
    (hn : n ≠ r.session) : (t.finish r unit x opcode status body).session n = s.session n := by
  obtain ⟨m, hm⟩ := t.finish_session r unit x opcode status body n
  rw [hm, if_neg (hx ▸ hn), h n, if_neg hn]

/-! ### Reads (R504 to R506) -/

theorem State.latchReq_answered {cmd : Instr} {act : State → Answer} (h : Accepted s r opcode payload fixed anyRole x)
    {P : State → State → Prop}
    (hwait : ∀ s1 t, Moves [] s s1 → (act s1).2.1 = 0 → Waits s t r x cmd true true → P s1 t)
    (hrefuse : ∀ s1 t, Moves [] s s1 → (act s1).2.1 ≠ 0 → Answered t r opcode (act s1).2.1 (act s1).2.2 → Moves [] s t → P s1 t) :
    ∃ t s1, (Host.Outcome.next (s.latchReq r opcode payload fixed cmd act) : Host.Outcome State Fault Refusal) = .next t ∧
      Moves [] s s1 ∧ P s1 t := by
  obtain ⟨s1, he, hm⟩ := State.enter_accepted true h
  obtain ⟨hq, hv, ho⟩ := State.enter_quiet he
  refine ⟨_, s1, rfl, hm, ?_⟩
  unfold State.latchReq
  rw [he]
  dsimp only
  by_cases h0 : (act s1).2.1 = 0
  · rw [if_neg (by simp [h0])]
    exact hwait _ _ hm h0 (State.waits_of r x cmd true true hm hq hv ho)
  · rw [if_pos (by simpa using h0)]
    exact hrefuse _ _ hm h0 (State.finish_answered _ _ _ _ _ _ _) (hm.trans (State.finish_moves _ _ _ _ _ _ _))

theorem State.readPart_refused {index sub offset length : Nat} (h : (s.readPart index sub offset length).2.1 ≠ 0) :
    (s.readPart index sub offset length).2.2 = [] := by
  unfold State.readPart at h ⊢
  split at h
  · rfl
  · split at h
    · rw [if_pos (by assumption)]
      rfl
    next hlen =>
      rw [if_neg hlen]
      split at h
      · rw [if_pos (by assumption)]
        rfl
      · exact absurd rfl h

theorem State.readEffect_alters (s : State) (index sub : Nat) : Alters [.ca] s (s.readEffect index sub) :=
  .ite (State.modCa_alters _ _) (.ite (State.modCa_alters _ _) (.refl _ _))

theorem State.readPart_of_object {index sub offset length : Nat} {b : Bytes} (hb : s.readObj index sub = some b)
    (hl : length ≤ 2012) (ho : offset + length ≤ b.length) :
    s.readPart index sub offset length = (s.readEffect index sub, 0, leBytes 4 b.length ++
      (b.drop offset).take (if length = 0 then min 2012 (b.length - offset) else length)) := by
  have hout : ¬ (b.length < offset || b.length < offset + length) = true := by
    simp only [Bool.or_eq_true, decide_eq_true_eq]
    omega
  unfold State.readPart
  rw [hb]
  dsimp only
  rw [if_neg (Nat.not_lt.2 hl), if_neg hout]
  simp only [beq_iff_eq]

theorem State.readItems_of_count {items : List (Nat × Nat)} (h1 : 1 ≤ items.length) (h2 : items.length ≤ 64) :
    s.readItems items.length items = if 2016 < (items.flatMap s.listItem).length then no s 0x11
      else (items.foldl (fun u i => u.readEffect i.1 i.2) s, 0x00, items.flatMap s.listItem) := by
  have hout : ¬ (items.length == 0 || 64 < items.length) = true := by
    simp only [Bool.or_eq_true, beq_iff_eq, decide_eq_true_eq]
    omega
  unfold State.readItems
  rw [if_neg hout, List.take_length]

/-! ### Keys (R490) -/

theorem State.keySlot_of_keys (hk : t.sy.keys = s.sy.keys) (hi : t.id = s.id) (n : Nat) : t.keySlot n = s.keySlot n := by
  unfold State.keySlot
  rw [hk, hi]

theorem Syben.traffic.keys {a b : Syben} (h : a.traffic b) : b.keys = a.keys := by
  unfold Syben.traffic at h
  rw [h]

theorem State.keySlot_put {k : Nat} {salt key : Bytes} (hs : salt.length = 16) (h6 : k ≠ 6)
    (hk : t.sy.keys = tabPut {} k { salt := padBytes 16 salt, key } s.sy.keys) :
    t.keySlot k = { salt, key } := by
  have hne : ({ salt := padBytes 16 salt, key } : KeySlot) ≠ {} := fun h => by
    have hl := congrArg List.length (congrArg KeySlot.salt h)
    rw [padBytes_of_length hs, hs] at hl
    cases hl
  unfold State.keySlot
  rw [hk, tabGet_tabPut_ne _ _ _ _ hne, padBytes_of_length hs]
  exact if_neg (by simp [h6])

theorem State.keySlot_put_other {k : Nat} {v : KeySlot} (hk : t.sy.keys = tabPut {} k v s.sy.keys) (hi : t.id = s.id)
    (hn : n ≠ k) : t.keySlot n = s.keySlot n := by
  unfold State.keySlot
  rw [hk, hi, tabGet_tabPut_other _ _ _ _ _ hn]

/-- The key store of a unit that has taken a key. -/
theorem State.putKey_effects (s : State) (k : Nat) (salt key : Bytes) :
    (s.putKey k salt key).sy = { s.sy with keys := tabPut {} k { salt := padBytes 16 salt, key } s.sy.keys } ∧
      Alters [.sy, .nv] s (s.putKey k salt key) := by
  have h : Alters [.nv] _ (s.putKey k salt key) := (Alters.refl _ _).journal (by decide) _ _
  exact ⟨h .sy (by decide), (((Alters.refl _ _).modSy (by decide) _).trans (h.mono (by decide)))⟩

theorem State.notAgreed_of_long {size : Nat} (h : s.ty.state = .member → r.longOk = true) : s.notAgreed r size = false := by
  unfold State.notAgreed
  cases hm : s.ty.state == .member with
  | false => rfl
  | true => rw [h (by simpa using hm), Bool.not_true, Bool.and_false]

theorem Moves.twinState (h : Moves [] s t) : t.ty.state = s.ty.state := by
  have hty : Twin.traffic s.ty t.ty := h .ty (by decide)
  unfold Twin.traffic at hty
  rw [hty]

/-- KEY_SET accepted: the key is stored and travels, and the own key of the module ends the session. -/
theorem execKeySet_of_accepted {k : Nat} {salt wrapped : Bytes}
    (h : Accepted s r 0x70 ([k % 256, r.reserved, 0, 0] ++ salt ++ wrapped) 52 commissioning x) (h1 : 1 ≤ k) (h7 : k ≤ 7)
    (hs : salt.length = 16) (hl : s.ty.state = .member → r.longOk = true) :
    ∃ s1 u, execKeySet r k salt wrapped s = .next (if k == 6 then u.closeSession r.session else u) ∧ Moves [] s s1 ∧
      s.Entered s1 r x ∧ u = ((s1.putKey k salt (unwrapKey x.prk r.seq wrapped)).sendLong
        (.keySet x.client r.seq k salt (unwrapKey x.prk r.seq wrapped))).finish r false x 0x70 0x00 [] := by
  obtain ⟨s1, he, hm, hent⟩ := State.enter_entered false h
  refine ⟨s1, _, ?_, hm, hent, rfl⟩
  unfold execKeySet
  rw [he]
  dsimp only
  rw [if_neg (by simp [h1, h7]), if_neg (by rw [State.notAgreed_of_long (by rwa [hm.twinState])]; exact Bool.false_ne_true),
    ← hs, List.take_left, List.drop_left, State.session_num h.session]

/-- The state that KEY_SET leaves, before a session ends. -/
theorem State.keyStored_effects {k : Nat} {salt key : Bytes} {c : LongCommand} (hm : Moves [] s u)
    (ht : t = ((u.putKey k salt key).sendLong c).finish r false x 0x70 0x00 []) :
    Answered t r 0x70 0 [] ∧ t.sy.keys = tabPut {} k { salt := padBytes 16 salt, key } s.sy.keys ∧ Moves [.sy, .nv] s t := by
  subst ht
  obtain ⟨hsy, ha⟩ := u.putKey_effects k salt key
  have hfin : Syben.traffic _ _ := State.finish_moves ((u.putKey k salt key).sendLong c) r false x 0x70 0x00 [] .sy (by decide)
  refine ⟨State.finish_answered _ _ _ _ _ _ _, hfin.keys.trans ?_,
    ((hm.mono (by decide)).trans ha.moves).sendLong.trans ((State.finish_moves _ _ _ _ _ _ _).mono (by decide))⟩
  rw [State.sendLong_sy, hsy]
  exact congrArg (tabPut {} k _) (Syben.traffic.keys (hm .sy (by decide)))

theorem State.Entered.of_sessions (h : s.Entered u r x) (ht : t.sy.sessions = u.sy.sessions) : s.Entered t r x :=
  fun n => (State.session_of_sessions ht n).trans (h n)

/-- The session still stands when its key is stored. -/
theorem State.Entered.keyStored {k : Nat} {salt key : Bytes} {c : LongCommand} (h : s.Entered u r x) (hx : x.num = r.session)
    (ht : t = ((u.putKey k salt key).sendLong c).finish r false x 0x70 0x00 []) : ∃ y, t.session r.session = some y := by
  subst ht
  have hses : ((u.putKey k salt key).sendLong c).sy.sessions = u.sy.sessions := by
    rw [State.sendLong_sy, (u.putKey_effects k salt key).1]
  obtain ⟨m, hm⟩ := (h.of_sessions hses).finish_own (unit := false) hx 0x70 0x00 []
  exact ⟨_, hm⟩

/-! ### Closing on request (R477) -/

theorem execCloseRequest_of_accepted (h : Accepted s r 0x04 [] 0 anyRole x) :
    ∃ s1, execCloseRequest r s = .next ((s1.finish r false x 0x04 0x00 []).closeSession r.session) ∧ Moves [] s s1 ∧
      s.Entered s1 r x := by
  obtain ⟨s1, he, hm, hent⟩ := State.enter_entered false h
  refine ⟨s1, ?_, hm, hent⟩
  unfold execCloseRequest
  rw [he]
  dsimp only
  rw [State.session_num h.session]

/-- A session without engines ends without an event. -/
theorem State.closeSession_of_bare (hx : s.session n = some x) (hl : s.ld.loadSession ≠ n)
    (he : ∀ k ∈ [6, 7], (tabGet ({} : Engine) k s.ck).owner ≠ 1 ∨ (tabGet ({} : Engine) k s.ck).claimant ≠ n) :
    s.closeSession n = s.modSy fun y => y.without n x := by
  rw [State.closeSession_of_idle hx hl]
  exact releaseEngines_of_none he

theorem Answered.of_out (h : Answered s r opcode status body) (ho : t.out = s.out) : Answered t r opcode status body := by
  unfold Answered at h ⊢
  rwa [ho]

/-! ### Step announcements and raw frames (R227, R423) -/

theorem State.rawStamp_none {f : Bytes} {port bin : Nat} (h : ptpStart f = none) : s.rawStamp port bin f = s := by
  unfold State.rawStamp
  rw [h]

/-- What a raw frame does (R423). -/
theorem State.rawAct_of_free {port bin : Nat} {f : Bytes} (ho : s.cfgGet 0x3084 0 = 2) (hp : port = 1 ∨ port = 2)
    (hl : f.length ≤ 1518) (hx : x.source = .spi) (hraw : s.sy.rawSession = 0 ∨ s.sy.rawSession = x.num)
    (hf : ptpStart f = none) :
    (if 1518 < f.length then no s 0x02
      else if !(port == 1 || port == 2) then no s 0x0A
      else if x.source ≠ .spi || s.cfgGet 0x3084 0 != 2 || (s.sy.rawSession != 0 && s.sy.rawSession != x.num) then no s 0x0B
      else ok ((((s.modSy fun y => { y with rawSession := x.num }).emit (.rawFrame port f)).frameOut port).rawStamp port bin f)) =
    ok (((s.modSy fun y => { y with rawSession := x.num }).emit (.rawFrame port f)).frameOut port) := by
  have hfree : (s.sy.rawSession != 0 && s.sy.rawSession != x.num) = false := by
    rcases hraw with h | h <;> simp [h]
  rw [if_neg (Nat.not_lt.2 hl), if_neg (by rcases hp with rfl | rfl <;> decide), if_neg (by simp [hx, ho, hfree]),
    State.rawStamp_none hf]

theorem Syben.traffic.rawSession {a b : Syben} (h : a.traffic b) : b.rawSession = a.rawSession := by
  unfold Syben.traffic at h
  rw [h]

/-- A step that is taken is one update of the cell link, the same in every state that differs by traffic. -/
theorem State.requestStep_taken {ts : Stamp} (h : (s.requestStep ts).2 = true) :
    ∃ f, ∀ u, Moves [] s u → u.requestStep ts = (u.modCl f, true) := by
  have same : ∀ u : State, Moves [] s u → u.cl = s.cl ∧ u.tb = s.tb ∧ u.rowStartNs = s.rowStartNs ∧ u.ns = s.ns :=
    fun u hu => ⟨hu .cl (by decide), hu .tb (by decide), hu.rowStartNs, hu.ns⟩
  unfold State.requestStep at h ⊢
  dsimp only at h ⊢
  split at h
  next running =>
    refine ⟨fun l => l, fun u hu => ?_⟩
    obtain ⟨hcl, htb, hrow, hns⟩ := same u hu
    rw [hcl]
    exact if_pos running
  next fresh =>
    split at h
    · cases h
    next good =>
      refine ⟨fun l => l.requested (stampAt ts.epoch (stampNs ts / 1000000 * 1000000)), fun u hu => ?_⟩
      obtain ⟨hcl, htb, hrow, hns⟩ := same u hu
      rw [hcl, htb, hrow, hns, if_neg fresh, if_neg good]
      rfl

/-- Settles O41, a request at a time. -/
theorem sessionCommands : Obligations.SessionCommands := by
  unfold Obligations.SessionCommands
  refine ⟨fun s r x h => ?_, fun s r x h he hl => ?_, fun s n x hx hl => ?_, fun s r x index sub offset length h => ?_,
    fun s r x index sub offset length b hb hl ho => ?_, fun s r x items h h1 h64 => ?_, fun s r x items h1 h64 hlen => ?_,
    fun s r x first count h => ?_, fun s r x ts h hbit hstep => ?_, fun s r x port bin frame hport h hlen hx howner hraw hptp => ?_,
    fun s r x k salt wrapped h h1 h7 h6 hs hw hl => ?_, fun s r x salt wrapped h hs hw hl hld => ?_⟩
  · obtain ⟨s1, hm, hent, he⟩ := State.request_of_accepted (act := fun t _ => (t, 0x00, leBytes 2 (t.cfgGet 0x2180 1))) false h
    obtain ⟨m, hown⟩ := hent.finish_own (unit := false) (State.session_num h.session) 0x05 0x00 (leBytes 2 (s1.cfgGet 0x2180 1))
    rw [hm.cfgGet] at he hown
    exact ⟨_, _, next_of_eq he, State.finish_answered _ _ _ _ _ _ _, hown, rfl, rfl, rfl, hm.trans (State.finish_moves _ _ _ _ _ _ _)⟩
  · obtain ⟨s1, hex, hm, hent⟩ := execCloseRequest_of_accepted h
    have hfin := State.finish_moves s1 r false x 0x04 0x00 []
    have hck : (s1.finish r false x 0x04 0x00 []).ck = s.ck := (hm.trans hfin) .ck (by decide)
    have hld : (s1.finish r false x 0x04 0x00 []).ld = s.ld := (hm.trans hfin) .ld (by decide)
    obtain ⟨m, hown⟩ := hent.finish_own (unit := false) (State.session_num h.session) 0x04 0x00 []
    rw [State.closeSession_of_bare hown (by rwa [hld]) (by rwa [hck])] at hex
    refine exists_next hex ⟨(State.finish_answered _ _ _ _ _ _ _).of_out rfl, ?_, fun n hn => ?_,
      ((hm.trans hfin).mono (by decide)).modSy (by decide) _⟩
    · exact (List.find?_filter_num _ _).trans (if_pos rfl)
    · refine ((List.find?_filter_num _ _).trans (if_neg hn)).trans ?_
      exact hent.finish_other (State.session_num h.session) 0x04 0x00 [] hn
  · obtain ⟨hses, hck, hcom, hm⟩ := State.closeSession_effects hx hl
    exact exists_next rfl ⟨(hses n).trans (if_pos rfl), hck, hcom, hm⟩
  · refine State.latchReq_answered h (fun u t hm h0 hw => ?_) fun u t hm h0 ha hmt => ?_
    · rwa [if_pos h0]
    · rw [if_neg h0]
      exact ⟨State.readPart_refused h0 ▸ ha, hmt⟩
  · exact ⟨_, State.readPart_of_object hb hl ho, s.readEffect_alters index sub⟩
  · refine State.latchReq_answered h (fun u t hm h0 hw => ?_) fun u t hm h0 ha hmt => ?_
    all_goals rw [State.readItems_of_count h1 h64] at *
    · split at h0
      · cases h0
      next hlen => rwa [if_neg hlen]
    · split at h0
      next hlen =>
        rw [if_pos hlen] at ha ⊢
        exact ⟨ha, hmt⟩
      · exact absurd rfl h0
  · exact ⟨_, (State.readItems_of_count h1 h64).trans (if_neg (Nat.not_lt.2 hlen)),
      Alters.foldl (fun u (i : Nat × Nat) => u.readEffect_alters i.1 i.2) _ _⟩
  · refine State.request_next h fun s1 w hm hw ha => ⟨?_, hm.trans hw⟩
    have hlog : s1.logPart first count = s.logPart first count := by
      unfold State.logPart
      rw [show s1.lg = s.lg from hm .lg (by decide)]
    rwa [hlog] at ha
  · obtain ⟨f, hf⟩ := State.requestStep_taken hstep
    refine State.request_next h fun s1 w hm hw ha => ?_
    have hact : (if !bit (s1.cfgGet 0x2885 2) 1 then no s1 0x0B
      else if (s1.requestStep ts).2 then ok (s1.requestStep ts).1 else no (s1.requestStep ts).1 0x0B) = ok (s1.modCl f) := by
      rw [hm.cfgGet, hbit, hf s1 hm]
      rfl
    rw [hact] at hw ha
    refine ⟨ha, ?_, ((hm.mono (by decide)).modCl (by decide) _).trans (hw.mono (by decide))⟩
    rw [hf s (.refl _ _)]
    exact (hw .cl (by decide)).trans (congrArg f (hm .cl (by decide)))
  · refine State.request_next h fun s1 w hm hw ha => ?_
    rw [show _ = ok _ from State.rawAct_of_free (hm.cfgGet 0x3084 0 ▸ howner) hport hlen hx
      (by rwa [Syben.traffic.rawSession (hm .sy (by decide))]) hptp] at hw ha
    refine ⟨ha, (hw .out (by decide)).subset (State.emit_mem _), Syben.traffic.rawSession (hw .sy (by decide)), ?_⟩
    exact ((((hm.mono (by decide)).modSy (by decide) _).emit _).frameOut _).trans (hw.mono (by decide))
  · obtain ⟨s1, u, hex, hm, hent, hu⟩ := execKeySet_of_accepted h h1 h7 hs hl
    rw [if_neg (by simpa using h6)] at hex
    obtain ⟨ha, hkeys, hmu⟩ := State.keyStored_effects hm hu
    exact exists_next hex ⟨ha, State.keySlot_put hs h6 hkeys,
      fun n hn => State.keySlot_put_other hkeys (hmu .id (by decide)) hn, hmu⟩
  · obtain ⟨s1, u, hex, hm, hent, hu⟩ := execKeySet_of_accepted (k := 6) h (by decide) (by decide) hs hl
    rw [if_pos (by decide)] at hex
    obtain ⟨ha, hkeys, hmu⟩ := State.keyStored_effects hm hu
    obtain ⟨y, hy⟩ := hent.keyStored (State.session_num h.session) hu
    obtain ⟨hses, -, -, hm'⟩ := State.closeSession_effects hy (by rwa [show u.ld = s.ld from hmu .ld (by decide)])
    exact exists_next hex ⟨(hses r.session).trans (if_pos rfl), (hmu.mono (by decide)).trans (hm'.mono (by decide))⟩

end

end Sys2Proof.Machine
end

section
/-! TELEMETRY received (R231, R406, R493, R494, R519). -/

namespace Sys2Proof.Machine

-- One theorem after another: each thread of the checker takes 256 MB of stack.
set_option Elab.async false

section
variable {s t u : State} {m : TelemetryMsg}

/-- The MAC that a telemetry message must carry. -/
def State.telemetryMacOf (s : State) (m : TelemetryMsg) : Bytes :=
  s.telemetryMac (headerBytes 0x10 m.flags 0x30 0 m.payload.length 0 0 m.pairSeq ++ m.payload)

theorem execTelemetry_of_strange (hc : s.coreUp = true) (h : m.group ≠ s.cfgGet 0x2182 1 ∨ m.mac ≠ s.telemetryMacOf m) :
    execTelemetry m s = .next (s.frameIn m.port) := by
  refine next_of_eq ?_
  rw [if_neg (by simp [hc])]
  refine if_pos ?_
  change m.group ≠ _ ∨ m.mac ≠ (s.frameIn m.port).telemetryMac _ at h
  simp only [Bool.or_eq_true, bne_iff_ne]
  exact h.elim (fun h => .inl (.inl (.inr h))) .inr

/-- A message of this module's group, for its transport, with the MAC it must carry. -/
structure State.Heard (s : State) (m : TelemetryMsg) : Prop where
  core : s.coreUp = true
  served : s.cfgGet 0x3180 1 ≠ 0
  group : m.group = s.cfgGet 0x2182 1
  telemetry : bit m.flags 4 = true
  mac : m.mac = s.telemetryMacOf m

/-- Neither of the guards that discard a message holds of one that is heard. -/
theorem State.Heard.guards (h : s.Heard m) : ¬ (!s.coreUp) = true ∧
    ¬ (s.cfgGet 0x3180 1 == 0 || m.group != s.cfgGet 0x2182 1 || !bit m.flags 4 ||
      m.mac != (s.frameIn m.port).telemetryMac
        (headerBytes 0x10 m.flags 0x30 0 m.payload.length 0 0 m.pairSeq ++ m.payload)) = true := by
  have hmac : (m.mac != (s.frameIn m.port).telemetryMac
      (headerBytes 0x10 m.flags 0x30 0 m.payload.length 0 0 m.pairSeq ++ m.payload)) = false := bne_eq_false_iff_eq.2 h.mac
  rw [hmac]
  exact ⟨by simp [h.core], by simp [h.served, h.group, h.telemetry]⟩

theorem State.Heard.exec_unit (h : s.Heard m) (hf : bit m.flags 1 = true) :
    execTelemetry m s = .next ((s.frameIn m.port).telemetryAct m.port m.payload) :=
  next_of_eq ((if_neg h.guards.1).trans ((if_neg h.guards.2).trans (if_pos hf)))

/-- The sender of a pair message: the node that its payload names. -/
def telemetrySender (m : TelemetryMsg) : Nat := leNat ((m.payload.drop 2).take 2)

theorem State.Heard.exec_repeated (h : s.Heard m) (hf : bit m.flags 1 = false)
    (ha : (s.frameIn m.port).acceptPair (telemetrySender m) m.pairSeq = none) : execTelemetry m s = .next (s.frameIn m.port) := by
  refine next_of_eq ((if_neg h.guards.1).trans ((if_neg h.guards.2).trans ((if_neg (by simp [hf])).trans ?_)))
  change (s.frameIn m.port).acceptPair (leNat ((m.payload.drop 2).take 2)) m.pairSeq = none at ha
  rw [ha]

theorem State.Heard.exec_taken (h : s.Heard m) (hf : bit m.flags 1 = false)
    (ha : (s.frameIn m.port).acceptPair (telemetrySender m) m.pairSeq = some u) :
    execTelemetry m s = .next (u.telemetryAct m.port m.payload) := by
  refine next_of_eq ((if_neg h.guards.1).trans ((if_neg h.guards.2).trans ((if_neg (by simp [hf])).trans ?_)))
  change (s.frameIn m.port).acceptPair (leNat ((m.payload.drop 2).take 2)) m.pairSeq = some u at ha
  rw [ha]

/-- The pair messages received, with a sender not heard before. -/
def Twin.firstFrom (y : Twin) (node pairSeq : Nat) : Twin := { y with receivers := y.receivers ++ [{
  node, origin := pairSeq / 2 ^ 30 % 4, high := pairSeq % 2 ^ 30, seen := 1 }] }

theorem State.acceptPair_of_first {node k : Nat}
    (h : (s.ty.receivers.find? fun v => v.node == node && v.origin == k / 2 ^ 30 % 4) = none) :
    s.acceptPair node k = some (s.modTy fun y => y.firstFrom node k) := by
  unfold State.acceptPair
  dsimp only
  rw [h]
  rfl

theorem State.acceptPair_of_known {node k : Nat} {v : Receiver}
    (h : (s.ty.receivers.find? fun v => v.node == node && v.origin == k / 2 ^ 30 % 4) = some v) (hv : v.take (k % 2 ^ 30) = none) :
    s.acceptPair node k = none := by
  unfold State.acceptPair
  dsimp only
  rw [h]
  dsimp only
  rw [hv]
  rfl

theorem State.telemetryAct_conflict {port : Nat} {p : Bytes} (hp : p.headD 0 = 1) (h : (tokenOf p).2.sender = s.id.nodeId) :
    s.telemetryAct port p = (s.modEn fun e => { e with conflicts := e.conflicts + 1 }).raiseEvent 0x1104 port := by
  unfold State.telemetryAct
  rw [hp]
  exact if_pos (beq_iff_eq.2 h)

theorem State.telemetryAct_step {port : Nat} {p : Bytes} (hp : p.headD 0 = 3) (h : bit (s.cfgGet 0x2885 2) 1 = true) :
    s.telemetryAct port p = (s.requestStep (stampOf ((p.drop 4).take 12))).1 := by
  unfold State.telemetryAct
  rw [hp]
  exact if_pos h

theorem State.telemetryAct_other {port : Nat} {p : Bytes} (hp : p.headD 0 = 2) : s.telemetryAct port p = s := by
  unfold State.telemetryAct
  rw [hp]
  rfl

/-- What a request for a step does to the cell link depends on what traffic leaves alone. -/
theorem Moves.requestStep_cl (h : Moves [] s u) (ts : Stamp) : (u.requestStep ts).1.cl = (s.requestStep ts).1.cl := by
  have hcl : u.cl = s.cl := h .cl (by decide)
  have htb : u.tb = s.tb := h .tb (by decide)
  unfold State.requestStep
  dsimp only
  rw [hcl, htb, h.rowStartNs, h.ns]
  split
  · exact hcl
  · split
    · rw [State.raiseEvent_cl, State.raiseEvent_cl, State.modCl_cl, State.modCl_cl, hcl]
    · rw [State.modCl_cl, State.modCl_cl, hcl]

theorem Ethernet.traffic.conflicts {a b : Ethernet} (h : a.traffic b) : b.conflicts = a.conflicts := by
  unfold Ethernet.traffic at h
  rw [h]

/-- Settles O42, from the message that is not for this module to the one that asks for a step. -/
theorem telemetryCommands : Obligations.TelemetryCommands := by
  unfold Obligations.TelemetryCommands
  refine ⟨fun s m hc h => execTelemetry_of_strange hc h, fun s m v hc hv hg hf4 hf1 hm hfind htake => ?_,
    fun s m hc hv hg hf4 hf1 hp hm hfind => ?_, fun s m hc hv hg hf4 hf1 hp hm hs => ?_,
    fun s m hc hv hg hf4 hf1 hp hm hb => ?_⟩
  all_goals have h : s.Heard m := ⟨hc, hv, hg, hf4, hm⟩
  · exact h.exec_repeated hf1 (State.acceptPair_of_known (s := s.frameIn m.port) hfind htake)
  · refine exists_next ((h.exec_taken hf1 (State.acceptPair_of_first (s := s.frameIn m.port) hfind)).trans
      (next_of_eq (State.telemetryAct_other hp))) ⟨rfl, (Moves.self.frameIn _).modTy (by decide) _⟩
  · refine exists_next ((h.exec_unit hf1).trans (next_of_eq (State.telemetryAct_conflict hp hs))) ⟨?_, ?_, ?_⟩
    · refine (Ethernet.traffic.conflicts (State.raiseEvent_moves _ 0x1104 m.port .en (by decide))).trans ?_
      exact congrArg (· + 1) (Ethernet.traffic.conflicts (s.frameIn_moves m.port .en (by decide)))
    · exact (State.raiseEvent_fm _ _ _).trans (Moves.eventFm (ps := [.en]) ((Moves.self.frameIn _).modEn (by decide) _) (by decide) _ _)
    · exact ((Moves.self.frameIn _).modEn (by decide) _).raiseEvent (by decide) _ _
  · have hm := Moves.self.frameIn (s := s) (ps := []) m.port
    exact exists_next ((h.exec_unit hf1).trans (next_of_eq (State.telemetryAct_step hp hb))) ⟨hm.requestStep_cl _,
      (Moves.self.frameIn _).requestStep⟩

end

end Sys2Proof.Machine
end

section
/-! ROM recovery (R523, R538, R539, R541, R542). -/

namespace Sys2Proof.Machine

-- One theorem after another: each thread of the checker takes 256 MB of stack.
set_option Elab.async false

section
variable {s t u : State} {seq kind : Nat} {p : Bytes} {act : State → State × Option Bytes}

/-- The loader's record once a recovery request is taken and its response is still to come. -/
def Loader.asked (l : Loader) (seq : Nat) : Loader := { l with recSeq := some seq, recCached := [] }

/-- A response leaves by the UART and is kept for its repetition. -/
def State.respond (s : State) (seq kind : Nat) (p : Bytes) : State :=
  (s.sendRecovery seq kind p).modLd fun l => { l with recCached := kind :: p }

theorem State.recoveryRequest_of_new (hr : s.ld.recovery = true) (hk : s.ld.recoveryReason ≠ 3 ∨ kind = 0x01 ∨ kind = 0x06)
    (hs : s.ld.recSeq ≠ some seq) (ha : act (s.modLd fun l => l.asked seq) = (u, some p)) :
    s.recoveryRequest seq kind act = u.respond seq (kind + 0x80) p := by
  have hserved : ¬ (!s.ld.recovery || (s.ld.recoveryReason == 3 && kind != 0x01 && kind != 0x06)) = true := by
    rw [hr]
    rcases hk with h | rfl | rfl
    · simp [h]
    · simp
    · simp
  unfold State.recoveryRequest
  rw [if_neg hserved, if_neg (by simpa using hs)]
  have hact : act (s.modLd fun l => { l with recSeq := some seq, recCached := [] }) = (u, some p) := ha
  rw [hact]
  rfl

theorem State.recoveryRequest_of_repeated {k : Nat} (hr : s.ld.recovery = true) (hs : s.ld.recSeq = some seq)
    (hc : s.ld.recCached = k :: p) : s.recoveryRequest seq 0x01 act = s.sendRecovery seq k p := by
  unfold State.recoveryRequest
  rw [if_neg (by simp [hr]), if_pos (by simp [hs]), hc]

theorem State.respond_out (s : State) (seq kind : Nat) (p : Bytes) :
    (s.respond seq kind p).out = s.out ++ [.recovery kind p (recoveryBytes kind seq p)] := rfl

theorem State.respond_alters {ps : List Part} (h : Alters ps s u) (hl : .ld ∈ ps := by decide) (ho : .out ∈ ps := by decide) :
    Alters ps s (u.respond seq kind p) := (h.modOut ho _).modLd hl _

theorem State.asked_alters (s : State) (seq : Nat) : Alters [.ld, .out] s (s.modLd fun l => l.asked seq) :=
  (State.modLd_alters _ _).mono (by decide)

theorem State.headerReason_of_ld (ha : t.ld.antiRollback = s.ld.antiRollback) (hf : t.ld.fuses = s.ld.fuses) (hi : t.id = s.id)
    (h : Bytes) (total : Nat) : t.headerReason h total = s.headerReason h total := by
  unfold State.headerReason State.headerUnit State.headerSerial State.headerKey
  rw [ha, hf, hi]

theorem leNat_leBytes (n v : Nat) : leNat (leBytes n v) = v % 256 ^ n := by
  induction n generalizing v with
  | zero => rw [Nat.pow_zero, Nat.mod_one]; rfl
  | succ n ih => rw [leBytes, leNat, ih, Nat.mod_mod, Nat.pow_succ', Nat.mod_mul]

theorem fieldAt_leBytes {n v : Nat} (h : v < 256 ^ n) (b : Bytes) : fieldAt (leBytes n v ++ b) 0 n = v := by
  have hlen := length_leBytes n v
  unfold fieldAt
  rw [List.drop_zero, List.take_left' hlen, leNat_leBytes, Nat.mod_eq_of_lt h]

/-- The header is refused or begins a transfer. -/
def State.begun (s : State) (header : Bytes) (total : Nat) : State :=
  s.modLd fun l => { l with recBegun := true, header, total, next := 4096, bytes := [], skeinValid := false }

theorem execRecoveryBegin_of_new {payload b : Bytes} {k : Nat} (hr : s.ld.recovery = true) (h3 : s.ld.recoveryReason ≠ 3)
    (hs : s.ld.recSeq ≠ some seq) (hlen : payload.length = 1092)
    (hk : k = s.headerReason (payload.drop 4) (fieldAt payload 0 4))
    (hb : b = [if k = 0 then 0 else 0x0A, k] ++ leBytes 4 4096) :
    execRecoveryBegin seq payload s = .next (if k = 0 then
      ((s.modLd fun l => l.asked seq).begun (payload.drop 4) (fieldAt payload 0 4)).respond seq 0x82 b
    else (s.modLd fun l => l.asked seq).respond seq 0x82 b) := by
  have hreason : (s.modLd fun l => l.asked seq).headerReason (payload.drop 4) (fieldAt payload 0 4) = k :=
    (State.headerReason_of_ld rfl rfl rfl _ _).trans hk.symm
  by_cases h0 : k = 0
  · rw [if_pos h0] at hb ⊢
    refine next_of_eq (State.recoveryRequest_of_new (kind := 0x02) hr (.inl h3) hs ?_)
    dsimp only
    rw [if_neg (by simp [hlen]), hreason, if_neg (by simp [h0]), hb, h0]
    rfl
  · rw [if_neg h0] at hb ⊢
    refine next_of_eq (State.recoveryRequest_of_new (kind := 0x02) hr (.inl h3) hs ?_)
    dsimp only
    rw [if_neg (by simp [hlen]), hreason, if_pos (by simpa using h0), hb]

/-- The next chunk of a transfer. -/
def State.chunkTaken (s : State) (b : Bytes) : State :=
  s.modLd fun l => { l with next := l.next + b.length, bytes := l.bytes ++ b }

theorem execRecoveryData_of_next {b p : Bytes} (hr : s.ld.recovery = true) (h3 : s.ld.recoveryReason ≠ 3)
    (hs : s.ld.recSeq ≠ some seq) (hbeg : s.ld.recBegun = true) (h1 : 1 ≤ b.length) (h1024 : b.length ≤ 1024)
    (hle : s.ld.next + b.length ≤ s.ld.total) (htot : s.ld.total < 2 ^ 32) (hp : p = 0 :: leBytes 4 (s.ld.next + b.length)) :
    execRecoveryData seq (leBytes 4 s.ld.next ++ b) true s =
      .next (((s.modLd fun l => l.asked seq).chunkTaken b).respond seq 0x83 p) := by
  have hfield : fieldAt (leBytes 4 s.ld.next ++ b) 0 4 = s.ld.next := fieldAt_leBytes (by omega) b
  have hdrop : (leBytes 4 s.ld.next ++ b).drop 4 = b := List.drop_left' (length_leBytes _ _)
  have hsize : ¬ (b.isEmpty || 1024 < b.length) = true := by
    have : b ≠ [] := List.ne_nil_of_length_pos h1
    simpa [this] using h1024
  refine next_of_eq (State.recoveryRequest_of_new (kind := 0x03) hr (.inl h3) hs ?_)
  dsimp only
  rw [hfield, hdrop, if_neg hsize, if_neg (by simp [Loader.asked, hbeg]),
    if_neg (by simp [Loader.asked, Nat.not_lt.2 hle]), if_neg (by decide), hp]
  rfl

/-- The header is written once every section is good. -/
def State.transferred (s : State) : State := s.writeHeader.modLd fun l => { l with recBegun := false, state := 0 }

theorem State.transferred_alters (s : State) : Alters [.ld, .id, .out] s s.transferred :=
  (((Alters.refl _ _).modLd (by decide) _).modId (by decide) _).modLd (by decide) _

theorem State.transferred_out (s : State) : s.transferred.out = s.out := by
  unfold State.transferred State.writeHeader
  rw [State.modLd_out, State.modId_out, State.modLd_out]

theorem execRecoveryEnd_of_whole (hr : s.ld.recovery = true) (h3 : s.ld.recoveryReason ≠ 3)
    (hs : s.ld.recSeq ≠ some seq) (hbeg : s.ld.recBegun = true) (hn : s.ld.next = s.ld.total) :
    execRecoveryEnd seq s = .next (if sectionsGood s.ld.header s.ld.bytes = true then
      (s.modLd fun l => l.asked seq).transferred.respond seq 0x84 ([0, 0] ++ padBytes 32 (skeinDigest s.ld.header s.ld.bytes))
    else ((s.modLd fun l => l.asked seq).modLd fun l => { l with recBegun := false }).respond seq 0x84
      ([0x0A, 11] ++ List.replicate 32 0)) := by
  have hwhole : ¬ (!(s.modLd fun l => l.asked seq).ld.recBegun ||
      (s.modLd fun l => l.asked seq).ld.next != (s.modLd fun l => l.asked seq).ld.total) = true := by
    simp [Loader.asked, hbeg, hn]
  by_cases hg : sectionsGood s.ld.header s.ld.bytes = true
  · rw [if_pos hg]
    refine next_of_eq (State.recoveryRequest_of_new (kind := 0x04) hr (.inl h3) hs ?_)
    exact (if_neg hwhole).trans (if_neg (show ¬ (!sectionsGood s.ld.header s.ld.bytes) = true by rw [hg]; decide))
  · rw [if_neg hg]
    refine next_of_eq (State.recoveryRequest_of_new (kind := 0x04) hr (.inl h3) hs ?_)
    exact (if_neg hwhole).trans (if_pos (show (!sectionsGood s.ld.header s.ld.bytes) = true by simpa using hg))

theorem execBoot_of_good {low : Bool} (hr : s.ld.recovery = true) (h3 : s.ld.recoveryReason ≠ 3)
    (hs : s.ld.recSeq ≠ some seq) (hv : s.ld.skeinValid = true) (ha : s.ld.antiRollback ≤ s.ld.skeinSecurity)
    (hl : ¬(s.ld.recoveryReason = 1 ∧ low = true)) :
    execBoot seq low s = .next (((s.modLd fun l => l.asked seq).respond seq 0x85 [0]).resetTo 5 false) := by
  have hlow : (s.ld.recoveryReason == 1 && low) = false := by
    rw [Bool.eq_false_iff]
    simpa using hl
  have hgood : (s.ld.skeinValid && decide (s.ld.antiRollback ≤ s.ld.skeinSecurity) && !(s.ld.recoveryReason == 1 && low)) = true := by
    simp [hv, ha, hlow]
  unfold execBoot
  dsimp only
  rw [hgood, if_pos (by simp [hr, h3, hs])]
  refine next_of_eq (congrArg (State.resetTo · 5 false) ?_)
  exact State.recoveryRequest_of_new (kind := 0x05) hr (.inl h3) hs rfl

theorem execRecoveryLog_of_new {first n : Nat} (hr : s.ld.recovery = true) (hs : s.ld.recSeq ≠ some seq)
    (hf : first < 2 ^ 32) (h1 : 1 ≤ n) (h31 : n ≤ 31) :
    execRecoveryLog seq (leBytes 4 first ++ [n]) s =
      .next ((s.modLd fun l => l.asked seq).respond seq 0x86 ((s.logPart first n).flatMap logBytes)) := by
  have hcount : fieldAt (leBytes 4 first ++ [n]) 4 1 = n := by
    unfold fieldAt
    rw [List.drop_left' (length_leBytes _ _)]
    show n % 256 + 256 * 0 = n
    omega
  have hlen : (leBytes 4 first ++ [n]).length = 5 := by simp [length_leBytes]
  refine next_of_eq (State.recoveryRequest_of_new (kind := 0x06) hr (.inr (.inr rfl)) hs ?_)
  dsimp only
  rw [hcount, hlen, fieldAt_leBytes (by omega), if_pos (by simp [h1, h31])]
  rfl

/-- Settles O44, a request of the recovery at a time. -/
theorem recoveryCommands : Obligations.RecoveryCommands := by
  unfold Obligations.RecoveryCommands
  refine ⟨fun s hr hp => ?_, fun s seq hr hs => ?_, fun s seq kind b hr hs hc => ?_, fun s seq k payload b hr h3 hb hs hlen hk => ?_,
    fun s seq b p hr h3 hs hbeg h1 h1024 hle htot hp => ?_, fun s seq good bad hr h3 hs hbeg hn hg hb => ?_,
    fun s seq low hr h3 hs hv ha hl => ?_, fun s seq first n b hr hs hf h1 h31 hb => ?_⟩
  · exact exists_next (next_of_pos (by simp [hr, hp])) ⟨rfl, ((Alters.refl _ _).takeFree (by decide)).modOut (by decide) _⟩
  · exact exists_next (next_of_eq (State.recoveryRequest_of_new hr (.inr (.inl rfl)) hs rfl))
      ⟨rfl, rfl, State.respond_alters ((s.asked_alters seq).modLd (by decide) _)⟩
  · exact exists_next (next_of_eq (State.recoveryRequest_of_repeated hr hs hc)) ⟨rfl, State.modOut_alters _ _⟩
  · have he := execRecoveryBegin_of_new hr h3 hs hlen hk hb
    by_cases h0 : k = 0
    · rw [if_pos h0] at he
      exact exists_next he ⟨rfl, fun _ => ⟨rfl, rfl, rfl, rfl, rfl, rfl⟩, fun h => absurd h0 h,
        State.respond_alters ((s.asked_alters seq).modLd (by decide) _)⟩
    · rw [if_neg h0] at he
      exact exists_next he ⟨rfl, fun h => absurd h h0, fun _ => rfl, State.respond_alters (s.asked_alters seq)⟩
  · exact exists_next (execRecoveryData_of_next hr h3 hs hbeg h1 h1024 hle htot hp)
      ⟨rfl, rfl, hbeg, rfl, State.respond_alters ((s.asked_alters seq).modLd (by decide) _)⟩
  · have he := execRecoveryEnd_of_whole hr h3 hs hbeg hn
    rw [← hg, ← hb] at he
    have hask := (s.asked_alters seq).mono (qs := [.ld, .id, .out]) (by decide)
    by_cases hgood : sectionsGood s.ld.header s.ld.bytes = true
    · rw [if_pos hgood] at he
      exact exists_next he ⟨rfl, fun _ => ⟨rfl, rfl,
        (State.respond_out _ _ _ _).trans (congrArg (· ++ _) ((State.transferred_out _).trans (State.modLd_out _ _)))⟩,
        fun h => Bool.noConfusion (hgood.symm.trans h),
        State.respond_alters (hask.trans (State.transferred_alters _))⟩
    · rw [if_neg hgood] at he
      exact exists_next he ⟨rfl, fun h => absurd h hgood, fun _ => ⟨rfl,
        (State.respond_alters ((s.asked_alters seq).modLd (by decide) _) (by decide) (by decide)) .id (by decide),
        (State.respond_out _ _ _ _).trans (congrArg (· ++ _) ((State.modLd_out _ _).trans (State.modLd_out _ _)))⟩,
        State.respond_alters (hask.modLd (by decide) _)⟩
  · have he := execBoot_of_good hr h3 hs hv ha hl
    have hout := (s.modLd fun l => l.asked seq).respond_out seq 0x85 [0]
    have hpm : ((s.modLd fun l => l.asked seq).respond seq 0x85 [0]).pm = s.pm :=
      (State.respond_alters (s.asked_alters seq) (by decide) (by decide)) .pm (by decide)
    generalize (s.modLd fun l => l.asked seq).respond seq 0x85 [0] = v at he hout hpm
    obtain ⟨hkind, -, hstate, -⟩ := v.resetTo_pm 5 false
    exact exists_next he ⟨(v.resetTo_out 5 false).trans hout, Cleared.resetTo _ _ _, hkind, by simpa [hpm] using hstate⟩
  · subst hb
    exact exists_next (execRecoveryLog_of_new hr hs hf h1 h31) ⟨rfl, State.respond_alters (s.asked_alters seq)⟩

end

end Sys2Proof.Machine
end

section
/-! Settings: what a value is checked against, the pool that stores it, and what acts on it (R300, R507 to R512). -/

namespace Sys2Proof.Machine

-- One theorem after another: each thread of the checker takes 256 MB of stack.
set_option Elab.async false

section
variable {s t u : State}

/-! ### Configuration objects -/

theorem State.cfgGet_of_cfg (hc : t.cfg = s.cfg) (hi : t.id = s.id) (index sub : Nat) : t.cfgGet index sub = s.cfgGet index sub := by
  unfold State.cfgGet
  rw [hc, hi]

/-- A put writes the configuration, by what it holds and the variant alone. -/
theorem State.cfgPut_alters (s : State) (index sub v : Nat) : Alters [.cfg] s (s.cfgPut index sub v) := State.modCfg_alters _ _

theorem State.cfgPut_cfg (hc : t.cfg = s.cfg) (hi : t.id = s.id) (index sub v : Nat) :
    (t.cfgPut index sub v).cfg = (s.cfgPut index sub v).cfg := by
  unfold State.cfgPut
  rw [State.modCfg_cfg, State.modCfg_cfg, hc, hi]

/-- Puts from a list, each with an object and a value taken from its entry. -/
def State.putAll {α : Type} (s : State) (key : α → Nat × Nat × Nat) (l : List α) : State :=
  l.foldl (fun u p => u.cfgPut (key p).1 (key p).2.1 (key p).2.2) s

theorem State.putAll_alters {α : Type} (s : State) (key : α → Nat × Nat × Nat) (l : List α) :
    Alters [.cfg] s (s.putAll key l) := Alters.foldl (fun u _ => u.cfgPut_alters _ _ _) _ _

theorem State.putAll_cfg {α : Type} (key : α → Nat × Nat × Nat) (l : List α) (hc : t.cfg = s.cfg) (hi : t.id = s.id) :
    (t.putAll key l).cfg = (s.putAll key l).cfg := by
  induction l generalizing s t with
  | nil => exact hc
  | cons p l ih => exact ih (State.cfgPut_cfg hc hi _ _ _) hi

theorem State.putWrites_eq (s : State) (ws : List (Nat × Nat × Bytes)) :
    s.putWrites ws = s.putAll (fun w => (w.1 / 256, w.1 % 256, leNat w.2.2)) ws := rfl

/-! ### The rules of settings (R511, R515) -/

theorem State.rulesStatus_congr {l : List Nat} (hc : t.cfg = s.cfg) (hi : t.id = s.id) (hs : t.si = s.si)
    (hp : t.ty.paired = s.ty.paired) (hl : 0x2183 ∉ l) : t.rulesStatus l = s.rulesStatus l := by
  have hget := State.cfgGet_of_cfg hc hi
  have hsafe : ∀ index sub, t.safeGet index sub = s.safeGet index sub := fun index sub => by
    unfold State.safeGet
    rw [hs, hi]
  have hcapture : t.captureOk = s.captureOk := by
    funext d
    unfold State.captureOk State.dutyWord
    simp only [hget]
  have hpwm : t.pwmOk = s.pwmOk := by
    funext n
    unfold State.pwmOk State.cfgInt
    simp only [hget]
  have htel : ([0x2183].any l.contains) = false := by simp [hl]
  unfold State.rulesStatus
  simp only [State.can2Named, hcapture, hpwm, State.throttleOk, State.cfgInt, hget, hsafe, hp, htel, Bool.false_and,
    Bool.false_eq_true, if_false]
  rfl

/-- No STOP object is a telemetry list. -/
theorem Obj.stop_ne_telemetry {o : Obj} {index sub : Nat} (h : findObj index sub = some o) (ho : o.access = .stop) :
    o.index ≠ 0x2183 := by
  have hall : ∀ o ∈ objTable, o.access = .stop → o.index ≠ 0x2183 := by decide +kernel
  exact hall o (List.mem_of_find?_eq_some h) ho

theorem Moves.paired (h : Moves [] s t) : t.ty.paired = s.ty.paired := by
  have hty : Twin.traffic s.ty t.ty := h .ty (by decide)
  unfold Twin.traffic at hty
  rw [hty]

/-- The settings that a STOP value joins: the node IDs that wait, and the value itself. -/
def State.joined (s : State) (o : Obj) (sub v : Nat) : State :=
  (s.putAll (fun p : Nat × Nat => (0x1010, p.1 % 256, p.2))
    (s.stopWait.filter fun p => o.index == 0x1010 && p.1 / 256 == 0x1010)).cfgPut o.index sub v

theorem State.stopStatus_eq (s : State) (o : Obj) (sub v : Nat) : s.stopStatus o sub v =
    if o.index == 0x328B && v == 1 && s.can2Named then 0x13
    else if (o.index == 0x2880 || o.index == 0x2881) &&
      512 < (s.modStopWait fun w => waitPut w (objKey o.index sub) v).groupSum then 0x0A
    else if o.index == 0x2C82 && sub == 3 && !bit (s.cfgGet 0x3283 v) 0 then 0x0A
    else (s.joined o sub v).rulesStatus [o.index] := rfl

theorem State.joined_alters (s : State) (o : Obj) (sub v : Nat) : Alters [.cfg] s (s.joined o sub v) :=
  (s.putAll_alters _ _).trans (State.cfgPut_alters _ _ _ _)

theorem Moves.joined_rules (h : Moves [] s t) {o : Obj} (ho : o.index ≠ 0x2183) (sub v : Nat) :
    (t.joined o sub v).rulesStatus [o.index] = (s.joined o sub v).rulesStatus [o.index] := by
  have hw : t.stopWait = s.stopWait := h .stopWait (by decide)
  have hc : t.cfg = s.cfg := h .cfg (by decide)
  have hi : t.id = s.id := h .id (by decide)
  have hs : t.si = s.si := h .si (by decide)
  have at' := t.joined_alters o sub v
  have as' := s.joined_alters o sub v
  refine State.rulesStatus_congr ?_ ((at' .id (by decide)).trans (hi.trans (as' .id (by decide)).symm))
    ((at' .si (by decide)).trans (hs.trans (as' .si (by decide)).symm))
    ((congrArg Twin.paired (at' .ty (by decide))).trans (h.paired.trans (congrArg Twin.paired (as' .ty (by decide))).symm))
    (by simpa using Ne.symm ho)
  unfold State.joined
  rw [hw]
  exact State.cfgPut_cfg (State.putAll_cfg _ _ hc hi)
    ((t.putAll_alters _ _ .id (by decide)).trans (hi.trans (s.putAll_alters _ _ .id (by decide)).symm)) _ _ _

theorem Moves.stopStatus (h : Moves [] s t) {o : Obj} (ho : o.index ≠ 0x2183) (sub v : Nat) :
    t.stopStatus o sub v = s.stopStatus o sub v := by
  have hc : t.cfg = s.cfg := h .cfg (by decide)
  have hi : t.id = s.id := h .id (by decide)
  have hw : t.stopWait = s.stopWait := h .stopWait (by decide)
  have hsum : (t.modStopWait fun w => waitPut w (objKey o.index sub) v).groupSum =
      (s.modStopWait fun w => waitPut w (objKey o.index sub) v).groupSum := by
    unfold State.groupSum
    rw [State.modStopWait_stopWait, State.modStopWait_stopWait, hw]
    simp only [State.cfgGet, State.modStopWait_cfg, State.modStopWait_id, hc, hi]
  have hnamed : t.can2Named = s.can2Named := by
    unfold State.can2Named
    rw [State.cfgGet_of_cfg hc hi, State.cfgGet_of_cfg hc hi, State.cfgGet_of_cfg hc hi]
  rw [State.stopStatus_eq, State.stopStatus_eq, hsum, h.joined_rules ho, hnamed, State.cfgGet_of_cfg hc hi]

theorem Moves.ahead (h : Moves [] s t) (pick : Instr → Option Nat) (v : Nat) : t.ahead pick v = s.ahead pick v := by
  have hsy : Syben.traffic s.sy t.sy := h .sy (by decide)
  unfold Syben.traffic at hsy
  unfold State.ahead
  rw [hsy]

theorem Moves.stopped (h : Moves [] s t) (index sub : Nat) : t.stopped index sub = s.stopped index sub := by
  have hpc : t.pc = s.pc := h .pc (by decide)
  have hmode : ∀ k, (t.ctl k).mode = (s.ctl k).mode := fun k => by
    obtain ⟨l, hl⟩ := h.ctl k
    rw [hl]
  unfold State.stopped
  simp only [h.provenOpen, h.ahead, h.cfgGet, hpc, hmode]

/-! ### The pool (R300) -/

theorem List.length_eraseDups_le {α : Type} [BEq α] (l : List α) : l.eraseDups.length ≤ l.length := by
  induction hn : l.length using Nat.strong_induction_on generalizing l with
  | h n ih =>
    cases l with
    | nil => simp
    | cons a l =>
      rw [List.eraseDups_cons, List.length_cons]
      have hfilter := List.length_filter_le (fun b => !b == a) l
      rw [List.length_cons] at hn
      have := ih _ (by omega) (l.filter fun b => !b == a) rfl
      omega

/-- A settings write that the pool has room for is stored, whatever log entries it holds. -/
theorem State.storeSettings_of_room {indices : List Nat} (h : sharedCount s.nv.held + indices.length ≤ 21) (ht : t.nv = s.nv) :
    ∃ u, s.storeSettings t indices = some u ∧ Alters [.nv] t u := by
  unfold State.storeSettings
  extract_lets changed need free
  have hchanged : changed.length ≤ indices.length := by
    have h1 := List.length_filter_le (fun id => t.settingsBody id != s.settingsBody id) ((indices.map settingsId).eraseDups)
    have h2 := List.length_eraseDups_le (indices.map settingsId)
    rw [List.length_map] at h2
    exact h1.trans h2
  have hneed : need ≤ changed.length := List.length_filter_le _ _
  have hdrop : t.dropLogs need 64 = t := by
    rw [State.dropLogs, if_pos (by rw [ht]; omega)]
  rw [if_neg (by omega), hdrop]
  exact ⟨_, rfl, Alters.foldl (fun u id => Alters.journal (Alters.refl _ _) (by decide) _ _) _ _⟩

end

end Sys2Proof.Machine
end

section
/-! WRITE to a STAGED and a STOP object, COMMIT, COMMIT_APPLY and DISCARD (R300, R507 to R512). -/

namespace Sys2Proof.Machine

-- One theorem after another: each thread of the checker takes 256 MB of stack.
set_option Elab.async false

section
variable {s t u : State} {r : Req} {x : Session} {o : Obj} {index sub : Nat} {v : Bytes}

/-! ### A write of a value (R507, R510) -/

/-- An accepted write that its object takes is answered from what the object's rule left; it may travel to the twin. -/
theorem State.writeAt_of_accepted {unit : Bool} {role : Nat → Bool} {act : State → Session → Answer}
    (h : Accepted s r 0x11 (writePayload r index sub 0 v) 8 role x) (hl : v.length ≤ 142) :
    ∃ s1, Moves [] s s1 ∧ s.Entered s1 r x ∧ ∀ u, act s1 x = ok u → ∃ w, w.sy = u.sy ∧ Moves [] u w ∧
      s.writeAt r unit index sub 0 v role act = w.finish r unit x 0x11 0x00 [] := by
  obtain ⟨s1, hm, hent, he⟩ := State.request_of_accepted (act := fun t x =>
    let c : CmdRecord := { node := x.client, seq := r.seq, index, sub, offset := 0, value := v }
    if !unit && t.notAgreed r (recordSize c) then no t 0x10
    else
      let (u, status, body) := act t x
      if status == 0 && !unit then (u.travel c, status, body) else (u, status, body)) unit h
  refine ⟨s1, hm, hent, fun u hu => ?_⟩
  dsimp only at he
  rw [State.notAgreed_of_short hl rfl, Bool.and_false, if_neg Bool.false_ne_true, hu] at he
  cases unit with
  | false => exact ⟨_, State.travel_sy _ _, State.travel_moves _ _, he⟩
  | true => exact ⟨u, rfl, .refl _ _, he⟩

theorem nextRowWrite_of_staged (h : findObj index sub = some o) (ha : o.access = .staged) : nextRowWrite index sub 0 = false := by
  simp [nextRowWrite, h, ha]

theorem nextRowWrite_of_waiting (h : findObj index sub = some o) (ha : o.access = .stop) (he : o.effect ≠ .row) :
    nextRowWrite index sub 0 = false := by
  simp [nextRowWrite, h, ha, he]

theorem execWrite_of_class (ho : s.ownRow r index sub v = none) (hn : nextRowWrite index sub 0 = false) :
    execWrite r index sub 0 v s = .next (s.writeAt r (unitObject index sub) index sub 0 v (writeRole index sub) fun t x =>
      t.writeObject x index sub 0 v) := by
  refine next_of_eq ?_
  unfold State.writeAny
  rw [if_pos (by decide), ho]
  exact if_neg (by simp [hn])

theorem State.writeObject_of_staged (hm : modelLength index = none) (ho : findObj index sub = some o) (ha : o.access = .staged)
    (hl : v.length = o.bytes) : s.writeObject x index sub 0 v = s.writeStaged x o sub (leNat v) := by
  unfold State.writeObject
  rw [hm]
  dsimp only
  rw [ho]
  dsimp only
  rw [if_neg (by simp [ha]), if_neg (by simp [hl]), ha]

theorem State.writeObject_of_stop (hm : modelLength index = none) (ho : findObj index sub = some o) (ha : o.access = .stop)
    (hl : v.length = o.bytes) : s.writeObject x index sub 0 v = s.writeStop o sub (leNat v) := by
  unfold State.writeObject
  rw [hm]
  dsimp only
  rw [ho]
  dsimp only
  rw [if_neg (by simp [ha]), if_neg (by simp [hl]), ha]

/-- A session with another shadow. -/
def Session.shadowed (x : Session) (w : List (Nat × Nat × Bytes)) : Session := { x with shadow := w }

theorem State.writeStaged_of_good {n : Nat} {y : Session} {next : List (Nat × Nat × Bytes)} (hy : s.session x.num = some y)
    (hv : valueOk s.id.variant o sub n = true)
    (hnext : next = stage y.shadow (objKey o.index sub) (leBytes o.bytes (s.valueTaken o.index sub n)))
    (hsize : shadowSize next ≤ 4096) : s.writeStaged x o sub n = ok (s.modSession x.num fun y => y.shadowed next) := by
  unfold State.writeStaged
  rw [if_neg (by simp [hv]), hy]
  dsimp only [Option.map_some, Option.getD_some]
  rw [← hnext, if_neg (Nat.not_lt.2 hsize)]
  rfl

theorem Moves.valueTaken (h : Moves [] s t) (index sub n : Nat) : t.valueTaken index sub n = s.valueTaken index sub n := by
  unfold State.valueTaken
  rw [h.cfgGet]

theorem State.writeStop_of_good {n : Nat} (hv : valueOk s.id.variant o sub n = true) (hs : s.stopped o.index sub = true)
    (hstat : s.stopStatus o sub n = 0) (he : o.effect ≠ .row) (hroom : sharedCount s.nv.held ≤ 20) :
    ∃ u, s.writeStop o sub n = ok u ∧ Alters [.nv] (s.modStopWait fun w => waitPut w (objKey o.index sub) n) u := by
  obtain ⟨u, hu, ha⟩ := State.storeSettings_of_room (s := s)
    (t := s.modStopWait fun w => waitPut w (objKey o.index sub) n) (indices := [o.index]) (Nat.succ_le_succ hroom) rfl
  refine ⟨u, ?_, ha⟩
  unfold State.writeStop
  rw [if_neg (by simp [hv]), if_neg (by simp [hs])]
  dsimp only
  rw [if_neg (by simp [hstat]), if_neg he, hu]
  dsimp only
  rw [if_neg he]

/-! ### Commits (R510 to R512) -/

theorem Syben.traffic.commits {a b : Syben} (h : a.traffic b) : b.commits = a.commits := by
  unfold Syben.traffic at h
  rw [h]

theorem State.popSlot_fst (s : State) (r : Req) : (s.popSlot r).1 = if r.source = .spi then s.sy.queue.head? else none := by
  unfold State.popSlot
  split <;> rfl

theorem State.popSlot_out (s : State) (r : Req) : (s.popSlot r).2.out = s.out := by
  unfold State.popSlot
  split <;> rfl

theorem execCommit_of_accepted (h : Accepted s r 0x13 [] 0 operator x) :
    ∃ s1, execCommit r s = .next ((s1.popSlot r).2.agreeCommit { slot := (s1.popSlot r).1, req := r, session := r.session }) ∧
      Moves [] s s1 ∧ s1.sy.queue = s.sy.queue ∧ s1.out = s.out := by
  obtain ⟨s1, he, hm⟩ := State.enter_accepted false h
  obtain ⟨hq, -, ho⟩ := State.enter_quiet he
  refine ⟨s1, ?_, hm, hq, ho⟩
  unfold execCommit
  rw [he]
  dsimp only
  rw [State.session_num h.session]

/-! ### The sessions under what values do -/

theorem State.parentLost_sessions (s : State) : s.parentLost.sy.sessions = s.sy.sessions := by
  unfold State.parentLost
  extract_lets u
  split
  · refine (State.raise_sessions _ _ _ _).trans ?_
    split <;> rfl
  · rfl

theorem State.ptpStartStop_sessions (s : State) : s.ptpStartStop.sy.sessions = s.sy.sessions := by
  unfold State.ptpStartStop
  split
  · split <;> rfl
  · dsimp only
    split
    · exact s.parentLost_sessions
    · rfl

theorem State.settleChange_alters (s t : State) (d : Nat) : Alters [.ca] t (s.settleChange t d) :=
  .ite (State.modCa_alters _ _) (.ite (State.modCa_alters _ _) (.refl _ _))

theorem State.deferHandOver_alters (s : State) (d : Nat) : Alters [.ca] s (s.deferHandOver d) :=
  .ite (State.modCa_alters _ _) (.refl _ _)

theorem State.buildLists_alters (s : State) : Alters [.cn] s s.buildLists :=
  Alters.foldl (fun _ _ => .ite (State.modCn_alters _ _) (.refl _ _)) _ _

theorem State.valuesActed_sessions (s t : State) (indices : List Nat) :
    (s.valuesActed t indices).sy.sessions = t.sy.sessions := by
  unfold State.valuesActed
  extract_lets on duties t1 t2
  have h1 : Alters [.ca] t t1 := .ite
    ((Alters.foldl (fun u d => s.settleChange_alters u d) _ _).trans
      (Alters.foldl (fun u d => .ite (u.deferHandOver_alters d) (.refl _ _)) _ _)) (.refl _ _)
  have h2 : Alters [.cn] t1 t2 := .ite t1.buildLists_alters (.refl _ _)
  have hsy : t2.sy = t.sy := (h2 .sy (by decide)).trans (h1 .sy (by decide))
  clear_value t2
  split
  · exact t2.ptpStartStop_sessions.trans (congrArg Syben.sessions hsy)
  · exact congrArg Syben.sessions hsy

theorem State.logDropped_sessions (s : State) (q : LogRec) : (s.logDropped q).sy.sessions = s.sy.sessions := by
  unfold State.logDropped
  dsimp only
  split
  · rfl
  · exact State.raise_sessions _ _ _ _

theorem State.logAdmit_sessions (s : State) (q : LogRec) : (s.logAdmit q).sy.sessions = s.sy.sessions := by
  unfold State.logAdmit
  dsimp only
  split
  · rw [State.nvKick_sy]
    rfl
  · split
    · rw [State.nvKick_sy]
      exact State.logDropped_sessions _ _
    · exact State.logDropped_sessions _ _

theorem State.putWrites_alters (s : State) (ws : List (Nat × Nat × Bytes)) : Alters [.cfg] s (s.putWrites ws) := by
  rw [State.putWrites_eq]
  exact State.putAll_alters _ _ _

theorem State.putWrites_cfg (hc : t.cfg = s.cfg) (hi : t.id = s.id) (ws : List (Nat × Nat × Bytes)) :
    (t.putWrites ws).cfg = (s.putWrites ws).cfg := by
  rw [State.putWrites_eq, State.putWrites_eq]
  exact State.putAll_cfg _ _ hc hi

/-! ### A commit at its boundary (R511, R512) -/

theorem State.commitAnswer_of_open {c : Commit} {status : Nat} {body : Bytes} (hc : c.closed = false)
    (hx : s.session c.session = some x) (hs : c.req.source ≠ .spi ∨ c.slot ≠ none) :
    s.commitAnswer c status body = (s.pushSlot c.slot).finish c.req false x 0x13 status body := by
  have hin : inSlot c.req c.slot = c.req := by
    unfold inSlot
    refine if_neg ?_
    rcases hs with h | h
    · simp [h]
    · simp [Option.isNone_iff_eq_none, h]
  have hpush : (s.pushSlot c.slot).session c.session = some x := hx
  unfold State.commitAnswer
  dsimp only
  rw [hc, if_neg Bool.false_ne_true, hpush, hin]

/-- A commit that its rules and the pool let through. -/
theorem State.applyCommit_of_good {c : Commit} (hc : c.closed = false) (hx : u.session c.session = some x)
    (hr : (u.putWrites x.shadow).rulesStatus ((x.shadow.map fun w => w.1 / 256).eraseDups) = 0)
    (hroom : sharedCount u.nv.held + x.shadow.length ≤ 21) :
    ∃ w, Alters [.nv] (u.putWrites x.shadow) w ∧ u.applyCommit c =
      (((u.valuesActed w ((x.shadow.map fun w => w.1 / 256).eraseDups)).modSession c.session (·.shadowed [])).logKind 6
        (c.session % 65536 + 65536 * x.shadow.length)).commitAnswer c 0x00 (leBytes 4 u.patNo) := by
  have hlen : ((x.shadow.map fun w => w.1 / 256).eraseDups).length ≤ x.shadow.length :=
    (List.length_eraseDups_le _).trans (by rw [List.length_map])
  have hnv : (u.putWrites x.shadow).nv = u.nv := (Moves.self.putWrites (ps := [.cfg])) .nv (by decide)
  obtain ⟨w, hw, ha⟩ := State.storeSettings_of_room (s := u) (t := u.putWrites x.shadow)
    (indices := (x.shadow.map fun w => w.1 / 256).eraseDups) (by omega) hnv
  refine ⟨w, ha, ?_⟩
  unfold State.applyCommit
  rw [hc, if_neg Bool.false_ne_true, hx]
  dsimp only [Option.map_some, Option.getD_some]
  rw [hr, if_neg (by decide), hw, if_neg Bool.false_ne_true]
  rfl

theorem State.applyCommit_effects {c : Commit} (hc : c.closed = false) (hx : u.session c.session = some x)
    (hs : c.req.source ≠ .spi ∨ c.slot ≠ none)
    (hr : (u.putWrites x.shadow).rulesStatus ((x.shadow.map fun w => w.1 / 256).eraseDups) = 0)
    (hroom : sharedCount u.nv.held + x.shadow.length ≤ 21) :
    (u.applyCommit c).cfg = (u.putWrites x.shadow).cfg ∧ (∃ y, (u.applyCommit c).session c.session = some y ∧ y.shadow = []) ∧
      Answered (u.applyCommit c) c.req 0x13 0 (leBytes 4 u.patNo) ∧
      Moves [.tb, .cfg, .nv, .lg, .ca, .cn, .fm] u (u.applyCommit c) := by
  obtain ⟨w, ha, he⟩ := State.applyCommit_of_good hc hx hr hroom
  generalize hi : (x.shadow.map fun w => w.1 / 256).eraseDups = indices at he
  have hv : Moves [.tb, .nv, .lg, .ca, .cn, .fm] (u.putWrites x.shadow) (((u.valuesActed w indices).modSession c.session
      (·.shadowed [])).logKind 6 (c.session % 65536 + 65536 * x.shadow.length)) :=
    ((ha.moves.mono (by decide)).valuesActed.modSession).logKind (by decide) (by decide) (by decide) _ _
  have hw : w.session c.session = some x := (State.session_of_sessions (s := u)
    (congrArg Syben.sessions ((ha .sy (by decide)).trans (u.putWrites_alters _ .sy (by decide)))) _).trans hx
  have hses : (((u.valuesActed w indices).modSession c.session (·.shadowed [])).logKind 6
      (c.session % 65536 + 65536 * x.shadow.length)).session c.session = some (x.shadowed []) := by
    refine (State.session_of_sessions (State.logAdmit_sessions _ _) _).trans ?_
    refine (State.session_modSession ?_ _ _ _).trans ((if_pos rfl).trans ?_)
    · exact fun _ => rfl
    · rw [State.session_of_sessions (u.valuesActed_sessions w indices), hw]
      rfl
  generalize ((u.valuesActed w indices).modSession c.session (·.shadowed [])).logKind 6
    (c.session % 65536 + 65536 * x.shadow.length) = v at he hv hses
  rw [State.commitAnswer_of_open hc hses hs] at he
  have hfin : Moves [] v (u.applyCommit c) := he ▸ Moves.self.pushSlot.finish
  have hall : Moves [.tb, .nv, .lg, .ca, .cn, .fm] (u.putWrites x.shadow) (u.applyCommit c) := hv.then hfin (by decide)
  refine ⟨hall .cfg (by decide), ?_, he ▸ State.finish_answered _ _ _ _ _ _ _,
    ((u.putWrites_alters _).moves.mono (by decide)).trans (hall.mono (by decide))⟩
  have hnum : (x.shadowed []).num = c.session := State.session_num hses
  obtain ⟨m, hm⟩ := (v.pushSlot c.slot).finish_session c.req false (x.shadowed []) 0x13 0x00 (leBytes 4 u.patNo) c.session
  rw [← he, if_pos hnum.symm] at hm
  exact ⟨_, hm.trans (congrArg (Option.map _) hses), rfl⟩

theorem State.agreeCommit_commits (hcommits : u.sy.commits = s.sy.commits) (hns : u.ns = s.ns) (c : Commit) :
    (u.agreeCommit c).sy.commits = s.sy.commits ++ [{ c with pattern := s.ns / 10000000, seq := c.req.seq }] := by
  unfold State.agreeCommit
  rw [State.modSy_sy, hcommits, hns]

/-- The module when the commit at the head of the list acts: at once where its pattern is over, else at the next boundary. -/
def State.boundary (s : State) (c : Commit) : State :=
  if c.pattern < s.ns / 10000000 then s else s.runTo ((s.ns / 10000000 + 1) * 10000000)

theorem State.boundary_alters (s : State) (c : Commit) : Alters [.tb] s (s.boundary c) := .ite (.refl _ _) (State.runTo_alters _ _)

theorem execCommitApply_of_head {c : Commit} {rest : List Commit} (h : s.sy.commits = c :: rest) :
    execCommitApply s = .next (((s.boundary c).modSy fun y => { y with commits := rest }).applyCommit c) := by
  unfold execCommitApply
  rw [h]
  rfl

/-- COMMIT_APPLY from the boundary `v` on. -/
theorem State.applyCommit_at {v : State} {c : Commit} {rest : List Commit} (hsv : Alters [.tb] s v)
    (hu : u = v.modSy fun y => { y with commits := rest }) (hclosed : c.closed = false) (hx : s.session c.session = some x)
    (hsrc : c.req.source ≠ .spi ∨ c.slot ≠ none)
    (hrules : (u.putWrites x.shadow).rulesStatus ((x.shadow.map fun w => w.1 / 256).eraseDups) = 0)
    (hroom : sharedCount s.nv.held + x.shadow.length ≤ 21) :
    (u.applyCommit c).cfg = (s.putWrites x.shadow).cfg ∧ (u.applyCommit c).sy.commits = rest ∧
      (∃ y, (u.applyCommit c).session c.session = some y ∧ y.shadow = []) ∧
      Answered (u.applyCommit c) c.req 0x13 0 (leBytes 4 u.patNo) ∧
      Moves [.tb, .cfg, .sy, .nv, .lg, .ca, .cn, .fm] s (u.applyCommit c) := by
  have hvu : Alters [.sy] v u := hu ▸ State.modSy_alters _ _
  have hsyu : u.sy = { v.sy with commits := rest } := hu ▸ v.modSy_sy _
  clear hu
  have hnv : u.nv = s.nv := (hvu .nv (by decide)).trans (hsv .nv (by decide))
  have hcfg : u.cfg = s.cfg := (hvu .cfg (by decide)).trans (hsv .cfg (by decide))
  have hid : u.id = s.id := (hvu .id (by decide)).trans (hsv .id (by decide))
  have hses : u.sy.sessions = s.sy.sessions := by
    rw [hsyu, show v.sy = s.sy from hsv .sy (by decide)]
  have hrest : u.sy.commits = rest := by rw [hsyu]
  obtain ⟨hput, hy, hans, hm⟩ :=
    State.applyCommit_effects hclosed ((State.session_of_sessions hses _).trans hx) hsrc hrules (hnv ▸ hroom)
  exact ⟨hput.trans (State.putWrites_cfg hcfg hid _), (Syben.traffic.commits (hm .sy (by decide))).trans hrest, hy, hans,
    ((hsv.moves.mono (by decide)).trans (hvu.moves.mono (by decide))).trans (hm.mono (by decide))⟩

/-- Settles O45, a request at a time, and the boundary of a commit. -/
theorem settingsCommands : Obligations.SettingsCommands := by
  unfold Obligations.SettingsCommands
  refine ⟨fun s r x o index sub v next h hv hown hmodel ho ha hlen hval hnext hsize => ?_,
    fun s r x o index sub v h hv hown hmodel ho ha hlen hval hstop hstat heff hroom => ?_, fun s r x h => ?_,
    fun s u c rest x hcom hclosed hx hsrc hu hrules hroom => ?_, fun s r x h => ?_⟩
  · obtain ⟨s1, hm, hent, hact⟩ := State.writeAt_of_accepted (unit := unitObject index sub)
      (act := fun t x => t.writeObject x index sub 0 v) h (by omega)
    have hnum := State.session_num h.session
    have hy : s1.session x.num = some (x.entered r s.tb.now) := (hent _).trans (if_pos hnum)
    have hid : s1.id = s.id := hm .id (by decide)
    obtain ⟨w, hsy, hw, he⟩ := hact _ ((State.writeObject_of_staged hmodel ho ha hlen).trans
      (State.writeStaged_of_good (next := next) hy (hid ▸ hval) (by rw [hm.valueTaken]; exact hnext) hsize))
    have hws : w.session r.session = some ((x.entered r s.tb.now).shadowed next) := by
      rw [State.session_of_sessions (congrArg Syben.sessions hsy)]
      refine (State.session_modSession ?_ _ _ _).trans ((if_pos hnum.symm).trans ?_)
      · exact fun _ => rfl
      · rw [← hnum, hy]
        rfl
    obtain ⟨m, hfin⟩ := w.finish_session r (unitObject index sub) x 0x11 0x00 [] r.session
    rw [if_pos hnum.symm, hws] at hfin
    exact ⟨_, _, (execWrite_of_class hown (nextRowWrite_of_staged ho ha)).trans (next_of_eq he),
      State.finish_answered _ _ _ _ _ _ _, hfin, rfl, ((hm.modSession).trans hw).finish⟩
  · obtain ⟨s1, hm, -, hact⟩ := State.writeAt_of_accepted (unit := unitObject index sub)
      (act := fun t x => t.writeObject x index sub 0 v) h (by omega)
    have hid : s1.id = s.id := hm .id (by decide)
    have hnv : s1.nv = s.nv := hm .nv (by decide)
    have hwait : s1.stopWait = s.stopWait := hm .stopWait (by decide)
    obtain ⟨u, hu, hau⟩ := s1.writeStop_of_good (hid ▸ hval) ((hm.stopped _ _).trans hstop)
      ((hm.stopStatus (Obj.stop_ne_telemetry ho ha) _ _).trans hstat) heff (hnv ▸ hroom)
    obtain ⟨w, -, hw, he⟩ := hact u ((State.writeObject_of_stop hmodel ho ha hlen).trans hu)
    refine exists_next ((execWrite_of_class hown (nextRowWrite_of_waiting ho ha heff)).trans (next_of_eq he))
      ⟨State.finish_answered _ _ _ _ _ _ _, ?_, ?_⟩
    · refine (hw.finish .stopWait (by decide)).trans ((hau .stopWait (by decide)).trans ?_)
      rw [State.modStopWait_stopWait, hwait]
    · exact ((hm.mono (by decide)).modStopWait (by decide) _).trans (((hau.moves.mono (by decide)).trans (hw.mono (by decide))).finish)
  · obtain ⟨s1, he, hm, hq, hout⟩ := execCommit_of_accepted h
    refine exists_next he ⟨?_, (State.popSlot_out _ _).trans hout, (hm.mono (by decide)).popSlot.agreeCommit⟩
    have hpop : Moves [] s (s1.popSlot r).2 := hm.popSlot
    rw [State.agreeCommit_commits (Syben.traffic.commits (hpop .sy (by decide))) hpop.ns, State.popSlot_fst, hq]
  · obtain ⟨hcfg, hrest, ⟨y, hy, hshadow⟩, hans, hm⟩ :=
      State.applyCommit_at (s.boundary_alters c) hu hclosed hx hsrc hrules hroom
    exact ⟨_, y, (execCommitApply_of_head hcom).trans (next_of_eq (congrArg (·.applyCommit c) hu.symm)), hcfg, hrest, hy, hshadow, hans, hm⟩
  · obtain ⟨s1, hm, hent, he⟩ := State.request_of_accepted
      (act := fun t x => ok (t.modSession x.num (·.shadowed []))) false h
    have hnum := State.session_num h.session
    obtain ⟨m, hfin⟩ := (s1.modSession x.num (·.shadowed [])).finish_session r false x 0x14 0x00 [] r.session
    have hs1 : (s1.modSession x.num (·.shadowed [])).session r.session = some ((x.entered r s.tb.now).shadowed []) := by
      refine (State.session_modSession ?_ _ _ _).trans ((if_pos hnum.symm).trans ?_)
      · exact fun _ => rfl
      · rw [hent, if_pos rfl]
        rfl
    rw [if_pos hnum.symm, hs1] at hfin
    exact ⟨_, _, next_of_eq he, State.finish_answered _ _ _ _ _ _ _, hfin, rfl, hm.modSession.finish⟩

end

end Sys2Proof.Machine
end

section
/-! Claim frames, the hand-over between the twins and a rejoin (R389, R390, R394, R402, R407). -/

namespace Sys2Proof.Machine

-- One theorem after another: each thread of the checker takes 256 MB of stack.
set_option Elab.async false

section
variable {s t u : State} {r : Req} {x : Session}

/-! ### Frames to the twin (R368) -/

theorem State.toTwin_out (s : State) (f : TwinFrame) : (s.toTwin f).out = s.out ++ [s.frameOf f] := rfl

theorem State.toTwin_alters (s : State) (f : TwinFrame) : Alters [.out] s (s.toTwin f) := State.modOut_alters _ _

/-! ### The claim (R394, R402) -/

/-- The gate is open and the twin can take the claim, which an accepted request leaves as it was. -/
theorem Moves.yields {ps : List Part} (h : Moves ps s t) (hs : [.os, .ty, .si].all (· ∉ ps) := by decide) :
    (t.os.gate && t.twinHealthy) = (s.os.gate && s.twinHealthy) := by
  have hos : t.os = s.os := h .os (by simp_all)
  rw [hos, h.twinHealthy (by simp_all) (by simp_all)]

theorem State.handOverAct_of_holder (h : (s.os.gate && s.twinHealthy) = true) :
    s.handOverAct 1 = ok (s.modTy fun y => { y with yielding := 1 }) := by
  unfold State.handOverAct State.yieldStart
  rw [if_neg (by decide), if_pos h]
  rfl

theorem State.handOverAct_of_other (h : (s.os.gate && s.twinHealthy) = false) : s.handOverAct 1 = no s 0x0B := by
  unfold State.handOverAct State.yieldStart
  rw [if_neg (by decide), if_neg (by simp [h])]
  rfl

theorem State.yieldEnd_of_none {taken : Bool} (h : s.pm.softDue = 0) :
    s.yieldEnd taken = s.modTy fun y => { y with yielding := 0 } := by
  unfold State.yieldEnd
  simp only [h]
  rfl

theorem State.rejoinAct_of_observer (h : s.ty.state = .observer) :
    s.rejoinAct 1 = ok (s.modTy fun y => { y with joinFails := 0, joinStamps := [] }).joinStart := by
  unfold State.rejoinAct
  rw [if_neg (by decide), if_neg (by simp [h])]

theorem State.joinStart_of_same (hv : 2 ≤ s.ty.version) (hh : s.ty.hello.map (·.stepNo) = some s.id.stepNo) :
    s.joinStart = (s.modTy fun y => { y with state := .joining, joinState := 1, joinRetry := false }).toTwin (.join 1 0) :=
  if_pos (by simp [hv, hh])

/-- Settles O46, an instant at a time: the gate and the twin's health say whether a hand-over is taken. -/
theorem claimCommands : Obligations.ClaimCommands := by
  unfold Obligations.ClaimCommands
  refine ⟨fun s word row hd hr hw => ?_, fun s word row => ?_, fun s r x h hg ht => ?_, fun s r x hg ht => ?_,
    fun s r x h hno => ?_, fun s hy hw hs => ?_, fun s r x h ho => ?_, fun s r x ho hv hh => ?_⟩
  · exact exists_next (next_of_eq (if_neg (by simp [hd, hr, Nat.not_lt.2 hw]))) ⟨rfl, State.modTy_alters _ _⟩
  · exact next_of_pos (by simp)
  · refine exists_next rfl (State.liveReq_waits true _ _ (by decide) h fun s1 hm => ?_)
    rw [State.handOverAct_of_holder (hm.yields.trans (by simp [hg, ht]))]
    rfl
  · exact ⟨_, State.handOverAct_of_holder (by simp [hg, ht]), rfl, State.modTy_alters _ _⟩
  · have hact : ∀ s1, Moves [] s s1 → s1.handOverAct 1 = no s1 0x0B := fun s1 hm =>
      State.handOverAct_of_other (hm.yields.trans (by rcases hno with h | h <;> simp [h]))
    obtain ⟨s1, hm, hfin, hans⟩ := State.liveReq_refused (cmd := .handOverRequest r 1) true
      (fun t _ => t.handOverAct 1) (by decide) h fun s1 hm => by
        rw [hact s1 hm]
        exact Nat.succ_ne_zero 10
    rw [hact s1 hm] at hfin hans
    exact exists_next rfl ⟨hans, hm.trans hfin⟩
  · refine exists_next (next_of_eq ((if_neg (by simp [hy, hw])).trans (State.yieldEnd_of_none hs))) ⟨rfl, State.modTy_alters _ _⟩
  · refine exists_next rfl (State.liveReq_waits true _ _ (by decide) h fun s1 hm => ?_)
    have hty : s1.ty.state = s.ty.state := congrArg (·.state) (hm .ty (by decide))
    rw [State.rejoinAct_of_observer (hty.trans ho)]
    rfl
  · refine ⟨_, (State.rejoinAct_of_observer ho).trans (congrArg ok (State.joinStart_of_same hv hh)), rfl, rfl, ?_⟩
    exact (((State.modTy_alters _ _).mono (by decide)).trans ((State.modTy_alters _ _).mono (by decide))).trans
      ((State.toTwin_alters _ _).mono (by decide))

end

end Sys2Proof.Machine
end

section
/-! The pairing of the twins (R366, R370, R430). -/

namespace Sys2Proof.Machine

-- One theorem after another: each thread of the checker takes 256 MB of stack.
set_option Elab.async false

/-- Side B of a pair that is not complete, its safety set confirmed. -/
def sideBPairing : State :=
  { State.reset with
    pm := { State.reset.pm with state := .ready, step := 8 }
    ty := { State.reset.ty with state := .pairing, sideB := true }
    si := { State.reset.si with setConfirmed := true }
    cfg := [(objKey 0x2F80 1, 1)] }

/-- Side A's HELLO, which shows its reception of this unit's and a round trip of 2 ns. -/
def roundTripHello : Hello := { flags := 9, roundTrip := 2 }

theorem sideBPairing_delay (t : State) (h : execTwinHello roundTripHello sideBPairing = .next t) : t.ty.delay = 1 := by
  obtain rfl := Host.Outcome.next.inj h
  decide +kernel

/-- Refutes O47: the fourth clause leaves the Twin Yarn delay as it was, which the HELLO that completes pairing sets to half
its round trip (R430). -/
theorem not_pairingCommands : ¬ Obligations.PairingCommands := by
  unfold Obligations.PairingCommands
  rintro ⟨-, -, -, h, -⟩
  obtain ⟨t, -, e, -, -, hty, -⟩ := h sideBPairing roundTripHello (by decide +kernel) (by decide +kernel) rfl rfl rfl rfl
    (by decide +kernel) rfl (by decide) (by decide) (by decide) (by decide) rfl (by decide +kernel) (by decide +kernel)
  have hd := sideBPairing_delay t e
  rw [hty] at hd
  exact absurd hd (by decide +kernel)

end Sys2Proof.Machine
end

section
/-! The frames of a row, PATTERN_DATA and joins (R368, R377 to R380, R401, R402). -/

namespace Sys2Proof.Machine

-- One theorem after another: each thread of the checker takes 256 MB of stack.
set_option Elab.async false

section
variable {s t u : State}

/-! ### PATTERN_DATA (R368, R380) -/

/-- PATTERN_DATA of a kind is taken: the unit talks to its twin, the segment fits, and the version knows the kind. -/
theorem execPatternData_of_taken {kind total bytes : Nat} {item : PatternItem} (hd : s.deaf = false) (hp : s.ty.paired = true)
    (hk : kind = itemKind item) (hb : bytes ≤ 504) (hv : kind ≤ 3 ∨ 2 ≤ s.ty.version) :
    execPatternData kind 0 total bytes item s = .next (
      if bytes < total then s.modTy fun y => { y with segments := (kind, 1, bytes) :: s.ty.segments.filter fun x => x.1 != kind }
      else (s.modTy fun y => { y with segments := s.ty.segments.filter fun x => x.1 != kind }).takeItem item) := by
  have hguard : ¬ (s.deaf || !s.ty.paired || kind != itemKind item || 504 < bytes || (4 ≤ kind && s.ty.version < 2)) = true := by
    simp [hd, hp, ← hk]
    omega
  refine next_of_eq ((if_neg hguard).trans ?_)
  simp

theorem length_padBytes (n : Nat) (b : Bytes) : (padBytes n b).length = n := by
  simp [padBytes]
  omega

/-- A key that the twin sets for a client with no session here. -/
theorem State.takeItem_of_key {client seq slot : Nat} {salt key : Bytes} (hc : ∀ x ∈ s.sy.sessions, x.client ≠ client) :
    s.takeItem (.command (.keySet client seq slot salt key)) =
      (s.putKey slot salt key).modTy fun y => { y with longDue := s.ty.longDue } := by
  have hnone : (s.sy.sessions.find? fun x => x.client == client) = none :=
    List.find?_eq_none.2 fun x hx => by simpa using hc x hx
  unfold State.takeItem State.takeCommand
  dsimp only
  rw [hnone]

/-- The key store once a key of the twin's is in it. -/
theorem State.putKey_of_twin {slot : Nat} {salt key : Bytes} (f : Twin → Twin) (hu : Alters [.ty] s u) (h6 : slot ≠ 6)
    (ht : t = (u.putKey slot salt key).modTy f) :
    t.keySlot slot = { salt := padBytes 16 salt, key } ∧ (∀ n, n ≠ slot → t.keySlot n = s.keySlot n) ∧
      Alters [.ty, .sy, .nv] s t := by
  obtain ⟨hsy, ha⟩ := u.putKey_effects slot salt key
  have hpad : padBytes 16 (padBytes 16 salt) = padBytes 16 salt := padBytes_of_length (length_padBytes 16 salt)
  have hall : Alters [.ty, .sy, .nv] s t :=
    ht ▸ ((hu.mono (by decide)).trans (ha.mono (by decide))).modTy (by decide) _
  have hkeys : t.sy.keys = tabPut {} slot { salt := padBytes 16 (padBytes 16 salt), key } s.sy.keys := by
    have husy : u.sy = s.sy := hu .sy (by decide)
    rw [ht, hpad, State.modTy_sy, hsy, husy]
  exact ⟨State.keySlot_put (length_padBytes 16 salt) h6 hkeys,
    fun n hn => State.keySlot_put_other hkeys (hall .id (by decide)) hn, hall⟩

/-! ### Joins (R401, R402) -/

/-- The failures of joins in the last 10 min, with one that happens now. -/
def State.joinStampsNow (s : State) : List Stamp :=
  s.tb.now :: s.ty.joinStamps.filter fun t => t.epoch == s.tb.now.epoch && s.ns < stampNs t + 600000000000

/-- The twin's part after a join has failed (R402). -/
def Twin.joinFailed (y : Twin) (stamps : List Stamp) : Twin :=
  { y with state := .observer, joinState := 0, joinStamps := stamps, joinFails := min 255 (y.joinFails + 1)
           joinRetry := decide (stamps.length < 3) }

theorem State.joinFail_eq (s : State) : s.joinFail =
    if 3 ≤ s.joinStampsNow.length then (s.modTy (·.joinFailed s.joinStampsNow)).raiseEvent 0x0F06
    else s.modTy (·.joinFailed s.joinStampsNow) := rfl

/-- Raising a fault leaves the joins as they were. -/
theorem Moves.joinFailed {ps : List Part} {y : Twin} {stamps : List Stamp} (h : Moves ps t u) (hty : t.ty = y.joinFailed stamps)
    (hp : .ty ∉ ps := by decide) :
    u.ty.state = .observer ∧ u.ty.joinState = 0 ∧ u.ty.joinStamps = stamps ∧ u.ty.joinRetry = decide (stamps.length < 3) := by
  have hu : Twin.traffic t.ty u.ty := h .ty hp
  unfold Twin.traffic at hu
  rw [hu, hty]
  exact ⟨rfl, rfl, rfl, rfl⟩

theorem State.eventFm_modTy (s : State) {f : Twin → Twin} (hr : (f s.ty).wordRows = s.ty.wordRows)
    (hw : (f s.ty).wordTwin = s.ty.wordTwin) (hh : (f s.ty).hello = s.ty.hello) (code item : Nat) :
    (s.modTy f).eventFm code item = s.eventFm code item := by
  have hty : (s.modTy f).ty = f s.ty := s.modTy_ty f
  unfold State.eventFm State.inPair State.twinHealthy
  simp only [hty, hr, hw, hh]
  rfl

/-- A failed join, and its fault at the third. -/
theorem State.joinFail_effects (s : State) : ∃ stamps, s.joinFail.ty.state = .observer ∧ s.joinFail.ty.joinState = 0 ∧
    s.joinFail.ty.joinStamps = s.tb.now :: stamps ∧ s.joinFail.ty.joinRetry = decide ((s.tb.now :: stamps).length < 3) ∧
    s.joinFail.fm = (if 3 ≤ (s.tb.now :: stamps).length then s.eventFm 0x0F06 0xFFFF else s.fm) ∧
    Moves [.ty, .fm] s s.joinFail := by
  have hfail : Alters [.ty] s (s.modTy (·.joinFailed s.joinStampsNow)) := s.modTy_alters _
  rw [State.joinFail_eq]
  refine ⟨s.ty.joinStamps.filter fun t => t.epoch == s.tb.now.epoch && s.ns < stampNs t + 600000000000, ?_⟩
  change _ ∧ _ ∧ _ = s.joinStampsNow ∧ _ = decide (s.joinStampsNow.length < 3) ∧
    _ = (if 3 ≤ s.joinStampsNow.length then _ else _) ∧ _
  split
  · have hm : Moves [.fm] _ ((s.modTy (·.joinFailed s.joinStampsNow)).raiseEvent 0x0F06) := Moves.self.raiseEvent (by decide) _ _
    obtain ⟨hs, hj, hst, hr⟩ := hm.joinFailed (s.modTy_ty _)
    refine ⟨hs, hj, hst, hr, (State.raiseEvent_fm _ _ _).trans (s.eventFm_modTy rfl rfl rfl _ _), ?_⟩
    exact (hfail.moves.mono (by decide)).trans (hm.mono (by decide))
  · obtain ⟨hs, hj, hst, hr⟩ := (Moves.self (s := s.modTy (·.joinFailed s.joinStampsNow)) (ps := [])).joinFailed (s.modTy_ty _)
    exact ⟨hs, hj, hst, hr, rfl, hfail.moves.mono (by decide)⟩

/-- Settles O48, a frame, an item or an instant of a join at a time. -/
theorem twinDataCommands : Obligations.TwinDataCommands := by
  unfold Obligations.TwinDataCommands
  refine ⟨fun s m hd hr => ?_, fun s crcs hd => ?_, fun s m hd hr => ?_, fun s kind total bytes item hd hp hk hb hv hlt => ?_,
    fun s client seq slot total bytes salt key hd hp hb ht hc h6 => ?_, fun s hd hp hv hg => ?_, fun s ps hd hs hj => ?_,
    fun s hd hp hs => ?_, fun s hs => ?_, fun s hs hj hp hv hh => ?_⟩
  · exact exists_next (next_of_eq (if_neg (by simp [hd, hr]))) ⟨rfl, State.modTy_alters _ _⟩
  · exact exists_next (next_of_eq (if_neg (by simp [hd]))) ⟨rfl, State.modTy_alters _ _⟩
  · exact exists_next (next_of_eq (if_neg (by simp [hd, hr]))) ⟨rfl, State.modTy_alters _ _⟩
  · exact exists_next ((execPatternData_of_taken hd hp hk hb hv).trans (next_of_eq (if_pos hlt))) ⟨rfl, State.modTy_alters _ _⟩
  · exact exists_next (((execPatternData_of_taken (kind := 3) hd hp rfl hb (.inl (Nat.le_refl 3))).trans
      (next_of_eq (if_neg (Nat.not_lt.2 ht)))).trans (next_of_eq (State.takeItem_of_key hc)))
      (State.putKey_of_twin _ ((Alters.refl _ _).modTy (by decide) _) h6 rfl)
  · exact exists_next (next_of_eq (if_neg (by simp [hd, hp, hg, Nat.not_lt.2 hv])))
      ⟨rfl, rfl, ((State.modTy_alters _ _).mono (by decide)).trans ((State.toTwin_alters _ _).mono (by decide))⟩
  · exact exists_next (next_of_eq (if_neg (by simp [hd, hs, hj]))) ⟨rfl, State.modTy_alters _ _⟩
  · exact exists_next (next_of_eq (if_neg (by simp [hd, hp, hs]))) ⟨rfl, State.modTy_alters _ _⟩
  · obtain ⟨stamps, hstate, hjoin, hst, hr, hfm, hm⟩ := s.joinFail_effects
    refine exists_next (next_of_pos (by simp [hs])) ⟨hstate, hjoin, ?_, ?_, ?_, hm⟩
    · rw [hst, List.head?_cons]
    · rw [hst, hr]
    · rw [hst, hfm]
  · exact exists_next (next_of_eq ((if_pos (by simp [hs, hj, hp])).trans (State.joinStart_of_same hv hh)))
      ⟨rfl, rfl, ((State.modTy_alters _ _).mono (by decide)).trans ((State.toTwin_alters _ _).mono (by decide))⟩

end

end Sys2Proof.Machine
end

section
/-! The pattern start and the loader (R34, R299, R538). -/

namespace Sys2Proof.Machine

-- One theorem after another: each thread of the checker takes 256 MB of stack.
set_option Elab.async false

/-- Rows run with a charged hold-up store and the board at 25 °C, and a chunk of a load is left to be programmed. -/
def chunkLeft : State :=
  { State.reset with
    pm := { State.reset.pm with state := .ready, step := 9, capUf := 2000, vholdMv := 30000 }
    tb := { State.reset.tb with running := true }
    rows := { State.reset.rows with running := true, siRunMin := 800 }
    tm := { State.reset.tm with nvClosed := false, board := { State.reset.tm.board with n := 1, sum := 2500 } }
    ld := { State.reset.ld with chunk := [1] } }

theorem chunkLeft_begun (t : State) (h : execPatternStart chunkLeft = .next t) : t.ld.begun = true := by
  obtain rfl := Host.Outcome.next.inj h
  decide +kernel

/-- Refutes O50: the first clause leaves the loader's part as it was, but a pattern start in which the board's temperature
permits writes begins the programming of a chunk that waits (R299). -/
theorem not_patternCommands : ¬ Obligations.PatternCommands := by
  unfold Obligations.PatternCommands
  rintro ⟨h, -⟩
  obtain ⟨t, e, -, -, -, -, -, -, hld, -⟩ := h chunkLeft 800 (by decide +kernel) rfl (by decide)
  have hb := chunkLeft_begun t e
  rw [hld] at hb
  exact absurd hb (by decide +kernel)

end Sys2Proof.Machine
end

section
/-! The LIVE writes and reads that wait for their row (R377, R506 to R508, R513). -/

namespace Sys2Proof.Machine

-- One theorem after another: each thread of the checker takes 256 MB of stack.
set_option Elab.async false

section
variable {s t u : State} {pattern : Bool} {x : Live} {l pre post : List Live}

/-! ### Those that are due act (R513) -/

theorem liveFold_of_due (h : x.due pattern = true) (l : List Live) (s : State) :
    liveFold pattern (x :: l) s = ({ x with answer := some (s.liveAct x.sess x.cmd).2 } ::
      (liveFold pattern l (s.liveAct x.sess x.cmd).1).1, (liveFold pattern l (s.liveAct x.sess x.cmd).1).2) := by
  rw [liveFold, if_pos h]

theorem liveFold_of_not_due (h : x.due pattern = false) (l : List Live) (s : State) :
    liveFold pattern (x :: l) s = (x :: (liveFold pattern l s).1, (liveFold pattern l s).2) := by
  rw [liveFold, if_neg (by simp [h])]

theorem liveFold_of_none_due (h : ∀ y ∈ l, y.due pattern = false) (s : State) : liveFold pattern l s = (l, s) := by
  induction l with
  | nil => rfl
  | cons x l ih =>
    obtain ⟨hx, hl⟩ := List.forall_mem_cons.1 h
    rw [liveFold_of_not_due hx, ih hl]

theorem liveFold_append (l l' : List Live) (s : State) : liveFold pattern (l ++ l') s =
    ((liveFold pattern l s).1 ++ (liveFold pattern l' (liveFold pattern l s).2).1, (liveFold pattern l' (liveFold pattern l s).2).2) := by
  induction l generalizing s with
  | nil => rfl
  | cons x l ih =>
    rw [List.cons_append]
    cases h : x.due pattern with
    | true => rw [liveFold_of_due h, liveFold_of_due h, ih, List.cons_append]
    | false => rw [liveFold_of_not_due h, liveFold_of_not_due h, ih, List.cons_append]

/-- A write that waits after an instant of its kind: with its answer if it was due, else as it was. -/
def Live.acted (pattern : Bool) (x y : Live) : Prop :=
  y = { x with answer := y.answer } ∧ (x.due pattern = true → y.answer.isSome = true) ∧ (x.due pattern = false → y = x)

theorem liveFold_acted (l : List Live) (s : State) : List.Forall₂ (Live.acted pattern) l (liveFold pattern l s).1 := by
  induction l generalizing s with
  | nil => exact .nil
  | cons x l ih =>
    cases h : x.due pattern with
    | true =>
      rw [liveFold_of_due h]
      exact .cons ⟨rfl, fun _ => rfl, fun hn => absurd (h.symm.trans hn) (by decide)⟩ (ih _)
    | false =>
      rw [liveFold_of_not_due h]
      exact .cons ⟨rfl, fun hp => absurd (h.symm.trans hp) (by decide), fun _ => rfl⟩ (ih _)

theorem State.liveRun_live (s : State) (pattern : Bool) :
    (s.liveRun pattern).sy.live = (liveFold pattern s.sy.live (s.modSy fun y => { y with live := [] })).1 := rfl

/-- Each write that waits keeps its place. -/
theorem State.liveRun_acted (s : State) (pattern : Bool) {k : Nat} (h : s.sy.live[k]? = some x) :
    ∃ y, (s.liveRun pattern).sy.live[k]? = some y ∧ x.acted pattern y := by
  have hall := liveFold_acted (pattern := pattern) s.sy.live (s.modSy fun y => { y with live := [] })
  rw [State.liveRun_live]
  obtain ⟨hk, rfl⟩ := List.getElem?_eq_some_iff.1 h
  have hk' := hall.length_eq ▸ hk
  exact ⟨_, List.getElem?_eq_getElem hk', hall.get hk hk'⟩

theorem State.liveRun_length (s : State) (pattern : Bool) : (s.liveRun pattern).sy.live.length = s.sy.live.length :=
  (liveFold_acted s.sy.live (s.modSy fun y => { y with live := [] })).length_eq.symm

theorem State.liveRun_of_one {status : Nat} {body : List Nat} (hl : s.sy.live = pre ++ x :: post) (hx : x.due pattern = true)
    (hn : ∀ y ∈ pre ++ post, y.due pattern = false)
    (ha : (s.modSy fun y => { y with live := [] }).liveAct x.sess x.cmd = (t, status, body)) :
    s.liveRun pattern = t.modSy fun y => { y with live := pre ++ { x with answer := some (status, body) } :: post } := by
  obtain ⟨hpre, hpost⟩ := List.forall_mem_append.1 hn
  have hf : liveFold pattern s.sy.live (s.modSy fun y => { y with live := [] }) =
      (pre ++ { x with answer := some (status, body) } :: post, t) := by
    rw [hl, liveFold_append, liveFold_of_none_due hpre, liveFold_of_due hx, ha, liveFold_of_none_due hpost]
  unfold State.liveRun
  rw [hf]

theorem State.liveRun_of_none_due (h : ∀ y ∈ s.sy.live, y.due pattern = false) : s.liveRun pattern = s := by
  unfold State.liveRun
  rw [liveFold_of_none_due h]
  rfl

/-! ### Their agreement (R377) -/

/-- The writes that join the agreed set in a row, side A's first. -/
def State.agreedNow (s : State) (l : List Live) : List Live :=
  if s.ty.sideB then l.filter (·.theirs) ++ l.filter (!·.theirs) else l.filter (!·.theirs) ++ l.filter (·.theirs)

theorem State.agreeLive_of_all (h : ∀ x ∈ s.sy.live, x.agreed = true ∨ s.liveAgreed x = true) :
    s.agreeLive.sy.live = s.sy.live.filter (·.agreed) ++
      (s.agreedNow (s.sy.live.filter (!·.agreed))).map fun x => { x with agreed := true } := by
  have hnew : (s.sy.live.filter fun l => !l.agreed && s.liveAgreed l) = s.sy.live.filter (!·.agreed) :=
    List.filter_congr fun x hx => by rcases h x hx with hx | hx <;> simp [hx]
  have hrest : (s.sy.live.filter fun l => !l.agreed && !s.liveAgreed l) = [] :=
    List.filter_eq_nil_iff.2 fun x hx => by rcases h x hx with hx | hx <;> simp [hx]
  unfold State.agreeLive State.agreedNow
  simp only [hnew, hrest, List.append_nil]
  rfl

theorem State.agreeLive_alters (s : State) : Alters [.sy] s s.agreeLive := State.modSy_alters _ _

theorem State.agreeLive_of_new (h : ∀ x ∈ s.sy.live, x.agreed = false ∧ s.liveAgreed x = true) :
    s.agreeLive.sy.live = (s.agreedNow s.sy.live).map fun x => { x with agreed := true } := by
  have hold : s.sy.live.filter (·.agreed) = [] := List.filter_eq_nil_iff.2 fun x hx => by simp [(h x hx).1]
  have hnew : s.sy.live.filter (!·.agreed) = s.sy.live := List.filter_eq_self.2 fun x hx => by simp [(h x hx).1]
  rw [State.agreeLive_of_all fun x hx => .inr (h x hx).2, hold, hnew, List.nil_append]

end

end Sys2Proof.Machine
end

section
/-! The start of a row (R31, R32, R375), and the responses of the LIVE writes that leave in it (R489). -/

namespace Sys2Proof.Machine

-- One theorem after another: each thread of the checker takes 256 MB of stack.
set_option Elab.async false

section
variable {s t u : State} {l : RowLatch} {kept : Bool} {before n : Nat} {x : Live}

/-! ### The supplies, the power state and the sessions -/

/-- What the row's output conditions leave as it is of the power manager and the Syben part. -/
def State.supplied (s : State) : Nat × Nat × Nat × PowerState × PowerState × List Session :=
  (s.pm.auxMv, s.pm.auxMa, s.pm.vholdMv, s.pm.state, s.pm.failFrom, s.sy.sessions)

theorem State.supplied_of (hpm : t.pm = s.pm) (hsy : t.sy.sessions = s.sy.sessions) : t.supplied = s.supplied := by
  unfold State.supplied
  rw [hpm, hsy]

theorem State.outputFaultAt_supplied (s : State) (code item : Nat) : (s.outputFaultAt code item).supplied = s.supplied :=
  State.supplied_of ((Moves.self.outputFaultAt (ps := [.fm, .os])) .pm (by decide)) (State.raise_sessions _ _ _ _)

theorem State.stuckClosed_supplied (s : State) (n b : Nat) : (s.stuckClosed n b).supplied = s.supplied := by
  refine (State.outputFaultAt_supplied _ _ _).trans ?_
  split <;> rfl

theorem State.coilRow_supplied (s : State) (l : RowLatch) (n : Nat) : (s.coilRow l n).supplied = s.supplied := by
  unfold State.coilRow
  extract_lets c ma hs ls shared s0 s1 twinOn bad rows s2 rows' s3
  split
  · split
    · rfl
    · split
      · rfl
      · split <;> exact State.outputFaultAt_supplied _ _ _
  · split
    · split
      · exact State.outputFaultAt_supplied _ _ _
      · rfl
    · split
      · exact State.stuckClosed_supplied _ _ _
      · rfl

theorem State.coilConditionsEnd_alters (s : State) : Alters [.fm] s s.coilConditionsEnd := by
  unfold State.coilConditionsEnd
  extract_lets f v
  have hv : Alters [.fm] s v := .ite (State.clearCond_alters _ _) (.refl _ _)
  clear_value v
  exact .ite (hv.clearCond (by decide) _) hv

/-- The output conditions of a row, and the reading of TRIP_OUT's continuity. -/
theorem State.outputRow_effects (s : State) (l : RowLatch) :
    (s.outputRow l).supplied = s.supplied ∧ (s.outputRow l).os.tripCont = l.tripCont := by
  unfold State.outputRow
  extract_lets v v1 v2
  have hv : v.supplied = s.supplied := by
    have hend := ([1, 2, 3, 4].foldl (fun u n => u.coilRow l n) (s.clearCond 0x0E02)).coilConditionsEnd_alters
    refine (State.supplied_of (hend .pm (by decide)) (congrArg Syben.sessions (hend .sy (by decide)))).trans ?_
    exact List.foldlRecOn [1, 2, 3, 4] (motive := fun u : State => u.supplied = s.supplied) _ rfl
      fun u hu n _ => (u.coilRow_supplied l n).trans hu
  clear_value v
  have h2 : Alters [.fm] v1 v2 := .ite (State.clearCond_alters _ _) (.refl _ _)
  have h2s : v2.supplied = s.supplied :=
    (State.supplied_of (h2 .pm (by decide)) (congrArg Syben.sessions (h2 .sy (by decide)))).trans hv
  have h2c : v2.os.tripCont = l.tripCont := congrArg (·.tripCont) (h2 .os (by decide))
  clear_value v2
  split
  · exact ⟨h2s, h2c⟩
  · split
    · refine ⟨(State.outputFaultAt_supplied _ _ _).trans h2s, ?_⟩
      have hos : (v2.outputFaultAt 0x0E08 7).os = (v2.modOs fun o => { o with lastFault := v2.tb.now }).os :=
        (Moves.self.raiseCond (ps := [.fm]) (by decide) _ _) .os (by decide)
      rw [hos]
      exact h2c
    · exact ⟨h2s, h2c⟩

/-! ### The row as it begins (R31, R32) -/

/-- The next row runs on plant time. -/
def State.rowBegun (s : State) : State :=
  (s.runTo (s.nextRow * 100000)).modRows fun r => { r with
    lastRow := some s.nextRow, seamAt := none, rowNo := s.nextRow % 100, patternNo := BitVec.ofNat 32 (s.nextRow / 100)
    committed := false, fixed := false, judged := false }

/-- The row up to the LIVE writes. -/
def State.rowLatched (s : State) (l : RowLatch) : State := (((s.rowBegun.latchRow l).restartRow).outputRow l).leaseRow

/-- The rest of the row's start. -/
def State.rowSent (s : State) (l : RowLatch) (kept : Bool) (before : Nat) : State :=
  if s.loaderRuns then s.chargeBlockRow.latchDemands kept
  else
    let s2 := s.cellRow.chargeBlockRow
    let s3 := if s2.ty.state == .member then s2 else s2.rampRow
    ((s3.faultRamp.urgentList).latchDemands kept).sendInput l before

theorem execRowStart_of_runs (h : s.rowsRun = true) : execRowStart l s =
    .next ((s.rowLatched l).liveRow.rowSent l (s.rows.lastRow.isSome && !s.rows.committed) s.fastEvents) := by
  unfold execRowStart
  rw [if_neg (by simp [h])]
  rfl

theorem State.latchWord_alters (s : State) : Alters [.ty] s s.latchWord := by
  unfold State.latchWord
  split <;> exact State.modTy_alters _ _

theorem State.latchWord_paired (s : State) : s.latchWord.ty.paired = s.ty.paired ∧ s.latchWord.ty.state = s.ty.state := by
  unfold State.latchWord
  split <;> exact ⟨rfl, rfl⟩

/-- The latches of a row start (R32). -/
theorem State.latchRow_effects (s : State) (l : RowLatch) :
    (s.latchRow l).rows = { s.rows with faMean := l.faMean, fbMean := l.fbMean, latched := s.latchCurrent } ∧
    (s.latchRow l).supplied = (l.auxMv, l.auxMa, l.vholdMv, s.pm.state, s.pm.failFrom, s.sy.sessions) ∧
    (s.latchRow l).ca.fa.code = l.faCode ∧ (s.latchRow l).ca.fb.code = l.fbCode ∧
    (s.latchRow l).ty.paired = s.ty.paired ∧ (s.latchRow l).ty.state = s.ty.state ∧
    Alters [.rows, .pm, .ca, .ty, .fm] s (s.latchRow l) := by
  unfold State.latchRow
  extract_lets v v1
  have h1 : Alters [.fm] v v1 := .ite (State.clearCond_alters _ _) (.refl _ _)
  have hv : Alters [.pm] s v := State.modPm_alters _ _
  have hr : v1.rows = s.rows := h1 .rows (by decide)
  have hs : v1.supplied = (l.auxMv, l.auxMa, l.vholdMv, s.pm.state, s.pm.failFrom, s.sy.sessions) :=
    State.supplied_of (h1 .pm (by decide)) (congrArg Syben.sessions (h1 .sy (by decide)))
  have hty : v1.ty = s.ty := h1 .ty (by decide)
  have hall : Alters [.rows, .pm, .ca, .ty, .fm] s v1 := (hv.mono (by decide)).trans (h1.mono (by decide))
  clear_value v1
  generalize hw : (((v1.modRows fun r => { r with faMean := l.faMean, fbMean := l.fbMean, latched := s.latchCurrent }).modTy
    fun y => { y with agreedTwin := false, stitched := false }).pairRow l) = w
  have hword := w.latchWord_alters
  obtain ⟨hpaired, hstate⟩ := w.latchWord_paired
  refine ⟨(hword .rows (by decide)).trans ?_, ?_, (congrArg (·.fa.code) (hword .ca (by decide))).trans ?_,
    (congrArg (·.fb.code) (hword .ca (by decide))).trans ?_, hpaired.trans ?_, hstate.trans ?_, ?_⟩
  · rw [← hw]
    exact congrArg (fun r : Rows => { r with faMean := l.faMean, fbMean := l.fbMean, latched := s.latchCurrent }) hr
  · refine (State.supplied_of (hword .pm (by decide)) (congrArg Syben.sessions (hword .sy (by decide)))).trans ?_
    rw [← hs, ← hw]
    rfl
  · rw [← hw]
    rfl
  · rw [← hw]
    rfl
  · rw [← hty, ← hw]
    rfl
  · rw [← hty, ← hw]
    rfl
  · refine (hall.trans ?_).trans (hword.mono (by decide))
    rw [← hw]
    exact (((Alters.refl _ _).modRows (by decide) _).modTy (by decide) _).modCa (by decide) _

end

end Sys2Proof.Machine
end

section
/-! What ROW_START leaves in the state, and what leaves the module in it (R31, R32, R375, R489). -/

namespace Sys2Proof.Machine

-- One theorem after another: each thread of the checker takes 256 MB of stack.
set_option Elab.async false

section
variable {s t u : State} {l : RowLatch} {kept : Bool} {before n : Nat} {x : Live} {ps : List Part}

/-! ### Talking to the twin (R366, R370, R375) -/

theorem State.talks_of (hty : t.ty.paired = s.ty.paired ∧ t.ty.state = s.ty.state) (hs : t.supplied = s.supplied)
    (hcfg : ∀ i j, t.cfgGet i j = s.cfgGet i j) (hld : t.ld = s.ld) : t.talks = s.talks := by
  obtain ⟨-, -, -, hstate, hfrom, -⟩ : _ ∧ _ ∧ _ ∧ t.pm.state = s.pm.state ∧ t.pm.failFrom = s.pm.failFrom ∧ _ := by
    simpa only [State.supplied, Prod.mk.injEq] using hs
  unfold State.talks State.deaf State.coreUp
  rw [hty.1, hty.2, hcfg, hstate, hfrom, hld]

theorem Moves.pairing (h : Moves ps s t) (hp : .ty ∉ ps := by decide) : t.ty.paired = s.ty.paired ∧ t.ty.state = s.ty.state := by
  have hty : Twin.traffic s.ty t.ty := h .ty hp
  unfold Twin.traffic at hty
  rw [hty]
  exact ⟨rfl, rfl⟩

theorem Moves.deaf (h : Moves ps s t) (hc : .cfg ∉ ps := by decide) (hi : .id ∉ ps := by decide) (hp : .pm ∉ ps := by decide)
    (hl : .ld ∉ ps := by decide) : t.deaf = s.deaf := by
  unfold State.deaf
  rw [h.cfgGet _ _ hc hi, h.coreUp hp hl]

theorem Moves.talks (h : Moves ps s t) (hy : .ty ∉ ps := by decide) (hc : .cfg ∉ ps := by decide) (hi : .id ∉ ps := by decide)
    (hp : .pm ∉ ps := by decide) (hl : .ld ∉ ps := by decide) : t.talks = s.talks := by
  unfold State.talks
  rw [(h.pairing hy).1, (h.pairing hy).2, h.deaf hc hi hp hl]

theorem State.frameOf_of (h : t.tb = s.tb) (f : TwinFrame) : t.frameOf f = s.frameOf f := by
  unfold State.frameOf State.rowCount State.ns
  rw [h]

theorem State.rowCount_of (h : t.tb = s.tb) : t.rowCount = s.rowCount := by
  unfold State.rowCount State.ns
  rw [h]

/-! ### The row up to the LIVE writes -/

theorem State.restartRow_alters (s : State) : Alters [.fm, .rows, .freeCount] s s.restartRow := by
  unfold State.restartRow
  refine .ite (.refl _ _) ?_
  exact .ite ((((Alters.refl _ _).takeFree (by decide)).modRows (by decide) _).clearCond (by decide) _)
    ((Alters.refl _ _).takeFree (by decide))

theorem State.restartRow_rows (s : State) : ∃ b, s.restartRow.rows = { s.rows with cpRestarting := b } ∧
    (s.rows.cpRestarting = false → b = false) := by
  unfold State.restartRow
  cases h : s.rows.cpRestarting with
  | false => exact ⟨false, (h ▸ rfl : s.rows = { s.rows with cpRestarting := false }), fun _ => rfl⟩
  | true =>
    rw [if_neg (by decide)]
    split
    · exact ⟨false, rfl, fun h => absurd h (by decide)⟩
    · exact ⟨true, (h ▸ rfl : s.rows = { s.rows with cpRestarting := true }), fun h => h⟩

theorem State.leaseRow_alters (s : State) : Alters [.de] s s.leaseRow := .ite (.refl _ _) (State.modDe_alters _ _)

theorem State.rowBegun_alters (s : State) : Alters [.rows, .tb] s s.rowBegun :=
  ((s.runTo_alters _).mono (by decide)).modRows (by decide) _

theorem State.rowBegun_rows (s : State) : s.rowBegun.rows = { s.rows with
    lastRow := some s.nextRow, seamAt := none, rowNo := s.nextRow % 100, patternNo := BitVec.ofNat 32 (s.nextRow / 100)
    committed := false, fixed := false, judged := false } := by
  unfold State.rowBegun
  rw [State.modRows_rows, (s.runTo_alters _) .rows (by decide)]

/-- The row before its LIVE writes act. -/
theorem State.rowLatched_effects (s : State) (l : RowLatch) :
    (∃ b c, (s.rowLatched l).rows = { s.rowBegun.rows with
      faMean := l.faMean, fbMean := l.fbMean, latched := c, cpRestarting := b } ∧ (s.rows.cpRestarting = false → b = false)) ∧
    (s.rowLatched l).supplied = (l.auxMv, l.auxMa, l.vholdMv, s.pm.state, s.pm.failFrom, s.sy.sessions) ∧
    (s.rowLatched l).ca.fa.code = l.faCode ∧ (s.rowLatched l).ca.fb.code = l.fbCode ∧
    (s.rowLatched l).os.tripCont = l.tripCont ∧ (s.rowLatched l).ty.paired = s.ty.paired ∧
    (s.rowLatched l).ty.state = s.ty.state ∧
    Moves [.fm, .rows, .pm, .ca, .de, .os, .ty, .tb, .freeCount] s (s.rowLatched l) := by
  have hbegun := s.rowBegun_alters
  obtain ⟨hrows, hsup, hfa, hfb, hpaired, hstate, hlatch⟩ := s.rowBegun.latchRow_effects l
  have hrestart := (s.rowBegun.latchRow l).restartRow_alters
  obtain ⟨b, hb, hbf⟩ := (s.rowBegun.latchRow l).restartRow_rows
  obtain ⟨hosup, htrip⟩ := (s.rowBegun.latchRow l).restartRow.outputRow_effects l
  have hout : Moves [.fm, .pm, .os] _ ((s.rowBegun.latchRow l).restartRow.outputRow l) := Moves.self.outputRow
  have hlease := ((s.rowBegun.latchRow l).restartRow.outputRow l).leaseRow_alters
  have hend : Moves [.fm, .rows, .pm, .os, .de, .freeCount] (s.rowBegun.latchRow l) (s.rowLatched l) :=
    ((hrestart.moves.mono (by decide)).trans (hout.mono (by decide))).trans (hlease.moves.mono (by decide))
  have hr : (s.rowLatched l).rows = (s.rowBegun.latchRow l).restartRow.rows :=
    (hlease .rows (by decide)).trans (hout .rows (by decide))
  refine ⟨⟨b, s.rowBegun.latchCurrent, ?_, fun h => hbf ?_⟩, ?_, ?_, ?_, ?_, hend.pairing.1.trans ?_, hend.pairing.2.trans ?_, ?_⟩
  · rw [hr, hb, hrows]
  · rw [hrows, s.rowBegun_rows]
    exact h
  · have h1 : (s.rowLatched l).supplied = (s.rowBegun.latchRow l).supplied :=
      (State.supplied_of (hlease .pm (by decide)) (congrArg Syben.sessions (hlease .sy (by decide)))).trans
        (hosup.trans (State.supplied_of (hrestart .pm (by decide)) (congrArg Syben.sessions (hrestart .sy (by decide)))))
    have hpm : s.rowBegun.pm = s.pm := hbegun .pm (by decide)
    have hsy : s.rowBegun.sy = s.sy := hbegun .sy (by decide)
    rw [h1, hsup, hpm, hsy]
  · exact (congrArg (·.fa.code) (hend .ca (by decide))).trans hfa
  · exact (congrArg (·.fb.code) (hend .ca (by decide))).trans hfb
  · exact (congrArg (·.tripCont) (hlease .os (by decide))).trans htrip
  · exact hpaired.trans (congrArg (·.paired) (hbegun .ty (by decide)))
  · exact hstate.trans (congrArg (·.state) (hbegun .ty (by decide)))
  · exact ((hbegun.moves.mono (by decide)).trans (hlatch.moves.mono (by decide))).trans (hend.mono (by decide))

/-! ### The rest of the row's start -/

/-- What the row serves before its urgent list is drawn up. -/
def State.rowServed (s : State) : State :=
  (if s.cellRow.chargeBlockRow.ty.state == .member then s.cellRow.chargeBlockRow else s.cellRow.chargeBlockRow.rampRow).faultRamp

/-- The row's inputs are ready to leave. -/
def State.rowFormed (s : State) (kept : Bool) : State := s.rowServed.urgentList.latchDemands kept

theorem State.rowSent_of_loader (h : s.loaderRuns = true) : s.rowSent l kept before = s.chargeBlockRow.latchDemands kept := if_pos h

theorem State.rowSent_of_skein (h : s.loaderRuns = false) : s.rowSent l kept before = (s.rowFormed kept).sendInput l before :=
  if_neg (by simp [h])

theorem State.urgentList_pair (s : State) : s.urgentList.ty.paired = s.ty.paired ∧ s.urgentList.ty.state = s.ty.state := by
  unfold State.urgentList
  rw [State.modTy_ty]
  exact ⟨rfl, rfl⟩

theorem State.urgentList_talks (s : State) : s.urgentList.talks = s.talks := by
  have hm : Moves [.ty] s s.urgentList := Moves.self.urgentList
  unfold State.talks
  rw [s.urgentList_pair.1, s.urgentList_pair.2, hm.deaf]

theorem State.rowServed_moves (s : State) : Moves [.fm, .cl, .si, .de] s s.rowServed :=
  (Moves.ite Moves.self.cellRow.chargeBlockRow Moves.self.cellRow.chargeBlockRow.rampRow).faultRamp

theorem State.rowFormed_effects (s : State) (kept : Bool) :
    Moves [.fm, .cl, .si, .de, .ty] s (s.rowFormed kept) ∧ (s.rowFormed kept).talks = s.talks := by
  have hs := s.rowServed_moves
  have hl : Moves [.si] s.rowServed.urgentList (s.rowFormed kept) := Moves.self.latchDemands
  exact ⟨((hs.mono (by decide)).urgentList).trans (hl.mono (by decide)),
    hl.talks.trans (s.rowServed.urgentList_talks.trans hs.talks)⟩

theorem State.rowSent_moves (s : State) (l : RowLatch) (kept : Bool) (before : Nat) :
    Moves [.fm, .cl, .si, .de, .ty] s (s.rowSent l kept before) := by
  cases h : s.loaderRuns with
  | true => exact State.rowSent_of_loader h ▸ Moves.self.chargeBlockRow.latchDemands
  | false => exact State.rowSent_of_skein h ▸ (s.rowFormed_effects kept).1.sendInput

theorem State.sendInput_of_talks (h : s.talks = true) :
    s.frameOf (.rowInput (s.formInput l before)) ∈ (s.sendInput l before).out := by
  unfold State.sendInput
  dsimp only
  rw [if_neg (by simp [h])]
  generalize ht : (s.modTy fun y =>
    { y with ownIn := s.formInput l before, cmdsDue := y.cmdsDue.drop (s.formInput l before).cmds.length }) = v
  have htb : v.tb = s.tb := ht ▸ s.modTy_tb _
  have hf : s.frameOf (.rowInput (s.formInput l before)) ∈ (v.toTwin (.rowInput (s.formInput l before))).out := by
    rw [← State.frameOf_of htb, State.toTwin_out]
    exact List.mem_append_right _ (List.mem_singleton.2 rfl)
  split
  · exact List.mem_append_left _ hf
  · exact hf

/-- ROW_INPUT leaves (R375). -/
theorem State.rowSent_input (hl : s.loaderRuns = false) (ht : s.talks = true) : ∃ m,
    (s.rowSent l kept before).frameOf (.rowInput m) ∈ (s.rowSent l kept before).out ∧ m.row = (s.rowSent l kept before).rowCount := by
  obtain ⟨-, htalks⟩ := s.rowFormed_effects kept
  rw [State.rowSent_of_skein hl]
  have hm : Moves [.ty] (s.rowFormed kept) ((s.rowFormed kept).sendInput l before) := Moves.self.sendInput
  have htb : ((s.rowFormed kept).sendInput l before).tb = (s.rowFormed kept).tb := hm .tb (by decide)
  refine ⟨(s.rowFormed kept).formInput l before, ?_, (State.rowCount_of htb).symm⟩
  rw [State.frameOf_of htb]
  exact State.sendInput_of_talks (htalks.trans ht)

end

end Sys2Proof.Machine
end

section
/-! The responses of LIVE writes at a row start (R489, R508), and the first clauses about a row. -/

namespace Sys2Proof.Machine

-- One theorem after another: each thread of the checker takes 256 MB of stack.
set_option Elab.async false

section
variable {s t u : State} {l : RowLatch} {x : Live} {ps : List Part}

/-! ### Their responses -/

/-- The response of a LIVE write with its answer is among what left the module. -/
def Live.Responded (x : Live) (a : Nat × List Nat) (out : List Out) : Prop :=
  ∃ m : Msg, (m.opcode = waitingOpcode x.cmd ∧ m.status = a.1 ∧ m.payload = a.2 ∧ m.session = x.req.session ∧
    m.seq = x.req.seq) ∧ .response x.req.source m ∈ out

theorem Live.Responded.mono {a : Nat × List Nat} {out out' : List Out} (h : x.Responded a out) (hp : out <+: out') :
    x.Responded a out' := by
  obtain ⟨m, hm, hout⟩ := h
  exact ⟨m, hm, hp.subset hout⟩

theorem State.pushSlot_session (s : State) (slot : Option Nat) (n : Nat) : (s.pushSlot slot).session n = s.session n :=
  State.session_of_sessions rfl n

theorem State.liveAnswer_of_open {y : Session} {a : Nat × List Nat} (ha : x.answer = some a) (hs : s.session x.sess.num = some y) :
    s.liveAnswer x = (s.pushSlot x.slot).finish (inSlot x.req x.slot) x.unit y (waitingOpcode x.cmd) a.1 a.2 := by
  have hp := (s.pushSlot_session x.slot x.sess.num).trans hs
  unfold State.liveAnswer
  rw [ha]
  dsimp only
  rw [hp]

theorem State.liveAnswer_responds {a : Nat × List Nat} (ha : x.answer = some a) (hs : (s.session x.sess.num).isSome = true)
    (htwin : x.req.source ≠ .twinSpi) (hslot : x.req.source = .spi → x.slot.isSome = true) :
    x.Responded a (s.liveAnswer x).out := by
  obtain ⟨y, hy⟩ := Option.isSome_iff_exists.1 hs
  have hin : inSlot x.req x.slot = x.req := if_neg fun h => by
    obtain ⟨hspi, hnone⟩ := Bool.and_eq_true_iff.1 h
    have hsome := hslot (by simpa using hspi)
    rw [Option.isNone_iff_eq_none.1 hnone] at hsome
    cases hsome
  rw [State.liveAnswer_of_open ha hy, hin]
  obtain ⟨m, ho, hst, hp, hses, hseq, -, hlast⟩ :=
    (s.pushSlot x.slot).finish_answered x.req x.unit y (waitingOpcode x.cmd) a.1 a.2
  exact ⟨m, ⟨ho, hst, hp, hses, hseq⟩, List.mem_of_getLast? (hlast htwin)⟩

/-- A response closes no session. -/
theorem State.liveAnswer_session (s : State) (x : Live) (n : Nat) :
    ((s.liveAnswer x).session n).isSome = (s.session n).isSome := by
  unfold State.liveAnswer
  split
  · rfl
  · dsimp only
    split
    · split
      · exact congrArg Option.isSome (State.session_of_sessions (State.answerSlot_sessions _ _ _) n)
      · rfl
    · rename_i y _
      obtain ⟨m, hm⟩ := (s.pushSlot x.slot).finish_session (inSlot x.req x.slot) x.unit y (waitingOpcode x.cmd) _ _ n
      rw [hm]
      split
      · exact Option.isSome_map
      · rfl

theorem State.foldl_liveAnswer_responds {a : Nat × List Nat} (htwin : x.req.source ≠ .twinSpi)
    (hslot : x.req.source = .spi → x.slot.isSome = true) (ha : x.answer = some a) (l : List Live) (hx : x ∈ l)
    (hs : (s.session x.sess.num).isSome = true) : x.Responded a (l.foldl State.liveAnswer s).out := by
  induction l generalizing s with
  | nil => cases hx
  | cons y l ih =>
    have hrest : Moves [] (s.liveAnswer y) (l.foldl State.liveAnswer (s.liveAnswer y)) :=
      .foldl (fun _ _ => Moves.self.liveAnswer) _ _
    rcases List.mem_cons.1 hx with rfl | hx
    · exact (State.liveAnswer_responds ha hs htwin hslot).mono (hrest .out (by decide))
    · exact ih hx ((s.liveAnswer_session y _).trans hs)

theorem Syben.traffic.live {a b : Syben} (h : a.traffic b) : b.live = a.live := by
  unfold Syben.traffic at h
  rw [h]

theorem State.liveAnswers_live (s : State) : s.liveAnswers.sy.live = s.sy.live.filter (·.answer.isNone) := by
  have hm : Moves [] (s.modSy fun y => { y with live := y.live.filter (·.answer.isNone) }) s.liveAnswers :=
    .foldl (fun _ _ => Moves.self.liveAnswer) _ _
  exact (Syben.traffic.live (hm .sy (by decide))).trans rfl

theorem State.liveAnswers_responds {a : Nat × List Nat} (hx : x ∈ s.sy.live) (ha : x.answer = some a)
    (hs : (s.session x.sess.num).isSome = true) (htwin : x.req.source ≠ .twinSpi)
    (hslot : x.req.source = .spi → x.slot.isSome = true) : x.Responded a s.liveAnswers.out :=
  State.foldl_liveAnswer_responds htwin hslot ha _ (List.mem_filter.2 ⟨hx, by simp [ha]⟩) hs

/-! ### ROW_START -/

theorem State.liveRow_of_none (h : s.sy.live = []) : s.liveRow = s := by
  have hsy : (s.modSy fun y => { y with live := y.live.filter (·.answer.isNone) }) = s := by
    have : ({ s.sy with live := [] } : Syben) = s.sy := by rw [← h]
    unfold State.modSy
    dsimp only
    rw [h, List.filter_nil, this]
  have hans : s.liveAnswers = s := by
    unfold State.liveAnswers
    rw [h, List.filter_nil, List.foldl_nil]
    exact hsy
  unfold State.liveRow
  split
  · rfl
  · rw [hans]
    exact State.liveRun_of_none_due (by simp [h])

theorem State.liveRow_of_running (hl : s.loaderRuns = false) (hc : s.rows.cpRestarting = false) :
    s.liveRow = s.liveAnswers.liveRun false := if_neg (by simp [hl, hc])

theorem Moves.live (h : Moves ps s t) (hp : .sy ∉ ps := by decide) : t.sy.live = s.sy.live := Syben.traffic.live (h .sy hp)

theorem Moves.loaderRuns (h : Moves ps s t) (hp : .ld ∉ ps := by decide) : t.loaderRuns = s.loaderRuns := by
  have hld : t.ld = s.ld := h .ld hp
  unfold State.loaderRuns
  rw [hld]

/-- A row without LIVE writes. -/
theorem execRowStart_of_quiet (hr : s.rowsRun = true) (hl : s.sy.live = []) :
    ∃ t, execRowStart l s = .next t ∧ t.rows.lastRow = some s.nextRow ∧ t.rows.rowNo = s.nextRow % 100 ∧
      t.rows.fixed = false ∧ t.rows.committed = false ∧ t.rows.judged = false ∧ t.rows.faMean = l.faMean ∧
      t.rows.fbMean = l.fbMean ∧ t.ca.fa.code = l.faCode ∧ t.ca.fb.code = l.fbCode ∧ t.pm.auxMv = l.auxMv ∧
      t.pm.auxMa = l.auxMa ∧ t.pm.vholdMv = l.vholdMv ∧ t.os.tripCont = l.tripCont ∧
      (s.loaderRuns = false → s.talks = true → ∃ m, t.frameOf (.rowInput m) ∈ t.out ∧ m.row = t.rowCount) ∧
      Moves [.fm, .rows, .pm, .ca, .cl, .de, .si, .os, .ty, .tb, .freeCount] s t := by
  obtain ⟨⟨b, c, hrows, -⟩, hsup, hfa, hfb, htrip, hpaired, hstate, hm⟩ := s.rowLatched_effects l
  have hlive : (s.rowLatched l).liveRow = s.rowLatched l := State.liveRow_of_none (hm.live.trans hl)
  have hsent := (s.rowLatched l).rowSent_moves l (s.rows.lastRow.isSome && !s.rows.committed) s.fastEvents
  have htalks : (s.rowLatched l).talks = s.talks := by
    obtain ⟨-, -, -, hpower, hfrom, -⟩ : _ ∧ _ ∧ _ ∧ (s.rowLatched l).pm.state = s.pm.state ∧
        (s.rowLatched l).pm.failFrom = s.pm.failFrom ∧ _ := by
      simpa only [State.supplied, Prod.mk.injEq] using hsup
    have hld : (s.rowLatched l).ld = s.ld := hm .ld (by decide)
    unfold State.talks State.deaf State.coreUp
    rw [hpaired, hstate, hm.cfgGet, hpower, hfrom, hld]
  refine ⟨_, (execRowStart_of_runs hr).trans (next_of_eq (by rw [hlive])), ?_⟩
  generalize hv : (s.rowLatched l).rowSent l (s.rows.lastRow.isSome && !s.rows.committed) s.fastEvents = v at hsent
  have hvrows : v.rows = (s.rowLatched l).rows := hsent .rows (by decide)
  have hvpm : v.pm = (s.rowLatched l).pm := hsent .pm (by decide)
  have hvca : v.ca = (s.rowLatched l).ca := hsent .ca (by decide)
  have hvos : v.os = (s.rowLatched l).os := hsent .os (by decide)
  obtain ⟨hmv, hma, hvh, -⟩ : (s.rowLatched l).pm.auxMv = l.auxMv ∧ (s.rowLatched l).pm.auxMa = l.auxMa ∧
      (s.rowLatched l).pm.vholdMv = l.vholdMv ∧ _ := by
    simpa only [State.supplied, Prod.mk.injEq] using hsup
  rw [hvrows, hvpm, hvca, hvos, hrows, s.rowBegun_rows]
  exact ⟨rfl, rfl, rfl, rfl, rfl, rfl, rfl, hfa, hfb, hmv, hma, hvh, htrip,
    fun hload ht => hv ▸ State.rowSent_input (hm.loaderRuns.trans hload) (htalks.trans ht),
    (hm.mono (by decide)).trans (hsent.mono (by decide))⟩

/-- A row in which the LIVE writes act that are due, and the responses of the others leave. -/
theorem execRowStart_live (hr : s.rowsRun = true) (hload : s.loaderRuns = false) (hc : s.rows.cpRestarting = false) :
    ∃ t, execRowStart l s = .next t ∧ t.sy.live.length = (s.sy.live.filter (·.answer.isNone)).length ∧
      (∀ (k : Nat) (x : Live), (s.sy.live.filter (·.answer.isNone))[k]? = some x → ∃ y, t.sy.live[k]? = some y ∧ x.acted false y) ∧
      ∀ x ∈ s.sy.live, ∀ a, x.answer = some a → (s.session x.sess.num).isSome = true → x.req.source ≠ .twinSpi →
        (x.req.source = .spi → x.slot.isSome = true) → x.Responded a t.out := by
  obtain ⟨⟨b, c, hrows, hb⟩, hsup, -, -, -, -, -, hm⟩ := s.rowLatched_effects l
  have hcp : (s.rowLatched l).rows.cpRestarting = false := by
    rw [hrows]
    exact hb hc
  have hses : (s.rowLatched l).sy.sessions = s.sy.sessions := congrArg (·.2.2.2.2.2) hsup
  have hrun := State.liveRow_of_running (hm.loaderRuns.trans hload) hcp
  have hsent := (s.rowLatched l).liveRow.rowSent_moves l (s.rows.lastRow.isSome && !s.rows.committed) s.fastEvents
  have hlive : (s.rowLatched l).liveAnswers.sy.live = s.sy.live.filter (·.answer.isNone) :=
    (s.rowLatched l).liveAnswers_live.trans (by rw [hm.live])
  refine ⟨_, execRowStart_of_runs hr, ?_⟩
  generalize (s.rowLatched l).liveRow.rowSent l (s.rows.lastRow.isSome && !s.rows.committed) s.fastEvents = v at hsent
  have hv : v.sy.live = ((s.rowLatched l).liveAnswers.liveRun false).sy.live := hsent.live.trans (by rw [hrun])
  have hout : (s.rowLatched l).liveAnswers.out <+: v.out :=
    (Moves.out_prefix (Moves.self.liveRun (pattern := false))).trans (hrun ▸ hsent .out (by decide))
  refine ⟨?_, fun k x hx => ?_, fun x hx a ha hs htwin hslot => ?_⟩
  · rw [hv, State.liveRun_length, hlive]
  · rw [hv]
    exact State.liveRun_acted _ _ (hlive ▸ hx)
  · refine (State.liveAnswers_responds (hm.live.symm ▸ hx) ha ?_ htwin hslot).mono hout
    rw [State.session_of_sessions hses]
    exact hs

/-! ### SPEED_INDEX_WINDOW_END -/

theorem State.cond_fm (s : State) (code item : Nat) (b : Bool) :
    (s.cond code b item).fm = if b = true then s.condFm code item else s.fm.deactivate code := by
  unfold State.cond
  split
  · exact State.raiseCond_fm _ _ _
  · rfl

theorem execSpeedIndexWindowEnd_of_runs {n reference v : Nat} (hr : s.rowsRun = true) (h1 : 1 ≤ reference)
    (hv : v = min 65535 (1000 * n / reference)) :
    ∃ t, execSpeedIndexWindowEnd n reference s = .next t ∧
      t.rows = { s.rows with siRow := v, siRunMin := min v s.rows.siRunMin, siMin := min v s.rows.siMin } ∧
      t.fm = (if v < 550 then s.condFm 0x0103 0xFFFF else s.fm.deactivate 0x0103) ∧ Moves [.rows, .fm] s t := by
  have he : execSpeedIndexWindowEnd n reference s = .next ((s.modRows fun r =>
      { r with siRow := v, siRunMin := min v r.siRunMin, siMin := min v r.siMin }).cond 0x0103 (decide (v < 550))) := by
    subst hv
    exact next_of_eq (if_neg (by simp [hr]; omega))
  generalize hw : (s.modRows fun r => { r with siRow := v, siRunMin := min v r.siRunMin, siMin := min v r.siMin }) = w at he
  have ha : Alters [.rows] s w := hw ▸ s.modRows_alters _
  have hm : Moves [.fm] w (w.cond 0x0103 (decide (v < 550))) := Moves.self.cond (by decide) _ _ _
  refine ⟨_, he, (hm .rows (by decide)).trans (hw ▸ s.modRows_rows _), ?_, (ha.moves.mono (by decide)).trans (hm.mono (by decide))⟩
  have hfm : w.fm = s.fm := ha .fm (by decide)
  rw [State.cond_fm, ha.moves.condFm (by decide), hfm]
  simp only [decide_eq_true_eq]

end

end Sys2Proof.Machine
end

section
/-! The agreed input set of a row (R377, R384, R385, R390): INPUT_SET_FIXED in parts. -/

namespace Sys2Proof.Machine

-- One theorem after another: each thread of the checker takes 256 MB of stack.
set_option Elab.async false

section
variable {s t u : State} {m : RowInput} {ps : List Part}

/-! ### The twin's word (R390) -/

/-- INPUT_SET_FIXED once the twin's word of the row is known. -/
def State.rowHeard (s : State) : State :=
  let t := (s.rowAt 25000).modRows fun r => { r with fixed := true }
  (t.claimPairRow t.ty.wordSeen).fallbackWord

theorem State.rowAt_alters (s : State) (after : Nat) : Alters [.tb] s (s.rowAt after) := State.runTo_alters _ _

theorem State.fallbackWord_alters (s : State) : Alters [.ty] s s.fallbackWord := by
  unfold State.fallbackWord
  refine .ite (.refl _ _) ?_
  split <;> exact State.modTy_alters _ _

theorem State.claimPairRow_alters (s : State) (framed : Bool) : Alters [.ty] s (s.claimPairRow framed) :=
  .ite (.refl _ _) (State.modTy_alters _ _)

/-- What the word of the twin leaves as it was. -/
def State.link (s : State) : TwinState × Bool × Option RowInput × Nat × List PatternItem :=
  (s.ty.state, s.ty.paired, s.ty.rowIn, s.ty.absentRun, s.ty.longDue)

theorem State.fallbackWord_link (s : State) : s.fallbackWord.link = s.link := by
  unfold State.fallbackWord
  split
  · rfl
  · split <;> rfl

theorem State.claimPairRow_link (s : State) (framed : Bool) : (s.claimPairRow framed).link = s.link := by
  unfold State.claimPairRow
  split <;> rfl

theorem State.rowFixed_alters (s : State) :
    Alters [.rows, .tb] s ((s.rowAt 25000).modRows fun r => { r with fixed := true }) :=
  ((s.rowAt_alters _).mono (by decide)).modRows (by decide) _

theorem State.rowFixed_rows (s : State) :
    ((s.rowAt 25000).modRows fun r => { r with fixed := true }).rows = { s.rows with fixed := true } := by
  rw [State.modRows_rows, s.rowAt_alters _ .rows (by decide)]

theorem State.rowHeard_effects (s : State) : s.rowHeard.rows = { s.rows with fixed := true } ∧
    s.rowHeard.tb = (s.rowAt 25000).tb ∧ s.rowHeard.link = s.link ∧ Alters [.rows, .tb, .ty] s s.rowHeard := by
  unfold State.rowHeard
  extract_lets v
  have hv : Alters [.rows, .tb] s v := s.rowFixed_alters
  have hr : v.rows = { s.rows with fixed := true } := s.rowFixed_rows
  have htb : v.tb = (s.rowAt 25000).tb := (s.rowAt 25000).modRows_tb _
  have hl : v.link = s.link := by
    have hty : v.ty = s.ty := hv .ty (by decide)
    unfold State.link
    rw [hty]
  clear_value v
  have hw : Alters [.ty] v ((v.claimPairRow v.ty.wordSeen).fallbackWord) :=
    (v.claimPairRow_alters _).trans (State.fallbackWord_alters _)
  exact ⟨(hw .rows (by decide)).trans hr, (hw .tb (by decide)).trans htb,
    (State.fallbackWord_link _).trans ((State.claimPairRow_link _ _).trans hl), (hv.mono (by decide)).trans (hw.mono (by decide))⟩

theorem State.rowNow_of_unpaired (h : s.ty.paired = false) : s.rowNow = none := if_neg (by simp [h])

theorem State.rowNow_of_absent (h : s.ty.rowIn = none) : s.rowNow = none := by
  unfold State.rowNow
  rw [h]
  exact ite_self _

theorem State.rowNow_of_input (hp : s.ty.paired = true) (hi : s.ty.rowIn = some m) (hr : m.row = s.rowCount) :
    s.rowNow = some m := by
  unfold State.rowNow
  rw [if_pos hp, hi]
  exact if_pos (by simp [hr])

theorem State.link_eq (h : t.link = s.link) : t.ty.state = s.ty.state ∧ t.ty.paired = s.ty.paired ∧ t.ty.rowIn = s.ty.rowIn ∧
    t.ty.absentRun = s.ty.absentRun ∧ t.ty.longDue = s.ty.longDue := by
  simpa only [State.link, Prod.mk.injEq] using h

/-- The twin's part after a row without its word. -/
def Twin.unheard (y : Twin) : Twin := if y.wordSeen then y else { y with
  missing := min 255 (y.missing + 1), wordRows := 0, wordTwin := if 2 ≤ y.missing then 0 else y.wordTwin }

theorem State.fallbackWord_ty_of_none (h : s.rowNow = none) : s.fallbackWord.ty = s.ty.unheard := by
  unfold State.fallbackWord Twin.unheard
  rw [h, Option.filter_none]
  by_cases hw : s.ty.wordSeen = true
  · rw [if_pos hw, if_pos hw]
  · rw [if_neg hw, if_neg hw]
    rfl

/-- Alone, a row without the twin's word counts as one that misses it. -/
theorem State.rowHeard_ty_of_unpaired (h : s.ty.paired = false) : s.rowHeard.ty = s.ty.unheard := by
  unfold State.rowHeard
  extract_lets v
  have hty : v.ty = s.ty := s.rowFixed_alters .ty (by decide)
  clear_value v
  have hnow : v.rowNow = none := State.rowNow_of_unpaired (by rw [hty]; exact h)
  have hclaim : v.claimPairRow v.ty.wordSeen = v := if_pos (by rw [hnow]; rfl)
  rw [hclaim, State.fallbackWord_ty_of_none hnow, hty]

/-! ### The set, and what follows it (R377, R384, R385) -/

/-- A row without the twin's ROW_INPUT. -/
def State.inputAbsent (s : State) : State :=
  if !s.ty.paired then s
  else
    let t := s.modTy fun y => { y with absentRun := s.ty.absentRun + 1 }
    if 3 ≤ s.ty.absentRun + 1 then t.yarnLost else t

/-- The set `u` of a row is fixed, in lockstep or not. -/
def State.setFixed (member : Bool) (u : State) : State :=
  (((if member && !u.loaderRuns then u.rampRow else u).agreeCutoff.sendSegment).agreeLive).agreedStep

theorem execInputSetFixed_of_input (hr : s.inRow = true) (hf : s.rows.fixed = false) (hi : s.rowHeard.rowNow = some m) :
    execInputSetFixed s = .next (.setFixed (s.rowHeard.ty.state == .member) (s.rowHeard.agreeSet m)) := by
  have hi' : ((((s.rowAt 25000).modRows fun r => { r with fixed := true }).claimPairRow
      ((s.rowAt 25000).modRows fun r => { r with fixed := true }).ty.wordSeen).fallbackWord).rowNow = some m := hi
  unfold execInputSetFixed
  rw [if_neg (by simp [hr, hf])]
  dsimp only
  rw [hi']
  rfl

theorem execInputSetFixed_of_absent (hr : s.inRow = true) (hf : s.rows.fixed = false) (hi : s.rowHeard.rowNow = none) :
    execInputSetFixed s = .next (.setFixed (s.rowHeard.ty.state == .member) s.rowHeard.inputAbsent) := by
  have hi' : ((((s.rowAt 25000).modRows fun r => { r with fixed := true }).claimPairRow
      ((s.rowAt 25000).modRows fun r => { r with fixed := true }).ty.wordSeen).fallbackWord).rowNow = none := hi
  unfold execInputSetFixed
  rw [if_neg (by simp [hr, hf])]
  dsimp only
  rw [hi']
  rfl

theorem State.rampRow_alters (s : State) : Alters [.de] s s.rampRow := .ite (State.modDe_alters _ _) (.refl _ _)

theorem State.sendSegment_of_quiet (h : s.talks = false) : s.sendSegment = s := if_pos (by simp [h])

theorem State.agreeCutoff_of_done (h : s.ef.headDue = false) : s.agreeCutoff = s := if_pos (by simp [h])

theorem State.agreedStep_of_none (ha : s.tb.stepAgreed = none) (hd : s.tb.stepDue = none) : s.agreedStep = s := by
  unfold State.agreedStep
  rw [ha, hd]

/-- The steps that wait, which the running of plant time leaves as they are. -/
theorem State.runTo_steps (s : State) (n : Nat) :
    (s.runTo n).tb.stepAgreed = s.tb.stepAgreed ∧ (s.runTo n).tb.stepDue = s.tb.stepDue := by
  unfold State.runTo
  split
  · rw [State.modTb_tb, Timebase.ticks_eq]
    exact ⟨rfl, rfl⟩
  · exact ⟨rfl, rfl⟩

theorem State.rowAt_steps (s : State) (after : Nat) :
    (s.rowAt after).tb.stepAgreed = s.tb.stepAgreed ∧ (s.rowAt after).tb.stepDue = s.tb.stepDue := State.runTo_steps _ _

theorem State.ramped_alters (b : Bool) (u : State) : Alters [.de] u (if b && !u.loaderRuns then u.rampRow else u) :=
  .ite u.rampRow_alters (.refl _ _)

theorem State.setFixed_of_idle {member : Bool} (hh : u.ef.headDue = false) (ha : u.tb.stepAgreed = none) (hd : u.tb.stepDue = none) :
    State.setFixed member u = (if member && !u.loaderRuns then u.rampRow else u).sendSegment.agreeLive := by
  unfold State.setFixed
  have hv := State.ramped_alters member u
  generalize (if member && !u.loaderRuns then u.rampRow else u) = v at hv
  have hef : v.ef = u.ef := hv .ef (by decide)
  have hm : Moves [.de, .ty, .sy] u (v.sendSegment.agreeLive) :=
    ((hv.moves.mono (by decide)).sendSegment).trans ((State.agreeLive_alters _).moves.mono (by decide))
  have htb : (v.sendSegment.agreeLive).tb = u.tb := hm .tb (by decide)
  rw [State.agreeCutoff_of_done (by rw [hef, hh]), State.agreedStep_of_none (by rw [htb, ha]) (by rw [htb, hd])]

/-! ### A unit on its own -/

/-- INPUT_SET_FIXED of a unit that is not paired. -/
theorem execInputSetFixed_alone (hr : s.inRow = true) (hf : s.rows.fixed = false) (hp : s.ty.paired = false)
    (hs : s.ty.state ≠ .member) (hh : s.ef.headDue = false) (hd : s.tb.stepDue = none) (ha : s.tb.stepAgreed = none) :
    execInputSetFixed s = .next s.rowHeard.agreeLive := by
  obtain ⟨hrows, htb, hlink, hm⟩ := s.rowHeard_effects
  obtain ⟨hstate, hpaired, -⟩ := State.link_eq hlink
  have habsent : s.rowHeard.inputAbsent = s.rowHeard := if_pos (by simp [hpaired, hp])
  have hef : s.rowHeard.ef = s.ef := hm .ef (by decide)
  rw [execInputSetFixed_of_absent hr hf (State.rowNow_of_unpaired (hpaired.trans hp)), habsent,
    State.setFixed_of_idle (by rw [hef, hh]) (by rw [htb, (s.rowAt_steps _).1, ha]) (by rw [htb, (s.rowAt_steps _).2, hd]),
    if_neg (by simp [hstate, hs]), State.sendSegment_of_quiet (by simp [State.talks, hpaired, hp])]

/-! ### The loss of Twin Yarn (R385, R399) -/

/-- The claim holder in lockstep has missed the twin's ROW_INPUT three times. -/
theorem State.yarnLost_of_holder (hs : s.ty.state = .member) (hg : s.os.gate = true) : s.yarnLost =
    ((s.unpair.raiseCond 0x0F04).modTy fun y => { y with split := decide (s.ty.missing < 3) }).goSolo := by
  unfold State.yarnLost
  dsimp only
  rw [if_neg (by simp [hs]), if_pos (by simp [hg])]

theorem unitFault_yarnLost : unitFault 0x0F04 = false := by decide

theorem State.condFm_of {code : Nat} (hc : unitFault code = false) (hfm : t.fm = s.fm) (htb : t.tb = s.tb) (item : Nat) :
    t.condFm code item = s.condFm code item := by
  unfold State.condFm State.inPair
  rw [hfm, htb, hc, Bool.false_and, Bool.false_and]

/-- A holder that loses its twin runs on alone. -/
theorem State.yarnLost_effects (hs : s.ty.state = .member) (hg : s.os.gate = true) :
    s.yarnLost.ty.state = .solo ∧ s.yarnLost.ty.paired = false ∧
      s.yarnLost.fm = (s.condFm 0x0F04 0xFFFF).deactivate 0x0F08 ∧ Moves [.ty, .pm, .fm] s s.yarnLost := by
  have hraise : Moves [.fm] s.unpair (s.unpair.raiseCond 0x0F04) := Moves.self.raiseCond (by decide) _ _
  have hpaired : (s.unpair.raiseCond 0x0F04).ty.paired = false := hraise.pairing.1
  have hfm : (s.unpair.raiseCond 0x0F04).fm = s.condFm 0x0F04 0xFFFF :=
    (State.raiseCond_fm _ _ _).trans (State.condFm_of unitFault_yarnLost rfl rfl _)
  rw [State.yarnLost_of_holder hs hg]
  generalize s.unpair.raiseCond 0x0F04 = v at hraise hpaired hfm
  refine ⟨rfl, hpaired, congrArg (·.deactivate 0x0F08) hfm, ?_⟩
  exact ((((s.modTy_alters _).moves.mono (by decide)).trans (hraise.mono (by decide))).modTy (by decide) _).goSolo

end

end Sys2Proof.Machine
end

section
/-! The cut-off's work in lockstep (R251, R379), and a time step in a row (R36). -/

namespace Sys2Proof.Machine

-- One theorem after another: each thread of the checker takes 256 MB of stack.
set_option Elab.async false

section
variable {s t u : State} {ps : List Part}

/-! ### The string head of a pattern -/

/-- The string head of the pattern has run, and nothing of the cut-off waits. -/
def Fabric.HeadDone (e : Fabric) : Prop := e.headDue = false ∧ e.headRun = true

theorem Fabric.HeadDone.of_eq {e f : Fabric} (h : e.HeadDone) (hf : f = e) : f.HeadDone := hf ▸ h

theorem Fabric.HeadDone.modEf {f : Fabric → Fabric} (h : s.ef.HeadDone) (hd : (f s.ef).headDue = s.ef.headDue)
    (hr : (f s.ef).headRun = s.ef.headRun) : (s.modEf f).ef.HeadDone := by
  rw [State.modEf_ef]
  exact ⟨hd.trans h.1, hr.trans h.2⟩

theorem Fabric.HeadDone.modCtx (h : s.ef.HeadDone) (g : Nat) (f : Ctx → Ctx) : (s.modCtx g f).ef.HeadDone := h.modEf rfl rfl

theorem Fabric.HeadDone.cond (h : s.ef.HeadDone) (code : Nat) (b : Bool) (item : Nat) : (s.cond code b item).ef.HeadDone :=
  h.of_eq ((Moves.self (ps := [.fm])).cond (by decide) code b item .ef (by decide))

theorem Fabric.HeadDone.foldl {α : Type} {f : State → α → State} (hf : ∀ u x, u.ef.HeadDone → (f u x).ef.HeadDone) (l : List α)
    (h : s.ef.HeadDone) : (l.foldl f s).ef.HeadDone :=
  List.foldlRecOn l (motive := fun u : State => u.ef.HeadDone) _ h fun u hu x _ => hf u x hu

theorem Fabric.HeadDone.dispatchable (h : s.ef.HeadDone) (dn up : Rat) : (s.dispatchable dn up).ef.HeadDone := by
  unfold State.dispatchable
  extract_lets
  exact Fabric.HeadDone.cond (h.modEf rfl rfl) _ _ _

theorem Fabric.HeadDone.tailFigures (h : s.ef.HeadDone) (gs : List Nat) : (s.tailFigures gs).ef.HeadDone := by
  unfold State.tailFigures
  dsimp only
  rw [State.modEf_ef]
  split
  · exact h
  · exact ⟨h.1, h.2⟩

theorem Fabric.HeadDone.stringTail (h : s.ef.HeadDone) : s.stringTail.ef.HeadDone := by
  unfold State.stringTail
  extract_lets gs s0 born valid ns
  have h0 : s0.ef.HeadDone := Fabric.HeadDone.foldl (fun u g hu => by
    split
    · exact hu
    · exact hu.modCtx _ _) _ h
  clear_value ns valid born s0
  split
  extract_lets s1 s2
  have h1 : s1.ef.HeadDone := h0.modEf rfl rfl
  clear_value s1
  have h2 : s2.ef.HeadDone := by
    unfold s2
    split
    · extract_lets u
      have hu : u.ef.HeadDone := h1.modEf rfl rfl
      split
      · exact hu.dispatchable _ _
      · exact hu
    · exact h1
  exact (((h2.tailFigures _).cond _ _ _).cond _ _ _).cond _ _ _

theorem Fabric.HeadDone.smooth (h : s.ef.HeadDone) (dt : Nat) : (s.smooth dt).ef.HeadDone := by
  unfold State.smooth
  split
  · exact h
  · dsimp only
    split
    · exact h.modEf rfl rfl
    · exact h.modEf rfl rfl

theorem State.stringHead_done (h : s.ef.headDue = false) (dIn dOut : Int) : (s.stringHead dIn dOut).ef.HeadDone := by
  unfold State.stringHead
  extract_lets dt known gs order s0 s1
  have h0 : s0.ef.HeadDone := ⟨h, rfl⟩
  clear_value s0
  have h1 : s1.ef.HeadDone := Fabric.HeadDone.foldl (fun u g hu => hu.modCtx _ _) _ h0
  exact Fabric.HeadDone.modEf (h1.smooth dt) rfl rfl

theorem Fabric.HeadDone.restClocks (h : s.ef.HeadDone) : s.restClocks.ef.HeadDone := by
  unfold State.restClocks
  split
  · exact h
  · dsimp only
    refine Fabric.HeadDone.foldl (fun u g hu => hu.modCtx _ _) _ ?_
    split
    · exact h
    · exact h.modEf rfl rfl

/-- Without the twin's ROW_INPUT the head takes this unit's own totals. -/
theorem State.agreedHead_done (hi : s.ty.rowIn = none) (hd : s.ef.headDue = false) : s.agreedHead.ef.HeadDone := by
  unfold State.agreedHead
  rw [hi]
  exact State.stringHead_done hd _ _

/-- The cut-off's work runs the string head. -/
theorem State.cutoffWork_done (hi : s.ty.rowIn = none) : s.cutoffWork.ef.HeadDone := by
  unfold State.cutoffWork
  extract_lets v w
  have hv : v.ef.HeadDone := by
    have hm : Moves [.fm, .pm, .cl] (s.modEf fun e => { e with headDue := false })
        ((s.modEf fun e => { e with headDue := false }).cutoffAgreed.hardCutoff) := Moves.self.cutoffAgreed.hardCutoff
    have hty : Twin.traffic s.ty ((s.modEf fun e => { e with headDue := false }).cutoffAgreed.hardCutoff).ty := hm .ty (by decide)
    unfold Twin.traffic at hty
    refine State.agreedHead_done ?_ (congrArg (·.headDue) (hm .ef (by decide)))
    rw [hty]
    exact hi
  clear_value v
  have hw : w.ef.HeadDone := by
    have hr : (if v.rows.cpRestarting then v.restClocks else v.thermalCutoff.restClocks.balance).ef.HeadDone := by
      split
      · exact hv.restClocks
      · have ht : v.thermalCutoff.ef = v.ef := (Moves.self (ps := [.fm, .cl, .tm, .si, .nv])).thermalCutoff (by decide) .ef (by decide)
        exact (hv.of_eq ht).restClocks.of_eq ((Moves.self (ps := [.fm, .cl, .bs])).balance (by decide) .ef (by decide))
    exact hr.of_eq ((Moves.self (ps := [.de])).faultRamp (by decide) .ef (by decide))
  clear_value w
  split
  · exact hw.stringTail
  · exact hw

theorem State.agreeCutoff_of_absent (hr : s.rowIn = 10) (hd : s.ef.headDue = true) (hn : s.rowNow = none) :
    s.agreeCutoff = s.cutoffWork := by
  unfold State.agreeCutoff
  rw [if_neg (by simp [hr, hd]), hn]

/-! ### A time step in the row (R36) -/

theorem State.stepped_alters (s : State) (d : Int) : Alters [.freeCount] s (s.stepped d).2 := by
  unfold State.stepped
  dsimp only
  split
  · exact .refl _ _
  · exact (Alters.refl _ _).takeFree (by decide)

/-- A step keeps what the pattern's head and the row's set have done. -/
theorem State.applyStep_kept (s : State) (d : Int) : ∃ (u : State) (k : Nat),
    s.applyStep d = (((u.journal 0x0005 u.record5).clearCond 0x1002).raiseEvent 0x1003).logKind 5 k ∧
      u.ef.headDue = (s.stepped d).2.ef.headDue ∧ u.ef.headRun = (s.stepped d).2.ef.headRun ∧
      u.rows.fixed = (s.stepped d).2.rows.fixed := by
  unfold State.applyStep
  generalize s.stepped d = q
  exact ⟨_, _, rfl, rfl, rfl, rfl⟩

theorem State.applyStep_done (s : State) (d : Int) (h : s.ef.HeadDone) :
    (s.applyStep d).ef.HeadDone ∧ (s.applyStep d).rows.fixed = s.rows.fixed := by
  obtain ⟨u, k, he, hdue, hrun, hfixed⟩ := s.applyStep_kept d
  have hst := s.stepped_alters d
  have hef : (s.stepped d).2.ef = s.ef := hst .ef (by decide)
  have hrows : (s.stepped d).2.rows = s.rows := hst .rows (by decide)
  have hm : Moves [.nv, .fm, .lg] u (s.applyStep d) := by
    rw [he]
    exact ((((Moves.self.journal (by decide) _ _).clearCond (by decide) _).raiseEvent (by decide) _ _).logKind
      (by decide) (by decide) (by decide) _ _)
  have hu : u.ef.HeadDone := ⟨by rw [hdue, hef]; exact h.1, by rw [hrun, hef]; exact h.2⟩
  exact ⟨hu.of_eq (hm .ef (by decide)), (congrArg (·.fixed) (hm .rows (by decide))).trans (by rw [hfixed, hrows])⟩

theorem State.agreedStep_done (s : State) (h : s.ef.HeadDone) :
    s.agreedStep.ef.HeadDone ∧ s.agreedStep.rows.fixed = s.rows.fixed := by
  unfold State.agreedStep
  dsimp only
  split
  · exact s.applyStep_done _ h
  · split
    · split
      · exact s.applyStep_done _ h
      · exact ⟨h, rfl⟩
    · exact ⟨h, rfl⟩

end

end Sys2Proof.Machine
end

section
/-! The agreed input set with the twin's ROW_INPUT (R377 to R381, R400, R430). -/

namespace Sys2Proof.Machine

-- One theorem after another: each thread of the checker takes 256 MB of stack.
set_option Elab.async false

section
variable {s t u : State} {m : RowInput} {ps : List Part} {n k : Nat}

/-! ### The holder's coils (R377) -/

theorem State.followCoil_wf (hw : tabWf {} s.os.coils = true) : tabWf {} (s.followCoil m n).os.coils = true := by
  unfold State.followCoil
  dsimp only
  split
  · exact hw
  · split
    · exact s.coilOff_wf n hw
    · unfold State.modCoil
      rw [State.modPm_os, State.modOs_os]
      dsimp only
      exact tabWf_tabMod ({} : Coil) n _ hw

theorem State.followCoil_same (hw : tabWf {} s.os.coils = true) : ((s.followCoil m n).coil n).cmd = bit m.coils (n - 1) := by
  unfold State.followCoil
  dsimp only
  split
  next h => exact (beq_iff_eq.1 h).symm
  next h =>
    split
    next hoff =>
      rw [State.coilOff_coil_same _ _ hw]
      have hbit : bit m.coils (n - 1) = false := by simpa using hoff
      exact hbit.symm
    next hon =>
      refine (congrArg Coil.cmd (State.modCoil_coil_same n _ hw)).trans ?_
      simpa using hon

theorem State.followCoil_other (h : k ≠ n) : (s.followCoil m n).coil k = s.coil k := by
  unfold State.followCoil
  dsimp only
  split
  · rfl
  · split
    · exact s.coilOff_coil_other k n h
    · exact State.modCoil_coil_other _ h

theorem State.followCoils_cmd (hw : tabWf {} s.os.coils = true) (hn : n ∈ [1, 2, 3, 4]) :
    (([1, 2, 3, 4].foldl (State.followCoil m) s).coil n).cmd = bit m.coils (n - 1) := by
  obtain ⟨u, hu, -, hr⟩ := foldl_entry (s := s) (f := State.followCoil m) State.coil (fun v => tabWf {} v.os.coils = true)
    (fun v k hv => State.followCoil_wf hv) (fun v k j _ hkj => State.followCoil_other hkj.symm) (by decide) hw hn
  rw [hr]
  exact State.followCoil_same hu

/-! ### What a unit keeps of its twin (R377) -/

/-- What the agreed set says of the twin. -/
def State.agreement (s : State) : TwinState × Bool × Nat × Nat × Nat × Nat :=
  (s.ty.state, s.ty.agreedTwin, s.ty.absentRun, s.ty.twinCoils, s.ty.twinSeq, s.ty.pairReaction)

theorem Moves.agreement (h : Moves ps s t) (hp : .ty ∉ ps := by decide) : t.agreement = s.agreement := by
  have hty : Twin.traffic s.ty t.ty := h .ty hp
  unfold Twin.traffic at hty
  unfold State.agreement
  rw [hty]

/-- The ring driver's share of the set, taken. -/
def State.ringTaken (s : State) (m : RowInput) : State := (m.ring.map s.takeRingShare).getD s

theorem State.ringTaken_moves (s : State) (m : RowInput) : Moves [.cl, .cfg, .stopWait] s (s.ringTaken m) := by
  unfold State.ringTaken
  cases m.ring with
  | none => exact .self
  | some x => exact Moves.self.takeRingShare

/-- The twin's outputs, noted. -/
def State.outputsNoted (s : State) (m : RowInput) : State := (s.ringTaken m).modTy fun y => { y with
  twinCoils := m.coils, twinSeq := m.seq, twinPull := m.pullIn, twinPullStart := m.pullInStart }

/-- Without the claim: the holder's coils and sequence, followed. -/
def State.holderFollowed (s : State) (m : RowInput) : State :=
  (([1, 2, 3, 4].foldl (State.followCoil m) (s.outputsNoted m)).modPc fun c => { c with seq := m.seq }).modDe fun d =>
    { d with connect := connectOf m.seq d.connect }

theorem State.followOutputs_of_holder (hg : s.os.gate = true ∨ bit m.unitFlags 0 = false) :
    s.followOutputs m = s.outputsNoted m := if_pos (by rcases hg with h | h <;> simp [h])

theorem State.followOutputs_of_other (hg : s.os.gate = false) (hb : bit m.unitFlags 0 = true) :
    s.followOutputs m = (m.iso.map (s.holderFollowed m).takeIso).getD (s.holderFollowed m) := if_neg (by simp [hg, hb])

theorem State.holderFollowed_moves (s : State) (m : RowInput) :
    Moves [.pm, .os, .pc, .de] (s.outputsNoted m) (s.holderFollowed m) :=
  (((Moves.self.trans (.foldl (fun _ _ => Moves.self.followCoil) _ _)).modPc (by decide) _).modDe (by decide) _)

theorem State.isoTaken_moves (v : State) (m : RowInput) : Moves [.fm, .im] v ((m.iso.map v.takeIso).getD v) := by
  cases m.iso with
  | none => exact .self
  | some x => exact Moves.self.takeIso

/-- What the set says of the twin's outputs, and what it moves. -/
theorem State.followOutputs_effects (s : State) (m : RowInput) :
    (s.followOutputs m).agreement = (s.ty.state, s.ty.agreedTwin, s.ty.absentRun, m.coils, m.seq, s.ty.pairReaction) ∧
      (s.followOutputs m).tb = s.tb ∧
      (s.os.gate = true → m.ring = none → Moves [.ty] s (s.followOutputs m)) ∧
      (tabWf {} s.os.coils = true → s.os.gate = false → bit m.unitFlags 0 = true → (s.followOutputs m).pc.seq = m.seq ∧
        ∀ n ∈ [1, 2, 3, 4], ((s.followOutputs m).coil n).cmd = bit m.coils (n - 1)) := by
  have hring := s.ringTaken_moves m
  have hnoted : (s.outputsNoted m).agreement =
      (s.ty.state, s.ty.agreedTwin, s.ty.absentRun, m.coils, m.seq, s.ty.pairReaction) := by
    have hty : Twin.traffic s.ty (s.ringTaken m).ty := hring .ty (by decide)
    unfold Twin.traffic at hty
    unfold State.agreement State.outputsNoted
    rw [State.modTy_ty, hty]
  have hnotedm : Moves [.cl, .cfg, .stopWait, .ty] s (s.outputsNoted m) := (hring.mono (by decide)).modTy (by decide) _
  by_cases hg : s.os.gate = true ∨ bit m.unitFlags 0 = false
  · rw [State.followOutputs_of_holder hg]
    refine ⟨hnoted, hnotedm .tb (by decide), fun _ hr => ?_, fun _ hn hb => ?_⟩
    · unfold State.outputsNoted State.ringTaken
      rw [hr]
      exact Moves.self.modTy (by decide) _
    · rcases hg with h | h
      · exact absurd (hn.symm.trans h) (by decide)
      · exact absurd (h.symm.trans hb) (by decide)
  · obtain ⟨hgate, hbit⟩ := not_or.1 hg
    have hfollow := s.holderFollowed_moves m
    have hiso := (s.holderFollowed m).isoTaken_moves m
    rw [State.followOutputs_of_other (by simpa using hgate) (by simpa using hbit)]
    generalize (m.iso.map (s.holderFollowed m).takeIso).getD (s.holderFollowed m) = v at hiso
    refine ⟨hiso.agreement.trans (hfollow.agreement.trans hnoted),
      (hiso .tb (by decide)).trans ((hfollow .tb (by decide)).trans (hnotedm .tb (by decide))),
      fun h => absurd h hgate, fun hw _ _ => ⟨congrArg (·.seq) (hiso .pc (by decide)), fun n hn => ?_⟩⟩
    have hos : v.os = (s.holderFollowed m).os := hiso .os (by decide)
    have hw' : tabWf {} (s.outputsNoted m).os.coils = true := by
      rw [show (s.outputsNoted m).os = s.os from hnotedm .os (by decide)]
      exact hw
    refine (congrArg (fun o : Outputs => (tabGet ({} : Coil) n o.coils).cmd) hos).trans ?_
    exact State.followCoils_cmd hw' hn

/-! ### The twin's time (R430) -/

/-- The steering by the twin's time leaves the steps that wait. -/
theorem State.twinTime_steps (s : State) (m : RowInput) :
    (s.twinTime m).tb.stepAgreed = s.tb.stepAgreed ∧ (s.twinTime m).tb.stepDue = s.tb.stepDue := by
  unfold State.twinTime
  extract_lets e bad v
  have hv : v.tb.stepAgreed = s.tb.stepAgreed ∧ v.tb.stepDue = s.tb.stepDue := by
    generalize hw : (s.modTb fun x => { x with
      twinOffset := some (saturate32 e), twinBad := if bad then min 100 (x.twinBad + 1) else 0 }) = w
    have hvw : v.tb = w.tb := hw ▸ (Moves.self (ps := [.fm])).cond (by decide) _ _ _ .tb (by decide)
    have htb : w.tb = { s.tb with
        twinOffset := some (saturate32 e), twinBad := if bad then min 100 (s.tb.twinBad + 1) else 0 } := hw ▸ s.modTb_tb _
    rw [hvw, htb]
    exact ⟨rfl, rfl⟩
  clear_value v
  split
  · exact hv
  · split
    · split
      · obtain ⟨y, i, hi⟩ := (v.modTb fun x => { x with state := .twin }).servo_tb (e : Rat) (1 / 10000)
        rw [hi]
        exact hv
      · exact hv
    · split <;> exact hv

/-! ### The set in lockstep (R377) -/

/-- The set up to the twin's time. -/
def State.setTimed (s : State) (m : RowInput) : State :=
  ((s.modTy fun y => { y with agreedTwin := true, absentRun := 0 }).followOutputs m).twinTime m

/-- The set up to the urgent triples. -/
def State.setUrgent (s : State) (m : RowInput) : State :=
  ((s.setTimed m).modSi fun i =>
    { i with xtripMatched := i.xtripMatched || (i.xtripIn && m.fast % 16 != 0) }).agreeUrgent m

/-- The set once the pair's reaction is agreed. -/
def State.setReacted (s : State) (m : RowInput) : State :=
  ((s.setUrgent m).modTy fun y => { y with pairReaction := max s.fm.pairOwn.code m.reaction }).modDe fun d => { d with
    twinCan := d.twinCan || bit m.unitFlags 6, twinEth := d.twinEth || bit m.unitFlags 7 }

theorem State.agreeSet_of_member (hs : s.ty.state = .member) (hc : m.cmds = []) :
    s.agreeSet m = (((s.setReacted m).agreeMeans m).agreeCurrent m).differences m := by
  have hm : (s.ty.state == .member) = true := by simp [hs]
  unfold State.agreeSet State.agreeCommands
  simp only [hm, hc, Bool.true_or, if_true, Bool.not_true, Bool.false_eq_true, if_false, List.filter_nil, List.foldl_nil]
  rfl

theorem State.means_agreement (s : State) (m : RowInput) :
    (((s.agreeMeans m).agreeCurrent m).differences m).agreement = s.agreement ∧
      (((s.agreeMeans m).agreeCurrent m).differences m).rows.fixed = s.rows.fixed ∧
      Moves [.ty, .rows] s (((s.agreeMeans m).agreeCurrent m).differences m) :=
  ⟨rfl, rfl, Moves.self.agreeMeans.agreeCurrent.differences⟩

/-- The agreed set of a MEMBER. -/
theorem State.agreeSet_effects (hs : s.ty.state = .member) (hc : m.cmds = []) :
    (s.agreeSet m).agreement = (.member, true, 0, m.coils, m.seq, max s.fm.pairOwn.code m.reaction) ∧
      (s.agreeSet m).rows.fixed = s.rows.fixed ∧
      (s.agreeSet m).tb.stepAgreed = s.tb.stepAgreed ∧ (s.agreeSet m).tb.stepDue = s.tb.stepDue ∧
      (s.os.gate = true → m.ring = none → Moves [.rows, .tb, .ty, .de, .si, .fm] s (s.agreeSet m)) ∧
      (tabWf {} s.os.coils = true → s.os.gate = false → bit m.unitFlags 0 = true → (s.agreeSet m).pc.seq = m.seq ∧
        ∀ n ∈ [1, 2, 3, 4], ((s.agreeSet m).coil n).cmd = bit m.coils (n - 1)) ∧
      Moves [.fm, .rows, .pm, .im, .pc, .cl, .de, .si, .os, .ty, .tb, .cfg, .stopWait] s (s.agreeSet m) := by
  generalize hw : (s.modTy fun y => { y with agreedTwin := true, absentRun := 0 }) = w
  have hsw : Alters [.ty] s w := hw ▸ s.modTy_alters _
  have hwty : w.ty = { s.ty with agreedTwin := true, absentRun := 0 } := hw ▸ s.modTy_ty _
  obtain ⟨hagree, htb, hholder, hother⟩ := w.followOutputs_effects m
  obtain ⟨hta, htd⟩ := (w.followOutputs m).twinTime_steps m
  have htime : Moves [.fm, .tb] (w.followOutputs m) (s.setTimed m) := hw ▸ Moves.self.twinTime
  have hurgent : Moves [.si, .fm] (s.setTimed m) (s.setUrgent m) := (Moves.self.modSi (by decide) _).agreeUrgent
  have hreact : Alters [.ty, .de] (s.setUrgent m) (s.setReacted m) := ((Alters.refl _ _).modTy (by decide) _).modDe (by decide) _
  obtain ⟨hmeans, hfixed, hmm⟩ := (s.setReacted m).means_agreement m
  rw [State.agreeSet_of_member hs hc]
  generalize (((s.setReacted m).agreeMeans m).agreeCurrent m).differences m = v at hmeans hfixed hmm
  have hend : Moves [.fm, .tb, .si, .ty, .de, .rows] (w.followOutputs m) v :=
    (((htime.mono (by decide)).trans (hurgent.mono (by decide))).trans (hreact.moves.mono (by decide))).trans (hmm.mono (by decide))
  have hag : (s.setUrgent m).agreement = (.member, true, 0, m.coils, m.seq, s.ty.pairReaction) := by
    rw [hurgent.agreement, htime.agreement, hagree, hwty, hs]
  have hreacted : (s.setReacted m).agreement = (.member, true, 0, m.coils, m.seq, max s.fm.pairOwn.code m.reaction) := by
    obtain ⟨h1, h2, h3, h4, h5, -⟩ : _ ∧ _ ∧ _ ∧ _ ∧ _ ∧ _ := by simpa only [State.agreement, Prod.mk.injEq] using hag
    unfold State.agreement
    rw [show (s.setReacted m).ty = { (s.setUrgent m).ty with pairReaction := max s.fm.pairOwn.code m.reaction } from rfl,
      h1, h2, h3, h4, h5]
  have hsteps : v.tb = ((w.followOutputs m).twinTime m).tb := (hmm .tb (by decide)).trans ((hreact .tb (by decide)).trans
    ((hurgent .tb (by decide)).trans (hw ▸ rfl)))
  have hwtb : w.tb = s.tb := hsw .tb (by decide)
  have hwos : w.os = s.os := hsw .os (by decide)
  have hvfixed : v.rows.fixed = s.rows.fixed := by
    have h1 : (w.followOutputs m).rows = w.rows := (Moves.self.followOutputs (ps := [.fm, .pm, .im, .pc, .cl, .de, .os, .ty, .cfg, .stopWait])) .rows (by decide)
    have h2 : (s.setReacted m).rows = (w.followOutputs m).rows := (hreact .rows (by decide)).trans
      ((hurgent .rows (by decide)).trans (htime .rows (by decide)))
    rw [hfixed, h2, h1, show w.rows = s.rows from hsw .rows (by decide)]
  refine ⟨hmeans.trans hreacted, hvfixed, ?_, ?_, fun hg hr => ?_, fun hwf hg hb => ?_, ?_⟩
  · rw [hsteps, hta, htb, hwtb]
  · rw [hsteps, htd, htb, hwtb]
  · exact ((hsw.moves.mono (by decide)).trans ((hholder (hwos ▸ hg) hr).mono (by decide))).trans (hend.mono (by decide))
  · obtain ⟨hseq, hcoils⟩ := hother (hwos ▸ hwf) (hwos ▸ hg) hb
    have hos : v.os = (w.followOutputs m).os := hend .os (by decide)
    refine ⟨(congrArg (·.seq) (hend .pc (by decide))).trans hseq, fun n hn => ?_⟩
    exact (congrArg (fun o : Outputs => (tabGet ({} : Coil) n o.coils).cmd) hos).trans (hcoils n hn)
  · exact ((hsw.moves.mono (by decide)).followOutputs).trans (hend.mono (by decide))

end

end Sys2Proof.Machine
end

section
/-! INPUT_SET_FIXED alone, in lockstep, at the loss of Twin Yarn, and in row 10 (R377, R379, R384, R385). -/

namespace Sys2Proof.Machine

-- One theorem after another: each thread of the checker takes 256 MB of stack.
set_option Elab.async false

section
variable {s t u : State} {m : RowInput} {ps : List Part}

/-! ### Alone -/

theorem State.liveAgreed_of_alone (h : s.ty.state ≠ .member) (x : Live) : s.liveAgreed x = true := by
  simp [State.liveAgreed, h]

theorem State.agreedNow_of_own {l : List Live} (h : ∀ x ∈ l, x.theirs = false) : s.agreedNow l = l := by
  have hown : l.filter (!·.theirs) = l := List.filter_eq_self.2 fun x hx => by simp [h x hx]
  have htheirs : l.filter (·.theirs) = [] := List.filter_eq_nil_iff.2 fun x hx => by simp [h x hx]
  unfold State.agreedNow
  rw [hown, htheirs, List.append_nil, List.nil_append, ite_self]

theorem execInputSetFixed_effects_alone (hr : s.inRow = true) (hf : s.rows.fixed = false) (hp : s.ty.paired = false)
    (hs : s.ty.state ≠ .member) (hh : s.ef.headDue = false) (hd : s.tb.stepDue = none) (ha : s.tb.stepAgreed = none) :
    ∃ t, execInputSetFixed s = .next t ∧ t.rows = { s.rows with fixed := true } ∧ t.ty = s.ty.unheard ∧
      t.sy = { s.sy with live := t.sy.live } ∧
      ((∀ x ∈ s.sy.live, x.theirs = false) → t.sy.live = s.sy.live.filter (·.agreed) ++
        (s.sy.live.filter (!·.agreed)).map fun x => { x with agreed := true }) ∧
      Alters [.rows, .tb, .ty, .sy] s t := by
  obtain ⟨hrows, -, hlink, hm⟩ := s.rowHeard_effects
  have hstate := (State.link_eq hlink).1
  have hagree := s.rowHeard.agreeLive_alters
  have hsy : s.rowHeard.sy = s.sy := hm .sy (by decide)
  refine ⟨_, execInputSetFixed_alone hr hf hp hs hh hd ha, (hagree .rows (by decide)).trans hrows,
    (hagree .ty (by decide)).trans (State.rowHeard_ty_of_unpaired hp), ?_, fun hown => ?_,
    (hm.mono (by decide)).trans (hagree.mono (by decide))⟩
  · rw [← hsy]
    rfl
  · have hlive := State.agreeLive_of_all (s := s.rowHeard) fun x _ => .inr
      (State.liveAgreed_of_alone (by rw [hstate]; exact hs) x)
    rw [hsy] at hlive
    rw [hlive, State.agreedNow_of_own fun x hx => hown x (List.mem_filter.1 hx).1]

/-! ### In lockstep -/

theorem State.sendSegment_agreement (s : State) : s.sendSegment.agreement = s.agreement := by
  unfold State.sendSegment
  split
  · rfl
  · split <;> rfl

theorem State.agreement_eq {a : TwinState × Bool × Nat × Nat × Nat × Nat} (h : t.agreement = a) :
    t.ty.agreedTwin = a.2.1 ∧ t.ty.absentRun = a.2.2.1 ∧ t.ty.twinCoils = a.2.2.2.1 ∧ t.ty.twinSeq = a.2.2.2.2.1 ∧
      t.ty.pairReaction = a.2.2.2.2.2 := h ▸ ⟨rfl, rfl, rfl, rfl, rfl⟩

theorem execInputSetFixed_effects_member (hr : s.inRow = true) (hf : s.rows.fixed = false) (hp : s.ty.paired = true)
    (hs : s.ty.state = .member) (hi : s.ty.rowIn = some m) (hrow : m.row = (s.rowAt 25000).rowCount) (hc : m.cmds = [])
    (hh : s.ef.headDue = false) (hd : s.tb.stepDue = none) (ha : s.tb.stepAgreed = none) (hw : tabWf {} s.os.coils = true) :
    ∃ t, execInputSetFixed s = .next t ∧ t.rows.fixed = true ∧ t.ty.agreedTwin = true ∧ t.ty.absentRun = 0 ∧
      t.ty.twinCoils = m.coils ∧ t.ty.twinSeq = m.seq ∧
      t.ty.pairReaction = max s.fm.pairOwn.code m.reaction ∧
      (s.os.gate = true → m.ring = none → Moves [.rows, .tb, .ty, .de, .si, .fm, .sy] s t) ∧
      (s.os.gate = false → bit m.unitFlags 0 = true →
        t.pc.seq = m.seq ∧ ∀ n ∈ [1, 2, 3, 4], (t.coil n).cmd = bit m.coils (n - 1)) ∧
      Moves [.fm, .rows, .pm, .im, .pc, .cl, .de, .si, .os, .ty, .tb, .sy, .cfg, .stopWait] s t := by
  obtain ⟨hrows, htb, hlink, hm⟩ := s.rowHeard_effects
  obtain ⟨hstate, hpaired, hin, -⟩ := State.link_eq hlink
  obtain ⟨hsa, hsd⟩ := s.rowAt_steps 25000
  have hnow : s.rowHeard.rowNow = some m :=
    State.rowNow_of_input (hpaired.trans hp) (hin.trans hi) (by rw [State.rowCount_of htb]; exact hrow)
  obtain ⟨hagree, hfixed, hta, htd, hholder, hother, hset⟩ := State.agreeSet_effects (hstate.trans hs) hc
  have hos : s.rowHeard.os = s.os := hm .os (by decide)
  have hfm : s.rowHeard.fm = s.fm := hm .fm (by decide)
  have hef : (s.rowHeard.agreeSet m).ef = s.ef := (hset .ef (by decide)).trans (hm .ef (by decide))
  have hidle := State.setFixed_of_idle (member := s.rowHeard.ty.state == .member) (u := s.rowHeard.agreeSet m)
    (by rw [hef, hh]) (by rw [hta, htb, hsa, ha]) (by rw [htd, htb, hsd, hd])
  have hramp := State.ramped_alters (s.rowHeard.ty.state == .member) (s.rowHeard.agreeSet m)
  refine ⟨_, (execInputSetFixed_of_input hr hf hnow).trans (next_of_eq hidle), ?_⟩
  generalize (if s.rowHeard.ty.state == .member && !(s.rowHeard.agreeSet m).loaderRuns then (s.rowHeard.agreeSet m).rampRow
    else s.rowHeard.agreeSet m) = v at hramp
  have hlive := v.sendSegment.agreeLive_alters
  have hend : Moves [.de, .ty, .sy] (s.rowHeard.agreeSet m) v.sendSegment.agreeLive :=
    ((hramp.moves.mono (by decide)).sendSegment).trans (hlive.moves.mono (by decide))
  have hall : v.sendSegment.agreeLive.agreement = (.member, true, 0, m.coils, m.seq, max s.fm.pairOwn.code m.reaction) := by
    rw [hlive.moves.agreement, v.sendSegment_agreement, hramp.moves.agreement, hagree, hfm]
  obtain ⟨h1, h2, h3, h4, h5⟩ := State.agreement_eq hall
  refine ⟨?_, h1, h2, h3, h4, h5, fun hg hring => ?_, fun hg hb => ?_, ?_⟩
  · refine (congrArg (·.fixed) (hend .rows (by decide))).trans (hfixed.trans ?_)
    rw [hrows]
  · exact ((hm.moves.mono (by decide)).trans ((hholder (hos ▸ hg) hring).mono (by decide))).trans (hend.mono (by decide))
  · obtain ⟨hseq, hcoils⟩ := hother (hos ▸ hw) (hos ▸ hg) hb
    have hvos : v.sendSegment.agreeLive.os = (s.rowHeard.agreeSet m).os := hend .os (by decide)
    refine ⟨(congrArg (·.seq) (hend .pc (by decide))).trans hseq, fun n hn => ?_⟩
    exact (congrArg (fun o : Outputs => (tabGet ({} : Coil) n o.coils).cmd) hvos).trans (hcoils n hn)
  · exact ((hm.moves.mono (by decide)).trans (hset.mono (by decide))).trans (hend.mono (by decide))

/-! ### Without the twin's ROW_INPUT (R385) -/

theorem execInputSetFixed_effects_lost (hr : s.inRow = true) (hf : s.rows.fixed = false) (hp : s.ty.paired = true)
    (hi : s.ty.rowIn = none) (hrun : s.ty.absentRun = 2) (hs : s.ty.state = .member) (hg : s.os.gate = true)
    (hh : s.ef.headDue = false) (hd : s.tb.stepDue = none) (ha : s.tb.stepAgreed = none) :
    ∃ t, execInputSetFixed s = .next t ∧ t.ty.state = .solo ∧ t.ty.paired = false ∧
      t.fm = ((s.rowAt 25000).condFm 0x0F04 0xFFFF).deactivate 0x0F08 ∧ Moves [.rows, .tb, .ty, .pm, .de, .fm, .sy] s t := by
  obtain ⟨-, htb, hlink, hm⟩ := s.rowHeard_effects
  obtain ⟨hstate, hpaired, hin, habsent, -⟩ := State.link_eq hlink
  obtain ⟨hsa, hsd⟩ := s.rowAt_steps 25000
  generalize hv : (s.rowHeard.modTy fun y => { y with absentRun := s.rowHeard.ty.absentRun + 1 }) = v
  have hva : Alters [.ty] s.rowHeard v := hv ▸ State.modTy_alters _ _
  have hvs : v.ty.state = .member := by
    rw [← hv]
    exact hstate.trans hs
  have hvtb : v.tb = (s.rowAt 25000).tb := (hva .tb (by decide)).trans htb
  have hvos : v.os = s.os := (hva .os (by decide)).trans (hm .os (by decide))
  have hlost : s.rowHeard.inputAbsent = v.yarnLost := by
    unfold State.inputAbsent
    rw [if_neg (by simp [hpaired, hp]), ← hv]
    exact if_pos (by rw [habsent, hrun])
  obtain ⟨hsolo, hunpaired, hfm, hmoves⟩ := State.yarnLost_effects hvs (by rw [hvos]; exact hg)
  have hyef : v.yarnLost.ef = s.ef := (hmoves .ef (by decide)).trans ((hva .ef (by decide)).trans (hm .ef (by decide)))
  have hytb : v.yarnLost.tb = (s.rowAt 25000).tb := (hmoves .tb (by decide)).trans hvtb
  have hidle := State.setFixed_of_idle (member := s.rowHeard.ty.state == .member) (u := v.yarnLost)
    (by rw [hyef, hh]) (by rw [hytb, hsa, ha]) (by rw [hytb, hsd, hd])
  have hramp := State.ramped_alters (s.rowHeard.ty.state == .member) v.yarnLost
  refine ⟨_, (execInputSetFixed_of_absent hr hf (State.rowNow_of_absent (hin.trans hi))).trans
    (next_of_eq (by rw [hlost, hidle])), ?_⟩
  generalize (if s.rowHeard.ty.state == .member && !v.yarnLost.loaderRuns then v.yarnLost.rampRow else v.yarnLost) = w at hramp
  have hwty : w.ty = v.yarnLost.ty := hramp .ty (by decide)
  have hquiet : w.sendSegment = w := State.sendSegment_of_quiet (by simp [State.talks, hwty, hunpaired])
  have hlive := w.agreeLive_alters
  have hty : w.agreeLive.ty = v.yarnLost.ty := (hlive .ty (by decide)).trans hwty
  rw [hquiet]
  refine ⟨by rw [hty, hsolo], by rw [hty, hunpaired], ?_, ?_⟩
  · refine (hlive .fm (by decide)).trans ((hramp .fm (by decide)).trans (hfm.trans (congrArg (FaultMgr.deactivate · 0x0F08) ?_)))
    exact State.condFm_of unitFault_yarnLost
      ((hva .fm (by decide)).trans ((hm .fm (by decide)).trans ((s.rowAt_alters 25000) .fm (by decide)).symm)) hvtb _
  · exact ((((hm.moves.mono (by decide)).trans (hva.moves.mono (by decide))).trans (hmoves.mono (by decide))).trans
      (hramp.moves.mono (by decide))).trans (hlive.moves.mono (by decide))

/-- A row without the twin's inputs moves no more than the loss of Twin Yarn does. -/
theorem State.inputAbsent_effects (h : s.ty.rowIn = none) : s.inputAbsent.ty.rowIn = none ∧ Moves [.fm, .pm, .ty] s s.inputAbsent := by
  have hlost : ∀ u : State, u.yarnLost.ty.rowIn = none := fun u => by
    have hraise : Moves [.fm] u.unpair (u.unpair.raiseCond 0x0F04) := Moves.self.raiseCond (by decide) _ _
    have hty : Twin.traffic u.unpair.ty (u.unpair.raiseCond 0x0F04).ty := hraise .ty (by decide)
    have hin : (u.unpair.raiseCond 0x0F04).ty.rowIn = none := by
      unfold Twin.traffic at hty
      rw [hty]
      rfl
    unfold State.yarnLost
    dsimp only
    split
    · rfl
    · split
      · exact hin
      · exact hin
  unfold State.inputAbsent
  split
  · exact ⟨h, .self⟩
  · dsimp only
    split
    · exact ⟨hlost _, (Moves.self.modTy (by decide) _).yarnLost⟩
    · exact ⟨h, Moves.self.modTy (by decide) _⟩

/-! ### Row 10 (R379) -/

theorem State.rowIn_of (h : t.tb = s.tb) : t.rowIn = s.rowIn := by
  unfold State.rowIn State.ns
  rw [h]

theorem execInputSetFixed_effects_cutoff (hr : s.inRow = true) (hf : s.rows.fixed = false) (h10 : (s.rowAt 25000).rowIn = 10)
    (hh : s.ef.headDue = true) (hi : s.ty.rowIn = none) :
    ∃ t, execInputSetFixed s = .next t ∧ t.ef.headDue = false ∧ t.ef.headRun = true ∧ t.rows.fixed = true := by
  obtain ⟨hrows, htb, hlink, hm⟩ := s.rowHeard_effects
  have hin := (State.link_eq hlink).2.2.1
  obtain ⟨hain, hamoves⟩ := State.inputAbsent_effects (hin.trans hi)
  have hramp := State.ramped_alters (s.rowHeard.ty.state == .member) s.rowHeard.inputAbsent
  refine ⟨_, execInputSetFixed_of_absent hr hf (State.rowNow_of_absent (hin.trans hi)), ?_⟩
  unfold State.setFixed
  generalize (if s.rowHeard.ty.state == .member && !s.rowHeard.inputAbsent.loaderRuns then s.rowHeard.inputAbsent.rampRow
    else s.rowHeard.inputAbsent) = v at hramp
  have hvm : Moves [.fm, .pm, .ty, .de] s.rowHeard v := (hamoves.mono (by decide)).trans (hramp.moves.mono (by decide))
  have hvin : v.ty.rowIn = none := (congrArg (·.rowIn) (hramp .ty (by decide))).trans hain
  have hvtb : v.tb = (s.rowAt 25000).tb := (hvm .tb (by decide)).trans htb
  have hvdue : v.ef.headDue = true := by
    rw [show v.ef = s.ef from (hvm .ef (by decide)).trans (hm .ef (by decide)), hh]
  rw [State.agreeCutoff_of_absent ((State.rowIn_of hvtb).trans h10) hvdue (State.rowNow_of_absent hvin)]
  have hdone := State.cutoffWork_done hvin
  have hwork : Moves [.fm, .ss, .cl, .pm, .ef, .bs, .tm, .de, .si, .nv] v v.cutoffWork := Moves.self.cutoffWork
  have hsend : Moves [.ty] v.cutoffWork v.cutoffWork.sendSegment := Moves.self.sendSegment
  have hlive := v.cutoffWork.sendSegment.agreeLive_alters
  obtain ⟨hstep, hfixed⟩ := (v.cutoffWork.sendSegment.agreeLive).agreedStep_done
    ((hdone.of_eq (hsend .ef (by decide))).of_eq (hlive .ef (by decide)))
  refine ⟨hstep.1, hstep.2, hfixed.trans ?_⟩
  rw [show v.cutoffWork.sendSegment.agreeLive.rows = s.rowHeard.rows from (hlive .rows (by decide)).trans
    ((hsend .rows (by decide)).trans ((hwork .rows (by decide)).trans (hvm .rows (by decide)))), hrows]

end

end Sys2Proof.Machine
end

section
/-! What the output stages come to in a row's commit, and what it keeps (R26, R332, R353, R391). -/

namespace Sys2Proof.Machine

-- One theorem after another: each thread of the checker takes 256 MB of stack.
set_option Elab.async false

section
variable {s t u v : State} {ps : List Part} {c : CommitInp}

/-! ### The power state -/

/-- The power state is the same, and the state that a power failure came from. -/
def State.Powered (s t : State) : Prop := t.pm.state = s.pm.state ∧ t.pm.failFrom = s.pm.failFrom

theorem State.Powered.trans (h : s.Powered t) (k : t.Powered u) : s.Powered u := ⟨k.1.trans h.1, k.2.trans h.2⟩

theorem Moves.powered (h : Moves ps s t) (hp : .pm ∉ ps := by decide) : s.Powered t := by
  have hpm : t.pm = s.pm := h .pm hp
  unfold State.Powered
  rw [hpm]
  exact ⟨rfl, rfl⟩

theorem State.Powered.foldl {α : Type} {f : State → α → State} (hf : ∀ (u : State) (x : α), u.Powered (f u x)) (l : List α) (s : State) :
    s.Powered (l.foldl f s) :=
  List.foldlRecOn l (motive := fun u : State => s.Powered u) _ ⟨rfl, rfl⟩ fun u hu x _ => hu.trans (hf u x)

theorem State.coilsOff_powered (l : List Nat) (s : State) : s.Powered (l.foldl State.coilOff s) :=
  .foldl (f := State.coilOff) (fun _ _ => ⟨rfl, rfl⟩) l s

theorem State.dropCoils_powered (s : State) : s.Powered s.dropCoils := by
  have h := State.coilsOff_powered [1, 2, 3, 4] s
  unfold State.dropCoils
  extract_lets v w
  split
  · have hw : s.Powered w := h.trans ⟨rfl, rfl⟩
    split
    · exact hw.trans (Moves.self.journalEnergy (ps := [.nv]) (by decide)).powered
    · exact hw
  · split
    · exact h.trans ⟨rfl, rfl⟩
    · exact h

theorem State.safeOff_powered (s : State) : s.Powered s.safeOff := by
  unfold State.safeOff
  split
  · exact State.coilsOff_powered _ s
  · exact s.dropCoils_powered

theorem State.askPulse_powered (s : State) : s.Powered s.askPulse := (Moves.self.askPulse (ps := [.si, .os])).powered

theorem State.take_powered (s : State) (a : Action) : s.Powered (s.take a) := by
  have hoff : s.Powered (if a == .unit then s.safeOff else s.dropCoils) := by
    split
    · exact s.safeOff_powered
    · exact s.dropCoils_powered
  unfold State.take
  extract_lets v
  have hv : s.Powered v := hoff.trans ⟨rfl, rfl⟩
  have hd : s.Powered v.dropUvr := hv.trans ⟨rfl, rfl⟩
  split
  · exact hv
  · split
    · exact hd.trans (State.askPulse_powered _)
    · exact hv
  · exact hd.trans (State.askPulse_powered _)
  · exact hd

theorem State.act_powered (s : State) (begins : Bool) (a : Action) : s.Powered (s.act begins a) := by
  have hd : s.Powered s.dropCoils.dropUvr := s.dropCoils_powered.trans ⟨rfl, rfl⟩
  unfold State.act
  split
  · exact s.take_powered a
  · split
    · exact s.dropCoils_powered
    · split
      · exact hd.trans (State.askPulse_powered _)
      · exact s.dropCoils_powered
    · exact hd.trans (State.askPulse_powered _)
    · exact s.safeOff_powered.trans ⟨rfl, rfl⟩

theorem State.safetyCommit_powered (s : State) (twin : Nat) : s.Powered (s.safetyCommit twin) := by
  unfold State.safetyCommit
  extract_lets own pair all before s1 pulses s2 s3
  have h1 : s.Powered s1 := by
    refine State.Powered.trans (t := if s.si.tripTest then s.take .trip else s) ?_ (.foldl (fun u n => ?_) _ _)
    · split
      · exact s.take_powered _
      · exact ⟨rfl, rfl⟩
    · split
      · exact u.act_powered _ _
      · exact ⟨rfl, rfl⟩
  clear_value s1
  have h3 : Moves [.si, .fm] s1 s3 := ((Moves.self.modSi (by decide) _).functionFaults).unblock
  have hs3 : s.Powered s3 := h1.trans h3.powered
  clear_value s3
  split
  · exact hs3
  · exact hs3.trans (Moves.self.restoreUvr (ps := [.os])).powered

theorem State.allSafe_powered (s : State) : s.Powered s.allSafe := s.safeOff_powered.trans ⟨rfl, rfl⟩

/-- The row's outputs before the pin check. -/
theorem State.commitOutputs_powered (s : State) (c : CommitInp) : s.Powered (s.commitOutputs c) := by
  unfold State.commitOutputs
  extract_lets w x y
  have hw : Moves [.fm] s w := (Moves.self.cond (by decide) _ _ _).cond (by decide) _ _ _
  clear_value w
  have hx : Moves [.fm, .rows] s x := .ite ((hw.mono (by decide)).modRows (by decide) _) (hw.mono (by decide))
  clear_value x
  have hy : Moves [.fm, .rows, .si] s y :=
    (Moves.ite ((hx.mono (by decide)).modSi (by decide) _) (hx.mono (by decide))).modSi (by decide) _
  clear_value y
  split
  · exact hy.powered.trans (State.allSafe_powered _)
  · exact hy.powered.trans (State.safetyCommit_powered _ _)

theorem State.goSolo_powered (s : State) : s.Powered s.goSolo := ⟨rfl, rfl⟩

theorem State.takeClaim_powered (s : State) (kind : Nat) : s.Powered (s.takeClaim kind) := by
  unfold State.takeClaim
  extract_lets w drive x ago y z
  have hx : Moves [.os, .ty] s x := by
    refine (Moves.self.modTy (by decide) _ : Moves [.os, .ty] s w).trans (.foldl (fun u n => ?_) _ _)
    unfold drive
    exact .ite (Moves.self.modCoil (by decide) _ _) .self
  clear_value x
  have hy : s.Powered y := by
    unfold y
    split
    · exact hx.powered
    · exact hx.powered.trans ⟨rfl, rfl⟩
  clear_value y
  have hz : s.Powered z := hy.trans (Moves.self.raiseEvent (ps := [.fm]) (by decide) _ _).powered
  clear_value z
  split
  · exact hz.trans z.goSolo_powered
  · split
    · exact hz.trans z.goSolo_powered
    · exact hz

theorem State.driveWord_powered (s : State) (word : Nat) (driving : Bool) : s.Powered (s.driveWord word driving) := by
  unfold State.driveWord
  extract_lets open' w
  have hw : s.Powered w := ⟨rfl, rfl⟩
  clear_value w
  split
  · have htwin : w.Powered (w.modTy fun y => { y with twinHeld := false }) := ⟨rfl, rfl⟩
    exact hw.trans (State.Powered.trans htwin (State.takeClaim_powered _ _))
  · split
    · exact hw.trans w.safeOff_powered
    · exact hw

theorem State.takeCommands_powered (s : State) : s.Powered s.takeCommands := by
  unfold State.takeCommands
  extract_lets n begins w
  have hw : s.Powered (if begins then w.modPm fun p => { p with lastPullIn := some s.tb.now } else w) := by
    split
    · exact ⟨rfl, rfl⟩
    · exact ⟨rfl, rfl⟩
  exact hw.trans (Moves.self.startPulse (ps := [.si, .os])).powered

/-! ### Outputs in their safe state -/

/-- Every coil is commanded off, and the undervoltage release is dropped. -/
structure State.SafeOutputs (s : State) : Prop where
  wf : tabWf {} s.os.coils = true
  coils : CoilsOff s
  uvr : s.os.uvr = false

theorem State.coilsOff_wf (l : List Nat) (h : tabWf {} s.os.coils = true) : tabWf {} (l.foldl State.coilOff s).os.coils = true :=
  List.foldlRecOn l (motive := fun u : State => tabWf {} u.os.coils = true) _ h fun u hu n _ => u.coilOff_wf n hu

theorem State.dropCoils_coils (s : State) : s.dropCoils.os = ([1, 2, 3, 4].foldl State.coilOff s).os := by
  unfold State.dropCoils
  extract_lets w x
  split
  · split
    · exact (Moves.self.journalEnergy (ps := [.nv]) (by decide)) .os (by decide)
    · rfl
  · split <;> rfl

theorem State.safeOff_coils (s : State) : s.safeOff.os = ([1, 2, 3, 4].foldl State.coilOff s).os := by
  unfold State.safeOff
  split
  · rfl
  · exact s.dropCoils_coils

/-- Every coil is off once the outputs are made safe. -/
theorem State.safeOff_off (h : tabWf {} s.os.coils = true) : tabWf {} s.safeOff.os.coils = true ∧ CoilsOff s.safeOff := by
  have hos : s.safeOff.os = s.dropCoils.os := s.safeOff_coils.trans s.dropCoils_coils.symm
  refine ⟨?_, (s.dropCoils_off h).of_os hos⟩
  rw [s.safeOff_coils]
  exact State.coilsOff_wf _ h

theorem State.SafeOutputs.of_os (h : s.SafeOutputs) (hos : t.os = s.os) : t.SafeOutputs :=
  ⟨by rw [hos]; exact h.wf, h.coils.of_os hos, by rw [hos]; exact h.uvr⟩

theorem State.allSafe_safe (h : tabWf {} s.os.coils = true) : s.allSafe.SafeOutputs :=
  ⟨(State.safeOff_off h).1, (State.safeOff_off h).2, rfl⟩

theorem State.SafeOutputs.safeOff (h : s.SafeOutputs) : s.safeOff.SafeOutputs := by
  refine ⟨(State.safeOff_off h.wf).1, (State.safeOff_off h.wf).2, ?_⟩
  rw [State.safeOff_os]
  exact h.uvr

/-- A word that opens no gate leaves safe outputs safe. -/
theorem State.SafeOutputs.driveWord {word : Nat} {driving : Bool} (h : s.SafeOutputs) (hg : s.gateAt word driving = false) :
    (s.driveWord word driving).SafeOutputs := by
  unfold State.driveWord
  extract_lets open' w
  have ho : open' = false := hg
  have hw : w.SafeOutputs := ⟨h.wf, h.coils, h.uvr⟩
  clear_value w
  rw [ho, Bool.false_and, Bool.false_and, if_neg Bool.false_ne_true]
  split
  · exact hw.safeOff
  · exact hw

theorem State.takeCommands_coil (s : State) (n : Nat) : s.takeCommands.coil n = { s.coil n with drive := (s.coil n).cmd } := by
  unfold State.takeCommands
  extract_lets k begins w
  rw [State.startPulse_coil]
  have hw : w.coil n = { s.coil n with drive := (s.coil n).cmd } :=
    tabGet_map ({} : Coil) n (f := fun c => { c with drive := c.cmd }) rfl s.os.coils
  split <;> exact hw

theorem State.SafeOutputs.takeCommands (h : s.SafeOutputs) : CoilsOff s.takeCommands ∧ s.takeCommands.os.uvr = false := by
  refine ⟨fun n hn => ?_, ?_⟩
  · rw [State.takeCommands_coil]
    exact h.coils n hn
  · unfold State.takeCommands
    extract_lets k begins w
    rw [State.startPulse_uvr]
    split <;> exact h.uvr

end

end Sys2Proof.Machine
end

section
/-! The output commit of a row, and the judgement at its digest deadline (R26, R383 to R387, R391). -/

namespace Sys2Proof.Machine

-- One theorem after another: each thread of the checker takes 256 MB of stack.
set_option Elab.async false

section
variable {s t u v : State} {ps : List Part} {c : CommitInp}

/-! ### The words of the claim pair -/

/-- The own words of this row and the one before stand, and a unit that is not refused is not refused after. -/
structure State.Worded (s t : State) : Prop where
  prev : t.ty.wordPrev = s.ty.wordPrev
  own : t.ty.wordOwn = s.ty.wordOwn
  admitted : s.ty.state ≠ .refused → t.ty.state ≠ .refused

theorem State.Worded.refl (s : State) : s.Worded s := ⟨rfl, rfl, fun h => h⟩

theorem State.Worded.trans (h : s.Worded t) (k : t.Worded u) : s.Worded u :=
  ⟨k.prev.trans h.prev, k.own.trans h.own, fun hs => k.admitted (h.admitted hs)⟩

theorem Moves.worded (h : Moves ps s t) (hp : .ty ∉ ps := by decide) : s.Worded t := by
  have hty : Twin.traffic s.ty t.ty := h .ty hp
  have hprev : t.ty.wordPrev = s.ty.wordPrev := by rw [hty]
  have hown : t.ty.wordOwn = s.ty.wordOwn := by rw [hty]
  have hstate : t.ty.state = s.ty.state := by rw [hty]
  exact ⟨hprev, hown, fun hs => hstate ▸ hs⟩

theorem State.goSolo_worded (s : State) : s.Worded s.goSolo := by
  have h : s.Worded (s.clearCond 0x0F08) := (Moves.self.clearCond (ps := [.fm]) (by decide) _).worded
  refine h.trans ⟨rfl, rfl, fun _ => ?_⟩
  exact fun hs => TwinState.noConfusion hs

theorem State.takeClaim_worded (s : State) (kind : Nat) : s.Worded (s.takeClaim kind) := by
  unfold State.takeClaim
  extract_lets w drive x ago y z
  have hw : s.Worded w := ⟨rfl, rfl, fun h => h⟩
  have hx : Moves [.os] w x := by
    refine .foldl (fun u n => ?_) _ _
    unfold drive
    exact .ite (Moves.self.modCoil (by decide) _ _) .self
  have hz : Moves [.os, .pm, .fm] w z := by
    refine (hx.mono (by decide)).trans (Moves.trans (t := y) ?_ (Moves.self.raiseEvent (by decide) _ _))
    exact .ite .self (Moves.self.modPm (by decide) _)
  clear_value w x y z
  have hs : s.Worded z := hw.trans hz.worded
  split
  · exact hs.trans z.goSolo_worded
  · split
    · exact hs.trans z.goSolo_worded
    · exact hs

/-- A row's word becomes the own word, and the own word the one of the row before (R391). -/
theorem State.driveWord_words (s : State) (word : Nat) (driving : Bool) :
    (s.driveWord word driving).ty.wordPrev = s.ty.wordOwn ∧ (s.driveWord word driving).ty.wordOwn = word ∧
      (s.ty.state ≠ .refused → (s.driveWord word driving).ty.state ≠ .refused) := by
  unfold State.driveWord
  extract_lets open' w
  have hw : w.ty.wordPrev = s.ty.wordOwn ∧ w.ty.wordOwn = word ∧ w.ty.state = s.ty.state := ⟨rfl, rfl, rfl⟩
  clear_value w
  obtain ⟨hprev, hown, hstate⟩ := hw
  have key : ∀ t : State, w.Worded t →
      t.ty.wordPrev = s.ty.wordOwn ∧ t.ty.wordOwn = word ∧ (s.ty.state ≠ .refused → t.ty.state ≠ .refused) :=
    fun t h => ⟨h.prev.trans hprev, h.own.trans hown, fun hs => h.admitted (hstate ▸ hs)⟩
  split
  · refine key _ (State.Worded.trans (t := w.modTy fun y => { y with twinHeld := false }) ⟨rfl, rfl, fun h => h⟩ ?_)
    exact State.takeClaim_worded _ _
  · split
    · exact key _ (Moves.self.safeOff (ps := [.fm, .pm, .pc, .de, .os, .nv])).worded
    · exact key _ (.refl _)

theorem State.pinCheck_worded (s : State) (driving : Bool) : s.Worded (s.pinCheck driving) := by
  unfold State.pinCheck
  split
  · exact State.Worded.trans (t := s.modTy fun y => { y with drivingNoClaim := false }) ⟨rfl, rfl, fun h => h⟩
      (Moves.self.clearCond (ps := [.fm]) (by decide) _).worded
  · split
    · exact State.Worded.trans (t := s.modTy fun y => { y with drivingNoClaim := true }) ⟨rfl, rfl, fun h => h⟩
        (Moves.self.raiseCond (ps := [.fm]) (by decide) _ _).worded
    · exact .refl _

theorem State.yieldStart_worded (s : State) : s.Worded s.yieldStart.2 := by
  unfold State.yieldStart
  split
  · exact ⟨rfl, rfl, fun h => h⟩
  · exact .refl _

theorem State.healthRow_worded (s : State) (word : Nat) : s.Worded (s.healthRow word) := by
  unfold State.healthRow
  extract_lets low n
  split
  · exact State.Worded.trans (t := s.modTy fun y => { y with healthBelow := 0 }) ⟨rfl, rfl, fun h => h⟩ (State.yieldStart_worded _)
  · exact ⟨rfl, rfl, fun h => h⟩

theorem State.claimPairCheck_worded (s : State) (good : Bool) : s.Worded (s.claimPairCheck good) := by
  unfold State.claimPairCheck
  extract_lets n
  exact State.Worded.trans (t := s.modTy fun y => { y with readBad := n }) ⟨rfl, rfl, fun h => h⟩
    (Moves.self.cond (ps := [.fm]) (by decide) _ _ _).worded

/-- Frames to the twin leave the words as they are. -/
theorem State.toTwin_worded (s : State) (f : TwinFrame) : s.Worded (s.toTwin f) := (Moves.self.toTwin (ps := [])).worded

/-- The digest frames of a row, with the digest as given (R383). -/
def State.sendDigests (s : State) (m : DigestMsg) : State :=
  let t := s.modTy fun y => { y with digestOwn := m }
  let u := if s.talks then t.toTwin (.digest m) else t
  let v := if s.deaf || s.ty.state == .refused then u else u.toTwin (.claim s.ty.wordOwn (s.rowCount % 256))
  v.modTy fun y => { y with outMark := v.out.length }

theorem State.sendDigest_eq (s : State) : ∃ m, s.sendDigest = s.sendDigests m := ⟨_, rfl⟩

theorem State.sendDigest_worded (s : State) : s.Worded s.sendDigest := by
  obtain ⟨m, e⟩ := s.sendDigest_eq
  rw [e]
  unfold State.sendDigests
  extract_lets w x y
  have hw : s.Worded w := ⟨rfl, rfl, fun h => h⟩
  have hx : s.Worded x := by
    unfold x
    split
    · exact hw.trans (w.toTwin_worded _)
    · exact hw
  have hy : s.Worded y := by
    unfold y
    split
    · exact hx
    · exact hx.trans (x.toTwin_worded _)
  clear_value y
  exact hy.trans ⟨rfl, rfl, fun h => h⟩

/-- The claim frame of the row leaves with the digest (R390). -/
theorem State.sendDigest_claim (hd : s.deaf = false) (hs : s.ty.state ≠ .refused) :
    s.frameOf (.claim s.ty.wordOwn (s.rowCount % 256)) ∈ s.sendDigest.out := by
  obtain ⟨m, e⟩ := s.sendDigest_eq
  rw [e]
  unfold State.sendDigests
  extract_lets w x y
  have hx : x.tb = s.tb := (Moves.ite (Moves.self.toTwin) Moves.self : Moves [] w x) .tb (by decide)
  have hy : y = x.toTwin (.claim s.ty.wordOwn (s.rowCount % 256)) := if_neg (by simp [hd, hs])
  rw [← State.frameOf_of hx]
  clear_value x
  have hout : y.out = x.out ++ [x.frameOf (.claim s.ty.wordOwn (s.rowCount % 256))] := by rw [hy, State.toTwin_out]
  have hmem : x.frameOf (.claim s.ty.wordOwn (s.rowCount % 256)) ∈ y.out := by
    rw [hout]
    exact List.mem_append_right _ (List.mem_singleton_self _)
  clear_value y
  exact hmem

theorem State.sendSegment_worded (s : State) : s.Worded s.sendSegment := by
  unfold State.sendSegment
  split
  · exact .refl _
  · split
    · exact ⟨rfl, rfl, fun h => h⟩
    · extract_lets k b last
      refine State.Worded.trans ?_ (State.toTwin_worded _ _)
      exact ⟨rfl, rfl, fun h => h⟩

end

end Sys2Proof.Machine
end

section
/-! The output commit of a row, and the judgement at its digest deadline (R26, R383 to R387, R391). -/

namespace Sys2Proof.Machine

-- One theorem after another: each thread of the checker takes 256 MB of stack.
set_option Elab.async false

section
variable {s t u v : State} {ps : List Part} {c : CommitInp}

/-! ### The parts of a commit -/

theorem State.Powered.coreUp (h : s.Powered t) (hl : t.ld = s.ld) : t.coreUp = s.coreUp := by
  obtain ⟨hstate, hfrom⟩ := h
  unfold State.coreUp
  rw [hstate, hfrom, hl]

theorem State.Powered.deaf (h : s.Powered t) (hm : Moves ps s t) (hc : .cfg ∉ ps := by decide) (hi : .id ∉ ps := by decide)
    (hl : .ld ∉ ps := by decide) : t.deaf = s.deaf := by
  have hld : t.ld = s.ld := hm .ld hl
  unfold State.deaf
  rw [hm.cfgGet _ _ hc hi, h.coreUp hld]

/-- The row's outputs, checked against the twin's word (R389, R391). -/
def State.outputs (s : State) (c : CommitInp) : State :=
  ((s.modSi fun i => { i with rowLoss := false }).commitOutputs c).pinCheck (c.twinDriving && s.sharedCoil)

/-- The outputs driven with the row's word (R391). -/
def State.driven (s : State) (c : CommitInp) : State :=
  ((s.outputs c).driveWord ((s.outputs c).rowWord (c.late || c.mismatch)) (c.twinDriving && s.sharedCoil)).takeCommands

/-- The unit's own checks after the outputs (R394, R396). -/
def State.checked (s : State) (c : CommitInp) : State :=
  ((s.driven c).healthRow ((s.outputs c).rowWord (c.late || c.mismatch))).claimPairCheck c.readbackOk

theorem State.committed_eq (s : State) (c : CommitInp) : s.committed c = (s.checked c).sendDigest.sendSegment := rfl

theorem State.outputs_moves (s : State) (c : CommitInp) :
    Moves [.fm, .rows, .pm, .pc, .de, .si, .os, .nv, .ty] s (s.outputs c) :=
  (Moves.self.modSi (by decide) _).commitOutputs.pinCheck

theorem State.driven_moves (s : State) (c : CommitInp) :
    Moves [.fm, .rows, .pm, .pc, .de, .si, .os, .nv, .ty] s (s.driven c) :=
  (s.outputs_moves c).driveWord.takeCommands

theorem State.checked_moves (s : State) (c : CommitInp) : Moves [.fm, .ty] (s.driven c) (s.checked c) :=
  Moves.self.healthRow.claimPairCheck

theorem State.committed_moves (s : State) (c : CommitInp) : Moves [.fm, .ty] (s.driven c) (s.committed c) :=
  (s.checked_moves c).sendDigest.sendSegment

theorem State.committed_frame (s : State) (c : CommitInp) :
    Moves [.fm, .rows, .pm, .pc, .de, .si, .os, .nv, .ty] s (s.committed c) :=
  (s.driven_moves c).trans ((s.committed_moves c).mono (by decide))

/-! ### The words of a commit -/

theorem State.outputs_worded (s : State) (c : CommitInp) : s.Worded (s.outputs c) := by
  have h : Moves [.fm, .rows, .pm, .pc, .de, .si, .os, .nv] s
      ((s.modSi fun i => { i with rowLoss := false }).commitOutputs c) := (Moves.self.modSi (by decide) _).commitOutputs
  exact h.worded.trans (State.pinCheck_worded _ _)

/-- The own words after a row's outputs (R391). -/
theorem State.driven_words (s : State) (c : CommitInp) :
    (s.driven c).ty.wordPrev = s.ty.wordOwn ∧ (s.driven c).ty.wordOwn = (s.outputs c).rowWord (c.late || c.mismatch) ∧
      (s.ty.state ≠ .refused → (s.driven c).ty.state ≠ .refused) := by
  obtain ⟨hprev, hown, hstate⟩ := (s.outputs c).driveWord_words ((s.outputs c).rowWord (c.late || c.mismatch))
    (c.twinDriving && s.sharedCoil)
  have ho := s.outputs_worded c
  have hk : State.Worded _ (s.driven c) := (Moves.self.takeCommands (ps := [.pm, .si, .os])).worded
  exact ⟨hk.prev.trans (hprev.trans ho.own), hk.own.trans hown, fun hs => hk.admitted (hstate (ho.admitted hs))⟩

theorem State.checked_worded (s : State) (c : CommitInp) : (s.driven c).Worded (s.checked c) :=
  (State.healthRow_worded _ _).trans (State.claimPairCheck_worded _ _)

theorem State.sent_worded (s : State) (c : CommitInp) : (s.checked c).Worded (s.committed c) :=
  (State.sendDigest_worded _).trans (State.sendSegment_worded _)

theorem State.committed_words (s : State) (c : CommitInp) :
    (s.committed c).ty.wordPrev = s.ty.wordOwn ∧
      (s.committed c).ty.wordOwn = (s.outputs c).rowWord (c.late || c.mismatch) := by
  obtain ⟨hprev, hown, -⟩ := s.driven_words c
  have h := (s.checked_worded c).trans (s.sent_worded c)
  exact ⟨h.prev.trans hprev, h.own.trans hown⟩

theorem State.committed_gateAt (s : State) (c : CommitInp) : (s.committed c).os.gate =
    (s.outputs c).gateAt ((s.outputs c).rowWord (c.late || c.mismatch)) (c.twinDriving && s.sharedCoil) := by
  have hos : (s.committed c).os = (s.driven c).os := s.committed_moves c .os (by decide)
  rw [hos]
  unfold State.driven
  rw [State.takeCommands_gate, State.driveWord_gate]

/-- The gate is open only where both own words exceed the twin's (R391). -/
theorem State.committed_gate_lt {s : State} {c : CommitInp} (h : (s.committed c).os.gate = true) :
    wordValue s.ty.wordTwin < wordValue s.ty.wordOwn ∧
      wordValue s.ty.wordTwin < wordValue (s.committed c).ty.wordOwn := by
  refine ⟨State.committed_gate h, ?_⟩
  rw [s.committed_gateAt c] at h
  have hm : Moves [.fm, .rows, .pm, .pc, .de, .si, .os, .nv] s
      ((s.modSi fun i => { i with rowLoss := false }).commitOutputs c) := (Moves.self.modSi (by decide) _).commitOutputs
  have htwin : (s.outputs c).ty.wordTwin = s.ty.wordTwin :=
    (State.pinCheck_words _).1.trans (Twin.traffic.words (hm .ty (by decide))).1
  obtain ⟨-, hlt⟩ := State.gateAt_lt h
  rw [htwin] at hlt
  rwa [(s.committed_words c).2]

/-! ### The claim frame of a row -/

theorem State.checked_deaf (s : State) (c : CommitInp) : (s.checked c).deaf = s.deaf := by
  have hm : Moves [.fm, .rows, .pm, .pc, .de, .si, .os, .nv, .ty] s (s.checked c) :=
    (s.driven_moves c).trans ((s.checked_moves c).mono (by decide))
  refine State.Powered.deaf ?_ hm
  have h0 : s.Powered (s.modSi fun i => { i with rowLoss := false }) := ⟨rfl, rfl⟩
  have h1 : s.Powered (s.outputs c) :=
    (h0.trans (State.commitOutputs_powered _ _)).trans (Moves.self.pinCheck (ps := [.fm, .ty])).powered
  have h2 : s.Powered (s.driven c) := (h1.trans (State.driveWord_powered _ _ _)).trans (State.takeCommands_powered _)
  exact h2.trans (s.checked_moves c).powered

theorem State.committed_claim (hd : s.deaf = false) (hs : s.ty.state ≠ .refused) :
    (s.committed c).frameOf (.claim (s.committed c).ty.wordOwn ((s.committed c).rowCount % 256)) ∈ (s.committed c).out := by
  have hm : Moves [.ty] (s.checked c) (s.committed c) := Moves.self.sendDigest.sendSegment
  have htb : (s.committed c).tb = (s.checked c).tb := hm .tb (by decide)
  have hstate : (s.checked c).ty.state ≠ .refused := (s.checked_worded c).admitted ((s.driven_words c).2.2 hs)
  have hmem := State.sendDigest_claim ((s.checked_deaf c).trans hd) hstate
  have hout : (s.checked c).sendDigest.out <+: (s.committed c).out :=
    (Moves.self.sendSegment : Moves [.ty] (s.checked c).sendDigest (s.committed c)) .out (by decide)
  rw [State.frameOf_of htb, State.rowCount_of htb, (s.sent_worded c).own]
  exact hout.subset hmem

/-! ### The row of a commit -/

theorem State.commitOutputs_rows (s : State) (c : CommitInp) : (s.commitOutputs c).rows =
    { s.rows with overrunCount := if c.late then s.rows.overrunCount + 1 else s.rows.overrunCount } := by
  unfold State.commitOutputs
  extract_lets w x y
  have hw : w.rows = s.rows := ((Moves.self.cond (by decide) _ _ _).cond (by decide) _ _ _ : Moves [.fm] s w) .rows (by decide)
  have hx : x.rows = { s.rows with overrunCount := if c.late then s.rows.overrunCount + 1 else s.rows.overrunCount } := by
    unfold x
    split
    · rw [← hw]; rfl
    · exact hw
  have hy : y.rows = x.rows := ((Moves.ite (Moves.self.modSi (by decide) _) .self).modSi (by decide) _ : Moves [.si] x y) .rows (by decide)
  have hz : Moves [.fm, .pm, .pc, .de, .si, .os, .nv] y (if c.late || c.mismatch || s.loaderRuns then y.allSafe
      else y.safetyCommit (if s.ty.agreedTwin then (s.ty.rowIn.map (·.demand)).getD 0 else 0)) :=
    .ite Moves.self.allSafe Moves.self.safetyCommit
  exact (hz .rows (by decide)).trans (hy.trans hx)

theorem State.committed_rows (s : State) (c : CommitInp) : (s.committed c).rows =
    { s.rows with overrunCount := if c.late then s.rows.overrunCount + 1 else s.rows.overrunCount } := by
  have h : Moves [.fm, .pm, .pc, .de, .si, .os, .nv, .ty]
      ((s.modSi fun i => { i with rowLoss := false }).commitOutputs c) (s.committed c) :=
    Moves.self.pinCheck.driveWord.takeCommands.healthRow.claimPairCheck.sendDigest.sendSegment
  have hrows := h .rows (by decide)
  exact hrows.trans (State.commitOutputs_rows _ c)

/-! ### A late commit -/

theorem State.rowWord_failed (s : State) : wordValue (s.rowWord true) = 0 := by
  have htie : s.claimTie < 256 := by
    unfold State.claimTie b2n
    split <;> omega
  have hhealth : s.health true = 0 := by
    unfold State.health
    rw [Bool.true_or, Bool.true_or, Bool.true_or, Bool.true_or, Bool.true_or, Bool.true_or, if_pos rfl]
  have hword : s.rowWord true / 256 % 16 = 0 := by
    unfold State.rowWord State.claimWord
    rw [hhealth]
    split <;> omega
  unfold wordValue
  rw [hword]
  rfl

theorem State.gateAt_failed (s t : State) (driving : Bool) : s.gateAt (t.rowWord true) driving = false := by
  refine Bool.eq_false_iff.mpr fun h => ?_
  have hlt := (State.gateAt_lt h).2
  rw [t.rowWord_failed] at hlt
  exact absurd hlt (Nat.not_lt_zero _)

/-- A late commit leaves every output safe (R26). -/
theorem State.outputs_safe (hl : c.late = true) (hw : tabWf {} s.os.coils = true) : (s.outputs c).SafeOutputs := by
  refine State.SafeOutputs.of_os (s := (s.modSi fun i => { i with rowLoss := false }).commitOutputs c) ?_
    ((Moves.self.pinCheck (ps := [.fm, .ty])) .os (by decide))
  unfold State.commitOutputs
  extract_lets w x y
  have hx : Moves [.fm, .rows] (s.modSi fun i => { i with rowLoss := false }) x :=
    .ite (((Moves.self.cond (by decide) _ _ _).cond (by decide) _ _ _).modRows (by decide) _)
      ((Moves.self.cond (by decide) _ _ _).cond (by decide) _ _ _)
  have hy : Moves [.si] x y := (Moves.ite (Moves.self.modSi (by decide) _) .self).modSi (by decide) _
  have hos : y.os = s.os := (hy .os (by decide)).trans (hx .os (by decide))
  clear_value y
  rw [hl, Bool.true_or, Bool.true_or, if_pos rfl]
  exact State.allSafe_safe (by rw [hos]; exact hw)

theorem State.committed_late (hl : c.late = true) (hw : tabWf {} s.os.coils = true) :
    CoilsOff (s.committed c) ∧ (s.committed c).os.uvr = false ∧ (s.committed c).os.gate = false ∧
      wordValue (s.committed c).ty.wordOwn = 0 := by
  have hf : (c.late || c.mismatch) = true := by rw [hl, Bool.true_or]
  have hsafe : CoilsOff (s.driven c) ∧ (s.driven c).os.uvr = false := by
    refine ((State.outputs_safe hl hw).driveWord ?_).takeCommands
    rw [hf]
    exact State.gateAt_failed _ _ _
  have hos : (s.committed c).os = (s.driven c).os := s.committed_moves c .os (by decide)
  refine ⟨hsafe.1.of_os hos, by rw [hos]; exact hsafe.2, ?_, ?_⟩
  · rw [s.committed_gateAt, hf]
    exact State.gateAt_failed _ _ _
  · rw [(s.committed_words c).2, hf]
    exact State.rowWord_failed _

/-! ### The instant of a commit -/

theorem State.atCommit_alters (s : State) : Alters [.tb, .rows] s s.atCommit :=
  ((s.rowAt_alters 55000).mono (by decide)).trans (State.modRows_alters _ _ |>.mono (by decide))

theorem State.atCommit_rows (s : State) : s.atCommit.rows = { s.rows with committed := true } := by
  have h : (s.rowAt 55000).rows = s.rows := s.rowAt_alters 55000 .rows (by decide)
  unfold State.atCommit
  rw [State.modRows_rows, h]

end

end Sys2Proof.Machine
end

section
/-! The instants of the row: the output commit, the digest deadline, and the family's statement. -/

namespace Sys2Proof.Machine

-- One theorem after another: each thread of the checker takes 256 MB of stack.
set_option Elab.async false

section
variable {s t u v : State} {ps : List Part} {c : CommitInp}

/-! ### The output commit (R26, R390, R391) -/

theorem execOutputCommit_of_due (hr : s.inRow = true) (hc : s.rows.committed = false) (hy : s.ty.yielding = 0)
    (hd : s.pm.softDue = 0) : execOutputCommit c s = .next (s.atCommit.committed c) := by
  rw [execOutputCommit_eq c hr hc hy, hd]
  rfl

theorem State.atCommit_committed_moves (s : State) (c : CommitInp) :
    Moves [.fm, .rows, .pm, .pc, .de, .si, .os, .ty, .tb, .nv] s (s.atCommit.committed c) :=
  (s.atCommit_alters.moves.mono (by decide)).trans ((State.committed_frame _ c).mono (by decide))

theorem State.atCommit_committed_rows (s : State) (c : CommitInp) : (s.atCommit.committed c).rows.committed = true ∧
    (s.atCommit.committed c).rows.overrunCount = if c.late then s.rows.overrunCount + 1 else s.rows.overrunCount := by
  rw [State.committed_rows, State.atCommit_rows]
  exact ⟨rfl, rfl⟩

theorem execOutputCommit_effects (hr : s.inRow = true) (hc : s.rows.committed = false) (hy : s.ty.yielding = 0)
    (hd : s.pm.softDue = 0) :
    ∃ t, execOutputCommit c s = .next t ∧ t.rows.committed = true ∧ t.ty.wordPrev = s.ty.wordOwn ∧
      (t.os.gate = true → wordValue s.ty.wordTwin < wordValue s.ty.wordOwn ∧
        wordValue s.ty.wordTwin < wordValue t.ty.wordOwn) ∧
      (s.deaf = false → s.ty.state ≠ .refused → t.frameOf (.claim t.ty.wordOwn (t.rowCount % 256)) ∈ t.out) ∧
      Moves [.fm, .rows, .pm, .pc, .de, .si, .os, .ty, .tb, .nv] s t := by
  have hty : s.atCommit.ty = s.ty := s.atCommit_alters .ty (by decide)
  refine ⟨_, execOutputCommit_of_due hr hc hy hd, (s.atCommit_committed_rows c).1, ?_, fun hg => ?_, fun hdeaf hs => ?_,
    s.atCommit_committed_moves c⟩
  · rw [(State.committed_words _ c).1, hty]
  · have h := State.committed_gate_lt hg
    rwa [hty] at h
  · exact State.committed_claim (s.atCommit_alters.moves.deaf.trans hdeaf) (by rw [hty]; exact hs)

theorem execOutputCommit_effects_late (hr : s.inRow = true) (hc : s.rows.committed = false) (hy : s.ty.yielding = 0)
    (hl : c.late = true) (hd : s.pm.softDue = 0) (hw : tabWf {} s.os.coils = true) :
    ∃ t, execOutputCommit c s = .next t ∧ t.rows.committed = true ∧
      t.rows.overrunCount = s.rows.overrunCount + 1 ∧ CoilsOff t ∧ t.os.uvr = false ∧ t.os.gate = false ∧
      wordValue t.ty.wordOwn = 0 ∧ Moves [.fm, .rows, .pm, .pc, .de, .si, .os, .ty, .tb, .nv] s t := by
  have hos : s.atCommit.os = s.os := s.atCommit_alters .os (by decide)
  obtain ⟨hrows, hover⟩ := s.atCommit_committed_rows c
  rw [hl, if_pos rfl] at hover
  obtain ⟨hoff, huvr, hgate, hword⟩ := State.committed_late (s := s.atCommit) hl (by rw [hos]; exact hw)
  exact ⟨_, execOutputCommit_of_due hr hc hy hd, hrows, hover, hoff, huvr, hgate, hword, s.atCommit_committed_moves c⟩

/-! ### The digest deadline (R383 to R387) -/

/-- The state at the digest deadline, 70 us into the row. -/
def State.atDeadline (s : State) : State := (s.rowAt 70000).modRows fun r => { r with judged := true }

theorem State.atDeadline_alters (s : State) : Alters [.tb, .rows] s s.atDeadline :=
  ((s.rowAt_alters 70000).mono (by decide)).trans ((State.modRows_alters _ _).mono (by decide))

theorem State.atDeadline_rows (s : State) : s.atDeadline.rows = { s.rows with judged := true } := by
  have h : (s.rowAt 70000).rows = s.rows := s.rowAt_alters 70000 .rows (by decide)
  unfold State.atDeadline
  rw [State.modRows_rows, h]

theorem execDigestDeadline_eq (hr : s.inRow = true) (hj : s.rows.judged = false) : execDigestDeadline s =
    .next (if s.ty.state == .member then s.atDeadline.memberRow
      else if s.ty.state == .joining then s.atDeadline.joinRow else s.atDeadline) := by
  have hty : s.atDeadline.ty = s.ty := s.atDeadline_alters .ty (by decide)
  unfold execDigestDeadline
  rw [if_neg (by simp [hr, hj]), ← hty]
  rfl

theorem execDigestDeadline_effects_alone (hr : s.inRow = true) (hj : s.rows.judged = false) (hm : s.ty.state ≠ .member)
    (hn : s.ty.state ≠ .joining) :
    ∃ t, execDigestDeadline s = .next t ∧ t.rows = { s.rows with judged := true } ∧ Alters [.rows, .tb] s t := by
  refine ⟨s.atDeadline, ?_, s.atDeadline_rows, s.atDeadline_alters.mono (by decide)⟩
  rw [execDigestDeadline_eq hr hj, if_neg (by simpa using hm), if_neg (by simpa using hn)]

/-- What a row was judged by stands on the time, and on what came from the twin. -/
theorem State.stitch_of (hty : t.ty = s.ty) (htb : t.tb = s.tb) : t.stitch = s.stitch := by
  unfold State.stitch State.digestsDiffer State.digestNow State.rowNow
  rw [State.rowIn_of htb, State.rowCount_of htb, hty]

theorem State.memberRow_stitches (s : State) : s.memberRow.ty.stitched = s.stitch ∧
    s.memberRow.ty.stitches = if s.stitch then s.ty.stitches + 1 else s.ty.stitches := by
  unfold State.memberRow
  extract_lets n recent window run bad w
  have hm : Moves [.fm] (s.modTy fun y => { y with
      stitched := s.stitch, stitches := if s.stitch then y.stitches + 1 else y.stitches, window, diffRun := run
      rejoinDue := y.rejoinDue || bad }) (if bad then w.raiseCond 0x0F05 else if s.rowIn == 86 then w.clearCond 0x0F05 else w) :=
    Moves.trans (t := w) (Moves.self.cond (by decide) _ _ _)
      (.ite (Moves.self.raiseCond (by decide) _ _) (.ite (Moves.self.clearCond (by decide) _) .self))
  have hty : Twin.traffic _ _ := hm .ty (by decide)
  rw [hty]
  exact ⟨rfl, rfl⟩

theorem execDigestDeadline_effects_member {b : Bool} (hr : s.inRow = true) (hj : s.rows.judged = false)
    (hm : s.ty.state = .member) (hb : b = (s.rowAt 70000).stitch) :
    ∃ t, execDigestDeadline s = .next t ∧ t.rows = { s.rows with judged := true } ∧ t.ty.stitched = b ∧
      t.ty.stitches = (if b then s.ty.stitches + 1 else s.ty.stitches) ∧ Moves [.rows, .tb, .ty, .fm] s t := by
  have hty : s.atDeadline.ty = s.ty := s.atDeadline_alters .ty (by decide)
  have hstitch : s.atDeadline.stitch = b := by
    rw [hb]
    exact State.stitch_of rfl rfl
  have hmoves : Moves [.fm, .ty] s.atDeadline s.atDeadline.memberRow := Moves.self.memberRow
  obtain ⟨hstitched, hstitches⟩ := s.atDeadline.memberRow_stitches
  rw [hstitch] at hstitched hstitches
  rw [hty] at hstitches
  refine ⟨s.atDeadline.memberRow, ?_, (hmoves .rows (by decide)).trans s.atDeadline_rows, hstitched, hstitches,
    (s.atDeadline_alters.moves.mono (by decide)).trans (hmoves.mono (by decide))⟩
  rw [execDigestDeadline_eq hr hj, if_pos (by rw [hm]; rfl)]

/-! ### The order of a row's writes -/

theorem State.agreeLive_sides (h : ∀ x ∈ s.sy.live, x.agreed = false ∧ s.liveAgreed x = true) :
    (s.ty.sideB = false → s.agreeLive.sy.live = (s.sy.live.filter (!·.theirs) ++ s.sy.live.filter (·.theirs)).map fun x =>
      { x with agreed := true }) ∧
    (s.ty.sideB = true → s.agreeLive.sy.live = (s.sy.live.filter (·.theirs) ++ s.sy.live.filter (!·.theirs)).map fun x =>
      { x with agreed := true }) := by
  rw [State.agreeLive_of_new h]
  unfold State.agreedNow
  refine ⟨fun hb => ?_, fun hb => ?_⟩
  · rw [if_neg (by simp [hb])]
  · rw [if_pos hb]

end

/-- Settles O49: a row's start, its speed index, its writes, its agreed input set, its outputs and its judgement. -/
theorem rowCommands : Obligations.RowCommands := by
  unfold Obligations.RowCommands
  refine ⟨fun s l hr hl => execRowStart_of_quiet hr hl, fun s n reference v hr h1 hv => execSpeedIndexWindowEnd_of_runs hr h1 hv,
    fun s pattern k x hx => ⟨s.liveRun_length pattern, s.liveRun_acted pattern hx⟩,
    fun s t pattern x pre post status body hl hx hn ha => State.liveRun_of_one hl hx hn ha,
    fun s pattern h => State.liveRun_of_none_due h, ?_, fun s h => State.agreeLive_sides h,
    fun s hr hf hp hs hh hd ha => execInputSetFixed_effects_alone hr hf hp hs hh hd ha,
    fun s m hr hf hp hs hi hrow hc hh hd ha hw => execInputSetFixed_effects_member hr hf hp hs hi hrow hc hh hd ha hw,
    fun s hr hf hp hi hrun hs hg hh hd ha => execInputSetFixed_effects_lost hr hf hp hi hrun hs hg hh hd ha,
    fun s hr hf h10 hs hh hi => execInputSetFixed_effects_cutoff hr hf h10 hh hi,
    fun s c hr hc hy hl hm hd => execOutputCommit_effects hr hc hy hd,
    fun s c hr hc hy hl hd hw => execOutputCommit_effects_late hr hc hy hl hd hw,
    fun s hr hj hm hn => execDigestDeadline_effects_alone hr hj hm hn,
    fun s b hr hj hm hb => execDigestDeadline_effects_member hr hj hm hb⟩
  intro s l k hr hload hc
  obtain ⟨t, he, hlen, hacted, hanswers⟩ := execRowStart_live (l := l) hr hload hc
  exact ⟨t, he, hlen, fun x hx => hacted k x hx, hanswers⟩

end Sys2Proof.Machine
end

section
/-! The resident loader (R536 to R540). Its statement holds if and only if no header passes the checks of R530, and those
rest on two constants that the model leaves open: the digests of the ROM keys and the signature's verification. -/

namespace Sys2Proof.Machine

-- One theorem after another: each thread of the checker takes 256 MB of stack.
set_option Elab.async false

section
variable {s t u : State} {r : Req} {x : Session} {total k offset : Nat} {header chunk : Bytes}

/-! ### LOAD_BEGIN (R536, R537) -/

theorem Moves.headerReason (h : Moves [] s t) (header : Bytes) (total : Nat) :
    t.headerReason header total = s.headerReason header total := by
  have hld : t.ld = s.ld := h .ld (by decide)
  exact State.headerReason_of_ld (by rw [hld]) (by rw [hld]) (h .id (by decide)) header total

theorem Moves.nvOpen (h : Moves [] s t) : t.nvOpen = s.nvOpen := by
  have hpm : t.pm = s.pm := h .pm (by decide)
  have htm : t.tm = s.tm := h .tm (by decide)
  rw [State.nvOpen, State.nvOpen, hpm, htm]

theorem Moves.loadCondition (h : Moves [] s t) (r : Req) : t.loadCondition r = s.loadCondition r := by
  have hld : t.ld = s.ld := h .ld (by decide)
  unfold State.loadCondition
  rw [hld, h.anyCoil (by decide), h.provenOpen, h.twinHealthy (by decide) (by decide), h.nvOpen]

theorem State.headerReason_le (s : State) (header : Bytes) (total : Nat) : s.headerReason header total ≤ 6 := by
  unfold State.headerReason
  repeat' split
  all_goals decide

/-- A header that fails a check is refused with its reason. -/
theorem execLoadBegin_of_refused (h : Accepted s r 0x60 (leBytes 4 total ++ header) 1092 engineer x)
    (hk : s.headerReason header total = k) (h0 : k ≠ 0) :
    ∃ s1, execLoadBegin r total header s = .next ((s1.loadRefuse k).finish r false x 0x60 0x0A (loadBody k)) ∧ Moves [] s s1 := by
  obtain ⟨s1, he, hm⟩ := State.enter_accepted false h
  have hle : k ≤ 6 := hk ▸ s.headerReason_le header total
  refine ⟨s1, ?_, hm⟩
  unfold execLoadBegin
  rw [he]
  dsimp only
  rw [hm.headerReason, hk, if_pos (show (k != 0) = true by simpa using h0), if_pos (show (k != 0) = true by simpa using h0)]
  unfold loadStatus
  rw [if_pos hle]

/-- What a refused header changes: the loader's reason, and the fault of it. -/
theorem State.loadRefuse_effects (hm : Moves [] s t) (hk : k ≤ 6 ∨ k = 11) :
    (t.loadRefuse k).ld = { s.ld with refusal := k } ∧ (t.loadRefuse k).fm = s.eventFm 0x1407 k ∧
      Moves [.ld, .fm] s (t.loadRefuse k) := by
  have hld : t.ld = s.ld := hm .ld (by decide)
  have hcode : t.loadRefuse k = (t.modLd fun l => { l with refusal := k }).raiseEvent 0x1407 k := by
    unfold State.loadRefuse
    rw [if_pos (by simpa using hk)]
  have hw : Moves [.ld] s (t.modLd fun l => { l with refusal := k }) := (hm.mono (by decide)).modLd (by decide) _
  have hwld : (t.modLd fun l => { l with refusal := k }).ld = { s.ld with refusal := k } := by rw [State.modLd_ld, hld]
  rw [hcode]
  generalize (t.modLd fun l => { l with refusal := k }) = w at hw hwld
  have hr : Moves [.fm] w (w.raiseEvent 0x1407 k) := Moves.self.raiseEvent (by decide) _ _
  exact ⟨(hr .ld (by decide)).trans hwld, (State.raiseEvent_fm _ _ _).trans (hw.eventFm (by decide) _ _),
    (hw.mono (by decide)).trans (hr.mono (by decide))⟩

theorem execLoadBegin_effects_refused (h : Accepted s r 0x60 (leBytes 4 total ++ header) 1092 engineer x)
    (hk : s.headerReason header total = k) (h0 : k ≠ 0) :
    ∃ t, execLoadBegin r total header s = .next t ∧ Answered t r 0x60 0x0A (leBytes 4 k ++ leBytes 4 4096) ∧
      t.ld = { s.ld with refusal := k } ∧ t.fm = s.eventFm 0x1407 k ∧ Moves [.ld, .fm] s t := by
  obtain ⟨s1, he, hm⟩ := execLoadBegin_of_refused h hk h0
  obtain ⟨hld, hfm, hr⟩ := State.loadRefuse_effects hm (.inl (hk ▸ s.headerReason_le header total))
  have hf : Moves [] (s1.loadRefuse k) ((s1.loadRefuse k).finish r false x 0x60 0x0A (loadBody k)) := Moves.self.finish
  exact ⟨_, he, State.finish_answered _ _ _ _ _ _ _, (hf .ld (by decide)).trans hld, (hf .fm (by decide)).trans hfm, hr.finish⟩

/-- A load that waits for the twin to take the claim (R537). -/
def State.loadWaits (s : State) (r : Req) (total : Nat) (header : Bytes) : State :=
  let t := s.modLd fun l => { l with header, total }
  ((t.popSlot r).2.modLd fun l => { l with state := 1, req := some r, slot := (t.popSlot r).1 }).yieldStart.2.modPm
    fun p => { p with softDue := 3 }

theorem execLoadBegin_of_waiting (h : Accepted s r 0x60 (leBytes 4 total ++ header) 1092 engineer x)
    (hc : s.loadCondition r = 0) (hs : s.ld.state = 0) (hg : s.os.gate = true) (ht : s.twinHealthy = true)
    (hk : s.headerReason header total = 0) :
    ∃ s1, execLoadBegin r total header s = .next (s1.loadWaits r total header) ∧ Moves [] s s1 ∧ s1.out = s.out := by
  obtain ⟨s1, he, hm⟩ := State.enter_accepted false h
  have hld : s1.ld = s.ld := hm .ld (by decide)
  have hos : s1.os = s.os := hm .os (by decide)
  have hw : Moves [.ld] s (s1.modLd fun l => { l with header, total }) := (hm.mono (by decide)).modLd (by decide) _
  refine ⟨s1, ?_, hm, (State.enter_quiet he).2.2⟩
  unfold execLoadBegin
  rw [he]
  dsimp only
  rw [hm.headerReason, hk, hm.loadCondition, hc, if_neg (by decide), if_pos]
  · rfl
  · rw [hw.twinHealthy (by decide) (by decide), ht, State.modLd_ld, State.modLd_os, hld, hos, hs, hg]
    rfl

theorem State.loadWaits_effects (hm : Moves [] s t) (hg : s.os.gate = true) (ht : s.twinHealthy = true) :
    (t.loadWaits r total header).ld.state = 1 ∧ (t.loadWaits r total header).ld.req = some r ∧
      (t.loadWaits r total header).ty.yielding = 1 ∧ (t.loadWaits r total header).pm.softDue = 3 ∧
      (t.loadWaits r total header).out = t.out ∧ Moves [.ld, .ty, .pm] s (t.loadWaits r total header) := by
  unfold State.loadWaits
  extract_lets w
  have hw : Moves [.ld] s w := (hm.mono (by decide)).modLd (by decide) _
  have hwout : w.out = t.out := State.modLd_out _ _
  clear_value w
  have hv : Moves [.ld] s ((w.popSlot r).2.modLd fun l => { l with state := 1, req := some r, slot := (w.popSlot r).1 }) :=
    hw.popSlot.modLd (by decide) _
  have hvld : ((w.popSlot r).2.modLd fun l => { l with state := 1, req := some r, slot := (w.popSlot r).1 }).ld.state = 1 ∧
      ((w.popSlot r).2.modLd fun l => { l with state := 1, req := some r, slot := (w.popSlot r).1 }).ld.req = some r := ⟨rfl, rfl⟩
  have hvout : ((w.popSlot r).2.modLd fun l => { l with state := 1, req := some r, slot := (w.popSlot r).1 }).out = t.out :=
    (State.modLd_out _ _).trans ((State.popSlot_out _ _).trans hwout)
  generalize ((w.popSlot r).2.modLd fun l => { l with state := 1, req := some r, slot := (w.popSlot r).1 }) = v at hv hvld hvout
  have hos : v.os = s.os := hv .os (by decide)
  have hy : v.yieldStart.2 = v.modTy fun y => { y with yielding := 1 } := by
    unfold State.yieldStart
    rw [if_pos (by rw [hos, hg, hv.twinHealthy (by decide) (by decide), ht]; rfl)]
  rw [hy]
  exact ⟨hvld.1, hvld.2, rfl, rfl, hvout, ((hv.mono (by decide)).modTy (by decide) _).modPm (by decide) _⟩

/-- A holder with a healthy twin hands over before it loads, or refuses the header. -/
theorem execLoadBegin_effects_holder (h : Accepted s r 0x60 (leBytes 4 total ++ header) 1092 engineer x)
    (hc : s.loadCondition r = 0) (hs : s.ld.state = 0) (hg : s.os.gate = true) (ht : s.twinHealthy = true) :
    ∃ t, execLoadBegin r total header s = .next t ∧
      (s.headerReason header total = 0 → t.ld.state = 1 ∧ t.ld.req = some r ∧ t.ty.yielding = 1 ∧ t.pm.softDue = 3 ∧
        t.out = s.out) ∧ Moves [.ld, .ty, .pm, .fm] s t := by
  by_cases hk : s.headerReason header total = 0
  · obtain ⟨s1, he, hm, hout⟩ := execLoadBegin_of_waiting h hc hs hg ht hk
    obtain ⟨hstate, hreq, hyield, hdue, hsent, hmoves⟩ := State.loadWaits_effects (r := r) (total := total) (header := header) hm hg ht
    exact ⟨_, he, fun _ => ⟨hstate, hreq, hyield, hdue, hsent.trans hout⟩, hmoves.mono (by decide)⟩
  · obtain ⟨t, he, -, -, -, hm⟩ := execLoadBegin_effects_refused h rfl hk
    exact ⟨t, he, fun h0 => absurd h0 hk, hm.mono (by decide)⟩

/-! ### LOAD_DATA and its programming (R538) -/

/-- A chunk waits for its programming, which begins at once where writes are permitted. -/
def State.chunkHeld (s : State) (r : Req) (chunk : Bytes) : State :=
  ((s.popSlot r).2.modLd fun l => { l with chunk, begun := false, req := some r, slot := (s.popSlot r).1 }).progKick

theorem State.progKick_ld (s : State) (h : s.ld.begun = false) :
    s.progKick.ld = { s.ld with begun := s.nvOpen && !s.ld.chunk.isEmpty } := by
  unfold State.progKick
  split
  next hk => rw [State.modLd_ld, hk]
  next hk => rw [Bool.eq_false_iff.mpr hk, ← h]

theorem State.progKick_alters (s : State) : Alters [.ld] s s.progKick := .ite (State.modLd_alters _ _) (.refl _ _)

theorem execLoadData_of_next (h : Accepted s r 0x61 (leBytes 4 offset ++ chunk) 5 engineer x) (hlen : chunk.length ≤ 2008)
    (hs : s.ld.state = 2) (hsess : s.ld.loadSession = r.session) (hreq : s.ld.req = none) (ho : offset = s.ld.next)
    (ht : offset + chunk.length ≤ s.ld.total) :
    ∃ s1, execLoadData r offset chunk s = .next (s1.chunkHeld r chunk) ∧ Moves [] s s1 ∧ s1.sy.queue = s.sy.queue ∧
      s1.out = s.out := by
  obtain ⟨s1, he, hm⟩ := State.enter_accepted false h
  obtain ⟨hq, -, hout⟩ := State.enter_quiet he
  have hld : s1.ld = s.ld := hm .ld (by decide)
  have hnum := State.session_num h.session
  refine ⟨s1, ?_, hm, hq, hout⟩
  unfold execLoadData
  rw [he]
  dsimp only
  rw [if_neg (Nat.not_lt.mpr hlen), hld, if_neg (by simp [hs, hsess, hnum, hreq]), if_neg (by simp [← ho]; omega)]
  rfl

theorem State.chunkHeld_effects (s : State) (r : Req) (chunk : Bytes) :
    (s.chunkHeld r chunk).ld = { s.ld with
        chunk, begun := s.nvOpen && !chunk.isEmpty, req := some r
        slot := if r.source = .spi then s.sy.queue.head? else none } ∧
      (s.chunkHeld r chunk).out = s.out ∧ Moves [.ld] s (s.chunkHeld r chunk) := by
  have hp : Moves [] s (s.popSlot r).2 := Moves.self.popSlot
  have hld : (s.popSlot r).2.ld = s.ld := hp .ld (by decide)
  unfold State.chunkHeld
  generalize hw : ((s.popSlot r).2.modLd fun l => { l with chunk, begun := false, req := some r, slot := (s.popSlot r).1 }) = w
  have ha : Alters [.ld] (s.popSlot r).2 w := hw ▸ State.modLd_alters _ _
  have hwld : w.ld = { s.ld with
      chunk, begun := false, req := some r, slot := if r.source = .spi then s.sy.queue.head? else none } := by
    rw [← hw, State.modLd_ld, hld, State.popSlot_fst]
  have hnv : w.nvOpen = s.nvOpen := by
    have hpm : w.pm = s.pm := (ha .pm (by decide)).trans (hp .pm (by decide))
    have htm : w.tm = s.tm := (ha .tm (by decide)).trans (hp .tm (by decide))
    rw [State.nvOpen, State.nvOpen, hpm, htm]
  have hout : w.progKick.out = w.out := w.progKick_alters .out (by decide)
  refine ⟨?_, hout.trans ((ha .out (by decide)).trans (State.popSlot_out _ _)),
    (hp.mono (by decide)).trans (ha.moves.trans w.progKick_alters.moves)⟩
  rw [w.progKick_ld (by rw [hwld]), hnv, hwld]

theorem execLoadData_effects (h : Accepted s r 0x61 (leBytes 4 offset ++ chunk) 5 engineer x) (hlen : chunk.length ≤ 2008)
    (hs : s.ld.state = 2) (hsess : s.ld.loadSession = r.session) (hreq : s.ld.req = none) (ho : offset = s.ld.next)
    (ht : offset + chunk.length ≤ s.ld.total) :
    ∃ t, execLoadData r offset chunk s = .next t ∧
      t.ld = { s.ld with
        chunk, begun := s.nvOpen && !chunk.isEmpty, req := some r
        slot := if r.source = .spi then s.sy.queue.head? else none } ∧
      t.out = s.out ∧ Moves [.ld] s t := by
  obtain ⟨s1, he, hm, hq, hout⟩ := execLoadData_of_next h hlen hs hsess hreq ho ht
  obtain ⟨hld, hsent, hmoves⟩ := s1.chunkHeld_effects r chunk
  have hld1 : s1.ld = s.ld := hm .ld (by decide)
  rw [hm.nvOpen, hq, hld1] at hld
  exact ⟨_, he, hld, hsent.trans hout, (hm.mono (by decide)).trans hmoves⟩

/-- The chunk is programmed. -/
def Loader.programmed (l : Loader) : Loader :=
  { l with next := l.next + l.chunk.length, bytes := l.bytes ++ l.chunk, chunk := [], begun := false, req := none, slot := none }

theorem execLoadDataProgrammed_effects (hr : s.ld.req = some r) (hs : s.ld.state = 2) (hb : s.ld.begun = true)
    (hx : s.session r.session = some x) (hsrc : r.source ≠ .spi ∨ s.ld.slot ≠ none) :
    ∃ t, execLoadDataProgrammed true s = .next t ∧ t.ld = s.ld.programmed ∧
      Answered t r 0x61 0 (leBytes 4 (s.ld.next + s.ld.chunk.length)) ∧ Moves [.ld] s t := by
  have hin : inSlot r s.ld.slot = r := by
    unfold inSlot
    rw [if_neg (by simpa [Classical.or_iff_not_imp_left] using hsrc)]
  have he : execLoadDataProgrammed true s = .next ((s.modLd Loader.programmed).answerWaiting r s.ld.slot 0x61 0x00
      (leBytes 4 (s.ld.next + s.ld.chunk.length))) := by
    unfold execLoadDataProgrammed
    rw [hr]
    dsimp only
    rw [if_neg (by simp [hs, hb]), if_pos rfl]
    rfl
  have hw : ((s.modLd Loader.programmed).pushSlot s.ld.slot).session r.session = some x :=
    (State.session_of_sessions rfl _).trans hx
  have ha : (s.modLd Loader.programmed).answerWaiting r s.ld.slot 0x61 0x00 (leBytes 4 (s.ld.next + s.ld.chunk.length)) =
      ((s.modLd Loader.programmed).pushSlot s.ld.slot).finish r false x 0x61 0x00 (leBytes 4 (s.ld.next + s.ld.chunk.length)) := by
    unfold State.answerWaiting
    dsimp only
    rw [hin, hw]
  have hm : Moves [] (s.modLd Loader.programmed) ((s.modLd Loader.programmed).answerWaiting r s.ld.slot 0x61 0x00
      (leBytes 4 (s.ld.next + s.ld.chunk.length))) := Moves.self.answerWaiting
  refine ⟨_, he, (hm .ld (by decide)).trans (State.modLd_ld _ _), ?_, (State.modLd_alters _ _).moves.trans (hm.mono (by decide))⟩
  rw [ha]
  exact State.finish_answered _ _ _ _ _ _ _

/-- The load is given up. -/
def Loader.aborted (l : Loader) : Loader :=
  { l with state := 5, skeinValid := false, loadSession := 0, chunk := [], req := none, slot := none }

theorem State.loadAbort_of_loading (h : s.ld.state = 2) : s.loadAbort = s.modLd Loader.aborted := by
  unfold State.loadAbort
  rw [if_pos (by rw [h]; rfl)]
  rfl

theorem execLoadDataProgrammed_effects_failed (hr : s.ld.req = some r) (hs : s.ld.state = 2) (hb : s.ld.begun = true) :
    ∃ t, execLoadDataProgrammed false s = .next t ∧
      t.ld = { s.ld with
        flashFails := s.ld.flashFails + 1, state := 5, skeinValid := false, loadSession := 0, chunk := [], req := none
        slot := none } ∧
      t.fm = s.eventFm 0x1405 0xFFFF ∧ Moves [.ld, .fm] s t := by
  generalize hw : (((s.pushSlot s.ld.slot).answerSlot (inSlot r s.ld.slot).source none).modLd fun l =>
    { l with flashFails := l.flashFails + 1 }) = w
  have hp : Moves [] s ((s.pushSlot s.ld.slot).answerSlot (inSlot r s.ld.slot).source none) := Moves.self.pushSlot.answerSlot
  have hwm : Moves [.ld] s w := hw ▸ (hp.mono (by decide)).modLd (by decide) _
  have hwld : w.ld = { s.ld with flashFails := s.ld.flashFails + 1 } := by
    have hld : ((s.pushSlot s.ld.slot).answerSlot (inSlot r s.ld.slot).source none).ld = s.ld := hp .ld (by decide)
    rw [← hw, State.modLd_ld, hld]
  have he : execLoadDataProgrammed false s = .next (w.raiseEvent 0x1405).loadAbort := by
    unfold execLoadDataProgrammed
    rw [hr]
    dsimp only
    rw [if_neg (by simp [hs, hb]), if_neg Bool.false_ne_true, hw]
  have hv : Moves [.fm] w (w.raiseEvent 0x1405) := Moves.self.raiseEvent (by decide) _ _
  have hvld : (w.raiseEvent 0x1405).ld = { s.ld with flashFails := s.ld.flashFails + 1 } := (hv .ld (by decide)).trans hwld
  rw [State.loadAbort_of_loading (by rw [hvld]; exact hs)] at he
  refine ⟨_, he, ?_, (State.modLd_fm _ _).trans ((State.raiseEvent_fm _ _ _).trans (hwm.eventFm (by decide) _ _)),
    ((hwm.mono (by decide)).trans (hv.mono (by decide))).modLd (by decide) _⟩
  rw [State.modLd_ld, hvld]
  rfl

/-! ### LOAD_END and the idle time-out (R539, R540) -/

theorem execLoadEnd_of_whole (h : Accepted s r 0x62 [] 0 engineer x) (hs : s.ld.state = 2) (hsess : s.ld.loadSession = r.session)
    (hn : s.ld.next = s.ld.total) (hreq : s.ld.req = none) :
    ∃ s1, execLoadEnd r s = .next (if sectionsGood s.ld.header s.ld.bytes = true then
        (s1.writeHeader.finish r false x 0x62 0x00 (skeinDigest s.ld.header s.ld.bytes)).resetTo 5 false
      else ((s1.loadRefuse 11).finish r false x 0x62 0x0A []).loadAbort) ∧ Moves [] s s1 := by
  obtain ⟨s1, he, hm⟩ := State.enter_accepted false h
  have hld : s1.ld = s.ld := hm .ld (by decide)
  have hnum := State.session_num h.session
  refine ⟨s1, ?_, hm⟩
  unfold execLoadEnd
  rw [he]
  dsimp only
  rw [if_neg (by simp [hld, hs, hsess, hnum, hn, hreq])]
  by_cases hg : sectionsGood s.ld.header s.ld.bytes = true
  · have hd : s1.writeHeader.id.skeinDigest = skeinDigest s.ld.header s.ld.bytes := by rw [← hld]; rfl
    rw [if_neg (by simp [hld, hg]), if_pos hg, hd]
  · rw [if_pos (by simp [hld, hg]), if_neg hg]

theorem State.clearRam_kept (s : State) (x : PowerState) : (s.clearRam x).ld.skeinValid = s.landBegun.ld.skeinValid ∧
    (s.clearRam x).ld.newSkein = s.landBegun.ld.newSkein ∧ (s.clearRam x).id = s.landBegun.id := ⟨rfl, rfl, rfl⟩

theorem State.writeCopy_skein (s : State) (id : Nat) (payload : List Int) (good : Bool) :
    (s.writeCopy id payload good).ld.skeinValid = s.ld.skeinValid ∧ (s.writeCopy id payload good).ld.newSkein = s.ld.newSkein :=
  ⟨rfl, rfl⟩

/-- What of a nonvolatile write has begun leaves the skein as it is. -/
theorem State.landBegun_skein (s : State) : s.landBegun.ld.skeinValid = s.ld.skeinValid ∧ s.landBegun.ld.newSkein = s.ld.newSkein := by
  unfold State.landBegun
  refine List.foldlRecOn _ (motive := fun u : State => u.ld.skeinValid = s.ld.skeinValid ∧ u.ld.newSkein = s.ld.newSkein) _
    ⟨rfl, rfl⟩ fun u hu h _ => ?_
  split
  · rw [show (u.logWrite h.log).ld = u.ld from u.logWrite_alters h.log .ld (by decide)]
    exact hu
  · exact hu

theorem State.resetTo_skein (s : State) (kind : Nat) (long : Bool) : (s.resetTo kind long).ld.skeinValid = s.ld.skeinValid ∧
    (s.resetTo kind long).ld.newSkein = s.ld.newSkein ∧ (s.resetTo kind long).id = s.id := by
  obtain ⟨hvalid, hnew, hid⟩ := s.clearRam_kept .castOn
  obtain ⟨hlvalid, hlnew⟩ := s.landBegun_skein
  have hlid : s.landBegun.id = s.id := s.landBegun_alters .id (by decide)
  have hm : Alters [.pm] (s.clearRam .castOn) (s.resetTo kind long) := by
    unfold State.resetTo
    extract_lets t waits target u
    have hu : Alters [.pm] t u := State.modPm_alters _ _
    exact .ite hu (hu.trans (u.beginStep1_alters.mono (by decide)))
  have hld : (s.resetTo kind long).ld = (s.clearRam .castOn).ld := hm .ld (by decide)
  refine ⟨?_, ?_, (hm .id (by decide)).trans (hid.trans hlid)⟩
  · rw [hld]
    exact hvalid.trans hlvalid
  · rw [hld]
    exact hnew.trans hlnew

theorem execLoadEnd_effects (h : Accepted s r 0x62 [] 0 engineer x) (hs : s.ld.state = 2) (hsess : s.ld.loadSession = r.session)
    (hn : s.ld.next = s.ld.total) (hreq : s.ld.req = none) :
    ∃ t, execLoadEnd r s = .next t ∧
      (sectionsGood s.ld.header s.ld.bytes = true → Cleared t ∧ t.pm.resetKind = 5 ∧
        t.pm.state = (if s.pm.onStore then .powerFail else .castOn) ∧
        t.ld.skeinValid = true ∧ t.ld.newSkein = true ∧ t.id.firmware = fieldAt s.ld.header 16 4 ∧
        Answered t r 0x62 0 (skeinDigest s.ld.header s.ld.bytes)) ∧
      (sectionsGood s.ld.header s.ld.bytes = false → Answered t r 0x62 0x0A [] ∧ t.ld.state = 5 ∧
        t.ld.refusal = 11 ∧ t.ld.skeinValid = false ∧ t.fm = s.eventFm 0x1407 11 ∧ Moves [.ld, .fm] s t) := by
  obtain ⟨s1, he, hm⟩ := execLoadEnd_of_whole h hs hsess hn hreq
  by_cases hg : sectionsGood s.ld.header s.ld.bytes = true
  · rw [if_pos hg] at he
    have hans := State.finish_answered s1.writeHeader r false x 0x62 0x00 (skeinDigest s.ld.header s.ld.bytes)
    have hf : Moves [] s1.writeHeader (s1.writeHeader.finish r false x 0x62 0x00 (skeinDigest s.ld.header s.ld.bytes)) :=
      Moves.self.finish
    have hwvalid : s1.writeHeader.ld.skeinValid = true ∧ s1.writeHeader.ld.newSkein = true := ⟨rfl, rfl⟩
    have hwid : s1.writeHeader.id.firmware = fieldAt s.ld.header 16 4 := by
      rw [← show s1.ld = s.ld from hm .ld (by decide)]
      rfl
    have hwpm : s1.writeHeader.pm = s.pm := hm .pm (by decide)
    have hld := hf .ld (by decide)
    have hid := hf .id (by decide)
    have hpm := (hf .pm (by decide)).trans hwpm
    generalize s1.writeHeader.finish r false x 0x62 0x00 (skeinDigest s.ld.header s.ld.bytes) = v at he hans hld hid hpm
    obtain ⟨hvalid, hnew, hrid⟩ := v.resetTo_skein 5 false
    obtain ⟨hkind, -, hstate, -⟩ := v.resetTo_pm 5 false
    refine ⟨_, he, fun _ => ⟨Cleared.resetTo _ _ _, hkind, by simpa [hpm] using hstate, ?_, ?_, ?_,
      hans.of_out (v.resetTo_out 5 false)⟩, fun hn => Bool.noConfusion (hg.symm.trans hn)⟩
    · rw [hvalid, hld]
      exact hwvalid.1
    · rw [hnew, hld]
      exact hwvalid.2
    · rw [hrid, hid]
      exact hwid
  · rw [if_neg hg] at he
    obtain ⟨hld, hfm, hr⟩ := State.loadRefuse_effects hm (.inr rfl)
    have hf : Moves [] (s1.loadRefuse 11) ((s1.loadRefuse 11).finish r false x 0x62 0x0A []) := Moves.self.finish
    have hvld := (hf .ld (by decide)).trans hld
    have hvfm := (hf .fm (by decide)).trans hfm
    have hvm := hr.then hf (by decide)
    have hans := State.finish_answered (s1.loadRefuse 11) r false x 0x62 0x0A []
    generalize (s1.loadRefuse 11).finish r false x 0x62 0x0A [] = v at he hvld hvfm hvm hans
    rw [State.loadAbort_of_loading (by rw [hvld]; exact hs)] at he
    refine ⟨_, he, fun hn => absurd hn hg, fun _ => ⟨hans.of_out (State.modLd_out _ _), rfl, ?_, rfl,
      (State.modLd_fm _ _).trans hvfm, hvm.modLd (by decide) _⟩⟩
    rw [State.modLd_ld, hvld]
    rfl

theorem execLoadIdleTimeout_of_loading (h : s.ld.state = 2) : execLoadIdleTimeout s = .next (s.modLd Loader.aborted) := by
  unfold execLoadIdleTimeout
  rw [if_pos (by rw [h]; rfl), State.loadAbort_of_loading h]

/-! ### What the statement hangs on -/

/-- Where no header passes its checks, the statement of the loader holds. -/
theorem loaderCommands_of_no_header (hno : ∀ (s : State) (header : Bytes) (total : Nat), s.headerReason header total ≠ 0) :
    Obligations.LoaderCommands := by
  unfold Obligations.LoaderCommands
  refine ⟨fun s r x total k header h hk hc hh hw => ?_, fun s r x total header h hc hs hg ht => execLoadBegin_effects_holder h hc hs hg ht,
    fun s r x offset chunk h hlen hs hsess hreq ho ht => execLoadData_effects h hlen hs hsess hreq ho ht,
    fun s r x hr hs hb hx hsrc => execLoadDataProgrammed_effects hr hs hb hx hsrc,
    fun s r hr hs hb => execLoadDataProgrammed_effects_failed hr hs hb,
    fun s r x h hs hsess hn hreq => execLoadEnd_effects h hs hsess hn hreq,
    fun s hs => ⟨_, execLoadIdleTimeout_of_loading hs, State.modLd_ld _ _, State.modLd_alters _ _⟩⟩
  have h0 : k ≠ 0 := hk ▸ hno s header total
  obtain ⟨t, he, hans, hld, hfm, hm⟩ := execLoadBegin_effects_refused h hk.symm h0
  refine ⟨t, he, ?_, fun _ => ⟨hld, hfm, hm⟩, fun hz => absurd hz h0⟩
  rw [if_neg h0]
  exact hans

theorem execLoadBegin_of_good (h : Accepted s r 0x60 (leBytes 4 total ++ header) 1092 engineer x)
    (hc : s.loadCondition r = 0) (hg : s.os.gate = false) (hk : s.headerReason header total = 0) :
    ∃ s1 : State, execLoadBegin r total header s = .next (((s1.modLd fun l => { l with header, total }).loaderStart x.num).finish
      r false x 0x60 0x00 (loadBody 0)) := by
  obtain ⟨s1, he, hm⟩ := State.enter_accepted false h
  have hos : s1.os = s.os := hm .os (by decide)
  refine ⟨s1, ?_⟩
  unfold execLoadBegin
  rw [he]
  dsimp only
  rw [hm.headerReason, hk, hm.loadCondition, hc, if_neg (by decide), if_neg]
  rw [State.modLd_os, hos, hg, Bool.and_false, Bool.false_and]
  exact Bool.false_ne_true

/-- A load that starts releases XTRIP_OUT, which the statement's frame of a start leaves out. -/
theorem State.loaderStart_xtripOut (s : State) (session : Nat) : (s.loaderStart session).si.xtripOut = false := by
  unfold State.loaderStart
  extract_lets t v
  rw [State.modLd_si, State.modTy_si, State.modOs_si]
  rfl

/-- A unit as delivered but for its labels, its fuses and its lowest security version, with an engineer's session and with
XTRIP_OUT asserted. -/
def State.assertingXtrip (s : State) : State :=
  { State.reset with
    id := s.id
    ld := { fuses := s.ld.fuses, antiRollback := s.ld.antiRollback }
    pm := { State.reset.pm with state := .ready, capUf := 2000, vholdMv := 30000 }
    tm := { State.reset.tm with nvClosed := false }
    si := { State.reset.si with xtripOut := true }
    sy := { State.reset.sy with sessions := [{ num := 1, role := 5 }] } }

/-- The engineer's LOAD_BEGIN. -/
def loadRequest (total : Nat) (header : Bytes) : Req :=
  { mac := macOf [] false (reqCovered {} 0x60 (leBytes 4 total ++ header)) }

theorem headerLayout_length (h : headerLayout header total = true) : header.length = 1088 := by
  unfold headerLayout at h
  simp only [Bool.and_eq_true, beq_iff_eq] at h
  exact h.1.1.1.1.1.1.1.1.1.1.1.1.1.1.1.1

theorem State.headerReason_layout (h : s.headerReason header total = 0) : headerLayout header total = true := by
  unfold State.headerReason at h
  cases hl : headerLayout header total with
  | true => rfl
  | false =>
    rw [hl, if_pos (by rfl)] at h
    exact absurd h (by decide)

theorem State.assertingXtrip_accepts (s : State) (hl : header.length = 1088) :
    Accepted s.assertingXtrip (loadRequest total header) 0x60 (leBytes 4 total ++ header) 1092 engineer { num := 1, role := 5 } := by
  have hlen : (leBytes 4 total ++ header).length = 1092 := by rw [List.length_append, length_leBytes, hl]
  exact ⟨rfl, rfl, rfl, rfl, rfl, rfl, rfl, rfl, Nat.zero_lt_one, .inl rfl, hlen.ge, rfl, rfl⟩

theorem State.assertingXtrip_condition (s : State) : s.assertingXtrip.loadCondition (loadRequest total header) = 0 := by
  have hstore : holdUpPasses 2000 30000 = true := by decide
  have hnv : s.assertingXtrip.nvOpen = (holdUpPasses 2000 30000 && true) := rfl
  have hcoils : (s.assertingXtrip.anyCoil || !s.assertingXtrip.provenOpen) = false := rfl
  unfold State.loadCondition
  rw [hcoils, hnv, hstore]
  rfl

/-- Where a header passes its checks, the statement of the loader fails. -/
theorem not_loaderCommands_of_header (hk : s.headerReason header total = 0) : ¬ Obligations.LoaderCommands := by
  unfold Obligations.LoaderCommands
  rintro ⟨h, -⟩
  have hacc := s.assertingXtrip_accepts (total := total) (headerLayout_length (State.headerReason_layout hk))
  have hreason : s.assertingXtrip.headerReason header total = 0 := (State.headerReason_of_ld rfl rfl rfl _ _).trans hk
  have hcond := s.assertingXtrip_condition (total := total) (header := header)
  obtain ⟨s1, he⟩ := execLoadBegin_of_good hacc hcond rfl hreason
  obtain ⟨t, e, -, -, hstart⟩ := h _ _ _ _ 0 _ hacc hreason.symm hcond (fun hn => Bool.noConfusion hn.2.1) rfl
  obtain ⟨-, -, -, -, -, -, hm⟩ := hstart rfl
  have hsi : t.si = s.assertingXtrip.si := hm .si (by decide)
  have ht : t = _ := (Host.Outcome.next.inj (he.symm.trans e)).symm
  have hf : t.si = ((s1.modLd fun l => { l with header, total }).loaderStart 1).si := by
    rw [ht]
    exact (Moves.self.finish : Moves [] _ _) .si (by decide)
  have hx : t.si.xtripOut = false := by
    rw [hf]
    exact State.loaderStart_xtripOut _ _
  rw [hsi] at hx
  exact Bool.noConfusion hx

/-- The statement of the loader (O43) stands or falls with the headers that pass the checks of R530, so with the digests of
the ROM keys and the signature's verification, of which the model says nothing. -/
theorem loaderCommands_iff : Obligations.LoaderCommands ↔
    ∀ (s : State) (header : Bytes) (total : Nat), s.headerReason header total ≠ 0 :=
  ⟨fun h _ _ _ hk => not_loaderCommands_of_header hk h, loaderCommands_of_no_header⟩

end

end Sys2Proof.Machine
end
